-- ==== Sys2Proof/Machine/Tab.lean ====
section
/-! DEFINITION. Sparse tables: the one canonical form in which the model keeps every memory, register
file and table of the device. Keys rise strictly and no entry equals what an unlisted key reads as,
so equal tables are equal data. -/

namespace Sys2Proof.Machine

/-- A sparse table from numbers to `α`. `d k` is what an unlisted key `k` reads as. -/
abbrev Tab (α : Type) := List (Nat × α)

/-- The entry of key `k`. -/
def Tab.getD {α : Type} (d : Nat → α) : Tab α → Nat → α
  | [], k => d k
  | (j, v) :: t, k => if j = k then v else Tab.getD d t k

/-- `t` with key `k` unlisted. -/
def Tab.erase {α : Type} (t : Tab α) (k : Nat) : Tab α := t.filter fun e => !(e.1 == k)

/-- `t` with the entry `(k, v)` put at its place among the rising keys. -/
def Tab.insert {α : Type} : Tab α → Nat → α → Tab α
  | [], k, v => [(k, v)]
  | (j, w) :: t, k, v =>
    if k < j then (k, v) :: (j, w) :: t
    else if k = j then (k, v) :: t
    else (j, w) :: Tab.insert t k v

/-- `t` with key `k` reading `v`; writing what an unlisted key reads as removes the entry. -/
def Tab.setD {α : Type} [DecidableEq α] (d : Nat → α) (t : Tab α) (k : Nat) (v : α) : Tab α :=
  if v = d k then Tab.erase t k else Tab.insert t k v

/-- The keys rise strictly from above `b`. -/
def Tab.risesFrom {α : Type} : Nat → Tab α → Bool
  | _, [] => true
  | b, (j, _) :: t => decide (b ≤ j) && Tab.risesFrom (j + 1) t

/-- The canonical form: rising keys, no entry that equals what an unlisted key reads as. -/
def Tab.wfD {α : Type} [DecidableEq α] (d : Nat → α) (t : Tab α) : Bool :=
  Tab.risesFrom 0 t && t.all fun e => !decide (e.2 = d e.1)

/-- Reading a table whose unlisted keys read as the type's default. -/
def Tab.get {α : Type} [Inhabited α] (t : Tab α) (k : Nat) : α := Tab.getD (fun _ => default) t k

/-- Writing a table whose unlisted keys read as the type's default. -/
def Tab.set {α : Type} [Inhabited α] [DecidableEq α] (t : Tab α) (k : Nat) (v : α) : Tab α :=
  Tab.setD (fun _ => default) t k v

/-- The canonical form of a table whose unlisted keys read as the type's default. -/
def Tab.wf {α : Type} [Inhabited α] [DecidableEq α] (t : Tab α) : Bool := Tab.wfD (fun _ => default) t

/-- One entry changed by `f`. -/
def Tab.upd {α : Type} [Inhabited α] [DecidableEq α] (t : Tab α) (k : Nat) (f : α → α) : Tab α :=
  t.set k (f (t.get k))

/-- Every listed entry changed by `f`, in the canonical form again. -/
def Tab.mapAll {α : Type} [Inhabited α] [DecidableEq α] (t : Tab α) (f : Nat → α → α) : Tab α :=
  t.foldr (fun e acc => acc.set e.1 (f e.1 e.2)) []

/-- The keys that are listed. -/
def Tab.keys {α : Type} (t : Tab α) : List Nat := t.map Prod.fst

/-- The listed keys whose entry meets `p`. -/
def Tab.keysWhere {α : Type} (t : Tab α) (p : Nat → α → Bool) : List Nat :=
  (t.filter fun e => p e.1 e.2).map Prod.fst

/-- The first number below `n`, counted from `a` and wrapping, that meets `p`. Table entries that the
manual leaves the device to choose are taken this way, from a free starting point. -/
def firstFrom (n a : Nat) (p : Nat → Bool) : Option Nat :=
  ((List.range n).map fun i => (a + i) % n).find? p

/-- `x` put into a list that rises by `f`, before equals. -/
def insertBy {α : Type} (f : α → Nat) (x : α) : List α → List α
  | [] => [x]
  | y :: l => if f x ≤ f y then x :: y :: l else y :: insertBy f x l

/-- A list in the order of `f`, equals in the order they stood. -/
def sortBy {α : Type} (f : α → Nat) (l : List α) : List α := l.foldr (insertBy f) []

end Sys2Proof.Machine
end

