-- ==== Sys2Proof/Word.lean ====
section
/-! DEFINITION. The word types of the block and their plainest arithmetic.
The manual's registers are 32 bits wide (00_scope.md, Conventions); a stored block is 4 KiB and its
metadata 64 bytes (06_arrays.md); everything the manual counts is a `Nat`. -/

namespace Sys2Proof

/-- One byte of an addressed memory. -/
abbrev Byte := BitVec 8
/-- One register: "Every register is 32 bits and naturally aligned" (00_scope.md, Conventions). -/
abbrev Word32 := BitVec 32
/-- A LO/HI pair (R19). -/
abbrev Word64 := BitVec 64
/-- One 4,096-byte block. -/
abbrev Block := BitVec 32768
/-- The 64 bytes of metadata of one block. -/
abbrev Meta := BitVec 512

/-- What parity folds of one block: its 4,096 bytes and its 64 bytes of metadata (R131). -/
abbrev Unit4k := BitVec 33280

/-- Bits [lo + w - 1 : lo] of a number. -/
def bitsOf (v lo w : Nat) : Nat := v / 2 ^ lo % 2 ^ w

/-- `v` with bits [lo + w - 1 : lo] replaced by the low `w` bits of `x`. -/
def setBits (v lo w x : Nat) : Nat :=
  v / 2 ^ (lo + w) * 2 ^ (lo + w) + x % 2 ^ w * 2 ^ lo + v % 2 ^ lo

/-- `a` rounded up to whole multiples of `b`. -/
def ceilDiv (a b : Nat) : Nat := (a + b - 1) / b

/-- `v` held inside `lo` to `hi`. -/
def clampNat (lo hi v : Nat) : Nat := if v < lo then lo else if hi < v then hi else v

end Sys2Proof
end

