-- ==== Sys2Proof/Params.lean ====
section
/-! DEFINITION. The operand types of the commands: what a manifest names, who makes a register access, and
the like. The spec's opcode table gives no operands; these are the parameters its rules name. -/

namespace Sys2Proof

/-- Channels of Table 16-1 (R353), and that of a manifest relayed by the partner (R331). -/
inductive Channel | mailbox | mgmtPort | inband | relay
  deriving DecidableEq, Repr, Inhabited

/-- What the header of a checked manifest says, and where it came from (R354, R356, R359). `src` stands for
source address and UDP port, 0 on the mailbox; `port` is the logical port of an in-band datagram; `keyId` is
the KEY_ID of a session-0 manifest that carries a trailer. -/
structure Hdr where
  chan : Channel
  session : Nat
  seq : Nat
  src : Nat
  port : Nat
  keyId : Option Nat
  deriving DecidableEq, Repr, Inhabited

/-- Who makes a register access (R421): the endpoint's BAR0, BAR4 and BAR5, or a lockkeeper core. -/
inductive Requester | bar0 | bar4 | bar5 | core (c : Fin 2)
  deriving DecidableEq, Repr, Inhabited

/-- Actions of BAY_POWER (Table 13-6). -/
inductive BayAction | enable | disable | cycle
  deriving DecidableEq, Repr, Inhabited

/-- Protection modes of Table 6-1. -/
inductive Mode | m2 | m3 | p | pq | pqr
  deriving DecidableEq, Repr, Inhabited

/-- One logical block as it crosses the host interface: its data (the low 4,096 bits for a 512-byte sector)
and its protection information (R56, R58). -/
structure Sector where
  data : Block
  guard : BitVec 16
  app : BitVec 16
  ref : BitVec 32
  deriving DecidableEq, Repr, Inhabited

/-- What a reservation command carries (NVMe Reservation Register, Acquire and Release). -/
structure Resv where
  action : Nat
  rtype : Nat
  crkey : Nat
  nrkey : Nat
  iekey : Bool
  cptpl : Nat
  deriving DecidableEq, Repr, Inhabited

/-- The frame that carried a capsule, as the sluice sees it (R237 to R239): logical port, bytes from the
destination MAC address through the FCS, whether it was tagged, its PCP and DSCP. -/
structure FrameInfo where
  port : Nat
  len : Nat
  tagged : Bool
  pcp : Nat
  dscp : Nat
  deriving DecidableEq, Repr, Inhabited

/-- A source address with its VLAN (R38). -/
structure Addr where
  v6 : Bool
  addr : Nat
  vlan : Option Nat
  deriving DecidableEq, Repr, Inhabited

/-- Bytes 32 to 47 of the private data of a CM REQ (Table 3-4). -/
structure ExtOffer where
  magic : Nat
  ver : Nat
  offer : Nat
  maxPaths : Nat
  winLog2 : Nat
  reorder : Nat
  deriving DecidableEq, Repr, Inhabited

/-- An RDMA CM REQ: the port it came in on, its source, the host's QPN and first PSN, the path MTU of its path
record (2, 3 or 4 as in Table 3-2), and the extension's bytes of its private data. -/
structure CmReq where
  port : Nat
  src : Addr
  dqpn : Nat
  psn : Nat
  pmtu : Nat
  ext : ExtOffer
  deriving DecidableEq, Repr, Inhabited

/-- Packets of a reliable connection that a requester sends (Table 3-3); `other` is any opcode outside it. -/
inductive PktOp | send | write | read | fetchAdd | compareSwap | other
  deriving DecidableEq, Repr, Inhabited

/-- What a dock commit names: its window, its immediate, and its place among the commits accepted on the window
(R87). -/
structure CommitRef where
  win : Nat
  imm : Nat
  acc : Nat
  deriving DecidableEq, Repr, Inhabited

/-- An I/O command: its queue (QPN, or TCP connection with bit 31 set, as QREF of Table 4-4), its
identifier, opcode and fields, and the data the host gives with it. `nlb` is a count. `badField` says
that a field or option stands outside Table 2-2. `inval` is the key of its keyed SGL descriptor where that carries the
Invalidate Key sub-type (Table 3-3). -/
structure IoCmd where
  qref : Nat
  cid : Nat
  opcode : Nat
  nsid : Nat
  slba : Nat
  nlb : Nat
  fuse : Nat
  pract : Bool
  prchk : Nat
  appTag : Nat
  appMask : Nat
  refTag : Nat
  deac : Bool
  badField : Bool
  inval : Option Nat
  data : List Sector
  ranges : List (Nat × Nat)
  resv : Resv
  frame : FrameInfo
  /-- The dock commit it stands for (R87). -/
  commit : Option CommitRef
  deriving DecidableEq, Repr, Inhabited

/-- An admin command as it stands on the admin queue: identifier, opcode, NSID and the dwords 10 to 15
that its opcode reads. -/
structure AdminCmd where
  qref : Nat
  cid : Nat
  opcode : Nat
  nsid : Nat
  cdw10 : Nat
  cdw11 : Nat
  cdw12 : Nat
  deriving DecidableEq, Repr, Inhabited

/-- A capsule that a SEND message carries: an I/O command or an admin command. Fabrics commands have rows of
their own. -/
inductive Capsule
  | io (c : IoCmd)
  | admin (c : AdminCmd)
  | fabrics
  deriving DecidableEq, Repr, Inhabited

/-- A packet of a reliable connection as it comes in: QPN, PSN, operation, whether it is the first and the last of
its message, CE mark, FINAL, path, MSN and index (the extension header, Table 3-5), address, key and whole
length (RETH), immediate, atomic operands, payload, and the capsule where the packet is the first of a SEND
that carries one. -/
structure Packet where
  qpn : Nat
  psn : Nat
  op : PktOp
  first : Bool
  last : Bool
  ce : Bool
  final : Bool
  path : Nat
  msn : Nat
  idx : Nat
  va : Nat
  rkey : Nat
  len : Nat
  imm : Option Nat
  operand : Nat
  compare : Nat
  payload : List Byte
  capsule : Option Capsule
  frame : FrameInfo
  deriving DecidableEq, Repr, Inhabited

/-- One packet of the responses to a READ of the device's (R73, R79): its index, payload, CE mark and path. -/
structure ReadPkt where
  idx : Nat
  payload : List Byte
  ce : Bool
  path : Nat
  deriving DecidableEq, Repr, Inhabited

/-- Options of a SYN (Table 3-14): MSS, window scale. -/
structure TcpOpts where
  mss : Nat
  scale : Option Nat
  deriving DecidableEq, Repr, Inhabited

/-- A TCP segment of a connection, or a SYN with its options: port, source, flags, sequence number, payload bytes,
acknowledgement, window field, SACK blocks by first and end position, ECE, CWR, the CE mark of its packet, and for each
PDU that ends in it whether its header digest holds and the capsule it carries. -/
structure TcpSeg where
  conn : Nat
  port : Nat
  dport : Nat
  src : Addr
  syn : Bool
  fin : Bool
  rst : Bool
  seq : Nat
  len : Nat
  ack : Nat
  wnd : Nat
  sack : List (Nat × Nat)
  ece : Bool
  cwr : Bool
  ce : Bool
  opts : TcpOpts
  pdus : List (Bool × Option Capsule)
  deriving DecidableEq, Repr, Inhabited

/-- An address prefix with an optional VLAN ID (host table, R38; manifest source list, R354). -/
structure Prefix where
  v6 : Bool
  addr : Nat
  len : Nat
  vlan : Option Nat
  deriving DecidableEq, Repr, Inhabited

/-- An address entry's parameters (ADDR_SET, R256): address, prefix length, VLAN, gateway, logical ports. -/
structure AddrParams where
  v6 : Bool
  addr : Nat
  len : Nat
  vlan : Option Nat
  gateway : Option Nat
  ports : List Nat
  deriving DecidableEq, Repr, Inhabited

/-- An ACL rule (Table 11-3): ACTION, KIND, PREFIX, ETYPE and its mask, VLAN, ADDR left-aligned in 128 bits. -/
structure AclRule where
  action : Nat
  kind : Nat
  len : Nat
  etype : Nat
  mask : Nat
  vlan : Nat
  addr : Nat
  deriving DecidableEq, Repr, Inhabited

/-- What a received frame carries past its tag (R255): PFC times by priority where enabled, pause time, the first
four payload words of EtherType 0x88B5, ARP, a neighbour solicitation or advertisement, an IP packet, or something else. -/
inductive FrameBody
  | pfc (times : List (Nat × Nat))
  | pause (time : Nat)
  | wake (words : List Nat)
  | arp (request : Bool) (sender target : Nat)
  | solicit (src target : Nat)
  | advert (sender : Nat)
  /-- IPv6 or IPv4, source, destination, DSCP; `bad`: checksum, options, extension headers or fragment; ICRC and
  TCP checksum hold; kind (Table 10-1: 0 transport control, 1 storage data or an admin capsule, 2 non-storage, 3 a packet
  that carries an I/O capsule or a dock commit); bytes of the I/O capsules in a TCP segment; an echo request; the
  TCP connection and the MTU that a Fragmentation Needed or Packet Too Big names; the queue pair (QPN less 0x01_0000) or
  connection (with bit 31 set) that a transport packet belongs to. -/
  | ip (v6 : Bool) (src dst dscp : Nat) (bad icrcOk tcpOk : Bool) (kind caps : Nat) (echo : Bool)
      (mtu : Option (Nat × Nat)) (flow : Option Nat)
  | other
  deriving DecidableEq, Repr, Inhabited

/-- A frame as it is received: bytes from the destination MAC address through the FCS, an errored or odd-sized
frame, codewords met with it that FEC could not and could correct, with the symbols corrected, addresses, tags (PCP,
VID), EtherType. -/
structure RxFrame where
  len : Nat
  errored : Bool
  uncorrected : Nat
  corrected : Nat
  symbols : Nat
  smac : Nat
  dmac : Nat
  tags : List (Nat × Nat)
  etype : Nat
  body : FrameBody
  deriving DecidableEq, Repr, Inhabited

/-- In-band authentication policies of a host (R40). -/
inductive AuthPolicy | none | optional | required
  deriving DecidableEq, Repr, Inhabited

/-- The parameters of HOST_SET (Table 16-5). NQNs are kept as the number their bytes spell. -/
structure HostParams where
  nqn : Nat
  addrs : List Prefix
  reach : List Nat
  policy : AuthPolicy
  defPs : Nat
  maxAssoc : Nat
  meter : Option Nat
  meterPerClass : Bool
  stairs : Nat
  sprayPorts : List Nat
  deriving DecidableEq, Repr, Inhabited

/-- What every frame from the partner shows before its own fields (R316): the path, whether its CRC holds, PAIR_ID
and DEVICE. -/
structure PeerHdr where
  aqd : Bool
  crcOk : Bool
  pairId : Nat
  device : Nat
  deriving DecidableEq, Repr, Inhabited

/-- The fields of a HEARTBEAT (Table 14-3). -/
structure Beat where
  role : Nat
  flags : Nat
  hseq : Nat
  epoch : Nat
  rseq : Nat
  ckptSeq : Nat
  health : Nat
  deriving DecidableEq, Repr, Inhabited

/-- A lease record as read from a witness (Table 14-5): STATE, HOLDER, EPOCH, RSEQ, REQ_SEQ. -/
structure LeaseRead where
  state : Fin 3
  holder : Nat
  epoch : Nat
  rseq : Nat
  reqSeq : Nat
  deriving DecidableEq, Repr, Inhabited

/-- A message of DH-HMAC-CHAP that a host sends (R40; NVMe over Fabrics): the hash functions (1 SHA-256, 2 SHA-384,
3 SHA-512) and DH groups (0 null, 1 to 5 ffdhe2048 to ffdhe8192) it offers; its response to the device's challenge,
with its own challenge where it authenticates the device too; the end of that, good or not. -/
inductive AuthMsg
  | negotiate (hashes groups : List Nat)
  | reply (response : Nat) (challenge : Option Nat)
  | success2
  | failure2
  deriving DecidableEq, Repr, Inhabited

/-- A 4 KiB block on a drive with its metadata. `bad`: the drive answers a read of it with an unrecovered read
error. -/
structure MediaBlk where
  data : Block
  md : Meta
  bad : Bool
  deriving DecidableEq, Repr, Inhabited

/-- An array label (Table 6-17): stripe unit as ARY_CFG.UNIT, the role index of the drive that carries it, the bay of
every role (0x3F none). -/
structure Label where
  array : Nat
  mode : Mode
  n : Nat
  k : Nat
  d : Bool
  unit : Nat
  member : Nat
  pool : Option Nat
  gen : Nat
  stripes : Nat
  bays : List Nat
  deriving DecidableEq, Repr, Inhabited

/-- A ledger header (Table 7-16): pairs as ROLE_A, ROLE_B and SAME_GROUP, the ring tail as a block of the ring, LOW of
each pair. -/
structure LdgHeader where
  array : Nat
  role : Nat
  pairs : List (Nat × Nat × Bool)
  hseq : Nat
  gen : Nat
  tail : Nat
  rnLimit : Nat
  low : List Nat
  deriving DecidableEq, Repr, Inhabited

/-- A record of a segment (Table 7-3), with its data block for DATA and RECON. -/
structure LedgerRec where
  kind : Nat
  role : Nat
  host : Nat
  nsid : Nat
  rn : Nat
  stripe : Nat
  blk : Nat
  data : Block
  md : Meta
  deriving DecidableEq, Repr, Inhabited

/-- One copy of a segment as it stands on a ring (Table 7-2). `lost`: the places of the records whose data block on this
copy is unreadable or does not match its DCRC. A segment whose header block is unreadable or not valid is none. -/
structure RingSeg where
  array : Nat
  pair : Nat
  infl : Nat
  gen : Nat
  sseq : Nat
  time : Nat
  recs : List LedgerRec
  lost : List Nat
  deriving DecidableEq, Repr, Inhabited

/-- A deferred entry (Table 2-5) against a set of hosts (R51); `claimed` are the hosts whose mark for the namespace has
been claimed. -/
structure Deferred where
  hosts : List Nat
  nsid : Nat
  slba : Nat
  nlb : Nat
  time : Nat
  array : Nat
  cause : Nat
  claimed : List Nat
  deriving DecidableEq, Repr, Inhabited

/-- What the deferred-error log of an array holds (R53, R176): its entries, the marks that stand (host, namespace), the
array data blocks whose reads fail, with their namespace (R55), and GENERATION and LOST of its hosts. -/
structure DeferLog where
  entries : List Deferred
  marks : List (Nat × Nat)
  blks : List (Nat × Nat)
  counts : List (Nat × Nat × Nat)
  deriving DecidableEq, Repr, Inhabited

/-- The deferred marks and entries of a member (Table 7-1), and the sequence number under which they were written
(R176). -/
structure DeferArea where
  seq : Nat
  log : DeferLog
  deriving DecidableEq, Repr, Inhabited

/-- States of a lease record (Table 14-5). -/
inductive LeaseState | free | held | released
  deriving DecidableEq, Repr, Inhabited

/-- A lease record (Table 14-5). -/
structure Lease where
  state : LeaseState
  pairId : Nat
  holder : Nat
  epoch : Nat
  rseq : Nat
  reqSeq : Nat
  deriving DecidableEq, Repr, Inhabited

/-- What stands on a drive (Table 6-2, Table 7-1): the two copies of the label, the lease record of a witness, the two
slots of the ledger header, each none where MAGIC, VER or CRC is not valid; the deferred area; the segments by the ring
block at which they begin; the blocks of the data region. Lists rise by their numbers. -/
structure Medium where
  labelA : Option Label
  labelB : Option Label
  lease : Option Lease
  hdr0 : Option LdgHeader
  hdr1 : Option LdgHeader
  defer : DeferArea
  ring : List (Nat × RingSeg)
  blocks : List (Nat × MediaBlk)
  deriving DecidableEq, Repr, Inhabited

/-- How a drive answered an operation (R279): success, an unrecovered read error, an error the drive says
may be retried, one it says must not be, or the status of a Completer Abort that the drive group returned. -/
inductive DriveResult | ok | unreadable | error | errorDnr | aborted
  deriving DecidableEq, Repr, Inhabited

/-- A drive as its Identify data and its registers show it (R148, R276, R277): serial number, capacity in
4 KiB blocks, formatted with 4,096-byte blocks and with 64 bytes of metadata, Write Zeroes with deallocation, I/O
queue pairs granted, CAP.MQES, MDTS in KiB, a volatile write cache and whether Feature 06h turns it off, fused Compare
and Write, its non-operational power states with ENLAT + EXLAT of each in µs. -/
structure DriveId where
  serial : Nat
  capacity : Nat
  lba4k : Bool
  meta64 : Bool
  wzDealloc : Bool
  ioqGrant : Nat
  mqes : Nat
  mdtsKib : Nat
  volatileCache : Bool
  cacheOff : Bool
  fusedCw : Bool
  idleStates : List (Nat × Nat)
  deriving DecidableEq, Repr, Inhabited

/-- What a drive's completion entry ends: operation `i` of a berth's plan, or the recreation of the queues that rung 2
deleted. -/
inductive DriveEntry
  | op (berth : Fin 262144) (i : Nat) (r : DriveResult)
  | recreated
  deriving DecidableEq, Repr

/-- Where a cell goes: attachment, sub-key (lane × 8 + priority at a quad, bay at a drive group, else 0; R120), and
landing tag. -/
structure CellDst where
  dest : Nat
  sub : Nat
  tag : Nat
  deriving DecidableEq, Repr, Inhabited

/-- What a cell's TAG stands for at the block that sent it, where FLOW_V is 0 (R142, R456): a copy of a ledger segment,
a stripe being destaged, a rebuild or scrub, a staircase of a tug group, a transport's packet, or another transfer. -/
inductive CellOwner
  | segment (a p sseq : Nat) (copyA : Bool)
  | destage (a stripe : Nat)
  | rebuild (a : Nat)
  | staircase (group index : Nat)
  | transport
  | other
  deriving DecidableEq, Repr, Inhabited

/-- A cell (Table 5-2) but for its entry stamp. `flow` is FLOW where FLOW_V is 1, `repl` REPL where REPL_V is 1, and
`pctx` PCTX, MIDX and UOFF where PCTX_V is 1. -/
structure Cell where
  src : Nat
  cls : Nat
  dst : CellDst
  flow : Option Nat
  seq : Nat
  last : Bool
  repl : Option Nat
  pctx : Option (Nat × Nat × Nat)
  mslice : BitVec 32
  payload : BitVec 2048
  owner : CellOwner
  deriving DecidableEq, Repr, Inhabited

/-- What a parity context is for (Table 5-5): a full-stripe write of `k` data members; a read-modify-write of data
member `i`; or the recovery of missing units from surviving ones, each named by its place in the stripe: data units
from 0, then P, Q and R from `k`. -/
inductive CtxUse
  | fullStripe (k : Nat)
  | modify (i : Nat)
  | recover (k : Nat) (survivors missing : List Nat)
  deriving DecidableEq, Repr, Inhabited

/-- A parity context as its engine opens it (R130): its use, the stripe unit in cells, where each output goes, the berth
that owns it or the transfer. -/
structure CtxOpen where
  use : CtxUse
  units : Nat
  dsts : List CellDst
  flow : Option Nat
  owner : CellOwner
  deriving DecidableEq, Repr, Inhabited

/-- A source with cells that wait for a credit of a destination queue (R123, Table 5-4): its attachment; what of it
waits (the bay of a drive group, the berth of a basin, the queue of a tug group, else 0); further copies of a replicated
cell; and the context and offset that the cell folds into, with the context as its engine opens it where it does not
stand yet. -/
structure CellDemand where
  src : Nat
  unit : Nat
  others : List CellDst
  fold : Option (Nat × Nat)
  par : Option CtxOpen
  deriving DecidableEq, Repr, Inhabited

/-- A cell of a 4 KiB block of a transfer (R119): the block, its drive metadata where its drives carry any, and which of
the block's 16 cells it is. -/
structure CellLoad where
  data : Block
  md : Option Meta
  cell : Fin 16
  deriving DecidableEq, Repr

/-- An access that goes through the wharf (R197, R198): class, reservoir address, bytes to write at it or none to read
the line, and the berth of the engine that makes it. -/
structure WharfReq where
  cls : Nat
  addr : Nat
  write : Option (List Byte)
  berth : Option Nat
  deriving DecidableEq, Repr, Inhabited

/-- The PLLs of R422. -/
inductive Pll | quad (q : Fin 32) | aqueduct (i : Fin 2) | management | driveGroup (g : Fin 16) | endpoint | core
  deriving DecidableEq, Repr

/-- Fields of a manifest that writes registers: each is absent or a value (Table 13-6, Table 16-5). -/
abbrev OptVal := Option Nat

end Sys2Proof
end

