-- ==== Sys2Proof/Machine/Types/Cipher.lean ====
section
/-! DEFINITION. State of the cipher engine (09_cipher.md). -/

namespace Sys2Proof.Machine

/-- A key bank: 512 bits of key and the nonce base committed with it (R219). -/
structure KeyBank where
  key : BitVec 512
  base : BitVec 32
  deriving DecidableEq, Repr, Inhabited

/-- A key slot's moored side: mode (0 EMPTY, 1 XTS, 2 GCM), the two banks, the active one (R219, R222). -/
structure KeySlot where
  mode : Nat
  bank0 : KeyBank
  bank1 : KeyBank
  active : Bool
  deriving DecidableEq, Repr, Inhabited

/-- A key slot's live side: the retired bank still bound, flags of CIP_SLOT_STAT, and the write serial
counter with its source, once it has been loaded or advanced (R220, R229, R230). -/
structure SlotRun where
  retired : Bool
  weak : Bool
  busyReject : Bool
  serial : Option (Nat × Nat)
  /-- The slot is being zeroised and its receipt waits (R221). -/
  zeroising : Bool
  deriving DecidableEq, Repr, Inhabited

/-- A sealed block in a lane: which berth and block it belongs to, how many of its cells the lane holds, and whether it is
being read, so that it lies in the tag-hold buffer (R227), or written, its last four cells waiting for their tag (R226). -/
structure HeldBlock where
  berth : Nat
  blk : Nat
  cells : Nat
  reading : Bool
  deriving DecidableEq, Repr, Inhabited

/-- One cipher lane (R215, R227, R233). -/
structure Lane where
  /-- Slots and banks whose expanded keys are cached, newest first, at most 64. -/
  cache : List (Nat × Bool)
  /-- Those whose expanded key is being loaded. -/
  loading : List (Nat × Bool)
  hold : List HeldBlock
  deriving DecidableEq, Repr, Inhabited

/-- The cipher engine. -/
structure Cipher where
  slot : Tab SlotRun
  lane : Tab Lane
  /-- Staging buffer of CIP_KEY_DATA and CIP_NONCE_BASE (R219). -/
  stageKey : BitVec 512
  stageBase : BitVec 32
  /-- Samples gathered and consecutive failed reseed attempts (R233, R234). -/
  samples : Nat
  badReseeds : Nat
  /-- 1,024 samples have passed since power-on and the lanes run (R233). -/
  started : Bool
  /-- Which draw of the entropy source loaded the serial counters at power-on or takeover start, and whether
  the source was degraded then (R230). -/
  serialDraw : Nat
  serialZero : Bool
  deriving DecidableEq, Repr, Inhabited

end Sys2Proof.Machine
end

