-- ==== Sys2Proof/Machine/Types/Ns.lean ====
section
/-! DEFINITION. A namespace and its reservation state (02_host_face.md, 16_manifests.md). -/

namespace Sys2Proof.Machine

/-- Cipher mode of a namespace. -/
inductive CipherMode | none | xts | sealed
  deriving DecidableEq, Repr, Inhabited

/-- Reservation state of a namespace, moored (Table 2-2). Hosts are host table indices. -/
structure ResvState where
  regs : List (Nat × Nat)
  holder : Option Nat
  rtype : Nat
  gen : Nat
  ptpl : Bool
  deriving DecidableEq, Repr, Inhabited

/-- One namespace (NS_CREATE, Table 16-5; R152). `ext` is its extent map; `size` counts logical blocks of
its current format. -/
structure Namespace where
  present : Bool
  subsys : Nat
  array : Nat
  size : Nat
  lbafs : List Nat
  lbaf : Nat
  piTypes : List Nat
  pi : Nat
  cipher : CipherMode
  keySlot : Nat
  ledgered : Bool
  hosts : List Nat
  ext : List Nat
  writeProtect : Bool
  resv : ResvState
  deriving DecidableEq, Repr, Inhabited

end Sys2Proof.Machine
end

