-- ==== Sys2Proof/Machine/Types/Engine.lean ====
section
/-! DEFINITION. State of barge engines, tow lines, berths and the scratchpad banks
(04_barge_engines.md). -/

namespace Sys2Proof.Machine

/-- States of an engine (BRG_STATUS.STATE, Table 4-10). -/
inductive EngState | run | parked | fenced | off | resetting
  deriving DecidableEq, Repr, Inhabited

/-- States of a berth (Table 4-3). -/
inductive BerthState | free | queued | run | wait | held | done
  deriving DecidableEq, Repr, Inhabited

/-- Completion status: SCT, SC and DNR of Table 2-4, and the dword 0 of the completion. -/
structure Status where
  sct : Nat
  sc : Nat
  dnr : Bool
  dw0 : Nat
  deriving DecidableEq, Repr, Inhabited

/-- What a berth in WAIT waits for (Table 4-3): the host's data, its drive operations and ledger
copies, the other half of its fused pair, an earlier commit of its window, room in a ring or in the gather buffer, a credit of the canal (Table 5-4), a line
of the wharf (R201);
and what one in HELD waits for: interlocks of 4 KiB blocks, or of stripes. -/
inductive WaitFor | nothing | data | ops | mate | commit | room | credit | line | blocks | stripes
  deriving DecidableEq, Repr, Inhabited

/-- One drive operation of a plan (R111, R278): bay, member block, write or read, finished, issued to the drive and
not removed from it, replaced by others under R281, how often it was issued again, and an answer of the drive held
while no engine owns the berth (R457). -/
structure PlanOp where
  bay : Nat
  blk : Nat
  write : Bool
  finished : Bool
  onDrive : Bool
  replanned : Bool
  reissues : Nat
  heldBack : Option DriveResult
  deriving DecidableEq, Repr, Inhabited

/-- A berth (Table 4-4): its identity and flags, the command it carries, and the plan its checkpoint
names. CHECKPOINT counts as Table 4-5 does: 1 ADMITTED to 8 COMPLETE, the last step recorded. -/
structure Berth where
  state : BerthState
  admin : Bool
  fusedFirst : Bool
  fusedSecond : Bool
  claim : Bool
  posted : Bool
  compared : Bool
  compareOk : Bool
  owner : Nat
  home : Nat
  cntlid : Nat
  qid : Nat
  host : Nat
  cmd : IoCmd
  /-- The capsule itself, or its dock window, brought the data: a restart does not fetch again (Table 4-5). -/
  ownData : Bool
  checkpoint : Nat
  waits : WaitFor
  token : Nat
  tokenLen : Nat
  /-- Admissions before it: the order in which interlocks and groups run (R57, R103). -/
  order : Nat
  /-- Bound at PLANNED: namespace, key slot and bank (R220), lane (255 none), first serial, first record number and
  how many were reserved. -/
  ns : Namespace
  keySlot : Nat
  bank : Bool
  lane : Nat
  serial : Nat
  rn : Nat
  rnN : Nat
  ops : List PlanOp
  /-- The other half of a fused pair. -/
  mate : Option Nat
  /-- Write data has been obtained (FETCHED); drive operations have been issued. -/
  fetched : Bool
  issued : Bool
  /-- The blocks to be written, as the drives will hold them, merged where they are partly covered (R57, MERGED); they
  have been given to the write path. -/
  merged : Option (List (Nat × Unit4k))
  placed : Bool
  /-- Some part of it went through the ledger or its bypass (R161). -/
  ledger : Bool
  /-- Its turn among the array's reads, by which a mirror's copies alternate (R159). -/
  turn : Nat
  /-- The command ends with `status` whatever step it stands at. -/
  failed : Bool
  status : Status
  /-- SQHD as the completion was formed (R48). -/
  sqhd : Nat
  admitTime : Nat
  /-- The moored change that its completion waits for (R318), 0 where none. -/
  prompt : Nat
  /-- Attempts after cell discards (R456), and how many there may be: RETRY as the command began (R145). -/
  attempts : Nat
  retries : Nat
  /-- No engine owns it yet: its rescuer has no room, or there is none (R113, R457). -/
  orphan : Bool
  rescuer : Option Nat
  /-- Restarted and not stepped since (R111); host data, and whether its digest held, that came meanwhile. -/
  restarted : Bool
  heldData : Option (List Sector × Bool)
  /-- What has come of the data it waits for: pieces by their offset (R73). -/
  pieces : List (Nat × List Byte)
  deriving DecidableEq, Repr, Inhabited

/-- One engine: its tow line from the head, a tow of its own in transit (oldest last), when its idle spell
began, its round-robin position, and its scratchpad bank. -/
structure Engine where
  state : EngState
  tow : List Nat
  transit : List Nat
  idleSince : Option Nat
  /-- It is being parked: it runs down and takes no new work (R339). -/
  parking : Bool
  /-- Round-robin position over its homed queues (R99). -/
  turn : Nat
  bank : Tab Byte
  deriving DecidableEq, Repr, Inhabited

/-- A basin reset in progress (R114): which basin, and the manifest that asked for it. -/
structure BasinReset where
  basin : Nat
  session : Nat
  hdr : Hdr
  deriving DecidableEq, Repr, Inhabited

/-- The barge part of the device. -/
structure Barge where
  /-- The firmware image whose code the engines' instruction stores hold, by its version: none before the start has
  loaded them (R95). Software cannot write them. -/
  istore : Option Nat
  eng : Tab Engine
  berth : Tab Berth
  /-- The rotating pointer of R97. -/
  homePtr : Nat
  nextToken : Nat
  /-- Commands admitted so far. -/
  admitted : Nat
  resets : List BasinReset
  /-- The berth whose snapshot is being taken (R110). -/
  snap : Option Nat
  /-- Contents of the dock banks, 4 MiB each, dock bank d at d × 4 MiB (Table 22-4). -/
  dock : Tab Byte
  /-- 64-byte units of the dock banks with an uncorrectable error (R436). -/
  dockBad : List Nat
  deriving DecidableEq, Repr, Inhabited

end Sys2Proof.Machine
end

