-- ==== Sys2Proof/Machine/Types/Store.lean ====
section
/-! DEFINITION. State of arrays (06_arrays.md), ledger and gather buffer (07_ledger.md), and the drives, which are the
device's surroundings. -/

namespace Sys2Proof.Machine

/-- States of a role (ARY_MEMBER.STATE, Table 6-15). -/
inductive RoleState | unused | online | missing | rebuilding | slotted | restoring
  deriving DecidableEq, Repr, Inhabited

/-- A rebuild target (ARY_MEMBER.TARGET): none, the spare slot, or a bay. -/
inductive Target | none | slot | bay (b : Nat)
  deriving DecidableEq, Repr, Inhabited

/-- One role of an array (Table 6-15) with its remaining count (R164). `lost` orders the losses of members: the greater,
the later (R154). -/
structure Role where
  bay : Option Nat
  state : RoleState
  target : Target
  rem : Nat
  lost : Nat
  deriving DecidableEq, Repr, Inhabited

/-- States of an array (Table 6-3). -/
inductive ArrState | none | creating | optimal | degraded | rebuilding | offline | salvaged
  deriving DecidableEq, Repr, Inhabited

/-- States of a ledger pair (Table 7-7). -/
inductive PairState | unused | two | single | repairing | lost
  deriving DecidableEq, Repr, Inhabited

/-- One ledger pair (R173, Table 7-11). -/
structure Pair where
  roleA : Nat
  roleB : Nat
  state : PairState
  sameGroup : Bool
  liveA : Bool
  liveB : Bool
  deriving DecidableEq, Repr, Inhabited

/-- The moored record of an array: what the ARY and LDG registers of type RO show (R162, R172, R173). -/
structure Arr where
  mode : Mode
  n : Nat
  k : Nat
  d : Bool
  unit : Nat
  /-- Its members have 64 bytes of metadata a block (R148). -/
  meta64 : Bool
  pool : Option Nat
  gen : Nat
  stripes : Nat
  state : ArrState
  roles : List Role
  /-- Role whose units use the spare slot (ARY_SUBST). -/
  subst : Option Nat
  cursor : Nat
  scrubPos : Nat
  pairs : List Pair
  deriving DecidableEq, Repr, Inhabited

/-- A segment of a pair whose tail has not passed it everywhere (R177): the copies it is written to and those on which its
write has completed. -/
structure Segment where
  sseq : Nat
  infl : Nat
  gen : Nat
  time : Nat
  recs : List LedgerRec
  toA : Bool
  toB : Bool
  onA : Bool
  onB : Bool
  /-- Ring block at which each copy begins (R177). -/
  offA : Nat
  offB : Nat
  /-- A copy was lost before the segment was durable on both: its writes complete by the bypass (R460). -/
  bypass : Bool
  /-- Attempts after a cell discard (R460), and RETRY as the segment was formed (R145). -/
  attempts : Nat
  retries : Nat
  deriving DecidableEq, Repr, Inhabited

/-- A segment's copy on a ring that the tail has not passed: its first ring block, its blocks, its pair and SSEQ. -/
structure RingEnt where
  off : Nat
  size : Nat
  pair : Nat
  sseq : Nat
  deriving DecidableEq, Repr, Inhabited

/-- The ring of a role: the block at which the next segment begins, and what stands from the tail on, in ring order
(R175, R187). -/
structure RingRun where
  head : Nat
  ents : List RingEnt
  deriving DecidableEq, Repr, Inhabited

/-- What a pair holds beside its table entry: its rings' live segments, records that wait for the next
segment, and the copy of live segments in progress (R177, R188). -/
structure PairRun where
  nextSseq : Nat
  segs : List Segment
  waiting : List LedgerRec
  /-- The lost copy that is being rewritten (`true` is A) and the next SSEQ to copy (R188). -/
  repairA : Bool
  copyPos : Nat
  deriving DecidableEq, Repr, Inhabited

/-- A gather slot: block `blk` of its stripe, with the record number it holds (R182). -/
structure GatherSlot where
  blk : Nat
  rn : Nat
  data : Block
  md : Meta
  /-- An uncorrectable reservoir error lies on it (Table 7-6). -/
  bad : Bool
  /-- Host and namespace of the newest record (R186). -/
  host : Nat
  nsid : Nat
  deriving DecidableEq, Repr, Inhabited

/-- Causes of destage (R183). -/
inductive DestageCause | whole | age | ring | gather | bypass
  deriving DecidableEq, Repr, Inhabited

/-- Where a destage stands (R184): its RECON and DSTART entries become durable; its members are written; its RETIRE
entry becomes durable. -/
inductive DestageStep | none | marking | writing | retiring
  deriving DecidableEq, Repr, Inhabited

/-- A stripe's entry of the gather directory: its slots, its oldest slot's time, a destage that is due with its place in
the order in which causes arose, and the one that runs: its slots, its cause, where it stands. -/
structure GatherStripe where
  slots : List GatherSlot
  since : Nat
  due : Option DestageCause
  order : Nat
  running : List GatherSlot
  cause : Option DestageCause
  at_ : DestageStep
  /-- Attempts of the destage after cell discards (R456), and RETRY as it began (R145). -/
  attempts : Nat
  retries : Nat
  deriving DecidableEq, Repr, Inhabited

/-- Who holds a stripe's interlock, or stands in line for it (R163). -/
inductive Holder | rebuild | scrub | destage | berth (b : Nat)
  deriving DecidableEq, Repr, Inhabited

/-- What an array holds beside its moored record: scrub progress, the cursor and scrub position as last
moored, stripe interlocks, the record-number counter, replay and assembly, media errors, ledger and gather
buffer. -/
structure ArrRun where
  scrubbing : Bool
  /-- Stripes done in the pass, and when it began (R169). -/
  scrubbed : Nat
  lastScrub : Nat
  /-- Mismatched stripes, oldest first, at most 64 (R169). -/
  mismatches : List Nat
  mooredCursor : Nat
  mooredScrub : Nat
  mooredPairs : List Pair
  /-- The lines of the stripes' interlocks: the first of a stripe holds it (R163). -/
  locks : List (Nat × Holder)
  rnNext : Nat
  rnLimit : Nat
  replaying : Bool
  assembled : Bool
  /-- Repaired read errors: the member's bay and time (R157). -/
  mediaErrs : List (Nat × Nat)
  /-- Reads planned so far, by which a mirror's copies take turns (R159). -/
  readTurn : Nat
  pairs : Tab PairRun
  rings : Tab RingRun
  gather : Tab GatherStripe
  /-- Causes of destage that have arisen (R183). -/
  causes : Nat
  /-- The deferred area as last written to the members, or moored (R176). -/
  area : DeferArea
  deriving DecidableEq, Repr, Inhabited

/-- The drive in a bay: what it reported when it was last initialised, and what stands on it. The drives are surroundings;
what the device has written there is held here so that a later read has something to return (R148, R276, R277). -/
structure Drive where
  id : DriveId
  medium : Medium
  deriving DecidableEq, Repr, Inhabited

end Sys2Proof.Machine
end

