-- ==== Sys2Proof/Machine/Types/Host.lean ====
section
/-! DEFINITION. State of hosts, associations, queues and namespaces (02_host_face.md). -/

namespace Sys2Proof.Machine

/-- One host table entry (02_host_face.md, HOST_SET of Table 16-5). NQNs are kept as the number their bytes
spell; 0 is no NQN. -/
structure HostEntry where
  present : Bool
  p : HostParams
  /-- Host secret, controller secret and hash of DH-HMAC-CHAP (R40); none loaded is 0. -/
  hostSecret : Nat
  ctrlSecret : Nat
  hash : Nat
  deriving DecidableEq, Repr, Inhabited

/-- One subsystem (R35). -/
structure Subsys where
  present : Bool
  nqn : Nat
  deriving DecidableEq, Repr, Inhabited

/-- A deleted namespace whose planned commands still run: its extents are not free yet (R462). -/
structure Dying where
  nsid : Nat
  ns : Namespace
  deriving DecidableEq, Repr, Inhabited

/-- Steps of a DH-HMAC-CHAP transaction (R40; NVMe over Fabrics): none, the device's challenge stands, its success is to
be read, the host's last message is awaited. -/
inductive AuthStep | idle | challenged | success | waitHost
  deriving DecidableEq, Repr, Inhabited

/-- A DH-HMAC-CHAP transaction on a queue (R40): its step, the hash function and DH group agreed, the device's challenge,
and the host's where it authenticates the device too. -/
structure AuthRun where
  step : AuthStep
  hash : Nat
  group : Nat
  challenge : Nat
  hostChallenge : Option Nat
  deriving DecidableEq, Repr, Inhabited

/-- A Format NVM under way (R46): the namespace as it was, and the record numbers of the zeroes where they have been
given to the write path. -/
structure Formatting where
  nsid : Nat
  old : Namespace
  placed : Option (Nat × Nat)
  deriving DecidableEq, Repr, Inhabited

/-- One submission queue with its completion side (R36, R47 to R49). The transport holds the rest. -/
structure Queue where
  live : Bool
  cntlid : Nat
  qid : Nat
  sqsize : Nat
  sqhd : Nat
  /-- Home engine, or none while unhomed (R97, R457). -/
  home : Option Nat
  /-- Capsules that wait for admission, oldest first (R47). -/
  sq : List IoCmd
  /-- Dock commits that wait for admission, oldest first (R87). -/
  commits : List IoCmd
  /-- The CID map: identifiers outstanding (Table 4-1). -/
  cids : List Nat
  /-- Aborts recorded against waiting capsules (Table 4-1). -/
  aborted : List Nat
  /-- A Disconnect waits for the admitted commands to end (R458): its CID. -/
  disconnect : Option Nat
  /-- Device time by which authentication must have completed (R40). -/
  authBy : Option Nat
  authOk : Bool
  auth : AuthRun
  deriving DecidableEq, Repr, Inhabited

/-- One controller association (R36, R43, R61). -/
structure Assoc where
  live : Bool
  host : Nat
  subsys : Nat
  discovery : Bool
  adminQ : Nat
  katoMs : Nat
  kaSince : Nat
  wish : Nat
  /-- I/O queues granted by Number of Queues (R36, R37). -/
  granted : Option Nat
  /-- Parked Asynchronous Event Requests, oldest first (R44). -/
  aers : List Nat
  slot : Option AdminCmd
  /-- The slot's Format NVM has taken effect and is not complete (R46). -/
  format : Option Formatting
  adminSq : List AdminCmd
  cc : Nat
  ready : Bool
  shutdown : Bool
  tempOver : Nat
  tempUnder : Nat
  /-- The last reported side of each threshold, so that a crossing posts once. -/
  tempHigh : Bool
  tempLow : Bool
  aec : Nat
  hostId : Nat
  resvMask : Nat
  /-- C0h, C1h and discovery events posted and not yet read (R54, R62, R39). -/
  unread : List Nat
  /-- Namespaces changed since log page 04h was last read. -/
  changed : List Nat
  deriving DecidableEq, Repr, Inhabited

/-- Deferred-error counts of a host (R54) and its pending marks by namespace (R51). -/
structure HostLog where
  generation : Nat
  lost : Nat
  held : Nat
  marks : List Nat
  deriving DecidableEq, Repr, Inhabited

/-- The live side of the host face. -/
structure HostFace where
  assoc : Tab Assoc
  queue : Tab Queue
  log : Tab HostLog
  deferred : List Deferred
  /-- Array data blocks whose reads fail for a deferred error, with their namespace, until they are written again (R55):
  array, block, namespace. -/
  lostBlks : List (Nat × Nat × Nat)
  dying : List Dying
  /-- 4 KiB block interlocks: namespace, block, holder's berth (R57, R463). -/
  locks : List (Nat × Nat × Nat)
  deriving DecidableEq, Repr, Inhabited

end Sys2Proof.Machine
end

