-- ==== Sys2Proof/Machine/RegTypes.lean ====
section
/-! DEFINITION. What a register and a field of the register space are (00_scope.md, Conventions; R17 to
R19, R381, R430), and reading and writing the bits of one field. -/

namespace Sys2Proof.Machine

/-- Access types of Table 0-4 (R17). No field of the map has type W1S or RWS. -/
inductive Access | ro | rw | wo | wok | w1c | rc
  deriving DecidableEq, Repr, Inhabited

/-- Register classes of R381: volatile, kept, moored; `c` is a value fixed in the part. -/
inductive RegClass | v | k | m | c
  deriving DecidableEq, Repr, Inhabited

/-- What the device stores for a written value: as written, held in a range, held in a signed 8-bit range,
or one value stored as another. The field maps state each. -/
inductive Stored
  | plain
  | clamp (lo hi : Nat)
  | sclamp (m : Nat)
  | remap (a b : Nat)
  deriving DecidableEq, Repr, Inhabited

/-- One field of a field map: lowest bit, width, access type, class, power-on or factory value. -/
structure FieldDef where
  lo : Nat
  w : Nat
  access : Access
  cls : RegClass
  start : Nat
  stored : Stored
  deriving DecidableEq, Repr, Inhabited

/-- Half of a 64-bit pair (R19). -/
inductive Half | whole | lo | hi
  deriving DecidableEq, Repr, Inhabited

/-- One register: offset, the counts and strides of its arrays, the block instances that hold it
(`every = 1` each, `0` instance 0 only, `n` every n-th), its place in a pair, its fields. -/
structure RegDef where
  off : Nat
  dims : List (Nat × Nat)
  every : Nat
  half : Half
  fields : List FieldDef
  deriving DecidableEq, Repr, Inhabited

/-- The blocks of Table 22-1. -/
inductive Blk
  | glb | twp | pdl | wir | clk | ept | mft | tal | cnl | whf | cip | slc | brg | tug | net | drv
  | ary | ldg | spb | rsv | aqd | lkp
  deriving DecidableEq, Repr, Inhabited

/-- One row of Table 22-1. -/
structure BlockDef where
  blk : Blk
  base : Nat
  last : Nat
  count : Nat
  stride : Nat
  regs : List RegDef
  deriving DecidableEq, Repr, Inhabited

/-- A field by its register's BAR0 offset. -/
structure Fld where
  addr : Nat
  lo : Nat
  w : Nat
  deriving DecidableEq, Repr, Inhabited

/-- The offset `x` past a register's first address falls on one of its array elements. -/
def dimsHit : List (Nat × Nat) → Nat → Bool
  | [], x => x == 0
  | (n, st) :: ds, x =>
    if st = 0 then dimsHit ds x else decide (x / st < n) && dimsHit ds (x % st)

/-- Instance `i` of the block holds the register, and `off` is one of its offsets (R430). -/
def RegDef.hit (r : RegDef) (i off : Nat) : Bool :=
  decide (r.off ≤ off) && dimsHit r.dims (off - r.off) &&
    (if r.every = 0 then i == 0 else i % r.every == 0)

/-- What is stored when `v` is written to the field (the field map's Meaning column). -/
def FieldDef.store (f : FieldDef) (v : Nat) : Nat :=
  match f.stored with
  | .plain => v
  | .clamp lo hi => clampNat lo hi v
  | .sclamp m => if v < 128 then (if m < v then m else v) else (if v < 256 - m then 256 - m else v)
  | .remap a b => if v = a then b else v

/-- The value of the field in a register that holds `x`. -/
def FieldDef.of (f : FieldDef) (x : Word32) : Nat := bitsOf x.toNat f.lo f.w

/-- The register with the field's bits replaced. -/
def FieldDef.put (f : FieldDef) (x : Word32) (v : Nat) : Word32 :=
  BitVec.ofNat 32 (setBits x.toNat f.lo f.w v)

/-- A register's value at power-on, or from the factory. -/
def RegDef.start (r : RegDef) : Word32 := r.fields.foldl (fun x f => f.put x f.start) 0

end Sys2Proof.Machine
end

