-- ==== Sys2Proof/Machine/Types/ManCmd.lean ====
section
/-! DEFINITION. The manifests as data, without their headers: what a manifest that waits keeps (R362) and what the
bytes of a request come to (16_manifests.md). One constructor per manifest row of the table. -/

namespace Sys2Proof

/-- A manifest without its header. -/
inductive ManCmd
  /-- BASIN_RESET -/
  | basinReset (basin : Nat)
  /-- ARRAY_CREATE -/
  | arrayCreate (a : Nat) (mode : Mode) (bays : List Nat) (unit : Nat) (d : Bool) (pool : Nat)
  /-- ARRAY_DELETE -/
  | arrayDelete (a : Nat)
  /-- ARRAY_QUERY -/
  | arrayQuery (a : Nat)
  /-- SPARE_POOL_SET -/
  | sparePoolSet (p : Nat) (bays : Nat)
  /-- MEMBER_FAIL -/
  | memberFail (a role : Nat) (force : Bool)
  /-- MEMBER_REPLACE -/
  | memberReplace (a role bay : Nat)
  /-- SCRUB_START -/
  | scrubStart (a : Nat) (start : Option Nat)
  /-- SCRUB_STOP -/
  | scrubStop (a : Nat)
  /-- SCRUB_LOG -/
  | scrubLog (a : Nat) (clear : Bool)
  /-- ARRAY_SALVAGE -/
  | arraySalvage (a : Nat)
  /-- WHARF_DISCARD -/
  | wharfDiscard
  /-- KEY_LOAD -/
  | keyLoad (slot mode : Nat) (key : BitVec 512) (base : BitVec 32)
  /-- KEY_ZEROISE -/
  | keyZeroise (slot : Nat)
  /-- SERIAL_SET -/
  | serialSet (slot : Nat) (serial : Word64)
  /-- KEY_QUERY -/
  | keyQuery (slot : Nat)
  /-- PAIR_KEY_LOAD -/
  | pairKeyLoad (key : BitVec 256)
  /-- SLC_PORT_SET -/
  | slcPortSet (port : Nat) (mode strictN overhead : OptVal) (weights : List (Nat × Nat)) (shapers : List (Nat × Nat × Nat × Nat)) (preColours : List (Nat × Word32))
  /-- METER_SET -/
  | meterSet (meter : Nat) (words : List (Nat × Word32))
  /-- SLC_CFG_SET -/
  | slcCfgSet (yellowFree yellowDepth : OptVal)
  /-- SUB_NODE_SET -/
  | subNodeSet (node : Nat) (words : List (Nat × Word32))
  /-- NSB_SET -/
  | nsbSet (nsid : Nat) (cmdRate cmdBurst byteRate byteBurst : OptVal)
  /-- QUAD_SET -/
  | quadSet (quad : Nat) (mode anEn map degMax : OptVal)
  /-- PORT_SET -/
  | portSet (port : Nat) (cfg pfc eee : Option Word32) (thr wake : List (Nat × Word32))
  /-- ADDR_SET -/
  | addrSet (entry : Nat) (a : AddrParams)
  /-- ADDR_DELETE -/
  | addrDelete (entry : Nat)
  /-- PORT_QUERY -/
  | portQuery (ports : List Nat)
  /-- DISCOVERY_SET -/
  | discoverySet (ports : List Nat) (policy : Nat)
  /-- ACL_SET -/
  | aclSet (port index : Nat) (rule : AclRule)
  /-- ACL_QUERY -/
  | aclQuery (port : Nat)
  /-- MGMT_SRC_SET -/
  | mgmtSrcSet (entry : Nat) (p : Option Prefix)
  /-- DRV_GROUP_SET -/
  | drvGroupSet (g : Nat) (mode : Nat) (sris : Bool)
  /-- DRV_CFG_SET -/
  | drvCfgSet (cfg tmo : Option Word32) (idle : List (Nat × Word32))
  /-- BAY_POWER -/
  | bayPower (bays : Nat) (action : BayAction)
  /-- PADDLE_CFG -/
  | paddleCfg (bays : Nat) (cfg0 cfg1 sense : Option Word32)
  /-- PADDLE_QUERY -/
  | paddleQuery (bays : Nat)
  /-- FEED_DRILL -/
  | feedDrill
  /-- FEED_CFG -/
  | feedCfg (enA enB : Option Bool) (drillH uv ov fwdMax rs : OptVal)
  /-- FEED_QUERY -/
  | feedQuery
  /-- TAKEOVER -/
  | takeover (force : Bool)
  /-- PAIR_SET -/
  | pairSet (en : Bool) (pairId : Nat) (partner : Nat) (prefer : Bool)
  /-- PAIR_QUERY -/
  | pairQuery
  /-- WITNESS_SET -/
  | witnessSet (bays : List Nat)
  /-- PARTNER_HEALTH -/
  | partnerHealth
  /-- CKPT_RESYNC -/
  | ckptResync
  /-- PARTNER_RELAY -/
  | partnerRelay (inner : List Byte)
  /-- LKP_DRILL -/
  | lkpDrill
  /-- LKP_SWITCH -/
  | lkpSwitch
  /-- POWER_STATE_SET -/
  | powerStateSet (target : Nat)
  /-- CAP_LIST -/
  | capList
  /-- SESSION_OPEN -/
  | sessionOpen (keyId : Nat) (nonceH : BitVec 128)
  /-- SESSION_CLOSE -/
  | sessionClose
  /-- IDENTIFY -/
  | identify
  /-- TIME_SET -/
  | timeSet (ms : Nat)
  /-- WARM_RESTART -/
  | warmRestart
  /-- FAULT_QUERY -/
  | faultQuery (clear : Bool)
  /-- EVENT_READ -/
  | eventRead (count : Nat) (clear : Bool)
  /-- SUBSYS_SET -/
  | subsysSet (i : Nat) (nqn : Nat)
  /-- SUBSYS_DELETE -/
  | subsysDelete (i : Nat)
  /-- NS_CREATE -/
  | nsCreate (nsid subsys array size : Nat) (lbafs piTypes : List Nat) (mode : Nat) (slot : Nat) (ledgered : Bool)
  /-- NS_DELETE -/
  | nsDelete (nsid : Nat)
  /-- NS_ATTACH -/
  | nsAttach (nsid : Nat) (hosts : List Nat) (attach : Bool)
  /-- HOST_SET -/
  | hostSet (i : Nat) (e : HostParams)
  /-- HOST_DELETE -/
  | hostDelete (i : Nat)
  /-- NS_QUERY -/
  | nsQuery (nsid : Nat)
  /-- DOCK_CREATE -/
  | dockCreate (host kind size perms : Nat) (bind : Option (Nat × Nat)) (tag : Nat)
  /-- DOCK_REVOKE -/
  | dockRevoke (rkey : Nat)
  /-- AUTH_SECRET_SET -/
  | authSecretSet (i : Nat) (hostSecret ctrlSecret hash : Nat)
  /-- AUTH_SECRET_CLEAR -/
  | authSecretClear (i : Nat)
  /-- MANIFEST_KEY_SET -/
  | manifestKeySet (k : Nat) (key : BitVec 256)
  /-- MANIFEST_KEY_CLEAR -/
  | manifestKeyClear (k : Nat)
  /-- POWER_QUERY -/
  | powerQuery
  /-- TALLY_SELECT -/
  | tallySelect (n : Nat) (sel thr : Word32)
  /-- TALLY_DUMP_SET -/
  | tallyDumpSet (set : List Nat) (period : Nat) (target : Nat) (slots : Nat)
  /-- TALLY_READ -/
  | tallyRead (set : List Nat)
  /-- TALLY_USER -/
  | tallyUser (en : Bool)
  /-- LANE_MARGIN -/
  | laneMargin (quad : Bool) (i lane : Nat) (time volt : Nat)
  /-- MOOR_QUERY -/
  | moorQuery
  /-- UNMOOR -/
  | unmoor (confirm : Nat)
  /-- FW_STAGE -/
  | fwStage (offset : Nat) (chunk : List Byte)
  /-- FW_COMMIT -/
  | fwCommit (length : Nat) (sha : BitVec 256) (signatureOk : Bool)
  /-- FW_ACTIVATE -/
  | fwActivate (atTakeover : Bool)
  /-- FW_QUERY -/
  | fwQuery
  deriving DecidableEq, Repr, Inhabited

end Sys2Proof
end

