-- ==== Sys2Proof/Machine/Types/Manage.lean ====
section
/-! DEFINITION. State of the management plane: manifest sessions and mailbox (16_manifests.md), endpoint
(17_endpoint.md), clock measurement (20_clocks.md), power states (15_power_states.md). -/

namespace Sys2Proof.Machine

/-- A receipt as sent: header fields of Table 16-2 and the TLVs of its parameters (R356 to R358). -/
structure Receipt where
  chan : Channel
  dst : Nat
  port : Nat
  opcode : Nat
  seq : Nat
  session : Nat
  status : Nat
  params : List (Nat × List Byte)
  /-- The key the trailer is computed under: none, a manifest key, or the session's key (R360). -/
  trailer : Bool
  deriving DecidableEq, Repr, Inhabited

/-- One open session (R359, R361). Session number 0 is the mailbox's own. -/
structure Session where
  isOpen : Bool
  key : Nat
  chan : Channel
  src : Nat
  /-- K_s (R359). -/
  ks : BitVec 256
  last : Nat
  /-- The kept receipt; `none` before the first or when it was not kept (R364). -/
  kept : Option Receipt
  /-- SEQ of the session's manifest that is executing (R361). -/
  running : Option Nat
  /-- Device time at which it last received something (R359). -/
  heard : Nat
  deriving DecidableEq, Repr, Inhabited

/-- Objects a manifest can name (R362). -/
inductive ObjKind | array | nspace | host | port | keySlot | bay | feed | dock | device
  deriving DecidableEq, Repr, Inhabited

/-- A manifest that has been accepted and whose receipt has not left: work follows its commit point, or
its commit point waits (R362, R363). -/
structure Running where
  hdr : Hdr
  opcode : Nat
  objs : List (ObjKind × Nat)
  /-- The commit point has passed. -/
  committed : Bool
  deriving DecidableEq, Repr, Inhabited

/-- A manifest that waits for a place or for an object (R362). -/
structure Waiting where
  i : ManCmd
  hdr : Hdr
  objs : List (ObjKind × Nat)
  deriving DecidableEq, Repr

/-- Kinds of entry of the event log (R396; EVENT_READ, Table 16-5). The entries' encoding in 32 bytes is
not given. -/
structure Event where
  kind : Nat
  arg : Nat
  time : Nat
  deriving DecidableEq, Repr, Inhabited

/-- The MFT block and the session region (R364). -/
structure Mft where
  sessions : Tab Session
  reqBuf : Tab Byte
  rcptBuf : Tab Byte
  running : List Running
  /-- Manifests that wait for a place or for their object, oldest first, at most 64 (R362). -/
  waiting : List Waiting
  /-- Session and SEQ of mailbox manifests in execution at an endpoint reset: their receipts are discarded (R355). -/
  mboxDrop : List (Nat × Nat)
  /-- MFT_MBOX_CFG as of the last GO (R369). -/
  mboxCfg : Word32
  /-- Oldest first, at most 1,024 (Table 16-5). -/
  events : List Event
  deriving DecidableEq, Repr, Inhabited

/-- One MSI-X table entry (R375). A mask of 1 is the reset value, so `unmasked` reads 0. -/
structure MsixEntry where
  addr : Nat
  data : Nat
  unmasked : Bool
  deriving DecidableEq, Repr, Inhabited

/-- A request of the management host (R372, R373): of a register unit, or of BAR2. -/
inductive Tlp
  | read (who : Requester) (addr : Nat) (eight : Bool)
  | write (who : Requester) (addr v : Nat) (eight : Bool)
  | bar2Read (off len : Nat)
  | bar2Write (off : Nat) (data : List Byte)
  deriving DecidableEq, Repr

/-- One BAR2 window in force (R373, R374). -/
structure Window where
  valid : Bool
  rd : Bool
  wr : Bool
  space : Nat
  sizeLog2 : Nat
  base : Nat
  tgt : Nat
  deriving DecidableEq, Repr, Inhabited

/-- A running copy, with the window as it stood at GO (R376). -/
structure Copy where
  win : Window
  host : Nat
  off : Nat
  len : Nat
  toHost : Bool
  vec : Nat
  deriving DecidableEq, Repr, Inhabited

/-- The endpoint. -/
structure Ept where
  msix : Tab MsixEntry
  pba : Tab Bool
  win : Tab Window
  copy : Option Copy
  /-- PE_PERST_N is asserted. -/
  perst : Bool
  /-- Configuration requests are answered (R371). -/
  ready : Bool
  /-- Subsystem IDs in force: EPT_SUBSYS as read at the last fundamental reset (R371). -/
  subsys : Nat
  /-- Requests that arrived in P2 or P3, oldest first: they complete after the exit (R379). -/
  tlps : List Tlp
  deriving DecidableEq, Repr, Inhabited

/-- Steps of an entry (R343) or of an exit (R350). -/
inductive PwrStage | none | freeze | shutdown | committed | exiting
  deriving DecidableEq, Repr, Inhabited

/-- A request for a power state: from a manifest (answered), a register write, the idle policy, or the
role (R342). -/
inductive PwrOrigin | idle | register | role | manifest (h : Hdr)
  deriving DecidableEq, Repr, Inhabited

/-- The power controller beside TWP_PWR_STATE. -/
structure Pwr where
  stage : PwrStage
  origin : Option PwrOrigin
  /-- Requests taken up when the transition in progress ends, oldest first (R342). -/
  waiting : List (Nat × PwrOrigin)
  /-- A wake held since the commit (R351), as its row of Table 15-5 and the unit's number. -/
  heldWake : Option (Nat × Nat)
  /-- Full 1 ms intervals below the P1 rate since the last exit from P1 or refusal of it (R342). -/
  lowIntervals : Nat
  /-- Idle timers of P2 and P3, in evaluations of the idle policy, 1 ms apart (R342); whether a drive operation has been
  issued since the last one; when the exit began. -/
  idleMs : Nat
  p2Ms : Nat
  driveOps : Bool
  exitStart : Nat
  /-- A basin that returns, and a trigger held meanwhile (R339). -/
  basinReturning : Option Nat
  basinHeld : Bool
  /-- The management window is open (R336). -/
  mgmtWindow : Bool
  /-- TWP_WAKE_EN and TWP_WAKE_TIMER as the last entry began (R352), and WAKE and NET_WAKE_PAT of each port as that to P3
  did (R270). -/
  wakeEn : Nat
  wakeTimer : Nat
  wakePorts : Tab (Nat × List Nat)
  /-- The device's Tj, its hottest sensor's, as last reported to the towpath, in kelvin (R41, R449); none has been before the first report. -/
  tj : Option Nat
  deriving DecidableEq, Repr, Inhabited

/-- Phases of Table 18-2 as far as the device has come; `serving` after T7. -/
inductive Phase | t1 | t2 | t4 | t5 | t6 | t7 | serving | standby
  deriving DecidableEq, Repr, Inhabited

/-- Reset kinds of Table 18-3 that reset the device. -/
inductive ResetKind | powerOn | resetN | warm | watchdog | takeover
  deriving DecidableEq, Repr, Inhabited

end Sys2Proof.Machine
end

