-- ==== Sys2Proof/Machine/Types/Moored.lean ====
section
/-! DEFINITION. The moored tables and the mooring store (18_resets_moorings.md). -/

namespace Sys2Proof.Machine

/-- The tables of the moored image (R382); the moored register fields are kept with the registers. -/
structure Moored where
  hosts : Tab HostEntry
  subsys : Tab Subsys
  ns : Tab Namespace
  arr : Tab Arr
  /-- Deferred marks of OFFLINE arrays with their hosts' counts (R176). -/
  marks : Tab DeferLog
  /-- Bays of spare pools 0 to 3 (R154). -/
  pools : Tab (List Nat)
  keys : Tab KeySlot
  /-- Manifest keys (R359); `none` is empty. -/
  mkeys : Tab (Option (BitVec 256))
  pairKey : BitVec 256
  /-- Address entries (R256), ACL rules by port × 16 + index (R263), discovery policies by port (0 OPEN, 1 LISTED,
  2 OFF; R39), manifest source list (R354). -/
  addr : Tab (Option AddrParams)
  acl : Tab AclRule
  disc : Tab Nat
  src : Tab (Option Prefix)
  /-- DEVICE serial of the partner (PAIR_SET, Table 14-8). -/
  partner : Nat
  deriving DecidableEq, Repr, Inhabited

/-- A moored change: a register or a table record (R382). -/
inductive MoorRec
  | reg (addr : Nat) (v : Word32)
  | host (i : Nat) (e : HostEntry)
  | subsys (i : Nat) (e : Subsys)
  | ns (i : Nat) (e : Namespace)
  | arr (i : Nat) (e : Arr)
  | marks (i : Nat) (l : DeferLog)
  | pool (i : Nat) (l : List Nat)
  | key (i : Nat) (e : KeySlot)
  /-- A key slot on its way to the partner: its banks are wrapped under a pair key, and whoever has it can take them out
  (R222). -/
  | wrapped (under : BitVec 256) (i : Nat) (e : KeySlot)
  | mkey (i : Nat) (k : Option (BitVec 256))
  | pairKey (k : BitVec 256)
  | partner (serial : Nat)
  | addr (i : Nat) (e : Option AddrParams)
  | acl (i : Nat) (e : AclRule)
  | disc (i v : Nat)
  | src (i : Nat) (e : Option Prefix)
  deriving DecidableEq, Repr

/-- A journal entry (R382): the CKPT_SEQ of a change, the change, and whether its CRC holds. -/
structure JEntry where
  seq : Nat
  change : MoorRec
  crcOk : Bool
  deriving DecidableEq, Repr

/-- A mooring slot (R382): whether its CRC holds, its CKPT_SEQ, the moored registers and tables. -/
structure MoorSlot where
  valid : Bool
  seq : Nat
  regs : Tab Word32
  tab : Moored
  deriving DecidableEq, Repr, Inhabited

/-- The mooring store and the changes on their way to it (R382 to R387). The key banks in its slots and journal stand for
their forms wrapped under the device wrap key, which the identity region holds once it is generated (R222; log entry
61). -/
structure Store where
  wrapKey : Option (BitVec 256)
  slotA : MoorSlot
  slotB : MoorSlot
  journal : List JEntry
  /-- The identity region records that the store was written (R386). -/
  written : Bool
  /-- The unmoor marker (R387). -/
  unmoor : Bool
  /-- Highest CKPT_SEQ given to a change, and the changes not yet durable, oldest first (R383). -/
  seq : Nat
  waiting : List JEntry
  /-- Writes are stopped: VDD_TWP fell (R448). -/
  stopped : Bool
  /-- Reservoir training values are recorded (R381, Table 18-2). -/
  trained : Bool
  deriving DecidableEq, Repr, Inhabited

/-- A staged firmware image (FW_STAGE to FW_QUERY, Table 16-5). -/
structure Firmware where
  bytes : Tab Byte
  staged : Bool
  version : Nat
  /-- Version of the image that runs; `none` for the one the part came with. -/
  activeVersion : Option Nat
  /-- FW_ACTIVATE with AT_TAKEOVER is in force. -/
  atTakeover : Bool
  deriving DecidableEq, Repr, Inhabited

/-- Causes of the global fault (Table 18-5). -/
inductive FaultCause | engines | wharfUe | cipher | mooring | stuck | internal
  deriving DecidableEq, Repr

/-- Where the device stands between power and service, and the restarts in progress (R388 to R396). -/
structure Rst where
  phase : Phase
  /-- T8 and T9 have begun. -/
  portsUp : Bool
  baysUp : Bool
  /-- RESET_N is low; a core PLL has lost lock (R391, R422). -/
  resetN : Bool
  coreLost : Bool
  /-- A warm restart drains (R392); its reset is followed by UNMOOR's zeroing or runs the staged image. -/
  draining : Bool
  runStaged : Bool
  /-- Device time at which the drain ends (DRAIN_MS). -/
  drainBy : Nat
  /-- Restart causes whose warm restart waits HOLD_S, with the device time it comes at (R396). -/
  holds : List (FaultCause × Nat)
  /-- ASSEMBLE_S as of the start, and the device time it ends at once T9 has begun (R389, R398). -/
  assembleS : Nat
  assembleBy : Nat
  /-- The kind of the start or reset that runs, or ran last (Table 18-3). -/
  kind : ResetKind
  /-- Power sequencing: rail groups up, enables raised, retries taken, the 100 ms wait before a retry, POWER_FAULT
  driven, the regulators off until power-on (R445 to R447). -/
  railsUp : Nat
  railsOn : Nat
  retries : Nat
  railWait : Bool
  powerFault : Bool
  tripped : Bool
  /-- The AVS target of VDD_CNL in units of 5 mV; 0 while none is set (R444). -/
  avs : Nat
  /-- The watchdog (R393): the time of its last kick, and the period loaded with it. -/
  wdogAt : Nat
  wdogPeriod : Nat
  /-- The last reservoir training was full, because no values were moored (RSV_STATUS.FULL_TRAIN). -/
  fullTrain : Bool
  deriving DecidableEq, Repr, Inhabited

end Sys2Proof.Machine
end

