-- ==== Sys2Proof/Syntax.lean ====
section
/-! DEFINITION. The commands of the block: one constructor per row of spec/opcode_table.json, in the
table's order. A docstring gives the row's summary and its rule; the operands are what the rule says
the command or event carries. -/

namespace Sys2Proof

/-- A command to the block, or an event at one of its pins, links, drives or timers. -/
inductive Instr
  /-- A fabrics Connect capsule takes a queue from the RDMA or TCP pool, creates the association or I/O queue, homes it on an engine, or completes with Connect Controller Busy or Connect Invalid Parameters. (R37) -/
  | connect (qref : Nat) (cid : Nat) (hostNqn subNqn : Nat) (hostId : Nat) (cntlid qid sqsize katoMs cattr : Nat)
  /-- A Property Get is served on arrival without entering the admin task slot. (R44) -/
  | propertyGet (qref cid ofst : Nat)
  /-- A Property Set is served on arrival without entering the admin task slot. (R44) -/
  | propertySet (qref cid ofst value : Nat)
  /-- A Disconnect deletes its I/O queue after its admitted commands complete, or tears down the whole association when it arrives on the admin queue. (R458) -/
  | disconnect (qref cid : Nat)
  /-- An Authentication Send carries a DH-HMAC-CHAP message without occupying the admin task slot. (R40) -/
  | authenticationSend (qref cid : Nat) (m : AuthMsg)
  /-- An Authentication Receive returns a DH-HMAC-CHAP message without occupying the admin task slot. (R40) -/
  | authenticationReceive (qref cid : Nat)
  /-- A queue whose required authentication has not completed within 2 s of the Connect response is torn down without further status. (R40) -/
  | authenticationTimeout (qref : Nat)
  /-- An Identify command for CNS 00h, 01h, 02h, 03h or 06h returns the controller, namespace or list data of the device. (R42) -/
  | nvmeIdentify (c : AdminCmd)
  /-- A Get Log Page returns a supported log page, including C0h deferred entries (optionally clearing them and LOST) and C1h wake latencies. (R54) -/
  | getLogPage (c : AdminCmd)
  /-- A Set Features sets a supported feature, such as the association's power-state wish, temperature threshold or number of queues. (R41) -/
  | setFeatures (c : AdminCmd)
  /-- A Get Features returns the value in force of a supported feature. (R41) -/
  | getFeatures (c : AdminCmd)
  /-- An Asynchronous Event Request is parked until an event completes it, or completes at once with Asynchronous Event Request Limit Exceeded beyond AERL + 1. (R44) -/
  | asynchronousEventRequest (qref cid : Nat)
  /-- A Keep Alive restarts the association's keep-alive timer without entering the admin task slot. (R41) -/
  | keepAlive (qref cid : Nat)
  /-- The keep-alive timer of an association expires and the association is torn down. (R41) -/
  | keepAliveTimeout (cntlid : Nat)
  /-- An Abort in the admin slot removes a command still queued or on a tow line with Command Abort Requested, or reports not aborted. (R45) -/
  | abort (c : AdminCmd)
  /-- A Format NVM selects one of the namespace's offered LBA formats with SES 0 or 1. (R56) -/
  | formatNvm (c : AdminCmd)
  /-- A command whose opcode is not supported completes with Invalid Command Opcode. (R41) -/
  | unsupportedOpcode (qref cid opcode : Nat)
  /-- An NVMe command capsule is placed in the queue's submission-queue storage to wait for admission. (R48) -/
  | capsuleArrival (c : IoCmd)
  /-- A Read is planned, served from gather slots or members, decrypted or verified, placed at the host and answered with its response capsule. (R27) -/
  | read (c : IoCmd)
  /-- A Write is divided at stripe boundaries into full-stripe writes and ledgered or read-modify-write partial stripes, and completes when every part has. (R25) -/
  | write (c : IoCmd)
  /-- A Flush waits for no write or destage and completes with success unless it claims deferred marks. (R179) -/
  | flush (c : IoCmd)
  /-- A Compare reads the blocks and compares them with the host data, completing with Compare Failure on mismatch. (R461) -/
  | compare (c : IoCmd)
  /-- A fused Compare and Write holds the block interlocks from PLANNED, compares, and writes only when the compare succeeds. (R463) -/
  | compareAndWrite (first second : IoCmd)
  /-- A Write Zeroes writes zeroes to the range, honouring DEAC, with no MDTS limit. (R41) -/
  | writeZeroes (c : IoCmd)
  /-- A Dataset Management Deallocate of up to 256 ranges deallocates blocks that then read as zeroes. (R41) -/
  | datasetManagement (c : IoCmd)
  /-- A Verify checks parity and, for sealed namespaces, tags without releasing any data. (R227) -/
  | verify (c : IoCmd)
  /-- A Reservation Register changes a host's registration, with moored state. (R41) -/
  | reservationRegister (c : IoCmd)
  /-- A Reservation Report returns the namespace's reservation state. (R41) -/
  | reservationReport (c : IoCmd)
  /-- A Reservation Acquire takes or preempts a reservation, with moored state. (R41) -/
  | reservationAcquire (c : IoCmd)
  /-- A Reservation Release releases or clears a reservation, with moored state. (R41) -/
  | reservationRelease (c : IoCmd)
  /-- An engine's round-robin admission turn reaches a homed queue and admits its head command onto the tow line or passes it over. (R99) -/
  | admissionTurn (e : Fin 256)
  /-- A basin's return to RUN ends, and a held trigger may return another basin. (R339) -/
  | basinReturnComplete (b : Fin 16)
  /-- An RDMA CM REQ passing R38 takes a probation context, negotiates the extension and is answered with REP, or REJ when no context is free. (R66) -/
  | cmReq (r : CmReq)
  /-- An RTU or first valid packet enables transport on a probation context, accepting only a Connect capsule. (R67) -/
  | cmRtu (p : Fin 256)
  /-- A DREQ received on an RTS QP is answered with DREP and the QP flushes into DRAINING. (R67) -/
  | cmDreq (qp : Fin 65536)
  /-- A DREP received on a DRAINING QP whose flush is complete frees its entry. (R67) -/
  | cmDrep (qp : Fin 65792)
  /-- The 20 ms DREQ timer of a DRAINING QP expires and DREQ is resent, the entry being freed after three unanswered sends. (R67) -/
  | dreqRetryExpiry (qp : Fin 65792)
  /-- A probation context without a Connect capsule for 5 s is disconnected with DREQ. (R66) -/
  | probationTimeout (p : Fin 256)
  /-- A RoCEv2 packet on a QP is checked, placed within the window or discarded, and acknowledged as the ordering and spray rules require. (R73) -/
  | packetReceive (p : Packet)
  /-- The reorder timer expires with a PSN above E and a selective NAK is sent. (R74) -/
  | reorderTimerExpiry (qp : Fin 65536)
  /-- ACK_DELAY after the first packet since the last acknowledgement expires and an acknowledgement is sent. (R74) -/
  | ackDelayExpiry (qp : Fin 65536)
  /-- An ordinary ACK or SACK frees send buffers without causing retransmission. (R75) -/
  | ackReceive (qp : Fin 65536) (psn : Nat) (sack : List Nat)
  /-- A selective NAK retransmits the packets its bitmap shows as missing. (R75) -/
  | selectiveNakReceive (qp : Fin 65536) (base : Nat) (got : List Nat)
  /-- A Remote Access, Invalid Request or Remote Operational NAK for the device's own request puts the QP into ERROR. (R90) -/
  | nakReceive (qp : Fin 65536) (code : Fin 3)
  /-- The local ACK timeout expires and unacknowledged packets are retransmitted, or the QP enters ERROR when retries are exhausted. (R75) -/
  | localAckTimeout (qp : Fin 65536)
  /-- The PATH_PROBE interval of a down path expires and one retransmitted packet probes it. (R78) -/
  | pathProbeExpiry (qp : Fin 65536) (path : Fin 8)
  /-- A CNP cuts the QP's rate and halves the marked path's weight, at most once per EPOCH. (R80) -/
  | cnpReceive (qp : Fin 65536) (path : Option (Fin 8))
  /-- A rate-control interval expires and each cut QP recovers halfway or probes upward. (R80) -/
  | rateIntervalExpiry
  /-- An RDMA WRITE to a dock window is checked and placed, or answered with Remote Access Error. (R85) -/
  | dockWrite (p : Packet)
  /-- An RDMA READ request from a dock window is checked and answered with its data. (R85) -/
  | dockRead (p : Packet)
  /-- A fetch-and-add or compare-and-swap on a BANK window executes at the bank and returns the old value. (R70) -/
  | dockAtomic (p : Packet)
  /-- A zero-length RDMA WRITE places nothing and delivers only its immediate and FINAL ordering. (R69) -/
  | zeroLengthWrite (p : Packet)
  /-- A WRITE with immediate to a STAIRS window matching its tag validates and installs a staircase, answering with a status SEND. (R86) -/
  | staircaseInstall (p : Packet)
  /-- A staircase step completes, starting the next step, rearming or removing the staircase, or faulting it. (R83) -/
  | staircaseStepComplete (qp : Fin 65536) (key step : Nat) (ok : Bool) (data : List Byte)
  /-- A WRITE with immediate to a bound DATA window matching COMMIT_TAG is admitted as a ledgered write of the named blocks. (R87) -/
  | dockCommit (p : Packet)
  /-- The revocation drain limit expires, the rkey dies and the revoke receipt is sent. (R89) -/
  | drainLimitExpiry (win : Fin 4096)
  /-- The flush of a QP in ERROR completes and DREQ is sent. (R91) -/
  | qpFlushComplete (qp : Fin 65536)
  /-- An uncorrectable parity or ECC fault fences a tug, discarding its packet, with all QPs of a wholly fenced group entering ERROR. (R65) -/
  | tugFence (t : Fin 64)
  /-- A TCP segment is reassembled, acknowledged and its PDUs checked, a bad header digest being fatal. (R92) -/
  | tcpSegmentReceive (t : TcpSeg)
  /-- An ICReq is answered with ICResp, any spray offer bytes being zeroed. (R92) -/
  | icreq (conn : Fin 16384) (hdgst ddgst : Bool)
  /-- An H2CData PDU delivers write data, a bad data digest failing the command with Transient Transport Error. (R92) -/
  | h2cData (berth : Fin 262144) (data : List Sector) (digestOk : Bool)
  /-- A host termination request ends the connection and tears down the association. (R92) -/
  | h2cTermReq (conn : Fin 16384)
  /-- The retransmission timeout expires and the segment is resent, or the connection fails after MAX_RETX. (R92) -/
  | tcpRtoExpiry (conn : Fin 16384)
  /-- The delayed-ACK timer expires and an acknowledgement is sent. (R92) -/
  | tcpDelackExpiry (conn : Fin 16384)
  /-- A write of TUG_QPT_IDX snapshots the named QP table entry into TUG_QPT_DATA in one canal cycle. (R93) -/
  | tugQptIdxWrite (entry : Fin 65536)
  /-- An idle engine looks for a victim in its basin, or across basins after LONG_IDLE, every 64 cycles. (R104) -/
  | towLook (e : Fin 256)
  /-- A begun tow completes, its entries landing on the thief's tow line with the oldest run at once. (R106) -/
  | towArrival (e : Fin 256)
  /-- An engine with room takes a command from the head of its tow line, or the tail when it is older than AGE_US. (R102) -/
  | engineTake (e : Fin 256)
  /-- An engine runs one ready step of a command (parse, plan, fetch, compare, issue, merge, complete) and checkpoints it. (R111) -/
  | engineStep (berth : Fin 262144)
  /-- Write data fetched by RDMA READ arrives and the waiting command's step becomes ready. (R111) -/
  | hostDataArrival (berth : Fin 262144) (pkts : List ReadPkt)
  /-- The tug accepts a completion cell, sets POSTED and sends the response capsule. (R111) -/
  | completionCellAccept (berth : Fin 262144)
  /-- An uncorrectable bank error, parity error or misaligned atomic fences an engine. (R112) -/
  | engineFence (e : Fin 256) (cause : Fin 4)
  /-- A single step running beyond BRG_STEP_LIMIT fences its engine. (R112) -/
  | stepLimitExpiry (e : Fin 256)
  /-- The basin reset manifest fences every engine of a basin and, once its tow lines and berths are empty, resets and self-tests them. (R114) -/
  | basinReset (h : Hdr) (basin : Nat)
  /-- The engine self-test of a basin reset ends, passing engines enter RUN, unhomed queues and orphaned berths are recovered and the receipt is sent. (R114) -/
  | basinSelftestComplete (b : Fin 16) (pass : BitVec 16)
  /-- A write of BRG_BANK_CTL requests a bank state, refused for an engine in RUN. (R115) -/
  | brgBankCtlWrite (e : Fin 256) (req : Nat)
  /-- A bank returning from RETENTION or OFF becomes ON after 120 ns or 2.1 µs and stalled accesses proceed. (R115) -/
  | bankReturnOn (e : Fin 256)
  /-- A write of BRG_BERTH_IDX starts a snapshot of the named berth through the wharf and sets BUSY. (R110) -/
  | brgBerthIdxWrite (berth : Nat)
  /-- A berth snapshot completes into BRG_BERTH_DATA and BUSY clears. (R110) -/
  | berthSnapshotComplete
  /-- A source holding a credit sends a cell, which is replicated, folded into parity, queued in the pound or spilled. (R123) -/
  | cellEntry (c : Cell) (load : Option CellLoad) (group : List CellDst) (par : Option CtxOpen) (ecc : Fin 3)
  /-- The canal issues a credit for a destination queue to a waiting source, 6 cycles after demand or a slot freeing, unless withheld. (R123) -/
  | creditIssue (dst : CellDst) (cls : Fin 7) (wants : List CellDemand)
  /-- A destination takes one chosen cell from its queues by CTL priority, DWRR and round-robin. (R122) -/
  | cellDelivery (att : Fin 100) (ecc : Fin 3)
  /-- Spilled cells of a queue are recalled in order when its pound share falls below QMIN ÷ 2. (R137) -/
  | spillRecall (dst : CellDst) (cls : Fin 7) (err : Option (Fin 16 × Bool))
  /-- A non-CTL cell or accumulator reaching its age limit is discarded and a discard notice sent. (R139) -/
  | cellAgeDiscard (acc : Bool) (i u : Nat)
  /-- A CTL cell waiting beyond the age limit sets STUCK and signals the lockkeeper, staying queued. (R140) -/
  | ctlStuck (slot : Nat)
  /-- An owner receives the first discard notice of an attempt and cancels the attempt's FLOW or TAG. (R456) -/
  | discardNotice
  /-- A cancel completes once earlier notices are delivered, and the owner reruns, reissues or fails the transfer as Table 5-7 states. (R456) -/
  | cancelComplete
  /-- A write of a partition's reserve and cap takes effect if valid, or sets PART_ERR and is rejected. (R136) -/
  | cnlPartCfgWrite (p : Fin 7) (v : Word32)
  /-- A write of CNL_SPILL_CFG changes spill parameters, a size change being held until the spill area is empty. (R138) -/
  | cnlSpillCfgWrite (v : Word32)
  /-- A write of CNL_ATT_IDX snapshots the named attachment and class into CNL_ATT_STAT. (R145) -/
  | cnlAttIdxWrite (att : Fin 128) (cls : Fin 8)
  /-- A role becomes MISSING, in-flight operations are replanned, the redundancy test runs and a rebuild target is sought. (R157) -/
  | memberLoss (a : Fin 16) (role : Fin 32)
  /-- ARRAY_CREATE checks members, writes labels and starts zeroing every data region. (R171) -/
  | arrayCreate (h : Hdr) (a : Nat) (mode : Mode) (bays : List Nat) (unit : Nat) (d : Bool) (pool : Nat)
  /-- All members of a CREATING array are zeroed, the commit point is reached, the array is OPTIMAL and the receipt sent. (R465) -/
  | arrayZeroed (a : Fin 16)
  /-- ARRAY_DELETE stops rebuild and scrub, erases labels and frees bays, refused while a namespace lies on the array. (R171) -/
  | arrayDelete (h : Hdr) (a : Nat)
  /-- ARRAY_QUERY returns state, members, targets, cursor, rem values and generation. (R171) -/
  | arrayQuery (h : Hdr) (a : Nat)
  /-- SPARE_POOL_SET replaces a pool's bays and binds a target for a DEGRADED array at once. (R171) -/
  | sparePoolSet (h : Hdr) (p : Nat) (bays : Nat)
  /-- MEMBER_FAIL makes a role MISSING, refused when it would take the array OFFLINE without FORCE. (R171) -/
  | memberFail (h : Hdr) (a role : Nat) (force : Bool)
  /-- MEMBER_REPLACE starts a rebuild of a MISSING role or a restore of a SLOTTED role onto the given bay. (R171) -/
  | memberReplace (h : Hdr) (a role bay : Nat)
  /-- SCRUB_START begins a scrub pass now, optionally from a given stripe. (R171) -/
  | scrubStart (h : Hdr) (a : Nat) (start : Option Nat)
  /-- SCRUB_STOP ends the pass and keeps the position. (R171) -/
  | scrubStop (h : Hdr) (a : Nat)
  /-- SCRUB_LOG returns the array's mismatch list, optionally clearing it. (R171) -/
  | scrubLog (h : Hdr) (a : Nat) (clear : Bool)
  /-- ARRAY_SALVAGE brings an OFFLINE array back as SALVAGED with its namespaces write-protected. (R167) -/
  | arraySalvage (h : Hdr) (a : Nat)
  /-- The rebuild takes the cursor stripe's interlock, reconstructs or copies each set role's unit to its target and advances the cursor. (R164) -/
  | rebuildStripe (a : Fin 16)
  /-- INTERVAL_D days after the previous pass began, a scrub pass begins. (R169) -/
  | scrubPassTimer (a : Fin 16)
  /-- Scrub checks one stripe's syndromes or copies, logging and optionally repairing mismatches. (R169) -/
  | scrubStripe (a : Fin 16)
  /-- A write of ARY_REM_IDX snapshots the named role's rem into ARY_REM_LO/HI. (R164) -/
  | aryRemIdxWrite (a : Fin 16) (role : Nat)
  /-- A moored array is assembled from member labels once its bays settle or ASSEMBLE_S passes, and its replay follows. (R170) -/
  | arrayAssembly (a : Fin 16) (left : List (Fin 48 × Medium))
  /-- A pair opens a segment of waiting records and writes it to both copies when in-flight and ring limits allow. (R177) -/
  | segmentIssue (a : Fin 16) (p : Fin 17)
  /-- A segment completes on a copy, and writes whose blocks are durable on both copies and in gather slots complete. (R178) -/
  | segmentComplete (a : Fin 16) (p : Fin 17) (sseq : Nat) (copyA ok : Bool)
  /-- A stripe's oldest gather slot reaches AGE_MS and its destage becomes due. (R183) -/
  | gatherAgeExpiry (a : Fin 16) (stripe : Nat)
  /-- A due stripe starts destage by the mirror, whole or partial method, within DESTAGE_MAX. (R183) -/
  | destageStart (a : Fin 16) (stripe : Nat) (ue : List Nat)
  /-- A destage's writes complete, a RETIRE entry is written and its gather slots freed. (R184) -/
  | destageComplete (a : Fin 16) (stripe : Nat)
  /-- One live segment of a REPAIRING pair is copied from the survivor to the candidate. (R188) -/
  | ledgerRepairSegment (a : Fin 16) (p : Fin 17)
  /-- Replay reads each pair's rings, keeps unretired records, reloads the gather buffer and restores marks. (R191) -/
  | replay (a : Fin 16)
  /-- A requester access hits, recalls from the lighter, or misses and allocates in its class mask. (R199) -/
  | wharfAccess (r : WharfReq) (ecc : Fin 4)
  /-- A line fill from the reservoir arrives and the waiting berth or requester proceeds. (R201) -/
  | wharfFillComplete (line : Nat) (err : Option (Fin 16 × Bool))
  /-- A dirty line's writeback to the reservoir completes and held maintenance or walks proceed. (R206) -/
  | wharfWritebackComplete (line : Nat)
  /-- A range CLEAN writes back dirty lines of the range and leaves them clean. (R205) -/
  | maintClean (line lines : Nat)
  /-- A range INVALIDATE removes the range's lines, writing back dirty ones. (R205) -/
  | maintInvalidate (line lines : Nat)
  /-- A range CLEAN_INVALIDATE writes back and removes the range's lines. (R205) -/
  | maintCleanInvalidate (line lines : Nat)
  /-- Every line of a range operation is done, BUSY clears and DONE is set. (R207) -/
  | maintRangeComplete
  /-- A write of WHF_CTL.EN = 0 starts the cleaning walk. (R209) -/
  | wharfDisable
  /-- A write of WHF_CTL.EN = 1 stops a cleaning walk or turns the wharf ON. (R208) -/
  | wharfEnable
  /-- The cleaning walk ends with every writeback done and the lighter empty, and the wharf is OFF with CLEAN set. (R209) -/
  | cleaningWalkComplete
  /-- The 9.4 µs invalidation walk ends and the wharf enters ON or OFF. (R211) -/
  | invalidationWalkEnd
  /-- A write of LIGHTER_EN turns the lighter off, writing back and emptying it, or on. (R202) -/
  | lighterEnWrite (en : Bool)
  /-- WHARF_DISCARD runs the invalidation walk without writeback and reports the dirty lines lost. (R212) -/
  | wharfDiscard (h : Hdr)
  /-- A write of CIP_SLOT_IDX selects a key slot and clears the staging buffer. (R219) -/
  | cipSlotIdxWrite (slot : Nat)
  /-- A write of CIP_KEY_DATA stages key bytes that can never be read back. (R219) -/
  | cipKeyDataWrite (n : Fin 16) (v : Word32)
  /-- COMMIT loads the staged key and base into the inactive bank and activates it, or is refused as weak or busy. (R219) -/
  | keyCommit (mode : Nat)
  /-- The ZEROISE bit makes the slot EMPTY and retires its active bank for zeroing. (R221) -/
  | slotZeroise
  /-- A write of the serial pair loads the slot's write serial counter and sets SERIAL_SRC to 0. (R230) -/
  | cipSerialWrite (lo hi : Word32)
  /-- A write of CIP_PAIR_KEY loads pair key bytes that can never be read back. (R222) -/
  | cipPairKeyWrite (n : Fin 8) (v : Word32)
  /-- KEY_LOAD stages and commits a key and nonce base into a slot. (R219) -/
  | keyLoad (h : Hdr) (slot mode : Nat) (key : BitVec 512) (base : BitVec 32)
  /-- KEY_ZEROISE empties one or all slots, its receipt following the overwrite. (R221) -/
  | keyZeroise (h : Hdr) (slot : Nat)
  /-- SERIAL_SET loads a slot's serial counter with a software value. (R230) -/
  | serialSet (h : Hdr) (slot : Nat) (serial : Word64)
  /-- KEY_QUERY returns a slot's mode, banks, counter and bindings, never key material. (R219) -/
  | keyQuery (h : Hdr) (slot : Nat)
  /-- PAIR_KEY_LOAD loads the pair key used to wrap checkpointed key slots. (R222) -/
  | pairKeyLoad (h : Hdr) (key : BitVec 256)
  /-- A cipher lane encrypts or decrypts a cell, sealing or holding sealed blocks in its tag-hold buffer. (R226) -/
  | cipherCell (l : Fin 10) (berth : Fin 262144) (blk : Nat) (cell : Fin 16) (reading : Bool)
  /-- A lane's expanded-key cache miss completes its 40 ns load and the slot's cells proceed. (R215) -/
  | keyCacheFill (l : Fin 10) (slot : Fin 4096)
  /-- A window of entropy samples passes or fails the health tests, the source degrading after three failed reseeds. (R234) -/
  | entropyWindow (repetition proportion : Bool)
  /-- After 2^16 generate requests a lane's DRBG is reseeded from conditioned entropy. (R233) -/
  | drbgReseed (l : Fin 10)
  /-- An uncorrectable error fences a cipher lane, discarding its cells, with the global fault when all lanes are fenced; an error that ECC has corrected is counted. (R235) -/
  | laneFence (l : Fin 10) (corrected : Bool)
  /-- A received frame passes FEC, MAC, control, VLAN, wake, ACL and IP checks and is sorted by the sluice, or is discarded. (R255) -/
  | frameReceive (port : Fin 129) (f : RxFrame)
  /-- Half a quanta duration passes with occupancy at XON or above and the XOFF frame is resent. (R259) -/
  | pfcRefreshExpiry (port : Fin 128) (prio : Fin 8)
  /-- A received PFC or pause time runs out and the stopped classes resume. (R260) -/
  | pauseTimerExpiry (port : Fin 128) (cls : Option (Fin 8))
  /-- A lane's scheduler chooses the next frame by strict, DWRR or forerunner passes, debiting its shapers. (R243) -/
  | egressFrameChoice (port : Fin 128) (heads : List (Option Nat))
  /-- A tug group holding a credit for a port and service chooses the next packet among its subscribers. (R246) -/
  | subscriberChoice (group : Fin 8) (port : Fin 128) (cls : Fin 8) (waiting : List (Nat × Nat))
  /-- A write of SLC_PORT_CFG.MODE or STRICT_N applies at the next frame choice and zeroes the lane's deficits. (R247) -/
  | slcModeWrite (port : Fin 128) (mode strictN : Nat)
  /-- SLC_PORT_SET writes a port's sluice mode, overhead, weights, shapers and pre-colours. (R250) -/
  | slcPortSet (h : Hdr) (port : Nat) (mode strictN overhead : OptVal) (weights : List (Nat × Nat)) (shapers : List (Nat × Nat × Nat × Nat)) (preColours : List (Nat × Word32))
  /-- METER_SET writes a meter's algorithm, rates and burst sizes. (R239) -/
  | meterSet (h : Hdr) (meter : Nat) (words : List (Nat × Word32))
  /-- SLC_CFG_SET writes YELLOW_FREE and YELLOW_DEPTH. (R241) -/
  | slcCfgSet (h : Hdr) (yellowFree yellowDepth : OptVal)
  /-- SUB_NODE_SET writes a subscriber node. (R246) -/
  | subNodeSet (h : Hdr) (node : Nat) (words : List (Nat × Word32))
  /-- NSB_SET writes a namespace's admission bucket rates and bursts. (R242) -/
  | nsbSet (h : Hdr) (nsid : Nat) (cmdRate cmdBurst byteRate byteBurst : OptVal)
  /-- QUAD_SET changes a quad's mode, auto-negotiation, lane map or DEG_MAX, retraining its ports. (R253) -/
  | quadSet (h : Hdr) (quad : Nat) (mode anEn map degMax : OptVal)
  /-- A direct write of MODE, AN_EN or NET_LANE_MAP drops the quad's links at the next frame boundary and retrains them. (R253) -/
  | quadReconfigWrite (q : Fin 32) (cfg map : Option Word32)
  /-- A network port's link comes up and the device announces its addresses. (R257) -/
  | linkUp (port : Fin 128) (eee : Bool)
  /-- A port's link goes down, its outbound cells are discarded, pause state clears and sprayed paths are marked down. (R267) -/
  | linkDown (port : Fin 128)
  /-- One second of duplicate address detection ends and the IPv6 address becomes live or is reported DUPLICATE. (R257) -/
  | dadComplete (entry : Fin 1024) (duplicate : Bool)
  /-- The 1 s neighbour request timer expires and the request is repeated up to 3 times. (R257) -/
  | neighbourRetryExpiry (port : Nat) (addr : Nat)
  /-- A neighbour entry 30 s past its last confirmation is revalidated by unicast probe. (R257) -/
  | neighbourRevalidate (port : Nat) (addr : Nat)
  /-- A port with EEE negotiated and nothing to send for IDLE_US enters LPI, possibly gating its quad in P1. (R264) -/
  | lpiEntry (port : Fin 128) (rx : Bool)
  /-- PORT_SET writes port, PFC, threshold, wake and EEE settings, refusing invalid threshold sets. (R258) -/
  | portSet (h : Hdr) (port : Nat) (cfg pfc eee : Option Word32) (thr wake : List (Nat × Word32))
  /-- ADDR_SET creates or replaces an address entry, running DAD for IPv6. (R256) -/
  | addrSet (h : Hdr) (entry : Nat) (a : AddrParams)
  /-- ADDR_DELETE removes an address entry. (R256) -/
  | addrDelete (h : Hdr) (entry : Nat)
  /-- PORT_QUERY returns the state and counters of a port set. (R367) -/
  | portQuery (h : Hdr) (ports : List Nat)
  /-- DISCOVERY_SET sets the discovery policy of a port set. (R39) -/
  | discoverySet (h : Hdr) (ports : List Nat) (policy : Nat)
  /-- ACL_SET writes one ACL rule of a port, applying from the next frame. (R263) -/
  | aclSet (h : Hdr) (port index : Nat) (rule : AclRule)
  /-- ACL_QUERY returns a port's 16 rules. (R263) -/
  | aclQuery (h : Hdr) (port : Nat)
  /-- MGMT_SRC_SET writes or deletes an entry of the manifest source list. (R354) -/
  | mgmtSrcSet (h : Hdr) (entry : Nat) (p : Option Prefix)
  /-- 100 ms after bay power-good, PERST_N is released and the bay enters TRAINING. (R283) -/
  | drivePerstRelease (bay : Fin 48)
  /-- A drive link trains meeting R272 and the bay enters INIT. (R283) -/
  | driveLinkUp (bay : Fin 48) (speed width : Nat)
  /-- A 1 s training window ends without link, pulsing PERST_N or failing the bay. (R283) -/
  | trainingWindowExpiry (bay : Fin 48)
  /-- Lockkeeper initialisation of a drive ends and the bay becomes READY, or REFUSED when a check fails. (R276) -/
  | driveInitComplete (bay : Fin 48) (id : DriveId) (content : Option Medium)
  /-- INIT not finished within CAP.TO + 2 s fails the bay. (R283) -/
  | driveInitTimeout (bay : Fin 48)
  /-- A drive's memory read of a queue, PRP or data page is served from the canal, or gets Unsupported Request or Completer Abort. (R275) -/
  | driveMemoryRead (bay : Fin 48) (addr : Word64) (tag : Option Word32)
  /-- A drive's memory write of completion entries or read data is taken into the drive group, or discarded when outside its space. (R275) -/
  | driveMemoryWrite (bay : Fin 48) (addr : Word64)
  /-- A drive completion entry is consumed, reissuing retryable errors and marking the operation finished in its plan. (R279) -/
  | driveCompletion (bay : Fin 48) (e : DriveEntry)
  /-- A drive operation outstanding for CMD_TMO starts the ladder at rung 1 and the bay enters LADDER. (R280) -/
  | driveCommandTimeout (bay : Fin 48) (berth : Fin 262144) (op : Nat)
  /-- A drive link going down without loss of presence starts the ladder at rung 3 with PERST_N. (R280) -/
  | driveLinkLoss (bay : Fin 48)
  /-- Rung 1 fails to complete within ABORT and the ladder moves to rung 2, deleting and recreating queues. (R280) -/
  | rung1Expiry (bay : Fin 48)
  /-- Rung 2 fails to complete within QUEUE and lockkeeper firmware starts a controller reset at rung 3. (R280) -/
  | rung2Expiry (bay : Fin 48)
  /-- CSTS.RDY stays 1 beyond min(CAP.TO, 5 s) and PERST_N is asserted for 100 ms. (R280) -/
  | readyWaitExpiry (bay : Fin 48)
  /-- A 100 ms PERST_N pulse ends and the link retrains, or the bay is power-cycled if enabled. (R280) -/
  | perstPulseEnd (bay : Fin 48) (trains : Bool)
  /-- RESET_S passes from the start of rung 3 without READY and the drive is gone. (R282) -/
  | rung3Expiry (bay : Fin 48)
  /-- A drive reports shutdown complete, or 10 s pass, and PERST_N is asserted and the bay is OFF. (R285) -/
  | driveShutdownComplete (bay : Fin 48)
  /-- T1 of array idle time passes and every member is sent to PS1. (R286) -/
  | driveIdleT1Expiry (a : Fin 16)
  /-- A further T2 passes and every member is sent to PS2. (R286) -/
  | driveIdleT2Expiry (a : Fin 16)
  /-- Every MI_POLL_S the bay sideband reads the NVMe-MI data structure of each powered bay. (R287) -/
  | miPoll (bay : Fin 48) (ok : Bool) (temp cw life : BitVec 8)
  /-- DRV_GROUP_SET sets a drive group's width mode and SRIS, refused while a bay is READY or LADDER. (R273) -/
  | drvGroupSet (h : Hdr) (g : Nat) (mode : Nat) (sris : Bool)
  /-- A write of DRV_GRP_CFG.MODE is stored and applies at each bay's next training, releasing MUX_SEL_N for modes 0 and 1. (R273) -/
  | drvGrpCfgWrite (g : Fin 16) (mode : Nat) (sris : Bool)
  /-- DRV_CFG_SET writes fields of DRV_CFG, DRV_TMO_CFG and DRV_IDLE_CFG. (R289) -/
  | drvCfgSet (h : Hdr) (cfg tmo : Option Word32) (idle : List (Nat × Word32))
  /-- BAY_PRSNT_N low for 250 ms makes the bay PRESENT and informs the lockkeeper. (R299) -/
  | presenceStable (bay : Fin 48)
  /-- BAY_PRSNT_N high for 1 ms pulls both gates low, clears INTENT, returns the bay to EMPTY and the drive is gone. (R299) -/
  | presenceLost (bay : Fin 48)
  /-- An enable through PDL_CMD sets INTENT and queues the bay for ramping, refused for an invalid limit. (R293) -/
  | pdlCmdEnable (bay : Fin 48)
  /-- A disable through PDL_CMD cuts the main rail, then the auxiliary rail, and clears INTENT. (R300) -/
  | pdlCmdDisable (bay : Fin 48)
  /-- A cycle through PDL_CMD turns an ON bay off and requeues it after CYCLE_OFF, or acts as an enable. (R300) -/
  | pdlCmdCycle (bay : Fin 48)
  /-- BAY_POWER enables, disables or cycles a set of bays and reports each bay's state. (R310) -/
  | bayPower (h : Hdr) (bays : Nat) (action : BayAction)
  /-- The next queued bay starts its auxiliary ramp when fewer than MAX_RAMP ramp and STAGGER has passed. (R294) -/
  | rampStart
  /-- A rail's VOUT reaching input less 0.3 V drives its gate with the full charge pump. (R295) -/
  | railFullEnhancement (bay : Fin 48) (main : Bool)
  /-- A rail's power-good asserts, starting the main ramp or making the bay ON with PG set. (R295) -/
  | railPowerGood (bay : Fin 48) (main : Bool)
  /-- A gate not reaching VOUT + 7 V within 200 µs of full enhancement puts the bay in FET_FAULT. (R296) -/
  | gateCheckTimeout (bay : Fin 48) (main : Bool)
  /-- A ramp not reaching full enhancement in time puts the bay in FET_FAULT. (R296) -/
  | rampStallTimeout (bay : Fin 48) (main : Bool)
  /-- A rail current reaching its limit regulates the gate, sets LIMIT, starts the fault timer and holds or drops power-good. (R291) -/
  | currentLimitOnset (bay : Fin 48) (main : Bool)
  /-- Rail currents falling below their limits stop and reset the fault timer. (R297) -/
  | currentLimitClear (bay : Fin 48)
  /-- The paddle fault timer expires, both gates are pulled low and the bay enters RETRY or LATCHED. (R298) -/
  | faultTimerExpiry (bay : Fin 48)
  /-- A rail current of twice its limit pulls both gates low within 1 µs and faults the bay with SHORT. (R292) -/
  | railShort (bay : Fin 48) (main : Bool)
  /-- The paddle retry timer expires and the bay rejoins the enable queue. (R298) -/
  | paddleRetryExpiry (bay : Fin 48)
  /-- Bay power-good held for 60 s clears FAULTS. (R298) -/
  | faultCountClear (bay : Fin 48)
  /-- After a disable, the auxiliary rail turns off when main VOUT falls below 1 V or after 100 ms. (R300) -/
  | auxRailOff (bay : Fin 48)
  /-- CYCLE_OFF after a cycle command's power-off, the bay rejoins the queue. (R300) -/
  | cycleOffExpiry (bay : Fin 48)
  /-- PADDLE_CFG writes paddle configuration fields for a set of bays. (R310) -/
  | paddleCfg (h : Hdr) (bays : Nat) (cfg0 cfg1 sense : Option Word32)
  /-- PADDLE_QUERY returns paddle states, faults, measurements and counters. (R310) -/
  | paddleQuery (h : Hdr) (bays : Nat)
  /-- A feed rising to VSHELF + 50 mV conducts within 2 µs. (R304) -/
  | feedForwardTurnOn (f : Fin 2)
  /-- A feed current passing −1 A turns its FETs off within 250 ns and the feed is BLOCKED. (R305) -/
  | feedReverseTrip (f : Fin 2)
  /-- A feed's voltage crosses 2.0 V, UV or OV with its hysteresis and the feed changes state as a feed event. (R306) -/
  | feedStateChange (f : Fin 2) (vin : Nat)
  /-- A BLOCKED feed in its window for 1 ms and above VSHELF + 30 mV conducts again. (R305) -/
  | feedUnblock (f : Fin 2) (vin vshelf : Nat)
  /-- A feed with excessive forward drop for 10 ms, or a failed weir gate check, is set DEGRADED. (R307) -/
  | feedHealthDegraded (f : Fin 2)
  /-- A GOOD feed above VSHELF carrying less than 0.5 A for 10 ms is set OPEN. (R307) -/
  | feedHealthOpen (f : Fin 2)
  /-- A write of the feed enables takes effect or is ignored with CTL_REJ when no enabled GOOD feed would remain. (R306) -/
  | wirCtlWrite (enA enB : Bool) (drillH : Nat)
  /-- Every DRILL_H hours a feed swap drill starts. (R308) -/
  | feedDrillTimer
  /-- A write of WIR_CTL.DRILL_NOW starts a feed swap drill. (R308) -/
  | wirDrillNow
  /-- FEED_DRILL runs a feed swap drill and reports its result. (R308) -/
  | feedDrill (h : Hdr)
  /-- After 10 ms of raised regulation the drill judges PASS or OPEN and restores regulation. (R308) -/
  | drillEnd (share : Nat)
  /-- FEED_CFG writes fields of WIR_CTL and WIR_CFG. (R310) -/
  | feedCfg (h : Hdr) (enA enB : Option Bool) (drillH uv ov fwdMax rs : OptVal)
  /-- FEED_QUERY returns both feeds' states, measurements, health and last drill. (R310) -/
  | feedQuery (h : Hdr)
  /-- Every 10 ms towpath hardware sends a HEARTBEAT on every path that is up. (R316) -/
  | heartbeatTimer
  /-- A valid HEARTBEAT marks the partner alive on its path and updates lease, sync and fence observations. (R317) -/
  | heartbeatReceive (f : PeerHdr) (b : Beat)
  /-- 30 ms without a valid HEARTBEAT declares the partner lost, releasing held effects or starting a standby's takeover. (R317) -/
  | partnerLost
  /-- The standby writes a PROMPT frame's entries to its mooring store and answers PROMPT_ACK. (R318) -/
  | promptReceive (f : PeerHdr) (entries : List Machine.JEntry)
  /-- A PROMPT unacknowledged for 1 ms is resent. (R318) -/
  | promptResendExpiry
  /-- A PROMPT_ACK releases the effects held for the acknowledged entries. (R318) -/
  | promptAckReceive (f : PeerHdr) (seq : Nat)
  /-- The oldest unsent register entry reaching BATCH_MS opens a checkpoint window. (R319) -/
  | checkpointBatchExpiry
  /-- The standby powers its aqueduct receive path and answers WINDOW_READY within 8 ms. (R319) -/
  | windowReqReceive (f : PeerHdr) (first last kind : Nat)
  /-- The active sends CKPT frames of the missing entries or image chunks. (R319) -/
  | windowReadyReceive (f : PeerHdr) (held : Nat)
  /-- The standby writes a CKPT frame's entries or image bytes and answers CKPT_ACK. (R319) -/
  | ckptReceive (f : PeerHdr) (entries : List Machine.JEntry) (image : Option (Nat × Nat × Option Machine.MoorSlot))
  /-- A CKPT_ACK lets waiting manifest receipts be sent and advances the resync. (R319) -/
  | ckptAckReceive (f : PeerHdr) (seq offset : Nat)
  /-- 2 ms after the last acknowledgement the standby closes the checkpoint window. (R319) -/
  | windowCloseExpiry
  /-- A standby receiving YIELD claims the lease at once. (R329) -/
  | yieldReceive (f : PeerHdr) (epoch reqSeq : Nat)
  /-- A standby receiving PREPARE goes to P0 with quads and mode-1 drive links trained, or cancels. (R329) -/
  | prepareReceive (f : PeerHdr) (action : Nat)
  /-- A standby answers HEALTH_REQ with a HEALTH_RPT of its last towpath check. (R334) -/
  | healthReqReceive (f : PeerHdr)
  /-- The active receives the standby's health report for PARTNER_HEALTH. (R334) -/
  | healthRptReceive (f : PeerHdr) (result failed ppm age : Nat)
  /-- A standby executes the inner manifest of a RELAY frame in its standby agent. (R336) -/
  | relayReceive (f : PeerHdr) (inner : List Byte)
  /-- The active collects inner receipt bytes and completes PARTNER_RELAY when whole. (R336) -/
  | relayRcptReceive (f : PeerHdr) (total offset : Nat) (bytes : List Byte)
  /-- Every 100 ms an active's lease unit starts a renewal round with RSEQ + 1. (R323) -/
  | renewalRoundStart
  /-- A witness compare-and-write wins, loses or fails, and the round succeeds, fails or fences the active. (R322) -/
  | leaseOperationComplete (w : Fin 7) (result : Fin 3)
  /-- A witness operation not complete within 50 ms is aborted as failed. (R322) -/
  | leaseOperationTimeout (w : Fin 7)
  /-- T_ok + 300 ms without renewal, a lost renewal or a Reservation Conflict stops writes, releases muxes, downs links and takes STANDBY. (R324) -/
  | selfFence (cause : Fin 3)
  /-- 500 ms after the last observed renewal a standby rereads the records and runs a claim round. (R327) -/
  | leaseWaitExpiry (reads : List (Nat × LeaseRead))
  /-- The random 50–150 ms wait after a failed claim ends and the claim is retried. (R327) -/
  | claimBackoffExpiry (reads : List (Nat × LeaseRead))
  /-- RECHECK_S passes and a standby with a lost partner rechecks the bollards or retries its claim. (R327) -/
  | bollardRecheckExpiry
  /-- A standby that lost heartbeats reads the records twice 150 ms apart and sets ALIVE_BY_BOLLARDS when RSEQ advanced. (R317) -/
  | bollardCheckRead (reads : List (Nat × LeaseRead))
  /-- The 50 ms start-of-pair sideband listen ends and the device takes STANDBY or becomes the candidate. (R394) -/
  | pairListenExpiry
  /-- TAKEOVER on the active starts a planned takeover, or on a standby with FORCE claims ignoring CKPT_SEQ. (R329) -/
  | takeover (h : Hdr) (force : Bool)
  /-- DRAIN_MS after admission stops, the active fences, releases the records and sends YIELD. (R329) -/
  | plannedDrainExpiry
  /-- PAIR_SET sets pairing enable, pair ID, partner and preference and starts a full resync. (R335) -/
  | pairSet (h : Hdr) (en : Bool) (pairId : Nat) (partner : Nat) (prefer : Bool)
  /-- PAIR_QUERY returns role, partner state, sync, lease, witnesses and last takeover. (R335) -/
  | pairQuery (h : Hdr)
  /-- WITNESS_SET names 3, 5 or 7 witness drives and writes lease records in the current epoch. (R321) -/
  | witnessSet (h : Hdr) (bays : List Nat)
  /-- PARTNER_HEALTH fetches the standby's self-check report. (R334) -/
  | partnerHealth (h : Hdr)
  /-- CKPT_RESYNC starts a full resync of the standby. (R320) -/
  | ckptResync (h : Hdr)
  /-- PARTNER_RELAY sends a framed manifest to the standby and returns its receipt. (R336) -/
  | partnerRelay (h : Hdr) (inner : List Byte)
  /-- Every 100 ms lockkeeper firmware writes its checkpoint to towpath retained SRAM. (R332) -/
  | lkpCheckpoint
  /-- An uncorrectable core fault or watchdog expiry powers the spare core, which restores the checkpoint and resumes. (R332) -/
  | lkpCoreSwitch
  /-- Every INTERVAL_H hours a spare-core drill starts, or is skipped during a takeover, resync or transition. (R333) -/
  | lkpDrillTimer
  /-- A write of LKP_DRILL_CFG.DRILL_NOW starts a spare-core drill. (R333) -/
  | lkpDrillNow
  /-- LKP_DRILL runs a spare-core drill and returns its result. (R333) -/
  | lkpDrill (h : Hdr)
  /-- A drill's self-test and checksum comparison end and the spare is powered off. (R333) -/
  | lkpDrillComplete (pass : Bool) (durMs : Nat)
  /-- LKP_SWITCH switches lockkeeper cores when the spare is COLD. (R332) -/
  | lkpSwitch (h : Hdr)
  /-- Every 10 minutes a standby's towpath checks its slots, SRAM, oscillator, sideband and key unwrap. (R334) -/
  | standbyHealthCheck (failed : BitVec 6) (ppm : Nat)
  /-- PE_PERST_N deasserted in STANDBY powers the endpoint alone and serves the towpath blocks and mailbox. (R336) -/
  | managementWindowOpen
  /-- PE_PERST_N asserted, or leaving STANDBY, closes the management window. (R336) -/
  | managementWindowClose
  /-- Every 1 ms the towpath evaluates the idle policy and requests P1, P0, P2 or P3. (R342) -/
  | idlePolicyEval (admitted : Nat)
  /-- POWER_STATE_SET requests a device power state, its receipt sent at commit or with REFUSED. (R342) -/
  | powerStateSet (h : Hdr) (target : Nat)
  /-- A write of TWP_PWR_REQ with GO requests a power state as POWER_STATE_SET does. (R342) -/
  | twpPwrReqGo (target : Nat)
  /-- All refusers clear, drives are shut down and the session image and save list are written for P3 or P4. (R343) -/
  | quiesceClear
  /-- QUIESCE_MS passes with a refuser remaining, the entry is refused by name and admission resumes. (R344) -/
  | quiesceExpiry
  /-- Isolation clamps engage and the domains enter retention or power off. (R343) -/
  | powerEntryCommit
  /-- An enabled wake source starts the exit to P0, or aborts an entry before commit. (R350) -/
  | wakeEvent (source : Nat) (index : Nat)
  /-- Every domain serves again, save-list rows and session image are restored and clamps released. (R338) -/
  | exitComplete (badRows : BitVec 11) (imageBad : Bool)
  /-- TWP_WAKE_TIMER expires in P3 or P4 and wakes the device. (R350) -/
  | wakeTimerExpiry
  /-- Every 1 ms in P1 the device sets the number of running basins, parking or returning basins. (R339) -/
  | parkDecision (admittedPerSecond : Nat)
  /-- An engine being parked finishes its tow line and commands and becomes PARKED with its bank in retention. (R339) -/
  | engineParked (e : Fin 256)
  /-- A tug group idle for TUG_IDLE_US is clock-gated. (R339) -/
  | tugGroupGate (g : Fin 8)
  /-- A write of MFT_MBOX_CTL with GO executes the manifest in the request buffer, or sets REJECT while BUSY. (R355) -/
  | mboxGo
  /-- A manifest datagram arrives on the management port or in-band and is checked for source, framing, trailer and sequence. (R354) -/
  | manifestDatagram (inband v6 : Bool) (addr : Nat) (vlan : Option Nat) (port src : Nat) (bytes : List Byte)
  /-- A session that receives nothing for IDLE_S is closed. (R359) -/
  | sessionIdleExpiry (session : Nat)
  /-- A manifest not at its commit point by its class bound is abandoned with TIMEOUT. (R363) -/
  | manifestTimeout (h : Hdr)
  /-- CAP_LIST returns the capability list words. (R368) -/
  | capList (h : Hdr)
  /-- SESSION_OPEN opens a session under a manifest key and returns its number and device nonce. (R359) -/
  | sessionOpen (h : Hdr) (keyId : Nat) (nonceH : BitVec 128)
  /-- SESSION_CLOSE closes the session. (R359) -/
  | sessionClose (h : Hdr)
  /-- IDENTIFY returns serial, stepping, MAC base, firmware versions and mooring source. (R367) -/
  | identify (h : Hdr)
  /-- TIME_SET sets the device timestamp and returns the previous one. (R367) -/
  | timeSet (h : Hdr) (ms : Nat)
  /-- WARM_RESTART sends its receipt, stops admission and drains before resetting as RESET_N. (R392) -/
  | warmRestart (h : Hdr)
  /-- FAULT_QUERY returns the global fault causes, clearing them with CLEAR. (R396) -/
  | faultQuery (h : Hdr) (clear : Bool)
  /-- EVENT_READ returns the oldest event-log entries, removing them with CLEAR. (R364) -/
  | eventRead (h : Hdr) (count : Nat) (clear : Bool)
  /-- SUBSYS_SET creates or replaces a subsystem with its NQN. (R459) -/
  | subsysSet (h : Hdr) (i : Nat) (nqn : Nat)
  /-- SUBSYS_DELETE removes a subsystem, refused while it holds namespaces. (R367) -/
  | subsysDelete (h : Hdr) (i : Nat)
  /-- NS_CREATE creates a namespace on an array with its extents, formats, cipher mode, key slot and write path. (R367) -/
  | nsCreate (h : Hdr) (nsid subsys array size : Nat) (lbafs piTypes : List Nat) (mode : Nat) (slot : Nat) (ledgered : Bool)
  /-- NS_DELETE removes a namespace at its commit point, unplanned commands then failing and space released later. (R462) -/
  | nsDelete (h : Hdr) (nsid : Nat)
  /-- NS_ATTACH attaches or detaches a namespace for a set of hosts. (R367) -/
  | nsAttach (h : Hdr) (nsid : Nat) (hosts : List Nat) (attach : Bool)
  /-- HOST_SET creates or replaces a host table entry. (R459) -/
  | hostSet (h : Hdr) (i : Nat) (e : HostParams)
  /-- HOST_DELETE tears down the host's associations, removes its marks and entries and clears its GENERATION and LOST. (R53) -/
  | hostDelete (h : Hdr) (i : Nat)
  /-- NS_QUERY returns a namespace's attributes, extents and attached hosts. (R367) -/
  | nsQuery (h : Hdr) (nsid : Nat)
  /-- DOCK_CREATE creates a dock window for a host and returns its rkey. (R84) -/
  | dockCreate (h : Hdr) (host kind size perms : Nat) (bind : Option (Nat × Nat)) (tag : Nat)
  /-- DOCK_REVOKE sets the window REVOKING at the revocation point and drains accepted messages. (R89) -/
  | dockRevoke (h : Hdr) (rkey : Nat)
  /-- AUTH_SECRET_SET loads a host's authentication secrets and hash. (R40) -/
  | authSecretSet (h : Hdr) (i : Nat) (hostSecret ctrlSecret hash : Nat)
  /-- AUTH_SECRET_CLEAR removes a host's authentication secrets. (R40) -/
  | authSecretClear (h : Hdr) (i : Nat)
  /-- MANIFEST_KEY_SET loads a manifest key and closes sessions under it. (R359) -/
  | manifestKeySet (h : Hdr) (k : Nat) (key : BitVec 256)
  /-- MANIFEST_KEY_CLEAR clears a manifest key and closes sessions under it. (R359) -/
  | manifestKeyClear (h : Hdr) (k : Nat)
  /-- POWER_QUERY returns the power state, last refuser and last wake. (R367) -/
  | powerQuery (h : Hdr)
  /-- TALLY_SELECT programs a counter's event, instance, mode and threshold. (R399) -/
  | tallySelect (h : Hdr) (n : Nat) (sel thr : Word32)
  /-- TALLY_DUMP_SET sets the dump counter set, period and ring. (R411) -/
  | tallyDumpSet (h : Hdr) (set : List Nat) (period : Nat) (target : Nat) (slots : Nat)
  /-- TALLY_READ latches a set of counters in one canal cycle and returns them. (R403) -/
  | tallyRead (h : Hdr) (set : List Nat)
  /-- TALLY_USER sets TAL_USER_EN for the BAR5 page. (R377) -/
  | tallyUser (h : Hdr) (en : Bool)
  /-- LANE_MARGIN measures a bay or quad lane's margin in time and voltage. (R367) -/
  | laneMargin (h : Hdr) (quad : Bool) (i lane : Nat) (time volt : Nat)
  /-- MOOR_QUERY returns the sequence and CRC state of both mooring slots. (R367) -/
  | moorQuery (h : Hdr)
  /-- UNMOOR sets the unmoor marker, zeroes slots, journal, doze area and wrap key and warm-restarts into factory values. (R387) -/
  | unmoor (h : Hdr) (confirm : Nat)
  /-- FW_STAGE stages a chunk of a firmware image at an offset. (R367) -/
  | fwStage (h : Hdr) (offset : Nat) (chunk : List Byte)
  /-- FW_COMMIT verifies the staged image's signature and marks it staged. (R367) -/
  | fwCommit (h : Hdr) (length : Nat) (sha : BitVec 256) (signatureOk : Bool)
  /-- FW_ACTIVATE runs the staged image at a restart now or at the next takeover. (R367) -/
  | fwActivate (h : Hdr) (atTakeover : Bool)
  /-- FW_QUERY returns the versions and states of both images. (R367) -/
  | fwQuery (h : Hdr)
  /-- A BAR2 read is translated through its window to the reservoir or a bank, or completes with Completer Abort. (R374) -/
  | bar2Read (off len : Nat)
  /-- A BAR2 write is split at window boundaries and each part lands or is discarded by its WR permission. (R374) -/
  | bar2Write (off : Nat) (data : List Byte)
  /-- A write of EPT_WIN_CTL commits the staged window values in one canal cycle, or sets ERR. (R374) -/
  | eptWinCtlWrite (i : Fin 64) (valid rd wr : Bool) (space sizeLog2 : Nat)
  /-- GO in EPT_COPY_CTL starts the copy engine, or refuses it with ALIGN, PERM, ZERO or REJECT. (R376) -/
  | copyGo (dir : Bool) (vec : Nat)
  /-- A copy ends with DONE, HOST_ERR, RESET or POWER and raises its vector. (R376) -/
  | copyComplete (data : List Byte) (hostError : Bool)
  /-- A read the endpoint mastered exceeds the completion timeout, is counted and ends its copy. (R376) -/
  | completionTimeout
  /-- When the conditions blocking a pending vector clear, its message is sent within 1 µs and the pending bit cleared. (R375) -/
  | msixPendingSend (vec : Fin 2048)
  /-- A fundamental reset of the endpoint clears its configuration, MSI-X table, window VALID bits and copy. (R378) -/
  | pePerstAssert
  /-- A hot reset retrains the endpoint link and clears its configuration space, MSI-X table and window VALID bits. (R378) -/
  | hotReset
  /-- A function-level reset clears the function's configuration, MSI-X table and window VALID bits, keeping the link. (R378) -/
  | flr
  /-- After PE_PERST_N is released the endpoint link trains and it answers configuration requests when ready. (R371) -/
  | endpointLinkUp (speed width : Nat) (bme msixEn fmask tenBit : Bool)
  /-- Towpath supplies are applied and the device runs start phases T1 to T10. (R390) -/
  | powerOn
  /-- 2 ms after VDD_TWP is in range the towpath reset is released and oscillators stabilise (T1). (R388) -/
  | towpathResetRelease
  /-- The towpath restores the moored image from the valid slot and journal, or starts factory-fresh, completing any unmoor zeroing (T2). (R385) -/
  | mooringsRestore
  /-- A rail group's PWRGD rises and the power-up sequence raises the next enable or releases the canal die. (R445) -/
  | pwrgdRise (g : Fin 3)
  /-- A PWRGD not risen within 10 ms of its enable lowers the enables, drives POWER_FAULT_N and retries after 1 s. (R446) -/
  | pwrgdTimeout (g : Fin 3)
  /-- 1 s after a PWRGD timeout the rail sequence is rerun from step 4, at most three times. (R446) -/
  | powerSequenceRetry
  /-- A PWRGD falling for 1 µs while enabled resets all non-towpath domains, lowers the enables and reruns the sequence after 100 ms. (R447) -/
  | pwrgdFall (g : Fin 3)
  /-- The canal die is up after the wharf walk, entropy start-up and serial loading, ending T5. (R388) -/
  | canalDieUp
  /-- Reservoir training ends (T6) and the lockkeeper firmware loads. (R388) -/
  | reservoirTrained
  /-- Lockkeeper firmware is running at the end of T7, READY is set and bays with INTENT are enabled. (R392) -/
  | lockkeeperStarted
  /-- ASSEMBLE_S after T9 began, waiting arrays are assembled with unready roles MISSING. (R389) -/
  | assembleTimeout
  /-- RESET_N held low for 10 µs holds every domain but the towpath in reset. (R391) -/
  | resetNAssert
  /-- RESET_N release starts T2 and the following phases. (R391) -/
  | resetNRelease
  /-- The warm-restart drain ends after DRAIN_MS or when no command remains, and the device resets as RESET_N. (R392) -/
  | warmRestartDrainEnd
  /-- A write of TWP_WDOG_CFG.KICK from the active core restarts the watchdog. (R393) -/
  | watchdogKick (core : Fin 2)
  /-- The watchdog expires and the spare core takes over, or a watchdog reset occurs. (R393) -/
  | watchdogExpiry
  /-- HOLD_S after a persisting restart cause, the device warm-restarts. (R396) -/
  | faultHoldExpiry
  /-- Pending moored changes are written durably to the journal within 10 ms, coalesced per field. (R383) -/
  | moorJournalWrite (ok : Bool)
  /-- A journal 75 % full is compacted into a complete image in the unused slot. (R384) -/
  | journalCompaction (outcome : Fin 3)
  /-- VDD_TWP falling below 2.95 V stops every mooring-store write within 1 µs. (R448) -/
  | vddTwpFall
  /-- A sensor at 130 °C for 100 µs clamps every domain, lowers the enables and drives POWER_FAULT_N. (R449) -/
  | thermalTrip
  /-- A core PLL losing lock for 1 µs holds the non-towpath domains in reset until lock returns. (R422) -/
  | coreLossOfLock
  /-- A quad, aqueduct, drive-group or endpoint PLL losing lock takes its links down until lock returns. (R422) -/
  | pllLossOfLock (pll : Pll)
  /-- A write of CLK_FREQ_IDX starts a 1 ms frequency measurement of the named domain. (R21) -/
  | clkFreqIdxWrite (domain inst : Nat)
  /-- A frequency measurement ends after 1 ms, CLK_FREQ holds the result and BUSY clears. (R21) -/
  | freqMeasurementEnd (khz : Nat)
  /-- A write of TAL_SEL programs and clears a counter, or is refused with ERR. (R400) -/
  | talSelWrite (n : Fin 4096) (v : Word32)
  /-- A write of TAL_THR sets a threshold or restarts a window counter's accumulation. (R402) -/
  | talThrWrite (n : Fin 4096) (v : Word32)
  /-- GO in TAL_CLR clears one or every counter and accumulator in one canal cycle. (R404) -/
  | talClrGo (index : Nat) (all : Bool)
  /-- At each window boundary a WINDOW counter takes its accumulator's total and the accumulator restarts. (R401) -/
  | tallyWindowEnd (n : Fin 4096)
  /-- Every period a dump tick increments SEQ, latches the set and writes a record, or counts it LOST. (R408) -/
  | dumpTick
  /-- A dump record's writes complete with SEQ last and the dump vector is raised. (R409) -/
  | dumpRecordWritten (ok : Bool)
  /-- A write of SPB_BANK_CTL requests a large bank state, refused for live banks. (R435) -/
  | spbBankCtlWrite (k : Fin 16) (req : Nat)
  /-- An uncorrectable large-bank error switches cores, errors affected QPs or answers Remote Access Error. (R436) -/
  | largeBankUe (k : Fin 16) (unit : Nat) (qps : List Nat) (corrected : Bool)
  /-- A reservoir stack crossing 85 °C or 80 °C doubles or restores refresh, and 125 °C sets HOT. (R437) -/
  | stackTempChange (stack : Fin 4) (celsius : Int)
  /-- A write to a register without a row of its own acts on its fields by access type and takes effect at its block's stated boundary. (R17) -/
  | registerWrite (who : Requester) (addr : Nat) (v : Nat) (eight : Bool)
  /-- A register read returns the current value, clearing RC fields in the capture cycle and latching HI on a LO read. (R17) -/
  | registerRead (who : Requester) (addr : Nat) (eight : Bool)
  /-- A port leaves LPI, because the link partner ends its low-power idle or the port has frames to send, and a quad gated in P1 is ungated. (R264) -/
  | lpiExit (port : Fin 128) (rx : Bool)
  /-- At rung 3 the drive reports CSTS.RDY = 0 after CC.EN := 0, and firmware proceeds to INIT without PERST_N. (R280) -/
  | cstsRdyClear (bay : Fin 48)
  /-- One heartbeat path, sideband or aqueduct, is silent for 30 ms while another is heard, and AQD_PARTNER reports the path lost. (R317) -/
  | heartbeatPathLost (aqd : Bool)
  /-- An aqueduct lane loses its link and the remaining lane carries the striped cells, UP0 or UP1 clearing. (R315) -/
  | aqueductLaneDown (lane : Fin 2)
  /-- An aqueduct lane completes training, within 4 ms from moored equalisation or 200 ms at first pairing, and carries cells again. (R315) -/
  | aqueductLaneUp (lane : Fin 2)
  /-- Step 5 of a power-state entry ends, with the domains off or in retention, and a wake held since the commit starts the exit. (R351) -/
  | powerEntryComplete
  /-- A PLL regains lock, so its links retrain, or, for a core PLL, the device restarts as after RESET_N. (R422) -/
  | pllLockReturn (pll : Pll)
  /-- The management endpoint's link goes down, so MSI-X events set pending bits and mastered posted writes are discarded. (R375) -/
  | endpointLinkDown
  /-- After an RNR NAK the RNR timer expires and the request is resent, or the QP enters ERROR when RNR retries are exhausted. (R90) -/
  | rnrRetryExpiry (qp : Fin 65536)
  /-- The device's Tj crosses a host's Temperature Threshold feature value, and the device posts the matching asynchronous event. (R41) -/
  | temperatureThresholdCrossing (kelvin : Nat)
  deriving DecidableEq, Repr

end Sys2Proof
end

