-- ==== Sys2Proof/Machine/Gf.lean ====
section
/-! DEFINITION. Parity arithmetic (R130, R134): GF(2^8) with the polynomial 0x11D over every byte of a
unit at once, the solution of a stripe's lost units, the two checks of stored data, CRC-16 (R58) and CRC-32C (R464), and
numbers as bytes. -/

namespace Sys2Proof.Machine

/-- The byte `b` in every byte of a word. -/
def gfRep (w b : Nat) : BitVec w := BitVec.ofNat w ((2 ^ w - 1) / 255 * b)

/-- Every byte doubled (R130). -/
def gfDouble {w : Nat} (x : BitVec w) : BitVec w :=
  ((x <<< 1) &&& gfRep w 0xFE) ^^^ (((x >>> 7) &&& gfRep w 0x01) * BitVec.ofNat w 0x1D)

/-- Every byte of `x` times `c`. -/
def gfScale {w : Nat} (c : BitVec 8) (x : BitVec w) : BitVec w :=
  ((List.range 8).foldl (fun (p : BitVec w × BitVec w) i =>
    (if c.toNat.testBit i then p.1 ^^^ p.2 else p.1, gfDouble p.2)) (0, x)).1

/-- `g` to the power `e`. -/
def gfPow (g : BitVec 8) : Nat → BitVec 8
  | 0 => 1
  | e + 1 => gfScale g (gfPow g e)

/-- The inverse of a byte that is not 0. -/
def gfInv (a : BitVec 8) : BitVec 8 := gfPow a 254

/-- Coefficient of data unit `i` in redundant unit `o`: P 1, Q 2^i, R 4^i (Table 5-5). -/
def parityCoef (o i : Nat) : BitVec 8 := gfPow (if o = 0 then 1 else if o = 1 then 2 else 4) i

/-- Redundant unit `o` of the data units. -/
def parityOf {w : Nat} (o : Nat) (ds : List (BitVec w)) : BitVec w :=
  ((List.range ds.length).zip ds).foldl (fun a p => a ^^^ gfScale (parityCoef o p.1) p.2) 0

/-- The first element that meets `p`, and the rest without it. -/
def takeFirst {α : Type} (p : α → Bool) : List α → Option (α × List α)
  | [] => none
  | a :: l => if p a then some (a, l) else (takeFirst p l).map fun q => (q.1, a :: q.2)

/-- The values of `t` unknowns from equations, each a row of `t` coefficients and its sum. -/
def gfSolve {w : Nat} : Nat → List (List (BitVec 8) × BitVec w) → Option (List (BitVec w))
  | 0, _ => some []
  | t + 1, eqs =>
    match takeFirst (fun e => decide (e.1.headD 0 ≠ 0)) eqs with
    | none => none
    | some (e, rest) =>
      let i := gfInv (e.1.headD 0)
      let row := e.1.tail.map (gfScale i)
      let sum := gfScale i e.2
      let less := rest.map fun f =>
        let c := f.1.headD 0
        ((f.1.tail.zip row).map fun p => p.1 ^^^ gfScale c p.2, f.2 ^^^ gfScale c sum)
      (gfSolve t less).map fun xs =>
        ((row.zip xs).foldl (fun a p => a ^^^ gfScale p.1 p.2) sum) :: xs

/-- Data units of a stripe from those that are known and from redundant units, P before Q before R (R28,
R159); none where too few are known. -/
def gfRecover {w : Nat} (ds : List (Option (BitVec w))) (ps : List (Option (BitVec w))) :
    Option (List (BitVec w)) :=
  let ix := (List.range ds.length).zip ds
  let lost := (ix.filter fun p => p.2.isNone).map Prod.fst
  let eqs := (((List.range ps.length).zip ps).filterMap fun p => p.2.map fun v =>
    (lost.map (parityCoef p.1),
     ix.foldl (fun a q => match q.2 with
       | some d => a ^^^ gfScale (parityCoef p.1 q.1) d
       | none => a) v)).take lost.length
  (gfSolve lost.length eqs).map fun xs =>
    ix.map fun p => match p.2 with
      | some d => d
      | none => ((lost.zip xs).find? fun q => q.1 == p.1).elim 0 Prod.snd

/-- CRC-16 of polynomial 0x8BB7, most significant bit first, over the bytes of a sector (R58). -/
def crc16 (l : List Byte) : BitVec 16 :=
  l.foldl (fun c b => (List.range 8).foldl (fun c i =>
    let top := c.toNat.testBit 15 != b.toNat.testBit (7 - i)
    if top then (c <<< 1) ^^^ 0x8BB7 else c <<< 1) c) 0

/-- CRC-32C, reflected, over bytes (R464). -/
def crc32c (l : List Byte) : BitVec 32 :=
  ~~~ l.foldl (fun c b => (List.range 8).foldl (fun c _ =>
    if c.toNat.testBit 0 then (c >>> 1) ^^^ 0x82F63B78 else c >>> 1) (c ^^^ b.zeroExtend 32)) 0xFFFFFFFF#32

/-- The `n` bytes of `v`, most significant first. -/
def beBytes (n v : Nat) : List Byte :=
  (List.range n).map fun i => BitVec.ofNat 8 (v / 256 ^ (n - 1 - i))

/-- Bytes of a word, lowest first. -/
def leBytes (n v : Nat) : List Byte := (List.range n).map fun i => BitVec.ofNat 8 (v >>> (8 * i))

/-- The word whose bytes, lowest first, are given. -/
def leVal (l : List Byte) : Nat := l.foldr (fun b a => b.toNat + 256 * a) 0

/-- A number from its bytes, the most significant first. -/
def beVal (l : List Byte) : Nat := l.foldl (fun a b => a * 256 + b.toNat) 0

end Sys2Proof.Machine
end

