-- ==== Sys2Proof/Machine/RegNames.lean ====
section
/-! DEFINITION. The names of the registers (`Reg.X`, a BAR0 offset) and fields (`Fld.X_Y`) that the
meanings read or write, as the field maps of the chapters spell them. A leading argument is the block
instance, further ones the index of an arrayed register. -/

namespace Sys2Proof.Machine

/-- TWP_PWR_STATE at 0x0000. -/
def Reg.TWP_PWR_STATE : Nat := 0x100000
/-- TWP_PWR_STATE.CUR [2:0]. -/
def Fld.TWP_PWR_STATE_CUR : Fld := ⟨Reg.TWP_PWR_STATE, 0, 3⟩
/-- TWP_PWR_STATE.TARGET [5:3]. -/
def Fld.TWP_PWR_STATE_TARGET : Fld := ⟨Reg.TWP_PWR_STATE, 3, 3⟩
/-- TWP_PWR_STATE.BUSY [6:6]. -/
def Fld.TWP_PWR_STATE_BUSY : Fld := ⟨Reg.TWP_PWR_STATE, 6, 1⟩
/-- TWP_IDLE_CFG at 0x0008. -/
def Reg.TWP_IDLE_CFG : Nat := 0x100008
/-- TWP_IDLE_CFG.P1_EN [0:0]. -/
def Fld.TWP_IDLE_CFG_P1_EN : Fld := ⟨Reg.TWP_IDLE_CFG, 0, 1⟩
/-- TWP_IDLE_CFG.P1_RATE [15:8]. -/
def Fld.TWP_IDLE_CFG_P1_RATE : Fld := ⟨Reg.TWP_IDLE_CFG, 8, 8⟩
/-- TWP_IDLE_CFG.P2_MS [31:16]. -/
def Fld.TWP_IDLE_CFG_P2_MS : Fld := ⟨Reg.TWP_IDLE_CFG, 16, 16⟩
/-- TWP_IDLE_CFG2 at 0x000C. -/
def Reg.TWP_IDLE_CFG2 : Nat := 0x10000C
/-- TWP_IDLE_CFG2.P3_S [15:0]. -/
def Fld.TWP_IDLE_CFG2_P3_S : Fld := ⟨Reg.TWP_IDLE_CFG2, 0, 16⟩
/-- TWP_PARK_CFG at 0x0010. -/
def Reg.TWP_PARK_CFG : Nat := 0x100010
/-- TWP_PARK_CFG.MIN_BASINS [4:0]. -/
def Fld.TWP_PARK_CFG_MIN_BASINS : Fld := ⟨Reg.TWP_PARK_CFG, 0, 5⟩
/-- TWP_PARK_CFG.BASIN_KIOPS [15:8]. -/
def Fld.TWP_PARK_CFG_BASIN_KIOPS : Fld := ⟨Reg.TWP_PARK_CFG, 8, 8⟩
/-- TWP_PARK_CFG.QUAD_GATE_EN [24:24]. -/
def Fld.TWP_PARK_CFG_QUAD_GATE_EN : Fld := ⟨Reg.TWP_PARK_CFG, 24, 1⟩
/-- TWP_WAKE_EN at 0x0014. -/
def Reg.TWP_WAKE_EN : Nat := 0x100014
/-- TWP_WAKE_EN.SRC [9:0]. -/
def Fld.TWP_WAKE_EN_SRC : Fld := ⟨Reg.TWP_WAKE_EN, 0, 10⟩
/-- TWP_WAKE_TIMER at 0x0018. -/
def Reg.TWP_WAKE_TIMER : Nat := 0x100018
/-- TWP_WAKE_TIMER.SECONDS [31:0]. -/
def Fld.TWP_WAKE_TIMER_SECONDS : Fld := ⟨Reg.TWP_WAKE_TIMER, 0, 32⟩
/-- TWP_WAKE_STAT at 0x001C. -/
def Reg.TWP_WAKE_STAT : Nat := 0x10001C
/-- TWP_WAKE_STAT.SRC [9:0]. -/
def Fld.TWP_WAKE_STAT_SRC : Fld := ⟨Reg.TWP_WAKE_STAT, 0, 10⟩
/-- TWP_WAKE_STAT.LAST_EXIT [31:16]. -/
def Fld.TWP_WAKE_STAT_LAST_EXIT : Fld := ⟨Reg.TWP_WAKE_STAT, 16, 16⟩
/-- TWP_REFUSE_CNT at 0x0020. -/
def Reg.TWP_REFUSE_CNT : Nat := 0x100020
/-- TWP_REFUSE_CNT.COUNT [15:0]. -/
def Fld.TWP_REFUSE_CNT_COUNT : Fld := ⟨Reg.TWP_REFUSE_CNT, 0, 16⟩
/-- TWP_REFUSE_CNT.ABORTS [31:16]. -/
def Fld.TWP_REFUSE_CNT_ABORTS : Fld := ⟨Reg.TWP_REFUSE_CNT, 16, 16⟩
/-- TWP_REFUSE_NAME_LO at 0x0024. -/
def Reg.TWP_REFUSE_NAME_LO : Nat := 0x100024
/-- TWP_REFUSE_NAME_LO.NAME [31:0]. -/
def Fld.TWP_REFUSE_NAME_LO_NAME : Fld := ⟨Reg.TWP_REFUSE_NAME_LO, 0, 32⟩
/-- TWP_REFUSE_NAME_HI at 0x0028. -/
def Reg.TWP_REFUSE_NAME_HI : Nat := 0x100028
/-- TWP_REFUSE_NAME_HI.NAME [31:0]. -/
def Fld.TWP_REFUSE_NAME_HI_NAME : Fld := ⟨Reg.TWP_REFUSE_NAME_HI, 0, 32⟩
/-- TWP_ABORT_NAME_LO at 0x002C. -/
def Reg.TWP_ABORT_NAME_LO : Nat := 0x10002C
/-- TWP_ABORT_NAME_LO.NAME [31:0]. -/
def Fld.TWP_ABORT_NAME_LO_NAME : Fld := ⟨Reg.TWP_ABORT_NAME_LO, 0, 32⟩
/-- TWP_ABORT_NAME_HI at 0x0030. -/
def Reg.TWP_ABORT_NAME_HI : Nat := 0x100030
/-- TWP_ABORT_NAME_HI.NAME [31:0]. -/
def Fld.TWP_ABORT_NAME_HI_NAME : Fld := ⟨Reg.TWP_ABORT_NAME_HI, 0, 32⟩
/-- TWP_DOMAIN_STAT at 0x0040. -/
def Reg.TWP_DOMAIN_STAT : Nat := 0x100040
/-- TWP_DOMAIN_STAT.TUG_GATED [23:16]. -/
def Fld.TWP_DOMAIN_STAT_TUG_GATED : Fld := ⟨Reg.TWP_DOMAIN_STAT, 16, 8⟩
/-- TWP_QUAD_GATED at 0x0044. -/
def Reg.TWP_QUAD_GATED : Nat := 0x100044
/-- TWP_SAVE_STAT at 0x0048. -/
def Reg.TWP_SAVE_STAT : Nat := 0x100048
/-- TWP_SAVE_STAT.SAVE_ERR [0:0]. -/
def Fld.TWP_SAVE_STAT_SAVE_ERR : Fld := ⟨Reg.TWP_SAVE_STAT, 0, 1⟩
/-- TWP_SAVE_STAT.IMAGE_ERR [1:1]. -/
def Fld.TWP_SAVE_STAT_IMAGE_ERR : Fld := ⟨Reg.TWP_SAVE_STAT, 1, 1⟩
/-- TWP_SAVE_STAT.IMAGE_KIB [31:16]. -/
def Fld.TWP_SAVE_STAT_IMAGE_KIB : Fld := ⟨Reg.TWP_SAVE_STAT, 16, 16⟩
/-- TWP_MOOR_STAT at 0x0100. -/
def Reg.TWP_MOOR_STAT : Nat := 0x100100
/-- TWP_MOOR_STAT.SOURCE [1:0]. -/
def Fld.TWP_MOOR_STAT_SOURCE : Fld := ⟨Reg.TWP_MOOR_STAT, 0, 2⟩
/-- TWP_MOOR_STAT.SLOT_ERR [2:2]. -/
def Fld.TWP_MOOR_STAT_SLOT_ERR : Fld := ⟨Reg.TWP_MOOR_STAT, 2, 1⟩
/-- TWP_MOOR_STAT.TORN [3:3]. -/
def Fld.TWP_MOOR_STAT_TORN : Fld := ⟨Reg.TWP_MOOR_STAT, 3, 1⟩
/-- TWP_MOOR_STAT.COMPACTING [4:4]. -/
def Fld.TWP_MOOR_STAT_COMPACTING : Fld := ⟨Reg.TWP_MOOR_STAT, 4, 1⟩
/-- TWP_MOOR_STAT.WRITE_ERR [5:5]. -/
def Fld.TWP_MOOR_STAT_WRITE_ERR : Fld := ⟨Reg.TWP_MOOR_STAT, 5, 1⟩
/-- TWP_MOOR_STAT.PENDING [23:8]. -/
def Fld.TWP_MOOR_STAT_PENDING : Fld := ⟨Reg.TWP_MOOR_STAT, 8, 16⟩
/-- TWP_MOOR_STAT.JOURNAL_PCT [31:24]. -/
def Fld.TWP_MOOR_STAT_JOURNAL_PCT : Fld := ⟨Reg.TWP_MOOR_STAT, 24, 8⟩
/-- TWP_MOOR_SEQ_LO at 0x0104. -/
def Reg.TWP_MOOR_SEQ_LO : Nat := 0x100104
/-- TWP_MOOR_SEQ_LO.SEQ [31:0]. -/
def Fld.TWP_MOOR_SEQ_LO_SEQ : Fld := ⟨Reg.TWP_MOOR_SEQ_LO, 0, 32⟩
/-- TWP_MOOR_SEQ_HI at 0x0108. -/
def Reg.TWP_MOOR_SEQ_HI : Nat := 0x100108
/-- TWP_MOOR_SEQ_HI.SEQ [31:0]. -/
def Fld.TWP_MOOR_SEQ_HI_SEQ : Fld := ⟨Reg.TWP_MOOR_SEQ_HI, 0, 32⟩
/-- TWP_RST_CAUSE at 0x010C. -/
def Reg.TWP_RST_CAUSE : Nat := 0x10010C
/-- TWP_RST_CAUSE.LAST [2:0]. -/
def Fld.TWP_RST_CAUSE_LAST : Fld := ⟨Reg.TWP_RST_CAUSE, 0, 3⟩
/-- TWP_RST_CAUSE.READY [3:3]. -/
def Fld.TWP_RST_CAUSE_READY : Fld := ⟨Reg.TWP_RST_CAUSE, 3, 1⟩
/-- TWP_RST_CAUSE.THERMAL [4:4]. -/
def Fld.TWP_RST_CAUSE_THERMAL : Fld := ⟨Reg.TWP_RST_CAUSE, 4, 1⟩
/-- TWP_RST_CAUSE.WARM_CNT [15:8]. -/
def Fld.TWP_RST_CAUSE_WARM_CNT : Fld := ⟨Reg.TWP_RST_CAUSE, 8, 8⟩
/-- TWP_RST_CAUSE.WDOG_CNT [23:16]. -/
def Fld.TWP_RST_CAUSE_WDOG_CNT : Fld := ⟨Reg.TWP_RST_CAUSE, 16, 8⟩
/-- TWP_FAULT at 0x0110. -/
def Reg.TWP_FAULT : Nat := 0x100110
/-- TWP_FAULT.ACTIVE [31:31]. -/
def Fld.TWP_FAULT_ACTIVE : Fld := ⟨Reg.TWP_FAULT, 31, 1⟩
/-- TWP_FAULT_CFG at 0x0114. -/
def Reg.TWP_FAULT_CFG : Nat := 0x100114
/-- TWP_FAULT_CFG.RESTART_EN [0:0]. -/
def Fld.TWP_FAULT_CFG_RESTART_EN : Fld := ⟨Reg.TWP_FAULT_CFG, 0, 1⟩
/-- TWP_FAULT_CFG.HOLD_S [15:8]. -/
def Fld.TWP_FAULT_CFG_HOLD_S : Fld := ⟨Reg.TWP_FAULT_CFG, 8, 8⟩
/-- TWP_WDOG_CFG at 0x0118. -/
def Reg.TWP_WDOG_CFG : Nat := 0x100118
/-- TWP_WDOG_CFG.PERIOD_MS [13:0]. -/
def Fld.TWP_WDOG_CFG_PERIOD_MS : Fld := ⟨Reg.TWP_WDOG_CFG, 0, 14⟩
/-- TWP_START_CFG at 0x011C. -/
def Reg.TWP_START_CFG : Nat := 0x10011C
/-- TWP_START_CFG.ASSEMBLE_S [7:0]. -/
def Fld.TWP_START_CFG_ASSEMBLE_S : Fld := ⟨Reg.TWP_START_CFG, 0, 8⟩
/-- TWP_START_CFG.DRAIN_MS [15:8]. -/
def Fld.TWP_START_CFG_DRAIN_MS : Fld := ⟨Reg.TWP_START_CFG, 8, 8⟩
/-- PDL_STATE at 0x0004, i. -/
def Reg.PDL_STATE (i : Nat) : Nat := 0x200004 + 0x2000 * i
/-- PDL_STATE.STATE [3:0]. -/
def Fld.PDL_STATE_STATE (i : Nat) : Fld := ⟨Reg.PDL_STATE i, 0, 4⟩
/-- PDL_STATE.PRESENT [4:4]. -/
def Fld.PDL_STATE_PRESENT (i : Nat) : Fld := ⟨Reg.PDL_STATE i, 4, 1⟩
/-- PDL_STATE.LIMIT [5:5]. -/
def Fld.PDL_STATE_LIMIT (i : Nat) : Fld := ⟨Reg.PDL_STATE i, 5, 1⟩
/-- PDL_STATE.PG_AUX [6:6]. -/
def Fld.PDL_STATE_PG_AUX (i : Nat) : Fld := ⟨Reg.PDL_STATE i, 6, 1⟩
/-- PDL_STATE.PG_MAIN [7:7]. -/
def Fld.PDL_STATE_PG_MAIN (i : Nat) : Fld := ⟨Reg.PDL_STATE i, 7, 1⟩
/-- PDL_STATE.PG [8:8]. -/
def Fld.PDL_STATE_PG (i : Nat) : Fld := ⟨Reg.PDL_STATE i, 8, 1⟩
/-- PDL_STATE.INTENT [9:9]. -/
def Fld.PDL_STATE_INTENT (i : Nat) : Fld := ⟨Reg.PDL_STATE i, 9, 1⟩
/-- PDL_STATE.FAULTS [13:10]. -/
def Fld.PDL_STATE_FAULTS (i : Nat) : Fld := ⟨Reg.PDL_STATE i, 10, 4⟩
/-- PDL_FAULT at 0x0008, i. -/
def Reg.PDL_FAULT (i : Nat) : Nat := 0x200008 + 0x2000 * i
/-- PDL_FAULT.TIMER [0:0]. -/
def Fld.PDL_FAULT_TIMER (i : Nat) : Fld := ⟨Reg.PDL_FAULT i, 0, 1⟩
/-- PDL_FAULT.SHORT [1:1]. -/
def Fld.PDL_FAULT_SHORT (i : Nat) : Fld := ⟨Reg.PDL_FAULT i, 1, 1⟩
/-- PDL_FAULT.GATE [2:2]. -/
def Fld.PDL_FAULT_GATE (i : Nat) : Fld := ⟨Reg.PDL_FAULT i, 2, 1⟩
/-- PDL_FAULT.RAMP [3:3]. -/
def Fld.PDL_FAULT_RAMP (i : Nat) : Fld := ⟨Reg.PDL_FAULT i, 3, 1⟩
/-- PDL_FAULT.CFG [4:4]. -/
def Fld.PDL_FAULT_CFG (i : Nat) : Fld := ⟨Reg.PDL_FAULT i, 4, 1⟩
/-- PDL_FAULT.LATCH [5:5]. -/
def Fld.PDL_FAULT_LATCH (i : Nat) : Fld := ⟨Reg.PDL_FAULT i, 5, 1⟩
/-- PDL_CFG0 at 0x000C, i. -/
def Reg.PDL_CFG0 (i : Nat) : Nat := 0x20000C + 0x2000 * i
/-- PDL_CFG0.RETRY [23:14]. -/
def Fld.PDL_CFG0_RETRY (i : Nat) : Fld := ⟨Reg.PDL_CFG0 i, 14, 10⟩
/-- PDL_CFG0.RETRY_MAX [27:24]. -/
def Fld.PDL_CFG0_RETRY_MAX (i : Nat) : Fld := ⟨Reg.PDL_CFG0 i, 24, 4⟩
/-- PDL_CFG1 at 0x0010, i. -/
def Reg.PDL_CFG1 (i : Nat) : Nat := 0x200010 + 0x2000 * i
/-- PDL_CFG1.ILIM_MAIN [5:0]. -/
def Fld.PDL_CFG1_ILIM_MAIN (i : Nat) : Fld := ⟨Reg.PDL_CFG1 i, 0, 6⟩
/-- PDL_CFG1.ILIM_AUX [11:6]. -/
def Fld.PDL_CFG1_ILIM_AUX (i : Nat) : Fld := ⟨Reg.PDL_CFG1 i, 6, 6⟩
/-- PDL_SENSE at 0x0014, i. -/
def Reg.PDL_SENSE (i : Nat) : Nat := 0x200014 + 0x2000 * i
/-- PDL_SENSE.RS_MAIN [7:0]. -/
def Fld.PDL_SENSE_RS_MAIN (i : Nat) : Fld := ⟨Reg.PDL_SENSE i, 0, 8⟩
/-- PDL_SENSE.RS_AUX [15:8]. -/
def Fld.PDL_SENSE_RS_AUX (i : Nat) : Fld := ⟨Reg.PDL_SENSE i, 8, 8⟩
/-- PDL_CNT at 0x0020, i. -/
def Reg.PDL_CNT (i : Nat) : Nat := 0x200020 + 0x2000 * i
/-- PDL_CNT.FAULTS [7:0]. -/
def Fld.PDL_CNT_FAULTS (i : Nat) : Fld := ⟨Reg.PDL_CNT i, 0, 8⟩
/-- PDL_CNT.RETRIES [15:8]. -/
def Fld.PDL_CNT_RETRIES (i : Nat) : Fld := ⟨Reg.PDL_CNT i, 8, 8⟩
/-- PDL_CNT.INSERTS [23:16]. -/
def Fld.PDL_CNT_INSERTS (i : Nat) : Fld := ⟨Reg.PDL_CNT i, 16, 8⟩
/-- PDL_CNT.REMOVALS [31:24]. -/
def Fld.PDL_CNT_REMOVALS (i : Nat) : Fld := ⟨Reg.PDL_CNT i, 24, 8⟩
/-- PDL_GLB at 0x0024. -/
def Reg.PDL_GLB : Nat := 0x200024
/-- PDL_GLB.STAGGER [7:0]. -/
def Fld.PDL_GLB_STAGGER : Fld := ⟨Reg.PDL_GLB, 0, 8⟩
/-- PDL_GLB.MAX_RAMP [13:8]. -/
def Fld.PDL_GLB_MAX_RAMP : Fld := ⟨Reg.PDL_GLB, 8, 6⟩
/-- WIR_CTL at 0x0000. -/
def Reg.WIR_CTL : Nat := 0x280000
/-- WIR_CTL.EN_A [0:0]. -/
def Fld.WIR_CTL_EN_A : Fld := ⟨Reg.WIR_CTL, 0, 1⟩
/-- WIR_CTL.EN_B [1:1]. -/
def Fld.WIR_CTL_EN_B : Fld := ⟨Reg.WIR_CTL, 1, 1⟩
/-- WIR_CTL.DRILL_H [15:8]. -/
def Fld.WIR_CTL_DRILL_H : Fld := ⟨Reg.WIR_CTL, 8, 8⟩
/-- WIR_CFG at 0x0004. -/
def Reg.WIR_CFG : Nat := 0x280004
/-- WIR_CFG.UV [7:0]. -/
def Fld.WIR_CFG_UV : Fld := ⟨Reg.WIR_CFG, 0, 8⟩
/-- WIR_CFG.OV [15:8]. -/
def Fld.WIR_CFG_OV : Fld := ⟨Reg.WIR_CFG, 8, 8⟩
/-- WIR_CFG.FWD_MAX [23:16]. -/
def Fld.WIR_CFG_FWD_MAX : Fld := ⟨Reg.WIR_CFG, 16, 8⟩
/-- WIR_CFG.RS [31:24]. -/
def Fld.WIR_CFG_RS : Fld := ⟨Reg.WIR_CFG, 24, 8⟩
/-- WIR_SHELF at 0x0008. -/
def Reg.WIR_SHELF : Nat := 0x280008
/-- WIR_SHELF.VSHELF [11:0]. -/
def Fld.WIR_SHELF_VSHELF : Fld := ⟨Reg.WIR_SHELF, 0, 12⟩
/-- WIR_SHELF.DRILL_RUN [12:12]. -/
def Fld.WIR_SHELF_DRILL_RUN : Fld := ⟨Reg.WIR_SHELF, 12, 1⟩
/-- WIR_SHELF.CTL_REJ [13:13]. -/
def Fld.WIR_SHELF_CTL_REJ : Fld := ⟨Reg.WIR_SHELF, 13, 1⟩
/-- WIR_DRILL at 0x000C. -/
def Reg.WIR_DRILL : Nat := 0x28000C
/-- WIR_DRILL.RESULT [2:0]. -/
def Fld.WIR_DRILL_RESULT : Fld := ⟨Reg.WIR_DRILL, 0, 3⟩
/-- WIR_DRILL.FEED [3:3]. -/
def Fld.WIR_DRILL_FEED : Fld := ⟨Reg.WIR_DRILL, 3, 1⟩
/-- WIR_STATE at 0x0010, f. -/
def Reg.WIR_STATE (f : Nat) : Nat := 0x280010 + 0x10 * f
/-- WIR_STATE.STATE [2:0]. -/
def Fld.WIR_STATE_STATE (f : Nat) : Fld := ⟨Reg.WIR_STATE f, 0, 3⟩
/-- WIR_STATE.CARRYING [3:3]. -/
def Fld.WIR_STATE_CARRYING (f : Nat) : Fld := ⟨Reg.WIR_STATE f, 3, 1⟩
/-- WIR_STATE.OPEN [4:4]. -/
def Fld.WIR_STATE_OPEN (f : Nat) : Fld := ⟨Reg.WIR_STATE f, 4, 1⟩
/-- WIR_STATE.DEGRADED [5:5]. -/
def Fld.WIR_STATE_DEGRADED (f : Nat) : Fld := ⟨Reg.WIR_STATE f, 5, 1⟩
/-- WIR_MEAS at 0x0014, f. -/
def Reg.WIR_MEAS (f : Nat) : Nat := 0x280014 + 0x10 * f
/-- WIR_MEAS.VIN [11:0]. -/
def Fld.WIR_MEAS_VIN (f : Nat) : Fld := ⟨Reg.WIR_MEAS f, 0, 12⟩
/-- WIR_EVT at 0x0018, f. -/
def Reg.WIR_EVT (f : Nat) : Nat := 0x280018 + 0x10 * f
/-- WIR_EVT.REVERSE [7:0]. -/
def Fld.WIR_EVT_REVERSE (f : Nat) : Fld := ⟨Reg.WIR_EVT f, 0, 8⟩
/-- WIR_EVT.UNDER [15:8]. -/
def Fld.WIR_EVT_UNDER (f : Nat) : Fld := ⟨Reg.WIR_EVT f, 8, 8⟩
/-- WIR_EVT.OVER [23:16]. -/
def Fld.WIR_EVT_OVER (f : Nat) : Fld := ⟨Reg.WIR_EVT f, 16, 8⟩
/-- CLK_LOCK at 0x0000. -/
def Reg.CLK_LOCK : Nat := 0x300000
/-- CLK_LOCK.DRV [15:0]. -/
def Fld.CLK_LOCK_DRV : Fld := ⟨Reg.CLK_LOCK, 0, 16⟩
/-- CLK_LOCK.CORE [16:16]. -/
def Fld.CLK_LOCK_CORE : Fld := ⟨Reg.CLK_LOCK, 16, 1⟩
/-- CLK_LOCK.EPT [17:17]. -/
def Fld.CLK_LOCK_EPT : Fld := ⟨Reg.CLK_LOCK, 17, 1⟩
/-- CLK_LOCK.AQD [19:18]. -/
def Fld.CLK_LOCK_AQD : Fld := ⟨Reg.CLK_LOCK, 18, 2⟩
/-- CLK_LOCK.MGMT [20:20]. -/
def Fld.CLK_LOCK_MGMT : Fld := ⟨Reg.CLK_LOCK, 20, 1⟩
/-- CLK_QUAD_LOCK at 0x0004. -/
def Reg.CLK_QUAD_LOCK : Nat := 0x300004
/-- CLK_QUAD_LOCK.QUADS [31:0]. -/
def Fld.CLK_QUAD_LOCK_QUADS : Fld := ⟨Reg.CLK_QUAD_LOCK, 0, 32⟩
/-- CLK_LOL at 0x0008. -/
def Reg.CLK_LOL : Nat := 0x300008
/-- CLK_LOL.CORE_LOL [0:0]. -/
def Fld.CLK_LOL_CORE_LOL : Fld := ⟨Reg.CLK_LOL, 0, 1⟩
/-- CLK_LOL.EPT_LOL [1:1]. -/
def Fld.CLK_LOL_EPT_LOL : Fld := ⟨Reg.CLK_LOL, 1, 1⟩
/-- CLK_LOL.DRV_LOL [2:2]. -/
def Fld.CLK_LOL_DRV_LOL : Fld := ⟨Reg.CLK_LOL, 2, 1⟩
/-- CLK_LOL.NET_LOL [3:3]. -/
def Fld.CLK_LOL_NET_LOL : Fld := ⟨Reg.CLK_LOL, 3, 1⟩
/-- CLK_LOL.OFF_READ [4:4]. -/
def Fld.CLK_LOL_OFF_READ : Fld := ⟨Reg.CLK_LOL, 4, 1⟩
/-- CLK_LOL.CORE_CNT [15:8]. -/
def Fld.CLK_LOL_CORE_CNT : Fld := ⟨Reg.CLK_LOL, 8, 8⟩
/-- CLK_FREQ_IDX at 0x000C. -/
def Reg.CLK_FREQ_IDX : Nat := 0x30000C
/-- CLK_FREQ_IDX.DOMAIN [3:0]. -/
def Fld.CLK_FREQ_IDX_DOMAIN : Fld := ⟨Reg.CLK_FREQ_IDX, 0, 4⟩
/-- CLK_FREQ_IDX.INST [9:4]. -/
def Fld.CLK_FREQ_IDX_INST : Fld := ⟨Reg.CLK_FREQ_IDX, 4, 6⟩
/-- CLK_FREQ at 0x0010. -/
def Reg.CLK_FREQ : Nat := 0x300010
/-- CLK_FREQ.KHZ [22:0]. -/
def Fld.CLK_FREQ_KHZ : Fld := ⟨Reg.CLK_FREQ, 0, 23⟩
/-- CLK_FREQ.BUSY [31:31]. -/
def Fld.CLK_FREQ_BUSY : Fld := ⟨Reg.CLK_FREQ, 31, 1⟩
/-- EPT_STATUS at 0x0000. -/
def Reg.EPT_STATUS : Nat := 0x400000
/-- EPT_STATUS.LINK [0:0]. -/
def Fld.EPT_STATUS_LINK : Fld := ⟨Reg.EPT_STATUS, 0, 1⟩
/-- EPT_STATUS.SPEED [3:1]. -/
def Fld.EPT_STATUS_SPEED : Fld := ⟨Reg.EPT_STATUS, 1, 3⟩
/-- EPT_STATUS.WIDTH [7:4]. -/
def Fld.EPT_STATUS_WIDTH : Fld := ⟨Reg.EPT_STATUS, 4, 4⟩
/-- EPT_STATUS.BME [8:8]. -/
def Fld.EPT_STATUS_BME : Fld := ⟨Reg.EPT_STATUS, 8, 1⟩
/-- EPT_STATUS.MSIX_EN [9:9]. -/
def Fld.EPT_STATUS_MSIX_EN : Fld := ⟨Reg.EPT_STATUS, 9, 1⟩
/-- EPT_STATUS.FMASK [10:10]. -/
def Fld.EPT_STATUS_FMASK : Fld := ⟨Reg.EPT_STATUS, 10, 1⟩
/-- EPT_STATUS.TEN_BIT [11:11]. -/
def Fld.EPT_STATUS_TEN_BIT : Fld := ⟨Reg.EPT_STATUS, 11, 1⟩
/-- EPT_STATUS.LAST_RST [14:12]. -/
def Fld.EPT_STATUS_LAST_RST : Fld := ⟨Reg.EPT_STATUS, 12, 3⟩
/-- EPT_CFG at 0x0004. -/
def Reg.EPT_CFG : Nat := 0x400004
/-- EPT_CFG.TAG_LIMIT [9:0]. -/
def Fld.EPT_CFG_TAG_LIMIT : Fld := ⟨Reg.EPT_CFG, 0, 10⟩
/-- EPT_SUBSYS at 0x0008. -/
def Reg.EPT_SUBSYS : Nat := 0x400008
/-- EPT_IRQ_VEC at 0x000C. -/
def Reg.EPT_IRQ_VEC : Nat := 0x40000C
/-- EPT_IRQ_VEC.FAULT_VEC [10:0]. -/
def Fld.EPT_IRQ_VEC_FAULT_VEC : Fld := ⟨Reg.EPT_IRQ_VEC, 0, 11⟩
/-- EPT_IRQ_VEC.EVENT_VEC [21:11]. -/
def Fld.EPT_IRQ_VEC_EVENT_VEC : Fld := ⟨Reg.EPT_IRQ_VEC, 11, 11⟩
/-- EPT_ERR_STAT at 0x0010. -/
def Reg.EPT_ERR_STAT : Nat := 0x400010
/-- EPT_ERR_STAT.WIN_MISS [7:0]. -/
def Fld.EPT_ERR_STAT_WIN_MISS : Fld := ⟨Reg.EPT_ERR_STAT, 0, 8⟩
/-- EPT_ERR_STAT.WIN_PERM [15:8]. -/
def Fld.EPT_ERR_STAT_WIN_PERM : Fld := ⟨Reg.EPT_ERR_STAT, 8, 8⟩
/-- EPT_ERR_STAT.DISCARDED [23:16]. -/
def Fld.EPT_ERR_STAT_DISCARDED : Fld := ⟨Reg.EPT_ERR_STAT, 16, 8⟩
/-- EPT_ERR_STAT.CPL_TMO [31:24]. -/
def Fld.EPT_ERR_STAT_CPL_TMO : Fld := ⟨Reg.EPT_ERR_STAT, 24, 8⟩
/-- EPT_COPY_HOST_LO at 0x0020. -/
def Reg.EPT_COPY_HOST_LO : Nat := 0x400020
/-- EPT_COPY_HOST_LO.ADDR [31:0]. -/
def Fld.EPT_COPY_HOST_LO_ADDR : Fld := ⟨Reg.EPT_COPY_HOST_LO, 0, 32⟩
/-- EPT_COPY_HOST_HI at 0x0024. -/
def Reg.EPT_COPY_HOST_HI : Nat := 0x400024
/-- EPT_COPY_HOST_HI.ADDR [31:0]. -/
def Fld.EPT_COPY_HOST_HI_ADDR : Fld := ⟨Reg.EPT_COPY_HOST_HI, 0, 32⟩
/-- EPT_COPY_WIN at 0x0028. -/
def Reg.EPT_COPY_WIN : Nat := 0x400028
/-- EPT_COPY_WIN.WIN [5:0]. -/
def Fld.EPT_COPY_WIN_WIN : Fld := ⟨Reg.EPT_COPY_WIN, 0, 6⟩
/-- EPT_COPY_LEN at 0x002C. -/
def Reg.EPT_COPY_LEN : Nat := 0x40002C
/-- EPT_COPY_LEN.LEN [24:0]. -/
def Fld.EPT_COPY_LEN_LEN : Fld := ⟨Reg.EPT_COPY_LEN, 0, 25⟩
/-- EPT_COPY_CTL at 0x0030. -/
def Reg.EPT_COPY_CTL : Nat := 0x400030
/-- EPT_COPY_CTL.DIR [0:0]. -/
def Fld.EPT_COPY_CTL_DIR : Fld := ⟨Reg.EPT_COPY_CTL, 0, 1⟩
/-- EPT_COPY_CTL.COPY_VEC [11:1]. -/
def Fld.EPT_COPY_CTL_COPY_VEC : Fld := ⟨Reg.EPT_COPY_CTL, 1, 11⟩
/-- EPT_COPY_STAT at 0x0034. -/
def Reg.EPT_COPY_STAT : Nat := 0x400034
/-- EPT_COPY_STAT.BUSY [0:0]. -/
def Fld.EPT_COPY_STAT_BUSY : Fld := ⟨Reg.EPT_COPY_STAT, 0, 1⟩
/-- EPT_COPY_STAT.REJECT [1:1]. -/
def Fld.EPT_COPY_STAT_REJECT : Fld := ⟨Reg.EPT_COPY_STAT, 1, 1⟩
/-- EPT_COPY_STAT.STATUS [4:2]. -/
def Fld.EPT_COPY_STAT_STATUS : Fld := ⟨Reg.EPT_COPY_STAT, 2, 3⟩
/-- EPT_COPY_STAT.DONE_BYTES [31:8]. -/
def Fld.EPT_COPY_STAT_DONE_BYTES : Fld := ⟨Reg.EPT_COPY_STAT, 8, 24⟩
/-- EPT_COPY_OFF at 0x0038. -/
def Reg.EPT_COPY_OFF : Nat := 0x400038
/-- EPT_COPY_OFF.OFF [31:2]. -/
def Fld.EPT_COPY_OFF_OFF : Fld := ⟨Reg.EPT_COPY_OFF, 2, 30⟩
/-- EPT_WIN_CTL at 0x0100, w. -/
def Reg.EPT_WIN_CTL (w : Nat) : Nat := 0x400100 + 0x10 * w
/-- EPT_WIN_CTL.VALID [0:0]. -/
def Fld.EPT_WIN_CTL_VALID (w : Nat) : Fld := ⟨Reg.EPT_WIN_CTL w, 0, 1⟩
/-- EPT_WIN_CTL.RD [1:1]. -/
def Fld.EPT_WIN_CTL_RD (w : Nat) : Fld := ⟨Reg.EPT_WIN_CTL w, 1, 1⟩
/-- EPT_WIN_CTL.WR [2:2]. -/
def Fld.EPT_WIN_CTL_WR (w : Nat) : Fld := ⟨Reg.EPT_WIN_CTL w, 2, 1⟩
/-- EPT_WIN_CTL.SPACE [5:4]. -/
def Fld.EPT_WIN_CTL_SPACE (w : Nat) : Fld := ⟨Reg.EPT_WIN_CTL w, 4, 2⟩
/-- EPT_WIN_CTL.SIZE_LOG2 [13:8]. -/
def Fld.EPT_WIN_CTL_SIZE_LOG2 (w : Nat) : Fld := ⟨Reg.EPT_WIN_CTL w, 8, 6⟩
/-- EPT_WIN_CTL.ERR [31:31]. -/
def Fld.EPT_WIN_CTL_ERR (w : Nat) : Fld := ⟨Reg.EPT_WIN_CTL w, 31, 1⟩
/-- EPT_WIN_BASE at 0x0104, w. -/
def Reg.EPT_WIN_BASE (w : Nat) : Nat := 0x400104 + 0x10 * w
/-- EPT_WIN_BASE.BASE [31:12]. -/
def Fld.EPT_WIN_BASE_BASE (w : Nat) : Fld := ⟨Reg.EPT_WIN_BASE w, 12, 20⟩
/-- EPT_WIN_TGT_LO at 0x0108, w. -/
def Reg.EPT_WIN_TGT_LO (w : Nat) : Nat := 0x400108 + 0x10 * w
/-- EPT_WIN_TGT_LO.ADDR [31:12]. -/
def Fld.EPT_WIN_TGT_LO_ADDR (w : Nat) : Fld := ⟨Reg.EPT_WIN_TGT_LO w, 12, 20⟩
/-- EPT_WIN_TGT_HI at 0x010C, w. -/
def Reg.EPT_WIN_TGT_HI (w : Nat) : Nat := 0x40010C + 0x10 * w
/-- EPT_WIN_TGT_HI.ADDR [15:0]. -/
def Fld.EPT_WIN_TGT_HI_ADDR (w : Nat) : Fld := ⟨Reg.EPT_WIN_TGT_HI w, 0, 16⟩
/-- MFT_MBOX_CTL at 0x0000. -/
def Reg.MFT_MBOX_CTL : Nat := 0x500000
/-- MFT_MBOX_CTL.LEN [16:0]. -/
def Fld.MFT_MBOX_CTL_LEN : Fld := ⟨Reg.MFT_MBOX_CTL, 0, 17⟩
/-- MFT_MBOX_STAT at 0x0004. -/
def Reg.MFT_MBOX_STAT : Nat := 0x500004
/-- MFT_MBOX_STAT.BUSY [0:0]. -/
def Fld.MFT_MBOX_STAT_BUSY : Fld := ⟨Reg.MFT_MBOX_STAT, 0, 1⟩
/-- MFT_MBOX_STAT.DONE [1:1]. -/
def Fld.MFT_MBOX_STAT_DONE : Fld := ⟨Reg.MFT_MBOX_STAT, 1, 1⟩
/-- MFT_MBOX_STAT.REJECT [2:2]. -/
def Fld.MFT_MBOX_STAT_REJECT : Fld := ⟨Reg.MFT_MBOX_STAT, 2, 1⟩
/-- MFT_MBOX_STAT.RLEN [31:16]. -/
def Fld.MFT_MBOX_STAT_RLEN : Fld := ⟨Reg.MFT_MBOX_STAT, 16, 16⟩
/-- MFT_MBOX_CFG at 0x0008. -/
def Reg.MFT_MBOX_CFG : Nat := 0x500008
/-- MFT_MBOX_CFG.AUTH_REQ [0:0]. -/
def Fld.MFT_MBOX_CFG_AUTH_REQ : Fld := ⟨Reg.MFT_MBOX_CFG, 0, 1⟩
/-- MFT_MBOX_CFG.IRQ_EN [1:1]. -/
def Fld.MFT_MBOX_CFG_IRQ_EN : Fld := ⟨Reg.MFT_MBOX_CFG, 1, 1⟩
/-- MFT_MBOX_CFG.VECTOR [26:16]. -/
def Fld.MFT_MBOX_CFG_VECTOR : Fld := ⟨Reg.MFT_MBOX_CFG, 16, 11⟩
/-- MFT_CHAN_CFG at 0x000C. -/
def Reg.MFT_CHAN_CFG : Nat := 0x50000C
/-- MFT_CHAN_CFG.MBOX_EN [0:0]. -/
def Fld.MFT_CHAN_CFG_MBOX_EN : Fld := ⟨Reg.MFT_CHAN_CFG, 0, 1⟩
/-- MFT_CHAN_CFG.MGMT_EN [1:1]. -/
def Fld.MFT_CHAN_CFG_MGMT_EN : Fld := ⟨Reg.MFT_CHAN_CFG, 1, 1⟩
/-- MFT_CHAN_CFG.INBAND_EN [2:2]. -/
def Fld.MFT_CHAN_CFG_INBAND_EN : Fld := ⟨Reg.MFT_CHAN_CFG, 2, 1⟩
/-- MFT_SESS_CFG at 0x0010. -/
def Reg.MFT_SESS_CFG : Nat := 0x500010
/-- MFT_SESS_CFG.IDLE_S [15:0]. -/
def Fld.MFT_SESS_CFG_IDLE_S : Fld := ⟨Reg.MFT_SESS_CFG, 0, 16⟩
/-- MFT_STAT at 0x0014. -/
def Reg.MFT_STAT : Nat := 0x500014
/-- MFT_STAT.AUTH_FAIL [7:0]. -/
def Fld.MFT_STAT_AUTH_FAIL : Fld := ⟨Reg.MFT_STAT, 0, 8⟩
/-- MFT_STAT.FRAMING [15:8]. -/
def Fld.MFT_STAT_FRAMING : Fld := ⟨Reg.MFT_STAT, 8, 8⟩
/-- MFT_STAT.SOURCE [23:16]. -/
def Fld.MFT_STAT_SOURCE : Fld := ⟨Reg.MFT_STAT, 16, 8⟩
/-- MFT_STAT.DISABLED [31:24]. -/
def Fld.MFT_STAT_DISABLED : Fld := ⟨Reg.MFT_STAT, 24, 8⟩
/-- TAL_SEL at 0x10000, n. -/
def Reg.TAL_SEL (n : Nat) : Nat := 0x610000 + 0x8 * n
/-- TAL_SEL.MODE [25:24]. -/
def Fld.TAL_SEL_MODE (n : Nat) : Fld := ⟨Reg.TAL_SEL n, 24, 2⟩
/-- TAL_SEL.ERR [26:26]. -/
def Fld.TAL_SEL_ERR (n : Nat) : Fld := ⟨Reg.TAL_SEL n, 26, 1⟩
/-- TAL_SEL.EN [31:31]. -/
def Fld.TAL_SEL_EN (n : Nat) : Fld := ⟨Reg.TAL_SEL n, 31, 1⟩
/-- TAL_THR at 0x10004, n. -/
def Reg.TAL_THR (n : Nat) : Nat := 0x610004 + 0x8 * n
/-- TAL_THR.VALUE [31:0]. -/
def Fld.TAL_THR_VALUE (n : Nat) : Fld := ⟨Reg.TAL_THR n, 0, 32⟩
/-- TAL_USER_EN at 0x20000. -/
def Reg.TAL_USER_EN : Nat := 0x620000
/-- TAL_USER_EN.EN [0:0]. -/
def Fld.TAL_USER_EN_EN : Fld := ⟨Reg.TAL_USER_EN, 0, 1⟩
/-- TAL_STATUS at 0x20004. -/
def Reg.TAL_STATUS : Nat := 0x620004
/-- TAL_STATUS.DUMP_BUSY [0:0]. -/
def Fld.TAL_STATUS_DUMP_BUSY : Fld := ⟨Reg.TAL_STATUS, 0, 1⟩
/-- TAL_STATUS.SEL_ERR [1:1]. -/
def Fld.TAL_STATUS_SEL_ERR : Fld := ⟨Reg.TAL_STATUS, 1, 1⟩
/-- TAL_CLR at 0x20008. -/
def Reg.TAL_CLR : Nat := 0x620008
/-- TAL_CLR.INDEX [11:0]. -/
def Fld.TAL_CLR_INDEX : Fld := ⟨Reg.TAL_CLR, 0, 12⟩
/-- TAL_CLR.ALL [30:30]. -/
def Fld.TAL_CLR_ALL : Fld := ⟨Reg.TAL_CLR, 30, 1⟩
/-- TAL_DUMP_CFG at 0x20010. -/
def Reg.TAL_DUMP_CFG : Nat := 0x620010
/-- TAL_DUMP_CFG.EN [0:0]. -/
def Fld.TAL_DUMP_CFG_EN : Fld := ⟨Reg.TAL_DUMP_CFG, 0, 1⟩
/-- TAL_DUMP_CFG.TARGET [1:1]. -/
def Fld.TAL_DUMP_CFG_TARGET : Fld := ⟨Reg.TAL_DUMP_CFG, 1, 1⟩
/-- TAL_DUMP_CFG.IRQ_EN [2:2]. -/
def Fld.TAL_DUMP_CFG_IRQ_EN : Fld := ⟨Reg.TAL_DUMP_CFG, 2, 1⟩
/-- TAL_DUMP_CFG.VECTOR [13:3]. -/
def Fld.TAL_DUMP_CFG_VECTOR : Fld := ⟨Reg.TAL_DUMP_CFG, 3, 11⟩
/-- TAL_DUMP_PERIOD at 0x20014. -/
def Reg.TAL_DUMP_PERIOD : Nat := 0x620014
/-- TAL_DUMP_PERIOD.MS [15:0]. -/
def Fld.TAL_DUMP_PERIOD_MS : Fld := ⟨Reg.TAL_DUMP_PERIOD, 0, 16⟩
/-- TAL_DUMP_BASE_LO at 0x20018. -/
def Reg.TAL_DUMP_BASE_LO : Nat := 0x620018
/-- TAL_DUMP_BASE_LO.ADDR [31:6]. -/
def Fld.TAL_DUMP_BASE_LO_ADDR : Fld := ⟨Reg.TAL_DUMP_BASE_LO, 6, 26⟩
/-- TAL_DUMP_BASE_HI at 0x2001C. -/
def Reg.TAL_DUMP_BASE_HI : Nat := 0x62001C
/-- TAL_DUMP_BASE_HI.ADDR [31:0]. -/
def Fld.TAL_DUMP_BASE_HI_ADDR : Fld := ⟨Reg.TAL_DUMP_BASE_HI, 0, 32⟩
/-- TAL_DUMP_SLOTS at 0x20020. -/
def Reg.TAL_DUMP_SLOTS : Nat := 0x620020
/-- TAL_DUMP_SLOTS.SLOTS [15:0]. -/
def Fld.TAL_DUMP_SLOTS_SLOTS : Fld := ⟨Reg.TAL_DUMP_SLOTS, 0, 16⟩
/-- TAL_DUMP_SEQ_LO at 0x20028. -/
def Reg.TAL_DUMP_SEQ_LO : Nat := 0x620028
/-- TAL_DUMP_SEQ_LO.SEQ [31:0]. -/
def Fld.TAL_DUMP_SEQ_LO_SEQ : Fld := ⟨Reg.TAL_DUMP_SEQ_LO, 0, 32⟩
/-- TAL_DUMP_SEQ_HI at 0x2002C. -/
def Reg.TAL_DUMP_SEQ_HI : Nat := 0x62002C
/-- TAL_DUMP_SEQ_HI.SEQ [31:0]. -/
def Fld.TAL_DUMP_SEQ_HI_SEQ : Fld := ⟨Reg.TAL_DUMP_SEQ_HI, 0, 32⟩
/-- TAL_DUMP_STAT at 0x20030. -/
def Reg.TAL_DUMP_STAT : Nat := 0x620030
/-- TAL_DUMP_STAT.LOST [15:0]. -/
def Fld.TAL_DUMP_STAT_LOST : Fld := ⟨Reg.TAL_DUMP_STAT, 0, 16⟩
/-- TAL_DUMP_STAT.ZERO [16:16]. -/
def Fld.TAL_DUMP_STAT_ZERO : Fld := ⟨Reg.TAL_DUMP_STAT, 16, 1⟩
/-- TAL_DUMP_STAT.FAULT [17:17]. -/
def Fld.TAL_DUMP_STAT_FAULT : Fld := ⟨Reg.TAL_DUMP_STAT, 17, 1⟩
/-- TAL_DUMP_SET at 0x20100, w. -/
def Reg.TAL_DUMP_SET (w : Nat) : Nat := 0x620100 + 0x4 * w
/-- TAL_DUMP_SET.BITS [31:0]. -/
def Fld.TAL_DUMP_SET_BITS (w : Nat) : Fld := ⟨Reg.TAL_DUMP_SET w, 0, 32⟩
/-- CNL_STATUS at 0x0000. -/
def Reg.CNL_STATUS : Nat := 0x800000
/-- CNL_STATUS.PART_ERR [0:0]. -/
def Fld.CNL_STATUS_PART_ERR : Fld := ⟨Reg.CNL_STATUS, 0, 1⟩
/-- CNL_STATUS.STUCK [1:1]. -/
def Fld.CNL_STATUS_STUCK : Fld := ⟨Reg.CNL_STATUS, 1, 1⟩
/-- CNL_STATUS.POUND_UE [3:3]. -/
def Fld.CNL_STATUS_POUND_UE : Fld := ⟨Reg.CNL_STATUS, 3, 1⟩
/-- CNL_STATUS.POUND_CE [15:8]. -/
def Fld.CNL_STATUS_POUND_CE : Fld := ⟨Reg.CNL_STATUS, 8, 8⟩
/-- CNL_CTL at 0x0004. -/
def Reg.CNL_CTL : Nat := 0x800004
/-- CNL_CTL.SPILL_EN [1:1]. -/
def Fld.CNL_CTL_SPILL_EN : Fld := ⟨Reg.CNL_CTL, 1, 1⟩
/-- CNL_AGE_LIMIT at 0x0010. -/
def Reg.CNL_AGE_LIMIT : Nat := 0x800010
/-- CNL_AGE_LIMIT.LIMIT_US [19:0]. -/
def Fld.CNL_AGE_LIMIT_LIMIT_US : Fld := ⟨Reg.CNL_AGE_LIMIT, 0, 20⟩
/-- CNL_AGE_CFG at 0x0014. -/
def Reg.CNL_AGE_CFG : Nat := 0x800014
/-- CNL_AGE_CFG.RETRY [2:0]. -/
def Fld.CNL_AGE_CFG_RETRY : Fld := ⟨Reg.CNL_AGE_CFG, 0, 3⟩
/-- CNL_CREDIT at 0x0020. -/
def Reg.CNL_CREDIT : Nat := 0x800020
/-- CNL_CREDIT.MAX [6:0]. -/
def Fld.CNL_CREDIT_MAX : Fld := ⟨Reg.CNL_CREDIT, 0, 7⟩
/-- CNL_QMAX at 0x0024. -/
def Reg.CNL_QMAX : Nat := 0x800024
/-- CNL_QMAX.CELLS [19:0]. -/
def Fld.CNL_QMAX_CELLS : Fld := ⟨Reg.CNL_QMAX, 0, 20⟩
/-- CNL_ARB_WT at 0x0028. -/
def Reg.CNL_ARB_WT : Nat := 0x800028
/-- CNL_ARB_WT.NET_IN [3:0]. -/
def Fld.CNL_ARB_WT_NET_IN : Fld := ⟨Reg.CNL_ARB_WT, 0, 4⟩
/-- CNL_ARB_WT.NET_OUT [7:4]. -/
def Fld.CNL_ARB_WT_NET_OUT : Fld := ⟨Reg.CNL_ARB_WT, 4, 4⟩
/-- CNL_ARB_WT.DATA [11:8]. -/
def Fld.CNL_ARB_WT_DATA : Fld := ⟨Reg.CNL_ARB_WT, 8, 4⟩
/-- CNL_ARB_WT.PAR [15:12]. -/
def Fld.CNL_ARB_WT_PAR : Fld := ⟨Reg.CNL_ARB_WT, 12, 4⟩
/-- CNL_ARB_WT.TCP [19:16]. -/
def Fld.CNL_ARB_WT_TCP : Fld := ⟨Reg.CNL_ARB_WT, 16, 4⟩
/-- CNL_ARB_WT.BULK [23:20]. -/
def Fld.CNL_ARB_WT_BULK : Fld := ⟨Reg.CNL_ARB_WT, 20, 4⟩
/-- CNL_SPILL_CFG at 0x0030. -/
def Reg.CNL_SPILL_CFG : Nat := 0x800030
/-- CNL_SPILL_CFG.SIZE_GIB [4:0]. -/
def Fld.CNL_SPILL_CFG_SIZE_GIB : Fld := ⟨Reg.CNL_SPILL_CFG, 0, 5⟩
/-- CNL_SPILL_CFG.QMIN [19:8]. -/
def Fld.CNL_SPILL_CFG_QMIN : Fld := ⟨Reg.CNL_SPILL_CFG, 8, 12⟩
/-- CNL_PART_CFG at 0x0040, p. -/
def Reg.CNL_PART_CFG (p : Nat) : Nat := 0x800040 + 0x8 * p
/-- CNL_PART_CFG.RESERVE_MIB [7:0]. -/
def Fld.CNL_PART_CFG_RESERVE_MIB (p : Nat) : Fld := ⟨Reg.CNL_PART_CFG p, 0, 8⟩
/-- CNL_PART_CFG.CAP_MIB [23:16]. -/
def Fld.CNL_PART_CFG_CAP_MIB (p : Nat) : Fld := ⟨Reg.CNL_PART_CFG p, 16, 8⟩
/-- CNL_PART_WM at 0x0044, p. -/
def Reg.CNL_PART_WM (p : Nat) : Nat := 0x800044 + 0x8 * p
/-- CNL_PART_WM.SPILL_HI [6:0]. -/
def Fld.CNL_PART_WM_SPILL_HI (p : Nat) : Fld := ⟨Reg.CNL_PART_WM p, 0, 7⟩
/-- CNL_PART_WM.SPILL_LO [14:8]. -/
def Fld.CNL_PART_WM_SPILL_LO (p : Nat) : Fld := ⟨Reg.CNL_PART_WM p, 8, 7⟩
/-- CNL_PAR_STAT at 0x00A0. -/
def Reg.CNL_PAR_STAT : Nat := 0x8000A0
/-- CNL_PAR_STAT.POISONED [31:16]. -/
def Fld.CNL_PAR_STAT_POISONED : Fld := ⟨Reg.CNL_PAR_STAT, 16, 16⟩
/-- CNL_DISCARD at 0x00B0. -/
def Reg.CNL_DISCARD : Nat := 0x8000B0
/-- CNL_DISCARD.AGED [15:0]. -/
def Fld.CNL_DISCARD_AGED : Fld := ⟨Reg.CNL_DISCARD, 0, 16⟩
/-- CNL_DISCARD.ECC [31:16]. -/
def Fld.CNL_DISCARD_ECC : Fld := ⟨Reg.CNL_DISCARD, 16, 16⟩
/-- CNL_ATT_IDX at 0x0100. -/
def Reg.CNL_ATT_IDX : Nat := 0x800100
/-- CNL_ATT_IDX.ATT [6:0]. -/
def Fld.CNL_ATT_IDX_ATT : Fld := ⟨Reg.CNL_ATT_IDX, 0, 7⟩
/-- CNL_ATT_IDX.CLASS [10:8]. -/
def Fld.CNL_ATT_IDX_CLASS : Fld := ⟨Reg.CNL_ATT_IDX, 8, 3⟩
/-- CNL_ATT_STAT at 0x0104. -/
def Reg.CNL_ATT_STAT : Nat := 0x800104
/-- CNL_ATT_STAT.DEPTH [19:0]. -/
def Fld.CNL_ATT_STAT_DEPTH : Fld := ⟨Reg.CNL_ATT_STAT, 0, 20⟩
/-- CNL_ATT_STAT.SOURCES [26:20]. -/
def Fld.CNL_ATT_STAT_SOURCES : Fld := ⟨Reg.CNL_ATT_STAT, 20, 7⟩
/-- CNL_ATT_STAT.HELD [27:27]. -/
def Fld.CNL_ATT_STAT_HELD : Fld := ⟨Reg.CNL_ATT_STAT, 27, 1⟩
/-- CNL_ATT_STAT.SPILLED [28:28]. -/
def Fld.CNL_ATT_STAT_SPILLED : Fld := ⟨Reg.CNL_ATT_STAT, 28, 1⟩
/-- CNL_POUND_BASE at 0x0110. -/
def Reg.CNL_POUND_BASE : Nat := 0x800110
/-- CNL_POUND_BASE.WINDOW [3:0]. -/
def Fld.CNL_POUND_BASE_WINDOW : Fld := ⟨Reg.CNL_POUND_BASE, 0, 4⟩
/-- WHF_CTL at 0x0000. -/
def Reg.WHF_CTL : Nat := 0xC00000
/-- WHF_CTL.EN [0:0]. -/
def Fld.WHF_CTL_EN : Fld := ⟨Reg.WHF_CTL, 0, 1⟩
/-- WHF_CTL.LIGHTER_EN [1:1]. -/
def Fld.WHF_CTL_LIGHTER_EN : Fld := ⟨Reg.WHF_CTL, 1, 1⟩
/-- WHF_STATE at 0x0004. -/
def Reg.WHF_STATE : Nat := 0xC00004
/-- WHF_STATE.STATE [1:0]. -/
def Fld.WHF_STATE_STATE : Fld := ⟨Reg.WHF_STATE, 0, 2⟩
/-- WHF_STATE.CLEAN [2:2]. -/
def Fld.WHF_STATE_CLEAN : Fld := ⟨Reg.WHF_STATE, 2, 1⟩
/-- WHF_STATE.WALK_SET [17:4]. -/
def Fld.WHF_STATE_WALK_SET : Fld := ⟨Reg.WHF_STATE, 4, 14⟩
/-- WHF_CLEAN_CFG at 0x0008. -/
def Reg.WHF_CLEAN_CFG : Nat := 0xC00008
/-- WHF_CLEAN_CFG.WB_MAX [8:0]. -/
def Fld.WHF_CLEAN_CFG_WB_MAX : Fld := ⟨Reg.WHF_CLEAN_CFG, 0, 9⟩
/-- WHF_MAINT_ADDR_LO at 0x0040. -/
def Reg.WHF_MAINT_ADDR_LO : Nat := 0xC00040
/-- WHF_MAINT_ADDR_LO.ADDR [31:7]. -/
def Fld.WHF_MAINT_ADDR_LO_ADDR : Fld := ⟨Reg.WHF_MAINT_ADDR_LO, 7, 25⟩
/-- WHF_MAINT_ADDR_HI at 0x0044. -/
def Reg.WHF_MAINT_ADDR_HI : Nat := 0xC00044
/-- WHF_MAINT_ADDR_HI.ADDR [5:0]. -/
def Fld.WHF_MAINT_ADDR_HI_ADDR : Fld := ⟨Reg.WHF_MAINT_ADDR_HI, 0, 6⟩
/-- WHF_MAINT_CTL at 0x0048. -/
def Reg.WHF_MAINT_CTL : Nat := 0xC00048
/-- WHF_MAINT_CTL.LINES [15:0]. -/
def Fld.WHF_MAINT_CTL_LINES : Fld := ⟨Reg.WHF_MAINT_CTL, 0, 16⟩
/-- WHF_MAINT_CTL.OP [17:16]. -/
def Fld.WHF_MAINT_CTL_OP : Fld := ⟨Reg.WHF_MAINT_CTL, 16, 2⟩
/-- WHF_MAINT_STAT at 0x004C. -/
def Reg.WHF_MAINT_STAT : Nat := 0xC0004C
/-- WHF_MAINT_STAT.BUSY [0:0]. -/
def Fld.WHF_MAINT_STAT_BUSY : Fld := ⟨Reg.WHF_MAINT_STAT, 0, 1⟩
/-- WHF_MAINT_STAT.DONE [1:1]. -/
def Fld.WHF_MAINT_STAT_DONE : Fld := ⟨Reg.WHF_MAINT_STAT, 1, 1⟩
/-- WHF_MAINT_STAT.ZERO [2:2]. -/
def Fld.WHF_MAINT_STAT_ZERO : Fld := ⟨Reg.WHF_MAINT_STAT, 2, 1⟩
/-- WHF_MAINT_STAT.REJECT [3:3]. -/
def Fld.WHF_MAINT_STAT_REJECT : Fld := ⟨Reg.WHF_MAINT_STAT, 3, 1⟩
/-- WHF_MAINT_STAT.WRITTEN [31:16]. -/
def Fld.WHF_MAINT_STAT_WRITTEN : Fld := ⟨Reg.WHF_MAINT_STAT, 16, 16⟩
/-- WHF_ECC_STAT at 0x0050. -/
def Reg.WHF_ECC_STAT : Nat := 0xC00050
/-- WHF_ECC_STAT.CE [15:0]. -/
def Fld.WHF_ECC_STAT_CE : Fld := ⟨Reg.WHF_ECC_STAT, 0, 16⟩
/-- WHF_ECC_STAT.UE_CLEAN [23:16]. -/
def Fld.WHF_ECC_STAT_UE_CLEAN : Fld := ⟨Reg.WHF_ECC_STAT, 16, 8⟩
/-- WHF_ECC_STAT.UE_DIRTY [24:24]. -/
def Fld.WHF_ECC_STAT_UE_DIRTY : Fld := ⟨Reg.WHF_ECC_STAT, 24, 1⟩
/-- WHF_CLASS_CFG at 0x0010, c. -/
def Reg.WHF_CLASS_CFG (c : Nat) : Nat := 0xC00010 + 0x4 * c
/-- WHF_CLASS_CFG.WAYS [15:0]. -/
def Fld.WHF_CLASS_CFG_WAYS (c : Nat) : Fld := ⟨Reg.WHF_CLASS_CFG c, 0, 16⟩
/-- WHF_CLASS_CFG.WT [16:16]. -/
def Fld.WHF_CLASS_CFG_WT (c : Nat) : Fld := ⟨Reg.WHF_CLASS_CFG c, 16, 1⟩
/-- CIP_STATUS at 0x0000. -/
def Reg.CIP_STATUS : Nat := 0xD00000
/-- CIP_STATUS.FENCED [9:0]. -/
def Fld.CIP_STATUS_FENCED : Fld := ⟨Reg.CIP_STATUS, 0, 10⟩
/-- CIP_STATUS.ENT_DEGRADED [10:10]. -/
def Fld.CIP_STATUS_ENT_DEGRADED : Fld := ⟨Reg.CIP_STATUS, 10, 1⟩
/-- CIP_STATUS.TAG_FAIL [11:11]. -/
def Fld.CIP_STATUS_TAG_FAIL : Fld := ⟨Reg.CIP_STATUS, 11, 1⟩
/-- CIP_SLOT_IDX at 0x0010. -/
def Reg.CIP_SLOT_IDX : Nat := 0xD00010
/-- CIP_SLOT_IDX.SLOT [11:0]. -/
def Fld.CIP_SLOT_IDX_SLOT : Fld := ⟨Reg.CIP_SLOT_IDX, 0, 12⟩
/-- CIP_SLOT_CTL at 0x0014. -/
def Reg.CIP_SLOT_CTL : Nat := 0xD00014
/-- CIP_SLOT_CTL.MODE [1:0]. -/
def Fld.CIP_SLOT_CTL_MODE : Fld := ⟨Reg.CIP_SLOT_CTL, 0, 2⟩
/-- CIP_SERIAL_HI at 0x0024. -/
def Reg.CIP_SERIAL_HI : Nat := 0xD00024
/-- CIP_TAG_STAT at 0x00A0. -/
def Reg.CIP_TAG_STAT : Nat := 0xD000A0
/-- CIP_TAG_STAT.FAIL [15:0]. -/
def Fld.CIP_TAG_STAT_FAIL : Fld := ⟨Reg.CIP_TAG_STAT, 0, 16⟩
/-- CIP_TAG_STAT.RECOVERED [31:16]. -/
def Fld.CIP_TAG_STAT_RECOVERED : Fld := ⟨Reg.CIP_TAG_STAT, 16, 16⟩
/-- CIP_ENT_STAT at 0x00A4. -/
def Reg.CIP_ENT_STAT : Nat := 0xD000A4
/-- CIP_ENT_STAT.RCT_FAIL [7:0]. -/
def Fld.CIP_ENT_STAT_RCT_FAIL : Fld := ⟨Reg.CIP_ENT_STAT, 0, 8⟩
/-- CIP_ENT_STAT.APT_FAIL [15:8]. -/
def Fld.CIP_ENT_STAT_APT_FAIL : Fld := ⟨Reg.CIP_ENT_STAT, 8, 8⟩
/-- CIP_LANE_STAT at 0x00C0, l. -/
def Reg.CIP_LANE_STAT (l : Nat) : Nat := 0xD000C0 + 0x4 * l
/-- CIP_LANE_STAT.UE [16:16]. -/
def Fld.CIP_LANE_STAT_UE (l : Nat) : Fld := ⟨Reg.CIP_LANE_STAT l, 16, 1⟩
/-- CIP_LANE_STAT.CE [31:24]. -/
def Fld.CIP_LANE_STAT_CE (l : Nat) : Fld := ⟨Reg.CIP_LANE_STAT l, 24, 8⟩
/-- SLC_STATUS at 0x0000. -/
def Reg.SLC_STATUS : Nat := 0xE00000
/-- SLC_STATUS.CLAMPED [0:0]. -/
def Fld.SLC_STATUS_CLAMPED : Fld := ⟨Reg.SLC_STATUS, 0, 1⟩
/-- SLC_STATUS.SUB_DUP [1:1]. -/
def Fld.SLC_STATUS_SUB_DUP : Fld := ⟨Reg.SLC_STATUS, 1, 1⟩
/-- SLC_CFG at 0x0004. -/
def Reg.SLC_CFG : Nat := 0xE00004
/-- SLC_CFG.YELLOW_FREE [13:0]. -/
def Fld.SLC_CFG_YELLOW_FREE : Fld := ⟨Reg.SLC_CFG, 0, 14⟩
/-- SLC_CFG.YELLOW_DEPTH [22:16]. -/
def Fld.SLC_CFG_YELLOW_DEPTH : Fld := ⟨Reg.SLC_CFG, 16, 7⟩
/-- SLC_DROP at 0x0008. -/
def Reg.SLC_DROP : Nat := 0xE00008
/-- SLC_DROP.RED_NONSTORAGE [15:0]. -/
def Fld.SLC_DROP_RED_NONSTORAGE : Fld := ⟨Reg.SLC_DROP, 0, 16⟩
/-- SLC_PORT_CFG at 0x0200, p. -/
def Reg.SLC_PORT_CFG (p : Nat) : Nat := 0xE00200 + 0x4 * p
/-- SLC_PORT_CFG.MODE [0:0]. -/
def Fld.SLC_PORT_CFG_MODE (p : Nat) : Fld := ⟨Reg.SLC_PORT_CFG p, 0, 1⟩
/-- SLC_PORT_CFG.STRICT_N [3:2]. -/
def Fld.SLC_PORT_CFG_STRICT_N (p : Nat) : Fld := ⟨Reg.SLC_PORT_CFG p, 2, 2⟩
/-- SLC_PORT_CFG.OVERHEAD [11:4]. -/
def Fld.SLC_PORT_CFG_OVERHEAD (p : Nat) : Fld := ⟨Reg.SLC_PORT_CFG p, 4, 8⟩
/-- SLC_PORT_CFG.DSCP_EN [12:12]. -/
def Fld.SLC_PORT_CFG_DSCP_EN (p : Nat) : Fld := ⟨Reg.SLC_PORT_CFG p, 12, 1⟩
/-- SLC_PORT_CFG.CTRL_METER [28:16]. -/
def Fld.SLC_PORT_CFG_CTRL_METER (p : Nat) : Fld := ⟨Reg.SLC_PORT_CFG p, 16, 13⟩
/-- SLC_PORT_CFG.CTRL_EN [29:29]. -/
def Fld.SLC_PORT_CFG_CTRL_EN (p : Nat) : Fld := ⟨Reg.SLC_PORT_CFG p, 29, 1⟩
/-- SLC_CLASS_CFG at 0x0400, k. -/
def Reg.SLC_CLASS_CFG (k : Nat) : Nat := 0xE00400 + 0x4 * k
/-- SLC_CLASS_CFG.WEIGHT [7:0]. -/
def Fld.SLC_CLASS_CFG_WEIGHT (k : Nat) : Fld := ⟨Reg.SLC_CLASS_CFG k, 0, 8⟩
/-- SLC_PORT_TB_RATE at 0x2000, p. -/
def Reg.SLC_PORT_TB_RATE (p : Nat) : Nat := 0xE02000 + 0x8 * p
/-- SLC_PORT_TB_RATE.RATE [18:0]. -/
def Fld.SLC_PORT_TB_RATE_RATE (p : Nat) : Fld := ⟨Reg.SLC_PORT_TB_RATE p, 0, 19⟩
/-- SLC_PORT_TB_BURST at 0x2004, p. -/
def Reg.SLC_PORT_TB_BURST (p : Nat) : Nat := 0xE02004 + 0x8 * p
/-- SLC_PORT_TB_BURST.BURST [24:0]. -/
def Fld.SLC_PORT_TB_BURST_BURST (p : Nat) : Fld := ⟨Reg.SLC_PORT_TB_BURST p, 0, 25⟩
/-- SLC_PRECOLOUR at 0x3000, p, w. -/
def Reg.SLC_PRECOLOUR (p : Nat) (w : Nat) : Nat := 0xE03000 + 0x20 * p + 0x4 * w
/-- SLC_CMAX_RATE at 0x4000, k. -/
def Reg.SLC_CMAX_RATE (k : Nat) : Nat := 0xE04000 + 0x8 * k
/-- SLC_CMAX_RATE.RATE [18:0]. -/
def Fld.SLC_CMAX_RATE_RATE (k : Nat) : Fld := ⟨Reg.SLC_CMAX_RATE k, 0, 19⟩
/-- SLC_CMAX_BURST at 0x4004, k. -/
def Reg.SLC_CMAX_BURST (k : Nat) : Nat := 0xE04004 + 0x8 * k
/-- SLC_CMAX_BURST.BURST [24:0]. -/
def Fld.SLC_CMAX_BURST_BURST (k : Nat) : Fld := ⟨Reg.SLC_CMAX_BURST k, 0, 25⟩
/-- SLC_CMIN_RATE at 0x6000, k. -/
def Reg.SLC_CMIN_RATE (k : Nat) : Nat := 0xE06000 + 0x8 * k
/-- SLC_CMIN_RATE.RATE [18:0]. -/
def Fld.SLC_CMIN_RATE_RATE (k : Nat) : Fld := ⟨Reg.SLC_CMIN_RATE k, 0, 19⟩
/-- SLC_CMIN_BURST at 0x6004, k. -/
def Reg.SLC_CMIN_BURST (k : Nat) : Nat := 0xE06004 + 0x8 * k
/-- SLC_CMIN_BURST.BURST [24:0]. -/
def Fld.SLC_CMIN_BURST_BURST (k : Nat) : Fld := ⟨Reg.SLC_CMIN_BURST k, 0, 25⟩
/-- SLC_SUB_CFG at 0x10000, s. -/
def Reg.SLC_SUB_CFG (s : Nat) : Nat := 0xE10000 + 0x10 * s
/-- SLC_SUB_CFG.PORT [6:0]. -/
def Fld.SLC_SUB_CFG_PORT (s : Nat) : Fld := ⟨Reg.SLC_SUB_CFG s, 0, 7⟩
/-- SLC_SUB_CFG.CLASS [9:7]. -/
def Fld.SLC_SUB_CFG_CLASS (s : Nat) : Fld := ⟨Reg.SLC_SUB_CFG s, 7, 3⟩
/-- SLC_SUB_CFG.HOST [21:10]. -/
def Fld.SLC_SUB_CFG_HOST (s : Nat) : Fld := ⟨Reg.SLC_SUB_CFG s, 10, 12⟩
/-- SLC_SUB_CFG.WEIGHT [29:22]. -/
def Fld.SLC_SUB_CFG_WEIGHT (s : Nat) : Fld := ⟨Reg.SLC_SUB_CFG s, 22, 8⟩
/-- SLC_SUB_CFG.VALID [31:31]. -/
def Fld.SLC_SUB_CFG_VALID (s : Nat) : Fld := ⟨Reg.SLC_SUB_CFG s, 31, 1⟩
/-- SLC_SUB_MIN at 0x10004, s. -/
def Reg.SLC_SUB_MIN (s : Nat) : Nat := 0xE10004 + 0x10 * s
/-- SLC_SUB_MIN.RATE [18:0]. -/
def Fld.SLC_SUB_MIN_RATE (s : Nat) : Fld := ⟨Reg.SLC_SUB_MIN s, 0, 19⟩
/-- SLC_SUB_MAX at 0x10008, s. -/
def Reg.SLC_SUB_MAX (s : Nat) : Nat := 0xE10008 + 0x10 * s
/-- SLC_SUB_MAX.RATE [18:0]. -/
def Fld.SLC_SUB_MAX_RATE (s : Nat) : Fld := ⟨Reg.SLC_SUB_MAX s, 0, 19⟩
/-- SLC_SUB_BURST at 0x1000C, s. -/
def Reg.SLC_SUB_BURST (s : Nat) : Nat := 0xE1000C + 0x10 * s
/-- SLC_SUB_BURST.BURST [24:0]. -/
def Fld.SLC_SUB_BURST_BURST (s : Nat) : Fld := ⟨Reg.SLC_SUB_BURST s, 0, 25⟩
/-- SLC_MTR_CFG at 0x40000, m. -/
def Reg.SLC_MTR_CFG (m : Nat) : Nat := 0xE40000 + 0x20 * m
/-- SLC_MTR_CFG.ALG [1:0]. -/
def Fld.SLC_MTR_CFG_ALG (m : Nat) : Fld := ⟨Reg.SLC_MTR_CFG m, 0, 2⟩
/-- SLC_MTR_CFG.AWARE [2:2]. -/
def Fld.SLC_MTR_CFG_AWARE (m : Nat) : Fld := ⟨Reg.SLC_MTR_CFG m, 2, 1⟩
/-- SLC_MTR_CFG.OVERHEAD [15:8]. -/
def Fld.SLC_MTR_CFG_OVERHEAD (m : Nat) : Fld := ⟨Reg.SLC_MTR_CFG m, 8, 8⟩
/-- SLC_MTR_CIR at 0x40004, m. -/
def Reg.SLC_MTR_CIR (m : Nat) : Nat := 0xE40004 + 0x20 * m
/-- SLC_MTR_CIR.RATE [18:0]. -/
def Fld.SLC_MTR_CIR_RATE (m : Nat) : Fld := ⟨Reg.SLC_MTR_CIR m, 0, 19⟩
/-- SLC_MTR_CBS at 0x40008, m. -/
def Reg.SLC_MTR_CBS (m : Nat) : Nat := 0xE40008 + 0x20 * m
/-- SLC_MTR_CBS.SIZE [24:0]. -/
def Fld.SLC_MTR_CBS_SIZE (m : Nat) : Fld := ⟨Reg.SLC_MTR_CBS m, 0, 25⟩
/-- SLC_MTR_PIR at 0x4000C, m. -/
def Reg.SLC_MTR_PIR (m : Nat) : Nat := 0xE4000C + 0x20 * m
/-- SLC_MTR_PIR.RATE [18:0]. -/
def Fld.SLC_MTR_PIR_RATE (m : Nat) : Fld := ⟨Reg.SLC_MTR_PIR m, 0, 19⟩
/-- SLC_MTR_PBS at 0x40010, m. -/
def Reg.SLC_MTR_PBS (m : Nat) : Nat := 0xE40010 + 0x20 * m
/-- SLC_MTR_PBS.SIZE [24:0]. -/
def Fld.SLC_MTR_PBS_SIZE (m : Nat) : Fld := ⟨Reg.SLC_MTR_PBS m, 0, 25⟩
/-- SLC_NSB_RATE at 0x80000, k. -/
def Reg.SLC_NSB_RATE (k : Nat) : Nat := 0xE80000 + 0x8 * k
/-- SLC_NSB_RATE.RATE [31:0]. -/
def Fld.SLC_NSB_RATE_RATE (k : Nat) : Fld := ⟨Reg.SLC_NSB_RATE k, 0, 32⟩
/-- SLC_NSB_BURST at 0x80004, k. -/
def Reg.SLC_NSB_BURST (k : Nat) : Nat := 0xE80004 + 0x8 * k
/-- SLC_NSB_BURST.SIZE [31:0]. -/
def Fld.SLC_NSB_BURST_SIZE (k : Nat) : Fld := ⟨Reg.SLC_NSB_BURST k, 0, 32⟩
/-- BRG_STATUS at 0x0004, i. -/
def Reg.BRG_STATUS (i : Nat) : Nat := 0x1000004 + 0x10000 * i
/-- BRG_STATUS.STATE [2:0]. -/
def Fld.BRG_STATUS_STATE (i : Nat) : Fld := ⟨Reg.BRG_STATUS i, 0, 3⟩
/-- BRG_FAULT at 0x0008, i. -/
def Reg.BRG_FAULT (i : Nat) : Nat := 0x1000008 + 0x10000 * i
/-- BRG_FAULT.BANK_UE [0:0]. -/
def Fld.BRG_FAULT_BANK_UE (i : Nat) : Fld := ⟨Reg.BRG_FAULT i, 0, 1⟩
/-- BRG_FAULT.ISTORE_PAR [1:1]. -/
def Fld.BRG_FAULT_ISTORE_PAR (i : Nat) : Fld := ⟨Reg.BRG_FAULT i, 1, 1⟩
/-- BRG_FAULT.REG_PAR [2:2]. -/
def Fld.BRG_FAULT_REG_PAR (i : Nat) : Fld := ⟨Reg.BRG_FAULT i, 2, 1⟩
/-- BRG_FAULT.STEP_LIMIT [3:3]. -/
def Fld.BRG_FAULT_STEP_LIMIT (i : Nat) : Fld := ⟨Reg.BRG_FAULT i, 3, 1⟩
/-- BRG_FAULT.MANUAL [4:4]. -/
def Fld.BRG_FAULT_MANUAL (i : Nat) : Fld := ⟨Reg.BRG_FAULT i, 4, 1⟩
/-- BRG_FAULT.SELFTEST [5:5]. -/
def Fld.BRG_FAULT_SELFTEST (i : Nat) : Fld := ⟨Reg.BRG_FAULT i, 5, 1⟩
/-- BRG_TOW_CTL at 0x0010, i. -/
def Reg.BRG_TOW_CTL (i : Nat) : Nat := 0x1000010 + 0x10000 * i
/-- BRG_TOW_CTL.THRESH [5:0]. -/
def Fld.BRG_TOW_CTL_THRESH (i : Nat) : Fld := ⟨Reg.BRG_TOW_CTL i, 0, 6⟩
/-- BRG_TOW_CTL.TAKE_MAX [11:8]. -/
def Fld.BRG_TOW_CTL_TAKE_MAX (i : Nat) : Fld := ⟨Reg.BRG_TOW_CTL i, 8, 4⟩
/-- BRG_TOW_CTL.TOW_EN [12:12]. -/
def Fld.BRG_TOW_CTL_TOW_EN (i : Nat) : Fld := ⟨Reg.BRG_TOW_CTL i, 12, 1⟩
/-- BRG_TOW_CTL.LONG_EN [13:13]. -/
def Fld.BRG_TOW_CTL_LONG_EN (i : Nat) : Fld := ⟨Reg.BRG_TOW_CTL i, 13, 1⟩
/-- BRG_TOW_CTL.VICTIM_EN [14:14]. -/
def Fld.BRG_TOW_CTL_VICTIM_EN (i : Nat) : Fld := ⟨Reg.BRG_TOW_CTL i, 14, 1⟩
/-- BRG_BANK_CTL at 0x0020, i. -/
def Reg.BRG_BANK_CTL (i : Nat) : Nat := 0x1000020 + 0x10000 * i
/-- BRG_BANK_CTL.REQ [1:0]. -/
def Fld.BRG_BANK_CTL_REQ (i : Nat) : Fld := ⟨Reg.BRG_BANK_CTL i, 0, 2⟩
/-- BRG_BANK_STAT at 0x0024, i. -/
def Reg.BRG_BANK_STAT (i : Nat) : Nat := 0x1000024 + 0x10000 * i
/-- BRG_BANK_STAT.STATE [1:0]. -/
def Fld.BRG_BANK_STAT_STATE (i : Nat) : Fld := ⟨Reg.BRG_BANK_STAT i, 0, 2⟩
/-- BRG_BANK_STAT.REFUSED [2:2]. -/
def Fld.BRG_BANK_STAT_REFUSED (i : Nat) : Fld := ⟨Reg.BRG_BANK_STAT i, 2, 1⟩
/-- BRG_BANK_STAT.UE [3:3]. -/
def Fld.BRG_BANK_STAT_UE (i : Nat) : Fld := ⟨Reg.BRG_BANK_STAT i, 3, 1⟩
/-- BRG_BANK_STAT.CE [15:8]. -/
def Fld.BRG_BANK_STAT_CE (i : Nat) : Fld := ⟨Reg.BRG_BANK_STAT i, 8, 8⟩
/-- BRG_TOW_TIME at 0x0040. -/
def Reg.BRG_TOW_TIME : Nat := 0x1000040
/-- BRG_TOW_TIME.LONG_IDLE [9:0]. -/
def Fld.BRG_TOW_TIME_LONG_IDLE : Fld := ⟨Reg.BRG_TOW_TIME, 0, 10⟩
/-- BRG_TOW_TIME.AGE_US [25:16]. -/
def Fld.BRG_TOW_TIME_AGE_US : Fld := ⟨Reg.BRG_TOW_TIME, 16, 10⟩
/-- BRG_ADMIT_CFG at 0x0048. -/
def Reg.BRG_ADMIT_CFG : Nat := 0x1000048
/-- BRG_ADMIT_CFG.HOME_POLICY [0:0]. -/
def Fld.BRG_ADMIT_CFG_HOME_POLICY : Fld := ⟨Reg.BRG_ADMIT_CFG, 0, 1⟩
/-- BRG_BERTH_IDX at 0x0100. -/
def Reg.BRG_BERTH_IDX : Nat := 0x1000100
/-- BRG_BERTH_IDX.BERTH [17:0]. -/
def Fld.BRG_BERTH_IDX_BERTH : Fld := ⟨Reg.BRG_BERTH_IDX, 0, 18⟩
/-- BRG_BERTH_IDX.BUSY [31:31]. -/
def Fld.BRG_BERTH_IDX_BUSY : Fld := ⟨Reg.BRG_BERTH_IDX, 31, 1⟩
/-- BRG_BERTH_DATA at 0x0200, n. -/
def Reg.BRG_BERTH_DATA (n : Nat) : Nat := 0x1000200 + 0x4 * n
/-- BRG_BERTH_DATA.WORD [31:0]. -/
def Fld.BRG_BERTH_DATA_WORD (n : Nat) : Fld := ⟨Reg.BRG_BERTH_DATA n, 0, 32⟩
/-- TUG_STATUS at 0x0004, i. -/
def Reg.TUG_STATUS (i : Nat) : Nat := 0x2000004 + 0x20000 * i
/-- TUG_STATUS.FENCED [0:0]. -/
def Fld.TUG_STATUS_FENCED (i : Nat) : Fld := ⟨Reg.TUG_STATUS i, 0, 1⟩
/-- TUG_STATUS.FAULT [1:1]. -/
def Fld.TUG_STATUS_FAULT (i : Nat) : Fld := ⟨Reg.TUG_STATUS i, 1, 1⟩
/-- TUG_SPRAY_CFG at 0x0020. -/
def Reg.TUG_SPRAY_CFG : Nat := 0x2000020
/-- TUG_SPRAY_CFG.REORDER_US [9:0]. -/
def Fld.TUG_SPRAY_CFG_REORDER_US : Fld := ⟨Reg.TUG_SPRAY_CFG, 0, 10⟩
/-- TUG_SPRAY_CFG.MAX_PATHS [17:14]. -/
def Fld.TUG_SPRAY_CFG_MAX_PATHS : Fld := ⟨Reg.TUG_SPRAY_CFG, 14, 4⟩
/-- TUG_SPRAY_CFG.RELAXED_EN [18:18]. -/
def Fld.TUG_SPRAY_CFG_RELAXED_EN : Fld := ⟨Reg.TUG_SPRAY_CFG, 18, 1⟩
/-- TUG_SPRAY_CFG.SPRAY_EN [19:19]. -/
def Fld.TUG_SPRAY_CFG_SPRAY_EN : Fld := ⟨Reg.TUG_SPRAY_CFG, 19, 1⟩
/-- TUG_SPRAY_CFG.WIN_LOG2 [23:20]. -/
def Fld.TUG_SPRAY_CFG_WIN_LOG2 : Fld := ⟨Reg.TUG_SPRAY_CFG, 20, 4⟩
/-- TUG_SPRAY_CFG.SPORT_BASE [31:24]. -/
def Fld.TUG_SPRAY_CFG_SPORT_BASE : Fld := ⟨Reg.TUG_SPRAY_CFG, 24, 8⟩
/-- TUG_ACK_CFG at 0x0024. -/
def Reg.TUG_ACK_CFG : Nat := 0x2000024
/-- TUG_ACK_CFG.ACK_EVERY [7:0]. -/
def Fld.TUG_ACK_CFG_ACK_EVERY : Fld := ⟨Reg.TUG_ACK_CFG, 0, 8⟩
/-- TUG_ACK_CFG.PATH_FAIL [23:20]. -/
def Fld.TUG_ACK_CFG_PATH_FAIL : Fld := ⟨Reg.TUG_ACK_CFG, 20, 4⟩
/-- TUG_DRAIN_LIMIT at 0x0028. -/
def Reg.TUG_DRAIN_LIMIT : Nat := 0x2000028
/-- TUG_DRAIN_LIMIT.LIMIT_US [10:0]. -/
def Fld.TUG_DRAIN_LIMIT_LIMIT_US : Fld := ⟨Reg.TUG_DRAIN_LIMIT, 0, 11⟩
/-- TUG_RC_CFG0 at 0x0030. -/
def Reg.TUG_RC_CFG0 : Nat := 0x2000030
/-- TUG_RC_CFG0.CUT [7:0]. -/
def Fld.TUG_RC_CFG0_CUT : Fld := ⟨Reg.TUG_RC_CFG0, 0, 8⟩
/-- TUG_RC_CFG0.FAST_STEPS [15:8]. -/
def Fld.TUG_RC_CFG0_FAST_STEPS : Fld := ⟨Reg.TUG_RC_CFG0, 8, 8⟩
/-- TUG_RC_CFG0.EPOCH [25:16]. -/
def Fld.TUG_RC_CFG0_EPOCH : Fld := ⟨Reg.TUG_RC_CFG0, 16, 10⟩
/-- TUG_RC_CFG1 at 0x0034. -/
def Reg.TUG_RC_CFG1 : Nat := 0x2000034
/-- TUG_RC_CFG1.STEP [15:0]. -/
def Fld.TUG_RC_CFG1_STEP : Fld := ⟨Reg.TUG_RC_CFG1, 0, 16⟩
/-- TUG_RC_CFG1.INTERVAL [25:16]. -/
def Fld.TUG_RC_CFG1_INTERVAL : Fld := ⟨Reg.TUG_RC_CFG1, 16, 10⟩
/-- TUG_RC_CFG2 at 0x0038. -/
def Reg.TUG_RC_CFG2 : Nat := 0x2000038
/-- TUG_RC_CFG2.MIN_RATE [15:0]. -/
def Fld.TUG_RC_CFG2_MIN_RATE : Fld := ⟨Reg.TUG_RC_CFG2, 0, 16⟩
/-- TUG_RC_CFG2.CNP_GAP [23:16]. -/
def Fld.TUG_RC_CFG2_CNP_GAP : Fld := ⟨Reg.TUG_RC_CFG2, 16, 8⟩
/-- TUG_RC_CFG2.RC_EN [24:24]. -/
def Fld.TUG_RC_CFG2_RC_EN : Fld := ⟨Reg.TUG_RC_CFG2, 24, 1⟩
/-- TUG_TCP_CFG0 at 0x0040. -/
def Reg.TUG_TCP_CFG0 : Nat := 0x2000040
/-- TUG_TCP_CFG0.MAX_RETX [11:8]. -/
def Fld.TUG_TCP_CFG0_MAX_RETX : Fld := ⟨Reg.TUG_TCP_CFG0, 8, 4⟩
/-- TUG_TCP_CFG0.DELACK_US [23:16]. -/
def Fld.TUG_TCP_CFG0_DELACK_US : Fld := ⟨Reg.TUG_TCP_CFG0, 16, 8⟩
/-- TUG_TCP_CFG0.ECN_EN [24:24]. -/
def Fld.TUG_TCP_CFG0_ECN_EN : Fld := ⟨Reg.TUG_TCP_CFG0, 24, 1⟩
/-- TUG_TCP_CFG1 at 0x0044. -/
def Reg.TUG_TCP_CFG1 : Nat := 0x2000044
/-- TUG_TCP_CFG1.RWND_KIB [15:0]. -/
def Fld.TUG_TCP_CFG1_RWND_KIB : Fld := ⟨Reg.TUG_TCP_CFG1, 0, 16⟩
/-- TUG_CM_CFG at 0x0050. -/
def Reg.TUG_CM_CFG : Nat := 0x2000050
/-- TUG_CM_CFG.RETRY_CNT [10:8]. -/
def Fld.TUG_CM_CFG_RETRY_CNT : Fld := ⟨Reg.TUG_CM_CFG, 8, 3⟩
/-- TUG_CM_CFG.RNR_RETRY [14:12]. -/
def Fld.TUG_CM_CFG_RNR_RETRY : Fld := ⟨Reg.TUG_CM_CFG, 12, 3⟩
/-- TUG_CM_CFG.RESP_RES [23:16]. -/
def Fld.TUG_CM_CFG_RESP_RES : Fld := ⟨Reg.TUG_CM_CFG, 16, 8⟩
/-- TUG_CM_CFG.INIT_DEPTH [31:24]. -/
def Fld.TUG_CM_CFG_INIT_DEPTH : Fld := ⟨Reg.TUG_CM_CFG, 24, 8⟩
/-- TUG_QPT_IDX at 0x0100. -/
def Reg.TUG_QPT_IDX : Nat := 0x2000100
/-- TUG_QPT_IDX.ENTRY [15:0]. -/
def Fld.TUG_QPT_IDX_ENTRY : Fld := ⟨Reg.TUG_QPT_IDX, 0, 16⟩
/-- TUG_QPT_DATA at 0x0180, n. -/
def Reg.TUG_QPT_DATA (n : Nat) : Nat := 0x2000180 + 0x4 * n
/-- TUG_QPT_DATA.WORD [31:0]. -/
def Fld.TUG_QPT_DATA_WORD (n : Nat) : Fld := ⟨Reg.TUG_QPT_DATA n, 0, 32⟩
/-- TUG_STAIR_STAT at 0x0200, i. -/
def Reg.TUG_STAIR_STAT (i : Nat) : Nat := 0x2000200 + 0x100000 * i
/-- TUG_STAIR_STAT.OVERRUN [31:24]. -/
def Fld.TUG_STAIR_STAT_OVERRUN (i : Nat) : Fld := ⟨Reg.TUG_STAIR_STAT i, 24, 8⟩
/-- NET_QUAD_CFG at 0x0000, i. -/
def Reg.NET_QUAD_CFG (i : Nat) : Nat := 0x2800000 + 0x20000 * i
/-- NET_QUAD_CFG.MODE [1:0]. -/
def Fld.NET_QUAD_CFG_MODE (i : Nat) : Fld := ⟨Reg.NET_QUAD_CFG i, 0, 2⟩
/-- NET_QUAD_CFG.AN_EN [2:2]. -/
def Fld.NET_QUAD_CFG_AN_EN (i : Nat) : Fld := ⟨Reg.NET_QUAD_CFG i, 2, 1⟩
/-- NET_QUAD_CFG.DEG_MAX [31:16]. -/
def Fld.NET_QUAD_CFG_DEG_MAX (i : Nat) : Fld := ⟨Reg.NET_QUAD_CFG i, 16, 16⟩
/-- NET_QUAD_STAT at 0x0004, i. -/
def Reg.NET_QUAD_STAT (i : Nat) : Nat := 0x2800004 + 0x20000 * i
/-- NET_QUAD_STAT.TRAINING [0:0]. -/
def Fld.NET_QUAD_STAT_TRAINING (i : Nat) : Fld := ⟨Reg.NET_QUAD_STAT i, 0, 1⟩
/-- NET_QUAD_STAT.MAP_ERR [1:1]. -/
def Fld.NET_QUAD_STAT_MAP_ERR (i : Nat) : Fld := ⟨Reg.NET_QUAD_STAT i, 1, 1⟩
/-- NET_QUAD_STAT.PFC_ERR [2:2]. -/
def Fld.NET_QUAD_STAT_PFC_ERR (i : Nat) : Fld := ⟨Reg.NET_QUAD_STAT i, 2, 1⟩
/-- NET_LANE_MAP at 0x0008, i. -/
def Reg.NET_LANE_MAP (i : Nat) : Nat := 0x2800008 + 0x20000 * i
/-- NET_EEE_CFG at 0x000C, i. -/
def Reg.NET_EEE_CFG (i : Nat) : Nat := 0x280000C + 0x20000 * i
/-- NET_EEE_CFG.IDLE_US [15:0]. -/
def Fld.NET_EEE_CFG_IDLE_US (i : Nat) : Fld := ⟨Reg.NET_EEE_CFG i, 0, 16⟩
/-- NET_EEE_CFG.TW_EXTRA [23:16]. -/
def Fld.NET_EEE_CFG_TW_EXTRA (i : Nat) : Fld := ⟨Reg.NET_EEE_CFG i, 16, 8⟩
/-- NET_PORT_CFG at 0x0100, i, l. -/
def Reg.NET_PORT_CFG (i : Nat) (l : Nat) : Nat := 0x2800100 + 0x20000 * i + 0x100 * l
/-- NET_PORT_CFG.EN [0:0]. -/
def Fld.NET_PORT_CFG_EN (i : Nat) (l : Nat) : Fld := ⟨Reg.NET_PORT_CFG i l, 0, 1⟩
/-- NET_PORT_CFG.MTU [14:1]. -/
def Fld.NET_PORT_CFG_MTU (i : Nat) (l : Nat) : Fld := ⟨Reg.NET_PORT_CFG i l, 1, 14⟩
/-- NET_PORT_CFG.PAUSE_EN [15:15]. -/
def Fld.NET_PORT_CFG_PAUSE_EN (i : Nat) (l : Nat) : Fld := ⟨Reg.NET_PORT_CFG i l, 15, 1⟩
/-- NET_PORT_CFG.PFC_EN [23:16]. -/
def Fld.NET_PORT_CFG_PFC_EN (i : Nat) (l : Nat) : Fld := ⟨Reg.NET_PORT_CFG i l, 16, 8⟩
/-- NET_PORT_CFG.WAKE [25:24]. -/
def Fld.NET_PORT_CFG_WAKE (i : Nat) (l : Nat) : Fld := ⟨Reg.NET_PORT_CFG i l, 24, 2⟩
/-- NET_PORT_CFG.DEGRADE_DOWN [26:26]. -/
def Fld.NET_PORT_CFG_DEGRADE_DOWN (i : Nat) (l : Nat) : Fld := ⟨Reg.NET_PORT_CFG i l, 26, 1⟩
/-- NET_PORT_CFG.ACL_DEF [27:27]. -/
def Fld.NET_PORT_CFG_ACL_DEF (i : Nat) (l : Nat) : Fld := ⟨Reg.NET_PORT_CFG i l, 27, 1⟩
/-- NET_PORT_STAT at 0x0104, i, l. -/
def Reg.NET_PORT_STAT (i : Nat) (l : Nat) : Nat := 0x2800104 + 0x20000 * i + 0x100 * l
/-- NET_PORT_STAT.LINK [0:0]. -/
def Fld.NET_PORT_STAT_LINK (i : Nat) (l : Nat) : Fld := ⟨Reg.NET_PORT_STAT i l, 0, 1⟩
/-- NET_PORT_STAT.LPI_TX [1:1]. -/
def Fld.NET_PORT_STAT_LPI_TX (i : Nat) (l : Nat) : Fld := ⟨Reg.NET_PORT_STAT i l, 1, 1⟩
/-- NET_PORT_STAT.LPI_RX [2:2]. -/
def Fld.NET_PORT_STAT_LPI_RX (i : Nat) (l : Nat) : Fld := ⟨Reg.NET_PORT_STAT i l, 2, 1⟩
/-- NET_PORT_STAT.DEGRADED [3:3]. -/
def Fld.NET_PORT_STAT_DEGRADED (i : Nat) (l : Nat) : Fld := ⟨Reg.NET_PORT_STAT i l, 3, 1⟩
/-- NET_PORT_STAT.ADDR_CONFLICT [4:4]. -/
def Fld.NET_PORT_STAT_ADDR_CONFLICT (i : Nat) (l : Nat) : Fld := ⟨Reg.NET_PORT_STAT i l, 4, 1⟩
/-- NET_PORT_STAT.HEAD_OVR [5:5]. -/
def Fld.NET_PORT_STAT_HEAD_OVR (i : Nat) (l : Nat) : Fld := ⟨Reg.NET_PORT_STAT i l, 5, 1⟩
/-- NET_PORT_STAT.PAUSED_RX [6:6]. -/
def Fld.NET_PORT_STAT_PAUSED_RX (i : Nat) (l : Nat) : Fld := ⟨Reg.NET_PORT_STAT i l, 6, 1⟩
/-- NET_PORT_STAT.PFC_RX [15:8]. -/
def Fld.NET_PORT_STAT_PFC_RX (i : Nat) (l : Nat) : Fld := ⟨Reg.NET_PORT_STAT i l, 8, 8⟩
/-- NET_PORT_STAT.XOFF_TX [23:16]. -/
def Fld.NET_PORT_STAT_XOFF_TX (i : Nat) (l : Nat) : Fld := ⟨Reg.NET_PORT_STAT i l, 16, 8⟩
/-- NET_PFC_CFG at 0x0108, i, l. -/
def Reg.NET_PFC_CFG (i : Nat) (l : Nat) : Nat := 0x2800108 + 0x20000 * i + 0x100 * l
/-- NET_PFC_CFG.QUANTA [15:0]. -/
def Fld.NET_PFC_CFG_QUANTA (i : Nat) (l : Nat) : Fld := ⟨Reg.NET_PFC_CFG i l, 0, 16⟩
/-- NET_PFC_THR at 0x0120, i, l, c. -/
def Reg.NET_PFC_THR (i : Nat) (l : Nat) (c : Nat) : Nat := 0x2800120 + 0x20000 * i + 0x100 * l + 0x4 * c
/-- NET_PFC_THR.XOFF [10:0]. -/
def Fld.NET_PFC_THR_XOFF (i : Nat) (l : Nat) (c : Nat) : Fld := ⟨Reg.NET_PFC_THR i l c, 0, 11⟩
/-- NET_PFC_THR.XON [21:11]. -/
def Fld.NET_PFC_THR_XON (i : Nat) (l : Nat) (c : Nat) : Fld := ⟨Reg.NET_PFC_THR i l c, 11, 11⟩
/-- NET_PFC_THR.HEAD [26:22]. -/
def Fld.NET_PFC_THR_HEAD (i : Nat) (l : Nat) (c : Nat) : Fld := ⟨Reg.NET_PFC_THR i l c, 22, 5⟩
/-- NET_WAKE_PAT at 0x0140, i, l, w. -/
def Reg.NET_WAKE_PAT (i : Nat) (l : Nat) (w : Nat) : Nat := 0x2800140 + 0x20000 * i + 0x100 * l + 0x4 * w
/-- NET_CNT_LO at 0x1000, i, l, n. -/
def Reg.NET_CNT_LO (i : Nat) (l : Nat) (n : Nat) : Nat := 0x2801000 + 0x20000 * i + 0x200 * l + 0x8 * n
/-- NET_CNT_LO.COUNT [31:0]. -/
def Fld.NET_CNT_LO_COUNT (i : Nat) (l : Nat) (n : Nat) : Fld := ⟨Reg.NET_CNT_LO i l n, 0, 32⟩
/-- NET_CNT_HI at 0x1004, i, l, n. -/
def Reg.NET_CNT_HI (i : Nat) (l : Nat) (n : Nat) : Nat := 0x2801004 + 0x20000 * i + 0x200 * l + 0x8 * n
/-- NET_CNT_HI.COUNT [31:0]. -/
def Fld.NET_CNT_HI_COUNT (i : Nat) (l : Nat) (n : Nat) : Fld := ⟨Reg.NET_CNT_HI i l n, 0, 32⟩
/-- NET_MCNT_LO at 0x1800, n. -/
def Reg.NET_MCNT_LO (n : Nat) : Nat := 0x2801800 + 0x8 * n
/-- NET_MCNT_LO.COUNT [31:0]. -/
def Fld.NET_MCNT_LO_COUNT (n : Nat) : Fld := ⟨Reg.NET_MCNT_LO n, 0, 32⟩
/-- NET_MCNT_HI at 0x1804, n. -/
def Reg.NET_MCNT_HI (n : Nat) : Nat := 0x2801804 + 0x8 * n
/-- NET_MCNT_HI.COUNT [31:0]. -/
def Fld.NET_MCNT_HI_COUNT (n : Nat) : Fld := ⟨Reg.NET_MCNT_HI n, 0, 32⟩
/-- DRV_STATE at 0x0004, i. -/
def Reg.DRV_STATE (i : Nat) : Nat := 0x2C00004 + 0x10000 * i
/-- DRV_STATE.STATE [3:0]. -/
def Fld.DRV_STATE_STATE (i : Nat) : Fld := ⟨Reg.DRV_STATE i, 0, 4⟩
/-- DRV_STATE.RUNG [5:4]. -/
def Fld.DRV_STATE_RUNG (i : Nat) : Fld := ⟨Reg.DRV_STATE i, 4, 2⟩
/-- DRV_STATE.SPEED [8:6]. -/
def Fld.DRV_STATE_SPEED (i : Nat) : Fld := ⟨Reg.DRV_STATE i, 6, 3⟩
/-- DRV_STATE.WIDTH [11:9]. -/
def Fld.DRV_STATE_WIDTH (i : Nat) : Fld := ⟨Reg.DRV_STATE i, 9, 3⟩
/-- DRV_STATE.L1 [12:12]. -/
def Fld.DRV_STATE_L1 (i : Nat) : Fld := ⟨Reg.DRV_STATE i, 12, 1⟩
/-- DRV_STATE.PS [17:13]. -/
def Fld.DRV_STATE_PS (i : Nat) : Fld := ⟨Reg.DRV_STATE i, 13, 5⟩
/-- DRV_STATE.FUA_FORCED [18:18]. -/
def Fld.DRV_STATE_FUA_FORCED (i : Nat) : Fld := ⟨Reg.DRV_STATE i, 18, 1⟩
/-- DRV_STATE.META64 [19:19]. -/
def Fld.DRV_STATE_META64 (i : Nat) : Fld := ⟨Reg.DRV_STATE i, 19, 1⟩
/-- DRV_STATE.PS_MISS [20:20]. -/
def Fld.DRV_STATE_PS_MISS (i : Nat) : Fld := ⟨Reg.DRV_STATE i, 20, 1⟩
/-- DRV_QUEUES at 0x0008, i. -/
def Reg.DRV_QUEUES (i : Nat) : Nat := 0x2C00008 + 0x10000 * i
/-- DRV_QUEUES.IOQ [6:0]. -/
def Fld.DRV_QUEUES_IOQ (i : Nat) : Fld := ⟨Reg.DRV_QUEUES i, 0, 7⟩
/-- DRV_QUEUES.DEPTH [17:8]. -/
def Fld.DRV_QUEUES_DEPTH (i : Nat) : Fld := ⟨Reg.DRV_QUEUES i, 8, 10⟩
/-- DRV_QUEUES.MDTS_KIB [31:19]. -/
def Fld.DRV_QUEUES_MDTS_KIB (i : Nat) : Fld := ⟨Reg.DRV_QUEUES i, 19, 13⟩
/-- DRV_ERR_STAT at 0x000C, i. -/
def Reg.DRV_ERR_STAT (i : Nat) : Nat := 0x2C0000C + 0x10000 * i
/-- DRV_ERR_STAT.TMO [7:0]. -/
def Fld.DRV_ERR_STAT_TMO (i : Nat) : Fld := ⟨Reg.DRV_ERR_STAT i, 0, 8⟩
/-- DRV_ERR_STAT.ABORTS [15:8]. -/
def Fld.DRV_ERR_STAT_ABORTS (i : Nat) : Fld := ⟨Reg.DRV_ERR_STAT i, 8, 8⟩
/-- DRV_ERR_STAT.QRESETS [23:16]. -/
def Fld.DRV_ERR_STAT_QRESETS (i : Nat) : Fld := ⟨Reg.DRV_ERR_STAT i, 16, 8⟩
/-- DRV_ERR_STAT.CRESETS [31:24]. -/
def Fld.DRV_ERR_STAT_CRESETS (i : Nat) : Fld := ⟨Reg.DRV_ERR_STAT i, 24, 8⟩
/-- DRV_MI_STAT at 0x0010, i. -/
def Reg.DRV_MI_STAT (i : Nat) : Nat := 0x2C00010 + 0x10000 * i
/-- DRV_MI_STAT.TEMP [7:0]. -/
def Fld.DRV_MI_STAT_TEMP (i : Nat) : Fld := ⟨Reg.DRV_MI_STAT i, 0, 8⟩
/-- DRV_MI_STAT.CW [15:8]. -/
def Fld.DRV_MI_STAT_CW (i : Nat) : Fld := ⟨Reg.DRV_MI_STAT i, 8, 8⟩
/-- DRV_MI_STAT.LIFE [23:16]. -/
def Fld.DRV_MI_STAT_LIFE (i : Nat) : Fld := ⟨Reg.DRV_MI_STAT i, 16, 8⟩
/-- DRV_MI_STAT.VALID [24:24]. -/
def Fld.DRV_MI_STAT_VALID (i : Nat) : Fld := ⟨Reg.DRV_MI_STAT i, 24, 1⟩
/-- DRV_CTL at 0x0014, i. -/
def Reg.DRV_CTL (i : Nat) : Nat := 0x2C00014 + 0x10000 * i
/-- DRV_CTL.LOCATE [0:0]. -/
def Fld.DRV_CTL_LOCATE (i : Nat) : Fld := ⟨Reg.DRV_CTL i, 0, 1⟩
/-- DRV_GRP_CFG at 0x0100, i. -/
def Reg.DRV_GRP_CFG (i : Nat) : Nat := 0x2C00100 + 0x30000 * i
/-- DRV_GRP_CFG.MODE [1:0]. -/
def Fld.DRV_GRP_CFG_MODE (i : Nat) : Fld := ⟨Reg.DRV_GRP_CFG i, 0, 2⟩
/-- DRV_GRP_STAT at 0x0104, i. -/
def Reg.DRV_GRP_STAT (i : Nat) : Nat := 0x2C00104 + 0x30000 * i
/-- DRV_GRP_STAT.MUX_ASSERTED [0:0]. -/
def Fld.DRV_GRP_STAT_MUX_ASSERTED (i : Nat) : Fld := ⟨Reg.DRV_GRP_STAT i, 0, 1⟩
/-- DRV_GRP_STAT.TRAIN_FAIL [1:1]. -/
def Fld.DRV_GRP_STAT_TRAIN_FAIL (i : Nat) : Fld := ⟨Reg.DRV_GRP_STAT i, 1, 1⟩
/-- DRV_CFG at 0x0200. -/
def Reg.DRV_CFG : Nat := 0x2C00200
/-- DRV_CFG.MIN_GEN [2:0]. -/
def Fld.DRV_CFG_MIN_GEN : Fld := ⟨Reg.DRV_CFG, 0, 3⟩
/-- DRV_CFG.RETRY [5:3]. -/
def Fld.DRV_CFG_RETRY : Fld := ⟨Reg.DRV_CFG, 3, 3⟩
/-- DRV_CFG.QDEPTH [7:6]. -/
def Fld.DRV_CFG_QDEPTH : Fld := ⟨Reg.DRV_CFG, 6, 2⟩
/-- DRV_CFG.IOQ_MAX [14:8]. -/
def Fld.DRV_CFG_IOQ_MAX : Fld := ⟨Reg.DRV_CFG, 8, 7⟩
/-- DRV_CFG.ASPM_EN [15:15]. -/
def Fld.DRV_CFG_ASPM_EN : Fld := ⟨Reg.DRV_CFG, 15, 1⟩
/-- DRV_CFG.MI_EN [16:16]. -/
def Fld.DRV_CFG_MI_EN : Fld := ⟨Reg.DRV_CFG, 16, 1⟩
/-- DRV_TMO_CFG at 0x0204. -/
def Reg.DRV_TMO_CFG : Nat := 0x2C00204
/-- DRV_TMO_CFG.PWRCYCLE_EN [30:30]. -/
def Fld.DRV_TMO_CFG_PWRCYCLE_EN : Fld := ⟨Reg.DRV_TMO_CFG, 30, 1⟩
/-- DRV_IDLE_CFG at 0x0240, a. -/
def Reg.DRV_IDLE_CFG (a : Nat) : Nat := 0x2C00240 + 0x4 * a
/-- DRV_IDLE_CFG.T1 [11:0]. -/
def Fld.DRV_IDLE_CFG_T1 (a : Nat) : Fld := ⟨Reg.DRV_IDLE_CFG a, 0, 12⟩
/-- DRV_IDLE_CFG.PS1 [15:12]. -/
def Fld.DRV_IDLE_CFG_PS1 (a : Nat) : Fld := ⟨Reg.DRV_IDLE_CFG a, 12, 4⟩
/-- DRV_IDLE_CFG.T2 [27:16]. -/
def Fld.DRV_IDLE_CFG_T2 (a : Nat) : Fld := ⟨Reg.DRV_IDLE_CFG a, 16, 12⟩
/-- DRV_IDLE_CFG.PS2 [31:28]. -/
def Fld.DRV_IDLE_CFG_PS2 (a : Nat) : Fld := ⟨Reg.DRV_IDLE_CFG a, 28, 4⟩
/-- ARY_REM_IDX at 0x0028, i. -/
def Reg.ARY_REM_IDX (i : Nat) : Nat := 0x3000028 + 0x40000 * i
/-- ARY_REM_IDX.MEMBER [4:0]. -/
def Fld.ARY_REM_IDX_MEMBER (i : Nat) : Fld := ⟨Reg.ARY_REM_IDX i, 0, 5⟩
/-- ARY_REM_LO at 0x0030, i. -/
def Reg.ARY_REM_LO (i : Nat) : Nat := 0x3000030 + 0x40000 * i
/-- ARY_REM_LO.REM [31:0]. -/
def Fld.ARY_REM_LO_REM (i : Nat) : Fld := ⟨Reg.ARY_REM_LO i, 0, 32⟩
/-- ARY_REM_HI at 0x0034, i. -/
def Reg.ARY_REM_HI (i : Nat) : Nat := 0x3000034 + 0x40000 * i
/-- ARY_REM_HI.REM [31:0]. -/
def Fld.ARY_REM_HI_REM (i : Nat) : Fld := ⟨Reg.ARY_REM_HI i, 0, 32⟩
/-- ARY_REBUILD_CFG at 0x0038, i. -/
def Reg.ARY_REBUILD_CFG (i : Nat) : Nat := 0x3000038 + 0x40000 * i
/-- ARY_REBUILD_CFG.HOLD [16:16]. -/
def Fld.ARY_REBUILD_CFG_HOLD (i : Nat) : Fld := ⟨Reg.ARY_REBUILD_CFG i, 16, 1⟩
/-- ARY_SCRUB_CFG at 0x0040, i. -/
def Reg.ARY_SCRUB_CFG (i : Nat) : Nat := 0x3000040 + 0x40000 * i
/-- ARY_SCRUB_CFG.MODE [0:0]. -/
def Fld.ARY_SCRUB_CFG_MODE (i : Nat) : Fld := ⟨Reg.ARY_SCRUB_CFG i, 0, 1⟩
/-- ARY_SCRUB_CFG.EN [1:1]. -/
def Fld.ARY_SCRUB_CFG_EN (i : Nat) : Fld := ⟨Reg.ARY_SCRUB_CFG i, 1, 1⟩
/-- ARY_SCRUB_STAT at 0x0044, i. -/
def Reg.ARY_SCRUB_STAT (i : Nat) : Nat := 0x3000044 + 0x40000 * i
/-- ARY_SCRUB_STAT.MISMATCH [15:0]. -/
def Fld.ARY_SCRUB_STAT_MISMATCH (i : Nat) : Fld := ⟨Reg.ARY_SCRUB_STAT i, 0, 16⟩
/-- ARY_SCRUB_STAT.REPAIRED [31:16]. -/
def Fld.ARY_SCRUB_STAT_REPAIRED (i : Nat) : Fld := ⟨Reg.ARY_SCRUB_STAT i, 16, 16⟩
/-- ARY_MEDIA_CFG at 0x0050, i. -/
def Reg.ARY_MEDIA_CFG (i : Nat) : Nat := 0x3000050 + 0x40000 * i
/-- ARY_MEDIA_CFG.MEDIA_ERR_MAX [7:0]. -/
def Fld.ARY_MEDIA_CFG_MEDIA_ERR_MAX (i : Nat) : Fld := ⟨Reg.ARY_MEDIA_CFG i, 0, 8⟩
/-- ARY_ERR_STAT at 0x0054, i. -/
def Reg.ARY_ERR_STAT (i : Nat) : Nat := 0x3000054 + 0x40000 * i
/-- ARY_ERR_STAT.READ_REPAIRED [15:0]. -/
def Fld.ARY_ERR_STAT_READ_REPAIRED (i : Nat) : Fld := ⟨Reg.ARY_ERR_STAT i, 0, 16⟩
/-- ARY_ERR_STAT.DEGRADED_READS [31:16]. -/
def Fld.ARY_ERR_STAT_DEGRADED_READS (i : Nat) : Fld := ⟨Reg.ARY_ERR_STAT i, 16, 16⟩
/-- LDG_DESTAGE_STAT at 0x0010, i. -/
def Reg.LDG_DESTAGE_STAT (i : Nat) : Nat := 0x3400010 + 0x1000 * i
/-- LDG_DESTAGE_STAT.WHOLE [15:0]. -/
def Fld.LDG_DESTAGE_STAT_WHOLE (i : Nat) : Fld := ⟨Reg.LDG_DESTAGE_STAT i, 0, 16⟩
/-- LDG_DESTAGE_STAT.PARTIAL [31:16]. -/
def Fld.LDG_DESTAGE_STAT_PARTIAL (i : Nat) : Fld := ⟨Reg.LDG_DESTAGE_STAT i, 16, 16⟩
/-- LDG_REPLAY_STAT at 0x0014, i. -/
def Reg.LDG_REPLAY_STAT (i : Nat) : Nat := 0x3400014 + 0x1000 * i
/-- LDG_REPLAY_STAT.TIME [15:0]. -/
def Fld.LDG_REPLAY_STAT_TIME (i : Nat) : Fld := ⟨Reg.LDG_REPLAY_STAT i, 0, 16⟩
/-- LDG_REPLAY_STAT.TORN [23:16]. -/
def Fld.LDG_REPLAY_STAT_TORN (i : Nat) : Fld := ⟨Reg.LDG_REPLAY_STAT i, 16, 8⟩
/-- LDG_REPLAY_STAT.INTERRUPTED [31:24]. -/
def Fld.LDG_REPLAY_STAT_INTERRUPTED (i : Nat) : Fld := ⟨Reg.LDG_REPLAY_STAT i, 24, 8⟩
/-- LDG_ERR_STAT at 0x0018, i. -/
def Reg.LDG_ERR_STAT (i : Nat) : Nat := 0x3400018 + 0x1000 * i
/-- LDG_ERR_STAT.CAUSE2 [7:0]. -/
def Fld.LDG_ERR_STAT_CAUSE2 (i : Nat) : Fld := ⟨Reg.LDG_ERR_STAT i, 0, 8⟩
/-- LDG_ERR_STAT.CAUSE3 [15:8]. -/
def Fld.LDG_ERR_STAT_CAUSE3 (i : Nat) : Fld := ⟨Reg.LDG_ERR_STAT i, 8, 8⟩
/-- LDG_ERR_STAT.BYPASSED [31:16]. -/
def Fld.LDG_ERR_STAT_BYPASSED (i : Nat) : Fld := ⟨Reg.LDG_ERR_STAT i, 16, 16⟩
/-- LDG_CFG at 0x0800. -/
def Reg.LDG_CFG : Nat := 0x3400800
/-- LDG_CFG.SEG_INFLIGHT [2:0]. -/
def Fld.LDG_CFG_SEG_INFLIGHT : Fld := ⟨Reg.LDG_CFG, 0, 3⟩
/-- LDG_CFG.RING_LIMIT_MIB [27:16]. -/
def Fld.LDG_CFG_RING_LIMIT_MIB : Fld := ⟨Reg.LDG_CFG, 16, 12⟩
/-- LDG_GATHER_CFG at 0x0804. -/
def Reg.LDG_GATHER_CFG : Nat := 0x3400804
/-- LDG_GATHER_CFG.SIZE_GIB [6:0]. -/
def Fld.LDG_GATHER_CFG_SIZE_GIB : Fld := ⟨Reg.LDG_GATHER_CFG, 0, 7⟩
/-- LDG_GATHER_CFG.AGE_MS [23:8]. -/
def Fld.LDG_GATHER_CFG_AGE_MS : Fld := ⟨Reg.LDG_GATHER_CFG, 8, 16⟩
/-- LDG_GATHER_CFG.DESTAGE_MAX [31:24]. -/
def Fld.LDG_GATHER_CFG_DESTAGE_MAX : Fld := ⟨Reg.LDG_GATHER_CFG, 24, 8⟩
/-- SPB_BANK_CTL at 0x0000, k. -/
def Reg.SPB_BANK_CTL (k : Nat) : Nat := 0x3500000 + 0x8 * k
/-- SPB_BANK_CTL.REQ [1:0]. -/
def Fld.SPB_BANK_CTL_REQ (k : Nat) : Fld := ⟨Reg.SPB_BANK_CTL k, 0, 2⟩
/-- SPB_BANK_STAT at 0x0004, k. -/
def Reg.SPB_BANK_STAT (k : Nat) : Nat := 0x3500004 + 0x8 * k
/-- SPB_BANK_STAT.STATE [1:0]. -/
def Fld.SPB_BANK_STAT_STATE (k : Nat) : Fld := ⟨Reg.SPB_BANK_STAT k, 0, 2⟩
/-- SPB_BANK_STAT.REFUSED [2:2]. -/
def Fld.SPB_BANK_STAT_REFUSED (k : Nat) : Fld := ⟨Reg.SPB_BANK_STAT k, 2, 1⟩
/-- SPB_BANK_STAT.UE [3:3]. -/
def Fld.SPB_BANK_STAT_UE (k : Nat) : Fld := ⟨Reg.SPB_BANK_STAT k, 3, 1⟩
/-- SPB_BANK_STAT.CE [15:8]. -/
def Fld.SPB_BANK_STAT_CE (k : Nat) : Fld := ⟨Reg.SPB_BANK_STAT k, 8, 8⟩
/-- RSV_STATUS at 0x0000. -/
def Reg.RSV_STATUS : Nat := 0x3600000
/-- RSV_STATUS.UE [2:2]. -/
def Fld.RSV_STATUS_UE : Fld := ⟨Reg.RSV_STATUS, 2, 1⟩
/-- RSV_CH_STAT at 0x0100, c. -/
def Reg.RSV_CH_STAT (c : Nat) : Nat := 0x3600100 + 0x4 * c
/-- RSV_CH_STAT.CE [15:8]. -/
def Fld.RSV_CH_STAT_CE (c : Nat) : Fld := ⟨Reg.RSV_CH_STAT c, 8, 8⟩
/-- RSV_CH_STAT.UE [16:16]. -/
def Fld.RSV_CH_STAT_UE (c : Nat) : Fld := ⟨Reg.RSV_CH_STAT c, 16, 1⟩
/-- RSV_STACK_STAT at 0x0200, s. -/
def Reg.RSV_STACK_STAT (s : Nat) : Nat := 0x3600200 + 0x4 * s
/-- RSV_STACK_STAT.TEMP [7:0]. -/
def Fld.RSV_STACK_STAT_TEMP (s : Nat) : Fld := ⟨Reg.RSV_STACK_STAT s, 0, 8⟩
/-- RSV_STACK_STAT.REFRESH_X2 [8:8]. -/
def Fld.RSV_STACK_STAT_REFRESH_X2 (s : Nat) : Fld := ⟨Reg.RSV_STACK_STAT s, 8, 1⟩
/-- RSV_STACK_STAT.HOT [9:9]. -/
def Fld.RSV_STACK_STAT_HOT (s : Nat) : Fld := ⟨Reg.RSV_STACK_STAT s, 9, 1⟩
/-- AQD_ROLE at 0x0000. -/
def Reg.AQD_ROLE : Nat := 0x3800000
/-- AQD_ROLE.ROLE [1:0]. -/
def Fld.AQD_ROLE_ROLE : Fld := ⟨Reg.AQD_ROLE, 0, 2⟩
/-- AQD_ROLE.LAST_ROLE [3:2]. -/
def Fld.AQD_ROLE_LAST_ROLE : Fld := ⟨Reg.AQD_ROLE, 2, 2⟩
/-- AQD_ROLE.FENCED [4:4]. -/
def Fld.AQD_ROLE_FENCED : Fld := ⟨Reg.AQD_ROLE, 4, 1⟩
/-- AQD_ROLE.FENCE_CAUSE [7:5]. -/
def Fld.AQD_ROLE_FENCE_CAUSE : Fld := ⟨Reg.AQD_ROLE, 5, 3⟩
/-- AQD_PAIR_CFG at 0x0004. -/
def Reg.AQD_PAIR_CFG : Nat := 0x3800004
/-- AQD_PAIR_CFG.PAIR_EN [0:0]. -/
def Fld.AQD_PAIR_CFG_PAIR_EN : Fld := ⟨Reg.AQD_PAIR_CFG, 0, 1⟩
/-- AQD_PAIR_CFG.PREFER [1:1]. -/
def Fld.AQD_PAIR_CFG_PREFER : Fld := ⟨Reg.AQD_PAIR_CFG, 1, 1⟩
/-- AQD_PAIR_CFG.WITNESSES [4:2]. -/
def Fld.AQD_PAIR_CFG_WITNESSES : Fld := ⟨Reg.AQD_PAIR_CFG, 2, 3⟩
/-- AQD_PAIR_ID_LO at 0x0008. -/
def Reg.AQD_PAIR_ID_LO : Nat := 0x3800008
/-- AQD_PAIR_ID_LO.ID [31:0]. -/
def Fld.AQD_PAIR_ID_LO_ID : Fld := ⟨Reg.AQD_PAIR_ID_LO, 0, 32⟩
/-- AQD_PAIR_ID_HI at 0x000C. -/
def Reg.AQD_PAIR_ID_HI : Nat := 0x380000C
/-- AQD_PAIR_ID_HI.ID [31:0]. -/
def Fld.AQD_PAIR_ID_HI_ID : Fld := ⟨Reg.AQD_PAIR_ID_HI, 0, 32⟩
/-- AQD_PARTNER at 0x0010. -/
def Reg.AQD_PARTNER : Nat := 0x3800010
/-- AQD_PARTNER.HB_SB [0:0]. -/
def Fld.AQD_PARTNER_HB_SB : Fld := ⟨Reg.AQD_PARTNER, 0, 1⟩
/-- AQD_PARTNER.HB_AQD [1:1]. -/
def Fld.AQD_PARTNER_HB_AQD : Fld := ⟨Reg.AQD_PARTNER, 1, 1⟩
/-- AQD_PARTNER.STATE [3:2]. -/
def Fld.AQD_PARTNER_STATE : Fld := ⟨Reg.AQD_PARTNER, 2, 2⟩
/-- AQD_PARTNER.SYNC [5:4]. -/
def Fld.AQD_PARTNER_SYNC : Fld := ⟨Reg.AQD_PARTNER, 4, 2⟩
/-- AQD_PARTNER.HEALTH [7:6]. -/
def Fld.AQD_PARTNER_HEALTH : Fld := ⟨Reg.AQD_PARTNER, 6, 2⟩
/-- AQD_PARTNER.SIDEBAND_LOST [8:8]. -/
def Fld.AQD_PARTNER_SIDEBAND_LOST : Fld := ⟨Reg.AQD_PARTNER, 8, 1⟩
/-- AQD_PARTNER.NO_MAJORITY [9:9]. -/
def Fld.AQD_PARTNER_NO_MAJORITY : Fld := ⟨Reg.AQD_PARTNER, 9, 1⟩
/-- AQD_PARTNER.CANNOT_CLAIM [10:10]. -/
def Fld.AQD_PARTNER_CANNOT_CLAIM : Fld := ⟨Reg.AQD_PARTNER, 10, 1⟩
/-- AQD_CKPT_SEQ_LO at 0x0018. -/
def Reg.AQD_CKPT_SEQ_LO : Nat := 0x3800018
/-- AQD_CKPT_SEQ_LO.SEQ [31:0]. -/
def Fld.AQD_CKPT_SEQ_LO_SEQ : Fld := ⟨Reg.AQD_CKPT_SEQ_LO, 0, 32⟩
/-- AQD_CKPT_SEQ_HI at 0x001C. -/
def Reg.AQD_CKPT_SEQ_HI : Nat := 0x380001C
/-- AQD_CKPT_SEQ_HI.SEQ [31:0]. -/
def Fld.AQD_CKPT_SEQ_HI_SEQ : Fld := ⟨Reg.AQD_CKPT_SEQ_HI, 0, 32⟩
/-- AQD_LEASE_STAT at 0x0020. -/
def Reg.AQD_LEASE_STAT : Nat := 0x3800020
/-- AQD_LEASE_STAT.HOLDER [0:0]. -/
def Fld.AQD_LEASE_STAT_HOLDER : Fld := ⟨Reg.AQD_LEASE_STAT, 0, 1⟩
/-- AQD_LEASE_STAT.MAJ [1:1]. -/
def Fld.AQD_LEASE_STAT_MAJ : Fld := ⟨Reg.AQD_LEASE_STAT, 1, 1⟩
/-- AQD_LEASE_STAT.WON [4:2]. -/
def Fld.AQD_LEASE_STAT_WON : Fld := ⟨Reg.AQD_LEASE_STAT, 2, 3⟩
/-- AQD_EPOCH_LO at 0x0028. -/
def Reg.AQD_EPOCH_LO : Nat := 0x3800028
/-- AQD_EPOCH_LO.EPOCH [31:0]. -/
def Fld.AQD_EPOCH_LO_EPOCH : Fld := ⟨Reg.AQD_EPOCH_LO, 0, 32⟩
/-- AQD_EPOCH_HI at 0x002C. -/
def Reg.AQD_EPOCH_HI : Nat := 0x380002C
/-- AQD_EPOCH_HI.EPOCH [31:0]. -/
def Fld.AQD_EPOCH_HI_EPOCH : Fld := ⟨Reg.AQD_EPOCH_HI, 0, 32⟩
/-- AQD_TKO_STAT at 0x0060. -/
def Reg.AQD_TKO_STAT : Nat := 0x3800060
/-- AQD_TKO_STAT.LAST_MS [15:0]. -/
def Fld.AQD_TKO_STAT_LAST_MS : Fld := ⟨Reg.AQD_TKO_STAT, 0, 16⟩
/-- AQD_TKO_STAT.CAUSE [18:16]. -/
def Fld.AQD_TKO_STAT_CAUSE : Fld := ⟨Reg.AQD_TKO_STAT, 16, 3⟩
/-- AQD_TKO_STAT.COUNT [27:20]. -/
def Fld.AQD_TKO_STAT_COUNT : Fld := ⟨Reg.AQD_TKO_STAT, 20, 8⟩
/-- AQD_LINK_STAT at 0x0064. -/
def Reg.AQD_LINK_STAT : Nat := 0x3800064
/-- AQD_LINK_STAT.UP0 [0:0]. -/
def Fld.AQD_LINK_STAT_UP0 : Fld := ⟨Reg.AQD_LINK_STAT, 0, 1⟩
/-- AQD_LINK_STAT.UP1 [1:1]. -/
def Fld.AQD_LINK_STAT_UP1 : Fld := ⟨Reg.AQD_LINK_STAT, 1, 1⟩
/-- AQD_LINK_STAT.BAD_FRAMES [15:8]. -/
def Fld.AQD_LINK_STAT_BAD_FRAMES : Fld := ⟨Reg.AQD_LINK_STAT, 8, 8⟩
/-- AQD_LINK_STAT.WINDOWS [31:16]. -/
def Fld.AQD_LINK_STAT_WINDOWS : Fld := ⟨Reg.AQD_LINK_STAT, 16, 16⟩
/-- AQD_WITNESS at 0x0040, k. -/
def Reg.AQD_WITNESS (k : Nat) : Nat := 0x3800040 + 0x4 * k
/-- AQD_WITNESS.BAY [5:0]. -/
def Fld.AQD_WITNESS_BAY (k : Nat) : Fld := ⟨Reg.AQD_WITNESS k, 0, 6⟩
/-- AQD_WITNESS.STATE [10:8]. -/
def Fld.AQD_WITNESS_STATE (k : Nat) : Fld := ⟨Reg.AQD_WITNESS k, 8, 3⟩
/-- AQD_WITNESS.FAILS [23:16]. -/
def Fld.AQD_WITNESS_FAILS (k : Nat) : Fld := ⟨Reg.AQD_WITNESS k, 16, 8⟩
/-- LKP_CORE_STAT at 0x0000. -/
def Reg.LKP_CORE_STAT : Nat := 0x3900000
/-- LKP_CORE_STAT.ACTIVE [0:0]. -/
def Fld.LKP_CORE_STAT_ACTIVE : Fld := ⟨Reg.LKP_CORE_STAT, 0, 1⟩
/-- LKP_CORE_STAT.SPARE [2:1]. -/
def Fld.LKP_CORE_STAT_SPARE : Fld := ⟨Reg.LKP_CORE_STAT, 1, 2⟩
/-- LKP_CORE_STAT.SWITCHES [10:3]. -/
def Fld.LKP_CORE_STAT_SWITCHES : Fld := ⟨Reg.LKP_CORE_STAT, 3, 8⟩
/-- LKP_DRILL_STAT at 0x0008. -/
def Reg.LKP_DRILL_STAT : Nat := 0x3900008
/-- LKP_DRILL_STAT.RESULT [2:0]. -/
def Fld.LKP_DRILL_STAT_RESULT : Fld := ⟨Reg.LKP_DRILL_STAT, 0, 3⟩
/-- LKP_DRILL_STAT.DUR_MS [15:4]. -/
def Fld.LKP_DRILL_STAT_DUR_MS : Fld := ⟨Reg.LKP_DRILL_STAT, 4, 12⟩

end Sys2Proof.Machine
end

