-- ==== Sys2Proof/Machine/RegMap.lean ====
section
/-! DEFINITION. The register map of the device: every register and field of the field maps of the
chapters and of Tables 22-1 to 22-7 (R430, R438), with its access type (R17), its class (R381), its
value at power-on or from the factory, and what the device stores for values outside its range. -/

namespace Sys2Proof.Machine

/-- The registers of the GLB block, in the order of its field maps. -/
def regsGlb : List RegDef :=
  -- ID: PART, FAMILY
  [⟨0x0, [], 1, .whole,
    [⟨0, 24, .ro, .c, 75848, .plain⟩, ⟨24, 8, .ro, .c, 202, .plain⟩]⟩] ++
  -- REV: STEP, GRADE
  [⟨0x4, [], 1, .whole,
    [⟨0, 8, .ro, .c, 176, .plain⟩, ⟨8, 8, .ro, .c, 88, .plain⟩]⟩] ++
  -- SERIAL_LO: SN
  [⟨0x8, [], 1, .lo,
    [⟨0, 32, .ro, .c, 0, .plain⟩]⟩] ++
  -- SERIAL_HI: SN
  [⟨0xC, [], 1, .hi,
    [⟨0, 32, .ro, .c, 0, .plain⟩]⟩] ++
  -- MAC_BASE_LO: ADDR
  [⟨0x10, [], 1, .lo,
    [⟨8, 24, .ro, .c, 0, .plain⟩]⟩] ++
  -- MAC_BASE_HI: ADDR
  [⟨0x14, [], 1, .hi,
    [⟨0, 16, .ro, .c, 0, .plain⟩]⟩] ++
  -- FW_ACTIVE: BUILD, MINOR, MAJOR
  [⟨0x18, [], 1, .whole,
    [⟨0, 16, .ro, .v, 0, .plain⟩, ⟨16, 8, .ro, .v, 0, .plain⟩, ⟨24, 8, .ro, .v, 0, .plain⟩]⟩] ++
  -- FW_STAGED: VER
  [⟨0x1C, [], 1, .whole,
    [⟨0, 32, .ro, .v, 0, .plain⟩]⟩] ++
  -- TIME_LO: NS
  [⟨0x20, [], 1, .lo,
    [⟨0, 32, .ro, .k, 0, .plain⟩]⟩] ++
  -- TIME_HI: NS
  [⟨0x24, [], 1, .hi,
    [⟨0, 32, .ro, .k, 0, .plain⟩]⟩] ++
  -- SCRATCH: VALUE
  [⟨0x30, [], 1, .whole,
    [⟨0, 32, .rw, .v, 0, .plain⟩]⟩] ++
  -- CAP_PTR: OFF
  [⟨0x40, [], 1, .whole,
    [⟨0, 32, .ro, .c, 256, .plain⟩]⟩]

/-- The registers of the TWP block, in the order of its field maps. -/
def regsTwp : List RegDef :=
  -- PWR_STATE: CUR, TARGET, BUSY, HOST_LIMIT
  [⟨0x0, [], 1, .whole,
    [⟨0, 3, .ro, .k, 0, .plain⟩, ⟨3, 3, .ro, .k, 0, .plain⟩, ⟨6, 1, .ro, .v, 0, .plain⟩, ⟨8, 2, .ro, .v, 0, .plain⟩]⟩] ++
  -- PWR_REQ: TARGET, GO
  [⟨0x4, [], 1, .whole,
    [⟨0, 3, .wo, .v, 0, .plain⟩, ⟨31, 1, .wo, .v, 0, .plain⟩]⟩] ++
  -- IDLE_CFG: P1_EN, P1_RATE, P2_MS
  [⟨0x8, [], 1, .whole,
    [⟨0, 1, .rw, .m, 1, .plain⟩, ⟨8, 8, .rw, .m, 20, .plain⟩, ⟨16, 16, .rw, .m, 0, .plain⟩]⟩] ++
  -- IDLE_CFG2: P3_S, QUIESCE_MS
  [⟨0xC, [], 1, .whole,
    [⟨0, 16, .rw, .m, 0, .plain⟩, ⟨16, 8, .rw, .m, 20, .clamp 1 255⟩]⟩] ++
  -- PARK_CFG: MIN_BASINS, BASIN_KIOPS, TUG_IDLE_US, QUAD_GATE_EN
  [⟨0x10, [], 1, .whole,
    [⟨0, 5, .rw, .m, 4, .clamp 1 16⟩, ⟨8, 8, .rw, .m, 100, .clamp 1 255⟩, ⟨16, 8, .rw, .m, 10, .clamp 1 255⟩, ⟨24, 1, .rw, .m, 1, .plain⟩]⟩] ++
  -- WAKE_EN: SRC
  [⟨0x14, [], 1, .whole,
    [⟨0, 10, .rw, .m, 1023, .plain⟩]⟩] ++
  -- WAKE_TIMER: SECONDS
  [⟨0x18, [], 1, .whole,
    [⟨0, 32, .rw, .m, 0, .plain⟩]⟩] ++
  -- WAKE_STAT: SRC, LAST_EXIT
  [⟨0x1C, [], 1, .whole,
    [⟨0, 10, .w1c, .k, 0, .plain⟩, ⟨16, 16, .ro, .k, 0, .plain⟩]⟩] ++
  -- REFUSE_CNT: COUNT, ABORTS
  [⟨0x20, [], 1, .whole,
    [⟨0, 16, .rc, .v, 0, .plain⟩, ⟨16, 16, .rc, .v, 0, .plain⟩]⟩] ++
  -- REFUSE_NAME_LO: NAME
  [⟨0x24, [], 1, .lo,
    [⟨0, 32, .ro, .k, 0, .plain⟩]⟩] ++
  -- REFUSE_NAME_HI: NAME
  [⟨0x28, [], 1, .hi,
    [⟨0, 32, .ro, .k, 0, .plain⟩]⟩] ++
  -- ABORT_NAME_LO: NAME
  [⟨0x2C, [], 1, .lo,
    [⟨0, 32, .ro, .k, 0, .plain⟩]⟩] ++
  -- ABORT_NAME_HI: NAME
  [⟨0x30, [], 1, .hi,
    [⟨0, 32, .ro, .k, 0, .plain⟩]⟩] ++
  -- DOMAIN_STAT: PARKED, TUG_GATED
  [⟨0x40, [], 1, .whole,
    [⟨0, 16, .ro, .v, 0, .plain⟩, ⟨16, 8, .ro, .v, 0, .plain⟩]⟩] ++
  -- QUAD_GATED: QUADS
  [⟨0x44, [], 1, .whole,
    [⟨0, 32, .ro, .v, 0, .plain⟩]⟩] ++
  -- SAVE_STAT: SAVE_ERR, IMAGE_ERR, IMAGE_KIB
  [⟨0x48, [], 1, .whole,
    [⟨0, 1, .w1c, .v, 0, .plain⟩, ⟨1, 1, .w1c, .v, 0, .plain⟩, ⟨16, 16, .ro, .k, 0, .plain⟩]⟩] ++
  -- MOOR_STAT: SOURCE, SLOT_ERR, TORN, COMPACTING, WRITE_ERR, PENDING, JOURNAL_PCT
  [⟨0x100, [], 1, .whole,
    [⟨0, 2, .ro, .k, 0, .plain⟩, ⟨2, 1, .w1c, .k, 0, .plain⟩, ⟨3, 1, .ro, .k, 0, .plain⟩, ⟨4, 1, .ro, .v, 0, .plain⟩, ⟨5, 1, .w1c, .k, 0, .plain⟩, ⟨8, 16, .ro, .v, 0, .plain⟩, ⟨24, 8, .ro, .v, 0, .plain⟩]⟩] ++
  -- MOOR_SEQ_LO: SEQ
  [⟨0x104, [], 1, .lo,
    [⟨0, 32, .ro, .k, 0, .plain⟩]⟩] ++
  -- MOOR_SEQ_HI: SEQ
  [⟨0x108, [], 1, .hi,
    [⟨0, 32, .ro, .k, 0, .plain⟩]⟩] ++
  -- RST_CAUSE: LAST, READY, THERMAL, WARM_CNT, WDOG_CNT
  [⟨0x10C, [], 1, .whole,
    [⟨0, 3, .ro, .k, 1, .plain⟩, ⟨3, 1, .ro, .v, 0, .plain⟩, ⟨4, 1, .w1c, .k, 0, .plain⟩, ⟨8, 8, .rc, .k, 0, .plain⟩, ⟨16, 8, .rc, .k, 0, .plain⟩]⟩] ++
  -- FAULT: ENGINES, WHARF_UE, CIPHER, MOORING, STUCK, INTERNAL, ACTIVE
  [⟨0x110, [], 1, .whole,
    [⟨0, 1, .w1c, .k, 0, .plain⟩, ⟨1, 1, .w1c, .k, 0, .plain⟩, ⟨2, 1, .w1c, .k, 0, .plain⟩, ⟨3, 1, .w1c, .k, 0, .plain⟩, ⟨4, 1, .w1c, .k, 0, .plain⟩, ⟨5, 1, .w1c, .k, 0, .plain⟩, ⟨31, 1, .ro, .k, 0, .plain⟩]⟩] ++
  -- FAULT_CFG: RESTART_EN, HOLD_S
  [⟨0x114, [], 1, .whole,
    [⟨0, 1, .rw, .m, 0, .plain⟩, ⟨8, 8, .rw, .m, 5, .clamp 1 255⟩]⟩] ++
  -- WDOG_CFG: PERIOD_MS, KICK
  [⟨0x118, [], 1, .whole,
    [⟨0, 14, .rw, .m, 1000, .clamp 100 10000⟩, ⟨31, 1, .wo, .v, 0, .plain⟩]⟩] ++
  -- START_CFG: ASSEMBLE_S, DRAIN_MS
  [⟨0x11C, [], 1, .whole,
    [⟨0, 8, .rw, .m, 30, .clamp 1 255⟩, ⟨8, 8, .rw, .m, 100, .plain⟩]⟩]

/-- The registers of the PDL block, in the order of its field maps. -/
def regsPdl : List RegDef :=
  -- CMD: CMD
  [⟨0x0, [], 1, .whole,
    [⟨0, 2, .wo, .v, 0, .plain⟩]⟩] ++
  -- STATE: STATE, PRESENT, LIMIT, PG_AUX, PG_MAIN, PG, INTENT, FAULTS
  [⟨0x4, [], 1, .whole,
    [⟨0, 4, .ro, .k, 0, .plain⟩, ⟨4, 1, .ro, .k, 0, .plain⟩, ⟨5, 1, .ro, .v, 0, .plain⟩, ⟨6, 1, .ro, .k, 0, .plain⟩, ⟨7, 1, .ro, .k, 0, .plain⟩, ⟨8, 1, .ro, .k, 0, .plain⟩, ⟨9, 1, .ro, .m, 0, .plain⟩, ⟨10, 4, .ro, .k, 0, .plain⟩]⟩] ++
  -- FAULT: TIMER, SHORT, GATE, RAMP, CFG, LATCH
  [⟨0x8, [], 1, .whole,
    [⟨0, 1, .w1c, .v, 0, .plain⟩, ⟨1, 1, .w1c, .v, 0, .plain⟩, ⟨2, 1, .w1c, .v, 0, .plain⟩, ⟨3, 1, .w1c, .v, 0, .plain⟩, ⟨4, 1, .w1c, .v, 0, .plain⟩, ⟨5, 1, .w1c, .v, 0, .plain⟩]⟩] ++
  -- CFG0: DVDT, FLT, RETRY, RETRY_MAX
  [⟨0xC, [], 1, .whole,
    [⟨0, 5, .rw, .m, 10, .clamp 1 20⟩, ⟨5, 9, .rw, .m, 20, .clamp 1 500⟩, ⟨14, 10, .rw, .m, 50, .clamp 0 600⟩, ⟨24, 4, .rw, .m, 5, .plain⟩]⟩] ++
  -- CFG1: ILIM_MAIN, ILIM_AUX, PG_MAIN, PG_AUX
  [⟨0x10, [], 1, .whole,
    [⟨0, 6, .rw, .m, 40, .clamp 5 60⟩, ⟨6, 6, .rw, .m, 10, .plain⟩, ⟨12, 8, .rw, .m, 108, .plain⟩, ⟨20, 8, .rw, .m, 150, .plain⟩]⟩] ++
  -- SENSE: RS_MAIN, RS_AUX
  [⟨0x14, [], 1, .whole,
    [⟨0, 8, .rw, .m, 50, .clamp 1 255⟩, ⟨8, 8, .rw, .m, 100, .clamp 1 255⟩]⟩] ++
  -- MEAS_MAIN: VOUT, CUR
  [⟨0x18, [], 1, .whole,
    [⟨0, 12, .ro, .v, 0, .plain⟩, ⟨12, 12, .ro, .v, 0, .plain⟩]⟩] ++
  -- MEAS_AUX: VOUT, CUR
  [⟨0x1C, [], 1, .whole,
    [⟨0, 12, .ro, .v, 0, .plain⟩, ⟨12, 12, .ro, .v, 0, .plain⟩]⟩] ++
  -- CNT: FAULTS, RETRIES, INSERTS, REMOVALS
  [⟨0x20, [], 1, .whole,
    [⟨0, 8, .rc, .v, 0, .plain⟩, ⟨8, 8, .rc, .v, 0, .plain⟩, ⟨16, 8, .rc, .v, 0, .plain⟩, ⟨24, 8, .rc, .v, 0, .plain⟩]⟩] ++
  -- GLB: STAGGER, MAX_RAMP, CYCLE_OFF
  [⟨0x24, [], 0, .whole,
    [⟨0, 8, .rw, .m, 50, .plain⟩, ⟨8, 6, .rw, .m, 4, .clamp 1 63⟩, ⟨16, 8, .rw, .m, 10, .clamp 1 255⟩]⟩]

/-- The registers of the WIR block, in the order of its field maps. -/
def regsWir : List RegDef :=
  -- CTL: EN_A, EN_B, DRILL_H, DRILL_NOW
  [⟨0x0, [], 1, .whole,
    [⟨0, 1, .rw, .m, 1, .plain⟩, ⟨1, 1, .rw, .m, 1, .plain⟩, ⟨8, 8, .rw, .m, 0, .clamp 0 168⟩, ⟨16, 1, .wo, .v, 0, .plain⟩]⟩] ++
  -- CFG: UV, OV, FWD_MAX, RS
  [⟨0x4, [], 1, .whole,
    [⟨0, 8, .rw, .m, 87, .clamp 80 120⟩, ⟨8, 8, .rw, .m, 155, .clamp 130 170⟩, ⟨16, 8, .rw, .m, 25, .plain⟩, ⟨24, 8, .rw, .m, 25, .clamp 20 255⟩]⟩] ++
  -- SHELF: VSHELF, DRILL_RUN, CTL_REJ
  [⟨0x8, [], 1, .whole,
    [⟨0, 12, .ro, .v, 0, .plain⟩, ⟨12, 1, .ro, .v, 0, .plain⟩, ⟨13, 1, .w1c, .v, 0, .plain⟩]⟩] ++
  -- DRILL: RESULT, FEED, AGE_H
  [⟨0xC, [], 1, .whole,
    [⟨0, 3, .ro, .k, 0, .plain⟩, ⟨3, 1, .ro, .k, 0, .plain⟩, ⟨16, 16, .ro, .k, 0, .plain⟩]⟩] ++
  -- STATE: STATE, CARRYING, OPEN, DEGRADED
  [⟨0x10, [(2, 16)], 1, .whole,
    [⟨0, 3, .ro, .v, 0, .plain⟩, ⟨3, 1, .ro, .v, 0, .plain⟩, ⟨4, 1, .w1c, .v, 0, .plain⟩, ⟨5, 1, .w1c, .v, 0, .plain⟩]⟩] ++
  -- MEAS: VIN, CUR
  [⟨0x14, [(2, 16)], 1, .whole,
    [⟨0, 12, .ro, .v, 0, .plain⟩, ⟨12, 13, .ro, .v, 0, .plain⟩]⟩] ++
  -- EVT: REVERSE, UNDER, OVER
  [⟨0x18, [(2, 16)], 1, .whole,
    [⟨0, 8, .rc, .v, 0, .plain⟩, ⟨8, 8, .rc, .v, 0, .plain⟩, ⟨16, 8, .rc, .v, 0, .plain⟩]⟩]

/-- The registers of the CLK block, in the order of its field maps. -/
def regsClk : List RegDef :=
  -- LOCK: DRV, CORE, EPT, AQD, MGMT
  [⟨0x0, [], 1, .whole,
    [⟨0, 16, .ro, .v, 0, .plain⟩, ⟨16, 1, .ro, .v, 0, .plain⟩, ⟨17, 1, .ro, .v, 0, .plain⟩, ⟨18, 2, .ro, .v, 0, .plain⟩, ⟨20, 1, .ro, .v, 0, .plain⟩]⟩] ++
  -- QUAD_LOCK: QUADS
  [⟨0x4, [], 1, .whole,
    [⟨0, 32, .ro, .v, 0, .plain⟩]⟩] ++
  -- LOL: CORE_LOL, EPT_LOL, DRV_LOL, NET_LOL, OFF_READ, CORE_CNT
  [⟨0x8, [], 1, .whole,
    [⟨0, 1, .w1c, .k, 0, .plain⟩, ⟨1, 1, .w1c, .v, 0, .plain⟩, ⟨2, 1, .w1c, .v, 0, .plain⟩, ⟨3, 1, .w1c, .v, 0, .plain⟩, ⟨4, 1, .w1c, .v, 0, .plain⟩, ⟨8, 8, .rc, .k, 0, .plain⟩]⟩] ++
  -- FREQ_IDX: DOMAIN, INST
  [⟨0xC, [], 1, .whole,
    [⟨0, 4, .rw, .v, 0, .plain⟩, ⟨4, 6, .rw, .v, 0, .plain⟩]⟩] ++
  -- FREQ: KHZ, BUSY
  [⟨0x10, [], 1, .whole,
    [⟨0, 23, .ro, .v, 0, .plain⟩, ⟨31, 1, .ro, .v, 0, .plain⟩]⟩]

/-- The registers of the EPT block, in the order of its field maps. -/
def regsEpt : List RegDef :=
  -- STATUS: LINK, SPEED, WIDTH, BME, MSIX_EN, FMASK, TEN_BIT, LAST_RST
  [⟨0x0, [], 1, .whole,
    [⟨0, 1, .ro, .v, 0, .plain⟩, ⟨1, 3, .ro, .v, 0, .plain⟩, ⟨4, 4, .ro, .v, 0, .plain⟩, ⟨8, 1, .ro, .v, 0, .plain⟩, ⟨9, 1, .ro, .v, 0, .plain⟩, ⟨10, 1, .ro, .v, 0, .plain⟩, ⟨11, 1, .ro, .v, 0, .plain⟩, ⟨12, 3, .ro, .v, 0, .plain⟩]⟩] ++
  -- CFG: TAG_LIMIT
  [⟨0x4, [], 1, .whole,
    [⟨0, 10, .rw, .m, 256, .clamp 1 768⟩]⟩] ++
  -- SUBSYS: SVID, SSID
  [⟨0x8, [], 1, .whole,
    [⟨0, 16, .rw, .m, 8029, .plain⟩, ⟨16, 16, .rw, .m, 0, .plain⟩]⟩] ++
  -- IRQ_VEC: FAULT_VEC, EVENT_VEC
  [⟨0xC, [], 1, .whole,
    [⟨0, 11, .rw, .m, 1, .plain⟩, ⟨11, 11, .rw, .m, 2, .plain⟩]⟩] ++
  -- ERR_STAT: WIN_MISS, WIN_PERM, DISCARDED, CPL_TMO
  [⟨0x10, [], 1, .whole,
    [⟨0, 8, .rc, .v, 0, .plain⟩, ⟨8, 8, .rc, .v, 0, .plain⟩, ⟨16, 8, .rc, .v, 0, .plain⟩, ⟨24, 8, .rc, .v, 0, .plain⟩]⟩] ++
  -- COPY_HOST_LO: ADDR
  [⟨0x20, [], 1, .lo,
    [⟨0, 32, .rw, .v, 0, .plain⟩]⟩] ++
  -- COPY_HOST_HI: ADDR
  [⟨0x24, [], 1, .hi,
    [⟨0, 32, .rw, .v, 0, .plain⟩]⟩] ++
  -- COPY_WIN: WIN
  [⟨0x28, [], 1, .whole,
    [⟨0, 6, .rw, .v, 0, .plain⟩]⟩] ++
  -- COPY_LEN: LEN
  [⟨0x2C, [], 1, .whole,
    [⟨0, 25, .rw, .v, 0, .plain⟩]⟩] ++
  -- COPY_CTL: DIR, COPY_VEC, GO
  [⟨0x30, [], 1, .whole,
    [⟨0, 1, .rw, .v, 0, .plain⟩, ⟨1, 11, .rw, .v, 0, .plain⟩, ⟨31, 1, .wo, .v, 0, .plain⟩]⟩] ++
  -- COPY_STAT: BUSY, REJECT, STATUS, DONE_BYTES
  [⟨0x34, [], 1, .whole,
    [⟨0, 1, .ro, .v, 0, .plain⟩, ⟨1, 1, .w1c, .v, 0, .plain⟩, ⟨2, 3, .ro, .v, 0, .plain⟩, ⟨8, 24, .ro, .v, 0, .plain⟩]⟩] ++
  -- COPY_OFF: OFF
  [⟨0x38, [], 1, .whole,
    [⟨2, 30, .rw, .v, 0, .plain⟩]⟩] ++
  -- WIN_CTL: VALID, RD, WR, SPACE, SIZE_LOG2, ERR
  [⟨0x100, [(64, 16)], 1, .whole,
    [⟨0, 1, .rw, .v, 0, .plain⟩, ⟨1, 1, .rw, .k, 0, .plain⟩, ⟨2, 1, .rw, .k, 0, .plain⟩, ⟨4, 2, .rw, .k, 0, .plain⟩, ⟨8, 6, .rw, .k, 0, .clamp 12 32⟩, ⟨31, 1, .w1c, .v, 0, .plain⟩]⟩] ++
  -- WIN_BASE: BASE
  [⟨0x104, [(64, 16)], 1, .whole,
    [⟨12, 20, .rw, .k, 0, .plain⟩]⟩] ++
  -- WIN_TGT_LO: ADDR
  [⟨0x108, [(64, 16)], 1, .lo,
    [⟨12, 20, .rw, .k, 0, .plain⟩]⟩] ++
  -- WIN_TGT_HI: ADDR
  [⟨0x10C, [(64, 16)], 1, .hi,
    [⟨0, 16, .rw, .k, 0, .plain⟩]⟩]

/-- The registers of the MFT block, in the order of its field maps. -/
def regsMft : List RegDef :=
  -- MBOX_CTL: LEN, GO
  [⟨0x0, [], 1, .whole,
    [⟨0, 17, .rw, .v, 0, .plain⟩, ⟨31, 1, .wo, .v, 0, .plain⟩]⟩] ++
  -- MBOX_STAT: BUSY, DONE, REJECT, RLEN
  [⟨0x4, [], 1, .whole,
    [⟨0, 1, .ro, .v, 0, .plain⟩, ⟨1, 1, .w1c, .v, 0, .plain⟩, ⟨2, 1, .w1c, .v, 0, .plain⟩, ⟨16, 16, .ro, .v, 0, .plain⟩]⟩] ++
  -- MBOX_CFG: AUTH_REQ, IRQ_EN, VECTOR
  [⟨0x8, [], 1, .whole,
    [⟨0, 1, .rw, .m, 0, .plain⟩, ⟨1, 1, .rw, .m, 1, .plain⟩, ⟨16, 11, .rw, .m, 0, .plain⟩]⟩] ++
  -- CHAN_CFG: MBOX_EN, MGMT_EN, INBAND_EN, UDP_PORT
  [⟨0xC, [], 1, .whole,
    [⟨0, 1, .rw, .m, 1, .plain⟩, ⟨1, 1, .rw, .m, 1, .plain⟩, ⟨2, 1, .rw, .m, 0, .plain⟩, ⟨16, 16, .rw, .m, 17229, .remap 0 17229⟩]⟩] ++
  -- SESS_CFG: IDLE_S, OPEN
  [⟨0x10, [], 1, .whole,
    [⟨0, 16, .rw, .m, 600, .clamp 10 65535⟩, ⟨16, 7, .ro, .v, 0, .plain⟩]⟩] ++
  -- STAT: AUTH_FAIL, FRAMING, SOURCE, DISABLED
  [⟨0x14, [], 1, .whole,
    [⟨0, 8, .rc, .v, 0, .plain⟩, ⟨8, 8, .rc, .v, 0, .plain⟩, ⟨16, 8, .rc, .v, 0, .plain⟩, ⟨24, 8, .rc, .v, 0, .plain⟩]⟩] ++
  -- KEY_STAT: LOADED
  [⟨0x18, [], 1, .whole,
    [⟨0, 8, .ro, .m, 0, .plain⟩]⟩]

/-- The registers of the TAL block, in the order of its field maps. -/
def regsTal : List RegDef :=
  -- CNT_LO: COUNT
  [⟨0x0, [(4096, 8)], 1, .lo,
    [⟨0, 32, .ro, .v, 0, .plain⟩]⟩] ++
  -- CNT_HI: COUNT
  [⟨0x4, [(4096, 8)], 1, .hi,
    [⟨0, 32, .ro, .v, 0, .plain⟩]⟩] ++
  -- SEL: EVENT, INST, MODE, ERR, EN
  [⟨0x10000, [(4096, 8)], 1, .whole,
    [⟨0, 9, .rw, .m, 0, .plain⟩, ⟨9, 15, .rw, .m, 0, .plain⟩, ⟨24, 2, .rw, .m, 0, .plain⟩, ⟨26, 1, .w1c, .v, 0, .plain⟩, ⟨31, 1, .rw, .m, 0, .plain⟩]⟩] ++
  -- THR: VALUE
  [⟨0x10004, [(4096, 8)], 1, .whole,
    [⟨0, 32, .rw, .m, 0, .plain⟩]⟩] ++
  -- USER_EN: EN
  [⟨0x20000, [], 1, .whole,
    [⟨0, 1, .rw, .m, 0, .plain⟩]⟩] ++
  -- STATUS: DUMP_BUSY, SEL_ERR, ENABLED
  [⟨0x20004, [], 1, .whole,
    [⟨0, 1, .ro, .v, 0, .plain⟩, ⟨1, 1, .w1c, .v, 0, .plain⟩, ⟨16, 13, .ro, .v, 0, .plain⟩]⟩] ++
  -- CLR: INDEX, ALL, GO
  [⟨0x20008, [], 1, .whole,
    [⟨0, 12, .rw, .v, 0, .plain⟩, ⟨30, 1, .rw, .v, 0, .plain⟩, ⟨31, 1, .wo, .v, 0, .plain⟩]⟩] ++
  -- DUMP_CFG: EN, TARGET, IRQ_EN, VECTOR
  [⟨0x20010, [], 1, .whole,
    [⟨0, 1, .rw, .k, 0, .plain⟩, ⟨1, 1, .rw, .k, 0, .plain⟩, ⟨2, 1, .rw, .k, 0, .plain⟩, ⟨3, 11, .rw, .k, 0, .plain⟩]⟩] ++
  -- DUMP_PERIOD: MS
  [⟨0x20014, [], 1, .whole,
    [⟨0, 16, .rw, .k, 1000, .clamp 1 60000⟩]⟩] ++
  -- DUMP_BASE_LO: ADDR
  [⟨0x20018, [], 1, .lo,
    [⟨6, 26, .rw, .k, 0, .plain⟩]⟩] ++
  -- DUMP_BASE_HI: ADDR
  [⟨0x2001C, [], 1, .hi,
    [⟨0, 32, .rw, .k, 0, .plain⟩]⟩] ++
  -- DUMP_SLOTS: SLOTS
  [⟨0x20020, [], 1, .whole,
    [⟨0, 16, .rw, .k, 1024, .clamp 1 65535⟩]⟩] ++
  -- DUMP_SEQ_LO: SEQ
  [⟨0x20028, [], 1, .lo,
    [⟨0, 32, .ro, .v, 0, .plain⟩]⟩] ++
  -- DUMP_SEQ_HI: SEQ
  [⟨0x2002C, [], 1, .hi,
    [⟨0, 32, .ro, .v, 0, .plain⟩]⟩] ++
  -- DUMP_STAT: LOST, ZERO, FAULT
  [⟨0x20030, [], 1, .whole,
    [⟨0, 16, .rc, .v, 0, .plain⟩, ⟨16, 1, .w1c, .v, 0, .plain⟩, ⟨17, 1, .w1c, .v, 0, .plain⟩]⟩] ++
  -- DUMP_SET: BITS
  [⟨0x20100, [(128, 4)], 1, .whole,
    [⟨0, 32, .rw, .k, 0, .plain⟩]⟩]

/-- The registers of the CNL block, in the order of its field maps. -/
def regsCnl : List RegDef :=
  -- STATUS: PART_ERR, STUCK, SPILL_FULL, POUND_UE, POUND_CE
  [⟨0x0, [], 1, .whole,
    [⟨0, 1, .w1c, .v, 0, .plain⟩, ⟨1, 1, .w1c, .v, 0, .plain⟩, ⟨2, 1, .ro, .v, 0, .plain⟩, ⟨3, 1, .w1c, .v, 0, .plain⟩, ⟨8, 8, .rc, .v, 0, .plain⟩]⟩] ++
  -- CTL: BYPASS_EN, SPILL_EN
  [⟨0x4, [], 1, .whole,
    [⟨0, 1, .rw, .m, 1, .plain⟩, ⟨1, 1, .rw, .m, 1, .plain⟩]⟩] ++
  -- AGE_LIMIT: LIMIT_US
  [⟨0x10, [], 1, .whole,
    [⟨0, 20, .rw, .m, 100000, .clamp 100 1000000⟩]⟩] ++
  -- AGE_CFG: RETRY
  [⟨0x14, [], 1, .whole,
    [⟨0, 3, .rw, .m, 2, .plain⟩]⟩] ++
  -- CREDIT: MAX
  [⟨0x20, [], 1, .whole,
    [⟨0, 7, .rw, .m, 16, .clamp 4 64⟩]⟩] ++
  -- QMAX: CELLS
  [⟨0x24, [], 1, .whole,
    [⟨0, 20, .rw, .m, 65536, .clamp 256 1048575⟩]⟩] ++
  -- ARB_WT: NET_IN, NET_OUT, DATA, PAR, TCP, BULK
  [⟨0x28, [], 1, .whole,
    [⟨0, 4, .rw, .m, 4, .remap 0 1⟩, ⟨4, 4, .rw, .m, 4, .remap 0 1⟩, ⟨8, 4, .rw, .m, 8, .remap 0 1⟩, ⟨12, 4, .rw, .m, 4, .remap 0 1⟩, ⟨16, 4, .rw, .m, 1, .remap 0 1⟩, ⟨20, 4, .rw, .m, 1, .remap 0 1⟩]⟩] ++
  -- SPILL_CFG: SIZE_GIB, QMIN, BW_PCT
  [⟨0x30, [], 1, .whole,
    [⟨0, 5, .rw, .m, 4, .clamp 1 31⟩, ⟨8, 12, .rw, .m, 1024, .plain⟩, ⟨20, 7, .rw, .m, 25, .plain⟩]⟩] ++
  -- SPILL_STAT: OCC_MIB, QUEUES
  [⟨0x34, [], 1, .whole,
    [⟨0, 15, .ro, .v, 0, .plain⟩, ⟨16, 16, .ro, .v, 0, .plain⟩]⟩] ++
  -- PART_CFG: RESERVE_MIB, CAP_MIB
  [⟨0x40, [], 1, .whole,
    [⟨0, 8, .rw, .m, 4, .plain⟩, ⟨16, 8, .rw, .m, 8, .plain⟩]⟩] ++
  -- PART_CFG: RESERVE_MIB, CAP_MIB
  [⟨0x48, [], 1, .whole,
    [⟨0, 8, .rw, .m, 32, .plain⟩, ⟨16, 8, .rw, .m, 96, .plain⟩]⟩] ++
  -- PART_CFG: RESERVE_MIB, CAP_MIB
  [⟨0x50, [], 1, .whole,
    [⟨0, 8, .rw, .m, 32, .plain⟩, ⟨16, 8, .rw, .m, 96, .plain⟩]⟩] ++
  -- PART_CFG: RESERVE_MIB, CAP_MIB
  [⟨0x58, [], 1, .whole,
    [⟨0, 8, .rw, .m, 48, .plain⟩, ⟨16, 8, .rw, .m, 128, .plain⟩]⟩] ++
  -- PART_CFG: RESERVE_MIB, CAP_MIB
  [⟨0x60, [], 1, .whole,
    [⟨0, 8, .rw, .m, 24, .plain⟩, ⟨16, 8, .rw, .m, 64, .plain⟩]⟩] ++
  -- PART_CFG: RESERVE_MIB, CAP_MIB
  [⟨0x68, [], 1, .whole,
    [⟨0, 8, .rw, .m, 8, .plain⟩, ⟨16, 8, .rw, .m, 64, .plain⟩]⟩] ++
  -- PART_CFG: RESERVE_MIB, CAP_MIB
  [⟨0x70, [], 1, .whole,
    [⟨0, 8, .rw, .m, 8, .plain⟩, ⟨16, 8, .rw, .m, 64, .plain⟩]⟩] ++
  -- PART_WM: SPILL_HI, SPILL_LO
  [⟨0x44, [(7, 8)], 1, .whole,
    [⟨0, 7, .rw, .m, 75, .plain⟩, ⟨8, 7, .rw, .m, 50, .plain⟩]⟩] ++
  -- PART_OCC: CELLS
  [⟨0x80, [(7, 4)], 1, .whole,
    [⟨0, 20, .ro, .v, 0, .plain⟩]⟩] ++
  -- PAR_STAT: OPEN, POISONED
  [⟨0xA0, [], 1, .whole,
    [⟨0, 11, .ro, .v, 0, .plain⟩, ⟨16, 16, .rc, .v, 0, .plain⟩]⟩] ++
  -- REPL_STAT: GROUPS
  [⟨0xA4, [], 1, .whole,
    [⟨0, 15, .ro, .v, 0, .plain⟩]⟩] ++
  -- DISCARD: AGED, ECC
  [⟨0xB0, [], 1, .whole,
    [⟨0, 16, .rc, .v, 0, .plain⟩, ⟨16, 16, .rc, .v, 0, .plain⟩]⟩] ++
  -- ATT_IDX: ATT, CLASS
  [⟨0x100, [], 1, .whole,
    [⟨0, 7, .rw, .v, 0, .plain⟩, ⟨8, 3, .rw, .v, 0, .plain⟩]⟩] ++
  -- ATT_STAT: DEPTH, SOURCES, HELD, SPILLED
  [⟨0x104, [], 1, .whole,
    [⟨0, 20, .ro, .v, 0, .plain⟩, ⟨20, 7, .ro, .v, 0, .plain⟩, ⟨27, 1, .ro, .v, 0, .plain⟩, ⟨28, 1, .ro, .v, 0, .plain⟩]⟩] ++
  -- POUND_BASE: WINDOW
  [⟨0x110, [], 1, .whole,
    [⟨0, 4, .rw, .v, 0, .plain⟩]⟩]

/-- The registers of the WHF block, in the order of its field maps. -/
def regsWhf : List RegDef :=
  -- CTL: EN, LIGHTER_EN
  [⟨0x0, [], 1, .whole,
    [⟨0, 1, .rw, .m, 1, .plain⟩, ⟨1, 1, .rw, .m, 1, .plain⟩]⟩] ++
  -- STATE: STATE, CLEAN, WALK_SET
  [⟨0x4, [], 1, .whole,
    [⟨0, 2, .ro, .v, 0, .plain⟩, ⟨2, 1, .ro, .v, 0, .plain⟩, ⟨4, 14, .ro, .v, 0, .plain⟩]⟩] ++
  -- CLEAN_CFG: WB_MAX
  [⟨0x8, [], 1, .whole,
    [⟨0, 9, .rw, .m, 64, .clamp 1 256⟩]⟩] ++
  -- MAINT_ADDR_LO: ADDR
  [⟨0x40, [], 1, .lo,
    [⟨7, 25, .rw, .v, 0, .plain⟩]⟩] ++
  -- MAINT_ADDR_HI: ADDR
  [⟨0x44, [], 1, .hi,
    [⟨0, 6, .rw, .v, 0, .plain⟩]⟩] ++
  -- MAINT_CTL: LINES, OP, GO
  [⟨0x48, [], 1, .whole,
    [⟨0, 16, .rw, .v, 0, .plain⟩, ⟨16, 2, .rw, .v, 0, .remap 3 2⟩, ⟨31, 1, .wo, .v, 0, .plain⟩]⟩] ++
  -- MAINT_STAT: BUSY, DONE, ZERO, REJECT, WRITTEN
  [⟨0x4C, [], 1, .whole,
    [⟨0, 1, .ro, .v, 0, .plain⟩, ⟨1, 1, .w1c, .v, 0, .plain⟩, ⟨2, 1, .w1c, .v, 0, .plain⟩, ⟨3, 1, .w1c, .v, 0, .plain⟩, ⟨16, 16, .ro, .v, 0, .plain⟩]⟩] ++
  -- ECC_STAT: CE, UE_CLEAN, UE_DIRTY
  [⟨0x50, [], 1, .whole,
    [⟨0, 16, .rc, .v, 0, .plain⟩, ⟨16, 8, .rc, .v, 0, .plain⟩, ⟨24, 1, .w1c, .v, 0, .plain⟩]⟩] ++
  -- DIRTY: LINES
  [⟨0x54, [], 1, .whole,
    [⟨0, 19, .ro, .v, 0, .plain⟩]⟩] ++
  -- LIGHTER_STAT: OCC, DIRTY
  [⟨0x58, [], 1, .whole,
    [⟨0, 7, .ro, .v, 0, .plain⟩, ⟨8, 7, .ro, .v, 0, .plain⟩]⟩] ++
  -- CLASS_CFG: WAYS, WT
  [⟨0x10, [], 1, .whole,
    [⟨0, 16, .rw, .m, 255, .plain⟩, ⟨16, 1, .rw, .m, 0, .plain⟩]⟩] ++
  -- CLASS_CFG: WAYS, WT
  [⟨0x14, [], 1, .whole,
    [⟨0, 16, .rw, .m, 3840, .plain⟩, ⟨16, 1, .rw, .m, 1, .plain⟩]⟩] ++
  -- CLASS_CFG: WAYS, WT
  [⟨0x18, [], 1, .whole,
    [⟨0, 16, .rw, .m, 12288, .plain⟩, ⟨16, 1, .rw, .m, 0, .plain⟩]⟩] ++
  -- CLASS_CFG: WAYS, WT
  [⟨0x1C, [], 1, .whole,
    [⟨0, 16, .rw, .m, 16384, .plain⟩, ⟨16, 1, .rw, .m, 0, .plain⟩]⟩] ++
  -- CLASS_CFG: WAYS, WT
  [⟨0x20, [], 1, .whole,
    [⟨0, 16, .rw, .m, 32768, .plain⟩, ⟨16, 1, .rw, .m, 0, .plain⟩]⟩] ++
  -- CLASS_CFG: WAYS, WT
  [⟨0x24, [], 1, .whole,
    [⟨0, 16, .rw, .m, 3840, .plain⟩, ⟨16, 1, .rw, .m, 1, .plain⟩]⟩] ++
  -- CLASS_CFG: WAYS, WT
  [⟨0x28, [], 1, .whole,
    [⟨0, 16, .rw, .m, 49152, .plain⟩, ⟨16, 1, .rw, .m, 1, .plain⟩]⟩] ++
  -- CLASS_CFG: WAYS, WT
  [⟨0x2C, [], 1, .whole,
    [⟨0, 16, .rw, .m, 0, .plain⟩, ⟨16, 1, .rw, .m, 1, .plain⟩]⟩]

/-- The registers of the CIP block, in the order of its field maps. -/
def regsCip : List RegDef :=
  -- STATUS: FENCED, ENT_DEGRADED, TAG_FAIL
  [⟨0x0, [], 1, .whole,
    [⟨0, 10, .ro, .v, 0, .plain⟩, ⟨10, 1, .ro, .v, 0, .plain⟩, ⟨11, 1, .w1c, .v, 0, .plain⟩]⟩] ++
  -- CTL: DENSITY, SHUFFLE_EN
  [⟨0x4, [], 1, .whole,
    [⟨0, 2, .rw, .m, 2, .plain⟩, ⟨2, 1, .rw, .m, 1, .plain⟩]⟩] ++
  -- SLOT_IDX: SLOT
  [⟨0x10, [], 1, .whole,
    [⟨0, 12, .rw, .v, 0, .plain⟩]⟩] ++
  -- SLOT_CTL: MODE, ZEROISE, COMMIT
  [⟨0x14, [], 1, .whole,
    [⟨0, 2, .rw, .v, 0, .plain⟩, ⟨30, 1, .wo, .v, 0, .plain⟩, ⟨31, 1, .wo, .v, 0, .plain⟩]⟩] ++
  -- SLOT_STAT: MODE, BANK, RETIRED, SERIAL_SRC, WEAK, BUSY_REJECT
  [⟨0x18, [], 1, .whole,
    [⟨0, 2, .ro, .m, 0, .plain⟩, ⟨2, 1, .ro, .m, 0, .plain⟩, ⟨3, 1, .ro, .v, 0, .plain⟩, ⟨4, 2, .ro, .k, 0, .plain⟩, ⟨6, 1, .w1c, .v, 0, .plain⟩, ⟨7, 1, .w1c, .v, 0, .plain⟩]⟩] ++
  -- NONCE_BASE: BASE
  [⟨0x1C, [], 1, .whole,
    [⟨0, 32, .rw, .m, 0, .plain⟩]⟩] ++
  -- SERIAL_LO: SERIAL
  [⟨0x20, [], 1, .lo,
    [⟨0, 32, .rw, .k, 0, .plain⟩]⟩] ++
  -- SERIAL_HI: SERIAL
  [⟨0x24, [], 1, .hi,
    [⟨0, 32, .rw, .k, 0, .plain⟩]⟩] ++
  -- TAG_STAT: FAIL, RECOVERED
  [⟨0xA0, [], 1, .whole,
    [⟨0, 16, .rc, .v, 0, .plain⟩, ⟨16, 16, .rc, .v, 0, .plain⟩]⟩] ++
  -- ENT_STAT: RCT_FAIL, APT_FAIL
  [⟨0xA4, [], 1, .whole,
    [⟨0, 8, .rc, .v, 0, .plain⟩, ⟨8, 8, .rc, .v, 0, .plain⟩]⟩] ++
  -- KEY_DATA: KEY
  [⟨0x40, [(16, 4)], 1, .whole,
    [⟨0, 32, .wok, .m, 0, .plain⟩]⟩] ++
  -- PAIR_KEY: KEY
  [⟨0x80, [(8, 4)], 1, .whole,
    [⟨0, 32, .wok, .m, 0, .plain⟩]⟩] ++
  -- LANE_STAT: HOLD_OCC, UE, CE
  [⟨0xC0, [(10, 4)], 1, .whole,
    [⟨0, 9, .ro, .v, 0, .plain⟩, ⟨16, 1, .w1c, .v, 0, .plain⟩, ⟨24, 8, .rc, .v, 0, .plain⟩]⟩]

/-- The registers of the SLC block, in the order of its field maps. -/
def regsSlc : List RegDef :=
  -- STATUS: CLAMPED, SUB_DUP
  [⟨0x0, [], 1, .whole,
    [⟨0, 1, .w1c, .v, 0, .plain⟩, ⟨1, 1, .w1c, .v, 0, .plain⟩]⟩] ++
  -- CFG: YELLOW_FREE, YELLOW_DEPTH
  [⟨0x4, [], 1, .whole,
    [⟨0, 14, .rw, .m, 2048, .plain⟩, ⟨16, 7, .rw, .m, 32, .clamp 1 127⟩]⟩] ++
  -- DROP: RED_NONSTORAGE, HELD_QUEUES
  [⟨0x8, [], 1, .whole,
    [⟨0, 16, .rc, .v, 0, .plain⟩, ⟨16, 16, .ro, .v, 0, .plain⟩]⟩] ++
  -- PORT_CFG: MODE, STRICT_N, OVERHEAD, DSCP_EN, CTRL_METER, CTRL_EN
  [⟨0x200, [(128, 4)], 1, .whole,
    [⟨0, 1, .rw, .m, 0, .plain⟩, ⟨2, 2, .rw, .m, 1, .plain⟩, ⟨4, 8, .rw, .m, 20, .sclamp 64⟩, ⟨12, 1, .rw, .m, 0, .plain⟩, ⟨16, 13, .rw, .m, 0, .plain⟩, ⟨29, 1, .rw, .m, 0, .plain⟩]⟩] ++
  -- CLASS_CFG: WEIGHT
  [⟨0x400, [(1024, 4)], 1, .whole,
    [⟨0, 8, .rw, .m, 1, .clamp 1 255⟩]⟩] ++
  -- PORT_TB_RATE: RATE
  [⟨0x2000, [(128, 8)], 1, .whole,
    [⟨0, 19, .rw, .m, 0, .clamp 0 400000⟩]⟩] ++
  -- PORT_TB_BURST: BURST
  [⟨0x2004, [(128, 8)], 1, .whole,
    [⟨0, 25, .rw, .m, 65536, .clamp 1 33554431⟩]⟩] ++
  -- PRECOLOUR: PCP
  [⟨0x3000, [(128, 32)], 1, .whole,
    [⟨0, 16, .rw, .m, 0, .plain⟩]⟩] ++
  -- PRECOLOUR: DSCP
  [⟨0x3004, [(128, 32), (4, 4)], 1, .whole,
    [⟨0, 32, .rw, .m, 0, .plain⟩]⟩] ++
  -- CMAX_RATE: RATE
  [⟨0x4000, [(1024, 8)], 1, .whole,
    [⟨0, 19, .rw, .m, 0, .clamp 0 400000⟩]⟩] ++
  -- CMAX_BURST: BURST
  [⟨0x4004, [(1024, 8)], 1, .whole,
    [⟨0, 25, .rw, .m, 65536, .clamp 1 33554431⟩]⟩] ++
  -- CMIN_RATE: RATE
  [⟨0x6000, [(1024, 8)], 1, .whole,
    [⟨0, 19, .rw, .m, 0, .clamp 0 400000⟩]⟩] ++
  -- CMIN_BURST: BURST
  [⟨0x6004, [(1024, 8)], 1, .whole,
    [⟨0, 25, .rw, .m, 65536, .clamp 1 33554431⟩]⟩] ++
  -- SUB_CFG: PORT, CLASS, HOST, WEIGHT, VALID
  [⟨0x10000, [(8192, 16)], 1, .whole,
    [⟨0, 7, .rw, .m, 0, .plain⟩, ⟨7, 3, .rw, .m, 0, .plain⟩, ⟨10, 12, .rw, .m, 0, .plain⟩, ⟨22, 8, .rw, .m, 1, .clamp 1 255⟩, ⟨31, 1, .rw, .m, 0, .plain⟩]⟩] ++
  -- SUB_MIN: RATE
  [⟨0x10004, [(8192, 16)], 1, .whole,
    [⟨0, 19, .rw, .m, 0, .clamp 0 400000⟩]⟩] ++
  -- SUB_MAX: RATE
  [⟨0x10008, [(8192, 16)], 1, .whole,
    [⟨0, 19, .rw, .m, 0, .clamp 0 400000⟩]⟩] ++
  -- SUB_BURST: BURST
  [⟨0x1000C, [(8192, 16)], 1, .whole,
    [⟨0, 25, .rw, .m, 65536, .clamp 1 33554431⟩]⟩] ++
  -- MTR_CFG: ALG, AWARE, OVERHEAD
  [⟨0x40000, [(8192, 32)], 1, .whole,
    [⟨0, 2, .rw, .m, 0, .remap 3 2⟩, ⟨2, 1, .rw, .m, 0, .plain⟩, ⟨8, 8, .rw, .m, 20, .sclamp 64⟩]⟩] ++
  -- MTR_CIR: RATE
  [⟨0x40004, [(8192, 32)], 1, .whole,
    [⟨0, 19, .rw, .m, 400000, .clamp 1 524287⟩]⟩] ++
  -- MTR_CBS: SIZE
  [⟨0x40008, [(8192, 32)], 1, .whole,
    [⟨0, 25, .rw, .m, 1048576, .plain⟩]⟩] ++
  -- MTR_PIR: RATE
  [⟨0x4000C, [(8192, 32)], 1, .whole,
    [⟨0, 19, .rw, .m, 400000, .clamp 1 524287⟩]⟩] ++
  -- MTR_PBS: SIZE
  [⟨0x40010, [(8192, 32)], 1, .whole,
    [⟨0, 25, .rw, .m, 1048576, .plain⟩]⟩] ++
  -- NSB_RATE: RATE
  [⟨0x80000, [(32768, 8)], 1, .whole,
    [⟨0, 32, .rw, .m, 0, .plain⟩]⟩] ++
  -- NSB_BURST: SIZE
  [⟨0x80004, [(16384, 16)], 1, .whole,
    [⟨0, 32, .rw, .m, 256, .clamp 1 65535⟩]⟩] ++
  -- NSB_BURST: SIZE
  [⟨0x8000C, [(16384, 16)], 1, .whole,
    [⟨0, 32, .rw, .m, 2097152, .clamp 4096 16777216⟩]⟩]

/-- The registers of the BRG block, in the order of its field maps. -/
def regsBrg : List RegDef :=
  -- ID: ENGINE, BASIN
  [⟨0x0, [], 1, .whole,
    [⟨0, 8, .ro, .c, 0, .plain⟩, ⟨8, 4, .ro, .c, 0, .plain⟩]⟩] ++
  -- STATUS: STATE
  [⟨0x4, [], 1, .whole,
    [⟨0, 3, .ro, .v, 0, .plain⟩]⟩] ++
  -- FAULT: BANK_UE, ISTORE_PAR, REG_PAR, STEP_LIMIT, MANUAL, SELFTEST
  [⟨0x8, [], 1, .whole,
    [⟨0, 1, .w1c, .v, 0, .plain⟩, ⟨1, 1, .w1c, .v, 0, .plain⟩, ⟨2, 1, .w1c, .v, 0, .plain⟩, ⟨3, 1, .w1c, .v, 0, .plain⟩, ⟨4, 1, .w1c, .v, 0, .plain⟩, ⟨5, 1, .w1c, .v, 0, .plain⟩]⟩] ++
  -- TOW_CTL: THRESH, TAKE_MAX, TOW_EN, LONG_EN, VICTIM_EN
  [⟨0x10, [], 1, .whole,
    [⟨0, 6, .rw, .m, 4, .clamp 1 63⟩, ⟨8, 4, .rw, .m, 8, .clamp 1 15⟩, ⟨12, 1, .rw, .m, 1, .plain⟩, ⟨13, 1, .rw, .m, 1, .plain⟩, ⟨14, 1, .rw, .m, 1, .plain⟩]⟩] ++
  -- TOW_STAT: DEPTH, INFLIGHT
  [⟨0x14, [], 1, .whole,
    [⟨0, 7, .ro, .v, 0, .plain⟩, ⟨16, 11, .ro, .v, 0, .plain⟩]⟩] ++
  -- HOME_CNT: QUEUES
  [⟨0x18, [], 1, .whole,
    [⟨0, 11, .ro, .v, 0, .plain⟩]⟩] ++
  -- BANK_CTL: REQ
  [⟨0x20, [], 1, .whole,
    [⟨0, 2, .rw, .k, 0, .remap 3 0⟩]⟩] ++
  -- BANK_STAT: STATE, REFUSED, UE, CE
  [⟨0x24, [], 1, .whole,
    [⟨0, 2, .ro, .v, 0, .plain⟩, ⟨2, 1, .w1c, .v, 0, .plain⟩, ⟨3, 1, .w1c, .v, 0, .plain⟩, ⟨8, 8, .rc, .v, 0, .plain⟩]⟩] ++
  -- TOW_TIME: LONG_IDLE, AGE_US
  [⟨0x40, [], 0, .whole,
    [⟨0, 10, .rw, .m, 20, .clamp 1 1023⟩, ⟨16, 10, .rw, .m, 8, .plain⟩]⟩] ++
  -- STEP_LIMIT: LIMIT
  [⟨0x44, [], 0, .whole,
    [⟨0, 16, .rw, .m, 1000, .clamp 1 65535⟩]⟩] ++
  -- ADMIT_CFG: HOME_POLICY
  [⟨0x48, [], 0, .whole,
    [⟨0, 1, .rw, .m, 1, .plain⟩]⟩] ++
  -- BERTH_FREE: FREE
  [⟨0x4C, [], 0, .whole,
    [⟨0, 18, .ro, .c, 253952, .plain⟩]⟩] ++
  -- BERTH_IDX: BERTH, BUSY
  [⟨0x100, [], 0, .whole,
    [⟨0, 18, .rw, .v, 0, .plain⟩, ⟨31, 1, .ro, .v, 0, .plain⟩]⟩] ++
  -- BERTH_POOL: FREE
  [⟨0x50, [], 16, .whole,
    [⟨0, 14, .ro, .c, 15872, .plain⟩]⟩] ++
  -- BERTH_DATA: WORD
  [⟨0x200, [(64, 4)], 0, .whole,
    [⟨0, 32, .ro, .v, 0, .plain⟩]⟩] ++
  -- WREG: WORD
  [⟨0x8000, [(8192, 4)], 1, .whole,
    [⟨0, 32, .ro, .v, 0, .plain⟩]⟩]

/-- The registers of the TUG block, in the order of its field maps. -/
def regsTug : List RegDef :=
  -- ID: TUG, GROUP
  [⟨0x0, [], 1, .whole,
    [⟨0, 6, .ro, .c, 0, .plain⟩, ⟨6, 3, .ro, .c, 0, .plain⟩]⟩] ++
  -- STATUS: FENCED, FAULT
  [⟨0x4, [], 1, .whole,
    [⟨0, 1, .ro, .v, 0, .plain⟩, ⟨1, 1, .w1c, .v, 0, .plain⟩]⟩] ++
  -- SPRAY_CFG: REORDER_US, MAX_PATHS, RELAXED_EN, SPRAY_EN, WIN_LOG2, SPORT_BASE
  [⟨0x20, [], 0, .whole,
    [⟨0, 10, .rw, .m, 20, .clamp 2 1023⟩, ⟨14, 4, .rw, .m, 8, .clamp 1 15⟩, ⟨18, 1, .rw, .m, 1, .plain⟩, ⟨19, 1, .rw, .m, 1, .plain⟩, ⟨20, 4, .rw, .m, 12, .clamp 8 12⟩, ⟨24, 8, .rw, .m, 0, .plain⟩]⟩] ++
  -- ACK_CFG: ACK_EVERY, ACK_DELAY, PATH_FAIL, PATH_PROBE
  [⟨0x24, [], 0, .whole,
    [⟨0, 8, .rw, .m, 16, .clamp 1 255⟩, ⟨8, 10, .rw, .m, 20, .plain⟩, ⟨20, 4, .rw, .m, 3, .plain⟩, ⟨24, 8, .rw, .m, 10, .plain⟩]⟩] ++
  -- DRAIN_LIMIT: LIMIT_US
  [⟨0x28, [], 0, .whole,
    [⟨0, 11, .rw, .m, 64, .clamp 8 1024⟩]⟩] ++
  -- RC_CFG0: CUT, FAST_STEPS, EPOCH
  [⟨0x30, [], 0, .whole,
    [⟨0, 8, .rw, .m, 64, .plain⟩, ⟨8, 8, .rw, .m, 5, .plain⟩, ⟨16, 10, .rw, .m, 50, .plain⟩]⟩] ++
  -- RC_CFG1: STEP, INTERVAL
  [⟨0x34, [], 0, .whole,
    [⟨0, 16, .rw, .m, 1000, .plain⟩, ⟨16, 10, .rw, .m, 40, .plain⟩]⟩] ++
  -- RC_CFG2: MIN_RATE, CNP_GAP, RC_EN
  [⟨0x38, [], 0, .whole,
    [⟨0, 16, .rw, .m, 100, .plain⟩, ⟨16, 8, .rw, .m, 4, .plain⟩, ⟨24, 1, .rw, .m, 1, .plain⟩]⟩] ++
  -- TCP_CFG0: RTO_MIN_MS, MAX_RETX, DELACK_US, ECN_EN
  [⟨0x40, [], 0, .whole,
    [⟨0, 8, .rw, .m, 5, .plain⟩, ⟨8, 4, .rw, .m, 15, .plain⟩, ⟨16, 8, .rw, .m, 20, .plain⟩, ⟨24, 1, .rw, .m, 1, .plain⟩]⟩] ++
  -- TCP_CFG1: RWND_KIB
  [⟨0x44, [], 0, .whole,
    [⟨0, 16, .rw, .m, 1024, .clamp 64 4096⟩]⟩] ++
  -- CM_CFG: ACK_TIMEOUT, RETRY_CNT, RNR_RETRY, RESP_RES, INIT_DEPTH
  [⟨0x50, [], 0, .whole,
    [⟨0, 5, .rw, .m, 14, .clamp 1 31⟩, ⟨8, 3, .rw, .m, 7, .plain⟩, ⟨12, 3, .rw, .m, 6, .clamp 0 6⟩, ⟨16, 8, .rw, .m, 16, .plain⟩, ⟨24, 8, .rw, .m, 16, .plain⟩]⟩] ++
  -- QPT_IDX: ENTRY
  [⟨0x100, [], 0, .whole,
    [⟨0, 16, .rw, .v, 0, .plain⟩]⟩] ++
  -- QPT_DATA: WORD
  [⟨0x180, [(32, 4)], 0, .whole,
    [⟨0, 32, .ro, .v, 0, .plain⟩]⟩] ++
  -- STAIR_STAT: INSTALLED, FAULTED, OVERRUN
  [⟨0x200, [], 8, .whole,
    [⟨0, 11, .ro, .v, 0, .plain⟩, ⟨16, 8, .ro, .v, 0, .plain⟩, ⟨24, 8, .rc, .v, 0, .plain⟩]⟩]

/-- The registers of the NET block, in the order of its field maps. -/
def regsNet : List RegDef :=
  -- QUAD_CFG: MODE, AN_EN, DEG_MAX
  [⟨0x0, [], 1, .whole,
    [⟨0, 2, .rw, .m, 2, .remap 3 2⟩, ⟨2, 1, .rw, .m, 1, .plain⟩, ⟨16, 16, .rw, .m, 100, .plain⟩]⟩] ++
  -- QUAD_STAT: TRAINING, MAP_ERR, PFC_ERR, HELD, BUF_UNITS
  [⟨0x4, [], 1, .whole,
    [⟨0, 1, .ro, .v, 0, .plain⟩, ⟨1, 1, .w1c, .v, 0, .plain⟩, ⟨2, 1, .w1c, .v, 0, .plain⟩, ⟨3, 1, .ro, .v, 0, .plain⟩, ⟨16, 11, .ro, .v, 0, .plain⟩]⟩] ++
  -- LANE_MAP: MAP, TX_INV, RX_INV
  [⟨0x8, [], 1, .whole,
    [⟨0, 8, .rw, .m, 228, .plain⟩, ⟨8, 4, .rw, .m, 0, .plain⟩, ⟨12, 4, .rw, .m, 0, .plain⟩]⟩] ++
  -- EEE_CFG: IDLE_US, TW_EXTRA
  [⟨0xC, [], 1, .whole,
    [⟨0, 16, .rw, .m, 0, .plain⟩, ⟨16, 8, .rw, .m, 0, .plain⟩]⟩] ++
  -- PORT_CFG: EN, MTU, PAUSE_EN, PFC_EN, WAKE, DEGRADE_DOWN, ACL_DEF
  [⟨0x100, [(4, 256)], 1, .whole,
    [⟨0, 1, .rw, .m, 1, .plain⟩, ⟨1, 14, .rw, .m, 4200, .clamp 1280 9000⟩, ⟨15, 1, .rw, .m, 0, .plain⟩, ⟨16, 8, .rw, .m, 0, .plain⟩, ⟨24, 2, .rw, .m, 1, .remap 3 2⟩, ⟨26, 1, .rw, .m, 0, .plain⟩, ⟨27, 1, .rw, .m, 0, .plain⟩]⟩] ++
  -- PORT_STAT: LINK, LPI_TX, LPI_RX, DEGRADED, ADDR_CONFLICT, HEAD_OVR, PAUSED_RX, PFC_RX, XOFF_TX
  [⟨0x104, [(4, 256)], 1, .whole,
    [⟨0, 1, .ro, .v, 0, .plain⟩, ⟨1, 1, .ro, .v, 0, .plain⟩, ⟨2, 1, .ro, .v, 0, .plain⟩, ⟨3, 1, .w1c, .v, 0, .plain⟩, ⟨4, 1, .w1c, .v, 0, .plain⟩, ⟨5, 1, .w1c, .v, 0, .plain⟩, ⟨6, 1, .ro, .v, 0, .plain⟩, ⟨8, 8, .ro, .v, 0, .plain⟩, ⟨16, 8, .ro, .v, 0, .plain⟩]⟩] ++
  -- PFC_CFG: QUANTA
  [⟨0x108, [(4, 256)], 1, .whole,
    [⟨0, 16, .rw, .m, 65535, .clamp 1 65535⟩]⟩] ++
  -- PFC_THR: XOFF, XON, HEAD
  [⟨0x120, [(4, 256), (8, 4)], 1, .whole,
    [⟨0, 11, .rw, .m, 48, .plain⟩, ⟨11, 11, .rw, .m, 32, .plain⟩, ⟨22, 5, .rw, .m, 20, .clamp 1 31⟩]⟩] ++
  -- WAKE_PAT: PAT
  [⟨0x140, [(4, 256), (4, 4)], 1, .whole,
    [⟨0, 32, .rw, .m, 0, .plain⟩]⟩] ++
  -- CNT_LO: COUNT
  [⟨0x1000, [(4, 512), (64, 8)], 1, .lo,
    [⟨0, 32, .ro, .v, 0, .plain⟩]⟩] ++
  -- CNT_HI: COUNT
  [⟨0x1004, [(4, 512), (64, 8)], 1, .hi,
    [⟨0, 32, .ro, .v, 0, .plain⟩]⟩] ++
  -- MCNT_LO: COUNT
  [⟨0x1800, [(64, 8)], 0, .lo,
    [⟨0, 32, .ro, .v, 0, .plain⟩]⟩] ++
  -- MCNT_HI: COUNT
  [⟨0x1804, [(64, 8)], 0, .hi,
    [⟨0, 32, .ro, .v, 0, .plain⟩]⟩]

/-- The registers of the DRV block, in the order of its field maps. -/
def regsDrv : List RegDef :=
  -- ID: BAY, GROUP
  [⟨0x0, [], 1, .whole,
    [⟨0, 6, .ro, .c, 0, .plain⟩, ⟨6, 4, .ro, .c, 0, .plain⟩]⟩] ++
  -- STATE: STATE, RUNG, SPEED, WIDTH, L1, PS, FUA_FORCED, META64, PS_MISS
  [⟨0x4, [], 1, .whole,
    [⟨0, 4, .ro, .v, 0, .plain⟩, ⟨4, 2, .ro, .v, 0, .plain⟩, ⟨6, 3, .ro, .v, 0, .plain⟩, ⟨9, 3, .ro, .v, 0, .plain⟩, ⟨12, 1, .ro, .v, 0, .plain⟩, ⟨13, 5, .ro, .v, 0, .plain⟩, ⟨18, 1, .ro, .v, 0, .plain⟩, ⟨19, 1, .ro, .v, 0, .plain⟩, ⟨20, 1, .w1c, .v, 0, .plain⟩]⟩] ++
  -- QUEUES: IOQ, DEPTH, MDTS_KIB
  [⟨0x8, [], 1, .whole,
    [⟨0, 7, .ro, .v, 0, .plain⟩, ⟨8, 10, .ro, .v, 0, .plain⟩, ⟨19, 13, .ro, .v, 0, .plain⟩]⟩] ++
  -- ERR_STAT: TMO, ABORTS, QRESETS, CRESETS
  [⟨0xC, [], 1, .whole,
    [⟨0, 8, .rc, .v, 0, .plain⟩, ⟨8, 8, .rc, .v, 0, .plain⟩, ⟨16, 8, .rc, .v, 0, .plain⟩, ⟨24, 8, .rc, .v, 0, .plain⟩]⟩] ++
  -- MI_STAT: TEMP, CW, LIFE, VALID, AGE_S
  [⟨0x10, [], 1, .whole,
    [⟨0, 8, .ro, .v, 0, .plain⟩, ⟨8, 8, .ro, .v, 0, .plain⟩, ⟨16, 8, .ro, .v, 0, .plain⟩, ⟨24, 1, .ro, .v, 0, .plain⟩, ⟨25, 7, .ro, .v, 0, .plain⟩]⟩] ++
  -- CTL: LOCATE
  [⟨0x14, [], 1, .whole,
    [⟨0, 1, .rw, .k, 0, .plain⟩]⟩] ++
  -- GRP_CFG: MODE, SRIS
  [⟨0x100, [], 3, .whole,
    [⟨0, 2, .rw, .m, 0, .remap 3 0⟩, ⟨2, 1, .rw, .m, 0, .plain⟩]⟩] ++
  -- GRP_STAT: MUX_ASSERTED, TRAIN_FAIL
  [⟨0x104, [], 3, .whole,
    [⟨0, 1, .ro, .v, 0, .plain⟩, ⟨1, 1, .w1c, .v, 0, .plain⟩]⟩] ++
  -- CFG: MIN_GEN, RETRY, QDEPTH, IOQ_MAX, ASPM_EN, MI_EN, MI_POLL_S, MUX_SETTLE
  [⟨0x200, [], 0, .whole,
    [⟨0, 3, .rw, .m, 4, .clamp 3 6⟩, ⟨3, 3, .rw, .m, 3, .plain⟩, ⟨6, 2, .rw, .m, 2, .remap 3 2⟩, ⟨8, 7, .rw, .m, 64, .clamp 4 64⟩, ⟨15, 1, .rw, .m, 1, .plain⟩, ⟨16, 1, .rw, .m, 1, .plain⟩, ⟨17, 8, .rw, .m, 10, .clamp 1 255⟩, ⟨25, 7, .rw, .m, 10, .clamp 1 127⟩]⟩] ++
  -- TMO_CFG: CMD_TMO, ABORT, QUEUE, RESET_S, PWRCYCLE_EN
  [⟨0x204, [], 0, .whole,
    [⟨0, 10, .rw, .m, 80, .clamp 1 1023⟩, ⟨10, 6, .rw, .m, 10, .clamp 1 63⟩, ⟨16, 6, .rw, .m, 20, .clamp 1 63⟩, ⟨22, 8, .rw, .m, 10, .clamp 1 255⟩, ⟨30, 1, .rw, .m, 0, .plain⟩]⟩] ++
  -- IDLE_CFG: T1, PS1, T2, PS2
  [⟨0x240, [(16, 4)], 0, .whole,
    [⟨0, 12, .rw, .m, 0, .plain⟩, ⟨12, 4, .rw, .m, 0, .plain⟩, ⟨16, 12, .rw, .m, 0, .plain⟩, ⟨28, 4, .rw, .m, 0, .plain⟩]⟩]

/-- The registers of the ARY block, in the order of its field maps. -/
def regsAry : List RegDef :=
  -- STATE: STATE, SCRUBBING, HELD, MISSING
  [⟨0x0, [], 1, .whole,
    [⟨0, 3, .ro, .m, 0, .plain⟩, ⟨3, 1, .ro, .v, 0, .plain⟩, ⟨4, 1, .ro, .v, 0, .plain⟩, ⟨8, 6, .ro, .m, 0, .plain⟩]⟩] ++
  -- CFG: MODE, N, K, DSLOT, UNIT, POOL
  [⟨0x4, [], 1, .whole,
    [⟨0, 3, .ro, .m, 0, .plain⟩, ⟨8, 6, .ro, .m, 0, .plain⟩, ⟨16, 6, .ro, .m, 0, .plain⟩, ⟨24, 1, .ro, .m, 0, .plain⟩, ⟨25, 3, .ro, .m, 0, .plain⟩, ⟨28, 3, .ro, .m, 0, .plain⟩]⟩] ++
  -- GEN: GEN
  [⟨0x8, [], 1, .whole,
    [⟨0, 32, .ro, .m, 0, .plain⟩]⟩] ++
  -- STRIPES_LO: S
  [⟨0x10, [], 1, .lo,
    [⟨0, 32, .ro, .m, 0, .plain⟩]⟩] ++
  -- STRIPES_HI: S
  [⟨0x14, [], 1, .hi,
    [⟨0, 32, .ro, .m, 0, .plain⟩]⟩] ++
  -- MARK_LO: CURSOR
  [⟨0x20, [], 1, .lo,
    [⟨0, 32, .ro, .m, 0, .plain⟩]⟩] ++
  -- MARK_HI: CURSOR
  [⟨0x24, [], 1, .hi,
    [⟨0, 32, .ro, .m, 0, .plain⟩]⟩] ++
  -- REM_IDX: MEMBER
  [⟨0x28, [], 1, .whole,
    [⟨0, 5, .rw, .v, 0, .plain⟩]⟩] ++
  -- REM_LO: REM
  [⟨0x30, [], 1, .lo,
    [⟨0, 32, .ro, .v, 0, .plain⟩]⟩] ++
  -- REM_HI: REM
  [⟨0x34, [], 1, .hi,
    [⟨0, 32, .ro, .v, 0, .plain⟩]⟩] ++
  -- REBUILD_CFG: RATE, HOLD
  [⟨0x38, [], 1, .whole,
    [⟨0, 10, .rw, .m, 20, .clamp 1 1023⟩, ⟨16, 1, .rw, .m, 0, .plain⟩]⟩] ++
  -- SCRUB_CFG: MODE, EN, RATE, INTERVAL_D
  [⟨0x40, [], 1, .whole,
    [⟨0, 1, .rw, .m, 0, .plain⟩, ⟨1, 1, .rw, .m, 1, .plain⟩, ⟨4, 10, .rw, .m, 50, .clamp 1 1023⟩, ⟨16, 9, .rw, .m, 28, .clamp 1 365⟩]⟩] ++
  -- SCRUB_STAT: MISMATCH, REPAIRED
  [⟨0x44, [], 1, .whole,
    [⟨0, 16, .rc, .v, 0, .plain⟩, ⟨16, 16, .rc, .v, 0, .plain⟩]⟩] ++
  -- SCRUB_POS_LO: POS
  [⟨0x48, [], 1, .lo,
    [⟨0, 32, .ro, .m, 0, .plain⟩]⟩] ++
  -- SCRUB_POS_HI: POS
  [⟨0x4C, [], 1, .hi,
    [⟨0, 32, .ro, .m, 0, .plain⟩]⟩] ++
  -- MEDIA_CFG: MEDIA_ERR_MAX
  [⟨0x50, [], 1, .whole,
    [⟨0, 8, .rw, .m, 64, .plain⟩]⟩] ++
  -- ERR_STAT: READ_REPAIRED, DEGRADED_READS
  [⟨0x54, [], 1, .whole,
    [⟨0, 16, .rc, .v, 0, .plain⟩, ⟨16, 16, .rc, .v, 0, .plain⟩]⟩] ++
  -- SUBST: MEMBER, VALID
  [⟨0x58, [], 1, .whole,
    [⟨0, 5, .ro, .m, 0, .plain⟩, ⟨7, 1, .ro, .m, 0, .plain⟩]⟩] ++
  -- MEMBER: BAY, STATE, TARGET
  [⟨0x80, [(32, 4)], 1, .whole,
    [⟨0, 6, .ro, .m, 0, .plain⟩, ⟨8, 3, .ro, .m, 0, .plain⟩, ⟨16, 6, .ro, .m, 0, .plain⟩]⟩] ++
  -- POOL_LO: BAYS
  [⟨0x1000, [(4, 8)], 0, .lo,
    [⟨0, 32, .ro, .m, 0, .plain⟩]⟩] ++
  -- POOL_HI: BAYS
  [⟨0x1004, [(4, 8)], 0, .hi,
    [⟨0, 16, .ro, .m, 0, .plain⟩]⟩] ++
  -- DEV_STAT: OFFLINE, REBUILDING
  [⟨0x1040, [], 0, .whole,
    [⟨0, 16, .ro, .m, 0, .plain⟩, ⟨16, 16, .ro, .m, 0, .plain⟩]⟩]

/-- The registers of the LDG block, in the order of its field maps. -/
def regsLdg : List RegDef :=
  -- STATE: PAIRS, REPLAYING, BYPASS, SAME_GROUP
  [⟨0x0, [], 1, .whole,
    [⟨0, 5, .ro, .m, 0, .plain⟩, ⟨5, 1, .ro, .v, 0, .plain⟩, ⟨6, 1, .ro, .m, 0, .plain⟩, ⟨7, 1, .ro, .m, 0, .plain⟩]⟩] ++
  -- DESTAGE_STAT: WHOLE, PARTIAL
  [⟨0x10, [], 1, .whole,
    [⟨0, 16, .rc, .v, 0, .plain⟩, ⟨16, 16, .rc, .v, 0, .plain⟩]⟩] ++
  -- REPLAY_STAT: TIME, TORN, INTERRUPTED
  [⟨0x14, [], 1, .whole,
    [⟨0, 16, .ro, .v, 0, .plain⟩, ⟨16, 8, .ro, .v, 0, .plain⟩, ⟨24, 8, .ro, .v, 0, .plain⟩]⟩] ++
  -- ERR_STAT: CAUSE2, CAUSE3, BYPASSED
  [⟨0x18, [], 1, .whole,
    [⟨0, 8, .rc, .v, 0, .plain⟩, ⟨8, 8, .rc, .v, 0, .plain⟩, ⟨16, 16, .rc, .v, 0, .plain⟩]⟩] ++
  -- PAIR: ROLE_A, ROLE_B, STATE, SAME_GROUP, LIVE_A, LIVE_B
  [⟨0x40, [(17, 4)], 1, .whole,
    [⟨0, 5, .ro, .m, 0, .plain⟩, ⟨8, 5, .ro, .m, 0, .plain⟩, ⟨16, 3, .ro, .m, 0, .plain⟩, ⟨19, 1, .ro, .m, 0, .plain⟩, ⟨20, 1, .ro, .m, 0, .plain⟩, ⟨21, 1, .ro, .m, 0, .plain⟩]⟩] ++
  -- RING_OCC: LIVE_MIB
  [⟨0x100, [(32, 4)], 1, .whole,
    [⟨0, 12, .ro, .v, 0, .plain⟩]⟩] ++
  -- CFG: SEG_INFLIGHT, RING_LIMIT_MIB
  [⟨0x800, [], 0, .whole,
    [⟨0, 3, .rw, .m, 1, .clamp 1 7⟩, ⟨16, 12, .rw, .m, 1024, .clamp 64 4032⟩]⟩] ++
  -- GATHER_CFG: SIZE_GIB, AGE_MS, DESTAGE_MAX
  [⟨0x804, [], 0, .whole,
    [⟨0, 7, .rw, .m, 64, .clamp 4 96⟩, ⟨8, 16, .rw, .m, 250, .clamp 1 60000⟩, ⟨24, 8, .rw, .m, 32, .clamp 1 255⟩]⟩] ++
  -- GATHER_STAT: SLOTS
  [⟨0x808, [], 0, .whole,
    [⟨0, 25, .ro, .v, 0, .plain⟩]⟩] ++
  -- REPAIR_CFG: RATE
  [⟨0x80C, [], 0, .whole,
    [⟨0, 10, .rw, .m, 20, .clamp 1 1023⟩]⟩]

/-- The registers of the SPB block, in the order of its field maps. -/
def regsSpb : List RegDef :=
  -- BANK_CTL: REQ
  [⟨0x0, [(16, 8)], 1, .whole,
    [⟨0, 2, .rw, .k, 0, .remap 3 0⟩]⟩] ++
  -- BANK_STAT: STATE, REFUSED, UE, CE, USE
  [⟨0x4, [], 1, .whole,
    [⟨0, 2, .ro, .v, 0, .plain⟩, ⟨2, 1, .w1c, .v, 0, .plain⟩, ⟨3, 1, .w1c, .v, 0, .plain⟩, ⟨8, 8, .rc, .v, 0, .plain⟩, ⟨16, 2, .ro, .c, 0, .plain⟩]⟩] ++
  -- BANK_STAT: STATE, REFUSED, UE, CE, USE
  [⟨0xC, [], 1, .whole,
    [⟨0, 2, .ro, .v, 0, .plain⟩, ⟨2, 1, .w1c, .v, 0, .plain⟩, ⟨3, 1, .w1c, .v, 0, .plain⟩, ⟨8, 8, .rc, .v, 0, .plain⟩, ⟨16, 2, .ro, .c, 0, .plain⟩]⟩] ++
  -- BANK_STAT: STATE, REFUSED, UE, CE, USE
  [⟨0x14, [], 1, .whole,
    [⟨0, 2, .ro, .v, 0, .plain⟩, ⟨2, 1, .w1c, .v, 0, .plain⟩, ⟨3, 1, .w1c, .v, 0, .plain⟩, ⟨8, 8, .rc, .v, 0, .plain⟩, ⟨16, 2, .ro, .c, 1, .plain⟩]⟩] ++
  -- BANK_STAT: STATE, REFUSED, UE, CE, USE
  [⟨0x1C, [], 1, .whole,
    [⟨0, 2, .ro, .v, 0, .plain⟩, ⟨2, 1, .w1c, .v, 0, .plain⟩, ⟨3, 1, .w1c, .v, 0, .plain⟩, ⟨8, 8, .rc, .v, 0, .plain⟩, ⟨16, 2, .ro, .c, 1, .plain⟩]⟩] ++
  -- BANK_STAT: STATE, REFUSED, UE, CE, USE
  [⟨0x24, [], 1, .whole,
    [⟨0, 2, .ro, .v, 0, .plain⟩, ⟨2, 1, .w1c, .v, 0, .plain⟩, ⟨3, 1, .w1c, .v, 0, .plain⟩, ⟨8, 8, .rc, .v, 0, .plain⟩, ⟨16, 2, .ro, .c, 1, .plain⟩]⟩] ++
  -- BANK_STAT: STATE, REFUSED, UE, CE, USE
  [⟨0x2C, [], 1, .whole,
    [⟨0, 2, .ro, .v, 0, .plain⟩, ⟨2, 1, .w1c, .v, 0, .plain⟩, ⟨3, 1, .w1c, .v, 0, .plain⟩, ⟨8, 8, .rc, .v, 0, .plain⟩, ⟨16, 2, .ro, .c, 1, .plain⟩]⟩] ++
  -- BANK_STAT: STATE, REFUSED, UE, CE, USE
  [⟨0x34, [], 1, .whole,
    [⟨0, 2, .ro, .v, 0, .plain⟩, ⟨2, 1, .w1c, .v, 0, .plain⟩, ⟨3, 1, .w1c, .v, 0, .plain⟩, ⟨8, 8, .rc, .v, 0, .plain⟩, ⟨16, 2, .ro, .c, 1, .plain⟩]⟩] ++
  -- BANK_STAT: STATE, REFUSED, UE, CE, USE
  [⟨0x3C, [], 1, .whole,
    [⟨0, 2, .ro, .v, 0, .plain⟩, ⟨2, 1, .w1c, .v, 0, .plain⟩, ⟨3, 1, .w1c, .v, 0, .plain⟩, ⟨8, 8, .rc, .v, 0, .plain⟩, ⟨16, 2, .ro, .c, 1, .plain⟩]⟩] ++
  -- BANK_STAT: STATE, REFUSED, UE, CE, USE
  [⟨0x44, [], 1, .whole,
    [⟨0, 2, .ro, .v, 0, .plain⟩, ⟨2, 1, .w1c, .v, 0, .plain⟩, ⟨3, 1, .w1c, .v, 0, .plain⟩, ⟨8, 8, .rc, .v, 0, .plain⟩, ⟨16, 2, .ro, .c, 2, .plain⟩]⟩] ++
  -- BANK_STAT: STATE, REFUSED, UE, CE, USE
  [⟨0x4C, [], 1, .whole,
    [⟨0, 2, .ro, .v, 0, .plain⟩, ⟨2, 1, .w1c, .v, 0, .plain⟩, ⟨3, 1, .w1c, .v, 0, .plain⟩, ⟨8, 8, .rc, .v, 0, .plain⟩, ⟨16, 2, .ro, .c, 2, .plain⟩]⟩] ++
  -- BANK_STAT: STATE, REFUSED, UE, CE, USE
  [⟨0x54, [], 1, .whole,
    [⟨0, 2, .ro, .v, 0, .plain⟩, ⟨2, 1, .w1c, .v, 0, .plain⟩, ⟨3, 1, .w1c, .v, 0, .plain⟩, ⟨8, 8, .rc, .v, 0, .plain⟩, ⟨16, 2, .ro, .c, 2, .plain⟩]⟩] ++
  -- BANK_STAT: STATE, REFUSED, UE, CE, USE
  [⟨0x5C, [], 1, .whole,
    [⟨0, 2, .ro, .v, 0, .plain⟩, ⟨2, 1, .w1c, .v, 0, .plain⟩, ⟨3, 1, .w1c, .v, 0, .plain⟩, ⟨8, 8, .rc, .v, 0, .plain⟩, ⟨16, 2, .ro, .c, 2, .plain⟩]⟩] ++
  -- BANK_STAT: STATE, REFUSED, UE, CE, USE
  [⟨0x64, [], 1, .whole,
    [⟨0, 2, .ro, .v, 0, .plain⟩, ⟨2, 1, .w1c, .v, 0, .plain⟩, ⟨3, 1, .w1c, .v, 0, .plain⟩, ⟨8, 8, .rc, .v, 0, .plain⟩, ⟨16, 2, .ro, .c, 2, .plain⟩]⟩] ++
  -- BANK_STAT: STATE, REFUSED, UE, CE, USE
  [⟨0x6C, [], 1, .whole,
    [⟨0, 2, .ro, .v, 0, .plain⟩, ⟨2, 1, .w1c, .v, 0, .plain⟩, ⟨3, 1, .w1c, .v, 0, .plain⟩, ⟨8, 8, .rc, .v, 0, .plain⟩, ⟨16, 2, .ro, .c, 2, .plain⟩]⟩] ++
  -- BANK_STAT: STATE, REFUSED, UE, CE, USE
  [⟨0x74, [], 1, .whole,
    [⟨0, 2, .ro, .v, 0, .plain⟩, ⟨2, 1, .w1c, .v, 0, .plain⟩, ⟨3, 1, .w1c, .v, 0, .plain⟩, ⟨8, 8, .rc, .v, 0, .plain⟩, ⟨16, 2, .ro, .c, 2, .plain⟩]⟩] ++
  -- BANK_STAT: STATE, REFUSED, UE, CE, USE
  [⟨0x7C, [], 1, .whole,
    [⟨0, 2, .ro, .v, 0, .plain⟩, ⟨2, 1, .w1c, .v, 0, .plain⟩, ⟨3, 1, .w1c, .v, 0, .plain⟩, ⟨8, 8, .rc, .v, 0, .plain⟩, ⟨16, 2, .ro, .c, 2, .plain⟩]⟩]

/-- The registers of the RSV block, in the order of its field maps. -/
def regsRsv : List RegDef :=
  -- STATUS: READY, FULL_TRAIN, UE
  [⟨0x0, [], 1, .whole,
    [⟨0, 1, .ro, .v, 0, .plain⟩, ⟨1, 1, .ro, .v, 0, .plain⟩, ⟨2, 1, .w1c, .v, 0, .plain⟩]⟩] ++
  -- CH_STAT: STATE, CE, UE
  [⟨0x100, [(16, 4)], 1, .whole,
    [⟨0, 3, .ro, .v, 0, .plain⟩, ⟨8, 8, .rc, .v, 0, .plain⟩, ⟨16, 1, .w1c, .v, 0, .plain⟩]⟩] ++
  -- STACK_STAT: TEMP, REFRESH_X2, HOT
  [⟨0x200, [(4, 4)], 1, .whole,
    [⟨0, 8, .ro, .v, 0, .plain⟩, ⟨8, 1, .ro, .v, 0, .plain⟩, ⟨9, 1, .w1c, .v, 0, .plain⟩]⟩]

/-- The registers of the AQD block, in the order of its field maps. -/
def regsAqd : List RegDef :=
  -- ROLE: ROLE, LAST_ROLE, FENCED, FENCE_CAUSE
  [⟨0x0, [], 1, .whole,
    [⟨0, 2, .ro, .v, 0, .plain⟩, ⟨2, 2, .ro, .m, 0, .plain⟩, ⟨4, 1, .w1c, .k, 0, .plain⟩, ⟨5, 3, .ro, .k, 0, .plain⟩]⟩] ++
  -- PAIR_CFG: PAIR_EN, PREFER, WITNESSES
  [⟨0x4, [], 1, .whole,
    [⟨0, 1, .ro, .m, 0, .plain⟩, ⟨1, 1, .ro, .m, 0, .plain⟩, ⟨2, 3, .ro, .m, 0, .plain⟩]⟩] ++
  -- PAIR_ID_LO: ID
  [⟨0x8, [], 1, .lo,
    [⟨0, 32, .ro, .m, 0, .plain⟩]⟩] ++
  -- PAIR_ID_HI: ID
  [⟨0xC, [], 1, .hi,
    [⟨0, 32, .ro, .m, 0, .plain⟩]⟩] ++
  -- PARTNER: HB_SB, HB_AQD, STATE, SYNC, HEALTH, SIDEBAND_LOST, NO_MAJORITY, CANNOT_CLAIM
  [⟨0x10, [], 1, .whole,
    [⟨0, 1, .ro, .v, 0, .plain⟩, ⟨1, 1, .ro, .v, 0, .plain⟩, ⟨2, 2, .ro, .v, 0, .plain⟩, ⟨4, 2, .ro, .m, 0, .plain⟩, ⟨6, 2, .ro, .v, 0, .plain⟩, ⟨8, 1, .w1c, .v, 0, .plain⟩, ⟨9, 1, .w1c, .v, 0, .plain⟩, ⟨10, 1, .w1c, .v, 0, .plain⟩]⟩] ++
  -- CKPT_CFG: BATCH_MS, RECHECK_S, DRAIN_MS
  [⟨0x14, [], 1, .whole,
    [⟨0, 12, .rw, .m, 1000, .clamp 10 4000⟩, ⟨16, 8, .rw, .m, 10, .clamp 1 255⟩, ⟨24, 8, .rw, .m, 50, .clamp 1 255⟩]⟩] ++
  -- CKPT_SEQ_LO: SEQ
  [⟨0x18, [], 1, .lo,
    [⟨0, 32, .ro, .m, 0, .plain⟩]⟩] ++
  -- CKPT_SEQ_HI: SEQ
  [⟨0x1C, [], 1, .hi,
    [⟨0, 32, .ro, .m, 0, .plain⟩]⟩] ++
  -- LEASE_STAT: HOLDER, MAJ, WON, SINCE_OK_MS
  [⟨0x20, [], 1, .whole,
    [⟨0, 1, .ro, .v, 0, .plain⟩, ⟨1, 1, .ro, .v, 0, .plain⟩, ⟨2, 3, .ro, .v, 0, .plain⟩, ⟨16, 10, .ro, .v, 0, .plain⟩]⟩] ++
  -- EPOCH_LO: EPOCH
  [⟨0x28, [], 1, .lo,
    [⟨0, 32, .ro, .v, 0, .plain⟩]⟩] ++
  -- EPOCH_HI: EPOCH
  [⟨0x2C, [], 1, .hi,
    [⟨0, 32, .ro, .v, 0, .plain⟩]⟩] ++
  -- TKO_STAT: LAST_MS, CAUSE, COUNT
  [⟨0x60, [], 1, .whole,
    [⟨0, 16, .ro, .k, 0, .plain⟩, ⟨16, 3, .ro, .k, 0, .plain⟩, ⟨20, 8, .ro, .m, 0, .plain⟩]⟩] ++
  -- LINK_STAT: UP0, UP1, BAD_FRAMES, WINDOWS
  [⟨0x64, [], 1, .whole,
    [⟨0, 1, .ro, .v, 0, .plain⟩, ⟨1, 1, .ro, .v, 0, .plain⟩, ⟨8, 8, .rc, .v, 0, .plain⟩, ⟨16, 16, .rc, .v, 0, .plain⟩]⟩] ++
  -- WITNESS: BAY, STATE, FAILS
  [⟨0x40, [(7, 4)], 1, .whole,
    [⟨0, 6, .ro, .m, 0, .plain⟩, ⟨8, 3, .ro, .v, 0, .plain⟩, ⟨16, 8, .rc, .v, 0, .plain⟩]⟩]

/-- The registers of the LKP block, in the order of its field maps. -/
def regsLkp : List RegDef :=
  -- CORE_STAT: ACTIVE, SPARE, SWITCHES
  [⟨0x0, [], 1, .whole,
    [⟨0, 1, .ro, .k, 0, .plain⟩, ⟨1, 2, .ro, .k, 0, .plain⟩, ⟨3, 8, .rc, .v, 0, .plain⟩]⟩] ++
  -- DRILL_CFG: INTERVAL_H, DRILL_NOW
  [⟨0x4, [], 1, .whole,
    [⟨0, 8, .rw, .m, 24, .clamp 1 168⟩, ⟨8, 1, .wo, .v, 0, .plain⟩]⟩] ++
  -- DRILL_STAT: RESULT, DUR_MS, AGE_H
  [⟨0x8, [], 1, .whole,
    [⟨0, 3, .ro, .k, 0, .plain⟩, ⟨4, 12, .ro, .k, 0, .plain⟩, ⟨16, 16, .ro, .k, 0, .plain⟩]⟩]

/-- The block map (Table 22-1). -/
def blockMap : List BlockDef := [
  ⟨.glb, 0x0, 0xFFFFF, 1, 0x0, regsGlb⟩,
  ⟨.twp, 0x100000, 0x1FFFFF, 1, 0x0, regsTwp⟩,
  ⟨.pdl, 0x200000, 0x27FFFF, 48, 0x2000, regsPdl⟩,
  ⟨.wir, 0x280000, 0x2FFFFF, 1, 0x0, regsWir⟩,
  ⟨.clk, 0x300000, 0x3FFFFF, 1, 0x0, regsClk⟩,
  ⟨.ept, 0x400000, 0x4FFFFF, 1, 0x0, regsEpt⟩,
  ⟨.mft, 0x500000, 0x5FFFFF, 1, 0x0, regsMft⟩,
  ⟨.tal, 0x600000, 0x7FFFFF, 1, 0x0, regsTal⟩,
  ⟨.cnl, 0x800000, 0xBFFFFF, 1, 0x0, regsCnl⟩,
  ⟨.whf, 0xC00000, 0xCFFFFF, 1, 0x0, regsWhf⟩,
  ⟨.cip, 0xD00000, 0xDFFFFF, 1, 0x0, regsCip⟩,
  ⟨.slc, 0xE00000, 0xFFFFFF, 1, 0x0, regsSlc⟩,
  ⟨.brg, 0x1000000, 0x1FFFFFF, 256, 0x10000, regsBrg⟩,
  ⟨.tug, 0x2000000, 0x27FFFFF, 64, 0x20000, regsTug⟩,
  ⟨.net, 0x2800000, 0x2BFFFFF, 32, 0x20000, regsNet⟩,
  ⟨.drv, 0x2C00000, 0x2FFFFFF, 48, 0x10000, regsDrv⟩,
  ⟨.ary, 0x3000000, 0x33FFFFF, 16, 0x40000, regsAry⟩,
  ⟨.ldg, 0x3400000, 0x34FFFFF, 16, 0x1000, regsLdg⟩,
  ⟨.spb, 0x3500000, 0x35FFFFF, 1, 0x0, regsSpb⟩,
  ⟨.rsv, 0x3600000, 0x37FFFFF, 1, 0x0, regsRsv⟩,
  ⟨.aqd, 0x3800000, 0x38FFFFF, 1, 0x0, regsAqd⟩,
  ⟨.lkp, 0x3900000, 0x39FFFFF, 1, 0x0, regsLkp⟩]

end Sys2Proof.Machine
end

