-- ==== Sys2Proof/Config.lean ====
section
/-! DEFINITION. What a part fixes and the spec does not state: fused values, the standard cryptographic
functions by their arguments, and the free values. None has a body, so no proof sees a value. -/

namespace Sys2Proof

/-- Free values: the n-th value the device takes where the spec leaves the choice or the result open.
Drawn with the counter `State.free` (log entry 1). -/
opaque Config.freeNat : Nat → Nat

/-- GLB_SERIAL, fused at manufacture (R432). -/
opaque Config.fusedSerial : Word64
/-- The upper 40 bits of GLB_MAC_BASE, fused; the base is a multiple of 256 (R432). -/
opaque Config.fusedMac : BitVec 40

/-- XTS-AES-256 of IEEE 1619 over one 4 KiB data unit: 512-bit key, 128-bit tweak (R223). -/
opaque Config.xtsEncrypt : BitVec 512 → BitVec 128 → Block → Block
opaque Config.xtsDecrypt : BitVec 512 → BitVec 128 → Block → Block
/-- GCM-AES-256 of SP 800-38D: key, nonce, additional data, block (R224). -/
opaque Config.gcmEncrypt : BitVec 256 → BitVec 96 → Block → Block
opaque Config.gcmDecrypt : BitVec 256 → BitVec 96 → Block → Block
opaque Config.gcmTag : BitVec 256 → BitVec 96 → BitVec 512 → Block → BitVec 128
/-- The first 16 bytes of HMAC-SHA-256 under a key (R360), and the session key derivation (R359). -/
opaque Config.hmac : BitVec 256 → List Byte → BitVec 128
opaque Config.sessionKey : BitVec 256 → BitVec 128 → BitVec 128 → Nat → BitVec 256
/-- The response of DH-HMAC-CHAP to a challenge, under a secret, a hash function and a DH group (R40). -/
opaque Config.chapResponse : Nat → Nat → Nat → Nat → Nat
/-- The n-th 128-bit value drawn from the entropy source (R233, R359). -/
opaque Config.entropy : Nat → BitVec 128

/-- The AVS target of a part, in units of 5 mV, by its fused curve from its Tj in kelvin (R444). -/
opaque Config.avsCurve : Option Nat → Nat

/-- The 32 bytes of an event-log entry, whose layout is not given, from its kind, argument and time (Table 16-5; log
entry 8). -/
opaque Config.eventBytes : Nat → Nat → Nat → BitVec 256
/-- Version of the firmware image that the part came with, and of an image by its SHA-256 (GLB_FW_ACTIVE,
GLB_FW_STAGED). -/
opaque Config.fwVersion : BitVec 32
opaque Config.imageVersion : BitVec 256 → BitVec 32
/-- Whether the bytes of a staged image have the SHA-256 given and carry a good signature (FW_COMMIT, Table 16-5). -/
opaque Config.signatureOk : List Byte → BitVec 256 → Bool

end Sys2Proof
end

