-- ==== Sys2Proof/Machine/Types/Sluice.lean ====
section
/-! DEFINITION. State of the sluice: token buckets and schedulers (10_sluice.md). -/

namespace Sys2Proof.Machine

/-- A token bucket: what has been taken from a full one, as of a device time. In the units of its kind: 1/8000
byte for rates in Mb/s, 1/1000 byte for MB/s, a billionth of a command for commands per second. -/
structure Bucket where
  used : Nat
  last : Nat
  deriving DecidableEq, Repr, Inhabited

/-- A meter's two buckets: C, and E (srTCM) or P (trTCM) (R239). -/
structure Meter where
  c : Bucket
  e : Bucket
  deriving DecidableEq, Repr, Inhabited

/-- One DWRR group: deficits, and the member whose visit runs (R244). -/
structure Dwrr where
  deficit : Tab Nat
  cur : Option Nat
  deriving DecidableEq, Repr, Inhabited

/-- The schedulers of one port, or of one subscriber choice: native group, committed pass, excess pass
(R244 to R246). -/
structure Sched where
  nat : Dwrr
  com : Dwrr
  exc : Dwrr
  deriving DecidableEq, Repr, Inhabited

/-- The sluice. -/
structure Sluice where
  meter : Tab Meter
  nsb : Tab Bucket
  port : Tab Bucket
  cmax : Tab Bucket
  cmin : Tab Bucket
  subMin : Tab Bucket
  subMax : Tab Bucket
  lane : Tab Sched
  /-- By tug group, port and class: group × 1024 + port × 8 + class. -/
  sub : Tab Sched
  deriving DecidableEq, Repr, Inhabited

end Sys2Proof.Machine
end

