-- ==== Sys2Proof/Machine/Types/Canal.lean ====
section
/-! DEFINITION. State of the canal (05_canal_fabric.md) and of the wharf and lighter (08_wharf_cache.md). -/

namespace Sys2Proof.Machine

/-- A held cell: its copies not yet delivered, the device time of its entry, and the age limit in µs as it then stood
(R139, R145). -/
structure Slot where
  cell : Cell
  copies : List CellDst
  entered : Nat
  limit : Nat
  deriving DecidableEq, Repr, Inhabited

/-- A parity context (R130 to R133): how it was opened; for each offset its input map, its accumulators with the pound
slots they hold, and the time of its first fold with the age limit as it then stood; offsets emitted. -/
structure ParCtx where
  isOpen : Bool
  par : CtxOpen
  maps : Tab Nat
  acc : Tab (List (BitVec 2080))
  at_ : Tab (List Nat)
  first : Tab (Nat × Nat)
  emitted : Nat
  deriving DecidableEq, Repr, Inhabited

/-- What a discard notice and a cancel are about (R142, R143): the berth of FLOW, or the transfer of a TAG at a
destination. -/
structure FlowRef where
  flow : Option Nat
  dst : CellDst
  owner : CellOwner
  deriving DecidableEq, Repr, Inhabited

/-- A discard notice on its way (R142): what it names, the class of the cell, whether its cause is ECC or age, and the
block that sent the cell. -/
structure Notice where
  ref : FlowRef
  cls : Nat
  ecc : Bool
  src : Nat
  deriving DecidableEq, Repr, Inhabited

/-- The canal: held cells by slot (from 786,432 on in the spill area), destination queues by (attachment × 64 +
sub-key) × 8 + class, replication groups, parity contexts, notices and cancels, round-robin positions and deficits by
attachment, and a spill size that waits (R138). -/
structure Canal where
  slots : Tab Slot
  queues : Tab (List Nat)
  /-- Credits by queue × 128 + source, each with the accumulators it reserves; the source after the one served last,
  by queue (R123). -/
  credits : Tab (List Nat)
  creditTurn : Tab Nat
  /-- Sources whose cells a queue's withheld credits hold, with what of them waits (Table 5-4). -/
  stalled : Tab (List (Nat × Nat))
  /-- Classes that spill (R137), and classes above a CAP that a write has lowered (R136). -/
  spilling : Tab Bool
  capped : Tab Bool
  groups : Tab (List CellDst)
  ctx : Tab ParCtx
  notices : List Notice
  cancels : List Notice
  share : Tab Dwrr
  turn : Tab Nat
  /-- Frames that the sluice's scheduler has chosen at a quad and that have cells to come: their queues' sub-keys
  (R122). -/
  picked : Tab (List Nat)
  /-- Bay and TAG of cells for a drive that have been discarded (R144). -/
  lost : List (Nat × Nat)
  spillSize : Option Nat
  deriving DecidableEq, Repr, Inhabited

/-- A line of the wharf or the lighter (R196): the line's number A[37:7], dirty, the class that allocated it, and
whether an uncorrectable error lies in it while dirty (R213). -/
structure WLine where
  valid : Bool
  line : Nat
  dirty : Bool
  cls : Nat
  bad : Bool
  data : BitVec 1024
  deriving DecidableEq, Repr, Inhabited

/-- A line on its way: a fill from the reservoir, which may allocate, or a writeback to it, which may belong to the
range operation. -/
structure Flight where
  line : Nat
  fill : Bool
  alloc : Bool
  cls : Nat
  data : BitVec 1024
  maint : Bool
  deriving DecidableEq, Repr, Inhabited

/-- What waits at a line in order of arrival (R204, R206): an access, or the range operation. -/
inductive WOp
  | access (r : WharfReq)
  | maint (line : Nat)
  deriving DecidableEq, Repr, Inhabited

/-- The wharf: lines by set × 16 + way, pseudo-LRU bits by set, the lighter (oldest first), flights, what waits, the
range operation (0 CLEAN, 1 INVALIDATE, 2 CLEAN_INVALIDATE) with its writebacks, the next set of the cleaning walk,
and the dirty lines that a WHARF_DISCARD whose walk runs has lost. -/
structure Wharf where
  lines : Tab WLine
  plru : Tab Nat
  lighter : List WLine
  flights : List Flight
  waits : List WOp
  maint : Option (Nat × Nat)
  walk : Nat
  lost : Nat
  /-- Dirty data met an uncorrectable error since the start (R213, R396). -/
  ueDirty : Bool
  deriving DecidableEq, Repr, Inhabited

end Sys2Proof.Machine
end

