-- ==== Sys2Proof/Machine/Types/Drive.lean ====
section
/-! DEFINITION. State of the drive ports that DRV_STATE and its neighbours do not hold (12_drive_ports.md). -/

namespace Sys2Proof.Machine

/-- Where rung 3 of the ladder stands (Table 12-6): waiting for CSTS.RDY = 0, in the PERST_N pulse, training, waiting
for the power-cycled bay, in INIT. -/
inductive RungStep | none | ready | pulse | training | cycling | init
  deriving DecidableEq, Repr, Inhabited

/-- One bay port: PERST_N, the training windows, the ladder, the sideband poll. -/
structure BayPort where
  /-- PERST_N is released. -/
  released : Bool
  /-- PERST_N is held for 100 ms after power-good or a reset (Table 12-5). -/
  perstDue : Bool
  /-- Training windows that have passed without a link (Table 12-5), and the pulse between the two. -/
  windows : Nat
  pulse : Bool
  /-- Rung 3: its step, and whether it has power-cycled the bay (Table 12-6). -/
  step : RungStep
  cycled : Bool
  /-- Rung 3 may cycle the bay's power: PWRCYCLE_EN as the rung began (R289). -/
  mayCycle : Bool
  /-- A manifest has taken the power of the FAILED or REFUSED bay away (Table 12-5). -/
  repower : Bool
  /-- DRV_CFG as the bay last entered INIT (R289). -/
  cfg : Option Word32
  /-- Width mode that the last training took from DRV_GRP_CFG.MODE (R273). -/
  mode : Nat
  /-- Operations that timed out, and those that rung 2 or 3 removed from the drive: berth and operation (R280,
  R282). -/
  timedOut : List (Nat × Nat)
  removed : List (Nat × Nat)
  /-- Failed polls in a row, and device time of the last good one (R287). -/
  pollFails : Nat
  polledAt : Nat
  /-- A normal shutdown has been sent and not ended (R285). -/
  shutdown : Bool
  /-- Drive reads answered with Unsupported Request, drive writes discarded (R275), late completions discarded
  (R282). -/
  badReads : Nat
  badWrites : Nat
  late : Nat
  deriving DecidableEq, Repr, Inhabited

/-- Idle timers of an array's drives (R286): 0 running, 1 sent to PS1, 2 sent to PS2; DRV_IDLE_CFG as the timers last
restarted (R289). -/
structure IdleTimer where
  stage : Nat
  cfg : Option Word32
  deriving DecidableEq, Repr, Inhabited

end Sys2Proof.Machine
end

