-- ==== Sys2Proof/Machine/Types/Net.lean ====
section
/-! DEFINITION. State of the network ports beside the NET registers (11_network_ports.md). -/

namespace Sys2Proof.Machine

/-- A neighbour (R257): requests sent without answer, device time of its last confirmation. -/
structure Neighbour where
  port : Nat
  v6 : Bool
  addr : Nat
  asked : Nat
  confirmed : Option Nat
  deriving DecidableEq, Repr, Inhabited

/-- The ports' live state: bytes left of the frames in the receive buffer by (port × 8 + priority) × 16 + tug group, 8
for what no tug group takes, oldest first (the virtual output queues of Table 5-4; R258), uncorrected codewords and start of the
1 s window, the last retraining for degradation (R268), IPv6 addresses in duplicate detection with the entry each
is for, the neighbour cache, and IDLE_US of each port as it was last negotiated, 0 without EEE (R264, R270). -/
structure Net where
  rx : Tab (List Nat)
  uncorr : Tab Nat
  window : Tab Nat
  retrained : Tab (Option Nat)
  dad : List (Nat × AddrParams)
  neigh : List Neighbour
  eee : Tab Nat
  deriving DecidableEq, Repr, Inhabited

end Sys2Proof.Machine
end

