-- ==== Sys2Proof/Machine/Types/Out.lean ====
section
/-! DEFINITION. What the block sends out: everything that leaves at a pin, a lane or a link, in order. -/

namespace Sys2Proof.Machine

/-- Output pins the manual drives (23_electrical_package.md and the chapters of each interface). -/
inductive Pin
  | devFault | powerFault | perst (bay : Nat) | muxSel (group : Nat) | gateMain (bay : Nat) | gateAux (bay : Nat)
  | weirGate (feed : Nat) | railEnable (group : Nat)
  deriving DecidableEq, Repr, Inhabited

/-- Connection management messages (Table 3-1). -/
inductive CmMsg | rep | rej | dreq | drep
  deriving DecidableEq, Repr, Inhabited

/-- NAKs of Table 3-8, and that of standard RC for a missing PSN. -/
inductive Nak | remoteAccess | invalidRequest | sequence
  deriving DecidableEq, Repr, Inhabited

/-- The extension header of a packet (Table 3-5). -/
structure Cxh where
  final : Bool
  sack : Bool
  retx : Bool
  path : Nat
  msn : Nat
  idx : Nat
  deriving DecidableEq, Repr, Inhabited

/-- Acknowledgements, notifications and responses that the device sends on a reliable connection. -/
inductive RcOut
  /-- ACKNOWLEDGE: PSN, MSN, and the lowest missing PSN with the PSNs above it that have been received, where a
  hole exists (R74). -/
  | ack (psn msn : Nat) (sack : Option (Nat × List Nat))
  /-- The selective NAK of R74. -/
  | selectiveNak (base : Nat) (got : List Nat)
  | nak (n : Nak)
  /-- A CNP, with the path of the marked packet (R79). -/
  | cnp (path : Option Nat)
  /-- The responses to a READ: PKT_IDX counts on from 0 over its packets (R72). -/
  | readResponse (data : List Byte)
  | atomicResponse (old : Nat)
  deriving DecidableEq, Repr, Inhabited

/-- A message that the device hands to a queue pair to be sent; its packets follow as the window lets them go (R75). -/
inductive RcMsg
  /-- SEND with immediate and its payload (R86, R87, Table 3-10). -/
  | sendImm (imm : Nat) (payload : List Byte)
  /-- A staircase step: operation, bytes, remote address and key, immediate, FINAL, data (Table 3-10). -/
  | step (op len raddr rkey imm : Nat) (final : Bool) (data : List Byte)
  deriving DecidableEq, Repr, Inhabited

/-- What a TCP connection sends (R92): the SYN-ACK with MSS, window scale and ECN; an acknowledgement with its window, ECE
and SACK blocks; a PDU handed to the stream, with its header and data digests and its bytes; a segment of the stream,
sent again or not, with CWR; and the ends. -/
inductive TcpOut
  | synAck (mss scale : Nat) (ecn : Bool)
  | ack (n wnd : Nat) (ece : Bool) (sack : List (Nat × Nat))
  | icResp (hdgst ddgst : Bool)
  | pdu (hdgst ddgst : Bool) (len : Nat)
  | segment (seq len : Nat) (again cwr : Bool)
  | c2hTermReq (fes : Nat)
  | fin
  deriving DecidableEq, Repr, Inhabited

/-- Frames and link actions of a network port (11_network_ports.md). -/
inductive NetOut
  /-- PFC with a time for each priority (R259). -/
  | pfc (times : List (Nat × Nat))
  | pause (time : Nat)
  /-- Gratuitous ARP or unsolicited NA for an address (R257). -/
  | announce (v6 : Bool) (addr : Nat)
  /-- Answer to an ARP request or neighbour solicitation. -/
  | answer (v6 : Bool) (addr : Nat)
  /-- ARP request or neighbour solicitation, and unicast probe. -/
  | request (v6 : Bool) (addr : Nat)
  | probe (v6 : Bool) (addr : Nat)
  /-- Duplicate address detection begins for an address. -/
  | dad (addr : Nat)
  | echoReply (dst len : Nat)
  | train
  | down
  deriving DecidableEq, Repr, Inhabited

/-- Actions on a drive's controller or link (12_drive_ports.md). -/
inductive DriveAct
  /-- Abort of a timed-out command on an I/O queue, and deletion and recreation of the queue (Table 12-6). -/
  | abort (queue : Nat)
  | recreate (queue : Nat)
  /-- CC.EN := 0 (rung 3); CC.SHN := 01b (R285). -/
  | disable
  | shutdown
  /-- Set Features 02h (R286). -/
  | powerState (ps : Nat)
  /-- The link trains; it is taken down; it enters L1 (R283, R285). -/
  | train
  | linkDown
  | l1
  /-- Initialisation begins (R276). -/
  | init
  /-- Reservation key registered; preempt-and-abort against the partner's (R326, R328). -/
  | register
  | preempt
  /-- The ring or drive's answer to a memory access at an address: served, or Unsupported Request (R275); and the read of bytes of a
  discarded cell, which gets Completer Abort (R144). -/
  | memory (addr : Nat) (write ok : Bool)
  | abortRead (addr : Nat)
  deriving DecidableEq, Repr, Inhabited

/-- What leaves the device. Numbers name the object each constructor's docstring gives. -/
inductive Out
  /-- A register or window read answered: requester and value. -/
  | readData (who : Requester) (v : Nat)
  /-- A Completer Abort to the management host. -/
  | completerAbort
  /-- Bytes returned by a BAR2 read. -/
  | windowData (v : List Byte)
  /-- Bytes written to the management host's memory, from an address on (R376). -/
  | hostWrite (addr : Nat) (v : List Byte)
  /-- Reads of host memory, with at most `limit` requests outstanding (R376). -/
  | hostRead (addr len limit : Nat)
  /-- An MSI-X message. -/
  | msix (vec : Nat) (addr data : Nat)
  /-- A manifest receipt. -/
  | receipt (r : Receipt)
  /-- A response capsule: queue, CID, SQHD and status (R111). -/
  | response (qref cid sqhd : Nat) (st : Status)
  /-- Read data placed at the host: queue, CID, sectors. -/
  | readSectors (qref cid : Nat) (data : List Sector)
  /-- Bytes returned to the host by an admin or fabrics command. -/
  | adminData (qref cid : Nat) (data : List Byte)
  /-- Structured data returned: a command name and the numbers it carries. -/
  | adminInfo (qref cid : Nat) (what : Nat) (vals : List Nat)
  /-- A read of host data: RDMA READ, or R2T on TCP (R111). -/
  | fetchData (qref cid : Nat)
  /-- A drive operation issued: bay, member block, 0 read 1 write 2 write with FUA, I/O queue. -/
  | driveOp (bay blk kind queue : Nat)
  /-- A ledger segment written to a ring: bay, member block, blocks (R177). -/
  | segment (bay blk blocks : Nat)
  /-- A frame chosen on a lane: port, class, bytes (R243). -/
  | frameOut (port cls len : Nat)
  /-- A subscriber's packet chosen: tug group, port, class, node (R246). -/
  | subscriber (group port cls node : Nat)
  /-- An action on the drive of a bay. -/
  | driveCtl (bay : Nat) (a : DriveAct)
  /-- A connection management message to the peer of a queue pair or probation context. -/
  | cm (m : CmMsg) (qp : Nat) (args : List Nat)
  /-- An acknowledgement, notification or response on a queue pair, with the extension header where it has one (R72). -/
  | rc (qp : Nat) (x : Option Cxh) (p : RcOut)
  /-- A message handed to a queue pair. -/
  | rcMsg (qp : Nat) (m : RcMsg)
  /-- A packet of such a message, or of a response capsule, read data or fetch: queue pair, PSN, logical port, UDP source
  port, the extension header where the queue pair has one, and the key that a SEND invalidates (R72, R78, Table 3-3). -/
  | packet (qp psn port sport : Nat) (x : Option Cxh) (inval : Option Nat)
  | tcp (conn : Nat) (t : TcpOut)
  /-- A control frame or link action on a logical port (128 is the management lane). -/
  | net (port : Nat) (o : NetOut)
  /-- A level driven on a pin: `true` asserted. -/
  | pin (p : Pin) (level : Bool)
  /-- An AVSBus write of the VDD_CNL target, in units of 5 mV (R444). -/
  | avs (target : Nat)
  /-- A lease record written to a witness, by its index: state 0 FREE, 1 HELD, 2 RELEASED; epoch, RSEQ, REQ_SEQ
  (R322). -/
  | lease (witness state epoch rseq reqSeq : Nat)
  /-- A cell delivered at an attachment (R122). -/
  | cell (dst : CellDst) (c : Cell)
  /-- A source's cells held for want of credits, or `true` flowing again, in the way of its kind (Table 5-4): attachment,
  and the bay, berth or queue of it. -/
  | cellFlow (att unit : Nat) (flows : Bool)
  /-- A transfer that its block repeats after a discard (Table 5-7). -/
  | repeated (src : Nat) (tag : Nat)
  /-- A line given to a requester of the wharf (R199). -/
  | line (cls line : Nat) (v : BitVec 1024)
  /-- An event signalled to the lockkeeper firmware. -/
  | lockkeeper (what arg : Nat)
  deriving DecidableEq, Repr

end Sys2Proof.Machine
end

