-- ==== Sys2Proof/Machine/Types/Pair.lean ====
section
/-! DEFINITION. State of pairing, lease and lockkeeper pair (14_pairing.md) beside the AQD and LKP registers. -/

namespace Sys2Proof.Machine

/-- What a round of the lease unit is for (R322, R323, R327). -/
inductive RoundKind | renew | claim | release | yield
  deriving DecidableEq, Repr, Inhabited

/-- A round in progress: its record, when it began, the witnesses outstanding, and those won. -/
structure Round where
  kind : RoundKind
  record : Lease
  start : Nat
  pending : List Nat
  won : List Nat
  deriving DecidableEq, Repr, Inhabited

/-- Where a standby's claim stands (R327, Table 14-6): nothing, the two bollard reads, the 500 ms wait, a round,
the random wait, the wait of RECHECK_S. -/
inductive ClaimPhase | none | checking | waiting | round | backoff | recheck
  deriving DecidableEq, Repr, Inhabited

/-- A checkpoint window of the active (R319): KIND, first and last entry, READY received, image bytes
acknowledged. -/
structure CkptWindow where
  kind : Nat
  first : Nat
  last : Nat
  ready : Bool
  deriving DecidableEq, Repr, Inhabited

/-- Frames between partners (Table 14-2), with the fields that follow PAIR_ID and DEVICE. -/
inductive PeerFrame
  | heartbeat (role flags hseq epoch rseq ckptSeq health : Nat)
  | prompt (firstSeq : Nat) (entries : List MoorRec)
  | promptAck (seq : Nat)
  | windowReq (first last kind : Nat)
  | windowReady (held : Nat)
  | ckptEntries (firstSeq : Nat) (entries : List JEntry)
  | ckptImage (offset : Nat)
  | ckptAck (seq offset : Nat)
  | yield (epoch reqSeq : Nat)
  | prepare (action : Nat)
  | healthReq
  | healthRpt (result failed ppm age : Nat)
  | relay (inner : List Byte)
  | relayRcpt (total offset : Nat) (bytes : List Byte)
  deriving DecidableEq, Repr

/-- A spare-core drill in progress: the manifest that asked for it, and when it began. -/
structure Drill where
  hdr : Option Hdr
  start : Nat
  deriving DecidableEq, Repr, Inhabited

/-- Pairing. -/
structure Pairing where
  hseq : Nat
  /-- FENCED is sent in heartbeats (R317). -/
  sendFenced : Bool
  /-- What heartbeats of the partner showed: ROLE, EPOCH, RSEQ, CKPT_SEQ, BAYS_UP, and whether one has been heard
  since the listen began. -/
  pRole : Nat
  pEpoch : Nat
  pRseq : Nat
  pCkpt : Nat
  heardSince : Bool
  /-- Last observed renewal: epoch, RSEQ, device time; the records need no wait; highest REQ_SEQ read (R327). -/
  obsEpoch : Nat
  obsRseq : Nat
  obsAt : Nat
  noWait : Bool
  reqSeen : Nat
  /-- Records last read or written, by witness index. -/
  records : Tab Lease
  /-- RSEQ of this holder's last round and of the last that succeeded, and the start of that. -/
  rseq : Nat
  rseqOk : Nat
  tOk : Nat
  /-- Epoch this device held when it last fenced itself (R302, R317). -/
  fenceEpoch : Nat
  round : Option Round
  claim : ClaimPhase
  attempts : Nat
  /-- The first of two bollard reads, highest epoch and RSEQ (Table 14-6). -/
  firstRead : Option (Nat × Nat)
  force : Bool
  /-- Prompt entries not yet acknowledged (R318), outputs and receipts held for an entry's acknowledgement. -/
  prompts : List JEntry
  held : List (Nat × Out)
  heldRcpt : List (Nat × Hdr × Receipt)
  /-- Entries kept for the standby, at most 65,536, and the highest acknowledged by CKPT_ACK (R320). -/
  kept : List JEntry
  ckptAcked : Nat
  /-- Highest entry sent, and highest acknowledged on any path (Table 14-3, Table 14-12); prompt and manifest entries
  not yet acknowledged (R323); arrays whose new ledger pair table is not yet acknowledged, with the entry (R318). -/
  sentSeq : Nat
  ackHi : Nat
  reqs : List Nat
  pairTables : List (Nat × Nat)
  window : Option CkptWindow
  /-- Full resync in progress: bytes acknowledged and the image's length (R320). -/
  resync : Option (Nat × Nat)
  /-- The standby's receive path is powered (R319). -/
  rxOpen : Bool
  /-- PARTNER_HEALTH and PARTNER_RELAY that wait, with the inner receipt's bytes. -/
  healthFor : Option Hdr
  relayFor : Option (Hdr × List Byte)
  relayGot : Tab Byte
  relayTotal : Nat
  /-- Last report of the own check: RESULT, FAILED, OSC_PPM, device time. -/
  check : Nat × Nat × Nat × Nat
  /-- A planned takeover drains (R329). -/
  draining : Bool
  /-- PREPARE has been taken (R329). -/
  prepared : Bool
  /-- A takeover in progress: start and CAUSE (AQD_TKO_STAT). -/
  tko : Option (Nat × Nat)
  /-- The 50 ms listen runs ("Start of a pair"); this device is the candidate. -/
  listening : Bool
  /-- Enables issued at takeover start have not all settled (R302). -/
  baysDue : Bool
  /-- A fenced device has still to lower its paddle gates; it has, and holds them low (R302). -/
  lowering : Bool
  lowered : Bool
  /-- The lockkeeper core has failed and no spare could resume (R332, R393). -/
  lkDown : Bool
  /-- Device time of the last lockkeeper checkpoint; the drill in progress and when the last one ended. -/
  lkCkpt : Nat
  drill : Option Drill
  lastDrill : Option Nat
  deriving DecidableEq, Repr

end Sys2Proof.Machine
end

