-- ==== Sys2Proof/Machine/Types/Shelf.lean ====
section
/-! DEFINITION. State of the paddles and weirs that their registers do not hold (13_paddles_weirs.md). -/

namespace Sys2Proof.Machine

/-- A rail of a bay (R290). -/
inductive Rail | aux | main
  deriving DecidableEq, Repr, Inhabited

/-- What one paddle holds beside PDL_STATE, PDL_FAULT and its settings: its gates, whether each rail is at
its limit, the gate checks that have passed, the shared fault timer (R291, R295), the retry timer (R298), a
power-off in progress (Table 13-1), and the times at which two of its conditions began. -/
structure Paddle where
  gateAux : Bool
  gateMain : Bool
  limAux : Bool
  limMain : Bool
  enhAux : Bool
  enhMain : Bool
  faultTimer : Bool
  retryTimer : Bool
  /-- Main rail off, auxiliary rail still to follow (Table 13-1, disable). -/
  auxOffDue : Bool
  /-- A cycle command's off time is running (Table 13-1, cycle). -/
  cycleOff : Bool
  /-- Device time at which bay power-good last asserted (R298, 60 s). -/
  pgSince : Nat
  deriving DecidableEq, Repr, Inhabited

/-- What one weir holds beside WIR_STATE: whether its FETs conduct (R304, R305). -/
structure Weir where
  conducting : Bool
  deriving DecidableEq, Repr, Inhabited

/-- The shelf power part of the towpath die. -/
structure Shelf where
  paddle : Tab Paddle
  /-- Bays waiting to ramp, oldest first (R294). -/
  queue : List Nat
  /-- Device time at which the last ramp started; 0 before the first (R294). -/
  lastRamp : Nat
  ramped : Bool
  weir : Tab Weir
  /-- Device time at which the last drill was made, from which WIR_DRILL.AGE_H counts (Table 13-11). -/
  lastDrill : Option Nat
  deriving DecidableEq, Repr, Inhabited

end Sys2Proof.Machine
end

