-- ==== Sys2Proof/Machine/Types/Tally.lean ====
section
/-! DEFINITION. State of the tally (19_tally.md) beside its registers. -/

namespace Sys2Proof.Machine

/-- The tally: counters, window accumulators, the counters whose accumulation has begun, the dump sequence, the
SEQ of the last record with FIRST, and what the next record carries. -/
structure Tally where
  cnt : Tab Nat
  acc : Tab Nat
  armed : Tab Bool
  seq : Nat
  s0 : Nat
  first : Bool
  resumed : Bool
  lostNext : Nat
  /-- TIME of the last latch. -/
  time : Nat
  /-- A record is being written: its address and its bytes as latched. -/
  busy : Bool
  at_ : Nat
  rec_ : List Byte
  /-- FLAGS and LOST of that record, and TAL_DUMP_CFG as of its tick (R410, R412). -/
  carries : Nat × Nat
  cfg : Word32
  /-- Base, slots and set in force (R411). -/
  base : Nat
  slots : Nat
  set : List Nat
  deriving DecidableEq, Repr, Inhabited

end Sys2Proof.Machine
end

