-- ==== Sys2Proof/Machine/Types/Tug.lean ====
section
/-! DEFINITION. State of queue pairs, probation contexts, TCP connections, dock windows and staircases
(03_tug_transport.md). -/

namespace Sys2Proof.Machine

/-- States of a queue pair (Table 3-1). -/
inductive QpState | free | probation | rts | error | draining
  deriving DecidableEq, Repr, Inhabited

/-- A message being received (R73, R76): its operation, the packets placed, the index of its last packet once
that has come, its immediate and first word, the dock key and address it was accepted for, and what it carries. -/
structure RxMsg where
  msn : Nat
  op : PktOp
  got : List Nat
  last : Option Nat
  imm : Option Nat
  word : Option Nat
  final : Bool
  rkey : Nat
  va : Nat
  len : Nat
  operand : Nat
  compare : Nat
  capsule : Option Capsule
  frame : FrameInfo
  delivered : Bool
  /-- The payload bytes by offset (R73). -/
  data : Tab Byte
  /-- Accepted for the window that its key names (R85, R89), and its place among the messages accepted there (R87). -/
  dock : Bool
  acc : Nat
  /-- The receive buffer of a SEND, once every message of a lower MSN has begun to come (R76). -/
  buf : Option Nat
  deriving DecidableEq, Repr, Inhabited

/-- What a READ request of the device's own is for: a berth's write data, or a step of a staircase. -/
inductive ReadTag | fetch (berth : Nat) | step (key step : Nat)
  deriving DecidableEq, Repr, Inhabited

/-- A message that waits on a queue pair to be sent, wholly or in part (R75): its MSN, its packets and how many of them
have left, FINAL (R76), the key that its SEND invalidates (Table 3-3), and what a READ is for. -/
structure TxMsg where
  msn : Nat
  n : Nat
  next : Nat
  final : Bool
  inval : Option Nat
  read : Option ReadTag
  deriving DecidableEq, Repr, Inhabited

/-- A packet sent and not yet acknowledged: PSN, path, marked received by the latest SACK (R75), its message, its index
there, FINAL, the PSNs that it takes (a READ's, those of its responses), and what a READ is for. -/
structure TxPkt where
  psn : Nat
  path : Nat
  sacked : Bool
  msn : Nat
  idx : Nat
  final : Bool
  inval : Option Nat
  span : Nat
  read : Option ReadTag
  deriving DecidableEq, Repr, Inhabited

/-- What a queue pair takes from the TUG registers when it is created (R94). -/
structure QpCfg where
  ackEvery : Nat
  pathFail : Nat
  retryCnt : Nat
  rnrRetry : Nat
  respRes : Nat
  initDepth : Nat
  sportBase : Nat
  reorder : Nat
  deriving DecidableEq, Repr, Inhabited

/-- A path of a sprayed queue pair (R78, R80): what its weight lacks of 8, consecutive retransmissions, down. -/
structure Path where
  short : Nat
  fails : Nat
  down : Bool
  deriving DecidableEq, Repr, Inhabited

/-- A queue pair: an entry of the QP table (Table 3-2), or a probation context. -/
structure Qp where
  state : QpState
  relaxed : Bool
  spray : Bool
  v6 : Bool
  pmtu : Nat
  npaths : Nat
  winLog2 : Nat
  /-- Transport is enabled (Table 3-1, PROBATION). -/
  enabled : Bool
  port : Nat
  src : Addr
  host : Nat
  cntlid : Nat
  qid : Nat
  dqpn : Nat
  spsn : Nat
  epsn : Nat
  smsn : Nat
  rmsn : Nat
  acked : Nat
  sprayCtx : Option Nat
  /-- PSNs received above E (R73). -/
  above : List Nat
  msgs : List RxMsg
  /-- Packets received since the last acknowledgement (R74). -/
  sinceAck : Nat
  /-- Device time of the last CNP sent (R79). -/
  lastCnp : Option Nat
  /-- Rate control (R80), in kb/s. -/
  rate : Nat
  line : Nat
  mem : Nat
  stage : Nat
  lastCut : Option Nat
  paths : Tab Path
  sent : List TxPkt
  /-- Messages that wait to be sent, oldest first (R75). -/
  sendQ : List TxMsg
  cfg : QpCfg
  /-- Receive buffers that SENDs have consumed (R76). -/
  bufs : Nat
  /-- Retries of the local ACK timeout and of RNR, of the oldest unacknowledged packet (R75, R90). -/
  retries : Nat
  rnr : Nat
  /-- DREQs sent; the flush is complete; the DREP has come (Table 3-1). -/
  dreqs : Nat
  flushed : Bool
  drep : Bool
  /-- Messages accepted for a window before its revocation, and windows that have died since (R89). -/
  stale : List Nat
  deriving DecidableEq, Repr, Inhabited

/-- A TCP segment sent and not yet acknowledged: position, bytes, sent again, marked received by a SACK, given up by a
timeout (RFC 6675). -/
structure TxSeg where
  seq : Nat
  len : Nat
  again : Bool
  sacked : Bool
  lost : Bool
  deriving DecidableEq, Repr, Inhabited

/-- What a connection takes from the TUG registers when it is created (R94). -/
structure ConnCfg where
  rwnd : Nat
  delack : Nat
  maxRetx : Nat
  deriving DecidableEq, Repr, Inhabited

/-- One TCP connection (R92): open, ICReq answered with the header and data digests it asked for, receive and send
positions, segments held out of order, retransmissions of the oldest segment, unacknowledged received segments,
closing. -/
structure Conn where
  isOpen : Bool
  ready : Bool
  hdgst : Bool
  ddgst : Bool
  port : Nat
  dport : Nat
  src : Addr
  rcvNxt : Nat
  ooo : List (Nat × Nat × List (Bool × Option Capsule))
  sndUna : Nat
  sndNxt : Nat
  /-- The end of the bytes handed over to be sent. -/
  sndEnd : Nat
  retx : Nat
  delack : Nat
  closing : Bool
  /-- Largest segment sent (Table 11-2). -/
  mss : Nat
  cfg : ConnCfg
  /-- Window scaling: shift of the windows received and of those sent (Table 3-14); the peer's window in bytes. -/
  peerScale : Nat
  ownScale : Nat
  peerWnd : Nat
  /-- Segments in flight, and congestion control (RFC 5681, RFC 6675): window, threshold, duplicate acknowledgements,
  and the end of the recovery under way. -/
  segs : List TxSeg
  cwnd : Nat
  ssthresh : Nat
  dups : Nat
  recover : Option Nat
  /-- ECN negotiated (RFC 3168): a mark to be echoed, CWR to be sent, and the end of the window last reduced for one. -/
  ecn : Bool
  echo : Bool
  cwr : Bool
  cwrEnd : Option Nat
  deriving DecidableEq, Repr, Inhabited

/-- Types of dock window (Table 3-11). -/
inductive WinType | data | bank | stairs
  deriving DecidableEq, Repr, Inhabited

/-- States of a dock window (R84, R85, R89). -/
inductive WinState | dead | valid | revoking
  deriving DecidableEq, Repr, Inhabited

/-- A dock window: its memory begins at `base` of the reservoir (DATA) or of the dock banks. `tag` is the
COMMIT_TAG, or the tag of a STAIRS window. -/
structure DockWin where
  state : WinState
  kind : WinType
  host : Nat
  size : Nat
  rd : Bool
  wr : Bool
  atomics : Bool
  bind : Option (Nat × Nat)
  tag : Nat
  gen : Nat
  base : Nat
  serial : Nat
  /-- WRITEs accepted so far, the commits among them (R87). -/
  commits : Nat
  /-- The end of the drain, by the limit at the revocation point (R89, R94). -/
  drainEnd : Nat
  /-- Messages accepted and not yet complete: QP table entry and MSN (R89). -/
  accepted : List (Nat × Nat)
  deriving DecidableEq, Repr, Inhabited

/-- A staircase step (Table 3-10). -/
structure StairStep where
  op : Nat
  wait : Bool
  final : Bool
  signal : Bool
  len : Nat
  laddr : Nat
  raddr : Nat
  rkey : Nat
  imm : Nat
  deriving DecidableEq, Repr, Inhabited

/-- A staircase (R81 to R83): its QP, key, steps; the step that starts next while it runs, the steps issued and not yet
complete, an arming held, the step it failed at, and whether the firmware installed it behind a dock commit. -/
structure Stair where
  qp : Nat
  key : Nat
  rearm : Bool
  steps : List StairStep
  running : Option Nat
  issued : List Nat
  held : Bool
  faulted : Option Nat
  firm : Bool
  deriving DecidableEq, Repr, Inhabited

/-- The transport part of the device. Queue pairs 0 to 65,535 are the QP table; 65,536 + p is probation context
p. Staircases stand by group, at most 1,024 each. -/
structure Tugs where
  qp : Tab Qp
  conn : Tab Conn
  win : Tab DockWin
  stairs : Tab (List Stair)
  /-- Packets in process at each tug, by the queue pair or connection they belong to, oldest first (R65). -/
  inbox : Tab (List Nat)
  deriving DecidableEq, Repr, Inhabited

end Sys2Proof.Machine
end

