-- ==== Sys2Proof/Machine/State.lean ====
section
/-! DEFINITION. The state of the device, its value after reset, and the two ways a step can stop. -/

namespace Sys2Proof.Machine

/-- Why a step faults. No command of this device faults: everything the spec names has an effect, an
answer or no effect, so the type is empty. -/
inductive Fault
  deriving DecidableEq, Repr

/-- Why a step is refused. -/
inductive Refusal
  /-- Raised by an arm of `exec` whose command has no meaning yet. Safe: the step stops. -/
  | notModelled (mnemonic : String)
  deriving DecidableEq, Repr

/-- The device. -/
structure State where
  /-- Register store: a register that is unlisted holds its start value (R17, R381). -/
  regs : Tab Word32
  /-- HI latches, one per requester and block: LO offset plus one, latched half (R19, R421). -/
  latch : Tab (Nat × Nat)
  /-- LO halves held until HI is written (R19), by LO offset. -/
  loHeld : Tab (Option Nat)
  mrd : Moored
  store : Store
  fw : Firmware
  rst : Rst
  pwr : Pwr
  mft : Mft
  ept : Ept
  shelf : Shelf
  host : HostFace
  brg : Barge
  tug : Tugs
  tal : Tally
  net : Net
  pair : Pairing
  /-- Frames sent to the partner, oldest first: on the aqueduct or on the sideband (R316). The model's own field. -/
  peerOut : List (Bool × PeerFrame)
  ary : Tab ArrRun
  cip : Cipher
  slc : Sluice
  cnl : Canal
  whf : Wharf
  /-- The reservoir, by byte address (R196; dock DATA windows, 03_tug_transport.md). -/
  res : Tab Byte
  port : Tab BayPort
  /-- Idle timers of the arrays' drives (R286). -/
  idle : Tab IdleTimer
  /-- The drives in the bays; surroundings. -/
  drives : Tab Drive
  /-- Drives that have left their bays; surroundings. -/
  away : List Drive
  /-- What has left the device, oldest first. The model's own field. -/
  out : List Out
  /-- Commands that wait, oldest first. The model's own field. -/
  pending : List Instr
  /-- Device time in ns since power-on, in 40 ns steps (R419). -/
  now : Nat
  /-- GLB_TIME minus `now` (R432, TIME_SET). -/
  timeBase : Int
  /-- How many free values have been taken. The model's own field. -/
  free : Nat
  deriving DecidableEq, Repr

/-- The device just after power-on: towpath supplies applied, nothing moored yet, every register at its
power-on or factory value, every table empty (Table 18-3, Table 18-6). -/
def State.reset : State where
  regs := []
  latch := []
  loHeld := []
  mrd := default
  store := default
  fw := default
  rst := default
  pwr := default
  mft := default
  ept := default
  shelf := default
  host := default
  brg := default
  tug := default
  tal := default
  net := default
  pair := {
    hseq := 0, sendFenced := false, pRole := 0, pEpoch := 0, pRseq := 0, pCkpt := 0, heardSince := false
    obsEpoch := 0, obsRseq := 0, obsAt := 0, noWait := false, reqSeen := 0, records := [], rseq := 0, rseqOk := 0
    tOk := 0, fenceEpoch := 0, sentSeq := 0, ackHi := 0, reqs := [], pairTables := []
    round := none, claim := .none, attempts := 0, firstRead := none, force := false, prompts := [], held := []
    heldRcpt := [], kept := [], ckptAcked := 0, window := none, resync := none, rxOpen := false
    healthFor := none, relayFor := none, relayGot := [], relayTotal := 0, check := (0, 0, 0, 0)
    draining := false, prepared := false, tko := none, listening := false, baysDue := false, lowering := false
    lowered := false, lkDown := false, lkCkpt := 0, drill := none, lastDrill := none }
  peerOut := []
  ary := []
  cip := default
  slc := default
  cnl := default
  whf := default
  res := []
  port := []
  idle := []
  drives := []
  away := []
  out := []
  pending := []
  now := 0
  timeBase := 0
  free := 0

end Sys2Proof.Machine
end

