-- ==== Sys2Proof/Machine/Regs.lean ====
section
/-! DEFINITION. Reading and writing the fields of registers from inside the device. What a requester on the
register bus sees is in Machine/RegBus.lean. -/

namespace Sys2Proof.Machine

/-- The block whose range holds offset `a` (Table 22-1). -/
def findBlock (a : Nat) : Option BlockDef :=
  blockMap.find? fun b => decide (b.base ≤ a) && decide (a ≤ b.last)

/-- The register at offset `a`; none where the map assigns none (R18, R430). -/
def findReg (a : Nat) : Option RegDef :=
  match findBlock a with
  | none => none
  | some b =>
    let st := if b.stride = 0 then b.last + 1 - b.base else b.stride
    let i := (a - b.base) / st
    if i < b.count then b.regs.find? fun r => r.hit i ((a - b.base) % st) else none

/-- What the register at `a` holds at power-on, or from the factory (R381). -/
def regStart (a : Nat) : Word32 :=
  match findReg a with
  | none => 0
  | some r => r.start

/-- The register at offset `a` as the device holds it. -/
def State.reg (s : State) (a : Nat) : Word32 := Tab.getD regStart s.regs a

/-- The register at offset `a` set to `v`. -/
def State.setReg (s : State) (a : Nat) (v : Word32) : State :=
  { s with regs := Tab.setD regStart s.regs a v }

/-- A field's value. -/
def State.fld (s : State) (f : Fld) : Nat := bitsOf (s.reg f.addr).toNat f.lo f.w

/-- A one-bit field's value. -/
def State.flag (s : State) (f : Fld) : Bool := s.fld f == 1

/-- A field set to the low bits of `v`; the register's other bits stay. -/
def State.setFld (s : State) (f : Fld) (v : Nat) : State :=
  s.setReg f.addr (BitVec.ofNat 32 (setBits (s.reg f.addr).toNat f.lo f.w v))

/-- A one-bit field set to `b`. -/
def State.setFlag (s : State) (f : Fld) (b : Bool) : State := s.setFld f b.toNat

/-- A field set to 1. -/
def State.raise (s : State) (f : Fld) : State := s.setFld f 1

/-- A counter field advanced by `n`, saturating at all ones. -/
def State.count (s : State) (f : Fld) (n : Nat) : State :=
  s.setFld f (min (s.fld f + n) (2 ^ f.w - 1))

/-- The bits of the register that are moored (R381). -/
def RegDef.mooredBits (r : RegDef) (v : Word32) : Word32 :=
  r.fields.foldl (fun x f => if f.cls = .m then f.put x (f.of v) else x) 0

/-- `x` with the moored fields of `r` taken from `v`. -/
def RegDef.restore (r : RegDef) (x v : Word32) : Word32 :=
  r.fields.foldl (fun y f => if f.cls = .m then f.put y (f.of v) else y) x

/-- Some field of the register is moored. -/
def RegDef.moored (r : RegDef) : Bool := r.fields.any fun f => f.cls == .m

end Sys2Proof.Machine
end

