-- ==== Sys2Proof/Machine/Ops.lean ====
section
/-! DEFINITION. The operations that every block shares: outputs, free values, moored changes (R381 to R383),
interrupts (R375), the event log and the global fault (R396). -/

namespace Sys2Proof.Machine

/-- The element of a list with the least key, the first among equals. -/
def leastBy (f : Nat → Nat) : List Nat → Option Nat
  | [] => none
  | x :: l => some (l.foldl (fun m y => if f y < f m then y else m) x)

/-- Version of the firmware that runs. -/
def Firmware.running (f : Firmware) : Nat := f.activeVersion.getD Config.fwVersion.toNat

/-- What a command ends in. -/
abbrev Result := Host.Outcome State Fault Refusal

/-- One output, after those already sent. -/
def State.emit (s : State) (o : Out) : State := { s with out := s.out ++ [o] }

/-- The next free value (log entry 1). -/
def State.freeVal (s : State) : Nat := Config.freeNat s.free

/-- The next free value is used up. -/
def State.tick (s : State) : State := { s with free := s.free + 1 }

/-- The device timestamp in ns (R419, R432). -/
def State.stamp (s : State) : Nat := (s.now + s.timeBase).toNat

def State.updShelf (s : State) (f : Shelf → Shelf) : State := { s with shelf := f s.shelf }
def State.updHost (s : State) (f : HostFace → HostFace) : State := { s with host := f s.host }
def State.updBrg (s : State) (f : Barge → Barge) : State := { s with brg := f s.brg }
def State.updMft (s : State) (f : Mft → Mft) : State := { s with mft := f s.mft }
def State.updEpt (s : State) (f : Ept → Ept) : State := { s with ept := f s.ept }
def State.updPwr (s : State) (f : Pwr → Pwr) : State := { s with pwr := f s.pwr }
def State.updRst (s : State) (f : Rst → Rst) : State := { s with rst := f s.rst }
def State.updStore (s : State) (f : Store → Store) : State := { s with store := f s.store }
def State.updMrd (s : State) (f : Moored → Moored) : State := { s with mrd := f s.mrd }
def State.updTug (s : State) (f : Tugs → Tugs) : State := { s with tug := f s.tug }
def State.updPeer (s : State) (f : Pairing → Pairing) : State := { s with pair := f s.pair }
def State.updNet (s : State) (f : Net → Net) : State := { s with net := f s.net }
def State.updTal (s : State) (f : Tally → Tally) : State := { s with tal := f s.tal }
def State.updCip (s : State) (f : Cipher → Cipher) : State := { s with cip := f s.cip }
def State.updPort (s : State) (b : Nat) (f : BayPort → BayPort) : State := { s with port := s.port.upd b f }
def State.updAry (s : State) (a : Nat) (f : ArrRun → ArrRun) : State := { s with ary := s.ary.upd a f }

/-- An engine, a berth, an engine's tow line changed. -/
def State.updEng (s : State) (e : Nat) (f : Engine → Engine) : State :=
  s.updBrg fun g => { g with eng := g.eng.upd e f }
def State.updBerth (s : State) (b : Nat) (f : Berth → Berth) : State :=
  s.updBrg fun g => { g with berth := g.berth.upd b f }

/-- Engine and berth. -/
def State.eng (s : State) (e : Nat) : Engine := s.brg.eng.get e
def State.berth (s : State) (b : Nat) : Berth := s.brg.berth.get b

/-- Berths that meet `p`, by number. -/
def State.berths (s : State) (p : Berth → Bool) : List Nat := s.brg.berth.keysWhere fun _ b => p b

/-- Admission is stopped: a planned takeover or a warm restart drains, a power-state entry or exit runs, or the device
is in P2 or deeper (R329, R343, R392). -/
def State.frozen (s : State) : Bool :=
  s.pair.draining || s.rst.draining || (s.pwr.stage != .none && decide (2 ≤ s.fld Fld.TWP_PWR_STATE_TARGET)) ||
    decide (2 ≤ s.fld Fld.TWP_PWR_STATE_CUR)

/-- Tally counters that are enabled for an event and instance, with their modes (R399). -/
def State.watchers (s : State) (code inst : Nat) : List (Nat × Nat) :=
  s.regs.filterMap fun e =>
    let v := e.2.toNat
    if 0x610000 ≤ e.1 ∧ e.1 < 0x618000 ∧ e.1 % 8 = 0 ∧ bitsOf v 0 9 = code ∧ bitsOf v 9 15 = inst ∧
        v.testBit 31 then some ((e.1 - 0x610000) / 8, bitsOf v 24 2) else none

/-- A count event of Table 19-1 reaches the tally: EVENT counters add the amount, WINDOW accumulators that have
begun too (R401). -/
def State.tally (s : State) (code inst amount : Nat) : State :=
  (s.watchers code inst).foldl (fun s w => s.updTal fun t =>
    if w.2 = 0 then { t with cnt := t.cnt.set w.1 ((t.cnt.get w.1 + amount) % 2 ^ 64) }
    else if w.2 = 2 ∧ t.armed.get w.1 then { t with acc := t.acc.set w.1 (t.acc.get w.1 + amount) }
    else t) s

/-- The moored tables with one record in force (R382, R385). A register record is not a table's. -/
def MoorRec.toTables (r : MoorRec) (m : Moored) : Moored :=
  match r with
  | .reg _ _ => m
  | .host i e => { m with hosts := m.hosts.set i e }
  | .subsys i e => { m with subsys := m.subsys.set i e }
  | .ns i e => { m with ns := m.ns.set i e }
  | .arr i e => { m with arr := m.arr.set i e }
  | .marks i l => { m with marks := m.marks.set i l }
  | .pool i l => { m with pools := m.pools.set i l }
  | .key i e => { m with keys := m.keys.set i e }
  | .wrapped _ _ _ => m
  | .mkey i k => { m with mkeys := m.mkeys.set i k }
  | .pairKey k => { m with pairKey := k }
  | .partner n => { m with partner := n }
  | .addr i e => { m with addr := m.addr.set i e }
  | .acl i e => { m with acl := m.acl.set i e }
  | .disc i v => { m with disc := m.disc.set i v }
  | .src i e => { m with src := m.src.set i e }

/-- The registers with one record in force: its register takes the record's moored fields. -/
def MoorRec.toRegs (r : MoorRec) (t : Tab Word32) : Tab Word32 :=
  match r with
  | .reg a v =>
    match findReg a with
    | none => t
    | some d => Tab.setD regStart t a (d.restore (Tab.getD regStart t a) v)
  | _ => t

/-- Two records change the same field or table entry, so the later covers the earlier (R383). -/
def MoorRec.same : MoorRec → MoorRec → Bool
  | .reg a _, .reg b _ => a == b
  | .host i _, .host j _ => i == j
  | .subsys i _, .subsys j _ => i == j
  | .ns i _, .ns j _ => i == j
  | .arr i _, .arr j _ => i == j
  | .marks i _, .marks j _ => i == j
  | .pool i _, .pool j _ => i == j
  | .key i _, .key j _ => i == j
  | .wrapped _ i _, .wrapped _ j _ => i == j
  | .mkey i _, .mkey j _ => i == j
  | .pairKey _, .pairKey _ => true
  | .partner _, .partner _ => true
  | .addr i _, .addr j _ => i == j
  | .acl i _, .acl j _ => i == j
  | .disc i _, .disc j _ => i == j
  | .src i _, .src j _ => i == j
  | _, _ => false

/-- The change waits for the journal under the next CKPT_SEQ, coalesced with an earlier one to the same
field that still waits (R383). -/
def Store.take (t : Store) (r : MoorRec) : Store :=
  { t with seq := t.seq + 1
           waiting := (t.waiting.filter fun e => !(e.change.same r)) ++ [⟨t.seq + 1, r, true⟩] }

/-- Roles of Table 14-1 (AQD_ROLE.ROLE), and AQD_PARTNER.STATE. -/
def State.role (s : State) : Nat := s.fld Fld.AQD_ROLE_ROLE
def State.isSolo (s : State) : Bool := s.role == 0
def State.isActive (s : State) : Bool := s.role == 1
def State.isStandby (s : State) : Bool := s.role == 2
def State.partnerAlive (s : State) : Bool := s.fld Fld.AQD_PARTNER_STATE == 1

/-- Paths between partners that are up: the sideband always, the aqueduct with either lane (R315, R316). -/
def State.aqdUp (s : State) : Bool := s.flag Fld.AQD_LINK_STAT_UP0 || s.flag Fld.AQD_LINK_STAT_UP1

/-- A frame on one path, and on every path that is up. -/
def State.sendPeer (s : State) (aqd : Bool) (f : PeerFrame) : State := { s with peerOut := s.peerOut ++ [(aqd, f)] }
def State.sendPeers (s : State) (f : PeerFrame) : State :=
  if s.aqdUp then (s.sendPeer false f).sendPeer true f else s.sendPeer false f

/-- The device's changes while it serves hosts travel at once in PROMPT frames (Table 14-4): array records. -/
def MoorRec.prompts : MoorRec → Bool
  | .arr _ _ | .marks _ _ => true
  | _ => false

/-- Changes that belong to one device of a pair and not to what it serves: role, partner, checkpoint and takeover
registers, the partner's serial (log entry 43), and the pair key, which management software loads into both (R222). -/
def MoorRec.own : MoorRec → Bool
  | .reg a _ => a == Fld.AQD_ROLE_ROLE.addr || a == Fld.AQD_PARTNER_STATE.addr || a == Fld.AQD_TKO_STAT_COUNT.addr ||
      a == Fld.AQD_CKPT_SEQ_LO_SEQ.addr || a == Fld.AQD_CKPT_SEQ_HI_SEQ.addr
  | .partner _ | .pairKey _ => true
  | _ => false

/-- An entry an active keeps for its standby; a prompt one is sent at once while the partner is heard (R318,
R320). -/
def State.shadow (s : State) (r : MoorRec) (prompt : Bool) : State :=
  if !s.isActive || r.own then s
  else
    let e : JEntry := ⟨s.store.seq, r, true⟩
    let s := s.updPeer fun p => { p with kept := (p.kept ++ [e]).drop (p.kept.length + 1 - 65536) }
    let s := if prompt then s.updPeer fun p => { p with reqs := p.reqs ++ [e.seq] } else s
    if prompt && s.partnerAlive then
      (s.updPeer fun p => { p with prompts := p.prompts ++ [e], sentSeq := e.seq }).sendPeers (.prompt e.seq [r])
    else s

/-- A moored change takes effect and is given its CKPT_SEQ (R383). -/
def State.moorAs (s : State) (r : MoorRec) (prompt : Bool) : State :=
  { s with mrd := r.toTables s.mrd, regs := r.toRegs s.regs, store := s.store.take r }.shadow r prompt
def State.moor (s : State) (r : MoorRec) : State := s.moorAs r r.prompts

/-- The moored fields of the register at `a`, as they stand, are a moored change. -/
def State.moorReg (s : State) (a : Nat) : State :=
  match findReg a with
  | none => s
  | some r =>
    let c : MoorRec := .reg a (r.mooredBits (s.reg a))
    if r.moored then { s with store := s.store.take c }.shadow c false else s

/-- The register with `v` written to it from the register bus or a manifest: RW fields take what the field
map stores, W1C bits written 1 clear, the rest stays (R17, R431). -/
def RegDef.written (r : RegDef) (old v : Word32) : Word32 :=
  r.fields.foldl (fun x f =>
    match f.access with
    | .rw => f.put x (f.store (f.of v))
    | .w1c => f.put x ((BitVec.ofNat 32 (f.of x) &&& ~~~ BitVec.ofNat 32 (f.of v)).toNat)
    | _ => x) old

/-- A configuration register written whole, its moored fields moored (R381). -/
def State.cfgWrite (s : State) (a : Nat) (v : Word32) : State :=
  match findReg a with
  | none => s
  | some r =>
    let t := s.setReg a (r.written (s.reg a) v)
    if r.fields.any fun f => f.cls == .m && f.access == .rw then t.moorReg a else t

/-- One RW field written with what its field map stores for `v`; the register's other fields stay. -/
def State.cfgFld (s : State) (f : Fld) (v : Nat) : State :=
  s.cfgWrite f.addr (BitVec.ofNat 32 (setBits ((s.reg f.addr).toNat) f.lo f.w (v % 2 ^ f.w)))

/-- A moored field set by the device. -/
def State.moorFld (s : State) (f : Fld) (v : Nat) : State := (s.setFld f v).moorReg f.addr

/-- TWP_MOOR_STAT.PENDING follows the changes that wait, and TWP_MOOR_SEQ the durable ones (R383). -/
def State.moorStat (s : State) : State :=
  let s := s.setFld Fld.TWP_MOOR_STAT_PENDING (min s.store.waiting.length 65535)
  s.setFld Fld.TWP_MOOR_STAT_JOURNAL_PCT (min 100 (s.store.journal.length * 100 / 130048))

/-- Outputs that a change made since `s` holds back until its prompt entries are acknowledged (R318): responses
that have left since then are held. -/
def State.holdNew (s t : State) : State :=
  let n := t.pair.prompts.getLast?.elim 0 (·.seq)
  if t.isActive ∧ t.partnerAlive ∧ s.pair.prompts.getLast?.elim 0 (·.seq) < n then
    let fresh := t.out.drop s.out.length
    let isResp := fun (o : Out) => match o with
      | .response _ _ _ _ => true
      | _ => false
    { t with out := t.out.take s.out.length ++ fresh.filter fun o => !isResp o }.updPeer fun p =>
      { p with held := p.held ++ (fresh.filter isResp).map fun o => (n, o) }
  else t

/-- Every waiting change is written to the journal (R383). Nothing is written while writes are stopped
(R448). -/
def State.journal (s : State) : State :=
  if s.store.stopped then s else
  match s.store.waiting.getLast? with
  | none => s
  | some e =>
    let s := s.updStore fun t => { t with journal := t.journal ++ t.waiting, waiting := [] }
    let s := s.setFld Fld.TWP_MOOR_SEQ_LO_SEQ (e.seq % 2 ^ 32)
    let s := s.setFld Fld.TWP_MOOR_SEQ_HI_SEQ (e.seq / 2 ^ 32)
    s.moorStat

/-- An error of reservoir channel `c` (R437): a corrected one is counted, an uncorrectable one shown. -/
def State.resError (s : State) (c : Nat) (uncorrectable : Bool) : State :=
  if uncorrectable then (s.raise (Fld.RSV_CH_STAT_UE c)).raise Fld.RSV_STATUS_UE
  else s.count (Fld.RSV_CH_STAT_CE c) 1

/-- An interrupt on vector `v` (R375): sent at once, or pending while the vector or the function is masked,
MSI-X or bus mastering is off, or the link is down. -/
def State.msix (s : State) (v : Nat) : State :=
  let m := s.ept.msix.get v
  if m.unmasked && !s.flag Fld.EPT_STATUS_FMASK && s.flag Fld.EPT_STATUS_MSIX_EN &&
      s.flag Fld.EPT_STATUS_BME && s.flag Fld.EPT_STATUS_LINK then
    s.emit (.msix v m.addr m.data)
  else s.updEpt fun e => { e with pba := e.pba.set v true }

/-- An entry of the event log; the oldest makes room (log entry 8). The new entry raises
EPT_IRQ_VEC.EVENT_VEC (Table 17-6). -/
def State.logEvent (s : State) (kind arg : Nat) : State :=
  let s := s.updMft fun m =>
    { m with events := (m.events ++ [(⟨kind, arg, s.stamp⟩ : Event)]).drop (m.events.length + 1 - 1024) }
  s.msix (s.fld Fld.EPT_IRQ_VEC_EVENT_VEC)

/-- The AVS target of VDD_CNL set over the AVSBus (R444). -/
def State.avsTo (s : State) (t : Nat) : State := (s.emit (.avs t)).updRst fun r => { r with avs := t }

/-- With the rails up, the target follows the part's curve at its Tj, within 0.65 V to 0.85 V (Table 23-5, Table 23-6). -/
def State.avsFollow (s : State) : State :=
  if s.rst.railsUp = 3 then s.avsTo (max 130 (min 170 (Config.avsCurve s.pwr.tj))) else s

/-- The bit of a cause (Table 18-9). -/
def FaultCause.bit : FaultCause → Nat
  | .engines => 0 | .wharfUe => 1 | .cipher => 2 | .mooring => 3 | .stuck => 4 | .internal => 5

/-- Whether a cause restarts the device (Table 18-5). -/
def FaultCause.restarts : FaultCause → Bool
  | .engines | .wharfUe | .cipher => true
  | _ => false

end Sys2Proof.Machine
end

