-- ==== Sys2Proof/Machine/Manifest.lean ====
section
/-! DEFINITION. How a manifest is taken, executed and answered (16_manifests.md): channels, sessions,
sequence, concurrency and receipts. The opcodes' own effects are in the files of their chapters. -/

namespace Sys2Proof.Machine

/-- Statuses of Table 16-4. -/
inductive MStat
  | success | zeroWork | badMagic | badVersion | badLength | badTlv | unknownOpcode | channelNotAllowed
  | authFail | sessionUnknown | staleSeq | busySession | noKey
  | invalidParam | missingParam | outOfRange | invalidSize | weakKey
  | invalidState | arrayBusy | busy | refused | duplicate | notAvailable | inUse
  | noResource | queueFull | timeout | internal
  deriving DecidableEq, Repr

/-- Their codes (Table 16-4). -/
def MStat.code : MStat → Nat
  | .success => 0x0000 | .zeroWork => 0x0001
  | .badMagic => 0x0101 | .badVersion => 0x0102 | .badLength => 0x0103 | .badTlv => 0x0104
  | .unknownOpcode => 0x0105 | .channelNotAllowed => 0x0106
  | .authFail => 0x0201 | .sessionUnknown => 0x0202 | .staleSeq => 0x0203 | .busySession => 0x0204
  | .noKey => 0x0205
  | .invalidParam => 0x0301 | .missingParam => 0x0302 | .outOfRange => 0x0303 | .invalidSize => 0x0304
  | .weakKey => 0x0305
  | .invalidState => 0x0401 | .arrayBusy => 0x0402 | .busy => 0x0403 | .refused => 0x0404
  | .duplicate => 0x0405 | .notAvailable => 0x0406 | .inUse => 0x0407
  | .noResource => 0x0501 | .queueFull => 0x0502
  | .timeout => 0x0601 | .internal => 0x0602

/-- Receipt parameters: parameter n has TYPE n (R357). -/
def params (l : List (List Byte)) : List (Nat × List Byte) :=
  (List.range l.length).zip l |>.map fun p => (p.1 + 1, p.2)

/-- A TLV: TYPE, LEN, the value padded with zeros to whole words (R357). -/
def tlvBytes (p : Nat × List Byte) : List Byte :=
  beBytes 2 p.1 ++ beBytes 2 p.2.length ++ p.2 ++ List.replicate ((4 - p.2.length % 4) % 4) 0

/-- Header and payload of a receipt (Table 16-2). -/
def Receipt.body (r : Receipt) : List Byte :=
  let pl := r.params.flatMap tlvBytes
  beBytes 2 0x434D ++ [1, if r.trailer then 3 else 1] ++ beBytes 2 r.opcode ++ beBytes 4 r.seq ++
    beBytes 4 r.session ++ beBytes 4 pl.length ++ beBytes 2 r.status ++ List.replicate 12 0 ++ pl

/-- The key a session's trailers are computed under: K_s, or for session 0 the key named (R360). -/
def State.trailerKey (s : State) (h : Hdr) : Option (BitVec 256) :=
  if h.session = 0 then h.keyId.bind fun k => s.mrd.mkeys.get k
  else some (s.mft.sessions.get h.session).ks

/-- The whole receipt as bytes, with its trailer where it has one (R358, R360). -/
def State.receiptBytes (s : State) (h : Hdr) (r : Receipt) : List Byte :=
  r.body ++ (match r.trailer, s.trailerKey h with
    | true, some k => beBytes 16 (Config.hmac k r.body).toNat
    | _, _ => [])

/-- Bytes laid into a memory from address 0. -/
def layBytes (t : Tab Byte) (a : Nat) (l : List Byte) : Tab Byte :=
  ((List.range l.length).zip l).foldl (fun t p => t.set (a + p.1) p.2) t

/-- A field of MFT_MBOX_CFG as it applies to the mailbox's manifest: as of its GO (R369). -/
def State.mboxFld (s : State) (f : Fld) : Nat :=
  if s.flag Fld.MFT_MBOX_STAT_BUSY then bitsOf s.mft.mboxCfg.toNat f.lo f.w else s.fld f

/-- A receipt on its way: durable changes first (R383), then on its channel. On the mailbox it lies in
MFT_RCPT_BUF, BUSY clears, DONE and RLEN are set and the vector is raised (R355); after an endpoint reset
it is discarded. A relayed manifest's goes to the partner in RELAY_RCPT frames (R336). -/
def State.sendReceipt (s : State) (h : Hdr) (r : Receipt) : State :=
  let s := s.journal
  match h.chan with
  | .mailbox =>
    if s.mft.mboxDrop.contains (h.session, h.seq) then
      s.updMft fun m => { m with mboxDrop := m.mboxDrop.erase (h.session, h.seq) }
    else
    let b := s.receiptBytes h r
    let s := s.updMft fun m => { m with rcptBuf := layBytes [] 0 b }
    let irq := s.mboxFld Fld.MFT_MBOX_CFG_IRQ_EN
    let vec := s.mboxFld Fld.MFT_MBOX_CFG_VECTOR
    let s := s.setFld Fld.MFT_MBOX_STAT_RLEN (b.length / 4)
    let s := (s.setFld Fld.MFT_MBOX_STAT_BUSY 0).raise Fld.MFT_MBOX_STAT_DONE
    let s := s.emit (.receipt r)
    if irq = 1 then s.msix vec else s
  | .relay =>
    let b := s.receiptBytes h r
    (List.range (ceilDiv b.length 4096)).foldl (fun s k =>
      s.sendPeer false (.relayRcpt b.length (4096 * k) ((b.drop (4096 * k)).take 4096))) (s.emit (.receipt r))
  | _ => s.emit (.receipt r)

/-- The receipt of a manifest with header `h` and opcode `op` (R358). It carries a trailer on a network
channel and in every session but 0. -/
def receiptOf (h : Hdr) (op : Nat) (st : MStat) (ps : List (Nat × List Byte)) : Receipt :=
  { chan := h.chan, dst := h.src, port := h.port, opcode := op, seq := h.seq, session := h.session,
    status := st.code, params := ps,
    trailer := decide (h.chan ≠ .mailbox ∨ h.session ≠ 0 ∨ h.keyId ≠ none) }

/-- Bytes a receipt of a session may take and still be kept (R364). -/
def keptLimit : Nat := 832

/-- The session's LAST and kept receipt after a manifest (R361, R364). Session 0 of a network channel keeps
none. -/
def State.record (s : State) (h : Hdr) (r : Receipt) : State :=
  if h.session = 0 ∧ h.chan ≠ .mailbox then s else
  s.updMft fun m => { m with sessions := m.sessions.upd h.session fun ss =>
    { ss with last := h.seq, running := none, heard := s.now,
              kept := if r.body.length + 16 ≤ keptLimit then some r else none } }

/-- A checkpoint window opened by the active, unless one is open (R319). -/
def State.openWindow (s : State) (kind : Nat) : State :=
  if s.pair.window.isSome then s
  else
    let first := s.pair.ckptAcked + 1
    let s := s.updPeer fun p => { p with window := some ⟨kind, first, s.store.seq, false⟩ }
    (s.count Fld.AQD_LINK_STAT_WINDOWS 1).sendPeer false (.windowReq first s.store.seq kind)

/-- A manifest answered and recorded (R361). On an active with its partner heard, a receipt waits for the
acknowledgement of the entries the manifest made since CKPT_SEQ `seq` (R319). -/
def State.answerSince (s : State) (seq : Nat) (h : Hdr) (op : Nat) (st : MStat) (ps : List (Nat × List Byte)) :
    State :=
  let r := receiptOf h op st ps
  let s := s.record h r
  let s := if s.isActive ∧ seq < s.store.seq then
      s.updPeer fun p => { p with reqs := p.reqs ++ [s.store.seq] } else s
  if s.isActive ∧ s.partnerAlive ∧ seq < s.store.seq then
    (s.updPeer fun p => { p with heldRcpt := p.heldRcpt ++ [(s.store.seq, h, r)] }).openWindow 0
  else s.sendReceipt h r

def State.answer (s : State) (h : Hdr) (op : Nat) (st : MStat) (ps : List (Nat × List Byte)) : State :=
  s.answerSince s.pair.ckptAcked h op st ps

/-- A manifest answered and not recorded: it was not executed (R361, R362). -/
def State.answerOnly (s : State) (h : Hdr) (op : Nat) (st : MStat) : State :=
  s.sendReceipt h (receiptOf h op st [])

/-- What an opcode's own checks and effects come to. A failure carries the name R365 asks for as its last
parameter; a refusal that leaves a flag is a failure with the state it leaves; `later` has passed its commit point, or
holds it open, and its receipt follows. -/
inductive MRes
  | fail (st : MStat) (ps : List (List Byte))
  | refuse (s : State) (st : MStat) (ps : List (List Byte))
  | ok (s : State) (ps : List (List Byte))
  | zero (s : State) (ps : List (List Byte))
  | later (s : State) (committed : Bool)

/-- The manifest is enabled on its channel (R353). -/
def State.chanOn (s : State) : Channel → Bool
  | .mailbox => s.flag Fld.MFT_CHAN_CFG_MBOX_EN
  | .mgmtPort => s.flag Fld.MFT_CHAN_CFG_MGMT_EN
  | .inband => s.flag Fld.MFT_CHAN_CFG_INBAND_EN
  | .relay => true

/-- Opcodes refused on a channel (Table 16-1). -/
def chanRefuses (c : Channel) (op : Nat) : Bool :=
  match c with
  | .mailbox | .relay => false
  | .mgmtPort => op == 0x0620 || op == 0x0621
  | .inband => op / 256 == 0x06 || op / 256 == 0x0A || op / 256 == 0x0C

/-- The IP header of a datagram's receipt: sources of IPv6 are numbered from 2^144. -/
def ipHeader (src : Nat) : Nat := if src < 2 ^ 144 then 20 else 40

/-- Largest PLEN of a channel (Table 16-1). The management lane's MTU is the factory MTU (log entry 44). -/
def State.maxPlen (s : State) (c : Channel) (port src : Nat) : Nat :=
  match c with
  | .mailbox | .relay => 65488
  | .mgmtPort => 4200 - ipHeader src - 56
  | .inband => s.fld (Fld.NET_PORT_CFG_MTU (port / 4) (port % 4)) - ipHeader src - 56

/-- The session that a manifest names is open and bound to its channel and source (R359). On a network
channel session 0 takes only SESSION_OPEN and CAP_LIST; on the mailbox it takes every opcode while no
trailer is required, and those two with one. -/
def State.sessionOk (s : State) (h : Hdr) (op : Nat) : Bool :=
  if h.session = 0 then
    op == 0x0101 || op == 0x0102 ||
      (decide (h.chan = .mailbox) && s.mboxFld Fld.MFT_MBOX_CFG_AUTH_REQ == 0)
  else
    let ss := s.mft.sessions.get h.session
    ss.isOpen && decide (ss.chan = h.chan) && (decide (h.chan = .mailbox) || ss.src == h.src)

/-- A manifest holds one of the objects or waits for it, or eight execute already (R362). -/
def State.mustWait (s : State) (objs : List (ObjKind × Nat)) : Bool :=
  decide (8 ≤ s.mft.running.length) ||
    (s.mft.running.any fun r => r.objs.any fun o => decide (o ∈ objs)) ||
    s.mft.waiting.any fun w => w.objs.any fun o => decide (o ∈ objs)

/-- Runs of consecutive extents in a namespace's map (R382). -/
def extRuns : List Nat → Nat
  | [] => 0
  | [_] => 1
  | x :: y :: l => extRuns (y :: l) + (if y = x + 1 then 0 else 1)

/-- Bytes of a moored image's header and of the 157,097 registers that the field maps give a class-M field (R381, R382). -/
def imageBase : Nat := 64 + 4 * 157097

/-- Bytes of the moored image, by the model's count: header and registers, and 40 bytes (the most a journal entry's record
has) for each table record and run of extents (R382, log entry 64). -/
def State.moorBytes (s : State) : Nat :=
  let m := s.mrd
  let recs := m.hosts.length + m.subsys.length + m.ns.length + m.arr.length + m.marks.length + m.pools.length +
    m.keys.length + m.mkeys.length + m.addr.length + m.acl.length + m.disc.length + m.src.length
  imageBase + 40 * (recs + (m.ns.map fun e => extRuns e.2.ext).sum)

/-- The manifest's effect makes the moored image larger than its slot of 20 MiB (R382). -/
def State.outgrows (s t : State) : Bool :=
  decide (s.moorBytes < t.moorBytes) && decide (20 * 2 ^ 20 < t.moorBytes)

/-- The opcode's effects and the answer (R362); an effect for which the moored image has no room is not made (R382). -/
def State.runBody (s : State) (h : Hdr) (op : Nat) (objs : List (ObjKind × Nat))
    (body : State → MRes) : State :=
  match body s with
  | .fail st ps => s.answerSince s.store.seq h op st (params ps)
  | .refuse t st ps => t.answerSince t.store.seq h op st (params ps)
  | .ok t ps =>
    if s.outgrows t then s.answerSince s.store.seq h op .noResource []
    else t.answerSince s.store.seq h op .success (params ps)
  | .zero t ps => t.answerSince s.store.seq h op .zeroWork (params ps)
  | .later t c =>
    t.updMft fun m => { m with
      running := m.running ++ [⟨h, op, objs, c⟩]
      sessions := if h.session = 0 ∧ h.chan ≠ .mailbox then m.sessions else
        m.sessions.upd h.session fun ss => { ss with running := some h.seq, heard := s.now } }

/-- Opcodes of the standby agent (R336). -/
def agentOps : List Nat :=
  [0x0101, 0x0102, 0x0103, 0x0104, 0x0107, 0x0108, 0x0620, 0x0621, 0x0702, 0x0721, 0x0801, 0x0802, 0x0804, 0x0B01,
    0x0B02, 0x0C01, 0x0C02, 0x0C03, 0x0C04]

/-- The standby agent executes manifests, and not a lockkeeper core (R336). -/
def State.agent (s : State) : Bool := s.rst.phase == .standby

/-- Manifests reach something that executes them: a lockkeeper core, asleep in P3, or the standby agent by the relay or
in the management window. -/
def State.manUp (s : State) (c : Channel) : Bool :=
  if s.agent then c == .relay || (c == .mailbox && s.pwr.mgmtWindow)
  else s.rst.phase == .serving && !s.pair.lkDown && c != .relay && s.fld Fld.TWP_PWR_STATE_CUR != 4 &&
    !(s.pwr.stage == .committed && s.fld Fld.TWP_PWR_STATE_TARGET == 4)

/-- The core sleeps in P3: manifests wait until it resumes. -/
def State.lkAsleep (s : State) : Bool :=
  s.fld Fld.TWP_PWR_STATE_CUR == 3 || (s.pwr.stage == .committed && s.fld Fld.TWP_PWR_STATE_TARGET == 3)

/-- What comes before a manifest's execution: channel, session, opcode limits, sequence (R353, R359, R361, R336). Answers
whether it executes. A copy of the one executing is ignored, and the receipt that follows is then wanted again. -/
def State.admitMan (s : State) (h : Hdr) (op : Nat) : State × Bool :=
  if !s.manUp h.chan then (s, false)
  else if !s.chanOn h.chan then (s.count Fld.MFT_STAT_DISABLED 1, false)
  else if !s.sessionOk h op then
    let s := s.count Fld.MFT_STAT_AUTH_FAIL 1
    (if h.chan = .mailbox then s.answerOnly h op .sessionUnknown else s, false)
  else if h.session = 0 ∧ h.chan ≠ .mailbox then
    if h.seq = 0 then (s.answerOnly h op .staleSeq, false) else (s, true)
  else
    let ss := s.mft.sessions.get h.session
    let s := s.updMft fun m =>
      { m with sessions := m.sessions.upd h.session fun ss => { ss with heard := s.now } }
    if ss.running = some h.seq then
      (s.updMft fun m => { m with mboxDrop := m.mboxDrop.erase (h.session, h.seq) }, false)
    else if h.seq = 0 ∨ h.seq < ss.last then (s.answerOnly h op .staleSeq, false)
    else match (if h.seq = ss.last then ss.kept else none) with
      | some r => (s.sendReceipt h r, false)
      | none => if ss.running ≠ none then (s.answerOnly h op .busySession, false) else (s, true)

/-- A manifest that is executed and fails, whatever its opcode would do: its channel or the standby agent refuses the
opcode, or it does not parse. -/
def State.manifestFails (s : State) (h : Hdr) (op : Nat) (st : MStat) (ps : List (List Byte)) : State :=
  let r := s.admitMan h op
  if r.2 then r.1.answerSince r.1.store.seq h op st (params ps) else r.1

/-- A manifest whose header and trailer were found good: what precedes it, the limits on its opcode, concurrency, then
its opcode's effects (R353, R359 to R362). `i` is the manifest without its header, kept if it must wait. -/
def State.manifest (s : State) (i : ManCmd) (h : Hdr) (op : Nat) (objs : List (ObjKind × Nat))
    (body : State → MRes) : State :=
  if chanRefuses h.chan op then s.manifestFails h op .channelNotAllowed []
  else if s.agent ∧ !agentOps.contains op then s.manifestFails h op .invalidState []
  else
    let r := s.admitMan h op
    let s := r.1
    if !r.2 then s
    else if s.lkAsleep ∨ (s.mustWait objs ∧ (h.session ≠ 0 ∨ h.chan = .mailbox)) then
      if 64 ≤ s.mft.waiting.length then s.answerOnly h op .queueFull
      else s.updMft fun m => { m with
        waiting := m.waiting ++ [⟨i, h, objs⟩]
        sessions := if h.session = 0 ∧ h.chan ≠ .mailbox then m.sessions else
          m.sessions.upd h.session fun ss => { ss with running := some h.seq } }
    else s.runBody h op objs body

/-- The running manifest that meets `p`, oldest first. -/
def State.findRunning (s : State) (p : Running → Bool) : Option Running := s.mft.running.find? p

/-- A running manifest ends: it is answered, recorded and no longer holds its objects (R362, R363). -/
def State.finish (s : State) (r : Running) (st : MStat) (ps : List (List Byte)) : State :=
  let s := s.updMft fun m => { m with running := m.running.erase r }
  s.answer r.hdr r.opcode st (params ps)

/-- Every running manifest with opcode `op` on object `o` ends with the status. -/
def State.finishOn (s : State) (op : Nat) (o : ObjKind × Nat) (st : MStat) (ps : List (List Byte)) : State :=
  match s.findRunning fun r => r.opcode == op && decide (o ∈ r.objs) with
  | none => s
  | some r => s.finish r st ps

/-- The objects of a set given as a bitmap (R357), lowest first. -/
def bitSet (n v : Nat) : List Nat := (List.range n).filter fun i => v.testBit i

end Sys2Proof.Machine
end

