-- ==== Sys2Proof/Machine/Media.lean ====
section
/-! DEFINITION. What stands on a member's drive: the reserved area of Table 6-2 with the labels of Table 6-17, the lease
record of Table 14-5, the ledger region of Table 7-1, and the data region. Multi-byte fields are big-endian. -/

namespace Sys2Proof

/-- ARY_CFG.MODE (Table 6-8). -/
def Mode.code : Mode → Nat
  | .m2 => 1 | .m3 => 2 | .p => 3 | .pq => 4 | .pqr => 5

/-- A block and its metadata as one unit for parity. -/
def MediaBlk.unit (b : MediaBlk) : Unit4k := b.md ++ b.data

/-- What a read of a block gives: none where the drive cannot read it. -/
def MediaBlk.read (b : MediaBlk) : Option Unit4k := if b.bad then none else some b.unit

/-- The record holds a data block (Table 7-3). -/
def LedgerRec.hasData (r : LedgerRec) : Bool := r.kind == 1 || r.kind == 2

/-- The data block of a record with its metadata. -/
def LedgerRec.unit (r : LedgerRec) : Unit4k := r.md ++ r.data

end Sys2Proof

namespace Sys2Proof.Machine

/-- First member block of the data region (R149). -/
def dataBase : Nat := 0x00100000

/-- Blocks of a ring, and the member block at which it begins (Table 7-1). -/
def ringSize : Nat := 1032192
def ringStart : Nat := 16384

/-- The block and metadata of a unit. -/
def mediaOf (u : Unit4k) : MediaBlk := ⟨u.extractLsb' 0 32768, u.extractLsb' 32768 512, false⟩

/-- `n` zero bytes. -/
def zeroes (n : Nat) : List Byte := List.replicate n 0

/-- Bytes of one each. -/
def bytes (l : List Nat) : List Byte := l.map fun v => BitVec.ofNat 8 v

/-- A block of given bytes, zero after them, with no metadata. -/
def plainBlk (l : List Byte) : MediaBlk := ⟨BitVec.ofNat 32768 (leVal l), 0, false⟩

/-- A block whose bytes 4095:4092 are the CRC-32C of bytes 4091:0. -/
def crcBlk (l : List Byte) : MediaBlk :=
  let b := (l ++ zeroes (4092 - l.length)).take 4092
  plainBlk (b ++ beBytes 4 (crc32c b).toNat)

/-- The label's block (Table 6-17). -/
def labelBlk (l : Label) : MediaBlk :=
  crcBlk (beBytes 2 0x414C ++
    bytes [1, l.array, l.mode.code, l.n, l.k, l.d.toNat, l.unit, l.member, l.pool.getD 7, 0] ++
    beBytes 4 l.gen ++ beBytes 8 l.stripes ++ zeroes 8 ++ bytes ((List.range 32).map fun i => l.bays.getD i 0x3F))

/-- The lease record's block (Table 14-5). Its TIME is informative only and is not kept. -/
def leaseBlk (l : Lease) : MediaBlk :=
  let st := match l.state with
    | .free => 0 | .held => 1 | .released => 2
  crcBlk (beBytes 2 0x424C ++ bytes [1, st] ++ beBytes 8 l.pairId ++ beBytes 8 l.holder ++ beBytes 8 l.epoch ++
    beBytes 8 l.rseq ++ beBytes 8 l.reqSeq)

/-- The ledger header's block (Table 7-16). -/
def headerBlk (h : LdgHeader) : MediaBlk :=
  let pair := fun (p : Nat) => match h.pairs[p]? with
    | some q => bytes [q.1, q.2.1, q.2.2.toNat, 0]
    | none => zeroes 4
  crcBlk (beBytes 2 0x4C48 ++ bytes [1, h.array, h.role, h.pairs.length, 0, 0] ++ beBytes 8 h.hseq ++ beBytes 4 h.gen ++
    beBytes 4 h.tail ++ beBytes 8 h.rnLimit ++ zeroes 32 ++ (List.range 17).flatMap pair ++ zeroes 60 ++
    (List.range 17).flatMap fun p => beBytes 8 (h.low.getD p 0))

/-- A segment entry (Table 7-3). DCRC covers the data block and its metadata. -/
def entryBytes (r : LedgerRec) : List Byte :=
  bytes [r.kind, r.role] ++ beBytes 2 r.host ++ beBytes 4 r.nsid ++ beBytes 8 r.rn ++ beBytes 8 r.stripe ++
    beBytes 4 r.blk ++
    beBytes 4 (if r.hasData then (crc32c (leBytes 4096 r.data.toNat ++ leBytes 64 r.md.toNat)).toNat else 0) ++ zeroes 32

/-- The header block of a segment (Table 7-2); HCRC is the CRC-32C of the block with HCRC taken as 0. -/
def segmentBlk (g : RingSeg) : MediaBlk :=
  let head := beBytes 2 0x4C47 ++
    bytes [1, g.array, g.pair, g.infl, g.recs.length, g.recs.countP LedgerRec.hasData] ++ beBytes 4 g.gen ++
    beBytes 8 g.sseq ++ beBytes 8 g.time ++ zeroes 96
  let tail := g.recs.flatMap entryBytes
  let all := head ++ zeroes 4 ++ tail
  plainBlk (head ++ beBytes 4 (crc32c (all ++ zeroes (4096 - all.length))).toNat ++ tail)

/-- Ring blocks of a segment with these records: its header block and its data blocks (R177). -/
def segBlocks (l : List LedgerRec) : Nat := 1 + l.countP LedgerRec.hasData

/-- Block `i` of a segment's copy: its header block, or a data block, unreadable where it is lost. -/
def segPart (g : RingSeg) (i : Nat) : MediaBlk :=
  if i = 0 then segmentBlk g
  else match (g.recs.zipIdx.filter fun r => r.1.hasData)[i - 1]? with
    | some r => ⟨r.1.data, r.1.md, g.lost.contains r.2⟩
    | none => default

end Sys2Proof.Machine

namespace Sys2Proof

/-- A block of the reserved area (Table 6-2, Table 7-1). The layout of the deferred area is not given: its blocks read as
zero (log entry 60). -/
def Medium.reserved (m : Medium) (blk : Nat) : MediaBlk :=
  let at_ := fun (o : Option MediaBlk) => o.getD default
  if blk = 0 then at_ (m.labelA.map Machine.labelBlk)
  else if blk = 8 then at_ (m.labelB.map Machine.labelBlk)
  else if blk = 16 then at_ (m.lease.map Machine.leaseBlk)
  else if blk = 1024 then at_ (m.hdr0.map Machine.headerBlk)
  else if blk = 1032 then at_ (m.hdr1.map Machine.headerBlk)
  else if Machine.ringStart ≤ blk then
    let o := blk - Machine.ringStart
    at_ ((m.ring.find? fun e => decide (e.1 ≤ o ∧ o < e.1 + Machine.segBlocks e.2.recs)).map fun e =>
      Machine.segPart e.2 (o - e.1))
  else default

/-- A block of the drive (R149). -/
def Medium.block (m : Medium) (blk : Nat) : MediaBlk :=
  if blk < Machine.dataBase then m.reserved blk else Machine.Tab.get m.blocks blk

/-- A block of the data region written. -/
def Medium.put (m : Medium) (blk : Nat) (u : Unit4k) : Medium :=
  { m with blocks := Machine.Tab.set m.blocks blk (Machine.mediaOf u) }

/-- The label that a reader uses: the valid copy, with two the one of the higher GEN (R464). -/
def Medium.label (m : Medium) : Option Label :=
  match m.labelA, m.labelB with
  | some a, some b => some (if a.gen < b.gen then b else a)
  | a, b => a.or b

/-- A label written: copy A, then copy B (R464). -/
def Medium.putLabel (m : Medium) (l : Option Label) : Medium :=
  let a := { m with labelA := l }
  { a with labelB := l }

/-- The ledger header that a reader uses: the valid slot, with two the one of the higher HSEQ (R175). -/
def Medium.header (m : Medium) : Option LdgHeader :=
  match m.hdr0, m.hdr1 with
  | some a, some b => some (if a.hseq < b.hseq then b else a)
  | a, b => a.or b

/-- A header written to the slot that the last one was not written to (R175). -/
def Medium.putHeader (m : Medium) (h : LdgHeader) : Medium :=
  if m.header.isSome ∧ m.header = m.hdr0 then { m with hdr1 := some h } else { m with hdr0 := some h }

/-- A segment's copy written at ring block `off`; what stood on its blocks is gone. -/
def Medium.putSeg (m : Medium) (off : Nat) (g : RingSeg) : Medium :=
  let clear := m.ring.filter fun e =>
    decide (e.1 + Machine.segBlocks e.2.recs ≤ off ∨ off + Machine.segBlocks g.recs ≤ e.1)
  { m with ring := Machine.Tab.set clear off g }

/-- The canonical form of what a drive brings with it. -/
def Medium.canon (m : Medium) : Medium :=
  { m with
    ring := m.ring.foldl (fun t e => Machine.Tab.set t e.1 e.2) []
    blocks := m.blocks.foldl (fun t e => Machine.Tab.set t e.1 e.2) [] }

end Sys2Proof
end

