-- ==== Sys2Proof/Machine/Ports.lean ====
section
/-! DEFINITION. Logical ports: which a quad's mode has (R251), their counters (Table 11-5), which the sluice and the
tugs advance too, quads that are gated, and what wakes the device from a power state (R339, R352). -/

namespace Sys2Proof.Machine

/-- Quad and logical lane of a port (R20). -/
def quadOf (p : Nat) : Nat := p / 4
def laneOf (p : Nat) : Nat := p % 4

/-- The quad's mode has the port (Table 11-1). -/
def modeHas (mode l : Nat) : Bool := if mode = 0 then l == 0 else if mode = 1 then l % 2 == 0 else true
def State.portHere (s : State) (p : Nat) : Bool :=
  modeHas (s.fld (Fld.NET_QUAD_CFG_MODE (quadOf p))) (laneOf p)

/-- The port's link is up. -/
def State.linked (s : State) (p : Nat) : Bool := s.flag (Fld.NET_PORT_STAT_LINK (quadOf p) (laneOf p))

/-- A port's counter n of Table 11-5 advanced, and the tally's event for it (Table 19-1). -/
def State.netCount (s : State) (p n amount : Nat) : State :=
  let lo := if p = 128 then Fld.NET_MCNT_LO_COUNT n else Fld.NET_CNT_LO_COUNT (quadOf p) (laneOf p) n
  let hi := if p = 128 then Fld.NET_MCNT_HI_COUNT n else Fld.NET_CNT_HI_COUNT (quadOf p) (laneOf p) n
  let v := (s.fld hi * 2 ^ 32 + s.fld lo + amount) % 2 ^ 64
  let s := (s.setFld lo (v % 2 ^ 32)).setFld hi (v / 2 ^ 32)
  let code := if n = 0 then 0x011 else if n = 1 then 0x010 else if n = 2 then 0x013 else if n = 3 then 0x012
    else 0x010 + n
  if n < 24 then s.tally code p amount else s

/-- A frame of `len` bytes leaves on a port (Table 11-5, counters 2 and 3). -/
def State.sentFrame (s : State) (p len : Nat) : State := (s.netCount p 2 1).netCount p 3 len

/-- A port of the quad has an XOFF of its own, or a received PFC or pause, in force (R262). -/
def State.quadHeld (s : State) (q : Nat) : Bool :=
  (List.range 4).any fun l => s.fld (Fld.NET_PORT_STAT_XOFF_TX q l) != 0 || s.fld (Fld.NET_PORT_STAT_PFC_RX q l) != 0 ||
    s.flag (Fld.NET_PORT_STAT_PAUSED_RX q l)

/-- Quads gated in P1 (R339): each port disabled, down, or in LPI both ways. -/
def State.quadGated (s : State) (q : Nat) : Bool :=
  s.fld Fld.TWP_PWR_STATE_CUR == 1 && s.flag Fld.TWP_PARK_CFG_QUAD_GATE_EN && !s.quadHeld q && (List.range 4).all fun l =>
    !s.flag (Fld.NET_PORT_CFG_EN q l) || !s.flag (Fld.NET_PORT_STAT_LINK q l) ||
      (s.flag (Fld.NET_PORT_STAT_LPI_TX q l) && s.flag (Fld.NET_PORT_STAT_LPI_RX q l))

/-- The power state that units behave by: that of an entry that has committed, else the current one (R343). -/
def State.pwrDepth (s : State) : Nat :=
  if s.pwr.stage = .committed then s.fld Fld.TWP_PWR_STATE_TARGET else s.fld Fld.TWP_PWR_STATE_CUR

/-- What wakes the device is settled as an entry to state `t` begins (R352, R270). -/
def State.latchWake (s : State) (t : Nat) : State :=
  let ports := if t ≠ 3 then s.pwr.wakePorts else
    (List.range 128).foldl (fun (m : Tab (Nat × List Nat)) p =>
      m.set p (s.fld (Fld.NET_PORT_CFG_WAKE (quadOf p) (laneOf p)),
        (List.range 4).map fun w => (s.reg (Reg.NET_WAKE_PAT (quadOf p) (laneOf p) w)).toNat)) []
  { s with pwr := { s.pwr with
      wakeEn := s.fld Fld.TWP_WAKE_EN_SRC, wakeTimer := s.fld Fld.TWP_WAKE_TIMER_SECONDS, wakePorts := ports } }

end Sys2Proof.Machine
end

