-- ==== Sys2Proof/Machine/Layout.lean ====
section
/-! DEFINITION. Where blocks lie on an array, which drive holds a role's unit, and when a stripe is beyond
redundancy (06_arrays.md, R147 to R160). -/

namespace Sys2Proof

/-- Redundant units of a parity mode, or 0 for a mirror (Table 6-1). -/
def Mode.parities : Mode → Nat
  | .m2 | .m3 => 0
  | .p => 1
  | .pq => 2
  | .pqr => 3

/-- Copies of each data unit (Table 6-1). -/
def Mode.copies : Mode → Nat
  | .m2 => 2
  | .m3 => 3
  | _ => 1

/-- The mode protects by copies. -/
def Mode.mirror (m : Mode) : Bool := m == .m2 || m == .m3

/-- Data units per stripe for `n` members (Table 6-1). -/
def Mode.k (m : Mode) (n : Nat) (d : Bool) : Nat :=
  if m.mirror then n / m.copies else n - m.parities - d.toNat

/-- The limits of Table 6-1 on the members and the spare slot. -/
def Mode.allowed (m : Mode) (n : Nat) (d : Bool) : Bool :=
  match m with
  | .m2 => decide (2 ≤ n ∧ n ≤ 32 ∧ n % 2 = 0) && !d
  | .m3 => decide (3 ≤ n ∧ n ≤ 30 ∧ n % 3 = 0) && !d
  | .p => decide (3 ≤ n ∧ n ≤ 32 ∧ 2 + 1 + d.toNat ≤ n)
  | .pq => decide (4 ≤ n ∧ n ≤ 32 ∧ 2 + 2 + d.toNat ≤ n)
  | .pqr => decide (5 ≤ n ∧ n ≤ 32 ∧ 2 + 3 + d.toNat ≤ n ∧ n - 3 - d.toNat ≤ 29)

end Sys2Proof

namespace Sys2Proof.Machine

/-- Stripe unit in 4 KiB blocks (R151, ARY_CFG.UNIT). -/
def Arr.u (a : Arr) : Nat := 4 * 2 ^ a.unit

/-- Data blocks of an extent (R151). -/
def Arr.e (a : Arr) : Nat := 256 * a.k * a.u

/-- Redundant units of a stripe. -/
def Arr.m (a : Arr) : Nat := if a.mode.mirror then a.n - a.k else a.mode.parities

/-- Member that carries P of stripe `s` (R153). -/
def Arr.pd (a : Arr) (s : Nat) : Nat := (a.n - 1) - s % a.n

/-- Member of redundant unit `o` (R153). -/
def Arr.parRole (a : Arr) (s o : Nat) : Nat := (a.pd s + o) % a.n

/-- Member of data unit `j` in a parity mode, of copy `c` of it in a mirror (R153). -/
def Arr.dataRole (a : Arr) (s j c : Nat) : Nat :=
  if a.mode.mirror then (j + c * a.k + s) % a.n else (a.pd s + a.mode.parities + j) % a.n

/-- Member of the spare slot (R153). -/
def Arr.slotRole (a : Arr) (s : Nat) : Nat := (a.pd s + a.mode.parities + a.k) % a.n

/-- First member block of stripe `s` plus `off` (R153). -/
def Arr.memberBlk (a : Arr) (s off : Nat) : Nat := dataBase + s * a.u + off

/-- The role's entry. -/
def Arr.role (a : Arr) (x : Nat) : Role := a.roles.getD x default

/-- The bay that carries role `x`'s ring: its own, or the rebuild target that takes its copies (R188). -/
def Arr.ringBay (a : Arr) (x : Nat) : Option Nat :=
  match (a.role x).state, (a.role x).target with
  | .online, _ => (a.role x).bay
  | .rebuilding, .bay b => some b
  | _, _ => none

/-- done(s, x): the stripe lies among the S − rem stripes that end just before the cursor (R164). -/
def Arr.done (a : Arr) (s x : Nat) : Bool :=
  decide ((a.cursor + a.stripes - 1 - s) % a.stripes < a.stripes - (a.role x).rem)

/-- drive(s, x) for a role whose unit does not lie in the slot (R156). -/
def Arr.driveAt (a : Arr) (s x : Nat) : Option Nat :=
  let r := a.role x
  match r.state with
  | .online => r.bay
  | .rebuilding | .restoring =>
    if a.done s x then (match r.target with
      | .bay b => some b
      | _ => none)
    else none
  | _ => none

/-- drive(s, x): the bay that holds role x's unit of stripe s (R156). The slot's own role is never itself
in the slot. -/
def Arr.drive (a : Arr) (s x : Nat) : Option Nat :=
  let r := a.role x
  let slot := if a.slotRole s = x then none else a.driveAt s (a.slotRole s)
  match r.state, r.target with
  | .slotted, _ => slot
  | .restoring, .bay b => if a.done s x then some b else slot
  | .rebuilding, .slot => if a.done s x then slot else none
  | _, _ => a.driveAt s x

/-- Data blocks: the stripe, the data unit and the block in the unit of array data block `b` (R153). -/
def Arr.place (a : Arr) (b : Nat) : Nat × Nat × Nat :=
  let r := b % (a.k * a.u)
  (b / (a.k * a.u), r / a.u, r % a.u)

/-- Array data block of namespace block `b`, by the extent map (R153). -/
def Arr.mapped (a : Arr) (ext : List Nat) (b : Nat) : Nat := ext.getD (b / a.e) 0 * a.e + b % a.e

/-- The ledger pair of a stripe (R174). -/
def Arr.pairOf (a : Arr) (s : Nat) : Nat :=
  let t := s % a.n
  if a.n % 2 = 0 then t / 2
  else if t < a.n - 3 then t / 2
  else (a.n - 3) / 2 + (t - (a.n - 3))

/-- Units of stripe `s` that are data or redundant and whose drive is none, or whose role is in `bad`
(R160). -/
def Arr.lost (a : Arr) (s : Nat) (bad : List Nat) : Nat :=
  (List.range (a.k + a.m)).countP fun i =>
    let x := if i < a.m then a.parRole s i else a.dataRole s (i - a.m) 0
    (a.drive s x).isNone || bad.contains x

/-- Stripe `s` is beyond redundancy with the roles `bad` unreadable (R160). -/
def Arr.beyond (a : Arr) (s : Nat) (bad : List Nat) : Bool :=
  if a.mode.mirror then
    (List.range a.k).any fun j => (List.range a.mode.copies).all fun c =>
      (a.drive s (a.dataRole s j c)).isNone || bad.contains (a.dataRole s j c)
  else decide (a.m < a.lost s bad)

/-- Some stripe is beyond redundancy (R160). Which units are lost depends on s mod n alone between the
stripes where the cursor or a role's rebuilt part begins, so `n` stripes from each of those suffice. -/
def Arr.anyBeyond (a : Arr) : Bool :=
  let starts := 0 :: a.cursor :: (a.roles.map fun r => (a.cursor + r.rem) % a.stripes)
  starts.any fun b => (List.range a.n).any fun i => a.beyond ((b + i) % a.stripes) []

/-- What a berth's drives must have answered before its next step: its reads until its data has been given to the write
path, then every operation (R111). -/
def Berth.opsReady (e : Berth) : Bool := e.ops.all fun o => o.finished || o.replanned || (o.write && !e.placed)

/-- A block on the medium of bay `b`. -/
def State.media (s : State) (b blk : Nat) : MediaBlk := (s.drives.get b).medium.block blk

/-- A block of the data region written to the medium of bay `b`; a write makes it readable. -/
def State.setMedia (s : State) (b blk : Nat) (u : Unit4k) : State :=
  { s with drives := s.drives.upd b fun d => { d with medium := d.medium.put blk u } }

/-- The medium of bay `b` changed. -/
def State.updMedium (s : State) (b : Nat) (f : Medium → Medium) : State :=
  { s with drives := s.drives.upd b fun d => { d with medium := f d.medium } }

/-- A block of bay `b` that its drive cannot read any longer. -/
def State.badBlock (s : State) (b blk : Nat) : State :=
  s.updMedium b fun m => { m with blocks := Tab.upd m.blocks blk fun x => { x with bad := true } }

/-- What role `x` holds at block `off` of stripe `st`: none where its drive is none or the block is
unreadable. -/
def State.unitAt (s : State) (a : Arr) (st x off : Nat) : Option Unit4k :=
  match a.drive st x with
  | none => none
  | some b => (s.media b (a.memberBlk st off)).read

/-- The data units of stripe `st` at `off`, each read or reconstructed; none where the stripe cannot give
them (R159). -/
def State.stripeData (s : State) (a : Arr) (st off : Nat) : Option (List Unit4k) :=
  if a.mode.mirror then
    (List.range a.k).mapM fun j =>
      (List.range a.mode.copies).findSome? fun c => s.unitAt a st (a.dataRole st j c) off
  else
    gfRecover ((List.range a.k).map fun j => s.unitAt a st (a.dataRole st j 0) off)
      ((List.range a.m).map fun o => s.unitAt a st (a.parRole st o) off)

/-- What role `x` holds in a stripe whose data units at a block are `ds`; none for the spare slot's role. -/
def Arr.content (a : Arr) (st x : Nat) (ds : List Unit4k) : Option Unit4k :=
  if a.mode.mirror then ds[(x + a.n - st % a.n) % a.n % a.k]?
  else
    let q := (x + a.n - a.pd st) % a.n
    if q < a.m then some (parityOf q ds) else ds[q - a.m]?

/-- Role `x`'s unit at `off` written where `drive` puts it; left unwritten where that is none (R158,
R164). -/
def State.writeUnit (s : State) (a : Arr) (st x off : Nat) (u : Unit4k) : State :=
  match a.drive st x with
  | none => s
  | some b => s.setMedia b (a.memberBlk st off) u

end Sys2Proof.Machine
end

