-- ==== Sys2Proof/Machine/Tx.lean ====
section
/-! DEFINITION. Queue pairs and connections as senders: which group owns them (R64), the PSNs, paths, ports and extension
headers of what is sent on them (R72, R75, R78, R80), and the segments of a TCP stream (R92). -/

namespace Sys2Proof.Machine

/-- A queue reference names a TCP connection when bit 31 is set (Table 4-4, QREF). -/
def isTcp (q : Nat) : Bool := decide (2 ^ 31 ≤ q)
/-- The TCP connection that a queue reference names. -/
def connOf (q : Nat) : Nat := q - 2 ^ 31

/-- Tug group that owns QP table entry `i`, and TCP connection `c` (R64). -/
def qpGroup (i : Nat) : Nat :=
  (bitsOf i 0 3) ^^^ (bitsOf i 3 3) ^^^ (bitsOf i 6 3) ^^^ (bitsOf i 9 3) ^^^ (bitsOf i 12 3) ^^^ (7 * bitsOf i 15 1)
def connGroup (c : Nat) : Nat :=
  (bitsOf c 0 3) ^^^ (bitsOf c 3 3) ^^^ (bitsOf c 6 3) ^^^ (bitsOf c 9 3) ^^^ (bitsOf c 12 2)
/-- Tug group that owns what a queue reference names. -/
def refGroup (q : Nat) : Nat := if isTcp q then connGroup (connOf q) else qpGroup q

/-- A queue pair, a connection changed. -/
def State.qp (s : State) (i : Nat) : Qp := s.tug.qp.get i
def State.updQp (s : State) (i : Nat) (f : Qp → Qp) : State := s.updTug fun t => { t with qp := t.qp.upd i f }
def State.conn (s : State) (c : Nat) : Conn := s.tug.conn.get c
def State.updConn (s : State) (c : Nat) (f : Conn → Conn) : State :=
  s.updTug fun t => { t with conn := t.conn.upd c f }

/-- Payload bytes of a packet on the queue pair (Table 3-2, PMTU). -/
def Qp.mtu (q : Qp) : Nat := 256 * 2 ^ q.pmtu

/-- The path on which the packet with PSN `psn` goes: dealt over the live paths by their weights, 8 less what each
lacks; path 0 where none is live (R78, R80). -/
def Qp.deal (q : Qp) (psn : Nat) : Nat :=
  if q.spray then
    let l := (List.range q.npaths).flatMap fun p =>
      if (q.paths.get p).down then [] else List.replicate (8 - (q.paths.get p).short) p
    if l = [] then 0 else l.getD (psn % l.length) 0
  else 0

/-- UDP source port of a path (R78). -/
def Qp.sport (q : Qp) (path : Nat) : Nat := 0xC000 + (q.cfg.sportBase * 0x40 + path * 0x0101) % 0x4000

/-- The logical port that path k of a queue pair leaves on (R78). -/
def State.pathPort (s : State) (q : Qp) (k : Nat) : Nat :=
  let l := (s.mrd.hosts.get q.host).p.sprayPorts
  if l = [] then q.port else l.getD (k % l.length) q.port

/-- READ requests of the device's that wait for their data (Table 3-3). -/
def Qp.reads (q : Qp) : Nat := q.sent.countP fun t => t.read.isSome

/-- Packets that may still be sent: with spray, what the negotiated window has left of unacknowledged ones (R75). -/
def Qp.room (q : Qp) : Nat := if q.spray then 2 ^ q.winLog2 - (q.sent.map TxPkt.span).sum else 2 ^ 24

/-- Packets `next` to `next + k - 1` of a message, from the next PSN on. -/
def Qp.packets (q : Qp) (m : TxMsg) (k : Nat) : List TxPkt :=
  (List.range k).map fun i =>
    let p := (q.spsn + i) % 2 ^ 24
    ⟨p, q.deal p, false, m.msn, m.next + i, m.final, m.inval, 1, none⟩

/-- What leaves now of the messages that wait, in their order (R75): packets while the window has room, a READ request
while fewer than INIT_DEPTH wait for their data. -/
def Qp.issue : Nat → Qp → Qp × List TxPkt
  | 0, q => (q, [])
  | f + 1, q =>
    match q.sendQ with
    | [] => (q, [])
    | m :: rest =>
      match m.read with
      | some t =>
        if q.cfg.initDepth ≤ q.reads ∨ (q.room < m.n ∧ q.sent ≠ []) then (q, [])
        else
          let p : TxPkt := ⟨q.spsn, q.deal q.spsn, false, m.msn, 0, m.final, none, m.n, some t⟩
          let r := Qp.issue f { q with sendQ := rest, spsn := (q.spsn + m.n) % 2 ^ 24, sent := q.sent ++ [p] }
          (r.1, p :: r.2)
      | none =>
        let k := min (m.n - m.next) q.room
        let l := q.packets m k
        let q := { q with spsn := (q.spsn + k) % 2 ^ 24, sent := q.sent ++ l }
        if m.n ≤ m.next + k then
          let r := Qp.issue f { q with sendQ := rest }
          (r.1, l ++ r.2)
        else ({ q with sendQ := { m with next := m.next + k } :: rest }, l)

/-- The extension header of a packet on a queue pair with the extension, which is one that accepted RELAXED (R71,
R72). -/
def Qp.cxh (q : Qp) (final sack retx : Bool) (path msn idx : Nat) : Option Cxh :=
  if q.relaxed then some ⟨final, sack, retx, path, msn, idx⟩ else none

/-- A packet of a message leaves on its path (R72, R78), one sent again counted at its port (Table 11-5). -/
def State.emitPkt (s : State) (i : Nat) (t : TxPkt) (retx : Bool) : State :=
  let q := s.qp i
  let s := if retx then s.netCount (s.pathPort q t.path) 15 1 else s
  s.emit (.packet i t.psn (s.pathPort q t.path) (q.sport t.path) (q.cxh t.final false retx t.path t.msn t.idx) t.inval)

/-- Everything that may leave on a queue pair leaves (R75). -/
def State.pump (s : State) (i : Nat) : State :=
  let r := Qp.issue (s.qp i).sendQ.length (s.qp i)
  let s := s.updQp i fun _ => r.1
  if r.2 = [] then s else (r.2.foldl (fun s t => s.emitPkt i t false) s).tally 0x041 (qpGroup i) r.2.length

/-- A message of `bytes` bytes handed to a queue pair; on one that no longer sends, nothing is (R91). A READ takes the
PSNs of its responses. -/
def State.sendOn (s : State) (i bytes : Nat) (final : Bool) (inval : Option Nat) (read : Option ReadTag) : State :=
  let q := s.qp i
  if q.state = .rts ∨ q.state = .probation then
    (s.updQp i fun q => { q with
      smsn := (q.smsn + 1) % 2 ^ 24
      sendQ := q.sendQ ++ [⟨q.smsn, max 1 (ceilDiv bytes q.mtu), 0, final, inval, read⟩] }).pump i
  else s

/-- Bytes of TCP options in every segment: timestamps (Table 3-14). -/
def tcpOptions : Nat := 12

/-- Which segments in flight are lost (RFC 6675): three segments or more than two of the largest size above them are
marked received, or a timeout gave them up. -/
def lostMarks (mss : Nat) : List TxSeg → List (TxSeg × Bool)
  | [] => []
  | g :: l =>
    let above := l.filter TxSeg.sacked
    (g, !g.sacked && decide (g.lost ∨ 3 ≤ above.length ∨ 2 * mss < (above.map TxSeg.len).sum)) :: lostMarks mss l

/-- Bytes that are on their way (RFC 6675, pipe). -/
def Conn.pipe (c : Conn) : Nat :=
  ((lostMarks c.mss c.segs).map fun g =>
    if g.1.sacked then 0 else (if g.2 then 0 else g.1.len) + (if g.1.again then g.1.len else 0)).sum

/-- Bytes sent and not acknowledged; bytes that wait. -/
def Conn.flight (c : Conn) : Nat := (c.sndNxt + 2 ^ 32 - c.sndUna) % 2 ^ 32
def Conn.unsent (c : Conn) : Nat := (c.sndEnd + 2 ^ 32 - c.sndNxt) % 2 ^ 32

/-- The segments that leave now (RFC 5681, RFC 6675): during recovery the lost ones first, then new ones, while the
congestion window and the peer's window have room. Nagle is off (Table 3-14). -/
def Conn.issue : Nat → Conn → Conn × List TxSeg
  | 0, c => (c, [])
  | f + 1, c =>
    match (lostMarks c.mss c.segs).find? fun g => c.recover.isSome && g.2 && !g.1.again with
    | some g =>
      if c.cwnd < c.pipe + g.1.len then (c, [])
      else
        let again : TxSeg := { g.1 with again := true }
        let r := Conn.issue f { c with segs := c.segs.map fun x => if x.seq = g.1.seq then again else x }
        (r.1, again :: r.2)
    | none =>
      let n := min c.mss c.unsent
      if n = 0 ∨ c.cwnd < c.pipe + n ∨ c.peerWnd < c.flight + n then (c, [])
      else
        let g : TxSeg := ⟨c.sndNxt, n, false, false, false⟩
        let r := Conn.issue f { c with segs := c.segs ++ [g], sndNxt := (c.sndNxt + n) % 2 ^ 32 }
        (r.1, g :: r.2)

/-- A segment of the stream leaves; the first new one after the window was reduced for ECN carries CWR (RFC 3168). -/
def State.emitSeg (s : State) (c : Nat) (g : TxSeg) : State :=
  let cwr := (s.conn c).cwr && !g.again
  let s := (s.emit (.tcp c (.segment g.seq g.len g.again cwr))).tally (if g.again then 0x042 else 0x041) (connGroup c) 1
  let s := if g.again then s.netCount (s.conn c).port 15 1 else s
  if cwr then s.updConn c fun x => { x with cwr := false } else s

/-- Everything that may leave on a connection leaves. -/
def State.pumpTcp (s : State) (c : Nat) : State :=
  let x := s.conn c
  let r := Conn.issue (x.unsent / max 1 x.mss + x.segs.length + 2) x
  r.2.foldl (fun s g => s.emitSeg c g) (s.updConn c fun _ => r.1)

/-- Bytes handed to a connection's stream. -/
def State.stream (s : State) (c n : Nat) : State :=
  (s.updConn c fun x => { x with sndEnd := (x.sndEnd + n) % 2 ^ 32 }).pumpTcp c

/-- A PDU with 24 bytes of header and `data` bytes handed to a connection's stream, with the digests it negotiated
(R92). -/
def State.sendPdu (s : State) (c data : Nat) : State :=
  let x := s.conn c
  let dd := x.ddgst && data != 0
  let n := 24 + (if x.hdgst then 4 else 0) + data + (if dd then 4 else 0)
  if x.isOpen && !x.closing then (s.emit (.tcp c (.pdu x.hdgst dd n))).stream c n else s

/-- A response capsule leaves on a queue's transport: FINAL where the queue pair is relaxed (R77), with the key it
invalidates (Table 3-3). It waits for no acknowledgement. -/
def State.sendResp (s : State) (q : Nat) (inval : Option Nat) : State :=
  if isTcp q then s.sendPdu (connOf q) 0 else s.sendOn q 16 true inval none

/-- Bytes placed at the host: RDMA WRITEs that are not FINAL, or C2HData on TCP (R27, R77, R92). -/
def State.sendBytes (s : State) (q bytes : Nat) : State :=
  if isTcp q then s.sendPdu (connOf q) bytes else s.sendOn q bytes false none none

/-- Read data placed at the host. -/
def State.sendData (s : State) (q cid : Nat) (l : List Sector) (bytes : Nat) : State :=
  (s.emit (.readSectors q cid l)).sendBytes q bytes

/-- Write data asked for: an RDMA READ, or R2T on TCP (Table 3-3, Table 4-5). -/
def State.sendFetch (s : State) (b q cid bytes : Nat) : State :=
  let s := s.emit (.fetchData q cid)
  if isTcp q then s.sendPdu (connOf q) 0 else s.sendOn q bytes false none (some (.fetch b))

/-- A SEND with immediate, or a step, handed to a queue pair. -/
def State.sendRcMsg (s : State) (q : Nat) (m : RcMsg) (bytes : Nat) (final : Bool) (read : Option ReadTag) : State :=
  (s.emit (.rcMsg q m)).sendOn q bytes final none read
def State.sendImm (s : State) (q imm : Nat) (payload : List Byte) : State :=
  s.sendRcMsg q (.sendImm imm payload) payload.length false none

/-- The data of a READ of the device's has come: the request is complete, and without spray all that was sent before it
is acknowledged. -/
def Qp.readDone (q : Qp) (t : ReadTag) : Qp :=
  let cut := if q.spray then q.sent else match q.sent.findIdx? fun x => x.read == some t with
    | some i => (q.sent.take i).filter (fun x => x.read.isSome) ++ q.sent.drop i
    | none => q.sent
  { q with sent := cut.filter fun x => x.read != some t }
def State.readEnds (s : State) (i : Nat) (t : ReadTag) : State := (s.updQp i fun q => q.readDone t).pump i

end Sys2Proof.Machine
end

