-- ==== Sys2Proof/Machine/Deferred.lean ====
section
/-! DEFINITION. Completions and asynchronous events towards hosts, and deferred write errors
(02_host_face.md, R44, R48, R51 to R55). -/

namespace Sys2Proof.Machine

/-- A queue changed. -/
def State.updQueue (s : State) (q : Nat) (f : Queue → Queue) : State :=
  s.updHost fun h => { h with queue := h.queue.upd q f }

/-- An association changed. -/
def State.updAssoc (s : State) (c : Nat) (f : Assoc → Assoc) : State :=
  s.updHost fun h => { h with assoc := h.assoc.upd c f }

/-- A completion capsule on a queue, with the head as it stands (R48); the identifier is free again. -/
def State.respond (s : State) (q cid : Nat) (st : Status) : State :=
  ((s.emit (.response q cid (s.host.queue.get q).sqhd st)).sendResp q none).updQueue q fun e =>
    { e with cids := e.cids.erase cid }

/-- A completion status of Table 2-4. -/
def Status.mk' (sct sc : Nat) (dnr : Bool) : Status := ⟨sct, sc, dnr, 0⟩

abbrev St.ok : Status := ⟨0, 0, false, 0⟩
abbrev St.invalidOpcode : Status := ⟨0, 0x01, true, 0⟩
abbrev St.invalidField : Status := ⟨0, 0x02, true, 0⟩
/-- Command Sequence Error of NVMe: a command before authentication, or one that comes too late (log entry 37). -/
abbrev St.sequence : Status := ⟨0, 0x0C, true, 0⟩
abbrev St.cidConflict : Status := ⟨0, 0x03, true, 0⟩
abbrev St.dataTransfer : Status := ⟨0, 0x04, false, 0⟩
abbrev St.abortRequested : Status := ⟨0, 0x07, false, 0⟩
abbrev St.failedFused : Status := ⟨0, 0x09, false, 0⟩
abbrev St.missingFused : Status := ⟨0, 0x0A, true, 0⟩
abbrev St.invalidNs : Status := ⟨0, 0x0B, true, 0⟩
abbrev St.writeProtected : Status := ⟨0, 0x20, true, 0⟩
abbrev St.interrupted : Status := ⟨0, 0x21, false, 0⟩
abbrev St.transientTransport : Status := ⟨0, 0x22, false, 0⟩
abbrev St.lbaRange : Status := ⟨0, 0x80, true, 0⟩
abbrev St.nsNotReady (dnr : Bool) : Status := ⟨0, 0x82, dnr, 0⟩
abbrev St.resvConflict : Status := ⟨0, 0x83, true, 0⟩
abbrev St.aerLimit : Status := ⟨1, 0x05, true, 0⟩
abbrev St.connectBusy : Status := ⟨1, 0x81, false, 0⟩
abbrev St.connectInvalid : Status := ⟨1, 0x82, true, 0⟩
abbrev St.unrecoveredRead : Status := ⟨2, 0x81, false, 0⟩
abbrev St.guardCheck : Status := ⟨2, 0x82, true, 0⟩
abbrev St.appTagCheck : Status := ⟨2, 0x83, true, 0⟩
abbrev St.refTagCheck : Status := ⟨2, 0x84, true, 0⟩
abbrev St.compareFailure : Status := ⟨2, 0x85, true, 0⟩
abbrev St.deferredWrite : Status := ⟨7, 0xC0, false, 0⟩
abbrev St.sealedIntegrity : Status := ⟨7, 0xC1, true, 0⟩
abbrev St.arrayOffline : Status := ⟨7, 0xC2, true, 0⟩

/-- A parked Asynchronous Event Request of association `c` completed with an event (R44, R54): its type,
information and log page. No further event of the page until the page has been read. -/
def State.postAen (s : State) (c type info page : Nat) : State :=
  let a := s.host.assoc.get c
  match a.aers with
  | cid :: l =>
    if a.live ∧ page ∉ a.unread then
      let s := s.updAssoc c fun a => { a with aers := l, unread := page :: a.unread }
      s.respond a.adminQ cid ⟨0, 0, false, type + info * 256 + page * 65536⟩
    else s
  | [] => s

/-- An event on every association that meets `p`. -/
def State.postAens (s : State) (p : Assoc → Bool) (type info page : Nat) : State :=
  (s.host.assoc.keysWhere fun _ a => p a).foldl (fun s c => s.postAen c type info page) s

/-- A host's deferred-error counts changed. -/
def State.updLog (s : State) (h : Nat) (f : HostLog → HostLog) : State :=
  s.updHost fun x => { x with log := x.log.upd h f }

/-- One host's side of a deferred entry (R51, R54): its mark, GENERATION, and LOST where it holds 256
already; the vendor event of log page C0h, whose information the manual leaves open. -/
def State.deferFor (s : State) (h nsid : Nat) : State :=
  let s := s.updLog h fun l =>
    { l with
      generation := l.generation + 1
      held := min 256 (l.held + 1)
      lost := if 256 ≤ l.held then l.lost + 1 else l.lost
      marks := if l.marks.contains nsid then l.marks else l.marks ++ [nsid] }
  s.tick.postAens (fun a => a.live && a.host == h) 7 (s.freeVal % 256) 0xC0

/-- A deferred entry recorded (R51, R54): held for each of its hosts that holds fewer than 256. -/
def State.defer (s : State) (e : Deferred) : State :=
  let full := e.hosts.filter fun h => decide (256 ≤ (s.host.log.get h).held)
  let keep := e.hosts.filter fun h => !full.contains h
  let s := e.hosts.foldl (fun s h => s.deferFor h e.nsid) s
  if keep = [] then s
  else s.updHost fun x => { x with deferred := x.deferred ++ [{ e with hosts := keep }] }

/-- What the deferred-error log of array `i` holds now (R53). -/
def State.deferLog (s : State) (i : Nat) : DeferLog :=
  { entries := s.host.deferred.filter fun e => e.array == i
    marks := s.host.log.flatMap fun h => (h.2.marks.filter fun n => (s.mrd.ns.get n).array == i).map fun n => (h.1, n)
    blks := (s.host.lostBlks.filter fun e => e.1 == i).map fun e => e.2
    counts := s.host.log.map fun h => (h.1, h.2.generation, h.2.lost) }

/-- The drive of a bay is present and takes operations, or is on the ladder: DRV_STATE READY or LADDER. -/
def State.driveHere (s : State) (b : Nat) : Bool :=
  s.fld (Fld.DRV_STATE_STATE b) == 4 || s.fld (Fld.DRV_STATE_STATE b) == 5

/-- Bays of the ONLINE roles whose drives are present. -/
def State.onlineBays (s : State) (a : Arr) : List Nat :=
  (a.roles.filter fun r => r.state == .online).filterMap fun r => r.bay.filter fun b => s.driveHere b

/-- A change of the deferred-error log of array `i` written to the area of every ONLINE role, or, where the array is
OFFLINE, its marks to the moorings (R176). -/
def State.putArea (s : State) (i : Nat) : State :=
  let a := s.mrd.arr.get i
  let log := s.deferLog i
  let old := (s.ary.get i).area
  if a.state = .none ∨ a.state = .creating ∨ old.log = log then s
  else
    let area : DeferArea := ⟨old.seq + 1, log⟩
    let s := s.updAry i fun r => { r with area := area }
    if a.state = .offline then s.moor (.marks i { log with entries := [], blks := [] })
    else (s.onlineBays a).foldl (fun s b => { s with drives := s.drives.upd b fun d =>
      { d with medium := { d.medium with defer := area } } }) s

/-- The change of the deferred-error logs written where each array keeps it (R53, R176). -/
def State.keepDefer (s : State) : State := s.mrd.arr.keys.foldl State.putArea s

/-- The deferred-error log of array `i` as it was kept, in force again (R53, R176, R191). -/
def State.restoreDefer (s : State) (i : Nat) (g : DeferLog) : State :=
  let others := s.host.deferred.filter fun e => e.array != i
  let all := others ++ g.entries
  let hosts := (s.host.log.keys ++ g.counts.map (·.1) ++ g.marks.map (·.1)).eraseDups
  let s := s.updHost fun x => { x with
    deferred := all
    lostBlks := (x.lostBlks.filter fun e => e.1 != i) ++ g.blks.map fun b => (i, b) }
  let of := fun (m : List Nat) (h : Nat) => (m.filter fun n => (s.mrd.ns.get n).array != i) ++
    (g.marks.filter fun p => p.1 == h).map (·.2)
  hosts.foldl (fun s h => s.updLog h fun l =>
    let c := (g.counts.find? fun p => p.1 == h).map (·.2)
    { l with
      generation := max l.generation (c.elim 0 (·.1))
      lost := max l.lost (c.elim 0 (·.2))
      held := all.countP fun e => e.hosts.contains h
      marks := of l.marks h }) s

/-- Lost blocks of one namespace as runs: first block, count, hosts. Each block comes with its host, blocks
rising (R186). -/
def runsOf : List (Nat × Nat) → List (Nat × Nat × List Nat)
  | [] => []
  | (b, h) :: l =>
    match runsOf l with
    | (c, n, hs) :: rs =>
      if c = b + 1 then (b, n + 1, if hs.contains h then hs else h :: hs) :: rs
      else (b, 1, [h]) :: (c, n, hs) :: rs
    | [] => [(b, 1, [h])]

/-- Logical blocks in one 4 KiB block of a namespace. -/
def Namespace.perBlk (n : Namespace) : Nat := if n.lbaf = 1 ∨ n.lbaf = 3 then 8 else 1

/-- Namespace block that array data block `b` holds. -/
def Namespace.blkOf (n : Namespace) (e b : Nat) : Nat := n.ext.idxOf (b / e) * e + b % e

/-- A lost block of array `i`: its place in the array's data, the host it is held against (R51), its namespace. -/
structure LostBlk where
  blk : Nat
  host : Nat
  nsid : Nat
  deriving DecidableEq, Repr, Inhabited

/-- Deferred entries for lost blocks of array `i` (R51, R186): one for each run of blocks of one namespace in one stripe
of `w` data blocks. -/
def State.deferBlocks (s : State) (i w : Nat) (l : List LostBlk) (cause : Nat) : State :=
  let e := 256 * w
  let keys := (l.map fun p => (p.blk / w, p.nsid)).eraseDups
  (keys.foldl (fun s k =>
    let n := s.mrd.ns.get k.2
    let mine := sortBy (fun p => p.blk) (l.filter fun p => p.blk / w == k.1 && p.nsid == k.2)
    let f := n.perBlk
    (runsOf (mine.map fun p => (p.blk, p.host))).foldl (fun s r =>
      s.defer { hosts := r.2.2, nsid := k.2, slba := n.blkOf e r.1 * f, nlb := r.2.1 * f,
                time := s.stamp / 1000000, array := i, cause := cause, claimed := [] }) s)
    (s.updHost fun x => { x with
      lostBlks := x.lostBlks ++ ((l.map fun p => (i, p.blk, p.nsid)).filter fun e => !x.lostBlks.contains e) })).putArea i

/-- A read of array data block `b` fails for a deferred error, whose namespace still exists (R55). -/
def State.deferredAt (s : State) (i b : Nat) : Bool := s.host.lostBlks.any fun e => e.1 == i && e.2.1 == b

/-- A completed write takes the block out of the ranges in which reads fail (R55). -/
def State.undefer (s : State) (i b : Nat) : State :=
  if s.deferredAt i b then
    (s.updHost fun x => { x with lostBlks := x.lostBlks.filter fun e => !(e.1 == i && e.2.1 == b) }).putArea i
  else s

end Sys2Proof.Machine
end

