-- ==== Sys2Proof/Machine/Pairs.lean ====
section
/-! DEFINITION. Ledger pairs, the lines of stripe interlocks, and the gather buffer (06_arrays.md R163; 07_ledger.md R173,
R182, R183). -/

namespace Sys2Proof.Machine

/-- Drive group of a bay (R20). -/
def groupOf (b : Nat) : Nat := b / 3

/-- A new pair of two roles, flagged where their bays share a drive group (R173). -/
def newPair (bay : Nat → Nat) (i j : Nat) : Pair :=
  ⟨i, j, .two, groupOf (bay i) == groupOf (bay j), true, true⟩

/-- The pairs of R173 from the unpaired roles, `keep` of which form the triangle. -/
def formPairs (bay : Nat → Nat) (keep : Nat) : Nat → List Nat → List Pair
  | 0, _ => []
  | f + 1, l =>
    if l.length ≤ keep then
      match l with
      | [a, b, c] => [newPair bay a b, newPair bay b c, newPair bay c a]
      | _ => []
    else match l with
      | i :: rest =>
        match (rest.find? fun j => groupOf (bay j) != groupOf (bay i)).or rest.head? with
        | some j => newPair bay i j :: formPairs bay keep f (rest.erase j)
        | none => []
      | [] => []

/-- A pair of array `i` and what it holds, both changed. -/
def State.updPair (s : State) (i p : Nat) (f : PairRun → PairRun) : State :=
  s.updAry i fun r => { r with pairs := r.pairs.upd p f }

/-- The pair's live state. -/
def State.pairRun (s : State) (i p : Nat) : PairRun := (s.ary.get i).pairs.get p

/-- The array's moored record, replaced without mooring. -/
def State.putArr (s : State) (i : Nat) (a : Arr) : State := s.updMrd fun m => { m with arr := m.arr.set i a }

/-- The array's record as it stands is a moored change, with cursor, counts and scrub position (R164). -/
def State.moorArr (s : State) (i : Nat) : State :=
  let a := s.mrd.arr.get i
  let old := (s.ary.get i).mooredPairs
  let s := (s.moor (.arr i a)).updAry i fun r =>
    { r with mooredCursor := a.cursor, mooredScrub := a.scrubPos, mooredPairs := a.pairs }
  if s.isActive ∧ s.partnerAlive ∧ old ≠ a.pairs then
    s.updPeer fun p => { p with pairTables := p.pairTables ++ [(i, s.store.seq)] }
  else s

/-- A prompt entry of the array is not yet acknowledged: its next rebuild stripe waits (R318). -/
def State.arrPrompt (s : State) (i : Nat) : Bool := s.pair.prompts.any fun e => match e.change with
  | .arr j _ => j == i
  | _ => false

/-- A member that holds its place in a stripe's line still needs it: a rebuild on its cursor's stripe, a scrub on its
position's (R163, R165, R169). -/
def State.wantsStripe (s : State) (i st : Nat) (h : Holder) : Bool :=
  let a := s.mrd.arr.get i
  match h with
  | .rebuild => a.state == .rebuilding && a.cursor == st && !s.flag (Fld.ARY_REBUILD_CFG_HOLD i)
  | .scrub => a.state == .optimal && a.scrubPos == st && (s.ary.get i).scrubbing && s.flag (Fld.ARY_SCRUB_CFG_EN i)
  | _ => true

/-- The stripe's interlock asked for by `h`: holders are served in the order they asked (R163). -/
def State.lockStripe (s : State) (i st : Nat) (h : Holder) : State :=
  s.updAry i fun r => { r with locks := if (st, h) ∈ r.locks then r.locks else r.locks ++ [(st, h)] }

/-- The holder of the stripe's interlock: the first in its line. -/
def State.stripeHolder (s : State) (i st : Nat) : Option Holder :=
  ((s.ary.get i).locks.find? fun l => l.1 == st && s.wantsStripe i st l.2).map Prod.snd

/-- The interlock released, or a place in its line given up; a waiting berth that now holds it is in RUN again (R163,
Table 4-3). -/
def State.unlockStripe (s : State) (i st : Nat) (h : Holder) : State :=
  let s := s.updAry i fun r => { r with locks := r.locks.filter fun l => l.1 != st || (l.2 != h && s.wantsStripe i st l.2) }
  match s.stripeHolder i st with
  | some (.berth b) => s.updBrg fun g => { g with berth := g.berth.upd b fun e =>
      if e.state = .held then { e with state := .run } else e }
  | _ => s

/-- Gather slots in use on the device (LDG_GATHER_STAT). -/
def State.slotsUsed (s : State) : Nat :=
  (s.ary.map fun e => (e.2.gather.map fun g => g.2.slots.length + g.2.running.length).sum).sum

/-- Slots the gather buffer holds: SIZE_GIB of 4 KiB slots (R182). -/
def State.slotsMax (s : State) : Nat := s.fld Fld.LDG_GATHER_CFG_SIZE_GIB * 262144

/-- The gather slot of block `r` of stripe `st`: the one written last, else the one that is being destaged (R180,
R183). -/
def State.slotAt (s : State) (i st r : Nat) : Option GatherSlot :=
  let e := (s.ary.get i).gather.get st
  (e.slots ++ e.running).find? fun g => g.blk == r

/-- Some slot of a stripe is in use. -/
def GatherStripe.inUse (e : GatherStripe) : Bool := !e.slots.isEmpty || !e.running.isEmpty

/-- A stripe's entry with a slot written; the slot keeps the higher record number (R182). -/
def GatherStripe.put (e : GatherStripe) (now : Nat) (g : GatherSlot) : GatherStripe :=
  match e.slots.find? (fun o => o.blk == g.blk) with
  | some o =>
    if g.rn < o.rn then e else { e with slots := e.slots.map fun o => if o.blk = g.blk then g else o }
  | none => { e with slots := e.slots ++ [g], since := if e.slots = [] then now else e.since }

/-- A stripe's entry without the slots that meet `p`. -/
def GatherStripe.drop (e : GatherStripe) (p : GatherSlot → Bool) : GatherStripe :=
  let l := e.slots.filter fun g => !p g
  if l = [] then { e with slots := [], since := 0, due := none, order := 0 } else { e with slots := l }

/-- A stripe's gather entry changed. -/
def State.updGather (s : State) (i st : Nat) (f : GatherStripe → GatherStripe) : State :=
  s.updAry i fun r => { r with gather := r.gather.upd st f }

/-- A gather slot written (R182). -/
def State.putSlot (s : State) (i st : Nat) (g : GatherSlot) : State :=
  s.updGather i st fun e => e.put s.now g

/-- Slots of a stripe freed. -/
def State.dropSlots (s : State) (i st : Nat) (p : GatherSlot → Bool) : State :=
  s.updGather i st fun e => e.drop p

/-- A stripe's destage becomes due for a cause (R183): the first cause stands, but a bypass, which DESTAGE_MAX does not
hold back, comes before every other. -/
def State.destageDue (s : State) (i st : Nat) (c : DestageCause) : State :=
  let e := (s.ary.get i).gather.get st
  if e.slots = [] ∨ (e.due.isSome ∧ c ≠ .bypass) then s
  else
    let n := (s.ary.get i).causes + 1
    (s.updAry i fun r => { r with causes := n }).updGather i st fun e => { e with due := some c, order := n }

/-- The stripe of the device whose oldest slot is the oldest, among those whose destage is not due: array,
stripe, time (R183). -/
def State.oldestStripe (s : State) : Option (Nat × Nat × Nat) :=
  s.ary.foldl (fun b e => e.2.gather.foldl (fun (b : Option (Nat × Nat × Nat)) g =>
    if g.2.slots = [] ∨ g.2.due.isSome then b
    else match b with
      | none => some (e.1, g.1, g.2.since)
      | some c => if g.2.since < c.2.2 then some (e.1, g.1, g.2.since) else b) b) none

end Sys2Proof.Machine
end

