-- ==== Sys2Proof/Machine/Plan.lean ====
section
/-! DEFINITION. Drive operations on their way to drives: which queue and bay take them, what is planned again while a
bay is on the ladder, and the idle timers they restart (12_drive_ports.md, R278, R281, R286; 06_arrays.md, R159). -/

namespace Sys2Proof.Machine

/-- Array to which the bay belongs (R147). -/
def State.bayArray (s : State) (b : Nat) : Option Nat :=
  (s.mrd.arr.find? fun e => e.2.roles.any fun r => r.bay == some b || r.target == .bay b).map Prod.fst

/-- The bay's drive takes operations: READY, or on rung 1 of the ladder (Table 12-6, R281), on a device that may write
to drives (Table 14-1). -/
def State.bayTakes (s : State) (b : Nat) : Bool := !s.isStandby && (
  s.fld (Fld.DRV_STATE_STATE b) == 4 ||
    (s.fld (Fld.DRV_STATE_STATE b) == 5 && decide (s.fld (Fld.DRV_STATE_RUNG b) ≤ 1)))

/-- The bay is on rung 2 or 3 (R281). -/
def State.bayLaddered (s : State) (b : Nat) : Bool :=
  s.fld (Fld.DRV_STATE_STATE b) == 5 && decide (2 ≤ s.fld (Fld.DRV_STATE_RUNG b))

/-- An action on a bay's drive or link. -/
def State.driveCtl (s : State) (b : Nat) (a : DriveAct) : State := s.emit (.driveCtl b a)

/-- An operation on the array: both idle timers restart, and members in PS1 or PS2 go back to PS0 (R286). -/
def State.arrActive (s : State) (i : Nat) : State :=
  let sent := (s.idle.get i).stage != 0
  let s := { s with idle := s.idle.set i ⟨0, some (s.reg (Reg.DRV_IDLE_CFG i))⟩ }
  if !sent then s
  else ((s.mrd.arr.get i).roles.filterMap (·.bay)).foldl (fun s b =>
    if s.fld (Fld.DRV_STATE_PS b) = 0 then s else (s.setFld (Fld.DRV_STATE_PS b) 0).driveCtl b (.powerState 0)) s

/-- The roles that hold a copy of data unit `j` of stripe `st` on a drive, in the order in which the read of turn `turn`
takes them (R159). -/
def Arr.copyOrder (a : Arr) (st j turn : Nat) : List Nat :=
  let l := ((List.range a.mode.copies).map fun c => a.dataRole st j c).filter fun x => (a.drive st x).isSome
  l.drop (turn % max 1 l.length) ++ l.take (turn % max 1 l.length)

/-- The bay from which the read of turn `turn` takes data unit `j` of stripe `st`: the unit's own drive, or one of its
available copies, in rotation across reads (R159). -/
def Arr.readCopy (a : Arr) (st j turn : Nat) : Option Nat := ((a.copyOrder st j turn).filterMap (a.drive st)).head?

/-- Roles in the order in which a parity mode reads them to reconstruct a unit of stripe `st` (R159). -/
def Arr.readOrder (a : Arr) (st : Nat) : List Nat :=
  ((List.range a.k).map fun j => a.dataRole st j 0) ++ (List.range a.m).map fun o => a.parRole st o

/-- An operation as planned. -/
def planOp (b blk : Nat) (write : Bool) : PlanOp := ⟨b, blk, write, false, false, false, 0, none⟩

/-- Reads that take the place of operation `o` on a bay that is lost or laddered: none where its stripe would be beyond
redundancy with the laddered bays counted as unavailable (R158, R159, R281). -/
def State.survivors (s : State) (a : Arr) (o : PlanOp) : Option (List PlanOp) :=
  let st := (o.blk - dataBase) / a.u
  let out := (List.range a.n).filter fun x => (a.drive st x).any fun b => b == o.bay || s.bayLaddered b
  let from_ := fun (x : Nat) => (a.drive st x).filter fun b => b != o.bay && !s.bayLaddered b
  let mine := fun (x : Nat) => (a.role x).bay == some o.bay || (a.role x).target == .bay o.bay
  let op := fun (b : Nat) => planOp b o.blk false
  if a.beyond st out then none
  else if a.mode.mirror then
    ((List.range a.k).find? fun j => (List.range a.mode.copies).any fun c => mine (a.dataRole st j c)).map fun j =>
      (((List.range a.mode.copies).filterMap fun c => from_ (a.dataRole st j c)).take 1).map op
  else some ((((a.readOrder st).filterMap from_).take a.k).map op)

/-- What a drive is asked to do: a read, a write, or a write with FUA where its cache stays on (R277). -/
def State.opKind (s : State) (o : PlanOp) : Nat :=
  if !o.write then 0 else if s.flag (Fld.DRV_STATE_FUA_FORCED o.bay) then 2 else 1

/-- Operation `i` of a berth issued on I/O queue 1 + (e mod Q) of its bay (R278). On a laddered bay a write waits and
a read is planned again where it can be (R281). Writes go out once their data has been given to the write path. -/
def State.issueOp (s : State) (b : Nat) (i : Nat) : State :=
  let e := s.berth b
  match e.ops[i]? with
  | none => s
  | some o =>
    if o.finished || o.onDrive || o.replanned || (o.write && !e.placed) then s
    else if s.bayTakes o.bay then
      let q := 1 + e.owner % max 1 (s.fld (Fld.DRV_QUEUES_IOQ o.bay))
      let s := (s.bayArray o.bay).elim s s.arrActive
      let s := s.updPwr fun p => { p with driveOps := true }
      (s.emit (.driveOp o.bay o.blk (s.opKind o) q)).updBerth b fun x =>
        { x with ops := x.ops.set i { o with onDrive := true } }
    else if s.bayLaddered o.bay && !o.write then
      match s.survivors (s.mrd.arr.get e.ns.array) o with
      | none => s
      | some l => s.updBerth b fun x => { x with ops := x.ops.set i { o with replanned := true } ++ l }
    else s

/-- A berth's operations that are not on a drive issued (R111). Those planned in place of others go out in the second
pass. -/
def State.issueOps (s : State) (b : Nat) : State :=
  let s := (List.range (s.berth b).ops.length).foldl (fun s i => s.issueOp b i) s
  let s := (List.range (s.berth b).ops.length).foldl (fun s i => s.issueOp b i) s
  s.updBerth b fun x => { x with issued := true }

/-- Every operation of a berth that has not finished issued again (R111, R113). -/
def State.reissueOps (s : State) (b : Nat) : State :=
  (s.updBerth b fun x => { x with ops := x.ops.map fun o => { o with onDrive := false } }).issueOps b

/-- Operations outstanding on a bay: those of berths, and segments being written to it. -/
def State.outstanding (s : State) (b : Nat) : Nat :=
  let ops := (s.brg.berth.map fun e => e.2.ops.countP fun o => o.bay == b && o.onDrive && !o.finished).sum
  let segs := (s.mrd.arr.map fun e => (e.2.pairs.zipIdx.map fun q =>
    let r := (s.ary.get e.1).pairs.get q.2
    r.segs.countP fun g =>
      (e.2.ringBay q.1.roleA == some b && g.toA && !g.onA) ||
      (e.2.ringBay q.1.roleB == some b && g.toB && !g.onB)).sum).sum
  ops + segs

/-- Operations counted by bay (Table 19-1). -/
def State.tallyOps (s : State) (l : List PlanOp) : State :=
  l.foldl (fun s o => (s.tally (if o.write then 0x101 else 0x100) o.bay 4096).tally 0x102 o.bay 1) s

end Sys2Proof.Machine
end

