-- ==== Sys2Proof/Machine/Rings.lean ====
section
/-! DEFINITION. The rings on the members, their headers, segments and record numbers, and the steps of a destage that
their records order (07_ledger.md R175 to R189). -/

namespace Sys2Proof.Machine

/-- An unused entry of the pair table. -/
def noPair : Pair := ⟨0, 0, .unused, false, false, false⟩

/-- Pair `p` of an array. -/
def Arr.pair (a : Arr) (p : Nat) : Pair := a.pairs.getD p noPair

/-- Role `x` holds an available copy of a pair. -/
def Pair.holds (q : Pair) (x : Nat) : Bool := (q.roleA == x && q.liveA) || (q.roleB == x && q.liveB)

/-- What stands on role `x`'s ring from its tail on, in blocks: what LDG_RING_OCC counts (R187, log entry 60). -/
def State.ringBlocks (s : State) (i x : Nat) : Nat := ((s.ary.get i).rings.get x).ents.map (·.size) |>.sum

/-- The ring's tail: where its oldest segment begins. -/
def RingRun.tail (r : RingRun) : Nat := r.ents.head?.elim r.head (·.off)

/-- Where a segment of `n` blocks goes: at the head, or at the ring's start where it would wrap the end; none while it
would reach the tail (R177). -/
def RingRun.place (r : RingRun) (n : Nat) : Option Nat :=
  match r.ents.head? with
  | none => some (if r.head + n ≤ ringSize then r.head else 0)
  | some e =>
    if e.off < r.head then
      if r.head + n ≤ ringSize then some r.head else if n ≤ e.off then some 0 else none
    else if r.head + n ≤ e.off then some r.head else none

/-- A segment's copy put at the ring's head. -/
def RingRun.push (r : RingRun) (e : RingEnt) : RingRun := ⟨e.off + e.size, r.ents ++ [e]⟩

/-- The ledger header of role `x` (Table 7-16). LOW of a pair without live segments is the next SSEQ (log entry 60). -/
def State.headerOf (s : State) (i x hseq : Nat) : LdgHeader :=
  let a := s.mrd.arr.get i
  let r := (s.ary.get i).rings.get x
  { array := i, role := x, pairs := a.pairs.map fun q => (q.roleA, q.roleB, q.sameGroup), hseq := hseq, gen := a.gen
    tail := r.tail, rnLimit := (s.ary.get i).rnLimit
    low := a.pairs.zipIdx.map fun q =>
      if q.1.holds x then
        ((r.ents.find? fun e => e.pair == q.2).map (·.sseq)).getD ((s.pairRun i q.2).nextSseq + 1)
      else 0 }

/-- A header written on role `x`'s member (R175), while the array is not OFFLINE or SALVAGED (R161, R167). -/
def State.writeHeader (s : State) (i x : Nat) : State :=
  let a := s.mrd.arr.get i
  match a.ringBay x with
  | some b =>
    if s.driveHere b ∧ a.state ≠ .offline ∧ a.state ≠ .salvaged then s.updMedium b fun m => m.putHeader (s.headerOf i x (m.header.elim 1 fun h => h.hseq + 1)) else s
  | none => s

/-- A header written on every ONLINE member, and on every target that carries a ring (R173, R178). -/
def State.writeHeaders (s : State) (i : Nat) : State :=
  (List.range (s.mrd.arr.get i).n).foldl (fun s x => s.writeHeader i x) s

/-- Every copy the segment is written to has completed. -/
def Segment.durable (g : Segment) : Bool := (!g.toA || g.onA) && (!g.toB || g.onB)

/-- The records that the next segment of a pair takes: at most 62, without DATA while the pair is not TWO
(R177, R188). -/
def PairRun.nextRecs (r : PairRun) (two : Bool) : List LedgerRec :=
  (r.waiting.filter fun x => two || x.kind != 1).take 62

/-- The order of R177 lets the pair's next segment go: none that stands SEG_INFLIGHT or more before it is open. -/
def PairRun.mayIssue (r : PairRun) (infl : Nat) : Bool :=
  r.segs.all fun g => g.durable || decide (r.nextSseq + 1 < g.sseq + infl)

/-- Ring block for `n` blocks on role `x`, where its ring has room for them within RING_LIMIT_MIB (R177, R187). -/
def State.ringRoom (s : State) (i x n : Nat) : Option Nat :=
  if s.ringBlocks i x + n ≤ s.fld Fld.LDG_CFG_RING_LIMIT_MIB * 256 then ((s.ary.get i).rings.get x).place n else none

/-- One copy of a segment on its way to role `x`: its ring space taken, its write issued, its data blocks handed to the
drive group (R23, R177). -/
def State.sendCopy (s : State) (i x off p sseq : Nat) (recs : List LedgerRec) : State :=
  let n := segBlocks recs
  let s := s.updAry i fun e => { e with rings := e.rings.upd x fun r => r.push ⟨off, n, p, sseq⟩ }
  match (s.mrd.arr.get i).ringBay x with
  | some b => ((s.emit (.segment b (ringStart + off) n)).tally 0x0E2 i (n * 4096)).tally 0x081 (32 + groupOf b) (16 * (n - 1))
  | none => s

/-- The ring's tail is pinned by records that no RETIRE entry covers yet: the stripes of a ring at 75 % of its limit
become due in ring order (R183). -/
def State.ringCause (s : State) (i x : Nat) : State :=
  if s.ringBlocks i x < s.fld Fld.LDG_CFG_RING_LIMIT_MIB * 192 then s
  else ((s.ary.get i).rings.get x).ents.foldl (fun s e =>
    match (s.pairRun i e.pair).segs.find? fun g => g.sseq == e.sseq with
    | some g => (g.recs.filter fun r => r.kind == 1).foldl (fun s r => s.destageDue i r.stripe .ring) s
    | none => s) s

/-- A segment opened from the records that wait, on every available copy (R177): in order, within SEG_INFLIGHT, and with
room on its rings (R187). -/
def State.segIssue (s : State) (i p : Nat) : State :=
  let a := s.mrd.arr.get i
  let q := a.pair p
  let r := s.pairRun i p
  let recs := r.nextRecs (q.state == .two)
  let infl := s.fld Fld.LDG_CFG_SEG_INFLIGHT
  let n := segBlocks recs
  let at_ := fun (x : Nat) (live : Bool) => if live then s.ringRoom i x n else some 0
  match at_ q.roleA q.liveA, at_ q.roleB q.liveB with
  | some oa, some ob =>
    if recs = [] ∨ !r.mayIssue infl ∨ !(q.liveA || q.liveB) then s
    else
      let sseq := r.nextSseq + 1
      let s := if q.liveA then s.sendCopy i q.roleA oa p sseq recs else s
      let s := if q.liveB then s.sendCopy i q.roleB ob p sseq recs else s
      let s := s.updPair i p fun r =>
        { r with
          nextSseq := sseq
          segs := r.segs ++ [⟨sseq, infl, a.gen, s.stamp / 1000000, recs, q.liveA, q.liveB, false, false, oa, ob, false, 0,
            s.fld Fld.CNL_AGE_CFG_RETRY⟩]
          waiting := r.waiting.filter fun x => !recs.contains x }
      let s := if q.liveA then s.ringCause i q.roleA else s
      if q.liveB then s.ringCause i q.roleB else s
  | _, _ => s

/-- Highest RETIRE bound for a stripe among segments. -/
def retireBound (segs : List Segment) (st : Nat) : Nat :=
  segs.foldl (fun b g => g.recs.foldl (fun b r => if r.kind = 4 ∧ r.stripe = st then max b r.rn else b) b) 0

/-- A RETIRE entry for the stripe stands after segment `q`, or in it. -/
def retiredAfter (segs : List Segment) (q st : Nat) : Bool :=
  segs.any fun g => decide (q ≤ g.sseq) && g.recs.any fun r => r.kind == 4 && r.stripe == st

/-- The segment is reclaimable (R187). -/
def reclaimable (segs : List Segment) (g : Segment) : Bool :=
  g.durable && g.recs.all fun r =>
    match r.kind with
    | 1 | 2 => decide (r.rn ≤ retireBound segs r.stripe)
    | 3 => retiredAfter segs g.sseq r.stripe
    | _ => true

/-- What stands on a ring at `e` need not be read any more. -/
def State.entDead (s : State) (i : Nat) (e : RingEnt) : Bool :=
  let segs := (s.pairRun i e.pair).segs
  (segs.filter fun g => g.sseq == e.sseq).all fun g => reclaimable (segs.filter Segment.durable) g

/-- The tail of role `x`'s ring moves past reclaimable segments in ring order, with a header that records it (R175,
R187). -/
def State.moveTail (s : State) (i x : Nat) : State :=
  let l := ((s.ary.get i).rings.get x).ents
  let left := l.dropWhile (s.entDead i)
  if left.length = l.length then s
  else (s.updAry i fun e => { e with rings := e.rings.upd x fun r => { r with ents := left } }).writeHeader i x

/-- A copy of segment `sseq` of pair `p` stands on some ring. -/
def State.onRing (s : State) (i p sseq : Nat) : Bool :=
  (s.ary.get i).rings.any fun e => e.2.ents.any fun x => x.pair == p && x.sseq == sseq

/-- Tails moved on every ring; a segment that every tail has passed is gone (R187). -/
def State.reclaim (s : State) (i : Nat) : State :=
  let s := (List.range (s.mrd.arr.get i).n).foldl (fun s x => s.moveTail i x) s
  s.updAry i fun e => { e with pairs := e.pairs.mapAll fun p r =>
    { r with segs := r.segs.filter fun g => s.onRing i p g.sseq } }

/-- A record stands in a segment that is durable on every copy it was written to. -/
def PairRun.holds (r : PairRun) (p : LedgerRec → Bool) : Bool := r.segs.any fun g => g.durable && g.recs.any p

/-- A record waits, or flies in a segment. -/
def PairRun.flying (r : PairRun) (p : LedgerRec → Bool) : Bool :=
  r.waiting.any p || r.segs.any fun g => !g.durable && g.recs.any p

/-- Something that a write with record numbers `lo` to `lo + n - 1` has left to the ledger is not durable yet: a DATA
record, or the RETIRE entry of a whole stripe (R181); a record that goes by the bypass and is not retired (R460); blocks
that bypass the ledger and are not destaged with their RETIRE entry (R26, R178, R189). -/
def State.rnOpen (s : State) (i lo n : Nat) : Bool :=
  let mine := fun (rn : Nat) => decide (lo ≤ rn ∧ rn < lo + n)
  let hit := fun (r : LedgerRec) => (r.kind == 1 || r.kind == 4) && mine r.rn
  ((s.ary.get i).pairs.any fun e => e.2.flying hit || e.2.segs.any fun g => g.bypass && g.recs.any fun r =>
      r.kind == 1 && mine r.rn && decide (retireBound (e.2.segs.filter Segment.durable) r.stripe < r.rn)) ||
    (s.ary.get i).gather.any fun e =>
      (e.2.due == some .bypass && e.2.slots.any fun g => mine g.rn) ||
        (e.2.cause == some .bypass && e.2.running.any fun g => mine g.rn)

/-- Berths whose records have become durable, and those that wait for room, are in RUN again (R26, R178, R182,
R187). -/
def State.wakeLedger (s : State) (i : Nat) : State :=
  s.updBrg fun g => { g with berth := g.berth.mapAll fun _ b =>
    if b.state = .wait ∧ (b.waits = .room ∨
        (b.waits = .ops ∧ b.placed ∧ 0 < b.rnN ∧ b.ns.array = i ∧ b.opsReady ∧ !s.rnOpen i b.rn b.rnN)) then
      { b with state := .run, waits := .nothing } else b }

/-- Highest record number among slots. -/
def maxRn (l : List GatherSlot) : Nat := l.foldl (fun b g => max b g.rn) 0

/-- A destage's end, once its RETIRE entry is durable (R184): its slots are free, records of its stripe that it covers and
that still wait are void (R189), its interlock is released. -/
def State.destageEnd (s : State) (i st : Nat) : State :=
  let bound := maxRn ((s.ary.get i).gather.get st).running
  let s := s.updGather i st fun g =>
    if g.slots = [] then default else { g with running := [], cause := none, at_ := .none, attempts := 0, retries := 0 }
  let s := s.updPair i ((s.mrd.arr.get i).pairOf st) fun r =>
    { r with waiting := r.waiting.filter fun x => !(x.kind == 1 && x.stripe == st && decide (x.rn ≤ bound)) }
  s.unlockStripe i st .destage

/-- The records that destages wait for have become durable: RECON and DSTART, then RETIRE (R184). -/
def State.settleDestages (s : State) (i : Nat) : State :=
  (s.ary.get i).gather.foldl (fun s e =>
    let r := s.pairRun i ((s.mrd.arr.get i).pairOf e.1)
    let waits := fun (l : List Nat) => r.flying fun x => x.stripe == e.1 && l.contains x.kind
    match e.2.at_ with
    | .marking => if waits [2, 3] then s else s.updGather i e.1 fun g => { g with at_ := .writing }
    | .retiring => if waits [4] then s else s.destageEnd i e.1
    | _ => s) s

/-- What follows once records of the array have become durable, or a copy need no longer complete: tails move, destages
and writes go on. -/
def State.settleLedger (s : State) (i : Nat) : State := ((s.reclaim i).settleDestages i).wakeLedger i

/-- A segment's copy as it stands on a ring. -/
def Segment.onDrive (g : Segment) (i p : Nat) : RingSeg := ⟨i, p, g.infl, g.gen, g.sseq, g.time, g.recs, []⟩

/-- A copy of a segment is on its drive. -/
def State.landCopy (s : State) (i p x off : Nat) (g : Segment) : State :=
  match (s.mrd.arr.get i).ringBay x with
  | some b => s.updMedium b fun m => m.putSeg off (g.onDrive i p)
  | none => s

/-- A segment's write to one copy completed (R177). -/
def State.segDone (s : State) (i p sseq : Nat) (copyA : Bool) : State :=
  let q := (s.mrd.arr.get i).pair p
  match (s.pairRun i p).segs.find? fun g => g.sseq == sseq && (if copyA then g.toA && !g.onA else g.toB && !g.onB) with
  | none => s
  | some g =>
    let s := if copyA then s.landCopy i p q.roleA g.offA g else s.landCopy i p q.roleB g.offB g
    (s.updPair i p fun r => { r with segs := r.segs.map fun g =>
      if g.sseq = sseq then (if copyA then { g with onA := true } else { g with onB := true }) else g }).settleLedger i

/-- Segments issued and completed until no record of the pair waits that can be issued. -/
def State.flushPairN (s : State) (i p : Nat) : Nat → State
  | 0 => s
  | f + 1 =>
    let t := s.segIssue i p
    if (t.pairRun i p).nextSseq = (s.pairRun i p).nextSseq then s
    else
      let q := (t.pairRun i p).nextSseq
      ((t.segDone i p q true).segDone i p q false).flushPairN i p f

/-- Every record of the pair that waits made durable, within a replay (R192). -/
def State.flushPair (s : State) (i p : Nat) : State :=
  s.flushPairN i p ((s.pairRun i p).waiting.length + 1)

/-- Records that join the next segment of their stripe's pair (R177). -/
def State.addRecs (s : State) (i p : Nat) (l : List LedgerRec) : State :=
  s.updPair i p fun r => { r with waiting := r.waiting ++ l }

/-- A record without data (DSTART, RETIRE). -/
def mark (kind st rn : Nat) : LedgerRec := ⟨kind, 0, 0, 0, rn, st, 0, 0, 0⟩

/-- `n` record numbers drawn from the array's counter (R178): headers with RN_LIMIT raised by 2^40 are durable on every
ONLINE member before the counter reaches it. Answers the first. -/
def State.takeRn (s : State) (i n : Nat) : State × Nat :=
  let r := s.ary.get i
  let s := if r.rnLimit ≤ r.rnNext + n then (s.updAry i fun e => { e with rnLimit := e.rnLimit + 2 ^ 40 }).writeHeaders i
    else s
  (s.updAry i fun e => { e with rnNext := e.rnNext + n }, r.rnNext)

/-- The write that a record number belongs to has completed, as far as its ledgered part goes. -/
def State.rnAcked (s : State) (i rn : Nat) : Bool :=
  !(s.brg.berth.any fun e => !e.2.admin && e.2.ns.array == i && decide (e.2.rn ≤ rn ∧ rn < e.2.rn + e.2.rnN) &&
    (!e.2.placed || s.rnOpen i e.2.rn e.2.rnN))

/-- The newest of the records of each block. -/
def newestRecs (l : List LedgerRec) : List LedgerRec :=
  l.filter fun r => !l.any fun q => q.stripe == r.stripe && q.blk == r.blk && decide (r.rn < q.rn)

/-- The newest acknowledged record of every ledgered block that has not been retired, as the ledger shows it (R51). -/
def State.ackedRecs (s : State) (i : Nat) : List LedgerRec :=
  newestRecs ((s.ary.get i).pairs.flatMap fun e =>
    let done := e.2.segs.filter Segment.durable
    (done.flatMap fun g => g.recs).filter fun r =>
      r.kind == 1 && decide (retireBound done r.stripe < r.rn) && s.rnAcked i r.rn)

/-- A record's block as a lost block of the array. -/
def Arr.lostBlk (a : Arr) (r : LedgerRec) : LostBlk := ⟨r.stripe * (a.k * a.u) + r.blk, r.host, r.nsid⟩

/-- The causes of R183 that a new slot can raise: the whole stripe, the gather buffer at 90 % (oldest stripe first). A
ring's occupancy is looked at when a segment opens. -/
def State.destageCauses (s : State) (i st : Nat) : State :=
  let a := s.mrd.arr.get i
  let e := (s.ary.get i).gather.get st
  let s := if a.k * a.u ≤ e.slots.length then s.destageDue i st .whole else s
  if s.slotsMax * 9 ≤ s.slotsUsed * 10 then
    match s.oldestStripe with
    | some c => s.destageDue c.1 c.2.1 .gather
    | none => s
  else s

end Sys2Proof.Machine
end

