-- ==== Sys2Proof/Machine/Array.lean ====
section
/-! DEFINITION. What happens to an array: loss of members, the redundancy rule, targets and the rebuild set,
ledger copies, and reads and writes of blocks on the members (06_arrays.md R154 to R169, 07_ledger.md R184,
R188). -/

namespace Sys2Proof.Machine

/-- DRV_STATE.STATE is READY. -/
def State.driveReady (s : State) (b : Nat) : Bool := s.fld (Fld.DRV_STATE_STATE b) == 4

/-- The drive in the bay meets R148, with the metadata size `m64` where one is asked for. -/
def State.driveFits (s : State) (b : Nat) (m64 : Option Bool) : Bool :=
  let d := (s.drives.get b).id
  d.lba4k && d.wzDealloc && (m64.getD d.meta64 == d.meta64)

/-- The first check of R148 and R277 that a drive fails, 0 where it fails none: 1 block format, 2 Write Zeroes with
deallocation, 3 queue pairs, 4 MDTS, 5 fused Compare and Write on a witness (the numbers are log entry 48). Its link was
checked before. -/
def State.failedCheck (s : State) (b : Nat) (id : DriveId) : Nat :=
  let witness := (List.range (s.fld Fld.AQD_PAIR_CFG_WITNESSES)).any fun i => s.fld (Fld.AQD_WITNESS_BAY i) == b
  if !id.lba4k then 1 else if !id.wzDealloc then 2 else if id.ioqGrant < 4 then 3 else if id.mdtsKib < 128 then 4
  else if witness && !id.fusedCw then 5 else 0

/-- What the receipt says of a bay whose drive is turned down: the bay, and of a REFUSED drive the failed check (R148,
R277). -/
def State.badBay (s : State) (b : Nat) : List (List Byte) :=
  beBytes 1 b :: if s.fld (Fld.DRV_STATE_STATE b) = 7 then [beBytes 1 (s.failedCheck b (s.drives.get b).id)] else []

/-- Pool to which the bay belongs (R154). -/
def State.bayPool (s : State) (b : Nat) : Option Nat :=
  (s.mrd.pools.find? fun e => e.2.contains b).map Prod.fst

/-- One role's entry changed. -/
def Arr.setRole (a : Arr) (x : Nat) (f : Role → Role) : Arr :=
  { a with roles := (List.range a.roles.length).zip a.roles |>.map fun p => if p.1 = x then f p.2 else p.2 }

/-- The label of role `x` (Table 6-17). -/
def Arr.label (a : Arr) (i x : Nat) : Label :=
  { array := i, mode := a.mode, n := a.n, k := a.k, d := a.d, unit := a.unit, member := x, pool := a.pool, gen := a.gen
    stripes := a.stripes, bays := a.roles.map fun r => r.bay.getD 0x3F }

/-- A label written to the drive of a bay, where it is present; none overwrites it (R150, R464). -/
def State.putLabel (s : State) (b : Nat) (l : Option Label) : State :=
  if s.driveHere b then s.updMedium b fun m => m.putLabel l else s

/-- Labels with the array's generation written to every member and target whose drive is present (R150). -/
def State.writeLabels (s : State) (i : Nat) : State :=
  let a := s.mrd.arr.get i
  a.roles.zipIdx.foldl (fun s p =>
    let put := fun (s : State) (b : Nat) => s.putLabel b (some (a.label i p.2))
    let s := match p.1.state, p.1.bay with
      | .online, some b => put s b
      | _, _ => s
    match p.1.target with
    | .bay b => put s b
    | _ => s) s

/-- The generation incremented and the labels written (R150). -/
def State.bumpGen (s : State) (i : Nat) : State :=
  let a := s.mrd.arr.get i
  (s.putArr i { a with gen := a.gen + 1 }).writeLabels i

/-- The state of Table 6-3 that the roles give an array in service. -/
def Arr.settled (a : Arr) : ArrState :=
  match a.state with
  | .optimal | .degraded | .rebuilding =>
    if a.roles.any fun r => r.state == .rebuilding || r.state == .restoring then .rebuilding
    else if a.roles.any fun r => r.state == .missing then .degraded else .optimal
  | st => st

/-- ARY_STATE.STATE follows the roles; the change is moored (R162, R164). -/
def State.settle (s : State) (i : Nat) : State :=
  let a := s.mrd.arr.get i
  (s.putArr i { a with state := a.settled }).moorArr i

/-- A command whose completion is not posted ends: with success where it is a ledgered write whose copies had all
completed, else with Array Offline. Operations on a drive run to their end, and nothing more comes of them (R161). -/
def Berth.endOffline (b : Berth) (done : Bool) : Berth :=
  { b with
    status := if b.ledger && b.placed && b.opsReady && done then St.ok else St.arrayOffline
    checkpoint := 7, failed := true, state := .run
    ops := b.ops.map fun o => if o.onDrive then o else { o with finished := true } }

/-- Commands on the array at its OFFLINE transition (R161). -/
def State.offlineBerths (s : State) (i : Nat) : State :=
  let mine := fun (b : Berth) =>
    let n := if 3 ≤ b.checkpoint then b.ns else s.mrd.ns.get b.cmd.nsid
    (b.state == .run || b.state == .wait || b.state == .held) && !b.claim && !b.admin && n.present && n.array == i
  let step := fun (_ : Nat) (b : Berth) => if mine b then b.endOffline (!s.rnOpen i b.rn b.rnN) else b
  s.updBrg fun g => { g with berth := g.berth.mapAll step }

/-- The array goes OFFLINE (R160, R161): deferred entries for every acknowledged write not yet destaged (R51), the marks
moored (R176); rebuild, scrub and destages at an end; the ledger region untouched. -/
def State.offline (s : State) (i : Nat) : State :=
  let a := s.mrd.arr.get i
  if a.state = .offline ∨ a.state = .salvaged ∨ a.state = .none then s else
  let lost := (s.ackedRecs i).map a.lostBlk
  let s := (s.putArr i { a with state := .offline }).offlineBerths i
  let s := s.updAry i fun r => { r with area := { r.area with log := default } }
  ((s.deferBlocks i (a.k * a.u) lost 1).updAry i fun r => { r with gather := [], locks := [], scrubbing := false }).moorArr i

/-- Spare pool bays a role of the array may take (R154, steps 1 to 4): the best first. -/
def State.poolBest (s : State) (a : Arr) (p : Nat) : Option Nat :=
  let fit := (s.mrd.pools.get p).filter fun b => s.driveReady b && s.driveFits b (some a.meta64) &&
    decide (dataBase + a.stripes * a.u ≤ (s.drives.get b).id.capacity)
  let inGroup := fun b => a.roles.countP fun r =>
    match r.bay with
    | some c => decide (groupOf c = groupOf b) && r.state != .missing
    | none => false
  (sortBy (fun b => (inGroup b * 2 ^ 64 + (s.drives.get b).id.capacity) * 64 + b) fit).head?

/-- Role `x` joins the rebuild set with a target; cursor and counts are moored at once (R164). The target carries the
role's label. -/
def State.join (s : State) (i x : Nat) (t : Target) (st : RoleState) : State :=
  let a := s.mrd.arr.get i
  let a := a.setRole x fun r => { r with state := st, target := t, rem := a.stripes }
  let s := s.putArr i { a with subst := if t = .slot then some x else a.subst }
  let s := match t with
    | .bay b => s.putLabel b (some (a.label i x))
    | _ => s
  s.settle i

/-- A MISSING role seeks a target: the spare slot, then the pool (R154, R155). -/
def State.bindTarget (s : State) (i x : Nat) : State :=
  let a := s.mrd.arr.get i
  if (a.role x).state ≠ .missing ∨ (a.state ≠ .optimal ∧ a.state ≠ .degraded ∧ a.state ≠ .rebuilding) then s
  else if a.d && a.subst.isNone && !a.mode.mirror then s.join i x .slot .rebuilding
  else match a.pool.bind (fun p => (s.poolBest a p).map fun b => (p, b)) with
    | some (p, b) =>
      let s := s.moor (.pool p ((s.mrd.pools.get p).erase b))
      s.join i x (.bay b) .rebuilding
    | none => s

/-- One pair's entry changed. -/
def Arr.setPair (a : Arr) (p : Nat) (f : Pair → Pair) : Arr :=
  { a with pairs := (List.range a.pairs.length).zip a.pairs |>.map fun q => if q.1 = p then f q.2 else q.2 }

/-- The role that a SINGLE pair takes for its new copy (R188, steps 1 to 3): the lost role with a bay target
or ONLINE again, else an ONLINE role outside the pair. -/
def Arr.candidate (a : Arr) (q : Pair) : Option Nat :=
  let lost := if q.liveA then q.roleB else q.roleA
  let kept := if q.liveA then q.roleA else q.roleB
  let usable := match (a.role lost).state, (a.role lost).target with
    | .online, _ => true
    | .rebuilding, .bay _ => true
    | _, _ => false
  if usable then some lost
  else
    let grp := fun x => groupOf ((a.role x).bay.getD 0)
    let held := fun x => a.pairs.countP fun r => r.roleA == x || r.roleB == x
    let ok := (List.range a.n).filter fun x =>
      (a.role x).state == .online && x != q.roleA && x != q.roleB
    (sortBy (fun x => ((if grp x = grp kept then 1 else 0) * 64 + held x) * 64 + x) ok).head?

/-- Pairs with one lost copy and no candidate seek one; copying starts (R188, Table 7-7). -/
def State.seekCopies (s : State) (i : Nat) : State :=
  (List.range (s.mrd.arr.get i).pairs.length).foldl (fun s p =>
    let a := s.mrd.arr.get i
    let q := a.pair p
    if q.state = .single then
      match a.candidate q with
      | some x =>
        let grp := fun x => groupOf ((a.role x).bay.getD 0)
        let q' := if q.liveA then { q with roleB := x } else { q with roleA := x }
        let s := s.putArr i (a.setPair p fun _ =>
          { q' with state := .repairing, sameGroup := grp q'.roleA == grp q'.roleB })
        s.updPair i p fun r => { r with repairA := !q.liveA, copyPos := 0 }
      | none => s
    else s) s

/-- The DATA records of a pair that are in no segment durable on both copies: their writes go by the bypass (R189,
R460). -/
def PairRun.unsafeRecs (r : PairRun) : List LedgerRec :=
  (r.waiting ++ (r.segs.filter fun g => !(g.toA && g.onA && g.toB && g.onB)).flatMap fun g => g.recs).filter fun r =>
    r.kind == 1

/-- Role `x` no longer holds its copies of the pair's segments; what stood in segments not yet durable on both copies
goes by the bypass (R460). -/
def PairRun.loseRole (r : PairRun) (q : Pair) (x : Nat) : PairRun :=
  { r with segs := r.segs.map fun g =>
      let g := if g.durable && g.toA && g.toB then g else { g with bypass := true }
      if q.roleA = x then { g with toA := false, onA := false } else { g with toB := false, onB := false } }

/-- Role `x` no longer holds its ledger copies (R188); writes whose records are not durable on both copies of a pair are
destaged at once (R189, R460). -/
def State.loseCopies (s : State) (i x : Nat) : State :=
  let s := (List.range (s.mrd.arr.get i).pairs.length).foldl (fun s p =>
    let a := s.mrd.arr.get i
    let q := a.pair p
    if q.roleA = x ∨ q.roleB = x then
      let q' := { q with liveA := q.liveA && q.roleA != x, liveB := q.liveB && q.roleB != x }
      let q' := { q' with state := if q'.liveA || q'.liveB then .single else .lost }
      let l := if q.state = .two then (s.pairRun i p).unsafeRecs else []
      let s := (s.putArr i (a.setPair p fun _ => q')).updPair i p fun r => r.loseRole q x
      l.foldl (fun s r => s.destageDue i r.stripe .bypass) s
    else s) s
  (s.updAry i fun r => { r with rings := r.rings.set x default }).settleLedger i

/-- Drive operations to a bay of an array, whose record was `a`, no longer run (R158): a write's unit is left unwritten, a
read is planned again from the survivors. -/
def State.dropOps (s : State) (a : Arr) (bay : Nat) : State :=
  let hit := fun (o : PlanOp) => o.bay == bay && !o.finished
  let s := (s.berths fun b => b.ops.any hit).foldl (fun s b =>
    let e := s.berth b
    let more := if e.issued then (e.ops.filter fun o => hit o && !o.write && !o.replanned).flatMap fun o =>
      (s.survivors a o).getD [] else []
    let ops := (e.ops.map fun o => if hit o then { o with finished := true, onDrive := false } else o) ++ more
    let ready := { e with ops := ops }.opsReady && e.state == .wait && e.waits == .ops && !e.placed
    let s := s.updBerth b fun x => { x with ops := ops, state := if ready then .run else x.state }
    if e.issued then s.issueOps b else s) s
  s.mrd.arr.keys.foldl State.wakeLedger s

/-- ARRAY_CREATE does not reach its commit point: labels erased, bays free, the receipt names the bay
(Table 6-3, CREATING). -/
def State.dropCreating (s : State) (i bay : Nat) (st : MStat) : State :=
  let s := ((s.mrd.arr.get i).roles.filterMap (·.bay)).foldl (fun s b => s.putLabel b none) s
  let s := s.updMrd fun m => { m with arr := m.arr.set i default }
  let s := { s with ary := s.ary.set i default }
  s.finishOn 0x0301 (.array, i) st [beBytes 1 bay]

/-- The bay that carries the role's operations: its target while it is being rebuilt, else its own. -/
def Role.liveBay (r : Role) : Option Nat :=
  match r.target with
  | .bay b => some b
  | _ => r.bay

/-- Losses of members so far (R154). -/
def State.losses (s : State) : Nat :=
  s.mrd.arr.foldl (fun m e => e.2.roles.foldl (fun m r => max m r.lost) m) 0

/-- Role `x` MISSING in the array's record, the `n`th member lost; the slot it used is free. -/
def Arr.miss (a : Arr) (x n : Nat) : Arr :=
  { a.setRole x (fun r => { r with state := .missing, target := .none, rem := 0, lost := n }) with
    subst := if a.subst = some x then none else a.subst }

/-- The redundancy test after a loss, and a target for the role within redundancy (R160, R188, R154). -/
def State.afterLoss (s : State) (i x : Nat) : State :=
  let a := s.mrd.arr.get i
  if a.state = .offline ∨ a.state = .salvaged then s.moorArr i
  else if a.anyBeyond = true ∨ a.pairs.any (fun q => q.state == .lost) = true then s.offline i
  else (((s.settle i).bindTarget i x).seekCopies i).moorArr i

/-- Role `x` becomes MISSING (R157): its operations, its member's media errors, its generation step, its ledger copies,
then the test (R150, R158, R188). -/
def State.loseRole (s : State) (i x : Nat) : State :=
  let a := s.mrd.arr.get i
  match a.state, (a.role x).liveBay with
  | .creating, b => s.dropCreating i (b.getD 63) .notAvailable
  | _, b =>
    let s := s.putArr i (a.miss x (s.losses + 1))
    let s := b.elim s fun b =>
      (s.dropOps a b).updAry i fun r => { r with mediaErrs := r.mediaErrs.filter fun e => e.1 != b }
    ((s.bumpGen i).loseCopies i x).afterLoss i x

/-- The drive in a bay is gone or failed: the role it holds is lost, or its role's target is (R157, Table
6-3). -/
def State.bayLost (s : State) (b : Nat) : State :=
  match s.bayArray b with
  | none => s
  | some i =>
    let a := s.mrd.arr.get i
    match (List.range a.n).find? (fun x =>
        (a.role x).target == .bay b || ((a.role x).bay == some b && (a.role x).state == .online)) with
    | some x => s.loseRole i x
    | none => s

/-- Roles that are MISSING in arrays in service: array and role, in the order their members were lost (R154). -/
def State.lostRoles (s : State) : List (Nat × Nat) :=
  (sortBy (fun p => p.1) (s.mrd.arr.flatMap fun e =>
    if e.2.state = .degraded ∨ e.2.state = .rebuilding then
      (e.2.roles.zipIdx.filter fun r => r.1.state == .missing).map fun r => (r.1.lost, e.1, r.2)
    else [])).map (·.2)

/-- They seek a target again: a spare was added or a pool bay became READY (R154, Table 6-3). -/
def State.bindSpares (s : State) : State :=
  let l := s.lostRoles
  (l.map (·.1)).eraseDups.foldl State.seekCopies (l.foldl (fun s p => s.bindTarget p.1 p.2) s)

/-- A repaired read error of the member in bay `b` counts against ARY_MEDIA_CFG.MEDIA_ERR_MAX over 24 h (R157, R159). -/
def State.mediaError (s : State) (i b : Nat) : State :=
  let s := (s.count (Fld.ARY_ERR_STAT_READ_REPAIRED i) 1).tally 0x0E5 i 1
  let s := s.updAry i fun r => { r with
    mediaErrs := (r.mediaErrs.filter fun e => decide (s.now ≤ e.2 + 86400000000000)) ++ [(b, s.now)] }
  let mx := s.fld (Fld.ARY_MEDIA_CFG_MEDIA_ERR_MAX i)
  if mx ≠ 0 ∧ mx < ((s.ary.get i).mediaErrs.countP fun e => e.1 == b) then s.bayLost b else s

/-- Roles of `l` whose block is there and unreadable. -/
def State.unreadable (s : State) (a : Arr) (st off : Nat) (l : List Nat) : List Nat :=
  l.filter fun x => (a.drive st x).isSome && (s.unitAt a st x off).isNone

/-- Roles read to reconstruct a block of stripe `st` of a parity mode, in the order of R159, until `k` give it: those
found unreadable. -/
def State.foundBad (s : State) (a : Arr) (st off : Nat) : List Nat :=
  let rec go : Nat → List Nat → List Nat
    | _, [] => []
    | 0, _ => []
    | k + 1, x :: l =>
      match a.drive st x, s.unitAt a st x off with
      | none, _ => go (k + 1) l
      | some _, none => x :: go (k + 1) l
      | some _, some _ => go k l
  go a.k (a.readOrder st)

/-- Every role that holds a data or redundant unit, or a copy, of stripe `st`. -/
def Arr.unitRoles (a : Arr) (st : Nat) : List Nat :=
  if a.mode.mirror then
    (List.range a.k).flatMap fun j => (List.range a.mode.copies).map fun c => a.dataRole st j c
  else a.readOrder st

/-- Blocks returned unreadable at `off` rewritten with the reconstructed content (R159). -/
def State.repair (s : State) (i st off : Nat) (bad : List Nat) (ds : List Unit4k) : State :=
  bad.foldl (fun s x =>
    let a := s.mrd.arr.get i
    match a.content st x ds, a.drive st x with
    | some u, some b => (s.setMedia b (a.memberBlk st off) u).mediaError i b
    | _, _ => s) s

/-- A mirror's unit at block `off`: its copies in turn; those unreadable before the first that gives it are repaired
(R159). -/
def State.readCopies (s : State) (i st j off turn : Nat) : State × Option Unit4k :=
  let a := s.mrd.arr.get i
  let l := a.copyOrder st j turn
  match l.findSome? fun x => s.unitAt a st x off with
  | none => (s, none)
  | some u =>
    let bad := l.takeWhile fun x => (s.unitAt a st x off).isNone
    (if a.state = .salvaged then s else bad.foldl (fun s x =>
      match a.drive st x with
      | some b => (s.setMedia b (a.memberBlk st off) u).mediaError i b
      | none => s) s, some u)

/-- Data unit `j` of stripe `st` at block `off`, as the members give it (R159): read from its own drive or a copy, or
reconstructed with the unreadable blocks repaired. None where the stripe is beyond redundancy: the array goes OFFLINE,
unless it is SALVAGED (R160, R168). -/
def State.readUnit (s : State) (i st j off turn : Nat) : State × Option Unit4k :=
  let a := s.mrd.arr.get i
  let fail := fun (s : State) => if a.state = .salvaged then s else s.offline i
  if a.mode.mirror then
    match s.readCopies i st j off turn with
    | (t, some u) => (t, some u)
    | (t, none) => (fail t, none)
  else match s.unitAt a st (a.dataRole st j 0) off with
  | some u => (s, some u)
  | none =>
    match s.stripeData a st off with
    | none => (fail s, none)
    | some ds =>
      let s := (s.count (Fld.ARY_ERR_STAT_DEGRADED_READS i) 1).tally 0x0E4 i 1
      (if a.state = .salvaged then s else s.repair i st off (s.foundBad a st off) ds, ds[j]?)

/-- New data written at block `off` of stripe `st`, with the redundant units of the whole new stripe (R158,
Table 7-4): none where the stripe cannot be read. -/
def State.writeOff (s : State) (i st off : Nat) (l : List (Nat × Unit4k)) : Option State :=
  let a := s.mrd.arr.get i
  let new := fun j => (l.find? fun p => p.1 == j).map Prod.snd
  if a.mode.mirror then
    some (l.foldl (fun s p => (List.range a.mode.copies).foldl (fun s c =>
      s.writeUnit a st (a.dataRole st p.1 c) off p.2) s) s)
  else
    let old := if (List.range a.k).all fun j => (new j).isSome then some (List.replicate a.k 0)
      else s.stripeData a st off
    old.map fun ds =>
      let ds' := ((List.range a.k).zip ds).map fun p => (new p.1).getD p.2
      let s := l.foldl (fun s p => s.writeUnit a st (a.dataRole st p.1 0) off p.2) s
      (List.range a.m).foldl (fun s o => s.writeUnit a st (a.parRole st o) off (parityOf o ds')) s

/-- Blocks of one stripe, each with its place in the stripe's data, written with parity. The array goes
OFFLINE where the stripe cannot be read; the answer says whether all were written. A written block leaves the
deferred ranges (R55). -/
def State.writeStripe (s : State) (i st : Nat) (l : List (Nat × Unit4k)) : State × Bool :=
  let u := (s.mrd.arr.get i).u
  (l.map fun p => p.1 % u).eraseDups.foldl (fun (r : State × Bool) off =>
    if !r.2 then r
    else match r.1.writeOff i st off ((l.filter fun p => p.1 % u == off).map fun p => (p.1 / u, p.2)) with
      | some t => (t, true)
      | none => (r.1.offline i, false)) (s, true)

end Sys2Proof.Machine
end

