-- ==== Sys2Proof/Machine/ArrayRows.lean ====
section
/-! DEFINITION. The array manifests, rebuild and scrub (06_arrays.md, R147 to R172). -/

namespace Sys2Proof.Machine

/-- The array exists. -/
def State.arrThere (s : State) (a : Nat) : Bool := (s.mrd.arr.get a).state != .none

/-- The check of R459 for an opcode that acts on an array: within the table, and there. -/
def State.onArray (s : State) (a : Nat) (k : State → MRes) : MRes :=
  if 16 ≤ a then .fail .outOfRange [beBytes 1 a]
  else if s.arrThere a then k s else .fail .invalidState [beBytes 1 a]

/-- MEMBER_LOSS (R157). -/
def execMemberLoss (a : Fin 16) (role : Fin 32) (s : State) : Result :=
  let r := (s.mrd.arr.get a).role role
  if r.state = .online ∨ r.state = .rebuilding ∨ r.state = .restoring then .next (s.loseRole a role)
  else .next s

/-- Member capacity after which no block lies (R151): S. -/
def stripesOf (cap u : Nat) : Nat := 256 * ((cap - dataBase) / (256 * u))

/-- ARRAY_CREATE's checks and its first step (Table 6-3, Table 6-5, R148, R151, R173): labels and ledger headers written,
data regions zeroed, nothing left of what stood on the rings (log entry 60). The array is CREATING, which is not moored
(R465). -/
def arrayCreateBody (a : Nat) (mode : Mode) (bays : List Nat) (unit : Nat) (d : Bool) (pool : Nat)
    (s : State) : MRes :=
  let n := bays.length
  let m64 := (bays.head?.map fun b => (s.drives.get b).id.meta64)
  let u := 4 * 2 ^ unit
  let cap := (bays.map fun b => (s.drives.get b).id.capacity).min?.getD 0
  if 16 ≤ a then .fail .outOfRange [beBytes 1 a]
  else if s.arrThere a then .fail .duplicate [beBytes 1 a]
  else if bays = [] then .zero s []
  else match bays.find? (fun b => decide (48 ≤ b)) with
  | some b => .fail .outOfRange [beBytes 1 b]
  | none =>
  match bays.find? (fun b => (s.bayArray b).isSome || (s.bayPool b).isSome) with
  | some b => .fail .inUse [beBytes 1 b]
  | none =>
  match bays.find? (fun b => !(s.driveReady b && s.driveFits b m64)) with
  | some b => .fail .invalidParam (s.badBay b)
  | none =>
  if !mode.allowed n d ∨ 4 < unit ∨ !(decide (pool < 4) || pool == 7) ∨ !decide bays.Nodup then
    .fail .invalidParam [beBytes 1 mode.code]
  else if stripesOf cap u = 0 then .fail .invalidSize [beBytes 8 cap]
  else
    let bay := fun x => bays.getD x 0
    let arr : Arr :=
      { mode := mode, n := n, k := mode.k n d, d := d, unit := unit, pool := if pool = 7 then none else some pool,
        meta64 := m64.getD false, gen := 1, stripes := stripesOf cap u, state := .creating,
        roles := bays.map fun b => ⟨some b, .online, .none, 0, 0⟩, subst := none, cursor := 0, scrubPos := 0,
        pairs := formPairs bay (if n % 2 = 1 then 3 else 0) n (List.range n) }
    let t := bays.foldl (fun s b => s.updMedium b fun m => { (default : Medium) with lease := m.lease }) (s.putArr a arr)
    let t := { t with ary := t.ary.set a { (default : ArrRun) with rnNext := 1, rnLimit := 2 ^ 40, assembled := true } }
    .later ((t.writeLabels a).writeHeaders a) false

/-- ARRAY_CREATE (0x0301, R171). -/
def execArrayCreate (h : Hdr) (a : Nat) (mode : Mode) (bays : List Nat) (unit : Nat) (d : Bool) (pool : Nat)
    (s : State) : Result :=
  .next (s.manifest (.arrayCreate a mode bays unit d pool) h 0x0301
    ((.array, a) :: bays.map fun b => (.bay, b)) (arrayCreateBody a mode bays unit d pool))

/-- ARRAY_ZEROED (R465): the commit point, unless a drive no longer meets R148 (Table 6-3). -/
def execArrayZeroed (a : Fin 16) (s : State) : Result :=
  let arr := s.mrd.arr.get a
  if arr.state = .creating then
    match (arr.roles.filterMap (·.bay)).find? (fun b => !s.driveFits b (some arr.meta64)) with
    | some b => .next (s.dropCreating a b .invalidParam)
    | none =>
      let s := (s.putArr a { arr with state := .optimal }).moorArr a
      .next (s.finishOn 0x0301 (.array, a) .success [beBytes 8 arr.stripes, beBytes 8 (arr.stripes / 256)])
  else .next s

/-- ARRAY_DELETE's effects (Table 6-3): refused while a namespace lies on the array; labels erased, bays
freed. -/
def arrayDeleteBody (a : Nat) (s : State) : MRes := s.onArray a fun s =>
  if s.mrd.ns.any (fun e => e.2.present && e.2.array == a) then .fail .arrayBusy []
  else
    let t := ((s.mrd.arr.get a).roles.flatMap fun r =>
      r.bay.toList ++ (match r.target with
        | .bay b => [b]
        | _ => [])).foldl (fun s b => s.putLabel b none) s
    .ok ({ t with ary := t.ary.set a default }.moor (.arr a default)) []

/-- ARRAY_DELETE (0x0302, R171). -/
def execArrayDelete (h : Hdr) (a : Nat) (s : State) : Result :=
  .next (s.manifest (.arrayDelete a) h 0x0302 [(.array, a)] (arrayDeleteBody a))

/-- Codes of ARY_STATE.STATE (Table 6-7) and ARY_MEMBER.STATE (Table 6-15). -/
def ArrState.code : ArrState → Nat
  | .none => 0 | .creating => 1 | .optimal => 2 | .degraded => 3 | .rebuilding => 4 | .offline => 5
  | .salvaged => 6

def RoleState.code : RoleState → Nat
  | .unused => 0 | .online => 1 | .missing => 2 | .rebuilding => 3 | .slotted => 4 | .restoring => 5

/-- ARY_MEMBER.TARGET (Table 6-15). -/
def Target.code : Target → Nat
  | .none => 0x3F
  | .slot => 0x3E
  | .bay b => b

/-- State, members, targets, cursor, every rem and the generation (Table 6-5). -/
def arrayQueryBody (a : Nat) (s : State) : MRes := s.onArray a fun s =>
  let arr := s.mrd.arr.get a
  .ok s [beBytes 1 arr.state.code,
    arr.roles.flatMap fun r => beBytes 1 (r.bay.getD 0x3F) ++ beBytes 1 r.state.code,
    arr.roles.map fun r => BitVec.ofNat 8 r.target.code,
    beBytes 8 arr.cursor, arr.roles.flatMap fun r => beBytes 8 r.rem, beBytes 4 arr.gen]

/-- ARRAY_QUERY (0x0303, R171). -/
def execArrayQuery (h : Hdr) (a : Nat) (s : State) : Result :=
  .next (s.manifest (.arrayQuery a) h 0x0303 [(.array, a)] (arrayQueryBody a))

/-- SPARE_POOL_SET's effects (Table 6-5): the pool's bays replaced, their labels overwritten (R150), and
targets bound at once. -/
def sparePoolSetBody (p bays : Nat) (s : State) : MRes :=
  let l := bitSet 48 bays
  if 4 ≤ p then .fail .outOfRange [beBytes 1 p]
  else if 2 ^ 48 ≤ bays then .fail .outOfRange [beBytes 8 bays]
  else match l.find? (fun b => (s.bayArray b).isSome || (s.bayPool b).any (· != p)) with
  | some b => .fail .inUse [beBytes 1 b]
  | none =>
    let old := s.mrd.pools.get p
    let t := (l.filter fun b => !old.contains b).foldl (fun s b => s.putLabel b none) (s.moor (.pool p l))
    let bad := l.filter fun b => !(s.driveReady b && s.driveFits b none)
    let ps := bad.map fun b => (s.badBay b).flatten
    if l = [] ∧ old = [] then .zero t ps else .ok t.bindSpares ps

/-- SPARE_POOL_SET (0x0304, R171). -/
def execSparePoolSet (h : Hdr) (p : Nat) (bays : Nat) (s : State) : Result :=
  .next (s.manifest (.sparePoolSet p bays) h 0x0304 ((bitSet 48 bays).map fun b => (.bay, b))
    (sparePoolSetBody p bays))

/-- The array would go OFFLINE if role `x` were lost (R160). -/
def Arr.fatal (a : Arr) (x : Nat) : Bool :=
  (a.miss x 0).anyBeyond || a.pairs.any fun q =>
    !((q.liveA && q.roleA != x) || (q.liveB && q.roleB != x))

/-- MEMBER_FAIL's effects (Table 6-5). -/
def memberFailBody (a role : Nat) (force : Bool) (s : State) : MRes := s.onArray a fun s =>
  let arr := s.mrd.arr.get a
  let st := (arr.role role).state
  if arr.n ≤ role then .fail .outOfRange [beBytes 1 role]
  else if (st = .online ∨ st = .rebuilding ∨ st = .restoring) ∧
      (arr.state = .optimal ∨ arr.state = .degraded ∨ arr.state = .rebuilding) ∧
      (force ∨ !arr.fatal role) then .ok (s.loseRole a role) []
  else .fail .invalidState [beBytes 1 role]

/-- MEMBER_FAIL (0x0305, R171). -/
def execMemberFail (h : Hdr) (a role : Nat) (force : Bool) (s : State) : Result :=
  .next (s.manifest (.memberFail a role force) h 0x0305 [(.array, a)] (memberFailBody a role force))

/-- MEMBER_REPLACE's effects (Table 6-5, R148, R155): rebuild of a MISSING role, restore of a SLOTTED one. -/
def memberReplaceBody (a role bay : Nat) (s : State) : MRes := s.onArray a fun s =>
  let arr := s.mrd.arr.get a
  let r := arr.role role
  if arr.n ≤ role then .fail .outOfRange [beBytes 1 role]
  else if 48 ≤ bay then .fail .outOfRange [beBytes 1 bay]
  else if r.bay ≠ some bay ∧ ((s.bayArray bay).isSome ∨ (s.bayPool bay).isSome) then
    .fail .inUse [beBytes 1 bay]
  else if !(s.driveReady bay && s.driveFits bay (some arr.meta64)) then .fail .invalidParam (s.badBay bay)
  else if (s.drives.get bay).id.capacity < dataBase + arr.stripes * arr.u then .fail .invalidSize [beBytes 1 bay]
  else if arr.state ≠ .optimal ∧ arr.state ≠ .degraded ∧ arr.state ≠ .rebuilding then
    .fail .invalidState [beBytes 1 a]
  else match r.state with
  | .missing => .ok ((s.join a role (.bay bay) .rebuilding).seekCopies a |>.moorArr a) []
  | .slotted => .ok (s.join a role (.bay bay) .restoring) []
  | _ => .fail .invalidState [beBytes 1 role]

/-- MEMBER_REPLACE (0x0306, R171). -/
def execMemberReplace (h : Hdr) (a role bay : Nat) (s : State) : Result :=
  .next (s.manifest (.memberReplace a role bay) h 0x0306 [(.array, a), (.bay, bay)]
    (memberReplaceBody a role bay))

/-- A scrub pass begins (R169). -/
def State.scrubBegin (s : State) (a : Nat) (start : Option Nat) : State :=
  let arr := s.mrd.arr.get a
  let s := s.putArr a { arr with scrubPos := start.getD arr.scrubPos }
  s.updAry a fun r => { r with scrubbing := true, scrubbed := 0, lastScrub := s.now }

/-- The array is in service: neither CREATING, OFFLINE nor SALVAGED. -/
def Arr.serving (a : Arr) : Bool :=
  a.state == .optimal || a.state == .degraded || a.state == .rebuilding

/-- SCRUB_START's effects (Table 6-5). -/
def scrubStartBody (a : Nat) (start : Option Nat) (s : State) : MRes := s.onArray a fun s =>
  let arr := s.mrd.arr.get a
  if start.any (fun x => decide (arr.stripes ≤ x)) then .fail .outOfRange [beBytes 8 (start.getD 0)]
  else if arr.serving then .ok (s.scrubBegin a start) [] else .fail .invalidState [beBytes 1 a]

/-- SCRUB_START (0x0307, R171). -/
def execScrubStart (h : Hdr) (a : Nat) (start : Option Nat) (s : State) : Result :=
  .next (s.manifest (.scrubStart a start) h 0x0307 [(.array, a)] (scrubStartBody a start))

/-- SCRUB_STOP's effects (Table 6-5): the pass ends, the position is kept. -/
def scrubStopBody (a : Nat) (s : State) : MRes := s.onArray a fun s =>
  .ok ((s.updAry a fun r => { r with scrubbing := false }).moorArr a) []

/-- SCRUB_STOP (0x0308, R171). -/
def execScrubStop (h : Hdr) (a : Nat) (s : State) : Result :=
  .next (s.manifest (.scrubStop a) h 0x0308 [(.array, a)] (scrubStopBody a))

/-- SCRUB_LOG's effects (Table 6-5): the mismatch list of R169. -/
def scrubLogBody (a : Nat) (clear : Bool) (s : State) : MRes := s.onArray a fun s =>
  let l := (s.ary.get a).mismatches
  let t := if clear then s.updAry a fun r => { r with mismatches := [] } else s
  .ok t [l.flatMap fun x => beBytes 8 x]

/-- SCRUB_LOG (0x0309, R171). -/
def execScrubLog (h : Hdr) (a : Nat) (clear : Bool) (s : State) : Result :=
  .next (s.manifest (.scrubLog a clear) h 0x0309 [(.array, a)] (scrubLogBody a clear))

/-- The drive of a bay carries the label of role `x` in the array's generation (R150, R170). -/
def State.labelled (s : State) (a : Arr) (i x b : Nat) : Bool :=
  s.driveReady b && ((s.drives.get b).medium.label.any fun l => l.array == i && l.member == x && l.gen == a.gen)

/-- The bay whose drive carries the label of role `x`: `b`, or, where that has another drive, any other (R170). -/
def State.labelBay (s : State) (a : Arr) (i x : Nat) (b : Option Nat) : Option Nat :=
  (b.toList ++ List.range 48).find? fun c => s.labelled a i x c

/-- A role of an array out of service by the labels of the drives that are there (R167, R170): in whatever bay its drive
is, its target's too; without it, MISSING. -/
def State.roleByLabel (s : State) (a : Arr) (i : Nat) (p : Role × Nat) : Role :=
  let r := p.1
  match r.state, r.target with
  | .online, _ | .missing, .none => match s.labelBay a i p.2 r.bay with
    | some b => { r with bay := some b, state := .online }
    | none => { r with state := .missing }
  | .rebuilding, .bay b | .restoring, .bay b => match s.labelBay a i p.2 (some b) with
    | some c => { r with target := .bay c }
    | none => { r with state := .missing, target := .none }
  | _, _ => r

/-- Roles of an array out of service by the labels that are there (R167, R170). -/
def State.rolesByLabel (s : State) (i : Nat) : State :=
  let a := s.mrd.arr.get i
  s.putArr i { a with roles := a.roles.zipIdx.map (s.roleByLabel a i) }

/-- ARRAY_SALVAGE's effects (R167). -/
def arraySalvageBody (a : Nat) (s : State) : MRes := s.onArray a fun s =>
  if (s.mrd.arr.get a).state ≠ .offline then .fail .invalidState [beBytes 1 a]
  else
    let t := s.rolesByLabel a
    let t := ((t.putArr a { t.mrd.arr.get a with state := .salvaged }).bumpGen a).moorArr a
    let t := (t.mrd.ns.keysWhere fun _ n => n.present && n.array == a).foldl (fun s i =>
      s.moor (.ns i { s.mrd.ns.get i with writeProtect := true })) t
    .ok ((t.updAry a fun r => { r with area := { r.area with log := default } }).putArea a) []

/-- ARRAY_SALVAGE (0x030A, R167). -/
def execArraySalvage (h : Hdr) (a : Nat) (s : State) : Result :=
  .next (s.manifest (.arraySalvage a) h 0x030A [(.array, a)] (arraySalvageBody a))

/-- The blocks of a stripe that hold role `x`'s unit while it is being rebuilt: its target, or the slot's
member (R155, R164). -/
def Arr.rebuildBay (a : Arr) (st x : Nat) : Option Nat :=
  match (a.role x).target with
  | .bay b => some b
  | .slot => if a.slotRole st = x then none else a.driveAt st (a.slotRole st)
  | .none => none

/-- What a rebuild writes for role `x`: its unit, or the unit of the role in the slot where `x` holds the
slot (R156, R164). -/
def Arr.rebuildUnit (a : Arr) (st x : Nat) (ds : List Unit4k) : Option Unit4k :=
  match a.content st x ds with
  | some u => some u
  | none => a.subst.bind fun y => a.content st y ds

/-- The roles of the rebuild set. -/
def Arr.rebuildSet (a : Arr) : List Nat :=
  (List.range a.n).filter fun x => (a.role x).state == .rebuilding || (a.role x).state == .restoring

/-- One block of role `x` copied: in a restore from the slot, in a mirror from another copy (R155, R164). None where what
it is copied from cannot be read, or where the role is not copied. -/
def State.rebuildCopy (s : State) (i st off x : Nat) : Option (State × Unit4k) :=
  let a := s.mrd.arr.get i
  if a.mode.mirror then
    let r := s.readCopies i st ((x + a.n - st % a.n) % a.n % a.k) off 0
    r.2.map fun u => (r.1, u)
  else if (a.role x).state = .restoring then (s.unitAt a st x off).map fun u => (s, u)
  else none

/-- One block of the cursor's stripe rebuilt for role `x` (R164, R166): copied, or reconstructed from the other roles.
None where the stripe cannot be read. -/
def State.rebuildRole (s : State) (i st off x : Nat) : Option State :=
  let a := s.mrd.arr.get i
  match a.rebuildBay st x with
  | none => some s
  | some b =>
    if (a.role x).state = .restoring ∧ a.slotRole st = x then some s
    else match s.rebuildCopy i st off x with
    | some (t, u) => some (t.setMedia b (a.memberBlk st off) u)
    | none => (s.stripeData a st off).map fun ds =>
      let t := if a.mode.mirror then s else s.repair i st off (s.foundBad a st off) ds
      match a.rebuildUnit st x ds with
      | some u => t.setMedia b (a.memberBlk st off) u
      | none => t

/-- The cursor's stripe rebuilt for the roles `l`, block by block. -/
def State.rebuildStripe (s : State) (i st : Nat) (l : List Nat) : Option State :=
  (List.range (s.mrd.arr.get i).u).foldl (fun t off =>
    l.foldl (fun t x => t.bind fun t => t.rebuildRole i st off x) t) (some s)

/-- A role's count after one more stripe; at 0 it leaves the set ONLINE, or SLOTTED (R164). -/
def Role.advance (r : Role) : Role :=
  if r.rem ≤ 1 then
    match r.target with
    | .bay b => ⟨some b, .online, .none, 0, r.lost⟩
    | .slot => ⟨none, .slotted, .none, 0, r.lost⟩
    | .none => { r with rem := 0 }
  else { r with rem := r.rem - 1 }

/-- The cursor moves past a rebuilt stripe, counted for the roles that were in the set, as they were, while it was
rebuilt; each role that completed increments the generation (R150, R164). -/
def State.rebuildNext (s : State) (i : Nat) (was : Arr) : State :=
  let a := s.mrd.arr.get i
  let mine := was.rebuildSet.filter fun x => a.role x == was.role x
  let done := mine.filter fun x => decide ((a.role x).rem ≤ 1)
  let freed := done.any fun x => (a.role x).state == .restoring
  let cur := (a.cursor + 1) % a.stripes
  let s := s.putArr i { a with
    roles := a.roles.zipIdx.map fun p => if mine.contains p.2 then p.1.advance else p.1
    cursor := cur, subst := if freed then none else a.subst }
  let s := done.foldl (fun s _ => s.bumpGen i) s
  if done ≠ [] then (s.settle i).seekCopies i |>.moorArr i
  else if cur % 256 = 0 then s.moorArr i else s

/-- REBUILD_STRIPE (R163, R164): the stripe under the cursor, unless held; it stands in line for the stripe's
interlock. -/
def execRebuildStripe (a : Fin 16) (s : State) : Result :=
  let arr := s.mrd.arr.get a
  let st := arr.cursor
  if arr.state = .rebuilding ∧ !s.flag (Fld.ARY_REBUILD_CFG_HOLD a) ∧ !s.arrPrompt a then
    let s := s.lockStripe a st .rebuild
    if s.stripeHolder a st ≠ some .rebuild then .next s
    else match s.rebuildStripe a st arr.rebuildSet with
    | some t => .next ((if (t.mrd.arr.get a).state = .rebuilding then t.rebuildNext a arr else t).unlockStripe a st .rebuild)
    | none => .next (s.offline a)
  else .next (s.unlockStripe a st .rebuild)

/-- SCRUB_PASS_TIMER (R169): INTERVAL_D after the last pass began. -/
def execScrubPassTimer (a : Fin 16) (s : State) : Result :=
  if (s.mrd.arr.get a).state = .optimal ∧ s.flag (Fld.ARY_SCRUB_CFG_EN a) ∧ !(s.ary.get a).scrubbing then
    .next (s.scrubBegin a none)
  else .next s

/-- The redundant units or copies at `off` of a stripe, each with the role and what the data units give. -/
def Arr.redundant (a : Arr) (st : Nat) (ds : List Unit4k) : List (Nat × Unit4k) :=
  if a.mode.mirror then
    (List.range a.k).flatMap fun j => (List.range (a.mode.copies - 1)).map fun c =>
      (a.dataRole st j (c + 1), ds.getD j 0)
  else (List.range a.m).map fun o => (a.parRole st o, parityOf o ds)

/-- One block of a stripe scrubbed (R169): whether it mismatches; every unreadable block of the stripe repaired (R166); with
REPAIR, redundancy rewritten from the data. None where the stripe is beyond redundancy. -/
def State.scrubOff (s : State) (i st off : Nat) (fix : Bool) : Option (State × Bool) :=
  let a := s.mrd.arr.get i
  let bad := s.unreadable a st off (a.unitRoles st)
  if a.beyond st bad then none
  else (s.stripeData a st off).map fun ds =>
    let s := s.repair i st off bad ds
    let wrong := (a.redundant st ds).filter fun p =>
      match s.unitAt a st p.1 off with
      | some u => u != p.2
      | none => false
    (if fix then wrong.foldl (fun s p => s.writeUnit a st p.1 off p.2) s else s, !wrong.isEmpty)

/-- The scrub position moves on; moored every 256 stripes; the pass ends after S stripes (R169). -/
def State.scrubNext (s : State) (i st : Nat) (wrong fix : Bool) : State :=
  let a := s.mrd.arr.get i
  let s := if wrong then
      (s.count (Fld.ARY_SCRUB_STAT_MISMATCH i) 1).updAry i fun r =>
        { r with mismatches := (r.mismatches ++ [st]).drop (r.mismatches.length + 1 - 64) }
    else s
  let s := if wrong && fix then s.count (Fld.ARY_SCRUB_STAT_REPAIRED i) 1 else s
  let pos := (st + 1) % a.stripes
  let s := s.putArr i { s.mrd.arr.get i with scrubPos := pos }
  let s := s.updAry i fun r =>
    { r with scrubbed := r.scrubbed + 1, scrubbing := r.scrubbing && decide (r.scrubbed + 1 < a.stripes) }
  if pos % 256 = 0 then s.moorArr i else s

/-- SCRUB_STRIPE (R163, R169): on an OPTIMAL array with EN = 1, above P2; it stands in line for the stripe's interlock. -/
def execScrubStripe (a : Fin 16) (s : State) : Result :=
  let arr := s.mrd.arr.get a
  let st := arr.scrubPos
  let fix := s.flag (Fld.ARY_SCRUB_CFG_MODE a)
  if arr.state = .optimal ∧ s.flag (Fld.ARY_SCRUB_CFG_EN a) ∧ (s.ary.get a).scrubbing ∧
      s.fld Fld.TWP_PWR_STATE_CUR < 2 then
    let s := s.lockStripe a st .scrub
    if s.stripeHolder a st ≠ some .scrub then .next s
    else match (List.range arr.u).foldl (fun (t : Option (State × Bool)) off =>
        t.bind fun t => (t.1.scrubOff a st off fix).map fun q => (q.1, t.2 || q.2)) (some (s, false)) with
    | some t => .next ((if (t.1.mrd.arr.get a).state = .optimal then t.1.scrubNext a st t.2 fix else t.1).unlockStripe a st .scrub)
    | none => .next (s.offline a)
  else .next (s.unlockStripe a st .scrub)

/-- ARY_REM_IDX_WRITE (Table 6-10): the role's count, snapshot in one cycle; 0 outside the set. -/
def execAryRemIdxWrite (a : Fin 16) (role : Nat) (s : State) : Result :=
  let r := (s.mrd.arr.get a).role (role % 32)
  let rem := if r.state = .rebuilding ∨ r.state = .restoring then r.rem else 0
  let s := s.setFld (Fld.ARY_REM_IDX_MEMBER a) role
  .next ((s.setFld (Fld.ARY_REM_LO_REM a) (rem % 2 ^ 32)).setFld (Fld.ARY_REM_HI_REM a) (rem / 2 ^ 32))

end Sys2Proof.Machine
end

