-- ==== Sys2Proof/Machine/Fault.lean ====
section
/-! DEFINITION. The global fault (18_resets_moorings.md, R396). -/

namespace Sys2Proof.Machine

/-- Kinds of entry in the event log. Their codes are the model's own: the entries' encoding is not given (log
entry 8). -/
inductive EventKind | fault | engine | tug | lane | drive | shelf | power | pairing | clock | reset | wharf | canal
  deriving DecidableEq, Repr

/-- The number of a kind. -/
def EventKind.code : EventKind → Nat
  | .fault => 1 | .engine => 2 | .tug => 3 | .lane => 4 | .drive => 5 | .shelf => 6 | .power => 7
  | .pairing => 8 | .clock => 9 | .reset => 10 | .wharf => 11 | .canal => 12

/-- A cause of Table 18-5 set, with the pin, the log entry and the vector (R396). -/
def State.faultSet (s : State) (c : FaultCause) : State :=
  let s := s.setReg Fld.TWP_FAULT_ACTIVE.addr (s.reg Fld.TWP_FAULT_ACTIVE.addr ||| BitVec.ofNat 32 (2 ^ c.bit))
  let s := (s.raise Fld.TWP_FAULT_ACTIVE).emit (.pin .devFault true)
  (s.logEvent EventKind.fault.code c.bit).msix (s.fld Fld.EPT_IRQ_VEC_FAULT_VEC)

/-- A planned takeover begins (R329): PREPARE to the standby, and no further command is admitted. -/
def State.beginYield (s : State) : State :=
  (s.updPeer fun p => { p with draining := true }).sendPeer false (.prepare 1)

/-- The global fault raised (R396). A restart cause yields to a heard and SYNCED partner, or else, with RESTART_EN,
starts the hold before a warm restart, unless one runs for that cause. -/
def State.globalFault (s : State) (c : FaultCause) : State :=
  let s := s.faultSet c
  if !c.restarts then s
  else if s.isActive ∧ s.partnerAlive ∧ s.fld Fld.AQD_PARTNER_SYNC = 1 then s.beginYield
  else if s.flag Fld.TWP_FAULT_CFG_RESTART_EN ∧ s.rst.holds.all (·.1 != c) then
    let t := s.now + s.fld Fld.TWP_FAULT_CFG_HOLD_S * 1000000000
    s.updRst fun r => { r with holds := r.holds ++ [(c, t)] }
  else s

end Sys2Proof.Machine
end

