-- ==== Sys2Proof/WellFormed.lean ====
section
/-! DEFINITION. Which commands are well formed: every operand lies in the range of the field that carries it. Operands
whose type already bounds them need no check. -/

namespace Sys2Proof

/-- Every number of the list fits in `w` bits. -/
def below (w : Nat) (l : List Nat) : Bool := l.all fun v => decide (v < 2 ^ w)

/-- A queue pair, a probation context, or a TCP connection (QREF of Table 4-4). -/
def qrefOk (q : Nat) : Bool := decide (q < 65792 ∨ (2 ^ 31 ≤ q ∧ q < 2 ^ 31 + 16384))

/-- Address bits of a requester's space (R372): BAR0 64 MiB, BAR4 and BAR5 64 KiB, the register bus of a core as
BAR0. -/
def barBits : Requester → Nat
  | .bar4 | .bar5 => 16
  | _ => 26

/-- A manifest header (Table 16-2, Table 16-1). -/
def Hdr.ok (h : Hdr) : Bool := below 32 [h.session, h.seq] && below 7 [h.port]

/-- A frame's measures (Ethernet; R254). -/
def FrameInfo.ok (f : FrameInfo) : Bool := below 7 [f.port] && below 16 [f.len] && below 3 [f.pcp] && below 6 [f.dscp]

/-- An admin command's fields (NVMe). -/
def AdminCmd.ok (c : AdminCmd) : Bool :=
  qrefOk c.qref && below 16 [c.cid] && below 8 [c.opcode] && below 32 [c.nsid, c.cdw10, c.cdw11, c.cdw12]

/-- An I/O command's fields (NVMe); a Dataset Management command has at most 256 ranges. -/
def IoCmd.ok (c : IoCmd) : Bool :=
  qrefOk c.qref && below 16 [c.cid] && below 8 [c.opcode] && below 32 [c.nsid, c.refTag] && below 64 [c.slba] &&
    decide (c.nlb ≤ 65536) && below 2 [c.fuse] && below 3 [c.prchk] && below 16 [c.appTag, c.appMask] &&
    decide (c.ranges.length ≤ 256) && c.frame.ok

/-- A CM request (InfiniBand). -/
def CmReq.ok (r : CmReq) : Bool := below 7 [r.port] && below 24 [r.dqpn, r.psn] && decide (1 ≤ r.pmtu ∧ r.pmtu ≤ 5)

/-- A packet of a reliable connection (InfiniBand; Table 3-5). -/
def Packet.ok (p : Packet) : Bool :=
  below 24 [p.qpn, p.psn] && below 3 [p.path] && below 64 [p.va, p.operand, p.compare] && below 32 [p.rkey, p.len] &&
    below 32 p.imm.toList && decide (p.payload.length ≤ 4096) && p.frame.ok

/-- A TCP segment. -/
def TcpSeg.ok (t : TcpSeg) : Bool := below 14 [t.conn] && below 7 [t.port] && below 16 [t.dport] && below 32 [t.seq, t.ack]

/-- A destination of Table 5-1 with its sub-key (R120): lane and priority of a quad, a bay of the drive group, else
none. 127 is fold only. -/
def CellDst.ok (d : CellDst) : Bool :=
  below 32 [d.tag] &&
    if d.dest < 32 then decide (d.sub < 32)
    else if d.dest < 48 then decide (d.sub / 3 = d.dest - 32)
    else decide (d.dest < 100 ∨ d.dest = 127) && d.sub == 0

/-- A cell header (Tables 5-1, 5-2). -/
def Cell.ok (c : Cell) : Bool :=
  decide (c.src < 100) && c.dst.ok && below 3 [c.cls] && below 16 [c.seq] && below 18 c.flow.toList &&
    below 14 c.repl.toList && c.pctx.toList.all fun x => below 10 [x.1, x.2.2] && below 5 [x.2.1]

/-- A parity context as R130 bounds it, with the inputs of its use (Table 5-5). -/
def CtxOpen.ok (x : CtxOpen) : Bool :=
  decide (1 ≤ x.dsts.length ∧ x.dsts.length ≤ 3 ∧ 64 ≤ x.units ∧ x.units ≤ 1024) && x.dsts.all CellDst.ok &&
    below 18 x.flow.toList && match x.use with
      | .fullStripe k => decide (1 ≤ k ∧ k ≤ 32)
      | .modify i => decide (i < 32)
      | .recover k l miss => decide (1 ≤ k ∧ k ≤ 32 ∧ l.length = k ∧ miss.length = x.dsts.length ∧ (l ++ miss).Nodup) &&
          (l ++ miss).all fun u => decide (u < k + 3)

/-- A demand for a credit (R123). -/
def CellDemand.ok (w : CellDemand) : Bool :=
  decide (w.src < 100) && below 18 [w.unit] && w.others.all CellDst.ok && decide (w.others.length ≤ 3) &&
    (w.fold.toList.all fun x => below 10 [x.1, x.2]) && w.par.toList.all CtxOpen.ok

/-- A received frame (Ethernet). -/
def RxFrame.ok (f : RxFrame) : Bool :=
  below 48 [f.smac, f.dmac] && below 16 [f.etype] && f.tags.all fun t => below 3 [t.1] && below 12 [t.2]

/-- The command is well formed. -/
def Instr.wf : Instr → Bool
  | .connect q cid _ _ _ cntlid qid sqsize kato cattr => qrefOk q && below 16 [cid, cntlid, qid, sqsize] && below 32 [kato] && below 8 [cattr]
  | .propertyGet q cid ofst => qrefOk q && below 16 [cid] && below 32 [ofst]
  | .propertySet q cid ofst v => qrefOk q && below 16 [cid] && below 32 [ofst] && below 64 [v]
  | .disconnect q cid => qrefOk q && below 16 [cid]
  | .authenticationSend q cid _ => qrefOk q && below 16 [cid]
  | .authenticationReceive q cid => qrefOk q && below 16 [cid]
  | .authenticationTimeout q => qrefOk q
  | .nvmeIdentify c => c.ok
  | .getLogPage c => c.ok
  | .setFeatures c => c.ok
  | .getFeatures c => c.ok
  | .asynchronousEventRequest q cid => qrefOk q && below 16 [cid]
  | .keepAlive q cid => qrefOk q && below 16 [cid]
  | .keepAliveTimeout c => below 16 [c]
  | .abort c => c.ok
  | .formatNvm c => c.ok
  | .unsupportedOpcode q cid op => qrefOk q && below 16 [cid] && below 8 [op]
  | .capsuleArrival c => c.ok
  | .read c => c.ok
  | .write c => c.ok
  | .flush c => c.ok
  | .compare c => c.ok
  | .compareAndWrite c d => c.ok && d.ok
  | .writeZeroes c => c.ok
  | .datasetManagement c => c.ok
  | .verify c => c.ok
  | .reservationRegister c => c.ok
  | .reservationReport c => c.ok
  | .reservationAcquire c => c.ok
  | .reservationRelease c => c.ok
  | .cmReq r => r.ok
  | .packetReceive p => p.ok
  | .ackReceive _ psn sack => below 24 (psn :: sack)
  | .selectiveNakReceive _ base got => below 24 (base :: got)
  | .dockWrite p => p.ok
  | .dockRead p => p.ok
  | .dockAtomic p => p.ok
  | .zeroLengthWrite p => p.ok
  | .staircaseInstall p => p.ok
  | .dockCommit p => p.ok
  | .tcpSegmentReceive t => t.ok
  | .basinReset h _ => h.ok
  | .brgBankCtlWrite _ q => below 2 [q]
  | .brgBerthIdxWrite b => below 18 [b]
  | .cellEntry c _ group par _ => c.ok && decide (group.length ≤ 4) && group.all CellDst.ok && par.toList.all CtxOpen.ok
  | .creditIssue dst _ wants => dst.ok && wants.all CellDemand.ok
  | .spillRecall dst _ _ => dst.ok
  | .arrayCreate h _ _ _ _ _ _ => h.ok
  | .arrayDelete h _ => h.ok
  | .arrayQuery h _ => h.ok
  | .sparePoolSet h _ _ => h.ok
  | .memberFail h _ _ _ => h.ok
  | .memberReplace h _ _ _ => h.ok
  | .scrubStart h _ _ => h.ok
  | .scrubStop h _ => h.ok
  | .scrubLog h _ _ => h.ok
  | .arraySalvage h _ => h.ok
  | .wharfAccess x _ => below 38 [x.addr]
  | .wharfFillComplete l _ => below 31 [l]
  | .wharfWritebackComplete l => below 31 [l]
  | .maintClean l n => below 31 [l] && below 16 [n]
  | .maintInvalidate l n => below 31 [l] && below 16 [n]
  | .maintCleanInvalidate l n => below 31 [l] && below 16 [n]
  | .wharfDiscard h => h.ok
  | .cipSlotIdxWrite k => below 12 [k]
  | .keyCommit m => below 2 [m]
  | .keyLoad h _ _ _ _ => h.ok
  | .keyZeroise h _ => h.ok
  | .serialSet h _ _ => h.ok
  | .keyQuery h _ => h.ok
  | .pairKeyLoad h _ => h.ok
  | .frameReceive _ f => f.ok
  | .slcModeWrite _ m n => below 1 [m] && below 2 [n]
  | .slcPortSet h _ _ _ _ _ _ _ => h.ok
  | .meterSet h _ _ => h.ok
  | .slcCfgSet h _ _ => h.ok
  | .subNodeSet h _ _ => h.ok
  | .nsbSet h _ _ _ _ _ => h.ok
  | .quadSet h _ _ _ _ _ => h.ok
  | .portSet h _ _ _ _ _ _ => h.ok
  | .addrSet h _ _ => h.ok
  | .addrDelete h _ => h.ok
  | .portQuery h _ => h.ok
  | .discoverySet h _ _ => h.ok
  | .aclSet h _ _ _ => h.ok
  | .aclQuery h _ => h.ok
  | .mgmtSrcSet h _ _ => h.ok
  | .driveLinkUp _ sp w => decide (1 ≤ sp ∧ sp ≤ 6) && (w == 2 || w == 4)
  | .drvGroupSet h _ _ _ => h.ok
  | .drvGrpCfgWrite _ m _ => below 2 [m]
  | .drvCfgSet h _ _ _ => h.ok
  | .bayPower h _ _ => h.ok
  | .paddleCfg h _ _ _ _ => h.ok
  | .paddleQuery h _ => h.ok
  | .feedDrill h => h.ok
  | .feedCfg h _ _ _ _ _ _ _ => h.ok
  | .feedQuery h => h.ok
  | .takeover h _ => h.ok
  | .pairSet h _ _ _ _ => h.ok
  | .pairQuery h => h.ok
  | .witnessSet h _ => h.ok
  | .partnerHealth h => h.ok
  | .ckptResync h => h.ok
  | .partnerRelay h _ => h.ok
  | .lkpDrill h => h.ok
  | .lkpSwitch h => h.ok
  | .powerStateSet h _ => h.ok
  | .twpPwrReqGo t => below 3 [t]
  | .wakeEvent row i => decide (row < 10 ∧ i < 128)
  | .manifestTimeout h => h.ok
  | .capList h => h.ok
  | .sessionOpen h _ _ => h.ok
  | .sessionClose h => h.ok
  | .identify h => h.ok
  | .timeSet h _ => h.ok
  | .warmRestart h => h.ok
  | .faultQuery h _ => h.ok
  | .eventRead h _ _ => h.ok
  | .subsysSet h _ _ => h.ok
  | .subsysDelete h _ => h.ok
  | .nsCreate h _ _ _ _ _ _ _ _ _ => h.ok
  | .nsDelete h _ => h.ok
  | .nsAttach h _ _ _ => h.ok
  | .hostSet h _ _ => h.ok
  | .hostDelete h _ => h.ok
  | .nsQuery h _ => h.ok
  | .dockCreate h _ _ _ _ _ _ => h.ok
  | .dockRevoke h _ => h.ok
  | .authSecretSet h _ _ _ _ => h.ok
  | .authSecretClear h _ => h.ok
  | .manifestKeySet h _ _ => h.ok
  | .manifestKeyClear h _ => h.ok
  | .powerQuery h => h.ok
  | .tallySelect h _ _ _ => h.ok
  | .tallyDumpSet h _ _ _ _ => h.ok
  | .tallyRead h _ => h.ok
  | .tallyUser h _ => h.ok
  | .laneMargin h _ _ _ _ _ => h.ok
  | .moorQuery h => h.ok
  | .unmoor h _ => h.ok
  | .fwStage h _ _ => h.ok
  | .fwCommit h _ _ _ => h.ok
  | .fwActivate h _ => h.ok
  | .fwQuery h => h.ok
  | .bar2Read off _ => below 32 [off]
  | .bar2Write off _ => below 32 [off]
  | .eptWinCtlWrite _ _ _ _ sp sz => below 2 [sp] && below 6 [sz]
  | .copyGo _ v => below 11 [v]
  | .endpointLinkUp sp w _ _ _ _ => decide (1 ≤ sp ∧ sp ≤ 5) && [1, 2, 4, 8].contains w
  | .clkFreqIdxWrite d i => below 4 [d] && below 6 [i]
  | .talClrGo i _ => below 12 [i]
  | .spbBankCtlWrite _ q => below 2 [q]
  | .registerWrite who a v eight => below (barBits who) [a] && below (if eight then 64 else 32) [v]
  | .registerRead who a _ => below (barBits who) [a]
  | .admissionTurn _ | .basinReturnComplete _ | .cmRtu _ | .cmDreq _ | .cmDrep _ | .dreqRetryExpiry _ |
    .probationTimeout _ | .reorderTimerExpiry _ | .ackDelayExpiry _ | .nakReceive _ _ | .localAckTimeout _ |
    .pathProbeExpiry _ _ | .cnpReceive _ _ | .rateIntervalExpiry | .staircaseStepComplete _ _ _ _ _ |
    .drainLimitExpiry _ | .qpFlushComplete _ | .tugFence _ | .icreq _ _ _ | .h2cData _ _ _ | .h2cTermReq _ |
    .tcpRtoExpiry _ | .tcpDelackExpiry _ | .tugQptIdxWrite _ | .towLook _ | .towArrival _ | .engineTake _ |
    .engineStep _ | .hostDataArrival _ _ | .completionCellAccept _ | .engineFence _ _ | .stepLimitExpiry _ |
    .basinSelftestComplete _ _ | .bankReturnOn _ | .berthSnapshotComplete |
    .cellDelivery _ _ | .cellAgeDiscard _ _ _ | .ctlStuck _ | .discardNotice | .cancelComplete |
    .cnlPartCfgWrite _ _ | .cnlSpillCfgWrite _ | .cnlAttIdxWrite _ _ | .memberLoss _ _ | .arrayZeroed _ |
    .rebuildStripe _ | .scrubPassTimer _ | .scrubStripe _ | .aryRemIdxWrite _ _ | .arrayAssembly _ _ |
    .segmentIssue _ _ | .segmentComplete _ _ _ _ _ | .gatherAgeExpiry _ _ | .destageStart _ _ _ |
    .destageComplete _ _ | .ledgerRepairSegment _ _ | .replay _ | .maintRangeComplete | .wharfDisable |
    .wharfEnable | .cleaningWalkComplete | .invalidationWalkEnd | .lighterEnWrite _ | .cipKeyDataWrite _ _ |
    .slotZeroise | .cipSerialWrite _ _ | .cipPairKeyWrite _ _ | .cipherCell _ _ _ _ _ | .keyCacheFill _ _ |
    .entropyWindow _ _ | .drbgReseed _ | .laneFence _ _ | .pfcRefreshExpiry _ _ | .pauseTimerExpiry _ _ |
    .egressFrameChoice _ _ | .subscriberChoice _ _ _ _ | .quadReconfigWrite _ _ _ | .linkUp _ _ | .linkDown _ |
    .dadComplete _ _ | .neighbourRetryExpiry _ _ | .neighbourRevalidate _ _ | .lpiEntry _ _ | .drivePerstRelease _ |
    .trainingWindowExpiry _ | .driveInitComplete _ _ _ | .driveInitTimeout _ | .driveMemoryRead _ _ _ |
    .driveMemoryWrite _ _ | .driveCompletion _ _ | .driveCommandTimeout _ _ _ | .driveLinkLoss _ | .rung1Expiry _ |
    .rung2Expiry _ | .readyWaitExpiry _ | .perstPulseEnd _ _ | .rung3Expiry _ | .driveShutdownComplete _ |
    .driveIdleT1Expiry _ | .driveIdleT2Expiry _ | .miPoll _ _ _ _ _ | .presenceStable _ | .presenceLost _ |
    .pdlCmdEnable _ | .pdlCmdDisable _ | .pdlCmdCycle _ | .rampStart | .railFullEnhancement _ _ |
    .railPowerGood _ _ | .gateCheckTimeout _ _ | .rampStallTimeout _ _ | .currentLimitOnset _ _ |
    .currentLimitClear _ | .faultTimerExpiry _ | .railShort _ _ | .paddleRetryExpiry _ | .faultCountClear _ |
    .auxRailOff _ | .cycleOffExpiry _ | .feedForwardTurnOn _ | .feedReverseTrip _ | .feedStateChange _ _ |
    .feedUnblock _ _ _ | .feedHealthDegraded _ | .feedHealthOpen _ | .wirCtlWrite _ _ _ | .feedDrillTimer |
    .wirDrillNow | .drillEnd _ | .heartbeatTimer | .heartbeatReceive _ _ | .partnerLost | .promptReceive _ _ |
    .promptResendExpiry | .promptAckReceive _ _ | .checkpointBatchExpiry | .windowReqReceive _ _ _ _ |
    .windowReadyReceive _ _ | .ckptReceive _ _ _ | .ckptAckReceive _ _ _ | .windowCloseExpiry | .yieldReceive _ _ _ |
    .prepareReceive _ _ | .healthReqReceive _ | .healthRptReceive _ _ _ _ _ | .relayReceive _ _ |
    .relayRcptReceive _ _ _ _ | .renewalRoundStart | .leaseOperationComplete _ _ | .leaseOperationTimeout _ |
    .selfFence _ | .leaseWaitExpiry _ | .claimBackoffExpiry _ | .bollardRecheckExpiry | .bollardCheckRead _ |
    .pairListenExpiry | .plannedDrainExpiry | .lkpCheckpoint | .lkpCoreSwitch | .lkpDrillTimer | .lkpDrillNow |
    .lkpDrillComplete _ _ | .standbyHealthCheck _ _ | .managementWindowOpen | .managementWindowClose |
    .idlePolicyEval _ | .quiesceClear | .quiesceExpiry | .powerEntryCommit | .exitComplete _ _ | .wakeTimerExpiry |
    .parkDecision _ | .engineParked _ | .tugGroupGate _ | .mboxGo | .manifestDatagram _ _ _ _ _ _ _ |
    .sessionIdleExpiry _ | .copyComplete _ _ | .completionTimeout | .msixPendingSend _ | .pePerstAssert | .hotReset |
    .flr | .powerOn | .towpathResetRelease | .mooringsRestore | .pwrgdRise _ | .pwrgdTimeout _ |
    .powerSequenceRetry | .pwrgdFall _ | .canalDieUp | .reservoirTrained | .lockkeeperStarted | .assembleTimeout |
    .resetNAssert | .resetNRelease | .warmRestartDrainEnd | .watchdogKick _ | .watchdogExpiry | .faultHoldExpiry |
    .moorJournalWrite _ | .journalCompaction _ | .vddTwpFall | .thermalTrip | .coreLossOfLock | .pllLossOfLock _ |
    .freqMeasurementEnd _ | .talSelWrite _ _ | .talThrWrite _ _ | .tallyWindowEnd _ | .dumpTick |
    .dumpRecordWritten _ | .largeBankUe _ _ _ _ | .stackTempChange _ _ | .lpiExit _ _ | .cstsRdyClear _ |
    .heartbeatPathLost _ | .aqueductLaneDown _ | .aqueductLaneUp _ | .powerEntryComplete | .pllLockReturn _ |
    .endpointLinkDown | .rnrRetryExpiry _ | .temperatureThresholdCrossing _ => true

end Sys2Proof
end

