-- ==== Sys2Proof/Machine/Cells.lean ====
section
/-! DEFINITION. The canal's queues and pound (05_canal_fabric.md): destination queues, partitions, spill, held cells,
parity contexts and cancels, which other blocks use. What the canal's own commands do is in Machine/Canal.lean. -/

namespace Sys2Proof.Machine

def State.updCnl (s : State) (f : Canal → Canal) : State := { s with cnl := f s.cnl }

/-- A tug group's clock runs again with a cell that arrives for it (R339). -/
def State.ungate (s : State) (g : Nat) : State :=
  s.setFld Fld.TWP_DOMAIN_STAT_TUG_GATED (s.fld Fld.TWP_DOMAIN_STAT_TUG_GATED &&& (255 - 2 ^ (g % 8)))

/-- A cell arrives at an attachment. -/
def State.arrives (s : State) (att : Nat) : State := if 64 ≤ att ∧ att < 72 then s.ungate (att - 64) else s

/-- `n` cells of payload, or of a message between a tug and an engine, cross from attachment `src` to `dst` (R23). -/
def State.hop (s : State) (src dst n : Nat) : State := ((s.tally 0x080 src n).tally 0x081 dst n).arrives dst

/-- Cells of a 4 KiB block (R119). -/
def blockCells : Nat := 16

/-- Attachments of Table 5-1: of the drive group of a bay, of an engine's basin, of a tug group, of a cipher lane, of the
reservoir channel of a stripe. -/
def attBay (b : Nat) : Nat := 32 + b / 3
def attEngine (e : Nat) : Nat := 48 + e / 16
def attGroup (g : Nat) : Nat := 64 + g
def attLane (l : Nat) : Nat := 72 + l
def attReservoir (c : Nat) : Nat := 82 + c % 16

/-- A destination queue's number (R120): attachment, sub-key, class. -/
def queueKey (d : CellDst) (cls : Nat) : Nat := (d.dest * 64 + d.sub % 64) * 8 + cls
/-- Attachment and class of a queue. -/
def queueAtt (k : Nat) : Nat := k / 512
def queueCls (k : Nat) : Nat := k % 8
def queueSub (k : Nat) : Nat := k / 8 % 64

/-- Slots of the pound; slots from here on lie in the spill area. -/
def poundSlots : Nat := 786432

/-- The pound has the slot. -/
def inPound (i : Nat) : Bool := decide (i < poundSlots)

/-- Pound slots that accumulators hold. -/
def Canal.accSlots (c : Canal) : List Nat := c.ctx.flatMap fun e => e.2.at_.flatMap Prod.snd

/-- Pound slots that class `p` holds, accumulators with PAR (Table 5-18). -/
def Canal.held (c : Canal) (p : Nat) : Nat :=
  (c.slots.keysWhere fun i x => inPound i && x.cell.cls == p).length + if p = 4 then c.accSlots.length else 0

/-- Slots of class `p` that issued credits reserve (R123). -/
def Canal.reserved (c : Canal) (p : Nat) : Nat :=
  ((c.credits.filter fun e => queueCls (e.1 / 128) == p).map fun e => e.2.length).sum +
    if p = 4 then (c.credits.map fun e => e.2.sum).sum else 0

/-- Cells in the spill area, and its size in cells of 256 bytes (R138). -/
def Canal.spilled (c : Canal) : Nat := (c.slots.keysWhere fun i _ => !inPound i).length
def State.spillCells (s : State) : Nat := s.fld Fld.CNL_SPILL_CFG_SIZE_GIB * 4194304

/-- RESERVE and CAP of a class in cells (R135). -/
def State.partReserve (s : State) (p : Nat) : Nat := s.fld (Fld.CNL_PART_CFG_RESERVE_MIB p) * 4096
def State.partCap (s : State) (p : Nat) : Nat := s.fld (Fld.CNL_PART_CFG_CAP_MIB p) * 4096

/-- Class `p` has `n` free slots (R135): in its reserve, or borrowed from the shared pool up to its cap. -/
def State.partRoom (s : State) (p n : Nat) : Bool :=
  let use := fun q => s.cnl.held q + s.cnl.reserved q
  let shared := poundSlots - ((List.range 7).map s.partReserve).sum
  let lent := ((List.range 7).map fun q => use q + (if q = p then n else 0) - s.partReserve q).sum
  decide (use p + n ≤ s.partReserve p) || (decide (use p + n ≤ s.partCap p) && decide (lent ≤ shared))

/-- A class that spills, and now may (R137): CTL and PAR never do. -/
def State.maySpill (s : State) (p : Nat) : Bool :=
  p != 0 && p != 4 && s.flag Fld.CNL_CTL_SPILL_EN && decide (s.cnl.spilled < s.spillCells)

/-- A destination queue. -/
def Canal.queue (c : Canal) (k : Nat) : List Nat := c.queues.get k

/-- The spill switch of every class follows what its partition holds (R137), a class above a lowered CAP gets credits
again below it (R136), and a spill size that waits takes effect with an empty spill area (R138). -/
def State.settleSpill (s : State) : State :=
  let s := [1, 2, 3, 5, 6].foldl (fun s p =>
    let pct := s.cnl.held p * 100
    let on := if s.fld (Fld.CNL_PART_WM_SPILL_HI p) * s.partCap p ≤ pct then true
      else if pct ≤ s.fld (Fld.CNL_PART_WM_SPILL_LO p) * s.partCap p then false
      else s.cnl.spilling.get p
    s.updCnl fun c => { c with spilling := c.spilling.set p on }) s
  let caps := s.partCap
  let s := s.updCnl fun c => { c with capped := c.capped.mapAll fun p b => b && decide (caps p ≤ c.held p) }
  match s.cnl.spillSize with
  | some n => if s.cnl.spilled = 0 then (s.cfgFld Fld.CNL_SPILL_CFG_SIZE_GIB n).updCnl fun c => { c with spillSize := none } else s
  | none => s

/-- A notice that a cell, or a context, has been discarded (R142). -/
def State.notice (s : State) (r : FlowRef) (cls : Nat) (ecc : Bool) (src : Nat) : State :=
  s.updCnl fun c => { c with notices := c.notices ++ [⟨r, cls, ecc, src⟩] }

/-- What a cell's notice names. -/
def refOf (c : Cell) : FlowRef := ⟨c.flow, c.dst, c.owner⟩

/-- A context closed without its end (R133): counted, its accumulators free. -/
def State.closeCtx (s : State) (i : Nat) : State :=
  ((s.count Fld.CNL_PAR_STAT_POISONED 1).tally 0x088 0 1).updCnl fun c => { c with ctx := c.ctx.set i default }

/-- A context poisoned (R133): its engine is told. -/
def State.poison (s : State) (i : Nat) (ecc : Bool) : State :=
  let x := s.cnl.ctx.get i
  if x.isOpen then (s.closeCtx i).notice ⟨x.par.flow, x.par.dsts.headD default, x.par.owner⟩ 3 ecc 127 else s

/-- Bays and TAGs that copies for drive groups name. -/
def driveTags (l : List CellDst) : List (Nat × Nat) :=
  (l.filter fun d => decide (32 ≤ d.dest ∧ d.dest < 48)).map fun d => (d.sub, d.tag)

/-- Copies of a held cell gone from their queues, and the slot free with the last of them. A choice of the sluice's
falls with its queue's last cell, and the bytes that a drive group's cell held are remembered as lost (R144). -/
def State.dropCopies (s : State) (i : Nat) (gone : List CellDst) : State :=
  let x := s.cnl.slots.get i
  let left := x.copies.filter fun d => !gone.contains d
  let y : Slot := { x with copies := left }
  (s.updCnl fun n =>
    let qs := gone.foldl (fun q d => q.upd (queueKey d x.cell.cls) (·.erase i)) n.queues
    { n with
      queues := qs
      slots := if left = [] then n.slots.erase i else n.slots.set i y
      picked := n.picked.mapAll fun q l => l.filter fun sub => qs.get ((q * 64 + sub) * 8 + 2) != []
      lost := n.lost ++ (driveTags gone).filter fun t => !n.lost.contains t }).settleSpill

/-- A held cell discarded with its notice (R139, R141, R142). -/
def State.discardSlot (s : State) (i : Nat) (ecc : Bool) : State :=
  let x := s.cnl.slots.get i
  let c := x.cell
  let s := s.dropCopies i x.copies
  let s := s.count (if ecc then Fld.CNL_DISCARD_ECC else Fld.CNL_DISCARD_AGED) 1
  let code := if ecc then 0x087 else 0x086
  let s := (s.tally code c.cls 1).tally code 7 1
  let s := match c.pctx with
    | some p => s.poison p.1 ecc
    | none => s
  s.notice { refOf c with dst := x.copies.headD c.dst } c.cls ecc c.src

/-- A CTL cell that waits too long or is lost (R140, R141). -/
def State.stuck (s : State) : State :=
  ((s.raise Fld.CNL_STATUS_STUCK).emit (.lockkeeper 0x140 0)).globalFault .stuck

/-- A slot for a cell or an accumulator: which free slot of the pound, or of the spill area, is the canal's choice (log
entry 1). -/
def State.pickSlot (s : State) (spill : Bool) : Nat :=
  let n := if spill then s.spillCells else poundSlots
  let base := if spill then poundSlots else 0
  let taken := s.cnl.slots.keys ++ s.cnl.accSlots
  let l := (List.range (taken.length + 1)).map fun j => base + (s.freeVal + j) % n
  (l.find? fun j => !taken.contains j).getD base

/-- A cell on its copies' queues (R120, R128, R137): in the spill area where a queue of its has spilled cells, or where
its class spills and a queue is deep; in the pound otherwise. -/
def State.hold (s : State) (c : Cell) (copies : List CellDst) : State :=
  let ks := copies.map fun d => queueKey d c.cls
  let behind := ks.any fun k => (s.cnl.queue k).any fun i => !inPound i
  let deep := s.cnl.spilling.get c.cls && ks.any fun k => decide (s.fld Fld.CNL_SPILL_CFG_QMIN ≤ (s.cnl.queue k).length)
  let spill := s.maySpill c.cls && (behind || deep || !s.partRoom c.cls 1)
  let i := s.pickSlot spill
  let x : Slot := ⟨c, copies, s.now, s.fld Fld.CNL_AGE_LIMIT_LIMIT_US⟩
  let back := driveTags copies
  let s := s.tick.updCnl fun n => { n with
    slots := n.slots.set i x
    queues := ks.foldl (fun q k => q.upd k (· ++ [i])) n.queues
    lost := n.lost.filter fun t => !back.contains t }
  let s := if spill then s.tally 0x082 c.dst.dest 1 else s
  s.settleSpill

/-- Every queued copy that meets `p` is discarded without notice (R143). -/
def State.cancelCells (s : State) (p : Cell → CellDst → Bool) : State :=
  s.cnl.slots.foldl (fun s e =>
    let gone := e.2.copies.filter (p e.2.cell)
    if gone = [] then s
    else (gone.foldl (fun s d => s.tally 0x085 d.dest 1) s).dropCopies e.1 gone) s

/-- Contexts that meet `p` closed by their engine (R133, R143). -/
def State.closeCtxs (s : State) (p : CtxOpen → Bool) : State :=
  (s.cnl.ctx.keysWhere fun _ x => x.isOpen && p x.par).foldl State.closeCtx s

/-- The FLOW of a berth cancelled (R143). -/
def State.cancelFlow (s : State) (b : Nat) : State :=
  (s.closeCtxs fun x => x.flow == some b).cancelCells fun c _ => c.flow == some b

/-- A drive operation's cells cancelled: those of the berth for the bay, or from it (R143, R144). -/
def State.cancelOp (s : State) (b bay : Nat) : State :=
  s.cancelCells fun c d => c.flow == some b && d.dest == attBay bay && d.sub == bay

/-- One TAG cancelled: at its destination only that copy of a replicated cell is removed, whatever FLOW it carries
(R129, R143). -/
def State.cancelTag (s : State) (d : CellDst) : State := s.cancelCells fun _ e => e == d

/-- Two references to one attempt: by the berth of FLOW, else by the transfer, which a transfer without a record of its
own names by its destination and TAG (R142, R456). -/
def FlowRef.same (a b : FlowRef) : Bool :=
  match a.flow, b.flow with
  | some x, some y => x == y
  | none, none => a.owner == b.owner && (a.owner != .other || a.dst == b.dst)
  | _, _ => false

/-- A FLOW or the transfer of a TAG cancelled (R143): its queued cells are discarded without notice, its contexts
closed. -/
def State.cancelRef (s : State) (r : FlowRef) : State :=
  match r.flow with
  | some b => s.cancelFlow b
  | none =>
    if r.owner = .other then s.cancelTag r.dst
    else (s.closeCtxs fun x => x.flow.isNone && x.owner == r.owner).cancelCells fun c _ =>
      c.flow.isNone && c.owner == r.owner

/-- The inputs of a context's use (Table 5-5). -/
def ctxInputs (x : CtxOpen) : Nat :=
  match x.use with
  | .fullStripe k => k
  | .modify _ => 2 + x.dsts.length
  | .recover k _ _ => k

/-- What surviving unit `m` of a stripe of `k` data units gives to the missing unit `u`: the coefficient of the inverted
system, which is the value of `u` where that survivor is 1 and the others are 0 (Table 5-5). -/
def recoverCoef (k : Nat) (survivors : List Nat) (m u : Nat) : BitVec 8 :=
  let val := fun (x : Nat) => (survivors.idxOf? x).map fun j => if j = m then (1 : BitVec 8) else 0
  match gfRecover ((List.range k).map val) ((List.range 3).map fun o => val (k + o)) with
  | some ds => if u < k then ds.getD u 0 else parityOf (u - k) ds
  | none => 0

/-- The coefficient of output `o` for input `m` (Table 5-5). -/
def ctxCoef (x : CtxOpen) (o m : Nat) : BitVec 8 :=
  match x.use with
  | .fullStripe _ => parityCoef o m
  | .modify i => if m < 2 then parityCoef o i else if m = 2 + o then 1 else 0
  | .recover k l miss => recoverCoef k l m (miss.getD o 0)

/-- The 260 bytes that a fold takes of a cell: its payload and its metadata slice (R131). -/
def foldBits (c : Cell) : BitVec 2080 := c.mslice ++ c.payload

/-- An output cell of a context (R132). It names no source attachment (log entry 58). -/
def outCell (x : ParCtx) (u : Nat) (d : CellDst) (v : BitVec 2080) : Cell :=
  { (default : Cell) with
    src := 127, cls := 4, dst := d, flow := x.par.flow, seq := u, last := x.emitted + 1 == x.par.units
    mslice := v.extractLsb' 2048 32, payload := v.extractLsb' 0 2048, owner := x.par.owner }

/-- The context as its engine opens it, where none is open there (R130). -/
def State.openCtx (s : State) (i : Nat) (o : CtxOpen) : State :=
  if (s.cnl.ctx.get i).isOpen then s
  else
    let x : ParCtx := { (default : ParCtx) with isOpen := true, par := o }
    s.updCnl fun n => { n with ctx := n.ctx.set i x }

/-- Accumulators that a fold at offset `u` would open (R123, R131). -/
def Canal.opens (c : Canal) (i u : Nat) : Nat :=
  let x := c.ctx.get i
  if x.isOpen ∧ x.acc.get u = [] then x.par.dsts.length else 0

/-- The accumulators of an offset opened as zero, each in a slot of the pound (R131). -/
def State.openAcc (s : State) (i u : Nat) : State :=
  let first := (s.now, s.fld Fld.CNL_AGE_LIMIT_LIMIT_US)
  let one := fun (s : State) =>
    let j := s.pickSlot false
    s.tick.updCnl fun n => { n with ctx := n.ctx.upd i fun x =>
      { x with acc := x.acc.upd u (· ++ [0]), at_ := x.at_.upd u (· ++ [j]), first := x.first.set u first } }
  (List.replicate (s.cnl.opens i u) ()).foldl (fun s _ => one s) s

/-- A cell folded into context `i` at entry (R131 to R133). -/
def State.fold (s : State) (i m u : Nat) (c : Cell) : State :=
  let x := s.cnl.ctx.get i
  if !x.isOpen then s
  else if ctxInputs x.par ≤ m ∨ x.par.units ≤ u ∨ (x.maps.get u).testBit m then s.poison i false
  else
    let s := s.openAcc i u
    let x := s.cnl.ctx.get i
    let v := (x.acc.get u).zipIdx.map fun p => p.1 ^^^ gfScale (ctxCoef x.par p.2 m) (foldBits c)
    let map := x.maps.get u + 2 ^ m
    if map + 1 = 2 ^ ctxInputs x.par then
      let y : ParCtx := if x.emitted + 1 = x.par.units then default
        else { x with acc := x.acc.set u [], at_ := x.at_.set u [], maps := x.maps.set u map
                      first := x.first.set u default, emitted := x.emitted + 1 }
      let s := s.updCnl fun n => { n with ctx := n.ctx.set i y }
      (v.zip x.par.dsts).foldl (fun s p => s.hold (outCell x u p.2 p.1) [p.2]) s
    else
      let y : ParCtx := { x with acc := x.acc.set u v, maps := x.maps.set u map }
      s.updCnl fun n => { n with ctx := n.ctx.set i y }

/-- The accumulators of an offset discarded, by age or by an uncorrectable error, which poisons their context (R133,
R139, R141). -/
def State.discardAcc (s : State) (i u : Nat) (ecc : Bool) : State :=
  let n := ((s.cnl.ctx.get i).acc.get u).length
  let s := s.count (if ecc then Fld.CNL_DISCARD_ECC else Fld.CNL_DISCARD_AGED) n
  let code := if ecc then 0x087 else 0x086
  ((s.tally code 4 n).tally code 7 n).poison i ecc

/-- The header of Table 5-2 of a held cell, with its entry stamp (R119). -/
def Slot.header (x : Slot) : Nat :=
  let c := x.cell
  let opt := fun (o : Option Nat) (at_ flag : Nat) => o.elim 0 fun v => v * 2 ^ at_ + 2 ^ flag
  let px := c.pctx.elim 0 fun p => 2 ^ 91 + p.1 * 2 ^ 81 + p.2.1 * 2 ^ 76 + p.2.2 * 2 ^ 66
  let age := if x.limit = 0 then 0 else x.entered * 16 / (x.limit * 1000) % 32
  c.dst.dest * 2 ^ 185 + c.src * 2 ^ 178 + c.cls * 2 ^ 175 + opt c.flow 157 107 + c.dst.tag % 2 ^ 32 * 2 ^ 125 +
    c.seq * 2 ^ 109 + c.last.toNat * 2 ^ 108 + opt c.repl 92 106 + px + c.mslice.toNat * 2 ^ 34 + age * 2 ^ 29

/-- What pound slot `j` holds: a cell, or an accumulator, whose header is that of the cell it will emit (log entry 58). -/
def Canal.slotAt (c : Canal) (j : Nat) : Option Slot :=
  if c.slots.keys.contains j then some (c.slots.get j)
  else c.ctx.findSome? fun e => e.2.at_.findSome? fun p => (p.2.idxOf? j).map fun o =>
    let d := e.2.par.dsts.getD o default
    ⟨outCell e.2 p.1 d ((e.2.acc.get p.1).getD o 0), [d], (e.2.first.get p.1).1, (e.2.first.get p.1).2⟩

/-- What is `limit` µs old now (R139, R140). -/
def State.aged (s : State) (entered limit : Nat) : Bool := decide (limit * 1000 ≤ s.now - entered)

end Sys2Proof.Machine
end

