-- ==== Sys2Proof/Machine/Sluice.lean ====
section
/-! DEFINITION. The sluice (10_sluice.md, R237 to R250): meters, namespace buckets, shapers and the egress
schedulers. -/

namespace Sys2Proof.Machine

/-- The bucket refilled at `rate` units per ns up to `now` (R239). -/
def Bucket.at (b : Bucket) (rate now : Nat) : Bucket := ⟨b.used - rate * (now - b.last), now⟩

/-- Tokens it holds, of `burst` units when full; negative after a debit in full (R242, R243). -/
def Bucket.tokens (b : Bucket) (rate burst now : Nat) : Int := (burst : Int) - ((b.at rate now).used : Int)

/-- `n` units taken. -/
def Bucket.debit (b : Bucket) (rate now n : Nat) : Bucket :=
  let c := b.at rate now
  { c with used := c.used + n }

/-- The bucket under new parameters: its tokens stay, cut to the new burst size (Table 10-2). -/
def Bucket.rebase (b : Bucket) (rate burst burst' now : Nat) : Bucket :=
  ⟨((burst' : Int) - min (burst' : Int) (b.tokens rate burst now)).toNat, now⟩

/-- Colours of a meter. -/
inductive Colour | green | yellow | red
  deriving DecidableEq, Repr

/-- SLC_PRECOLOUR's encoding (Table 10-8). -/
def colourOf (v : Nat) : Colour := if v = 1 then .yellow else if v = 2 then .red else .green

/-- A signed byte. -/
def signedByte (v : Nat) : Int := if v < 128 then v else (v : Int) - 256

/-- Input colour of a frame on its port (R239). -/
def State.inputColour (s : State) (f : FrameInfo) : Colour :=
  if f.tagged then colourOf (bitsOf (s.reg (Reg.SLC_PRECOLOUR f.port 0)).toNat (2 * f.pcp) 2)
  else if s.flag (Fld.SLC_PORT_CFG_DSCP_EN f.port) then
    colourOf (bitsOf (s.reg (Reg.SLC_PRECOLOUR f.port (1 + f.dscp / 16))).toNat (2 * (f.dscp % 16)) 2)
  else .green

/-- Meter of a host's frame: its METER, plus the ingress priority where it is bound per class (R238). -/
def State.hostMeter (s : State) (host : Nat) (f : FrameInfo) : Option Nat :=
  let e := s.mrd.hosts.get host
  let c := if f.tagged then f.pcp else f.dscp / 8
  e.p.meter.map fun m => if e.p.meterPerClass then m + c else m

/-- B of R239: a frame's length with its meter's OVERHEAD, at least 1. -/
def State.meterBytes (s : State) (m len : Nat) : Nat :=
  ((len : Int) + signedByte (s.fld (Fld.SLC_MTR_CFG_OVERHEAD m))).toNat.max 1

/-- A meter's buckets refilled up to now (R239): in srTCM what C does not take overflows into E. -/
def State.meterAt (s : State) (m : Nat) : Meter :=
  let x := s.slc.meter.get m
  let cir := s.fld (Fld.SLC_MTR_CIR_RATE m)
  if s.fld (Fld.SLC_MTR_CFG_ALG m) = 1 then
    let fill := cir * (s.now - x.c.last)
    ⟨⟨x.c.used - fill, s.now⟩, ⟨x.e.used - (fill - x.c.used), s.now⟩⟩
  else ⟨x.c.at cir s.now, x.e.at (s.fld (Fld.SLC_MTR_PIR_RATE m)) s.now⟩

/-- A meter's verdict on `len` bytes of input colour `inp`, and the meter after it (R239). With CBS 0 the verdict is that of
R240, whatever the input colour (log entry 61). -/
def State.meterRun (s : State) (m : Nat) (len : Nat) (inp : Colour) : Colour × Meter :=
  let alg := s.fld (Fld.SLC_MTR_CFG_ALG m)
  let inp := if s.flag (Fld.SLC_MTR_CFG_AWARE m) then inp else .green
  let n := s.meterBytes m len * 8000
  let cbs := s.fld (Fld.SLC_MTR_CBS_SIZE m) * 8000
  let pbs := s.fld (Fld.SLC_MTR_PBS_SIZE m) * 8000
  let x := s.meterAt m
  let more := fun (b : Bucket) => { b with used := b.used + n }
  if alg = 0 then (.green, s.slc.meter.get m)
  else if cbs = 0 then (if 0 < pbs then .yellow else .red, s.slc.meter.get m)
  else if alg = 1 then
    if inp = .green ∧ x.c.used + n ≤ cbs then (.green, { x with c := more x.c })
    else if inp ≠ .red ∧ x.e.used + n ≤ pbs then (.yellow, { x with e := more x.e })
    else (.red, x)
  else if inp = .red ∨ pbs < x.e.used + n then (.red, x)
  else if inp = .yellow ∨ cbs < x.c.used + n then (.yellow, { x with e := more x.e })
  else (.green, ⟨more x.c, more x.e⟩)

/-- The sluice changed. -/
def State.updSlc (s : State) (f : Sluice → Sluice) : State := { s with slc := f s.slc }

/-- A frame counted in its meter's colour: frames and bytes (Table 19-1). -/
def State.meterTally (s : State) (m : Nat) (c : Colour) (len : Nat) : State :=
  let i := match c with
    | .green => 0
    | .yellow => 1
    | .red => 2
  (s.tally (0x0D0 + i) m 1).tally (0x0D3 + i) m (s.meterBytes m len)

/-- A frame of a host debited at arrival: storage data and admin capsules pass whatever the colour (Table
10-1). -/
def State.meterFrame (s : State) (m : Nat) (f : FrameInfo) : State × Colour :=
  let r := s.meterRun m f.len (s.inputColour f)
  ((s.updSlc fun c => { c with meter := c.meter.set m r.2 }).meterTally m r.1 f.len, r.1)

/-- Rate and burst of namespace bucket `i` in its units (Table 10-9). -/
def State.nsbParams (s : State) (i : Nat) : Nat × Nat :=
  let unit := if i % 2 = 0 then 1000000000 else 1000
  (s.fld (Fld.SLC_NSB_RATE_RATE i), s.fld (Fld.SLC_NSB_BURST_SIZE i) * unit)

/-- What a command costs its namespace's two buckets (R242). -/
def ioCost (c : IoCmd) (blk : Nat) : Nat × Nat :=
  (1000000000, if c.opcode = 1 ∨ c.opcode = 2 ∨ c.opcode = 5 then c.nlb * blk * 1000 else 0)

/-- Bucket `i` lets a cost pass: it is off, the cost is 0, or it holds more than 0 tokens (R242). -/
def State.nsbPasses (s : State) (i cost : Nat) : Bool :=
  let p := s.nsbParams i
  p.1 == 0 || cost == 0 || decide (0 < (s.slc.nsb.get i).tokens p.1 p.2 s.now)

/-- Bucket `i` debited in full (R242). -/
def State.nsbDebit (s : State) (i cost : Nat) : State :=
  let p := s.nsbParams i
  if p.1 = 0 ∨ cost = 0 then s
  else s.updSlc fun c => { c with nsb := c.nsb.upd i fun b => b.debit p.1 s.now cost }

/-- Admission of a command of `len` metered bytes with `cost` on its namespace's buckets, for an engine whose
pool has `free` berths and whose tow line holds `depth` (R241, R242): none where the queue is passed over. -/
def State.sluiceAdmit (s : State) (host : Nat) (f : FrameInfo) (nsid : Nat) (cost : Nat × Nat) (free depth : Nat) :
    Option State :=
  let verdict := (s.hostMeter host f).map fun m => (m, s.meterRun m f.len (s.inputColour f))
  let ok := match verdict with
    | none => true
    | some (_, .green, _) => true
    | some (_, .yellow, _) => decide (s.fld Fld.SLC_CFG_YELLOW_FREE < free ∧ depth < s.fld Fld.SLC_CFG_YELLOW_DEPTH)
    | some (_, .red, _) => false
  let i := 2 * (nsid - 1)
  if ok && s.nsbPasses i cost.1 && s.nsbPasses (i + 1) cost.2 then
    let s := match verdict with
      | some (m, col, x) => (s.updSlc fun c => { c with meter := c.meter.set m x }).meterTally m col f.len
      | none => s
    some ((s.nsbDebit i cost.1).nsbDebit (i + 1) cost.2)
  else none

/-- What held a command's admission, counted (Table 19-1): its meter's red, its namespace's buckets. -/
def State.sluiceHeld (s : State) (host : Nat) (f : FrameInfo) (nsid : Nat) (cost : Nat × Nat) : State :=
  let red := match s.hostMeter host f with
    | none => none
    | some m => match (s.meterRun m f.len (s.inputColour f)).1 with
      | .red => some m
      | _ => none
  let i := 2 * (nsid - 1)
  let t := red.elim s fun m => s.tally 0x0D6 m 1
  let t := if s.nsbPasses i cost.1 then t else t.tally 0x0DD i 1
  if s.nsbPasses (i + 1) cost.2 then t else t.tally 0x0DD (i + 1) 1

/-- One choice of a DWRR group (R244): `ready` are the eligible members in ascending order with the length of
the head frame, `empty` those whose queue is empty. Answers the member chosen. -/
def Dwrr.pick (quantum : Nat → Nat) (ready : List (Nat × Nat)) : Nat → Dwrr → Option (Nat × Dwrr)
  | 0, _ => none
  | fuel + 1, d =>
    let next : Option Nat → Option (Nat × Nat) := fun c =>
      match c with
      | none => ready.head?
      | some x => (ready.find? (fun (p : Nat × Nat) => decide (x < p.1))).or ready.head?
    let fits : Nat → Option (Nat × Nat) := fun x =>
      ready.find? (fun (p : Nat × Nat) => p.1 == x && decide (p.2 ≤ d.deficit.get x))
    match d.cur.bind fits with
    | some p => some (p.1, { d with deficit := d.deficit.set p.1 (d.deficit.get p.1 - p.2) })
    | none =>
      match next d.cur with
      | none => none
      | some p => Dwrr.pick quantum ready fuel
          ⟨d.deficit.set p.1 (d.deficit.get p.1 + quantum p.1), some p.1⟩

/-- Deficits of members whose queue is empty are 0 (R244). -/
def Dwrr.clear (d : Dwrr) (empty : List Nat) : Dwrr :=
  { d with deficit := empty.foldl (fun t x => t.set x 0) d.deficit }

/-- Visits that a choice may take: a jumbo frame at the least quantum, over the members. -/
def dwrrFuel (n : Nat) : Nat := 64 * (n + 1)

/-- A shaper lets a frame start: it is absent, or holds more than 0 tokens (R243). -/
def shaperOpen (b : Bucket) (rate burst now : Nat) : Bool :=
  rate == 0 || decide (0 < b.tokens rate (burst * 8000) now)

/-- A minimum-rate bucket holds tokens; with RATE 0 it counts as empty (R243). -/
def minOpen (b : Bucket) (rate burst now : Nat) : Bool :=
  rate != 0 && decide (0 < b.tokens rate (burst * 8000) now)

/-- Class `c` of port `p` is stopped by received PFC or pause (R260). -/
def State.classPaused (s : State) (p c : Nat) : Bool :=
  let q := p / 4
  let l := p % 4
  s.flag (Fld.NET_PORT_STAT_PAUSED_RX q l) || (s.fld (Fld.NET_PORT_STAT_PFC_RX q l)).testBit c

/-- Length of a frame at egress: its bytes plus the port's OVERHEAD (R243). -/
def State.egressLen (s : State) (p len : Nat) : Nat :=
  ((len : Int) + signedByte (s.fld (Fld.SLC_PORT_CFG_OVERHEAD p))).toNat

/-- The canal's NET_OUT queue of class `c` of port `p` (R120). -/
def netOut (p c : Nat) : Nat := queueKey ⟨p / 4, 8 * (p % 4) + c, 0⟩ 2

/-- The frame of class `c` leaves: its shapers debited (R243 to R245), and its queue the one that the quad takes cells
from until the frame's last (R122). On a port whose link is down its cells are taken and discarded (R267). -/
def State.egressSend (s : State) (p c len : Nat) (minToo : Bool) : State :=
  let n := s.egressLen p len * 8000
  let i := 8 * p + c
  let s := s.updSlc fun x => { x with
    port := x.port.upd p fun b => b.debit (s.fld (Fld.SLC_PORT_TB_RATE_RATE p)) s.now n
    cmax := x.cmax.upd i fun b => b.debit (s.fld (Fld.SLC_CMAX_RATE_RATE i)) s.now n
    cmin := if minToo then x.cmin.upd i fun b => b.debit (s.fld (Fld.SLC_CMIN_RATE_RATE i)) s.now n else x.cmin }
  let sub := 8 * (p % 4) + c
  let s := if s.cnl.queue (netOut p c) = [] then s
    else s.updCnl fun x => { x with picked := x.picked.upd (p / 4) (· ++ [sub]) }
  if s.linked p then (s.emit (.frameOut p c len)).sentFrame p len else s

/-- EGRESS_FRAME_CHOICE (R243 to R245): `heads` gives the length of each class's head frame. -/
def execEgressFrameChoice (port : Fin 128) (heads : List (Option Nat)) (s : State) : Result :=
  let p := port.val
  let lenOf := fun c => (heads.getD c none).getD 0
  let empty := (List.range 8).filter fun c => (heads.getD c none).isNone
  let x := s.slc.lane.get p
  let x : Sched := ⟨x.nat.clear empty, x.com.clear empty, x.exc.clear empty⟩
  let elig := fun c => (heads.getD c none).isSome && !s.classPaused p c &&
    shaperOpen (s.slc.cmax.get (8 * p + c)) (s.fld (Fld.SLC_CMAX_RATE_RATE (8 * p + c)))
      (s.fld (Fld.SLC_CMAX_BURST_BURST (8 * p + c))) s.now
  let quantum := fun c => s.fld (Fld.SLC_CLASS_CFG_WEIGHT (8 * p + c)) * 256
  let save := fun (s : State) (x : Sched) => s.updSlc fun e => { e with lane := e.lane.set p x }
  let ready := fun (l : List Nat) => l.map fun c => (c, s.egressLen p (lenOf c))
  if !shaperOpen (s.slc.port.get p) (s.fld (Fld.SLC_PORT_TB_RATE_RATE p))
      (s.fld (Fld.SLC_PORT_TB_BURST_BURST p)) s.now then .next s
  else if s.fld (Fld.SLC_PORT_CFG_MODE p) = 0 then
    let n := s.fld (Fld.SLC_PORT_CFG_STRICT_N p)
    match ((List.range n).map fun i => 7 - i).find? elig with
    | some c => .next ((save s x).egressSend p c (lenOf c) false)
    | none =>
      match Dwrr.pick quantum (ready ((List.range (8 - n)).filter elig)) (dwrrFuel 8) x.nat with
      | some (c, d) => .next ((save s { x with nat := d }).egressSend p c (lenOf c) false)
      | none => .next (save s x)
  else
    let k := (List.range 8).filter fun c => elig c &&
      minOpen (s.slc.cmin.get (8 * p + c)) (s.fld (Fld.SLC_CMIN_RATE_RATE (8 * p + c)))
        (s.fld (Fld.SLC_CMIN_BURST_BURST (8 * p + c))) s.now
    if k ≠ [] then
      match Dwrr.pick quantum (ready k) (dwrrFuel 8) x.com with
      | some (c, d) => .next ((save s { x with com := d }).egressSend p c (lenOf c) true)
      | none => .next (save s x)
    else
      match Dwrr.pick quantum (ready ((List.range 8).filter elig)) (dwrrFuel 8) x.exc with
      | some (c, d) => .next ((save s { x with exc := d }).egressSend p c (lenOf c) false)
      | none => .next (save s x)

/-- Valid subscriber nodes for a port, class and host, lowest first (R246). -/
def State.subNodes (s : State) (p c host : Nat) : List Nat :=
  (s.regs.filterMap fun e =>
    let n := (e.1 - Reg.SLC_SUB_CFG 0) / 16
    if e.1 = Reg.SLC_SUB_CFG n ∧ n < 8192 ∧ s.flag (Fld.SLC_SUB_CFG_VALID n) ∧
        s.fld (Fld.SLC_SUB_CFG_PORT n) = p ∧ s.fld (Fld.SLC_SUB_CFG_CLASS n) = c ∧
        s.fld (Fld.SLC_SUB_CFG_HOST n) = host then some n else none)

/-- A choice among subscribers keeps no deficit of one that has no packet waiting (R244, R246). -/
def Sched.waiting (x : Sched) (nodes : List Nat) : Sched :=
  let gone := fun (d : Dwrr) => d.clear ((d.deficit.map Prod.fst).filter fun n => !nodes.contains n)
  ⟨gone x.nat, gone x.com, gone x.exc⟩

/-- SUBSCRIBER_CHOICE (R246): a tug group that holds a credit for the port's class chooses among the hosts with a packet
waiting in it, each with the packet's length. A host without a node is of the default subscriber, number 8192. -/
def execSubscriberChoice (group : Fin 8) (port : Fin 128) (cls : Fin 8) (waiting : List (Nat × Nat))
    (s : State) : Result :=
  let p := port.val
  let node := fun h => (s.subNodes p cls h).head?.getD 8192
  let dup := waiting.any fun w => decide (2 ≤ (s.subNodes p cls w.1).length)
  let s := if dup then s.raise Fld.SLC_STATUS_SUB_DUP else s
  let burst := fun n => s.fld (Fld.SLC_SUB_BURST_BURST n)
  let l := sortBy Prod.fst (waiting.map fun w => (node w.1, s.egressLen p w.2))
  let key := group.val * 1024 + p * 8 + cls.val
  let x := (s.slc.sub.get key).waiting (l.map Prod.fst)
  let l := l.filter fun w => w.1 == 8192 ||
    shaperOpen (s.slc.subMax.get w.1) (s.fld (Fld.SLC_SUB_MAX_RATE w.1)) (burst w.1) s.now
  let com := l.filter fun w => w.1 != 8192 &&
    minOpen (s.slc.subMin.get w.1) (s.fld (Fld.SLC_SUB_MIN_RATE w.1)) (burst w.1) s.now
  let quantum := fun n => if n = 8192 then 256 else s.fld (Fld.SLC_SUB_CFG_WEIGHT n) * 256
  let take := fun (s : State) (x : Sched) (n : Nat) (minToo : Bool) =>
    let len := ((l.find? fun w => w.1 == n).map Prod.snd).getD 0
    let s := s.updSlc fun e => { e with
      sub := e.sub.set key x
      subMax := if n = 8192 then e.subMax else
        e.subMax.upd n fun b => b.debit (s.fld (Fld.SLC_SUB_MAX_RATE n)) s.now (len * 8000)
      subMin := if minToo then
        e.subMin.upd n fun b => b.debit (s.fld (Fld.SLC_SUB_MIN_RATE n)) s.now (len * 8000) else e.subMin }
    s.emit (.subscriber group p cls n)
  if s.cnl.credits.get (netOut p cls * 128 + attGroup group) = [] then .next s
  else if com ≠ [] then
    match Dwrr.pick quantum com (dwrrFuel com.length) x.com with
    | some (n, d) => .next (take s { x with com := d } n true)
    | none => .next s
  else
    match Dwrr.pick quantum l (dwrrFuel l.length) x.exc with
    | some (n, d) => .next (take s { x with exc := d } n false)
    | none => .next s

/-- Rate and burst of the bucket kinds that an SLC register parameterises. -/
def State.rateOf (s : State) (rate burst : Fld) (unit : Nat) : Nat × Nat := (s.fld rate, s.fld burst * unit)

/-- Every bucket that register `a` of the SLC block parameterises, kept in tokens across the change from `s`
to the register values of `t` (Table 10-2). -/
def State.slcRebase (s t : State) (a : Nat) : State :=
  let o := a - 0xE00000
  let fix := fun (b : Bucket) (p q : Nat × Nat) => b.rebase p.1 p.2 q.2 s.now
  if 0x2000 ≤ o ∧ o < 0x2400 then
    let i := (o - 0x2000) / 8
    let r := fun (x : State) => x.rateOf (Fld.SLC_PORT_TB_RATE_RATE i) (Fld.SLC_PORT_TB_BURST_BURST i) 8000
    t.updSlc fun c => { c with port := c.port.upd i fun b => fix b (r s) (r t) }
  else if 0x4000 ≤ o ∧ o < 0x6000 then
    let i := (o - 0x4000) / 8
    let r := fun (x : State) => x.rateOf (Fld.SLC_CMAX_RATE_RATE i) (Fld.SLC_CMAX_BURST_BURST i) 8000
    t.updSlc fun c => { c with cmax := c.cmax.upd i fun b => fix b (r s) (r t) }
  else if 0x6000 ≤ o ∧ o < 0x8000 then
    let i := (o - 0x6000) / 8
    let r := fun (x : State) => x.rateOf (Fld.SLC_CMIN_RATE_RATE i) (Fld.SLC_CMIN_BURST_BURST i) 8000
    t.updSlc fun c => { c with cmin := c.cmin.upd i fun b => fix b (r s) (r t) }
  else if 0x10000 ≤ o ∧ o < 0x30000 then
    let i := (o - 0x10000) / 16
    let r := fun (x : State) (f : Fld) => x.rateOf f (Fld.SLC_SUB_BURST_BURST i) 8000
    t.updSlc fun c => { c with
      subMin := c.subMin.upd i fun b => fix b (r s (Fld.SLC_SUB_MIN_RATE i)) (r t (Fld.SLC_SUB_MIN_RATE i))
      subMax := c.subMax.upd i fun b => fix b (r s (Fld.SLC_SUB_MAX_RATE i)) (r t (Fld.SLC_SUB_MAX_RATE i)) }
  else if 0x40000 ≤ o ∧ o < 0x80000 then
    let i := (o - 0x40000) / 32
    let x := s.meterAt i
    let cut := fun (b : Bucket) (f : Fld) => b.rebase 0 (s.fld f * 8000) (t.fld f * 8000) s.now
    t.updSlc fun c => { c with
      meter := c.meter.set i ⟨cut x.c (Fld.SLC_MTR_CBS_SIZE i), cut x.e (Fld.SLC_MTR_PBS_SIZE i)⟩ }
  else if 0x80000 ≤ o ∧ o < 0xC0000 then
    let i := (o - 0x80000) / 8
    t.updSlc fun c => { c with nsb := c.nsb.upd i fun b => fix b (s.nsbParams i) (t.nsbParams i) }
  else t

/-- The writable bits of the register differ from what was asked for. -/
def State.stored (s : State) (a : Nat) (v : Word32) : Bool :=
  match findReg a with
  | none => true
  | some r => r.fields.all fun f => f.access != .rw || f.of (s.reg a) == f.of v

/-- Subscriber node `n` and another valid one share a port, class and host (R246). -/
def State.subDup (s : State) (n : Nat) : Bool :=
  s.flag (Fld.SLC_SUB_CFG_VALID n) && decide (2 ≤ (s.subNodes (s.fld (Fld.SLC_SUB_CFG_PORT n))
    (s.fld (Fld.SLC_SUB_CFG_CLASS n)) (s.fld (Fld.SLC_SUB_CFG_HOST n))).length)

/-- A write of an SLC register from either path (R250): stored as the table states, CLAMPED where that is another value, a
PIR below CIR stored as CIR whichever of the two is written (log entry 61), tokens cut to a new burst. -/
def State.slcWrite (s : State) (a : Nat) (v : Word32) : State :=
  let t := s.cfgWrite a v
  let o := a - 0xE40000
  let i := o / 32
  let t := if 0xE40000 ≤ a ∧ a < 0xE80000 ∧ (o % 32 = 4 ∨ o % 32 = 12) ∧
      t.fld (Fld.SLC_MTR_PIR_RATE i) < t.fld (Fld.SLC_MTR_CIR_RATE i) then
      t.cfgFld (Fld.SLC_MTR_PIR_RATE i) (t.fld (Fld.SLC_MTR_CIR_RATE i)) else t
  let t := if t.stored a v then t else t.raise Fld.SLC_STATUS_CLAMPED
  let n := (a - Reg.SLC_SUB_CFG 0) / 16
  let t := if n < 8192 ∧ a = Reg.SLC_SUB_CFG n ∧ t.subDup n then t.raise Fld.SLC_STATUS_SUB_DUP else t
  s.slcRebase t a

/-- SLC_PORT_CFG.MODE and STRICT_N take effect at the next choice, with every deficit of the lane 0 (R247). -/
def State.slcMode (s : State) (p : Nat) : State := s.updSlc fun c => { c with lane := c.lane.set p default }

/-- SLC_MODE_WRITE (R247). -/
def execSlcModeWrite (port : Fin 128) (mode strictN : Nat) (s : State) : Result :=
  .next (((s.cfgFld (Fld.SLC_PORT_CFG_MODE port) mode).cfgFld (Fld.SLC_PORT_CFG_STRICT_N port) strictN).slcMode port)

/-- SLC registers written by a manifest; answers the offsets whose stored value is another (R250). -/
def State.slcWrites (s : State) (l : List (Nat × Word32)) : State × List Nat :=
  l.foldl (fun p w =>
    let t := p.1.slcWrite w.1 w.2
    (t, if t.stored w.1 w.2 then p.2 else p.2 ++ [w.1])) (s, [])

/-- The answer of a manifest that writes SLC registers: clamped fields named. -/
def slcAnswer (s : State) (l : List (Nat × Word32)) : MRes :=
  let r := s.slcWrites l
  if l = [] then .zero s [] else .ok r.1 [r.2.flatMap fun a => beBytes 4 a]

/-- SLC_PORT_SET's effects: the port's mode, overhead, weights by class, shapers by kind (0 port, 1 CMAX, 2
CMIN) and class with rate and burst, and pre-colour words. -/
def slcPortSetBody (port : Nat) (mode strictN overhead : OptVal) (weights : List (Nat × Nat))
    (shapers : List (Nat × Nat × Nat × Nat)) (preColours : List (Nat × Word32)) (s : State) : MRes :=
  if 128 ≤ port then .fail .outOfRange [beBytes 1 port]
  else if !s.portHere port then .fail .invalidState [beBytes 1 port]
  else if weights.any (fun w => decide (8 ≤ w.1)) ∨ shapers.any (fun x => decide (3 ≤ x.1 ∨ 8 ≤ x.2.1)) ∨
      preColours.any (fun w => decide (5 ≤ w.1)) then .fail .outOfRange [beBytes 1 port]
  else
    let put := fun (v lo w : Nat) (x : OptVal) => match x with
      | none => v
      | some y => setBits v lo w y
    let old := (s.reg (Reg.SLC_PORT_CFG port)).toNat
    let cfg := put (put (put old 0 1 mode) 2 2 strictN) 4 8 overhead
    let base := fun (k c : Nat) => if k = 0 then Reg.SLC_PORT_TB_RATE port
      else if k = 1 then Reg.SLC_CMAX_RATE (8 * port + c) else Reg.SLC_CMIN_RATE (8 * port + c)
    let l := (if mode.isSome || strictN.isSome || overhead.isSome then
        [(Reg.SLC_PORT_CFG port, BitVec.ofNat 32 cfg)] else []) ++
      (weights.map fun w => (Reg.SLC_CLASS_CFG (8 * port + w.1), BitVec.ofNat 32 w.2)) ++
      (shapers.flatMap fun x => [(base x.1 x.2.1, BitVec.ofNat 32 x.2.2.1),
        (base x.1 x.2.1 + 4, BitVec.ofNat 32 x.2.2.2)]) ++
      (preColours.map fun w => (Reg.SLC_PRECOLOUR port w.1, w.2))
    slcAnswer (if mode.isSome || strictN.isSome then s.slcMode port else s) l

/-- SLC_PORT_SET (0x0210, R250). -/
def execSlcPortSet (h : Hdr) (port : Nat) (mode strictN overhead : OptVal) (weights : List (Nat × Nat))
    (shapers : List (Nat × Nat × Nat × Nat)) (preColours : List (Nat × Word32)) (s : State) : Result :=
  .next (s.manifest (.slcPortSet port mode strictN overhead weights shapers preColours) h 0x0210
    [(.port, port)] (slcPortSetBody port mode strictN overhead weights shapers preColours))

/-- METER_SET's effects: words CFG, CIR, CBS, PIR, PBS by number (Table 10-4). -/
def meterSetBody (meter : Nat) (words : List (Nat × Word32)) (s : State) : MRes :=
  if 8192 ≤ meter ∨ words.any (fun w => decide (5 ≤ w.1)) then .fail .outOfRange [beBytes 2 meter]
  else slcAnswer s (words.map fun w => (Reg.SLC_MTR_CFG meter + 4 * w.1, w.2))

/-- METER_SET (0x0211, R239, R250). -/
def execMeterSet (h : Hdr) (meter : Nat) (words : List (Nat × Word32)) (s : State) : Result :=
  .next (s.manifest (.meterSet meter words) h 0x0211 [(.device, 0)] (meterSetBody meter words))

/-- SLC_CFG_SET's effects. -/
def slcCfgSetBody (yellowFree yellowDepth : OptVal) (s : State) : MRes :=
  let put := fun (s : State) (f : Fld) (v : OptVal) => match v with
    | none => s
    | some x => s.cfgFld f x
  let t := put (put s Fld.SLC_CFG_YELLOW_FREE yellowFree) Fld.SLC_CFG_YELLOW_DEPTH yellowDepth
  let odd := yellowFree.any (fun v => v != t.fld Fld.SLC_CFG_YELLOW_FREE) ||
    yellowDepth.any fun v => v != t.fld Fld.SLC_CFG_YELLOW_DEPTH
  let t := if odd then t.raise Fld.SLC_STATUS_CLAMPED else t
  if yellowFree.isNone ∧ yellowDepth.isNone then .zero t [] else .ok t []

/-- SLC_CFG_SET (0x0212, R241, R250). -/
def execSlcCfgSet (h : Hdr) (yellowFree yellowDepth : OptVal) (s : State) : Result :=
  .next (s.manifest (.slcCfgSet yellowFree yellowDepth) h 0x0212 [(.device, 0)]
    (slcCfgSetBody yellowFree yellowDepth))

/-- SUB_NODE_SET's effects: words CFG, MIN, MAX, BURST by number (Table 10-4). A valid node names a port that its quad's
mode has (R251). -/
def subNodeSetBody (node : Nat) (words : List (Nat × Word32)) (s : State) : MRes :=
  if 8192 ≤ node ∨ words.any (fun w => decide (4 ≤ w.1)) then .fail .outOfRange [beBytes 2 node]
  else if words.any (fun w => w.1 == 0 && w.2.getLsbD 31 && !s.portHere (bitsOf w.2.toNat 0 7)) then
    .fail .invalidState [beBytes 2 node]
  else slcAnswer s (words.map fun w => (Reg.SLC_SUB_CFG node + 4 * w.1, w.2))

/-- SUB_NODE_SET (0x0420, R246, R250). -/
def execSubNodeSet (h : Hdr) (node : Nat) (words : List (Nat × Word32)) (s : State) : Result :=
  .next (s.manifest (.subNodeSet node words) h 0x0420 [(.device, 0)] (subNodeSetBody node words))

/-- NSB_SET's effects: the namespace's command and byte buckets (R242). -/
def nsbSetBody (nsid : Nat) (cmdRate cmdBurst byteRate byteBurst : OptVal) (s : State) : MRes :=
  let i := 2 * (nsid - 1)
  let w := fun (a : Nat) (v : OptVal) => (v.map fun x => (a, BitVec.ofNat 32 x)).toList
  if nsid = 0 ∨ 16384 < nsid then .fail .outOfRange [beBytes 4 nsid]
  else if !(s.mrd.ns.get nsid).present then .fail .invalidState [beBytes 4 nsid]
  else slcAnswer s (w (Reg.SLC_NSB_RATE i) cmdRate ++ w (Reg.SLC_NSB_BURST i) cmdBurst ++
    w (Reg.SLC_NSB_RATE (i + 1)) byteRate ++ w (Reg.SLC_NSB_BURST (i + 1)) byteBurst)

/-- NSB_SET (0x0421, R242, R250). -/
def execNsbSet (h : Hdr) (nsid : Nat) (cmdRate cmdBurst byteRate byteBurst : OptVal) (s : State) : Result :=
  .next (s.manifest (.nsbSet nsid cmdRate cmdBurst byteRate byteBurst) h 0x0421 [(.nspace, nsid)]
    (nsbSetBody nsid cmdRate cmdBurst byteRate byteBurst))

end Sys2Proof.Machine
end

