-- ==== Sys2Proof/Machine/Net.lean ====
section
/-! DEFINITION. Network ports (11_network_ports.md): links, addresses, PFC and pause, ACLs and their manifests. The
receiving of frames is in Machine/Frames.lean. -/

namespace Sys2Proof.Machine

/-- Address entries of a port that are live (R256, R257). -/
def State.liveAddrs (s : State) (p : Nat) : List AddrParams :=
  s.mrd.addr.filterMap fun e => match e.2 with
    | some a => if a.ports.contains p then some a else none
    | none => none

/-- Length of a frame that the quad makes itself, without a tag: of MAC control and ARP the least there is, of neighbour
discovery with its option, of an echo that of its request. -/
def NetOut.len : NetOut → Nat
  | .pfc _ | .pause _ => 64
  | .announce v6 _ | .answer v6 _ | .request v6 _ | .probe v6 _ => if v6 then 90 else 64
  | .dad _ => 82
  | .echoReply _ n => n
  | .train | .down => 0

/-- A frame that the quad makes itself leaves on a port; it carries a tag where its address entry has a VLAN (R256). -/
def State.sendNet (s : State) (p : Nat) (vlan : Option Nat) (o : NetOut) : State :=
  (s.emit (.net p o)).sentFrame p (max 64 (o.len + if vlan.isSome then 4 else 0))

/-- Gratuitous ARP or unsolicited NA for every live address of a port (R257). -/
def State.announce (s : State) (p : Nat) : State :=
  (s.liveAddrs p).foldl (fun s a => s.sendNet p a.vlan (.announce a.v6 a.addr)) s

/-- The next hop from a live address of the port to `dst`: none where it is unreachable (R256). -/
def nextHop (a : AddrParams) (dst : Nat) : Option Nat :=
  let w := (if a.v6 then 128 else 32) - a.len
  if a.addr / 2 ^ w = dst / 2 ^ w then some dst else a.gateway

/-- The VLAN on which a neighbour is reached. -/
def State.vlanTo (s : State) (p : Nat) (v6 : Bool) (addr : Nat) : Option Nat :=
  ((s.liveAddrs p).find? fun a => a.v6 == v6 && nextHop a addr == some addr).bind (·.vlan)

/-- The end of a takeover, or of a pair's start: with every array assembled and replayed, the addresses of every port are
announced and AQD_TKO_STAT records the takeover (Table 14-7, Table 14-13). -/
def State.tkoEnd (s : State) : State :=
  match s.pair.tko with
  | none => s
  | some (t, cause) =>
    let done := s.mrd.arr.all fun e => e.2.state == .none || ((s.ary.get e.1).assembled && !(s.ary.get e.1).replaying)
    if !(s.isActive && done) then s
    else
      let s := (List.range 128).foldl (fun s p =>
        if s.flag (Fld.NET_PORT_STAT_LINK (quadOf p) (laneOf p)) then s.announce p else s) s
      let s := s.updPeer fun p => { p with tko := none }
      if cause = 0 then s
      else
        let s := (s.setFld Fld.AQD_TKO_STAT_LAST_MS (min 65535 ((s.now - t) / 1000000))).setFld Fld.AQD_TKO_STAT_CAUSE cause
        s.moorFld Fld.AQD_TKO_STAT_COUNT (min 255 (s.fld Fld.AQD_TKO_STAT_COUNT + 1))

/-- A packet of queue `q` is in process at a tug (R65): the tug at work on that queue, else the least occupied of its group
that is not fenced. -/
def State.toTug (s : State) (q : Nat) : State :=
  let g := refGroup (if isTcp q then q else q % 65536)
  let l := (List.range 8).map (8 * g + ·)
  let busy := l.find? fun t => (s.tug.inbox.get t).contains q
  let least := leastBy (fun t => (s.tug.inbox.get t).length) (l.filter fun t => !s.flag (Fld.TUG_STATUS_FENCED t))
  match busy.or least with
  | none => s
  | some t => s.updTug fun x => { x with inbox := x.inbox.upd t (· ++ [q]) }

/-- A tug is done with the oldest packet of queue `q` (R65). -/
def State.fromTug (s : State) (q : Nat) : State :=
  match s.tug.inbox.keysWhere fun _ l => l.contains q with
  | t :: _ => s.updTug fun x => { x with inbox := x.inbox.upd t (·.erase q) }
  | [] => s

/-- Sprayed paths on a port marked down (R78, R267). -/
def State.downPaths (s : State) (p : Nat) : State :=
  s.updTug fun t => { t with qp := t.qp.mapAll fun _ q =>
    if q.spray then (List.range q.npaths).foldl (fun q k =>
      if s.pathPort q k = p then { q with paths := q.paths.upd k fun x => { x with down := true } } else q) q
    else q }

/-- A port's link goes down (R267). -/
def State.linkDown (s : State) (p : Nat) : State :=
  let q := quadOf p
  let l := laneOf p
  let s := if s.flag (Fld.NET_PORT_STAT_LINK q l) then (s.netCount p 21 1).emit (.net p .down) else s
  let s := (s.setFld (Fld.NET_PORT_STAT_LINK q l) 0).setFld (Fld.NET_PORT_STAT_PFC_RX q l) 0
  let s := (s.setFld (Fld.NET_PORT_STAT_PAUSED_RX q l) 0).setFld (Fld.NET_PORT_STAT_XOFF_TX q l) 0
  let s := (s.setFld (Fld.NET_PORT_STAT_LPI_TX q l) 0).setFld (Fld.NET_PORT_STAT_LPI_RX q l) 0
  s.downPaths p

/-- Every link of the device down (R324). -/
def State.allLinksDown (s : State) : State := (List.range 128).foldl State.linkDown s

/-- A quad's links drop and it trains in its setting (R253). -/
def State.retrain (s : State) (q : Nat) : State :=
  let s := (List.range 4).foldl (fun s l => s.linkDown (4 * q + l)) s
  (s.raise (Fld.NET_QUAD_STAT_TRAINING q)).emit (.net (4 * q) .train)

/-- Counters of a quad at 0, as at a MODE change (R253). -/
def State.clearCounts (s : State) (q : Nat) : State :=
  (List.range 4).foldl (fun s l => (List.range 64).foldl (fun s n =>
    (s.setFld (Fld.NET_CNT_LO_COUNT q l n) 0).setFld (Fld.NET_CNT_HI_COUNT q l n) 0) s) s

/-- A lane map names every physical lane once (R252). -/
def mapGood (v : Nat) : Bool :=
  let l := (List.range 4).map fun i => bitsOf v (2 * i) 2
  decide l.Nodup

/-- Units of a quad's threshold set (R258). -/
def State.thrSum (s : State) (q : Nat) : Nat :=
  ((List.range 4).map fun l =>
    let one := fun c => s.fld (Fld.NET_PFC_THR_XOFF q l c) + s.fld (Fld.NET_PFC_THR_HEAD q l c)
    if !s.flag (Fld.NET_PORT_CFG_EN q l) ∨ !s.portHere (4 * q + l) then 0
    else
      let en := s.fld (Fld.NET_PORT_CFG_PFC_EN q l)
      if en = 0 then (if s.flag (Fld.NET_PORT_CFG_PAUSE_EN q l) then one 0 else 0)
      else (((List.range 8).filter fun c => en.testBit c).map one).sum).sum

/-- NET_LANE_MAP written (R252); answers whether the quad retrains. -/
def State.mapWrite (s : State) (q : Nat) (v : Word32) : State × Bool :=
  if mapGood v.toNat then
    let t := s.cfgWrite (Reg.NET_LANE_MAP q) v
    (t, t.reg (Reg.NET_LANE_MAP q) != s.reg (Reg.NET_LANE_MAP q))
  else (s.raise (Fld.NET_QUAD_STAT_MAP_ERR q), false)

/-- NET_QUAD_CFG written; answers whether MODE or AN_EN changed. A MODE change clears the quad's counters (R253). A MODE
whose ports' threshold set is invalid is refused (R258). -/
def State.quadWrite (s : State) (q : Nat) (v : Word32) : State × Bool :=
  let t := s.cfgWrite (Reg.NET_QUAD_CFG q) v
  if 1024 < t.thrSum q then (s.raise (Fld.NET_QUAD_STAT_PFC_ERR q), false) else
  let m := t.fld (Fld.NET_QUAD_CFG_MODE q) != s.fld (Fld.NET_QUAD_CFG_MODE q)
  let a := t.fld (Fld.NET_QUAD_CFG_AN_EN q) != s.fld (Fld.NET_QUAD_CFG_AN_EN q)
  (if m then t.clearCounts q else t, m || a)

/-- NET_PFC_THR as it is stored: XON stays below XOFF (Table 11-8). -/
def thrStored (v : Word32) : Word32 :=
  let x := v.toNat
  let xoff := bitsOf x 0 11
  if xoff ≤ bitsOf x 11 11 then BitVec.ofNat 32 (setBits x 11 11 (xoff - 1)) else v

/-- Registers of a quad's thresholds written: refused in whole where the set would be invalid (R258). -/
def State.thrWrites (s : State) (q : Nat) (l : List (Nat × Word32)) : State × Bool :=
  let t := l.foldl (fun s p => s.cfgWrite p.1 p.2) s
  if t.thrSum q ≤ 1024 then (t, true) else (s.raise (Fld.NET_QUAD_STAT_PFC_ERR q), false)

/-- A port disabled takes its link down; one enabled trains (R267). -/
def State.portEnables (s t : State) (q : Nat) : State :=
  (List.range 4).foldl (fun u l =>
    match s.flag (Fld.NET_PORT_CFG_EN q l), t.flag (Fld.NET_PORT_CFG_EN q l) with
    | true, false => u.linkDown (4 * q + l)
    | false, true => u.emit (.net (4 * q + l) .train)
    | _, _ => u) t

/-- A direct write of a NET register at offset `a` (R252, R253, R258). -/
def State.netWrite (s : State) (a : Nat) (v : Word32) : State :=
  let q := (a - 0x2800000) / 0x20000
  let off := (a - 0x2800000) % 0x20000
  if off = 0 then
    let r := s.quadWrite q v
    if r.2 then r.1.retrain q else r.1
  else if off = 8 then
    let r := s.mapWrite q v
    if r.2 then r.1.retrain q else r.1
  else if 0x100 ≤ off ∧ off < 0x500 then
    let o := off % 0x100
    if o = 0 then
      let r := s.thrWrites q [(a, v)]
      s.portEnables r.1 q
    else if 0x20 ≤ o ∧ o < 0x40 then (s.thrWrites q [(a, thrStored v)]).1
    else s.cfgWrite a v
  else s.cfgWrite a v

/-- QUAD_RECONFIG_WRITE (R253): a direct write of NET_QUAD_CFG, of NET_LANE_MAP, or of both. -/
def execQuadReconfigWrite (q : Fin 32) (cfg map : Option Word32) (s : State) : Result :=
  let s := cfg.elim s fun v => s.netWrite (Reg.NET_QUAD_CFG q) v
  .next (map.elim s fun v => s.netWrite (Reg.NET_LANE_MAP q) v)

/-- QUAD_SET's effect (R253): fields absent keep their values. -/
def quadSetBody (quad : Nat) (mode anEn map degMax : OptVal) (s : State) : MRes :=
  if 32 ≤ quad then .fail .outOfRange []
  else if mode.any (fun m => decide (2 < m)) || anEn.any (fun a => decide (1 < a)) then .fail .invalidParam []
  else if map.any (fun m => !mapGood m) then .refuse (s.raise (Fld.NET_QUAD_STAT_MAP_ERR quad)) .invalidParam []
  else
    let w := (s.reg (Reg.NET_QUAD_CFG quad)).toNat
    let w := mode.elim w fun m => setBits w 0 2 m
    let w := anEn.elim w fun a => setBits w 2 1 a
    let w := degMax.elim w fun d => setBits w 16 16 d
    let r := s.quadWrite quad (BitVec.ofNat 32 w)
    if 1024 < (s.cfgWrite (Reg.NET_QUAD_CFG quad) (BitVec.ofNat 32 w)).thrSum quad then .refuse r.1 .invalidParam [] else
    let r2 := map.elim (r.1, false) fun m => r.1.mapWrite quad (BitVec.ofNat 32 m)
    .ok (if r.2 ∨ r2.2 then r2.1.retrain quad else r2.1) []

def execQuadSet (h : Hdr) (quad : Nat) (mode anEn map degMax : OptVal) (s : State) : Result :=
  .next (s.manifest (.quadSet quad mode anEn map degMax) h 0x0201
    ((List.range 4).map fun l => (.port, 4 * quad + l)) (quadSetBody quad mode anEn map degMax))

/-- PORT_SET's effect (R258): a port that the quad's mode lacks is refused (R251), and so is an invalid threshold
set. NET_EEE_CFG belongs to the port's quad. -/
def portSetBody (port : Nat) (cfg pfc eee : Option Word32) (thr wake : List (Nat × Word32)) (s : State) : MRes :=
  if 128 ≤ port then .fail .outOfRange []
  else if !s.portHere port then .fail .invalidState []
  else if thr.any (fun p => decide (8 ≤ p.1)) || wake.any (fun p => decide (4 ≤ p.1)) then .fail .invalidParam []
  else
    let q := quadOf port
    let l := laneOf port
    let words := (cfg.elim [] fun v => [(Reg.NET_PORT_CFG q l, v)]) ++ (pfc.elim [] fun v => [(Reg.NET_PFC_CFG q l, v)]) ++
      (eee.elim [] fun v => [(Reg.NET_EEE_CFG q, v)]) ++
      (thr.map fun p => (Reg.NET_PFC_THR q l p.1, thrStored p.2)) ++ wake.map fun p => (Reg.NET_WAKE_PAT q l p.1, p.2)
    match s.thrWrites q words with
    | (t, true) => .ok (s.portEnables t q) []
    | (t, false) => .refuse t .invalidParam []

/-- LINK_UP (R253, R257, R264): a present, enabled port of a device that has begun T8; `eee`: the link partner takes part
in the EEE that auto-negotiation offers. A standby on its way to take over announces nothing yet (Table 14-7). -/
def execLinkUp (port : Fin 128) (eee : Bool) (s : State) : Result :=
  let q := quadOf port
  let l := laneOf port
  if s.portHere port ∧ s.flag (Fld.NET_PORT_CFG_EN q l) ∧ s.rst.portsUp ∧ !s.flag (Fld.NET_PORT_STAT_LINK q l) then
    let s := s.raise (Fld.NET_PORT_STAT_LINK q l)
    let idle := if eee && s.flag (Fld.NET_QUAD_CFG_AN_EN q) then s.fld (Fld.NET_EEE_CFG_IDLE_US q) else 0
    let s := s.updNet fun n => { n with eee := n.eee.set port idle }
    let due := (List.range 4).any fun i => s.portHere (4 * q + i) && s.flag (Fld.NET_PORT_CFG_EN q i) &&
      !s.flag (Fld.NET_PORT_STAT_LINK q i)
    let s := if due then s else s.setFld (Fld.NET_QUAD_STAT_TRAINING q) 0
    .next (if s.isStandby then s else s.announce port)
  else .next s

/-- LINK_DOWN (R267): the PCS lost lock or auto-negotiation restarted; the port trains again. -/
def execLinkDown (port : Fin 128) (s : State) : Result :=
  if s.flag (Fld.NET_PORT_STAT_LINK (quadOf port) (laneOf port)) then
    .next (((s.linkDown port).raise (Fld.NET_QUAD_STAT_TRAINING (quadOf port))).emit (.net port .train))
  else .next s

/-- Bytes held of a priority, in 4 KiB units, and of a port (R258). -/
def State.occUnits (s : State) (p c : Nat) : Nat :=
  ceilDiv ((List.range 9).map fun g => (s.net.rx.get ((8 * p + c) * 16 + g)).sum).sum 4096

/-- Units of a quad's receive buffer in use (NET_QUAD_STAT.BUF_UNITS). -/
def State.bufUnits (s : State) (q : Nat) : Nat := ((List.range 32).map fun i => s.occUnits (4 * q + i / 8) (i % 8)).sum

/-- A port runs PFC on a priority; a port runs pause (R258). -/
def State.pfcOn (s : State) (p c : Nat) : Bool := (s.fld (Fld.NET_PORT_CFG_PFC_EN (quadOf p) (laneOf p))).testBit c
def State.pauseOn (s : State) (p : Nat) : Bool :=
  s.flag (Fld.NET_PORT_CFG_PAUSE_EN (quadOf p) (laneOf p)) && s.fld (Fld.NET_PORT_CFG_PFC_EN (quadOf p) (laneOf p)) == 0

/-- What the thresholds of priority `c` are compared with: its own occupancy, or the port's with pause. -/
def State.thrOcc (s : State) (p c : Nat) : Nat :=
  if s.pauseOn p then ((List.range 8).map (s.occUnits p)).sum else s.occUnits p c

/-- An XOFF frame, or with time 0 an XON frame, of a priority or of the port (R259). -/
def State.sendXoff (s : State) (p c time : Nat) : State :=
  if s.pauseOn p then (s.sendNet p none (.pause time)).netCount p 41 1
  else
    let s := s.sendNet p none (.pfc [(c, time)])
    if time = 0 then s else s.netCount p (32 + c) 1

/-- Own XOFF bits follow the occupancy of a priority (R259): XOFF sent as it reaches its threshold, time 0 as it
falls below XON. -/
def State.pfcCheck (s : State) (p c0 : Nat) : State :=
  let q := quadOf p
  let l := laneOf p
  let c := if s.pauseOn p then 0 else c0
  if 128 ≤ p ∨ !(s.pauseOn p || s.pfcOn p c) then s
  else
    let occ := s.thrOcc p c
    let x := s.fld (Fld.NET_PORT_STAT_XOFF_TX q l)
    if !x.testBit c ∧ s.fld (Fld.NET_PFC_THR_XOFF q l c) ≤ occ then
      (s.setFld (Fld.NET_PORT_STAT_XOFF_TX q l) (x + 2 ^ c)).sendXoff p c (s.fld (Fld.NET_PFC_CFG_QUANTA q l))
    else if x.testBit c ∧ occ < s.fld (Fld.NET_PFC_THR_XON q l c) then
      (s.setFld (Fld.NET_PORT_STAT_XOFF_TX q l) (x - 2 ^ c)).sendXoff p c 0
    else s

/-- A frame of `n` bytes taken into the receive buffer, in the virtual output queue of the tug group that owns its queue
(R125, R258, R259). -/
def State.holdFrame (s : State) (p c n : Nat) (flow : Option Nat) : State :=
  let g := flow.elim 8 fun q => refGroup (if isTcp q then q else q % 65536)
  (s.updNet fun x => { x with rx := x.rx.upd ((8 * p + c) * 16 + g) (· ++ [n]) }).pfcCheck p c

/-- A cell of NET_IN for attachment `dst` has left quad `q` (R125): up to 256 bytes of the oldest frame of one of its
queues for that tug group. Which port and priority is the quad's choice (log entry 1). -/
def State.drainQuad (s : State) (q dst : Nat) : State :=
  let g := if 64 ≤ dst ∧ dst < 72 then dst - 64 else 8
  let l := s.net.rx.keysWhere fun k x => k / 512 == q && k % 16 == g && !x.isEmpty
  match l[s.freeVal % max 1 l.length]? with
  | none => s
  | some k =>
    let cut : List Nat → List Nat := fun x => match x with
      | [] => []
      | n :: t => if n ≤ 256 then t else (n - 256) :: t
    (s.tick.updNet fun x => { x with rx := x.rx.upd k cut }).pfcCheck (k / 128) (k / 16 % 8)

/-- PFC_REFRESH_EXPIRY (R259): XOFF again while the occupancy stays at XON or above. -/
def execPfcRefreshExpiry (port : Fin 128) (prio : Fin 8) (s : State) : Result :=
  let q := quadOf port
  let l := laneOf port
  let c := if s.pauseOn port then 0 else prio.val
  if (s.fld (Fld.NET_PORT_STAT_XOFF_TX q l)).testBit c ∧ s.fld (Fld.NET_PFC_THR_XON q l c) ≤ s.thrOcc port c then
    .next (s.sendXoff port c (s.fld (Fld.NET_PFC_CFG_QUANTA q l)))
  else .next s

/-- PAUSE_TIMER_EXPIRY (R260): a class's PFC time, or with `none` the port's pause time, has run out. -/
def execPauseTimerExpiry (port : Fin 128) (cls : Option (Fin 8)) (s : State) : Result :=
  let q := quadOf port
  let l := laneOf port
  match cls with
  | none => .next (s.setFld (Fld.NET_PORT_STAT_PAUSED_RX q l) 0)
  | some c =>
    let x := s.fld (Fld.NET_PORT_STAT_PFC_RX q l)
    .next (if x.testBit c then s.setFld (Fld.NET_PORT_STAT_PFC_RX q l) (x - 2 ^ c.val) else s)

/-- EEE is negotiated on a port (R264). -/
def State.eeeOn (s : State) (p : Nat) : Bool := decide (0 < s.net.eee.get p) && s.linked p

/-- LPI_ENTRY (R264): the transmit side after IDLE_US with nothing to send, the receive side with the partner. -/
def execLpiEntry (port : Fin 128) (rx : Bool) (s : State) : Result :=
  let f := if rx then Fld.NET_PORT_STAT_LPI_RX (quadOf port) (laneOf port)
    else Fld.NET_PORT_STAT_LPI_TX (quadOf port) (laneOf port)
  if s.eeeOn port ∧ !s.flag f then .next ((s.raise f).netCount port 22 1) else .next s

/-- LPI_EXIT (R264): the partner ends its low-power idle, or the port has frames to send. -/
def execLpiExit (port : Fin 128) (rx : Bool) (s : State) : Result :=
  .next (s.setFld (if rx then Fld.NET_PORT_STAT_LPI_RX (quadOf port) (laneOf port)
    else Fld.NET_PORT_STAT_LPI_TX (quadOf port) (laneOf port)) 0)

/-- Entries that hold a port (R256: at most 16). -/
def State.portEntries (s : State) (p : Nat) (but : Nat) : Nat :=
  s.mrd.addr.countP fun e => e.1 != but && (e.2.map fun a => a.ports.contains p).getD false

/-- NEIGHBOUR_RETRY_EXPIRY (R257): the request again, up to 3 times; then the neighbour is given up. -/
def execNeighbourRetryExpiry (port : Nat) (addr : Nat) (s : State) : Result :=
  match s.net.neigh.find? fun n => n.port == port && n.addr == addr && n.confirmed.isNone with
  | none => .next s
  | some n =>
    if 3 ≤ n.asked then .next (s.updNet fun x => { x with neigh := x.neigh.erase n })
    else
      let s := s.updNet fun x => { x with neigh := x.neigh.map fun y => if y = n then { n with asked := n.asked + 1 } else y }
      .next (s.sendNet port (s.vlanTo port n.v6 addr) (.request n.v6 addr))

/-- NEIGHBOUR_REVALIDATE (R257): a unicast probe 30 s after the last confirmation. -/
def execNeighbourRevalidate (port : Nat) (addr : Nat) (s : State) : Result :=
  match s.net.neigh.find? fun n => n.port == port && n.addr == addr && n.confirmed.isSome with
  | none => .next s
  | some n => .next (s.sendNet port (s.vlanTo port n.v6 addr) (.probe n.v6 addr))

/-- PORT_QUERY: of each port its number, NET_PORT_STAT and counters 0 to 42 (Table 16-5, R367). -/
def portQueryBody (ports : List Nat) (s : State) : MRes :=
  if ports.any fun p => decide (128 ≤ p) then .fail .outOfRange []
  else if ports.any fun p => !s.portHere p then .fail .invalidState []
  else .ok s (ports.map fun p =>
    let q := quadOf p
    let l := laneOf p
    beBytes 1 p ++ beBytes 4 (s.reg (Reg.NET_PORT_STAT q l)).toNat ++
      (List.range 43).flatMap fun n => beBytes 8 (s.fld (Fld.NET_CNT_HI_COUNT q l n) * 2 ^ 32 + s.fld (Fld.NET_CNT_LO_COUNT q l n)))

def execPortQuery (h : Hdr) (ports : List Nat) (s : State) : Result :=
  .next (s.manifest (.portQuery ports) h 0x0205 [] (portQueryBody ports))

/-- DISCOVERY_SET (R39). -/
def discoverySetBody (ports : List Nat) (policy : Nat) (s : State) : MRes :=
  if ports.any fun p => decide (128 ≤ p) then .fail .outOfRange []
  else if 2 < policy then .fail .invalidParam []
  else if ports = [] then .zero s []
  else if ports.any fun p => !s.portHere p then .fail .invalidState []
  else .ok (ports.foldl (fun s p => s.moor (.disc p policy)) s) []

def execDiscoverySet (h : Hdr) (ports : List Nat) (policy : Nat) (s : State) : Result :=
  .next (s.manifest (.discoverySet ports policy) h 0x0206 (ports.map fun p => (.port, p)) (discoverySetBody ports policy))

/-- ACL_SET (R263). -/
def aclSetBody (port index : Nat) (rule : AclRule) (s : State) : MRes :=
  if 128 ≤ port ∨ 16 ≤ index then .fail .outOfRange []
  else if !s.portHere port then .fail .invalidState []
  else if 2 < rule.action ∨ 3 < rule.kind ∨ (rule.kind = 2 ∧ 32 < rule.len) ∨ (rule.kind = 3 ∧ 128 < rule.len) then
    .fail .invalidParam []
  else .ok (s.moor (.acl (16 * port + index) rule)) []

def execAclSet (h : Hdr) (port index : Nat) (rule : AclRule) (s : State) : Result :=
  .next (s.manifest (.aclSet port index rule) h 0x0501 [(.port, port)] (aclSetBody port index rule))

/-- An ACL rule as bytes (Table 11-3). -/
def aclBytes (r : AclRule) : List Byte :=
  beBytes 1 r.action ++ beBytes 1 r.kind ++ beBytes 1 r.len ++ beBytes 1 0 ++ beBytes 2 r.etype ++ beBytes 2 r.mask ++
    beBytes 2 r.vlan ++ beBytes 6 0 ++ beBytes 16 r.addr

/-- ACL_QUERY (R263). -/
def aclQueryBody (port : Nat) (s : State) : MRes :=
  if 128 ≤ port then .fail .outOfRange []
  else if !s.portHere port then .fail .invalidState []
  else .ok s ((List.range 16).map fun i => aclBytes (s.mrd.acl.get (16 * port + i)))

def execAclQuery (h : Hdr) (port : Nat) (s : State) : Result :=
  .next (s.manifest (.aclQuery port) h 0x0502 [] (aclQueryBody port))

/-- MGMT_SRC_SET (R354): an entry of the manifest source list written, or deleted. -/
def mgmtSrcSetBody (entry : Nat) (p : Option Prefix) (s : State) : MRes :=
  if 16 ≤ entry then .fail .outOfRange []
  else if p.any fun x => decide ((if x.v6 then 128 else 32) < x.len) then .fail .invalidParam []
  else if p.isNone ∧ (s.mrd.src.get entry).isNone then .zero s []
  else .ok (s.moor (.src entry p)) []

def execMgmtSrcSet (h : Hdr) (entry : Nat) (p : Option Prefix) (s : State) : Result :=
  .next (s.manifest (.mgmtSrcSet entry p) h 0x0510 [] (mgmtSrcSetBody entry p))

end Sys2Proof.Machine
end

