-- ==== Sys2Proof/Machine/Ledger.lean ====
section
/-! DEFINITION. Segments, destage, repair of a ledger copy, assembly and replay (06_arrays.md R170,
07_ledger.md R177 to R192). -/

namespace Sys2Proof.Machine

/-- SEGMENT_ISSUE (R177): not while a new pair table waits for its acknowledgement (R318). -/
def execSegmentIssue (a : Fin 16) (p : Fin 17) (s : State) : Result :=
  if (s.mrd.arr.get a).serving ∧ !s.pair.pairTables.any (fun e => e.1 == a.val) then .next (s.segIssue a p)
  else .next s

/-- SEGMENT_COMPLETE (R177, R460): a copy's write completed, or failed after its retries, which loses the
member. -/
def execSegmentComplete (a : Fin 16) (p : Fin 17) (sseq : Nat) (copyA ok : Bool) (s : State) : Result :=
  let q := (s.mrd.arr.get a).pair p
  let there := (s.pairRun a p).segs.any fun g =>
    g.sseq == sseq && (if copyA then g.toA && !g.onA else g.toB && !g.onB)
  if (s.mrd.arr.get a).serving ∧ there ∧ (s.ary.get a).assembled then
    if ok then .next (s.segDone a p sseq copyA)
    else .next (s.loseRole a (if copyA then q.roleA else q.roleB))
  else .next s

/-- GATHER_AGE_EXPIRY (R183): the oldest slot of the stripe is AGE_MS old. -/
def execGatherAgeExpiry (a : Fin 16) (stripe : Nat) (s : State) : Result :=
  let old := s.fld Fld.LDG_GATHER_CFG_AGE_MS * 1000000 ≤ s.now - ((s.ary.get a).gather.get stripe).since
  .next (if old then s.destageDue a stripe .age else s)

/-- Places of the records whose block a drive cannot give, in the copy of a segment at ring block `off` of role `x`. -/
def State.lostOn (s : State) (i x off : Nat) : List Nat :=
  match (s.mrd.arr.get i).ringBay x with
  | some b => ((s.drives.get b).medium.ring.find? fun e => e.1 == off).elim [] fun e => e.2.lost
  | none => []

/-- Record `j` of a segment of pair `p` can be read from one of its copies (Table 7-6, R191). -/
def State.recReadable (s : State) (i p : Nat) (g : Segment) (j : Nat) : Bool :=
  let q := (s.mrd.arr.get i).pair p
  (g.onA && !(s.lostOn i q.roleA g.offA).contains j) || (g.onB && !(s.lostOn i q.roleB g.offB).contains j)

/-- Data of a gather slot, or, where the reservoir lost it, of a ledger copy whose DCRC matches (Table
7-6). -/
def State.slotData (s : State) (i st : Nat) (g : GatherSlot) : Option Unit4k :=
  if g.bad then
    let p := (s.mrd.arr.get i).pairOf st
    (s.pairRun i p).segs.findSome? fun e => e.recs.zipIdx.findSome? fun r =>
      if r.1.kind = 1 ∧ r.1.stripe = st ∧ r.1.blk = g.blk ∧ r.1.rn = g.rn ∧ s.recReadable i p e r.2 then
        some r.1.unit else none
  else some (g.md ++ g.data)

/-- Every data block of the stripe is in the list of blocks. -/
def Arr.whole (a : Arr) (l : List Nat) : Bool := (List.range (a.k * a.u)).all l.contains

/-- RECON entries of a partial destage on an array that is not OPTIMAL: the units whose drive is none, at every
offset where the stripe has a gathered block (Table 7-4, step 1). None where they cannot be reconstructed. -/
def State.reconRecs (s : State) (i st : Nat) (blks : List Nat) (rn : Nat) : Option (List LedgerRec) :=
  let a := s.mrd.arr.get i
  if a.state = .optimal then some []
  else
    let roles := (List.range a.n).filter fun x => (a.drive st x).isNone
    ((blks.map fun b => b % a.u).eraseDups.mapM fun off =>
      (s.stripeData a st off).map fun ds => roles.filterMap fun x => (a.content st x ds).map fun v =>
        let m := mediaOf v
        (⟨2, x, 0, 0, rn, st, off, m.data, m.md⟩ : LedgerRec)).map List.flatten

/-- A destage that holds the interlock begins (R184): its slots are those gathered so far; a partial one writes RECON and
DSTART entries first. -/
def State.destageStart (s : State) (i st : Nat) : State :=
  let a := s.mrd.arr.get i
  let e := (s.ary.get i).gather.get st
  let blks := e.slots.map (·.blk)
  let part := !(a.mode.mirror || a.whole blks)
  let s := s.updGather i st fun g =>
    { g with slots := [], since := 0, due := none, order := 0, running := g.slots, cause := g.due
             at_ := if part then .marking else .writing, attempts := 0, retries := s.fld Fld.CNL_AGE_CFG_RETRY }
  if !part then s
  else match s.reconRecs i st blks (maxRn e.slots) with
    | some l => s.addRecs i (a.pairOf st) (l ++ [mark 3 st 0])
    | none => s.offline i

/-- A destage asks for the interlock, and begins once it holds it (R163, R184). -/
def State.destageAsk (s : State) (i st : Nat) : State :=
  let s := s.lockStripe i st .destage
  if s.stripeHolder i st = some .destage ∧ ((s.ary.get i).gather.get st).running = [] then s.destageStart i st else s

/-- Blocks of a destage that neither their slot nor a ledger copy gives, held against the host of the newest record of
each whose write had completed (R51, R186); one that has a newer such record is not lost. -/
def State.lostSlots (s : State) (i st : Nat) (l : List GatherSlot) : List LostBlk :=
  let a := s.mrd.arr.get i
  let recs := (s.ackedRecs i).filter fun r => r.stripe == st
  (l.filterMap fun g => (recs.find? fun r => r.blk == g.blk && decide (r.rn ≤ g.rn))).map a.lostBlk

/-- A destage's writes (R184, R186): blocks whose slot and ledger copies are unreadable are lost with CAUSE 2; the rest
is written with parity; then the RETIRE entry. -/
def State.destageWrite (s : State) (i st : Nat) : State :=
  let a := s.mrd.arr.get i
  let mine := ((s.ary.get i).gather.get st).running
  let got := mine.filterMap fun g => (s.slotData i st g).map fun d => (g.blk, d)
  let gone := mine.filter fun g => (s.slotData i st g).isNone
  let lost := s.lostSlots i st gone
  let s := (s.deferBlocks i (a.k * a.u) lost 2).count (Fld.LDG_ERR_STAT_CAUSE2 i) gone.length
  match s.writeStripe i st got with
  | (t, false) => t
  | (t, true) =>
    let bytes := got.length * 4096
    let t := if a.mode.mirror || a.whole (got.map Prod.fst) then
        (t.count (Fld.LDG_DESTAGE_STAT_WHOLE i) 1).tally 0x0E0 i bytes
      else (t.count (Fld.LDG_DESTAGE_STAT_PARTIAL i) 1).tally 0x0E1 i bytes
    (t.updGather i st fun g => { g with at_ := .retiring }).addRecs i (a.pairOf st) [mark 4 st (maxRn mine)]

/-- Destages of the array that run, bypasses apart (R183). -/
def State.destages (s : State) (i : Nat) : Nat :=
  ((s.ary.get i).gather.filter fun g => !g.2.running.isEmpty && g.2.cause != some .bypass).length

/-- No destage whose cause arose earlier has still to begin (R183). -/
def State.destageFirst (s : State) (i st : Nat) : Bool :=
  let e := (s.ary.get i).gather.get st
  (s.ary.get i).gather.all fun g => g.2.due.isNone || decide (e.order ≤ g.2.order) || !g.2.running.isEmpty ||
    (s.ary.get i).locks.contains (g.1, Holder.destage)

/-- Gather slots of a stripe whose reservoir bytes have an uncorrectable error (R186, R437). -/
def State.slotErrors (s : State) (i st : Nat) (blks : List Nat) : State :=
  let bad := fun (g : GatherSlot) => if blks.contains g.blk then { g with bad := true } else g
  let e := (s.ary.get i).gather.get st
  if (e.slots ++ e.running).any fun g => blks.contains g.blk then
    (s.updGather i st fun g => { g with slots := g.slots.map bad, running := g.running.map bad }).resError (st % 16) true
  else s

/-- DESTAGE_START (R163, R183, R184): in the order the causes arose and within DESTAGE_MAX, a bypass exempt from both; it
stands in line for the interlock. `ue` are the blocks whose gather slots come back from the reservoir with an
uncorrectable error (R186). -/
def execDestageStart (a : Fin 16) (stripe : Nat) (ue : List Nat) (s : State) : Result :=
  let e := (s.ary.get a).gather.get stripe
  if (s.mrd.arr.get a).serving ∧ e.due.isSome ∧ e.running = [] ∧
      (e.due = some .bypass ∨ (s.destageFirst a stripe ∧ s.destages a < s.fld Fld.LDG_GATHER_CFG_DESTAGE_MAX)) then
    .next ((s.slotErrors a stripe ue).destageAsk a stripe)
  else .next s

/-- DESTAGE_COMPLETE (R184): the member writes of a destage, which may go once its marks are durable. -/
def execDestageComplete (a : Fin 16) (stripe : Nat) (s : State) : Result :=
  if (s.mrd.arr.get a).serving ∧ ((s.ary.get a).gather.get stripe).at_ = .writing then .next (s.destageWrite a stripe)
  else .next s

/-- The role that a REPAIRING pair copies to, and the one it copies from. -/
def Pair.newRole (q : Pair) : Nat := if q.liveA then q.roleB else q.roleA
def Pair.oldRole (q : Pair) : Nat := if q.liveA then q.roleA else q.roleB

/-- A live segment copied to the new member of its pair (R188); it waits while the ring there has no room. -/
def State.copySegment (s : State) (i p : Nat) (q : Pair) (g : Segment) : State :=
  let n := segBlocks g.recs
  match s.ringRoom i q.newRole n, (s.mrd.arr.get i).ringBay q.newRole with
  | some off, some b =>
    let lost := s.lostOn i q.oldRole (if q.liveA then g.offA else g.offB)
    let s := s.updAry i fun e => { e with rings := e.rings.upd q.newRole fun r => r.push ⟨off, n, p, g.sseq⟩ }
    let s := s.updMedium b fun m => m.putSeg off { g.onDrive i p with lost := lost }
    s.updPair i p fun r => { r with
      copyPos := g.sseq
      segs := r.segs.map fun e =>
        if e.sseq ≠ g.sseq then e
        else if q.liveA then { e with toB := true, onB := true, offB := off }
        else { e with toA := true, onA := true, offA := off } }
  | _, _ => s

/-- LEDGER_REPAIR_SEGMENT (R188): the next live segment is copied from the survivor, in SSEQ order, reclaimable ones
skipped; when none is left the header is written on the new copy and the pair is TWO. -/
def execLedgerRepairSegment (a : Fin 16) (p : Fin 17) (s : State) : Result :=
  let arr := s.mrd.arr.get a
  let q := arr.pair p
  let r := s.pairRun a p
  let done := r.segs.filter Segment.durable
  if q.state = .repairing ∧ arr.serving then
    match r.segs.find? (fun g => g.durable && !(if q.liveA then g.onB else g.onA) && !reclaimable done g) with
    | some g => .next (s.copySegment a p q g)
    | none =>
      if r.segs.any (fun g => !g.durable) then .next s
      else
        let s := s.putArr a (arr.setPair p fun q => { q with state := .two, liveA := true, liveB := true })
        .next ((s.writeHeaders a).moorArr a)
  else .next s

/-- The deferred area of an array: of the copies on its ONLINE roles that with the highest sequence number (R176). -/
def State.bestArea (s : State) (a : Arr) : DeferArea :=
  (s.onlineBays a).foldl (fun m b =>
    let d := (s.drives.get b).medium.defer
    if m.seq < d.seq then d else m) default

/-- The deferred area of an array in force again (R53, R176). -/
def State.loadArea (s : State) (i : Nat) : State :=
  let d := s.bestArea (s.mrd.arr.get i)
  (s.restoreDefer i d.log).updAry i fun r => { r with area := d }

/-- Role `x`'s ring as replay finds it: the header that its member holds for the array and role, and what stands on the
drive (R175, log entry 60). -/
def State.ringOf (s : State) (i x : Nat) : Option (LdgHeader × Medium) :=
  ((s.mrd.arr.get i).ringBay x).bind fun b =>
    let m := (s.drives.get b).medium
    if s.driveHere b then (m.header.filter fun h => h.array == i && h.role == x).map fun h => (h, m) else none

/-- The ring of a pair's copy, where that is available. -/
def State.copyRing (s : State) (i x : Nat) (live : Bool) : Option (LdgHeader × Medium) :=
  if live then s.ringOf i x else none

/-- Valid segments of pair `p` on a ring, with their ring blocks (R191). -/
def validSegs (i p gen : Nat) (r : Option (LdgHeader × Medium)) : List (Nat × RingSeg) :=
  r.elim [] fun r => r.2.ring.filter fun e => e.2.array == i && e.2.pair == p && decide (e.2.gen ≤ gen)

/-- LOW of pair `p`: the lower of what the headers read record (R191). -/
def lowOf (p : Nat) (l : List (Option (LdgHeader × Medium))) : Nat :=
  ((l.filterMap id).map fun r => r.1.low.getD p 0).min?.getD 0

/-- What replay reads of a pair (R191): its segments from LOW on, on either copy, and the SSEQs that are on neither. -/
structure PairFound where
  segs : List Segment
  missing : List Nat
  /-- Highest SSEQ, and SEG_INFLIGHT as it was issued. -/
  top : Nat
  infl : Nat

/-- Replay's reading of pair `p` (R191). -/
def State.findPair (s : State) (i p : Nat) : PairFound :=
  let a := s.mrd.arr.get i
  let q := a.pair p
  let ra := s.copyRing i q.roleA q.liveA
  let rb := s.copyRing i q.roleB q.liveB
  let low := lowOf p [ra, rb]
  let la := (validSegs i p a.gen ra).filter fun e => decide (low ≤ e.2.sseq)
  let lb := (validSegs i p a.gen rb).filter fun e => decide (low ≤ e.2.sseq)
  let all := sortBy (fun e => e.2.sseq) (la ++ lb)
  let nums := (all.map fun e => e.2.sseq).eraseDups
  let seg := fun (n : Nat) =>
    let x := la.find? fun e => e.2.sseq == n
    let y := lb.find? fun e => e.2.sseq == n
    (x.or y).map fun e =>
      ({ sseq := n, infl := e.2.infl, gen := e.2.gen, time := e.2.time, recs := e.2.recs, toA := x.isSome, toB := y.isSome
         onA := x.isSome, onB := y.isSome, offA := x.elim 0 (·.1), offB := y.elim 0 (·.1), bypass := false, attempts := 0
         retries := 0 } : Segment)
  let top := nums.getLast?.getD (low - 1)
  ⟨nums.filterMap seg, ((List.range (top + 1 - low)).map (low + ·)).filter fun n => !nums.contains n, top,
    (all.getLast?.elim 0 fun e => e.2.infl)⟩

/-- A missing SSEQ that must have been acknowledged: both copies are lost (R191). -/
def PairFound.holed (f : PairFound) : Bool := f.missing.any fun n => decide (n + f.infl ≤ f.top)

/-- A record found at replay, with whether its data can be read from a copy (R191). -/
abbrev Found := LedgerRec × Bool

/-- Records of segments in SSEQ order (R191). -/
def State.foundRecs (s : State) (i p : Nat) (l : List Segment) : List Found :=
  l.flatMap fun g => g.recs.zipIdx.map fun r => (r.1, s.recReadable i p g r.2)

/-- Stripes whose last DSTART no RETIRE follows (R191). -/
def interrupted (l : List Found) : List Nat :=
  l.foldl (fun o f =>
    if f.1.kind = 3 then (if o.contains f.1.stripe then o else o ++ [f.1.stripe])
    else if f.1.kind = 4 then o.filter fun x => !(x == f.1.stripe) else o) []

/-- Highest RETIRE bound of a stripe (R191). -/
def foundBound (l : List Found) (st : Nat) : Nat :=
  l.foldl (fun b f => if f.1.kind = 4 ∧ f.1.stripe = st then max b f.1.rn else b) 0

/-- DATA and RECON records that replay keeps: above the bound of their stripe, the newest of their block
(R191). -/
def keptRecs (l : List Found) : List Found :=
  let live := l.filter fun f => f.1.hasData && decide (foundBound l f.1.stripe < f.1.rn)
  live.filter fun f => !live.any fun g => g.1.kind == f.1.kind && g.1.stripe == f.1.stripe &&
    g.1.blk == f.1.blk && g.1.role == f.1.role && decide (f.1.rn < g.1.rn)

/-- The record's block belongs to its namespace (R191). -/
def State.recWanted (s : State) (i : Nat) (r : LedgerRec) : Bool :=
  let n := s.mrd.ns.get r.nsid
  r.kind == 2 || (n.present && n.array == i && n.ext.contains (r.stripe / 256))

/-- An interrupted stripe destaged by reconstruct-write at one offset (R192): kept blocks, RECON blocks before
members, every redundant block anew. None where a needed block is missing. -/
def State.reconOff (s : State) (i st off : Nat) (kept : List LedgerRec) : Option State :=
  let a := s.mrd.arr.get i
  let pick : Nat → Option Unit4k := fun j =>
    let x := a.dataRole st j 0
    match kept.find? (fun r => r.kind == 1 && r.blk == j * a.u + off) with
    | some r => some r.unit
    | none => match kept.find? (fun r => r.kind == 2 && r.role == x && r.blk == off) with
      | some r => some r.unit
      | none => s.unitAt a st x off
  ((List.range a.k).mapM pick).map fun ds =>
    let s := ((List.range a.k).zip ds).foldl (fun s p =>
      if kept.any (fun r => r.kind == 1 && r.blk == p.1 * a.u + off) then
        s.writeUnit a st (a.dataRole st p.1 0) off p.2 else s) s
    (List.range a.m).foldl (fun s o => s.writeUnit a st (a.parRole st o) off (parityOf o ds)) s

/-- An interrupted stripe destaged before service resumes, where it has kept blocks, and its RETIRE entry (R192). -/
def State.reconStripe (s : State) (i st : Nat) (kept : List LedgerRec) : State :=
  let a := s.mrd.arr.get i
  let mine := kept.filter fun r => r.stripe == st
  let offs := ((mine.filter fun r => r.kind == 1).map fun r => r.blk % a.u).eraseDups
  match offs.foldl (fun (t : Option State) off => t.bind fun t => t.reconOff i st off mine) (some s) with
  | none => s.offline i
  | some t =>
    let rn := mine.foldl (fun b r => max b r.rn) 0
    let t := t.addRecs i (a.pairOf st) [mark 4 st rn]
    (t.flushPair i (a.pairOf st)).count (Fld.LDG_REPLAY_STAT_INTERRUPTED i) 1

/-- What replay does with the records it found of pair `p` (R191): lost blocks with CAUSE 3, interrupted stripes
destaged, the rest into the gather buffer. Records that are dropped are retired where their stripe keeps none (log entry
60). -/
def State.replayPair (s : State) (i p : Nat) : State :=
  let a := s.mrd.arr.get i
  let l := s.foundRecs i p (s.pairRun i p).segs
  let kept := keptRecs l
  let wanted := kept.filter fun f => s.recWanted i f.1
  let lost := (wanted.filter fun f => f.1.kind == 1 && !f.2).map Prod.fst
  let good := (wanted.filter fun f => f.2).map Prod.fst
  let s := (s.deferBlocks i (a.k * a.u) (lost.map a.lostBlk) 3).count (Fld.LDG_ERR_STAT_CAUSE3 i) lost.length
  let int := interrupted l
  let s := (good.filter fun r => r.kind == 1 && !int.contains r.stripe).foldl (fun s r =>
    s.putSlot i r.stripe ⟨r.blk, r.rn, r.data, r.md, false, r.host, r.nsid⟩) s
  let s := int.foldl (fun s st => if (s.mrd.arr.get i).state = .offline then s else s.reconStripe i st good) s
  let gone := (kept.map Prod.fst).filter fun r => !good.any fun g => g.stripe == r.stripe
  if (s.mrd.arr.get i).state = .offline then s
  else (gone.map (·.stripe)).eraseDups.foldl (fun s st =>
    let rn := (gone.filter fun r => r.stripe == st).foldl (fun b r => max b r.rn) 0
    if int.contains st then s else s.addRecs i p [mark 4 st rn]) s

/-- The ring of role `x` as it stands after the headers and segments have been read: from the tail on, in ring order. -/
def State.loadRing (s : State) (i x : Nat) (found : List PairFound) : RingRun :=
  match s.ringOf i x with
  | none => default
  | some (h, m) =>
    let a := s.mrd.arr.get i
    let mine := m.ring.filter fun e => e.2.array == i && (a.pair e.2.pair).holds x &&
      ((found[e.2.pair]?).any fun f => f.segs.any fun g => g.sseq == e.2.sseq &&
        ((g.onA && (a.pair e.2.pair).roleA == x && g.offA == e.1) || (g.onB && (a.pair e.2.pair).roleB == x && g.offB == e.1)))
    let l := (sortBy (fun e => (e.1 + ringSize - h.tail) % ringSize) mine).map fun e =>
      (⟨e.1, segBlocks e.2.recs, e.2.pair, e.2.sseq⟩ : RingEnt)
    ⟨l.getLast?.elim h.tail fun e => e.off + e.size, l⟩

/-- Copies that replay cannot read are lost: those of a member without a valid header (R175); copies that were being
repaired begin anew (R188). -/
def State.replayCopies (s : State) (i : Nat) : State :=
  let a := s.mrd.arr.get i
  let s := s.putArr i { a with pairs := a.pairs.map fun q => if q.state = .repairing then { q with state := .single } else q }
  (List.range a.n).foldl (fun s x =>
    if (s.mrd.arr.get i).pairs.any (fun q => q.holds x) ∧ (s.ringOf i x).isNone then s.loseCopies i x else s) s

/-- What replay has read of every pair, taken as the live state of its rings, and the record-number counter (R178,
R191). -/
def State.loadRings (s : State) (i : Nat) (found : List PairFound) : State :=
  let a := s.mrd.arr.get i
  let limit := ((List.range a.n).filterMap fun x => (s.ringOf i x).map fun r => r.1.rnLimit).max?.getD 0
  let rings := (List.range a.n).foldl (fun t x => Tab.set t x (s.loadRing i x found)) ([] : Tab RingRun)
  let pairs := found.zipIdx.foldl (fun t f =>
    Tab.set t f.2 { (default : PairRun) with nextSseq := f.1.top, segs := f.1.segs }) ([] : Tab PairRun)
  s.updAry i fun r => { r with rings := rings, pairs := pairs, rnNext := limit, rnLimit := limit + 2 ^ 40 }

/-- The deferred entries of an OFFLINE array, from the records its rings keep: the marks stand in the moorings, and a host
without its mark has claimed it (R51, R53, R176). -/
def State.deriveOffline (s : State) (i : Nat) : State :=
  let a := s.mrd.arr.get i
  let g := s.mrd.marks.get i
  let recs := (List.range a.pairs.length).flatMap fun p =>
    let q := a.pair p
    let l := (s.findPair i p).segs.filter fun g => (g.onA && g.onB) || !(q.liveA && q.liveB)
    (keptRecs (s.foundRecs i p l)).map Prod.fst
  let lost := (recs.filter fun r => r.kind == 1 && s.recWanted i r).map a.lostBlk
  -- the entries alone: their counts and marks are as moored
  let t := s.deferBlocks i (a.k * a.u) lost 1
  let entries := (t.deferLog i).entries.map fun e =>
    { e with claimed := e.hosts.filter fun h => !g.marks.contains (h, e.nsid) }
  s.restoreDefer i { g with entries := entries, blks := lost.map fun b => (b.blk, b.nsid) }

/-- ARRAY_ASSEMBLY (R170): roles whose drive's label matches stay, in whatever bay it is now; others become MISSING; the
redundancy test; replay follows. OFFLINE and SALVAGED are kept, with their deferred-error log. -/
def State.assemble (s : State) (i : Nat) : State :=
  let a := s.mrd.arr.get i
  if (s.ary.get i).assembled ∨ a.state = .none then s
  else
    let s := s.updAry i fun r =>
      { r with assembled := true, mooredCursor := a.cursor, mooredScrub := a.scrubPos, mooredPairs := a.pairs }
    match a.state with
    | .offline => (s.rolesByLabel i).deriveOffline i
    | .salvaged => (s.rolesByLabel i).loadArea i
    | _ =>
      if !a.serving then s
      else
        let there := fun (x : Nat) => (s.roleByLabel a i (a.role x, x))
        let gone := (List.range a.n).filter fun x =>
          (a.role x).state != .missing && (there x).state == .missing
        let roles := a.roles.zipIdx.map fun p =>
          if p.1.state == .missing || (there p.2).state == .missing then p.1 else there p.2
        let s := (s.putArr i { a with roles := roles }).updAry i fun r => { r with replaying := true }
        gone.foldl (fun s x => s.loseRole i x) s

/-- REPLAY (R190 to R192): every pair in turn, or OFFLINE where a pair has lost acknowledged segments. New headers are
written at its end. How long it took is a free value (log entry 1). -/
def execReplay (a : Fin 16) (s : State) : Result :=
  if !(s.ary.get a).replaying then .next s
  else
    let s := s.updAry a fun r => { r with replaying := false, gather := [], locks := [] }
    if !(s.mrd.arr.get a).serving then .next s.tkoEnd
    else
      let s := (s.loadArea a).replayCopies a
      let n := (s.mrd.arr.get a).pairs.length
      let found := (List.range n).map (s.findPair a)
      if found.any PairFound.holed ∨ (s.mrd.arr.get a).pairs.any (fun q => q.state == .lost) then
        .next ((s.loadRings a found).offline a).tkoEnd
      else
        let s := (s.setFld (Fld.LDG_REPLAY_STAT_TORN a) 0).setFld (Fld.LDG_REPLAY_STAT_INTERRUPTED a) 0
        let s := s.count (Fld.LDG_REPLAY_STAT_TORN a) (found.map fun f => f.missing.length).sum
        let s := (s.setFld (Fld.LDG_REPLAY_STAT_TIME a) (s.freeVal % 65536)).tick
        let s := (List.range n).foldl (fun s p => s.replayPair a p) (s.loadRings a found)
        .next (((s.reclaim a).writeHeaders a).seekCopies a).tkoEnd

end Sys2Proof.Machine
end

