-- ==== Sys2Proof/Machine/Cipher.lean ====
section
/-! DEFINITION. Key slots, serials, entropy and lanes (09_cipher.md, R215 to R236). -/

namespace Sys2Proof.Machine

/-- A key slot's live side changed. -/
def State.updSlot (s : State) (k : Nat) (f : SlotRun → SlotRun) : State :=
  s.updCip fun c => { c with slot := c.slot.upd k f }

/-- The slot's next serial and where it came from: loaded or advanced since, or as drawn at power-on or
takeover start with bits 63:56 zero (R230). -/
def State.serialOf (s : State) (k : Nat) : Nat × Nat :=
  match (s.cip.slot.get k).serial with
  | some p => p
  | none => if s.cip.serialZero then (0, 2)
    else ((Config.entropy (s.cip.serialDraw * 4096 + k)).toNat % 2 ^ 56, 1)

/-- `n` consecutive serials reserved; answers the first (R229). -/
def State.takeSerials (s : State) (k n : Nat) : State × Nat :=
  let p := s.serialOf k
  (s.updSlot k fun r => { r with serial := some ((p.1 + n) % 2 ^ 64, p.2) }, p.1)

/-- A bank of the slot. -/
def KeySlot.bank (k : KeySlot) (b : Bool) : KeyBank := if b then k.bank1 else k.bank0

/-- The slot with one bank replaced. -/
def KeySlot.setBank (k : KeySlot) (b : Bool) (v : KeyBank) : KeySlot :=
  if b then { k with bank1 := v } else { k with bank0 := v }

/-- A berth is bound to the slot's bank (R220). -/
def State.bankBound (s : State) (k : Nat) (b : Bool) : Bool :=
  s.brg.berth.any fun e => e.2.state != .free && decide (3 ≤ e.2.checkpoint) && e.2.keySlot == k &&
    e.2.bank == b && e.2.lane != 255

/-- A bank was overwritten: no lane keeps its expanded key (R215, R220). -/
def State.forgetKey (s : State) (k : Nat) (b : Bool) : State :=
  s.updCip fun c => { c with lane := c.lane.mapAll fun _ l =>
    { l with cache := l.cache.filter fun x => x != (k, b), loading := l.loading.filter fun x => x != (k, b) } }

/-- The bank that is not active, retired while a berth is bound to it and zeroised otherwise; a KEY_ZEROISE
that waited for it is answered (R220, R221). -/
def State.settleSlot (s : State) (k : Nat) : State :=
  let e := s.mrd.keys.get k
  let r := s.cip.slot.get k
  if r.zeroising then
    if s.bankBound k e.active || s.bankBound k !e.active then s
    else
      let s := ((s.moor (.key k default)).forgetKey k true).forgetKey k false
      let s := s.updSlot k fun r => { r with retired := false, zeroising := false }
      match s.findRunning (fun q => q.opcode == 0x0602 && (decide ((ObjKind.keySlot, k) ∈ q.objs) ||
          (decide ((ObjKind.keySlot, 0xFFFF) ∈ q.objs) && !s.cip.slot.any fun e => e.2.zeroising))) with
      | some q => s.finish q .success []
      | none => s
  else if r.retired then
    if s.bankBound k !e.active then s
    else ((s.moor (.key k (e.setBank (!e.active) default))).forgetKey k !e.active).updSlot k fun r =>
      { r with retired := false }
  else s

/-- Every slot whose retired bank may have lost its last berth (R220, R221). -/
def State.settleSlots (s : State) : State :=
  (s.cip.slot.keysWhere fun _ r => r.retired || r.zeroising).foldl State.settleSlot s

/-- What a commit of a key comes to: WEAK, BUSY_REJECT, or the bank loaded and active (R219, R220). -/
def State.commitKey (s : State) (k mode : Nat) (key : BitVec 512) (base : BitVec 32) : State × MStat :=
  let e := s.mrd.keys.get k
  let r := s.cip.slot.get k
  if mode = 1 ∧ key.extractLsb' 0 256 = key.extractLsb' 256 256 then
    (s.updSlot k fun r => { r with weak := true }, .weakKey)
  else if r.retired ∨ r.zeroising then (s.updSlot k fun r => { r with busyReject := true }, .busy)
  else
    let s := s.forgetKey k !e.active
    let s := s.moor (.key k { (e.setBank (!e.active) ⟨key, base⟩) with mode := mode, active := !e.active })
    ((s.updSlot k fun r => { r with retired := e.mode != 0 }).settleSlot k, .success)

/-- The slot zeroised: EMPTY at once, overwritten when no berth is bound (R221). -/
def State.zeroiseSlot (s : State) (k : Nat) : State :=
  let e := s.mrd.keys.get k
  let s := s.updMrd fun m => { m with keys := m.keys.set k { e with mode := 0 } }
  (s.updSlot k fun r => { r with retired := true, zeroising := true }).settleSlot k

/-- CIP_SLOT_IDX_WRITE (R219): the slot addressed; the staging buffer clears. -/
def execCipSlotIdxWrite (slot : Nat) (s : State) : Result :=
  .next ((s.setFld Fld.CIP_SLOT_IDX_SLOT slot).updCip fun c => { c with stageKey := 0, stageBase := 0 })

/-- CIP_KEY_DATA_WRITE (R219, Table 9-9): bytes 4n+3 to 4n of the staged key. -/
def execCipKeyDataWrite (n : Fin 16) (v : Word32) (s : State) : Result :=
  .next (s.updCip fun c =>
    { c with stageKey := BitVec.ofNat 512 (setBits c.stageKey.toNat (32 * n) 32 v.toNat) })

/-- KEY_COMMIT (R219, R220): the staged key into the inactive bank; modes 0 and 3 do nothing. The staging
buffer clears. -/
def execKeyCommit (mode : Nat) (s : State) : Result :=
  if mode = 1 ∨ mode = 2 then
    let s := s.setFld Fld.CIP_SLOT_CTL_MODE mode
    let t := (s.commitKey (s.fld Fld.CIP_SLOT_IDX_SLOT) mode s.cip.stageKey s.cip.stageBase).1
    .next (t.updCip fun c => { c with stageKey := 0, stageBase := 0 })
  else .next (s.setFld Fld.CIP_SLOT_CTL_MODE mode)

/-- SLOT_ZEROISE (R221): CIP_SLOT_CTL.ZEROISE. -/
def execSlotZeroise (s : State) : Result := .next (s.zeroiseSlot (s.fld Fld.CIP_SLOT_IDX_SLOT))

/-- CIP_SERIAL_WRITE (R230): the counter of the addressed slot, chosen by software. -/
def execCipSerialWrite (lo hi : Word32) (s : State) : Result :=
  .next (s.updSlot (s.fld Fld.CIP_SLOT_IDX_SLOT) fun r =>
    { r with serial := some (hi.toNat * 2 ^ 32 + lo.toNat, 0) })

/-- CIP_PAIR_KEY_WRITE (R222, Table 9-9): bytes 4n+3 to 4n of the pair key. -/
def execCipPairKeyWrite (n : Fin 8) (v : Word32) (s : State) : Result :=
  .next (s.moor (.pairKey (BitVec.ofNat 256 (setBits s.mrd.pairKey.toNat (32 * n) 32 v.toNat))))

/-- KEY_LOAD's effects (Table 9-4). -/
def keyLoadBody (slot mode : Nat) (key : BitVec 512) (base : BitVec 32) (s : State) : MRes :=
  if 4096 ≤ slot then .fail .outOfRange [beBytes 2 slot]
  else if mode ≠ 1 ∧ mode ≠ 2 then .fail .invalidParam [beBytes 1 mode]
  else match s.commitKey slot mode key base with
    | (t, .success) => .ok t []
    | (t, st) => .refuse t st [beBytes 2 slot]

/-- KEY_LOAD (0x0601, R219, R220). -/
def execKeyLoad (h : Hdr) (slot mode : Nat) (key : BitVec 512) (base : BitVec 32) (s : State) : Result :=
  .next (s.manifest (.keyLoad slot mode key base) h 0x0601 [(.keySlot, slot)] (keyLoadBody slot mode key base))

/-- KEY_ZEROISE's effects (R221): one slot, or every slot that holds a key. -/
def keyZeroiseBody (slot : Nat) (s : State) : MRes :=
  if slot = 0xFFFF then
    let t := (s.mrd.keys.keysWhere fun _ k => k.mode != 0).foldl State.zeroiseSlot s
    if t.cip.slot.any fun e => e.2.zeroising then .later t true else .ok t []
  else if 4096 ≤ slot then .fail .outOfRange [beBytes 2 slot]
  else
    let t := s.zeroiseSlot slot
    if (t.cip.slot.get slot).zeroising then .later t true else .ok t []

/-- KEY_ZEROISE (0x0602, R221): the receipt follows the overwrite. -/
def execKeyZeroise (h : Hdr) (slot : Nat) (s : State) : Result :=
  .next (s.manifest (.keyZeroise slot) h 0x0602 [(.keySlot, slot)] (keyZeroiseBody slot))

/-- SERIAL_SET's effects (R230). -/
def serialSetBody (slot : Nat) (serial : Word64) (s : State) : MRes :=
  if 4096 ≤ slot then .fail .outOfRange [beBytes 2 slot]
  else .ok (s.updSlot slot fun r => { r with serial := some (serial.toNat, 0) }) []

/-- SERIAL_SET (0x0603, R230). -/
def execSerialSet (h : Hdr) (slot : Nat) (serial : Word64) (s : State) : Result :=
  .next (s.manifest (.serialSet slot serial) h 0x0603 [(.keySlot, slot)] (serialSetBody slot serial))

/-- Mode, active bank, retired bank live, counter, its source, namespaces bound (Table 9-4). -/
def keyQueryBody (slot : Nat) (s : State) : MRes :=
  if 4096 ≤ slot then .fail .outOfRange [beBytes 2 slot]
  else
    let k := s.mrd.keys.get slot
    let ns := s.mrd.ns.keysWhere fun _ n => n.present && n.cipher != .none && n.keySlot == slot
    .ok s [beBytes 1 k.mode, beBytes 1 k.active.toNat, beBytes 1 (s.cip.slot.get slot).retired.toNat,
      beBytes 8 (s.serialOf slot).1, beBytes 1 (s.serialOf slot).2, ns.flatMap fun n => beBytes 4 n]

/-- KEY_QUERY (0x0604). -/
def execKeyQuery (h : Hdr) (slot : Nat) (s : State) : Result :=
  .next (s.manifest (.keyQuery slot) h 0x0604 [(.keySlot, slot)] (keyQueryBody slot))

/-- PAIR_KEY_LOAD (0x0605, R222). -/
def execPairKeyLoad (h : Hdr) (key : BitVec 256) (s : State) : Result :=
  .next (s.manifest (.pairKeyLoad key) h 0x0605 [(.device, 0)] fun s => .ok (s.moor (.pairKey key)) [])

/-- A lane changed. -/
def State.updLane (s : State) (l : Nat) (f : Lane → Lane) : State :=
  s.updCip fun c => { c with lane := c.lane.upd l f }

/-- Lane `l` is fenced (CIP_STATUS.FENCED). -/
def State.laneFenced (s : State) (l : Nat) : Bool := (s.fld Fld.CIP_STATUS_FENCED).testBit l

/-- Unfenced lanes. -/
def State.lanesUp (s : State) : List Nat := (List.range 10).filter fun l => !s.laneFenced l

/-- Cells queued in the canal for lane `l`. -/
def State.laneQueued (s : State) (l : Nat) : Nat :=
  ((s.cnl.queues.filter fun q => queueAtt q.1 == attLane l).map fun q => q.2.length).sum

/-- The unfenced lane with the fewest cells queued, 255 without one; among equals the device chooses (R215; log entry
1). -/
def State.pickLane (s : State) : Nat :=
  match leastBy s.laneQueued s.lanesUp with
  | none => 255
  | some l =>
    let t := s.lanesUp.filter fun x => s.laneQueued x == s.laneQueued l
    t.getD (s.freeVal % t.length) l

/-- KEY_CACHE_FILL (R215): the expanded key that was being loaded is in the lane's cache of 64. Which entry a full cache
gives up, the oldest fill, is the model's choice (log entry 61). -/
def execKeyCacheFill (l : Fin 10) (slot : Fin 4096) (s : State) : Result :=
  if s.laneFenced l then .next s
  else .next (s.updLane l fun e =>
    let got := e.loading.filter fun x => x.1 == slot.val
    { e with cache := (got ++ e.cache.filter fun x => !got.contains x).take 64
             loading := e.loading.filter fun x => x.1 != slot.val })

/-- A cell's 256 bytes have passed a lane (Table 19-1). -/
def State.cellPassed (s : State) (l : Nat) (reading : Bool) : State := s.tally (if reading then 0x0C1 else 0x0C0) l 256

/-- One more cell of a sealed block is held in a lane; the block leaves with the cell that makes `n`. -/
def Lane.holdCell (e : Lane) (berth blk : Nat) (reading : Bool) (n : Nat) : Lane :=
  let mine := fun (h : HeldBlock) => h.berth == berth && h.blk == blk && h.reading == reading
  let had := ((e.hold.find? mine).map HeldBlock.cells).getD 0
  let rest := e.hold.filter fun h => !mine h
  { e with hold := if n ≤ had + 1 then rest else rest ++ [⟨berth, blk, had + 1, reading⟩] }

/-- Blocks in a lane's tag-hold buffer (CIP_LANE_STAT.HOLD_OCC). -/
def Lane.occupied (e : Lane) : Nat := e.hold.countP HeldBlock.reading

/-- CIPHER_CELL (R215, R226, R227): a cell of a block passes the lane to which its command was bound when it was planned,
under the key bank and the mode bound with it (R21, R220). An expanded key that is not cached is loaded first. A sealed
read's block waits whole in the tag-hold buffer and leaves it with its last cell, when its tag is compared; what a
mismatch does to its command is the engine's step (R228). A full buffer stalls the lane. Of a sealed write the last four
cells wait until the tag is final. -/
def execCipherCell (l : Fin 10) (berth : Fin 262144) (blk : Nat) (cell : Fin 16) (reading : Bool)
    (s : State) : Result :=
  let b := s.berth berth
  let e := s.cip.lane.get l
  let key := (b.keySlot, b.bank)
  if s.laneFenced l ∨ !s.cip.started ∨ b.state = .free ∨ b.checkpoint < 3 ∨ b.lane ≠ l.val then .next s
  else if !e.cache.contains key then
    .next (s.updLane l fun e =>
      { e with loading := if e.loading.contains key then e.loading else e.loading ++ [key] })
  else if b.ns.cipher = .sealed ∧ reading then
    if 256 ≤ e.occupied ∧ !e.hold.any (fun h => h.berth == berth.val && h.blk == blk && h.reading) then .next s
    else .next ((s.cellPassed l reading).updLane l fun e => e.holdCell berth blk true 16)
  else if b.ns.cipher = .sealed ∧ 12 ≤ cell.val then
    .next ((s.cellPassed l reading).updLane l fun e => e.holdCell berth blk false 4)
  else .next (s.cellPassed l reading)

/-- ENTROPY_WINDOW (R233, R234): a window of 1,024 samples passes both tests, or is discarded and counted. -/
def execEntropyWindow (repetition proportion : Bool) (s : State) : Result :=
  let s := if repetition then s else s.count Fld.CIP_ENT_STAT_RCT_FAIL 1
  let s := if proportion then s else s.count Fld.CIP_ENT_STAT_APT_FAIL 1
  if repetition ∧ proportion then
    .next (s.updCip fun c => { c with samples := c.samples + 1024, started := true })
  else .next s

/-- DRBG_RESEED (R233, R234): 512 samples that passed reseed the lane's generator. Without them the attempt
fails, and the third failure in a row degrades the source. -/
def execDrbgReseed (l : Fin 10) (s : State) : Result :=
  if 512 ≤ s.cip.samples then
    let s := s.updCip fun c => { c with samples := c.samples - 512, badReseeds := 0 }
    .next (s.setFld Fld.CIP_STATUS_ENT_DEGRADED 0)
  else
    let s := s.updCip fun c => { c with badReseeds := c.badReseeds + 1 }
    if s.cip.badReseeds = 3 then .next ((s.raise Fld.CIP_STATUS_ENT_DEGRADED).emit (.lockkeeper 3 l)) else .next s

end Sys2Proof.Machine
end

