-- ==== Sys2Proof/Machine/Data.lean ====
section
/-! DEFINITION. From sectors to what the drives hold and back: sectors and blocks (R56 to R59), encryption
and sealing (R223 to R228), and the read and write of namespace blocks (R25 to R28, R159, R180, R181,
R189). -/

namespace Sys2Proof.Machine

/-- Atomic operations of a bank (Table 4-7). -/
inductive BankOp | add | swap | cswap
  deriving DecidableEq, Repr

/-- What a word of `w` bits holds after an atomic operation; it returns the old value (R116). CSWAP stores where the old
value equals the compare operand. -/
def BankOp.apply (op : BankOp) (w old operand compare : Nat) : Nat :=
  match op with
  | .add => (old + operand) % 2 ^ w
  | .swap => operand % 2 ^ w
  | .cswap => if old = compare then operand % 2 ^ w else old

/-- An atomic operation on the `n` bytes at `a` of a bank: none where they are not naturally aligned or the bank has no
such operation (ADD and SWAP of 32 and 64 bits, CSWAP of 64); else the bank after it, and the old value. -/
def bankAtomic (t : Tab Byte) (a n : Nat) (op : BankOp) (operand compare : Nat) : Option (Tab Byte × Nat) :=
  if a % n ≠ 0 ∨ !(n = 8 ∨ (n = 4 ∧ op ≠ .cswap)) then none
  else
    let old := leVal ((List.range n).map fun i => t.get (a + i))
    let new := op.apply (8 * n) old operand compare
    some ((leBytes n new).zipIdx.foldl (fun t p => t.set (a + p.2) p.1) t, old)

/-- Tags of one sector: application tag and reference tag. -/
abbrev Tags := Nat × Nat

/-- Drive metadata of a block (Table 9-2). -/
def Namespace.metaOf (n : Namespace) (tags : List Tags) (serial : Nat) (tag : BitVec 128) : Meta :=
  let z := fun k => List.replicate k (0 : Byte)
  let t := fun i => tags.getD i (0, 0)
  let pi := if n.lbaf = 2 then beBytes 2 (t 0).1 ++ beBytes 4 (t 0).2 else z 6
  let bytes :=
    if n.cipher = .sealed then
      beBytes 8 serial ++ z 2 ++ pi ++
        (if n.lbaf = 3 then (List.range 8).flatMap fun i => beBytes 2 (t i).1 else z 16) ++
        z 16 ++ beBytes 16 tag.toNat
    else if n.lbaf = 2 then z 8 ++ z 2 ++ pi ++ z 48
    else if n.lbaf = 3 then
      ((List.range 8).flatMap fun i => beBytes 2 (t i).1 ++ beBytes 4 (t i).2) ++ z 16
    else z 64
  BitVec.ofNat 512 (leVal bytes)

/-- A field of `w` bytes of the metadata from byte `lo`, most significant first. -/
def metaField (md : Meta) (lo w : Nat) : Nat := beVal (((leBytes 64 md.toNat).drop lo).take w)

/-- Tags of the sectors of block `b` as the metadata gives them; type 1 reference tags of a sealed 512-byte
namespace come from the LBA (R59). -/
def Namespace.tagsOf (n : Namespace) (b : Nat) (md : Meta) : List Tags :=
  if n.lbaf = 2 then [(metaField md 10 2, metaField md 12 4)]
  else if n.lbaf = 3 then (List.range 8).map fun i =>
    if n.cipher = .sealed then (metaField md (16 + 2 * i) 2, (b * 8 + i) % 2 ^ 32)
    else (metaField md (6 * i) 2, metaField md (6 * i + 2) 4)
  else []

/-- The nonce of a sealed block (R224). -/
def nonceOf (base : BitVec 32) (serial : Nat) : BitVec 96 := base ++ BitVec.ofNat 64 serial

/-- The additional data of a sealed block: NSID, zero, b, metadata bytes 47:0 (R224). -/
def aadOf (nsid b : Nat) (md : Meta) : BitVec 512 :=
  BitVec.ofNat 512 (leVal (beBytes 4 nsid ++ beBytes 4 0 ++ beBytes 8 b ++ (leBytes 64 md.toNat).take 48))

/-- A block as the drives hold it: encrypted under the bank, sealed with its serial (R223, R224). -/
def Namespace.encode (n : Namespace) (nsid b : Nat) (k : KeyBank) (plain : Block) (tags : List Tags)
    (serial : Nat) : Unit4k :=
  match n.cipher with
  | .none => n.metaOf tags 0 0 ++ plain
  | .xts => n.metaOf tags 0 0 ++ Config.xtsEncrypt k.key (BitVec.ofNat 128 b) plain
  | .sealed =>
    let key := k.key.extractLsb' 0 256
    let nonce := nonceOf k.base serial
    let data := Config.gcmEncrypt key nonce plain
    let tag := Config.gcmTag key nonce (aadOf nsid b (n.metaOf tags serial 0)) data
    n.metaOf tags serial tag ++ data

/-- The tag of a sealed block matches (R227). Other blocks carry none. -/
def Namespace.tagOk (n : Namespace) (nsid b : Nat) (k : KeyBank) (u : Unit4k) : Bool :=
  match n.cipher with
  | .sealed =>
    let m := mediaOf u
    let nonce := nonceOf k.base (metaField m.md 0 8)
    Config.gcmTag (k.key.extractLsb' 0 256) nonce (aadOf nsid b m.md) m.data ==
      BitVec.ofNat 128 (metaField m.md 48 16)
  | _ => true

/-- The plaintext and tags of a block. -/
def Namespace.decode (n : Namespace) (b : Nat) (k : KeyBank) (u : Unit4k) : Block × List Tags :=
  let m := mediaOf u
  let plain := match n.cipher with
    | .none => m.data
    | .xts => Config.xtsDecrypt k.key (BitVec.ofNat 128 b) m.data
    | .sealed => Config.gcmDecrypt (k.key.extractLsb' 0 256) (nonceOf k.base (metaField m.md 0 8)) m.data
  (plain, n.tagsOf b m.md)

/-- What a command is bound to when it is planned (R111, PLANNED; R21, R220, R462): its namespace as it then stood, the
key bank and lane, the first write serial and the first record number, its turn among the array's reads, and the tug
group that carries its data. -/
structure Bound where
  ns : Namespace
  bank : KeyBank
  lane : Nat
  ser : Nat
  rn : Nat
  turn : Nat
  grp : Nat

/-- A 4 KiB block crosses between attachment `far` and the tug group, through its cipher lane where it has one (R23). -/
def State.hopIn (s : State) (p : Bound) (far : Nat) : State :=
  if p.lane = 255 then s.hop far (attGroup p.grp) blockCells
  else (s.hop far (attLane p.lane) blockCells).hop (attLane p.lane) (attGroup p.grp) blockCells
def State.hopOut (s : State) (p : Bound) (far : List Nat) : State :=
  let from_ := if p.lane = 255 then attGroup p.grp else attLane p.lane
  let s := if p.lane = 255 then s else s.hop (attGroup p.grp) (attLane p.lane) blockCells
  far.foldl (fun s x => s.tally 0x081 x blockCells) (s.tally 0x080 from_ blockCells)

/-- The unit of block `off` of data unit `j` obtained without the role that gave it: by reconstruction, or from another
copy (R228). -/
def State.otherCopy (s : State) (a : Arr) (st j off turn : Nat) : Option Unit4k :=
  if a.mode.mirror then ((a.copyOrder st j turn).filterMap fun x => s.unitAt a st x off)[1]?
  else
    (gfRecover ((List.range a.k).map fun i => if i = j then none else s.unitAt a st (a.dataRole st i 0) off)
      ((List.range a.m).map fun o => s.unitAt a st (a.parRole st o) off)).bind fun ds => ds[j]?

/-- How the read of a namespace block ends: its plaintext and tags, or a status. -/
inductive Got
  | got (plain : Block) (tags : List Tags)
  | failed (st : Status)

/-- A tag does not match on a lane (R228, Table 19-1). -/
def State.tagFailed (s : State) (lane : Nat) : State := (s.count Fld.CIP_TAG_STAT_FAIL 1).tally 0x0C2 lane 1

/-- A sealed block that cannot be given (R228). -/
def State.sealFail (s : State) : State × Got := (s.raise Fld.CIP_STATUS_TAG_FAIL, .failed St.sealedIntegrity)

/-- The role from whose drive data unit `j` is read: its own, or a copy in turn; none where it is not read from a member
of its own. -/
def State.ownRole (s : State) (a : Arr) (st j off turn : Nat) : Option Nat :=
  (if a.mode.mirror then a.copyOrder st j turn else [a.dataRole st j 0]).find? fun x => (s.unitAt a st x off).isSome

/-- A sealed block that role `x` gave and whose tag fails: its second attempt, while the stripe is within redundancy
without that block (R228). -/
def State.retag (s : State) (p : Bound) (nsid b st j off x : Nat) : State × Got :=
  let n := p.ns
  let i := n.array
  let a := s.mrd.arr.get i
  match (if a.beyond st [x] then none else s.otherCopy a st j off p.turn) with
  | some u =>
    if n.tagOk nsid b p.bank u then
      let q := n.decode b p.bank u
      let s := s.count Fld.CIP_TAG_STAT_RECOVERED 1
      match a.drive st x with
      | some d => ((s.setMedia d (a.memberBlk st off) u).mediaError i d, .got q.1 q.2)
      | none => (s, .got q.1 q.2)
    else (s.tagFailed p.lane).sealFail
  | none => s.sealFail

/-- Namespace block `b` read: from its gather slot, else from the members (R159, R180), decrypted and
verified. -/
def State.readBlk (s : State) (p : Bound) (nsid b : Nat) : State × Got :=
  let n := p.ns
  let i := n.array
  let a := s.mrd.arr.get i
  let ab := a.mapped n.ext b
  let (st, j, off) := a.place ab
  let done := fun (s : State) (u : Unit4k) => let q := n.decode b p.bank u; (s, Got.got q.1 q.2)
  match s.slotAt i st (j * a.u + off) with
  | some g =>
    match s.slotData i st g with
    | some u =>
      let s := s.hopIn p (attReservoir st)
      if n.tagOk nsid b p.bank u then done s u else (s.tagFailed p.lane).sealFail
    | none => (s, .failed St.unrecoveredRead)
  | none =>
    if s.deferredAt i ab then (s, .failed St.unrecoveredRead)
    else
      let own := s.ownRole a st j off p.turn
      let r := s.readUnit i st j off p.turn
      match r.2 with
      | none => (r.1, .failed (if a.state = .salvaged then St.unrecoveredRead else St.arrayOffline))
      | some u =>
        let from_ := match own with
          | some x => [x]
          | none => (a.readOrder st).filter fun x => (s.unitAt a st x off).isSome
        let t := ((from_.take (if own.isSome then 1 else a.k)).filterMap (a.drive st)).foldl
          (fun t d => t.hopIn p (attBay d)) r.1
        if n.tagOk nsid b p.bank u then done t u
        else match own with
        | some x => (t.tagFailed p.lane).retag p nsid b st j off x
        | none => (t.tagFailed p.lane).sealFail

/-- How the write of blocks ends; `wait` where the gather buffer has no room (R182). -/
inductive Put
  | done
  | offline
  | wait
  deriving DecidableEq, Repr

/-- Live records of a stripe on its pair. -/
def State.liveRecs (s : State) (i st : Nat) : Bool :=
  (s.pairRun i ((s.mrd.arr.get i).pairOf st)).segs.any fun g => g.recs.any fun r => r.stripe == st

/-- A stripe with gathered blocks or live records: its whole write takes the interlock and ends with a RETIRE entry
(R181). -/
def State.stripeLive (s : State) (i st : Nat) : Bool :=
  s.liveRecs i st || ((s.ary.get i).gather.get st).inUse

/-- A whole stripe written (R181): the slots below its record number are discarded, and a RETIRE entry waits for the
stripe's pair where the stripe is live. -/
def State.putWhole (s : State) (i st rn : Nat) (l : List (Nat × Unit4k)) : State × Put :=
  let live := s.stripeLive i st
  match s.writeStripe i st l with
  | (t, false) => (t, .offline)
  | (t, true) =>
    let t := t.dropSlots i st fun g => decide (g.rn < rn)
    (if live then t.addRecs i ((s.mrd.arr.get i).pairOf st) [mark 4 st rn] else t, .done)

/-- Gather slots written for blocks under record numbers from `rn` (R178, R182). -/
def State.gatherBlks (s : State) (i st rn host nsid : Nat) (l : List (Nat × Unit4k)) : State :=
  l.zipIdx.foldl (fun s p =>
    let m := mediaOf p.1.2
    s.putSlot i st ⟨p.1.1, rn + p.2, m.data, m.md, false, host, nsid⟩) s

/-- A part of a stripe written through the ledger: its records wait for the next segment of the pair, its blocks stand
in gather slots (R26, R177, R178). -/
def State.putLedger (s : State) (i st host nsid rn : Nat) (l : List (Nat × Unit4k)) : State :=
  let recs := l.zipIdx.map fun q =>
    let m := mediaOf q.1.2
    (⟨1, 0, host, nsid, rn + q.2, st, q.1.1, m.data, m.md⟩ : LedgerRec)
  ((s.gatherBlks i st rn host nsid l).addRecs i ((s.mrd.arr.get i).pairOf st) recs).destageCauses i st

/-- A part of a stripe of a pair that is not TWO: into its gather slots, and the stripe's destage due at once (R189). -/
def State.putBypass (s : State) (i st host nsid rn : Nat) (l : List (Nat × Unit4k)) : State :=
  let s := ((s.gatherBlks i st rn host nsid l).destageDue i st .bypass).count (Fld.LDG_ERR_STAT_BYPASSED i) 1
  (s.tally 0x0E3 i 1).destageAsk i st

/-- One stripe's share of a write (R25): whole, ledgered, bypassing, or read-modify-write on a direct path. All blocks of
a dock commit are ledgered (R87). Its blocks cross to the drives of their units, or to the reservoir; what goes to a ring
is counted with its segment (R23). -/
def State.putStripe (s : State) (p : Bound) (commit : Bool) (nsid host st rn : Nat)
    (l : List (Nat × Unit4k)) : State × Put :=
  let n := p.ns
  let i := n.array
  let a := s.mrd.arr.get i
  let slots := l.foldl (fun s _ => s.hopOut p [attReservoir st]) s
  let members := l.foldl (fun s q => s.hopOut p (((List.range a.mode.copies).filterMap fun c =>
    a.drive st (a.dataRole st (q.1 / a.u) c)).map attBay)) s
  if a.whole (l.map Prod.fst) && !(n.ledgered && commit) then members.putWhole i st rn l
  else if n.ledgered then
    if s.slotsMax < s.slotsUsed + l.length then (s, .wait)
    else if (a.pair (a.pairOf st)).state = .two then (slots.putLedger i st host nsid rn l, .done)
    else (slots.putBypass i st host nsid rn l, .done)
  else match members.writeStripe i st l with
    | (t, true) => (t, .done)
    | (t, false) => (t, .offline)

/-- Blocks of a namespace written, stripe by stripe (R25). Block j of the command carries record number rn + j, as its
plan reserved them (R111, PLANNED). -/
def State.putBlks (s : State) (p : Bound) (commit : Bool) (nsid host : Nat) (l : List (Nat × Unit4k)) : State × Put :=
  let n := p.ns
  let a := s.mrd.arr.get n.array
  let at_ := l.map fun p => (a.mapped n.ext p.1, p.2)
  let w := a.k * a.u
  let r := (at_.map fun p => p.1 / w).eraseDups.foldl (fun (r : State × Put) st =>
    let first := (at_.map fun p => p.1 / w).idxOf st
    if r.2 ≠ .done then r
    else r.1.putStripe p commit nsid host st (p.rn + first)
      ((at_.filter fun p => p.1 / w == st).map fun p => (p.1 % w, p.2)))
    (s, .done)
  match r.2 with
  | .done => (at_.foldl (fun s p => s.undefer n.array p.1) r.1, .done)
  | .wait => (s, .wait)
  | .offline => r

end Sys2Proof.Machine
end

