-- ==== Sys2Proof/Machine/IoRun.lean ====
section
/-! DEFINITION. What an I/O command does: the checks of Table 2-10 (R461), protection information (R58),
reservations, and the command's effect (R25 to R28, R51, R52, R168). -/

namespace Sys2Proof.Machine

/-- Logical blocks of a 4 KiB block are 8 sectors on LBAF 1 and 3 (Table 2-7). -/
def Namespace.small (n : Namespace) : Bool := n.lbaf == 1 || n.lbaf == 3

/-- The bytes a command moves. -/
def ioBytes (c : IoCmd) (n : Namespace) : Nat := c.nlb * (if n.small then 512 else 4096)

/-- Opcodes of Table 2-2 that read user data, and those that write it. -/
def readsData (op : Nat) : Bool := op == 2 || op == 5 || op == 0x0C
def writesData (op : Nat) : Bool := op == 1 || op == 8 || op == 9

/-- I/O opcodes that the device supports (Table 2-2). -/
def ioSupported (op : Nat) : Bool :=
  readsData op || writesData op || op == 0 || op == 0x0D || op == 0x0E || op == 0x11 || op == 0x15

/-- The host holds the namespace's reservation: the holder, or any registrant for the all-registrants types. -/
def ResvState.holds (r : ResvState) (h : Nat) : Bool :=
  r.holder == some h || (decide (5 ≤ r.rtype) && r.regs.any fun e => e.1 == h)

/-- The host is a registrant. -/
def ResvState.registered (r : ResvState) (h : Nat) : Bool := r.regs.any fun e => e.1 == h

/-- The reservation keeps the host from an opcode (NVMe reservation types 1 to 6). Acquire and Release want a
registrant; Flush, and Format NVM (opcode 80h), count among the commands that write. -/
def ResvState.conflict (r : ResvState) (h op : Nat) : Bool :=
  if op = 0x11 ∨ op = 0x15 then !r.registered h
  else if r.rtype = 0 ∨ r.holds h then false
  else if writesData op ∨ op = 0 ∨ op = 0x80 then r.rtype == 1 || r.rtype == 2 || !r.registered h
  else if readsData op then r.rtype == 2 || ((r.rtype == 4 || r.rtype == 6) && !r.registered h)
  else false

/-- The host and the subsystem behind a queue. -/
def State.queueHost (s : State) (q : Nat) : Nat := (s.host.assoc.get (s.host.queue.get q).cntlid).host
def State.queueSubsys (s : State) (q : Nat) : Nat := (s.host.assoc.get (s.host.queue.get q).cntlid).subsys

/-- The blocks an I/O command names lie in the namespace. -/
def ioInRange (c : IoCmd) (n : Namespace) : Bool :=
  if c.opcode = 9 then c.ranges.all fun r => decide (r.1 + r.2 ≤ n.size)
  else if readsData c.opcode ∨ writesData c.opcode then decide (c.slba + c.nlb ≤ n.size) else true

/-- Bytes that a logical block takes on the wire: its data, and the metadata interleaved with it where the namespace
has some and PRACT does not make or strip it (R56, R58). -/
def blkBytes (c : IoCmd) (n : Namespace) : Nat :=
  (if n.small then 512 else 4096) + (if 2 ≤ n.lbaf ∧ !c.pract then 8 else 0)

/-- The transfer is at most 2 MiB (Table 2-1, MDTS). Verify, Write Zeroes and Dataset Management move no data; nor does
a dock commit, whose data has come by its window (R87). -/
def ioInMdts (c : IoCmd) (n : Namespace) : Bool :=
  if (c.opcode = 1 ∨ c.opcode = 2 ∨ c.opcode = 5) ∧ c.commit.isNone then decide (c.nlb * blkBytes c n ≤ 2097152) else true

/-- Data that comes in the capsule itself is at most 8,192 bytes (Table 2-1); more is an option that is not supported
(log entry 51). -/
def ioInCapsule (c : IoCmd) (n : Namespace) : Bool :=
  c.commit.isSome || decide (c.data.length * blkBytes c n ≤ 8192)

/-- Table 2-10: the first check that fails, with its place, none where all pass (R461). -/
def State.ioCheck (s : State) (c : IoCmd) : Option (Nat × Status) :=
  let n := s.mrd.ns.get c.nsid
  let h := s.queueHost c.qref
  let a := s.mrd.arr.get n.array
  let all := c.opcode == 0 && c.nsid == 0xFFFFFFFF
  if !ioSupported c.opcode then some (1, St.invalidOpcode)
  else if c.badField ∨ 256 < c.ranges.length ∨ !ioInCapsule c n then some (2, St.invalidField)
  else if all then none
  else if !(n.present && n.subsys == s.queueSubsys c.qref && n.hosts.contains h) then some (3, St.invalidNs)
  else if a.state = .offline then some (4, St.arrayOffline)
  else if n.cipher ≠ .none ∧ (s.mrd.keys.get n.keySlot).mode = 0 then some (5, St.nsNotReady true)
  else if n.cipher ≠ .none ∧ s.lanesUp = [] then some (5, St.nsNotReady false)
  else if !ioInRange c n then some (6, St.lbaRange)
  else if !ioInMdts c n then some (7, St.invalidField)
  else if n.resv.conflict h c.opcode then some (8, St.resvConflict)
  else if writesData c.opcode ∧ (n.writeProtect ∨ a.state = .salvaged) then some (9, St.writeProtected)
  else none

/-- The mark word of a namespace in a host's log, and the swap that claims it: the bank's 32-bit SWAP of the word with 0,
which the admitting engine has won where the old value is not zero (R52, R116). -/
def HostLog.markSwap (e : HostLog) (n : Nat) : HostLog × Bool :=
  let old := if e.marks.contains n then 1 else 0
  let new := BankOp.swap.apply 32 old 0 0
  ({ e with marks := if new = 0 then e.marks.erase n else e.marks }, decide (old ≠ 0))

/-- Marks the command claims (R51, R52): its namespace's, or every mark of the host for a Flush to all. -/
def State.claim (s : State) (c : IoCmd) : Option State :=
  let h := s.queueHost c.qref
  let all := c.opcode == 0 && c.nsid == 0xFFFFFFFF
  let l := (s.host.log.get h).marks.filter fun n => all || n == c.nsid
  if l = [] then none
  else
    let s := s.updLog h fun e => l.foldl (fun e n => (e.markSwap n).1) e
    let see := fun (e : Deferred) =>
      if l.contains e.nsid && e.hosts.contains h then { e with claimed := h :: e.claimed } else e
    some (s.updHost fun x => { x with deferred := x.deferred.map see }).keepDefer

/-- 4 KiB blocks that logical blocks `slba` to `slba + nlb - 1` touch, with the sectors of each that are
covered: first covered sector, count (R57). -/
def Namespace.cover (n : Namespace) (slba nlb : Nat) : List (Nat × Nat × Nat) :=
  if n.small then
    (List.range ((slba + nlb + 7) / 8 - slba / 8)).map fun i =>
      let b := slba / 8 + i
      let lo := max slba (8 * b)
      let hi := min (slba + nlb) (8 * b + 8)
      (b, lo - 8 * b, hi - lo)
  else (List.range nlb).map fun i => (slba + i, 0, 1)

/-- Sectors of a 4 KiB block: 8 of 512 bytes, or the block itself. -/
def Namespace.split (n : Namespace) (plain : Block) : List Block :=
  if n.small then (List.range 8).map fun i => BitVec.ofNat 32768 (bitsOf plain.toNat (4096 * i) 4096)
  else [plain]

/-- A block with sectors from `lo` replaced. -/
def Namespace.merge (n : Namespace) (plain : Block) (lo : Nat) (l : List Block) : Block :=
  if n.small then
    BitVec.ofNat 32768 (((List.range l.length).zip l).foldl (fun v p =>
      setBits v (4096 * (lo + p.1)) 4096 p.2.toNat) plain.toNat)
  else l.headD plain

/-- Guard of a sector (R58, R59). -/
def Namespace.guard (n : Namespace) (d : Block) : BitVec 16 :=
  crc16 (leBytes (if n.small then 512 else 4096) d.toNat)

/-- The check of one sector's protection information under PRCHK (R58): bit 2 guard, bit 1 application tag
under its mask, bit 0 reference tag for type 1. An application tag of 0xFFFF, with type 3 also a reference tag
of all ones, escapes every check. -/
def piFail (n : Namespace) (c : IoCmd) (lba : Nat) (t : Sector) : Option Status :=
  let esc := t.app == 0xFFFF && (n.pi != 3 || t.ref == 0xFFFFFFFF)
  if n.pi = 0 ∨ esc then none
  else if c.prchk.testBit 2 ∧ t.guard ≠ n.guard t.data then some St.guardCheck
  else if c.prchk.testBit 1 ∧ t.app.toNat &&& c.appMask ≠ c.appTag &&& c.appMask then some St.appTagCheck
  else if c.prchk.testBit 0 ∧ n.pi = 1 ∧ t.ref.toNat ≠ lba % 2 ^ 32 then some St.refTagCheck
  else none

/-- Blocks read one after the other until one fails; answers each block's plaintext and tags. -/
def State.readBlks (s : State) (p : Bound) (nsid : Nat) :
    List (Nat × Nat × Nat) → State × Except Status (List (Nat × Nat × Nat × Block × List Tags))
  | [] => (s, .ok [])
  | (b, lo, c) :: l =>
    match s.readBlk p nsid b with
    | (t, .failed st) => (t, .error st)
    | (t, .got plain tags) =>
      match t.readBlks p nsid l with
      | (u, .ok r) => (u, .ok ((b, lo, c, plain, tags) :: r))
      | (u, .error st) => (u, .error st)

/-- The sectors of a command's range with the tags stored for them; the guard is recomputed (R59). -/
def sectorsOf (n : Namespace) (l : List (Nat × Nat × Nat × Block × List Tags)) : List (Nat × Sector) :=
  l.flatMap fun e =>
    let f := if n.small then 8 else 1
    ((List.range f).zip (n.split e.2.2.2.1)).filterMap fun p =>
      if e.2.1 ≤ p.1 ∧ p.1 < e.2.1 + e.2.2.1 then
        let t := e.2.2.2.2.getD p.1 (0, 0)
        some (e.1 * f + p.1, ⟨p.2, n.guard p.2, BitVec.ofNat 16 t.1, BitVec.ofNat 32 t.2⟩)
      else none

/-- 4 KiB blocks that a command names, each with whether all of it is covered (R57). -/
def coverOf (n : Namespace) (c : IoCmd) : List (Nat × Bool) :=
  if c.opcode = 9 then
    let l := c.ranges.flatMap fun r => n.cover r.1 r.2
    (l.map (·.1)).eraseDups.map fun b => (b, (List.range n.perBlk).all fun i =>
      l.any fun e => e.1 == b && decide (e.2.1 ≤ i ∧ i < e.2.1 + e.2.2))
  else (n.cover c.slba c.nlb).map fun e => (e.1, e.2.2 == n.perBlk)

/-- Blocks of the namespace that a command's plan covers. -/
def planBlks (n : Namespace) (c : IoCmd) : List Nat := (coverOf n c).map (·.1)

/-- What a command leaves in its namespace: a Write's data, zeroes for Write Zeroes and Deallocate (R41, Table 2-2). -/
def changesData (c : IoCmd) : Bool := writesData c.opcode && (c.opcode != 9 || c.deac)

/-- Zeroed sectors from `lba` on, tagged all ones where they are deallocated (DLFEAT, Table 2-2); with PRACT = 1 their
protection information is made (R58). -/
def zeroSecs (n : Namespace) (c : IoCmd) (lba nlb : Nat) (dealloc : Bool) : List (Nat × Block × Tags) :=
  (List.range nlb).map fun i =>
    (lba + i, 0,
      if dealloc then (0xFFFF, 0xFFFFFFFF)
      else (if c.pract then c.appTag else 0,
        if n.pi = 1 then (lba + i) % 2 ^ 32 else if c.pract then c.refTag else 0))

/-- The sectors that a command writes, in order: logical block, data, tags. With PRACT = 1 the tags are made, else they
come with the data (R58). -/
def writtenSecs (n : Namespace) (c : IoCmd) : List (Nat × Block × Tags) :=
  match c.opcode with
  | 1 => (List.range c.nlb).map fun i =>
      let t := c.data.getD i default
      (c.slba + i, t.data,
        if c.pract then (c.appTag, if n.pi = 1 then (c.slba + i) % 2 ^ 32 else c.refTag)
        else (t.app.toNat, t.ref.toNat))
  | 9 => c.ranges.flatMap fun r => zeroSecs n c r.1 r.2 true
  | _ => zeroSecs n c c.slba c.nlb c.deac

/-- The first failed check of the protection information that came with a command's data (R58). -/
def hostPiFail (n : Namespace) (c : IoCmd) : Option Status :=
  if c.pract ∨ (c.opcode ≠ 1 ∧ c.opcode ≠ 5) then none
  else (List.range c.nlb).findSome? fun i => piFail n c (c.slba + i) (c.data.getD i default)

/-- A sector put into a block and its tags. -/
def Namespace.putSec (n : Namespace) (acc : Block × List Tags) (x : Nat × Block × Tags) : Block × List Tags :=
  (n.merge acc.1 (x.1 % n.perBlk) [x.2.1], acc.2.set (x.1 % n.perBlk) x.2.2)

/-- New content of the blocks a command writes, encoded with the serials reserved at PLANNED: each partly covered block
is read and merged with the new sectors on plaintext (R57, R229). -/
def State.buildBlks (s : State) (c : IoCmd) (p : Bound) : State × Except Status (List (Nat × Unit4k)) :=
  let n := p.ns
  let cov := coverOf n c
  match s.readBlks p c.nsid ((cov.filter fun e => !e.2).map fun e => (e.1, 0, n.perBlk)) with
  | (s, .error st) => (s, .error st)
  | (s, .ok old) =>
    let secs := writtenSecs n c
    (s, .ok (cov.zipIdx.map fun q =>
      let b := q.1.1
      let was : Block × List Tags := match old.find? fun e => e.1 == b with
        | some e => (e.2.2.2.1, e.2.2.2.2)
        | none => (0, List.replicate n.perBlk (0, 0))
      let new := (secs.filter fun x => x.1 / n.perBlk == b).foldl n.putSec was
      (b, n.encode c.nsid b p.bank new.1 new.2 ((p.ser + q.2) % 2 ^ 64))))

/-- The sectors of one block that are read, and the status of the first whose protection information fails (R58). -/
def blkSectors (p : Bound) (c : IoCmd) (e : Nat × Nat × Nat) (plain : Block) (tags : List Tags) :
    List Sector × Option Status :=
  let l := sectorsOf p.ns [(e.1, e.2.1, e.2.2, plain, tags)]
  match l.findSome? fun x => piFail p.ns c x.1 x.2 with
  | some st => ([], some st)
  | none => (l.map fun x =>
      if p.ns.lbaf < 2 ∨ c.pract then { x.2 with guard := 0, app := 0, ref := 0 } else x.2, none)

/-- Read in cut-through (R27): each block leaves for the host as soon as it is decrypted or verified, while the queue
lives; the first that fails ends the command. PI is returned with PRACT = 0 and stripped with PRACT = 1 (R58). -/
def State.readOut (s : State) (p : Bound) (c : IoCmd) (live : Bool) : List (Nat × Nat × Nat) → State × Status
  | [] => (s, St.ok)
  | e :: l =>
    match s.readBlk p c.nsid e.1 with
    | (t, .failed st) => (t, st)
    | (t, .got plain tags) =>
      match blkSectors p c e plain tags with
      | (_, some st) => (t, st)
      | (secs, none) =>
        let t := if live then t.sendData c.qref c.cid secs (secs.length * blkBytes c p.ns) else t
        t.readOut p c live l

/-- Read (R27). -/
def State.doRead (s : State) (p : Bound) (c : IoCmd) (live : Bool) : State × Status :=
  s.readOut p c live (p.ns.cover c.slba c.nlb)

/-- Compare: the protection information that came with the host's data and that of the stored blocks is checked, then
the plaintext against the host's data (R58, R227, Table 2-4). -/
def State.doCompare (s : State) (p : Bound) (c : IoCmd) : State × Status :=
  let n := p.ns
  match hostPiFail n c with
  | some st => (s, st)
  | none =>
    match s.readBlks p c.nsid (n.cover c.slba c.nlb) with
    | (t, .error st) => (t, st)
    | (t, .ok l) =>
      let secs := sectorsOf n l
      match secs.findSome? fun x => piFail n c x.1 x.2 with
      | some st => (t, st)
      | none =>
        let same := (secs.zip c.data).all fun x =>
          if n.small then bitsOf x.1.2.data.toNat 0 4096 == bitsOf x.2.data.toNat 0 4096 else x.1.2.data == x.2.data
        (t, if same && decide (c.data.length = c.nlb) then St.ok else St.compareFailure)

/-- The redundant units of a stripe agree with its data at block `off` (Verify, Table 2-2). -/
def State.parityOk (s : State) (a : Arr) (st off : Nat) : Bool :=
  match s.stripeData a st off with
  | none => true
  | some ds => (a.redundant st ds).all fun p =>
    match s.unitAt a st p.1 off with
    | some u => u == p.2
    | none => true

/-- Verify: blocks read and verified with nothing released, and parity checked (R227, Table 2-2). The status
of a block whose parity disagrees is not stated: a free choice between success and an error (log entry 1). -/
def State.doVerify (s : State) (p : Bound) (c : IoCmd) : State × Status :=
  let n := p.ns
  match s.readBlks p c.nsid (n.cover c.slba c.nlb) with
  | (t, .error st) => (t, st)
  | (t, .ok l) =>
    let a := t.mrd.arr.get n.array
    let bad := l.any fun e =>
      let p := a.place (a.mapped n.ext e.1)
      !t.parityOk a p.1 p.2.2
    match (sectorsOf n l).findSome? (fun p => piFail n c p.1 p.2) with
    | some st => (t, st)
    | none =>
      if bad then (t.tick, if t.freeVal % 2 = 0 then St.ok else St.unrecoveredRead) else (t, St.ok)

/-- A reservation notice to the associations of some hosts: `bit` of feature 82h masks it. The event is that
of the NVMe reservation log, page 80h. -/
def State.resvNotice (s : State) (hosts : List Nat) (bit : Nat) : State :=
  s.postAens (fun a => a.live && !a.discovery && hosts.contains a.host && !a.resvMask.testBit bit) 6 0 0x80

/-- The namespace's reservation state replaced; the state is moored (Table 2-2). -/
def State.setResv (s : State) (nsid : Nat) (r : ResvState) : State :=
  s.moorAs (.ns nsid { s.mrd.ns.get nsid with resv := r }) true

/-- The reservation released; registrants other than `h` are told for the types that grant them access. -/
def State.dropResv (s : State) (nsid h : Nat) (r : ResvState) : State :=
  let s := s.setResv nsid { r with holder := none, rtype := 0, gen := r.gen }
  if 3 ≤ r.rtype then s.resvNotice ((r.regs.map Prod.fst).filter fun x => x != h) 2 else s

/-- Persist Through Power Loss as the command's CPTPL changes it: 2 clears, 3 sets. -/
def ptplOf (r : ResvState) (cptpl : Nat) : Bool := if cptpl = 2 then false else if cptpl = 3 then true else r.ptpl

/-- Reservation Register: register, unregister, replace (NVMe). -/
def State.doResvRegister (s : State) (c : IoCmd) : State × Status :=
  let r := (s.mrd.ns.get c.nsid).resv
  let h := s.queueHost c.qref
  let cur := (r.regs.find? fun e => e.1 == h).map Prod.snd
  let v := c.resv
  let rest := r.regs.filter fun e => e.1 != h
  let p := ptplOf r v.cptpl
  match v.action with
  | 0 =>
    if cur.any (· != v.nrkey) then (s, St.resvConflict)
    else (s.setResv c.nsid { r with regs := rest ++ [(h, v.nrkey)], gen := r.gen + 1, ptpl := p }, St.ok)
  | 1 =>
    if cur = none ∨ (!v.iekey ∧ cur ≠ some v.crkey) then (s, St.resvConflict)
    else
      let r' := { r with regs := rest, gen := r.gen + 1, ptpl := p }
      let lastOne := decide (5 ≤ r.rtype) && rest.isEmpty
      if r.holder = some h ∧ r.rtype < 5 ∨ lastOne then (s.dropResv c.nsid h r', St.ok)
      else (s.setResv c.nsid r', St.ok)
  | 2 =>
    if !v.iekey ∧ cur ≠ some v.crkey then (s, St.resvConflict)
    else (s.setResv c.nsid { r with regs := rest ++ [(h, v.nrkey)], gen := r.gen + 1, ptpl := p }, St.ok)
  | _ => (s, St.invalidField)

/-- Reservation Acquire: acquire, preempt, preempt and abort (NVMe). -/
def State.doResvAcquire (s : State) (c : IoCmd) : State × Status :=
  let r := (s.mrd.ns.get c.nsid).resv
  let h := s.queueHost c.qref
  let cur := (r.regs.find? fun e => e.1 == h).map Prod.snd
  let v := c.resv
  if !v.iekey ∧ cur ≠ some v.crkey then (s, St.resvConflict)
  else if v.rtype = 0 ∨ 6 < v.rtype then (s, St.invalidField)
  else match v.action with
  | 0 =>
    if r.rtype = 0 then (s.setResv c.nsid { r with holder := some h, rtype := v.rtype }, St.ok)
    else if r.holds h ∧ r.rtype = v.rtype then (s, St.ok) else (s, St.resvConflict)
  | 1 | 2 =>
    let victims := (r.regs.filter fun e =>
      e.1 != h && (e.2 == v.nrkey || (v.nrkey == 0 && decide (5 ≤ r.rtype)))).map Prod.fst
    let takes := r.rtype == 0 || r.holder.any (fun x => victims.contains x) || decide (5 ≤ r.rtype ∧ v.nrkey = 0) ||
      (r.holder == some h && cur == some v.nrkey)
    let regs := r.regs.filter fun e => !victims.contains e.1
    let r' := { r with regs := regs, gen := r.gen + 1
                       holder := if takes then some h else r.holder
                       rtype := if takes then v.rtype else r.rtype }
    if victims = [] ∧ !takes then (s, St.resvConflict)
    else
      let s := (s.setResv c.nsid r').resvNotice victims 1
      (if takes ∧ r.rtype ≠ 0 ∧ r.rtype ≠ v.rtype then
        s.resvNotice ((regs.map Prod.fst).filter fun x => x != h) 2 else s, St.ok)
  | _ => (s, St.invalidField)

/-- Reservation Release: release and clear (NVMe). -/
def State.doResvRelease (s : State) (c : IoCmd) : State × Status :=
  let r := (s.mrd.ns.get c.nsid).resv
  let h := s.queueHost c.qref
  let cur := (r.regs.find? fun e => e.1 == h).map Prod.snd
  let v := c.resv
  if !v.iekey ∧ cur ≠ some v.crkey then (s, St.resvConflict)
  else match v.action with
  | 0 =>
    if !r.holds h ∨ r.rtype = 0 then (s, St.ok)
    else if v.rtype ≠ r.rtype then (s, St.invalidField)
    else (s.dropResv c.nsid h r, St.ok)
  | 1 =>
    let others := (r.regs.map Prod.fst).filter fun x => x != h
    ((s.setResv c.nsid { r with regs := [], holder := none, rtype := 0, gen := r.gen + 1 }).resvNotice others 3,
      St.ok)
  | _ => (s, St.invalidField)

/-- Reservation Report: generation, type, registrants with key and hold, Persist Through Power Loss. -/
def State.doResvReport (s : State) (c : IoCmd) : State × Status :=
  let r := (s.mrd.ns.get c.nsid).resv
  ((s.emit (.adminInfo c.qref c.cid 0x0E
    ([r.gen % 2 ^ 32, r.rtype, r.regs.length, r.ptpl.toNat] ++
      r.regs.flatMap fun e => [e.1, (r.holds e.1).toNat, e.2]))).sendBytes c.qref (64 + 64 * r.regs.length), St.ok)

/-- The effect of a command that writes no block, once it has passed its checks. `live`: its queue still stands, so
that read data leaves (R91). -/
def State.ioEffect (s : State) (p : Bound) (c : IoCmd) (live : Bool) : State × Status :=
  match c.opcode with
  | 2 => s.doRead p c live
  | 5 => s.doCompare p c
  | 0x0C => s.doVerify p c
  | 0x0D => s.doResvRegister c
  | 0x0E => s.doResvReport c
  | 0x11 => s.doResvAcquire c
  | 0x15 => s.doResvRelease c
  | 0 | 1 | 8 | 9 => (s, St.ok)
  | _ => (s, St.invalidOpcode)

/-- The queue's head advances by one admitted command (R48). -/
def State.advanceHead (s : State) (q : Nat) : State :=
  s.updQueue q fun e => { e with sqhd := (e.sqhd + 1) % (e.sqsize + 1) }

/-- A capsule put at the end of its queue's submission-queue storage (R47). -/
def State.queueUp (s : State) (c : IoCmd) : State := s.updQueue c.qref fun e => { e with sq := e.sq ++ [c] }

/-- Stripe, data unit and block in the unit of namespace block `k`. -/
def State.placeOf (s : State) (n : Namespace) (k : Nat) : Nat × Nat × Nat :=
  let a := s.mrd.arr.get n.array
  a.place (a.mapped n.ext k)

/-- Drive operations of a read of namespace block `k` in its turn: the unit's own drive, or, where it has none, the
available roles that reconstruct it; none for a gathered block (R159, R180). -/
def State.readOps (s : State) (n : Namespace) (turn k : Nat) : List PlanOp :=
  let i := n.array
  let a := s.mrd.arr.get i
  let p := s.placeOf n k
  let off := p.2.2
  let op := fun b => planOp b (a.memberBlk p.1 off) false
  if (s.slotAt i p.1 (p.2.1 * a.u + off)).isSome then []
  else match a.readCopy p.1 p.2.1 turn with
    | some b => [op b]
    | none => (((a.readOrder p.1).filterMap fun x => a.drive p.1 x).take a.k).map op

/-- The stripes that namespace blocks `l` touch, each with the places of its blocks in its data. -/
def State.stripesOf (s : State) (n : Namespace) (l : List Nat) : List (Nat × List Nat) :=
  let a := s.mrd.arr.get n.array
  let w := a.k * a.u
  let at_ := l.map (a.mapped n.ext)
  (at_.map (· / w)).eraseDups.map fun st => (st, (at_.filter fun b => b / w == st).map (· % w))

/-- The stripe's share of a write is a read-modify-write of members: a partial stripe on a direct path (R25). -/
def Arr.direct (a : Arr) (n : Namespace) (blks : List Nat) : Bool := !n.ledgered && !a.whole blks

/-- What the read-modify-write of one stripe reads at each block offset (R25, R163): the old data of the units that are
written and the redundant units, or, where one of those has no drive, the units that give the whole stripe. A mirror
reads nothing. -/
def Arr.rmwOps (a : Arr) (st : Nat) (blks : List Nat) : List PlanOp :=
  if a.mode.mirror then []
  else (blks.map (· % a.u)).eraseDups.flatMap fun off =>
    let mine := ((blks.filter fun r => r % a.u == off).map fun r => a.dataRole st (r / a.u) 0) ++
      (List.range a.m).map fun o => a.parRole st o
    let from_ := if mine.all fun x => (a.drive st x).isSome then mine.filterMap (a.drive st)
      else ((a.readOrder st).filterMap (a.drive st)).take a.k
    from_.map fun b => planOp b (a.memberBlk st off) false

/-- The reads of a writing command: its partly covered blocks, and the read-modify-writes of stripes (R25, R57). -/
def State.mergeOps (s : State) (n : Namespace) (turn : Nat) (c : IoCmd) : List PlanOp :=
  let a := s.mrd.arr.get n.array
  ((coverOf n c).filter fun e => !e.2).flatMap (fun e => s.readOps n turn e.1) ++
    ((s.stripesOf n (planBlks n c)).filter fun e => a.direct n e.2).flatMap fun e => a.rmwOps e.1 e.2

/-- Some of what a write of namespace blocks `l` leaves goes through the ledger or its bypass (R25, R87, R189). -/
def State.ledgers (s : State) (n : Namespace) (commit : Bool) (l : List Nat) : Bool :=
  n.ledgered && (s.stripesOf n l).any fun e => commit || !(s.mrd.arr.get n.array).whole e.2

/-- Drive operations of a write's plan: whole stripes to every member; on a direct path the data and redundant
units; none for what goes through the ledger (R25, R181), as all the blocks of a dock commit do (R87). -/
def State.writeOps (s : State) (n : Namespace) (commit : Bool) (l : List Nat) : List PlanOp :=
  let a := s.mrd.arr.get n.array
  (s.stripesOf n l).flatMap fun e =>
    let st := e.1
    let op := fun off x => (a.drive st x).map fun b => planOp b (a.memberBlk st off) true
    if n.ledgered && commit then []
    else if a.whole e.2 then (List.range a.u).flatMap fun off => (List.range a.n).filterMap (op off)
    else if n.ledgered then []
    else (e.2.flatMap fun r => (((List.range a.mode.copies).map fun c => a.dataRole st (r / a.u) c) ++
      (if a.mode.mirror then [] else (List.range a.m).map fun o => a.parRole st o)).filterMap
        (op (r % a.u))).eraseDups

/-- Drive operations of a command's plan (R111, PLANNED): its reads before its writes. A Verify reads the redundant
units too (Table 2-2). -/
def State.cmdOps (s : State) (n : Namespace) (turn : Nat) (c : IoCmd) : List PlanOp :=
  let a := s.mrd.arr.get n.array
  if changesData c then s.mergeOps n turn c ++ s.writeOps n c.commit.isSome (planBlks n c)
  else if c.opcode = 0x0C then
    ((planBlks n c).flatMap (s.readOps n turn) ++ ((planBlks n c).flatMap fun k =>
      let p := s.placeOf n k
      ((a.readOrder p.1).filterMap (a.drive p.1)).map fun b => planOp b (a.memberBlk p.1 p.2.2) false)).eraseDups
  else if readsData c.opcode then (planBlks n c).flatMap (s.readOps n turn) else []

/-- The command waits unadmitted: admission is stopped (R329, R343, R392), or the array of its namespace is being
replayed (R190). -/
def State.ioHeld (s : State) (c : IoCmd) : Bool :=
  s.frozen || ((s.mrd.ns.get c.nsid).present && (s.ary.get (s.mrd.ns.get c.nsid).array).replaying)

/-- A command's completion as the tally counts it by namespace (Table 19-1). -/
def State.tallyIo (s : State) (c : IoCmd) (n : Namespace) (st : Status) : State :=
  let s := s.tally 0x110 c.nsid 1
  let s := if st = St.deferredWrite then s.tally 0x113 c.nsid 1 else s
  if st.sct = 0 ∧ st.sc = 0 then
    if readsData c.opcode then s.tally 0x111 c.nsid (ioBytes c n)
    else if c.opcode = 1 then s.tally 0x112 c.nsid (ioBytes c n) else s
  else s

/-- Admin and fabrics opcodes that the device supports (Table 2-2). -/
def adminSupported (op : Nat) : Bool :=
  [0x02, 0x06, 0x08, 0x09, 0x0A, 0x0C, 0x18, 0x7F, 0x80].contains op

end Sys2Proof.Machine
end

