-- ==== Sys2Proof/Machine/Berth.lean ====
section
/-! DEFINITION. Berths, tow lines, homing and interlocks (04_barge_engines.md, R95 to R109; R57, R463): the
operations that the rows of engines, queues and transports share. -/

namespace Sys2Proof.Machine

/-- First berth of basin `b`'s pool (R107). -/
def poolBase (b : Nat) : Nat := 8192 + 15872 * b

/-- Berths of basin `b`'s pool in use, and free (Table 4-20). -/
def State.poolUsed (s : State) (b : Nat) : Nat :=
  (s.brg.berth.keysWhere fun i e => decide (poolBase b ≤ i ∧ i < poolBase (b + 1)) && e.state != .free).length
def State.poolFree (s : State) (b : Nat) : Nat := 15872 - s.poolUsed b

/-- Free berths of all pools. -/
def State.berthsFree (s : State) : Nat := ((List.range 16).map s.poolFree).sum

/-- The berth an engine of basin `b` takes: from its own pool, else from the next pool that has one (R107). Which
free berth of the pool is the device's choice (log entry 1). -/
def State.pickBerth (s : State) (b : Nat) : Option Nat :=
  ((List.range 16).map fun i => (b + i) % 16).findSome? fun p =>
    if s.poolFree p = 0 then none
    else (firstFrom 15872 s.freeVal fun i => (s.berth (poolBase p + i)).state == .free).map (poolBase p + ·)

/-- Berth `b` is one of engine `e`'s commands in flight (R96). -/
def Berth.flies (b : Berth) (e : Nat) : Bool :=
  b.owner == e && !b.orphan && !b.admin && (b.state != .free && b.state != .queued)

/-- Commands in flight on an engine (R96). -/
def State.inflight (s : State) (e : Nat) : Nat := (s.berths fun b => b.flies e).length

/-- The engine is in RUN, and in RUN and not running down to park. -/
def State.engRuns (s : State) (e : Nat) : Bool := (s.eng e).state == .run
def State.engOpen (s : State) (e : Nat) : Bool := s.engRuns e && !(s.eng e).parking

/-- Engine `e` is idle (R96). -/
def State.engIdle (s : State) (e : Nat) : Bool :=
  (s.eng e).tow.isEmpty && (s.berths fun b => b.flies e && b.state == .run).isEmpty

/-- Queues homed on an engine, by reference. -/
def State.homed (s : State) (e : Nat) : List Nat :=
  s.host.queue.keysWhere fun _ q => q.live && q.home == some e

/-- The home engine of a queue of association `c` by HOME_POLICY, ties by the rotating pointer (R97). -/
def State.homeEngine (s : State) (c : Nat) : Option Nat :=
  let ptr := s.brg.homePtr
  let ring := (List.range 256).map fun i => (ptr + i) % 256
  let open_ := ring.filter fun e => s.engOpen e && decide ((s.homed e).length < 1024)
  let least := leastBy fun e => (s.homed e).length
  if s.flag Fld.BRG_ADMIT_CFG_HOME_POLICY then
    let mine := fun b => (s.host.queue.keysWhere fun _ q =>
      q.live && q.cntlid == c && (q.home.map (· / 16)) == some b).length
    match leastBy mine (open_.map (· / 16)).eraseDups with
    | none => none
    | some b => least (open_.filter fun e => e / 16 == b)
  else least open_

/-- A queue homed; without an engine to home it on it stays unhomed (R97, R457). -/
def State.homeQueue (s : State) (q : Nat) : State :=
  match s.homeEngine (s.host.queue.get q).cntlid with
  | none => s.updQueue q fun e => { e with home := none }
  | some h => (s.updQueue q fun e => { e with home := some h }).updBrg fun g =>
      { g with homePtr := (g.homePtr + 1) % 256 }

/-- Every queue of a departing engine homed again (R98). -/
def State.rehome (s : State) (e : Nat) : State := (s.homed e).foldl State.homeQueue s

/-- Blocks that a command writes, and those among them whose interlock it holds while it does: the blocks of the compare
half of a fused pair, which stands for both, and the blocks a write covers in part (R57, R463). `n` is the namespace it
is bound to. -/
def writesOf (n : Namespace) (fusedFirst : Bool) (c : IoCmd) : List Nat :=
  if fusedFirst ∨ changesData c then planBlks n c else []
def locksOf (n : Namespace) (fusedFirst : Bool) (c : IoCmd) : List Nat :=
  if fusedFirst then planBlks n c
  else if changesData c then ((coverOf n c).filter fun e => !e.2).map (·.1) else []
def Berth.writes (b : Berth) : List Nat := writesOf b.ns b.fusedFirst b.cmd
def Berth.locks (b : Berth) : List Nat := locksOf b.ns b.fusedFirst b.cmd

/-- The berth in whose name interlocks stand: that of the compare half for both halves of a fused pair. -/
def State.lockName (s : State) (b : Nat) : Nat :=
  let e := s.berth b
  if e.fusedSecond then e.mate.getD b else b

/-- An admitted command that has not ended. -/
def Berth.runs (b : Berth) : Bool := b.state != .free && b.state != .done && !b.admin && !b.claim

/-- Berth `x`, admitted before `e`, writes block `k` of the same namespace, and one of the two is a read-modify-write of
it: the later one waits (R57). The pair of a fused command counts from its PLANNED on, by its place in line (R463). -/
def State.earlierRmw (s : State) (me : Nat) (e : Berth) (k : Nat) : Bool :=
  !(s.brg.berth.keysWhere fun x b =>
    let n := if 3 ≤ b.checkpoint then b.ns else s.mrd.ns.get b.cmd.nsid
    x != me && b.runs && decide (b.order < e.order) && b.cmd.nsid == e.cmd.nsid && !b.fusedFirst && !b.fusedSecond &&
      (writesOf n false b.cmd).contains k && ((locksOf n false b.cmd).contains k || e.locks.contains k)).isEmpty

/-- Another berth stands before `me` in line for block `k` of the namespace: it holds the interlock, or waits for it and
is not itself kept waiting by `me` under R57. -/
def State.lineBefore (s : State) (me : Nat) (e : Berth) (k : Nat) : Bool :=
  let line := (s.host.locks.filter fun l => l.1 == e.cmd.nsid && l.2.1 == k).map fun l => l.2.2
  (line.takeWhile (· != me)).any fun y =>
    let b := s.berth y
    !(b.state == .held && b.waits == .blocks && e.locks.contains k && decide (e.order < b.order))

/-- Every block that berth `b` writes is free of another's interlock. -/
def State.blksFree (s : State) (b : Nat) : Bool :=
  let e := s.berth b
  let me := s.lockName b
  e.writes.all fun k => !s.lineBefore me e k && (e.fusedSecond || !s.earlierRmw me e k)

/-- The line of a namespace's blocks with berth `b` at the end of each of `l` where it does not stand yet, and gone from
every other block (Table 4-3, HELD). -/
def State.askBlks (s : State) (b : Nat) (l : List Nat) : State :=
  let n := (s.berth b).cmd.nsid
  s.updHost fun h =>
    let h' := h.locks.filter fun x => x.2.2 != b || l.contains x.2.1
    { h with locks := h' ++ ((l.filter fun k => !h'.contains (n, k, b)).map fun k => (n, k, b)) }

/-- The stripes whose interlock a writing command holds while it works on them: read-modify-writes of a direct path
(R163), and whole writes of stripes with gathered blocks or live records (R181). -/
def State.stripesHeld (s : State) (e : Berth) : List Nat :=
  let a := s.mrd.arr.get e.ns.array
  if !changesData e.cmd then []
  else ((s.stripesOf e.ns (planBlks e.ns e.cmd)).filter fun x =>
    a.direct e.ns x.2 || (a.whole x.2 && e.cmd.commit.isNone && s.stripeLive e.ns.array x.1)).map (·.1)

/-- Berth `b` stands first in line for every stripe it needs. -/
def State.stripesFree (s : State) (b : Nat) (l : List Nat) : Bool :=
  l.all fun st => s.stripeHolder (s.berth b).ns.array st == some (.berth b)

/-- A berth in RUN again. -/
def State.goOn (s : State) (b : Nat) : State := s.updBerth b fun e => { e with state := .run, waits := .nothing }

/-- HELD berths whose blocks are free, oldest first, go on with the interlocks they keep (Table 4-3). -/
def State.wakeHeld (s : State) : State :=
  (sortBy (fun b => (s.berth b).order) (s.berths fun b => b.state == .held && b.waits == .blocks)).foldl (fun s b =>
    if s.blksFree b then (s.askBlks b (s.berth b).locks).goOn b else s) s

/-- Berths in WAIT for the compare half of their pair, or for an earlier commit of their window, that need not wait any
longer go on (Table 4-3, R87). -/
def State.commitBehind (s : State) (e : Berth) : Bool :=
  match e.cmd.commit with
  | none => false
  | some w => !(s.berths fun x => x.runs && x.cmd.commit.any fun v => v.win == w.win && decide (v.acc < w.acc)).isEmpty
def State.wakeMates (s : State) : State :=
  (s.berths fun b => b.state == .wait && (b.waits == .mate || b.waits == .commit)).foldl (fun s b =>
    let e := s.berth b
    let go := if e.waits = .commit then !s.commitBehind e
      else e.fusedSecond && (e.mate.any fun m => (s.berth m).compared)
    if go then s.goOn b else s) s

/-- Interlocks in a berth's name released, of blocks and of stripes (R57, R163, R463). -/
def State.releaseLocks (s : State) (b : Nat) : State :=
  let s := s.updHost fun h => { h with locks := h.locks.filter fun l => l.2.2 != b }
  let i := (s.berth b).ns.array
  ((s.ary.get i).locks.filter fun l => l.2 == .berth b).foldl (fun s l => s.unlockStripe i l.1 l.2) s

/-- A berth removed from whatever tow line or transit it stands on; its group shrinks with it (R103, Table 4-4,
TOKEN_LEN). -/
def State.untow (s : State) (b : Nat) : State :=
  let k := (s.berth b).token
  let s := s.updBrg fun g => { g with eng := g.eng.mapAll fun _ e =>
    { e with tow := e.tow.erase b, transit := e.transit.erase b } }
  let s := s.updBerth b fun x => { x with token := 0, tokenLen := 0 }
  if k = 0 then s
  else
    let l := s.berths fun x => x.token == k && x.state == .queued
    l.foldl (fun s x => s.updBerth x fun y => { y with tokenLen := l.length }) s

/-- A deleted namespace whose last planned command has released its berth: gather slots discarded, stripes' records
retired, extents free (R462). Its berths are those bound to its extents. -/
def State.settleDying (s : State) : State :=
  (s.host.dying.filter fun d => (s.berths fun b =>
      decide (3 ≤ b.checkpoint) && b.state != .free && b.ns.array == d.ns.array && b.ns.ext == d.ns.ext).isEmpty).foldl
    (fun s d =>
    let i := d.ns.array
    let l := ((s.ary.get i).gather.keysWhere fun st e => e.inUse && d.ns.ext.contains (st / 256))
    let s := l.foldl (fun s st =>
      let e := (s.ary.get i).gather.get st
      ((s.updGather i st fun _ => default).unlockStripe i st .destage).addRecs i ((s.mrd.arr.get i).pairOf st)
        [mark 4 st (maxRn (e.slots ++ e.running))]) s
    s.updHost fun h => { h with dying := h.dying.filter fun x => x != d }) s

/-- An association that has been torn down is gone with its last berth (R91, R109). -/
def State.settleAssoc (s : State) (c : Nat) : State :=
  if (s.host.assoc.get c).live || !(s.berths fun b => b.cntlid == c && b.state != .free).isEmpty then s
  else s.updHost fun h => { h with assoc := h.assoc.set c default }

/-- A berth released once its completion is posted and its drive operations have finished (R109). -/
def State.releaseBerth (s : State) (b : Nat) : State :=
  let e := s.berth b
  if e.state = .done ∧ e.posted ∧ e.ops.all (·.finished) then
    let s := ((s.releaseLocks b).updBrg fun g => { g with berth := g.berth.set b default }).wakeHeld
    (s.settleSlots.settleDying).settleAssoc e.cntlid
  else s

/-- A completion formed: the berth is DONE with its status and the queue's head as it stands (R48, Table 4-3). Planned
operations that never went to a drive are not outstanding; what waited for it may go on. -/
def State.formDone (s : State) (b : Nat) (st : Status) : State :=
  let e := s.berth b
  let s := if e.state = .queued then s.untow b else s
  let s := s.updBerth b fun x => { x with
    state := .done, waits := .nothing, checkpoint := 8, status := st, sqhd := (s.host.queue.get e.cmd.qref).sqhd
    ops := x.ops.map fun o => if o.onDrive then o else { o with finished := true } }
  ((s.releaseLocks (s.lockName b)).wakeHeld).wakeMates

/-- A QUEUED berth freed without a completion (Table 4-3, QP in ERROR). -/
def State.dropQueued (s : State) (b : Nat) : State :=
  let c := (s.berth b).cntlid
  (((s.untow b).updBrg fun g => { g with berth := g.berth.set b default }).wakeHeld.wakeMates).settleAssoc c

end Sys2Proof.Machine
end

