-- ==== Sys2Proof/Machine/Qp.lean ====
section
/-! DEFINITION. Ends of queues, queue pairs, connections and associations (03_tug_transport.md, R65, R67, R90 to
R92; R458). -/

namespace Sys2Proof.Machine

/-- An acknowledgement, notification or response sent on a queue pair, with its path, MSN and SACK flag where it carries
the extension header (R72). -/
def State.sendRcAs (s : State) (i path msn : Nat) (sack : Bool) (p : RcOut) : State :=
  (s.emit (.rc i ((s.qp i).cxh false sack false path msn 0) p)).tally 0x041 (qpGroup i) 1
/-- One that belongs to no message and to no path of the host's goes on path 0 with the MSN received last (log entry
55). -/
def State.sendRc (s : State) (i : Nat) (p : RcOut) : State := s.sendRcAs i 0 (s.qp i).rmsn false p

/-- A CNP to the sender of a packet marked CE, at most one in CNP_GAP (R79): with the extension, it names the path of
the marked packet. -/
def State.notify (s : State) (i : Nat) (ce : Bool) (path : Nat) : State :=
  let q := s.qp i
  let gap := s.fld Fld.TUG_RC_CFG2_CNP_GAP * 1000
  if ce ∧ (q.lastCnp.all fun t => decide (t + gap ≤ s.now)) then
    ((s.sendRcAs i path q.rmsn false (.cnp (if q.relaxed then some path else none))).tally 0x043 (qpGroup i) 1).updQp i
      fun x => { x with lastCnp := some s.now }
  else s

/-- DREQ sent: the queue pair drains (Table 3-1). -/
def State.drainQp (s : State) (i : Nat) : State :=
  (s.emit (.cm .dreq i [])).updQp i fun q => { q with state := .draining, dreqs := 1, drep := false, flushed := decide (65536 ≤ i) }

/-- The transport of a queue ends: DREQ, or FIN on TCP (Table 3-1, R92). -/
def State.endTransport (s : State) (q : Nat) : State :=
  if isTcp q then (s.emit (.tcp (connOf q) .fin)).updConn (connOf q) fun c => { c with closing := true }
  else if (s.qp q).state = .rts ∨ (s.qp q).state = .error then s.drainQp q
  else s

/-- An admitted command whose completion has nowhere to go: it is discarded (R91). -/
def State.discardDone (s : State) (b : Nat) : State :=
  (s.updBerth b fun e => { e with posted := true }).releaseBerth b

/-- A command whose data fetch was flushed is not executed (R91): its completion is discarded. -/
def State.dropFetch (s : State) (b : Nat) : State :=
  if (s.berth b).runs then ((s.updBerth b fun x => { x with failed := true }).formDone b St.ok).discardDone b else s

/-- A command under way whose host data is not complete, so that it cannot run to its end without its queue (R91). -/
def Berth.wantsData (b : Berth) : Bool :=
  (b.cmd.opcode == 1 || b.cmd.opcode == 5) && !b.fetched && !b.ownData && decide (b.checkpoint ≤ 3)

/-- What the device holds for a queue is flushed (R91, Table 4-3): unadmitted commands discarded, QUEUED berths
freed, commands whose data is not complete dropped, both halves where one of a fused pair is, with their cells cancelled (R143), completions discarded. -/
def State.flushQueue (s : State) (q : Nat) : State :=
  let mine := fun (b : Berth) => b.cmd.qref == q && b.state != .free && !b.admin
  let s := s.updQueue q fun e => { e with sq := [], commits := [], cids := [], aborted := [] }
  let s := (s.berths fun b => mine b && b.state == .queued).foldl State.dropQueued s
  let s := (s.berths fun b => mine b && b.runs && b.wantsData).foldl (fun s b =>
    (((s.berth b).mate.elim s s.dropFetch).dropFetch b).cancelFlow b) s
  (s.berths fun b => mine b && b.state == .done && !b.posted).foldl State.discardDone s

/-- A queue at its end: flushed and gone. -/
def State.dropQueue (s : State) (q : Nat) : State :=
  (s.flushQueue q).updHost fun h => { h with queue := h.queue.set q default }

/-- Queues of an association. -/
def State.queuesOf (s : State) (c : Nat) : List Nat := s.host.queue.keysWhere fun _ q => q.live && q.cntlid == c

/-- An association torn down (R91): every queue ends, each with DREQ or FIN; parked events, admin commands and its
wish go; its CNTLID is free with its last berth. -/
def State.tearDown (s : State) (c : Nat) : State :=
  let s := (s.queuesOf c).foldl (fun s q => (s.dropQueue q).endTransport q) s
  let s := if (s.berth (c - 1)).admin then s.updBrg fun g => { g with berth := g.berth.set (c - 1) default } else s
  (s.updAssoc c fun a => { a with live := false, aers := [], slot := none, adminSq := [], wish := 0 }).settleAssoc c

/-- The staircase that the firmware installed behind a commit goes with the last commit of that immediate on its queue
pair (R81; log entry 56). -/
def State.dropFirm (s : State) (q imm : Nat) : State :=
  let same := fun (c : IoCmd) => c.qref == q && (c.commit.any fun w => w.imm == imm)
  if (s.berths fun b => same b.cmd && b.state != .free && !b.posted) ≠ [] ∨ (s.host.queue.get q).commits.any same then s
  else
    let keep : Stair → Bool := fun x => !(x.firm && x.qp == q && x.key == imm)
    s.updTug fun t => { t with stairs := t.stairs.upd (qpGroup q) (·.filter keep) }

/-- A fatal transport error (R90, R91): the NAK of Table 3-8, ERROR and the association torn down. On TCP,
C2HTermReq with its FES and FIN (R92). -/
def State.qpError (s : State) (q : Nat) (nak : Option Nak) (fes : Nat) : State :=
  let c := (s.host.queue.get q).cntlid
  let live := (s.host.queue.get q).live
  if isTcp q then
    let s := (s.emit (.tcp (connOf q) (.c2hTermReq fes))).dropQueue q
    let s := s.endTransport q
    if live then s.tearDown c else s
  else if (s.qp q).state = .rts ∨ (s.qp q).state = .probation then
    let s := match nak with
      | some n => s.sendRc q (.nak n)
      | none => s
    let s := (s.updQp q fun x => { x with state := .error, flushed := false, msgs := [], sent := [], sendQ := [] }).dropQueue q
    if live then s.tearDown c else s
  else s

/-- A queue whose Disconnect waits, once its admitted commands have posted their completions (R458). -/
def State.settleQueue (s : State) (q : Nat) : State :=
  let e := s.host.queue.get q
  match e.disconnect with
  | some cid =>
    if (s.berths fun b => b.cmd.qref == q && b.cntlid == e.cntlid && b.state != .free && !b.posted).isEmpty then
      ((s.respond q cid St.ok).dropQueue q).endTransport q
    else s
  | none => s

/-- An output that waits until the partner has acknowledged the prompt entry `n` of a change behind it (R318). -/
def State.emitAfter (s : State) (n : Nat) (o : Out) : State :=
  if n ≠ 0 ∧ s.isActive ∧ s.partnerAlive ∧ s.pair.prompts.any (fun e => decide (e.seq ≤ n)) then
    s.updPeer fun p => { p with held := p.held ++ [(n, o)] }
  else s.emit o

/-- The tug accepts a completion cell (R111, Table 4-3): POSTED, and the response leaves with the head as it
stood; it is discarded where the queue has gone. -/
def State.postBerth (s : State) (b : Nat) : State :=
  let e := s.berth b
  let q := e.cmd.qref
  let u := s.host.queue.get q
  let s := s.updBerth b fun x => { x with posted := true }
  let s := if u.live ∧ u.cntlid = e.cntlid then
      let s := match e.cmd.commit with
        | none => ((s.emitAfter e.prompt (.response q e.cmd.cid e.sqhd e.status)).sendResp q e.cmd.inval).updQueue q fun y =>
            { y with cids := y.cids.erase e.cmd.cid }
        | some w =>
          let done := e.status = St.ok
          let n := if done then bitsOf w.imm 0 12 else 0
          let ser := (s.tug.win.get w.win).serial + (if done then 1 else 0)
          let s := s.updTug fun t => { t with win := t.win.upd w.win fun x => { x with serial := ser % 2 ^ 64 } }
          (s.sendImm q w.imm (leBytes 2 (e.status.sct * 256 + e.status.sc) ++ leBytes 2 0 ++ leBytes 4 n ++
            leBytes 8 ser)).dropFirm q w.imm
      let s := s.hop (attEngine e.owner) (attGroup (refGroup q)) 1
      ((s.tally 0x061 e.owner 1).tally 0x061 (256 + e.owner / 16) 1).tally 0x061 0x1FF 1
    else s
  ((s.tallyIo e.cmd e.ns e.status).releaseBerth b).settleQueue q

end Sys2Proof.Machine
end

