-- ==== Sys2Proof/Machine/Barge.lean ====
section
/-! DEFINITION. The rows of barge engines and towing: capsules, admission, tow lines, steps, and the rescue of a fenced
engine's work (04_barge_engines.md). -/

namespace Sys2Proof.Machine

/-- A capsule that completes before it takes a berth (Table 4-1, orders 1 and 2; R99): the head advances, the
completion leaves. -/
def State.earlyEnd (s : State) (q : Nat) (c : IoCmd) (st : Status) : State :=
  let s := s.advanceHead q
  (s.emit (.response q c.cid (s.host.queue.get q).sqhd st)).sendResp q c.inval

/-- The first `n` capsules leave submission-queue storage. -/
def State.popSq (s : State) (q n : Nat) : State := s.updQueue q fun e => { e with sq := e.sq.drop n }

/-- An engine's event counted for the engine, its basin and the device (Table 19-1, 0x060 to 0x067). -/
def State.tallyEng (s : State) (code e n : Nat) : State :=
  ((s.tally code e n).tally code (256 + e / 16) n).tally code 0x1FF n

/-- A berth filled with a command's identity (Table 4-3, FREE). LANE shows 255 until a lane is bound, and where none is
needed (log entry 52). -/
def State.fillBerth (s : State) (b e : Nat) (c : IoCmd) : State :=
  let q := s.host.queue.get c.qref
  let own := c.commit.isSome || !c.data.isEmpty
  let s := (s.updBrg fun g => { g with
    admitted := g.admitted + 1
    berth := g.berth.set b { (default : Berth) with
      state := .queued, owner := e, home := e, cntlid := q.cntlid, qid := q.qid, host := s.queueHost c.qref, cmd := c
      ownData := own, checkpoint := 1, lane := 255, order := g.admitted, admitTime := s.stamp, retries := s.fld Fld.CNL_AGE_CFG_RETRY } })
  let s := s.hop (attGroup (refGroup c.qref)) (attEngine e) 1
  let s := if c.commit.isSome then s else s.updQueue c.qref fun x => { x with cids := x.cids ++ [c.cid] }
  s.tallyEng 0x060 e 1

/-- Pushed at the head of the engine's tow line (R101). -/
def State.pushTow (s : State) (e b : Nat) : State := s.updEng e fun x => { x with tow := b :: x.tow }

/-- A berth that carries only the completion of a claim (R52, Table 4-1). -/
def State.claimBerth (s : State) (b : Nat) (st : Status) : State :=
  (s.updBerth b fun x => { x with claim := true }).formDone b st

/-- A berth and the sluice's leave for a command on engine `e` (R48, R241, R242). -/
def State.admits (s : State) (e : Nat) (c : IoCmd) : Option (Nat × State) :=
  let n := s.mrd.ns.get c.nsid
  match s.pickBerth (e / 16) with
  | none => none
  | some b => (s.sluiceAdmit (s.queueHost c.qref) c.frame c.nsid (ioCost c (if n.small then 512 else 4096))
      (s.poolFree ((b - 8192) / 15872)) (s.eng e).tow.length).map fun t => (b, t.tick)

/-- A queue passed over in its turn (R99), counted, and as berth exhaustion where no pool has a berth. -/
def State.passOver (s : State) (e : Nat) : State :=
  let s := s.tallyEng 0x067 e 1
  if s.berthsFree = 0 then s.tally 0x068 0x1FF 1 else s

/-- A command held by the sluice, or by the berth pools, in its turn (R99, R241, R242). -/
def State.holdTurn (s : State) (e : Nat) (c : IoCmd) : State :=
  let n := s.mrd.ns.get c.nsid
  let s := if (s.pickBerth (e / 16)).isNone then s
    else s.sluiceHeld (s.queueHost c.qref) c.frame c.nsid (ioCost c (if n.small then 512 else 4096))
  s.passOver e

/-- The capsule at the head completes without a berth, in its turn (R99, Table 4-1). -/
def State.endHead (s : State) (q : Nat) (c : IoCmd) (st : Status) : State := (s.popSq q 1).earlyEnd q c st

/-- The record of an abort against a waiting capsule is used up (Table 4-1). -/
def State.dropAbort (s : State) (q cid : Nat) : State :=
  s.updQueue q fun x => { x with aborted := x.aborted.erase cid }

/-- One command admitted from its queue's storage (R100, Table 4-1). -/
def State.admitOne (s : State) (e q : Nat) (c : IoCmd) : State :=
  let u := s.host.queue.get q
  match s.admits e c with
  | none => s.holdTurn e c
  | some (b, t) =>
    if u.cids.contains c.cid then s.endHead q c St.cidConflict
    else if u.aborted.contains c.cid then (s.dropAbort q c.cid).endHead q c St.abortRequested
    else
      let t := ((t.popSq q 1).advanceHead q).fillBerth b e c
      match t.claim c with
      | some v => v.claimBerth b St.deferredWrite
      | none => t.pushTow e b

/-- A half of a fused pair that stands alone at the head of its queue completes with Command Aborted due to Missing
Fused Command, in its turn (R99). -/
def State.admitLone (s : State) (e q : Nat) (c : IoCmd) : State :=
  match s.admits e c with
  | none => s.holdTurn e c
  | some _ => s.endHead q c St.missingFused

/-- A fused pair admitted, with two berths taken together (R99, R52). Table 4-1 is applied to each half; where it ends
the second, the first stands without it and completes with Command Aborted due to Missing Fused Command (log
entry 52). -/
def State.admitPair (s : State) (e q : Nat) (c d : IoCmd) : State :=
  let u := s.host.queue.get q
  match s.admits e c with
  | none => s.holdTurn e c
  | some (b, t) =>
    let t := ((t.popSq q 2).advanceHead q).fillBerth b e c
    match t.admits e d with
    | none => s.passOver e
    | some (b', v) =>
      if u.cids.contains c.cid then s.endHead q c St.cidConflict
      else if u.aborted.contains c.cid then (s.dropAbort q c.cid).endHead q c St.abortRequested
      else if u.cids.contains d.cid ∨ d.cid = c.cid then
        (s.endHead q c St.missingFused).endHead q d St.cidConflict
      else if u.aborted.contains d.cid then
        ((s.dropAbort q d.cid).endHead q c St.missingFused).endHead q d St.abortRequested
      else if c.opcode ≠ 5 ∨ d.opcode ≠ 1 then (s.endHead q c St.invalidField).endHead q d St.invalidField
      else
        let v := (v.advanceHead q).fillBerth b' e d
        match v.claim c with
        | some w => (w.claimBerth b St.deferredWrite).claimBerth b' St.failedFused
        | none =>
          let k := v.brg.nextToken + 1
          let v := v.updBrg fun g => { g with nextToken := k }
          let v := v.updBerth b fun x => { x with fusedFirst := true, token := k, tokenLen := 2, mate := some b' }
          let v := v.updBerth b' fun x => { x with fusedSecond := true, token := k, tokenLen := 2, mate := some b }
          (v.pushTow e b).pushTow e b'

/-- A list with `x` put just before `y`. -/
def putBefore (x y : Nat) : List Nat → List Nat
  | [] => [x]
  | z :: l => if z = y then x :: z :: l else z :: putBefore x y l

/-- A commit of the window accepted before `w` that still waits unadmitted: commits are executed in order of acceptance
(R87). So does a message accepted earlier that has not all come and may be a commit. -/
def State.commitFirst (s : State) (w : CommitRef) : Bool :=
  (s.host.queue.any fun u => u.2.commits.any fun c => c.commit.any fun v => v.win == w.win && decide (v.acc < w.acc)) ||
    s.tug.qp.any fun e => e.2.msgs.any fun m =>
      m.dock && m.op == .write && m.rkey % 4096 == w.win && decide (m.acc < w.acc) && !m.delivered &&
        !e.2.stale.contains m.msn && (m.last.isNone || m.imm.any fun v => bitsOf v 24 8 == (s.tug.win.get w.win).tag)

/-- A dock commit admitted: behind the QUEUED commits of its window, as one COMMIT group of at most 8 (R87,
R103). -/
def State.admitCommit (s : State) (e q : Nat) (c : IoCmd) (w : CommitRef) : State :=
  let group := sortBy (fun b => (s.berth b).order)
    (s.berths fun b => b.state == .queued && b.cmd.commit.any fun v => v.win == w.win)
  let line := group.getLast?.bind fun b => (List.range 256).find? fun x => (s.eng x).tow.contains b
  if s.commitFirst w then s.passOver e
  else match s.admits e c with
  | none => s.holdTurn e c
  | some (b, t) =>
    let t := (t.updQueue q fun x => { x with commits := x.commits.drop 1 }).fillBerth b e c
    match t.claim c with
    | some v => v.claimBerth b St.deferredWrite
    | none =>
      match group.getLast?, line with
      | none, _ => t.pushTow e b
      | some _, none => s.passOver e
      | some l, some x =>
        if 8 ≤ group.length ∨ 64 ≤ (s.eng x).tow.length then s.passOver e
        else
          let old := (s.berth l).token
          let k := if old = 0 then s.brg.nextToken + 1 else old
          let t := t.updBrg fun g => { g with nextToken := max g.nextToken k }
          let t := (b :: group).foldl (fun t y => t.updBerth y fun z =>
            { z with token := k, tokenLen := group.length + 1 }) t
          t.updEng x fun z => { z with tow := putBefore b l z.tow }

/-- The homed queue whose turn comes: the first after the last one served (R99). -/
def State.nextQueue (s : State) (e : Nat) : Option Nat :=
  let l := s.homed e
  (l.find? fun q => decide ((s.eng e).turn ≤ q)).or l.head?

/-- One command admitted from queue `q` by its home engine `e`, or the queue passed over (R99, R100). The tow line
counts as full with the entries on their way to it (log entry 52). A first half waits for the capsule after it. -/
def State.admitFrom (s : State) (e q : Nat) : State :=
  let depth := (s.eng e).tow.length + (s.eng e).transit.length
  let u := s.host.queue.get q
  if 64 ≤ depth then s.passOver e
  else match u.commits, u.sq with
  | c :: _, _ =>
    if s.ioHeld c then s.passOver e else c.commit.elim s fun w => s.admitCommit e q c w
  | [], [] => s
  | [], c :: l =>
    if s.ioHeld c then s.passOver e
    else if c.fuse = 2 then s.admitLone e q c
    else if c.fuse = 1 then match l with
      | [] => s
      | d :: _ =>
        if d.fuse ≠ 2 then s.admitLone e q c
        else if depth < 63 then s.admitPair e q c d else s.passOver e
    else s.admitOne e q c

/-- A half of a fused pair that the capsule after it shows to stand alone at the head of its queue (R99): it completes
now where its home engine would admit it, else in its turn. -/
def State.settleLone (s : State) (q : Nat) : State :=
  let u := s.host.queue.get q
  match u.home, u.sq with
  | some e, c :: l =>
    let lone := c.fuse == 2 || (c.fuse == 1 && l.head?.any fun d => d.fuse != 2)
    if lone && s.engOpen e && !s.ioHeld c && decide ((s.eng e).tow.length + (s.eng e).transit.length < 64) &&
        (s.admits e c).isSome then s.endHead q c St.missingFused
    else s
  | _, _ => s

/-- CAPSULE_ARRIVAL (R48, R49). A queue that does not exist, or that a Disconnect has closed, takes none; one that
already holds SQSIZE + 1 entries, unadmitted or outstanding, is in error. -/
def State.capsule (s : State) (c : IoCmd) : State :=
  let q := s.host.queue.get c.qref
  if !q.live ∨ q.qid = 0 ∨ q.disconnect.isSome then s
  else if q.sqsize + 1 ≤ q.sq.length + q.cids.length then s.qpError c.qref (some .invalidRequest) 5
  else if !q.authOk then s.earlyEnd c.qref c St.sequence
  else (s.queueUp c).settleLone c.qref

def execCapsuleArrival (c : IoCmd) (s : State) : Result := .next (s.capsule c)

/-- ADMISSION_TURN (R99). A running engine's tow line that reaches 48 entries is seen by the power controller's next
step (R339). -/
def State.admitTurn (s : State) (e : Nat) : State :=
  match s.nextQueue e with
  | none => s
  | some q => (s.updEng e fun x => { x with turn := q + 1 }).admitFrom e q

/-- A running engine's tow line has reached 48 entries: the lowest-numbered parked basin begins to return, or the
trigger is held while one returns (R339). -/
def State.basinParked (s : State) (b : Nat) : Bool :=
  (List.range 16).all fun i => (s.eng (16 * b + i)).state == .parked
def State.towDeep (s : State) : Bool :=
  (List.range 256).any fun e => s.engRuns e && decide (48 ≤ (s.eng e).tow.length)
def State.returnBasin (s : State) : State :=
  match s.pwr.basinReturning with
  | some _ => s.updPwr fun p => { p with basinHeld := true }
  | none =>
    match (List.range 16).find? s.basinParked with
    | some b => s.updPwr fun p => { p with basinReturning := some b }
    | none => s
def State.basinTrigger (s : State) : State := if s.towDeep then s.returnBasin else s

def execAdmissionTurn (e : Fin 256) (s : State) : Result :=
  if s.engOpen e then .next (s.admitTurn e).basinTrigger else .next s

/-- Depth of a tow line. -/
def State.depth (s : State) (e : Nat) : Nat := (s.eng e).tow.length

/-- A victim for engine `e` in basin `b` (R104, pick). -/
def State.pickVictim (s : State) (b e : Nat) : Option Nat :=
  let ring := ((List.range 16).map fun i => 16 * b + (e + 1 + i) % 16).filter fun x => x != e
  let fenced := ring.find? fun x => (s.eng x).state == .fenced && decide (0 < s.depth x)
  let run := ring.filter fun x => s.flag (Fld.BRG_TOW_CTL_VICTIM_EN x) && s.engRuns x &&
    decide (s.fld (Fld.BRG_TOW_CTL_THRESH e) ≤ s.depth x)
  fenced.or (leastBy (fun x => 64 - s.depth x) run)

/-- How many of a victim's tail slots are taken: no group is split (R104, take). `l` is its line from the tail. -/
def State.takeCount (s : State) (n most : Nat) (l : List Nat) : Nat :=
  let tok := fun i => (l[i]?).elim 0 fun b => (s.berth b).token
  let k := tok (n - 1)
  if n = 0 ∨ k = 0 ∨ tok n ≠ k then n
  else
    let ix := (List.range l.length).filter fun i => tok i == k
    let last := ix.getLast?.elim 0 (· + 1)
    let first := ix.head?.elim 0 (· + 1)
    if last ≤ most then last else first - 1

/-- A tow begins (R104, take): the tail slots are in transit to `e`. -/
def State.takeFrom (s : State) (e v : Nat) (long : Bool) : State :=
  let most := s.fld (Fld.BRG_TOW_CTL_TAKE_MAX e)
  let l := (s.eng v).tow.reverse
  let n := if (s.eng v).state = .fenced then min most l.length else max 1 (min most (l.length / 2))
  let n := s.takeCount n most l
  if n = 0 then s
  else
    let s := s.updEng v fun x => { x with tow := (l.drop n).reverse }
    let s := s.updEng e fun x => { x with transit := l.take n, idleSince := none }
    (s.tallyEng (if long then 0x063 else 0x062) e 1).tallyEng 0x064 v n

/-- TOW_LOOK (R104): one look of an idle engine. -/
def State.towLook (s : State) (e : Nat) : State :=
  let x := s.eng e
  if !s.engOpen e ∨ !x.transit.isEmpty then s
  else if !s.engIdle e then s.updEng e fun x => { x with idleSince := none }
  else if !s.flag (Fld.BRG_TOW_CTL_TOW_EN e) ∨ 1024 ≤ s.inflight e then s
  else
    let t0 := x.idleSince.getD s.now
    let s := s.updEng e fun x => { x with idleSince := some t0 }
    match s.pickVictim (e / 16) e with
    | some v => s.takeFrom e v false
    | none =>
      if s.flag (Fld.BRG_TOW_CTL_LONG_EN e) ∧ s.fld Fld.BRG_TOW_TIME_LONG_IDLE * 100 ≤ s.now - t0 then
        match ((List.range 15).map fun i => (e / 16 + 1 + i) % 16).findSome? fun b => s.pickVictim b e with
        | some v => s.takeFrom e v true
        | none => s
      else s

def execTowLook (e : Fin 256) (s : State) : Result := .next (s.towLook e)

/-- A berth taken to run by engine `e` leaves its tow line and its group (Table 4-3, R103, R105). -/
def State.runBerth (s : State) (e b : Nat) : State :=
  (s.untow b).updBerth b fun x => { x with state := .run, owner := e }

/-- The entries of `b`'s group on a line, in group order; `b` alone without one (R103). -/
def State.groupOn (s : State) (line : List Nat) (b : Nat) : List Nat :=
  let k := (s.berth b).token
  if k = 0 then [b] else sortBy (fun x => (s.berth x).order) (line.filter fun x => (s.berth x).token == k)

/-- What a command is bound to when it is planned (R111, PLANNED): lane, key bank, serials and record numbers for what it
writes. Answers how many blocks it writes. -/
def State.bind (s : State) (c : IoCmd) : State × Bound × Nat :=
  let n := s.mrd.ns.get c.nsid
  let lane := if n.cipher = .none then 255 else s.pickLane
  let s := s.tick
  let k := s.mrd.keys.get n.keySlot
  let m := if changesData c then (planBlks n c).length else 0
  let z : State × Nat := if 0 < m ∧ n.cipher = .sealed then s.takeSerials n.keySlot m else (s, 0)
  let y : State × Nat := if 0 < m ∧ n.present then z.1.takeRn n.array m else (z.1, 0)
  (y.1, ⟨n, k.bank k.active, lane, z.2, y.2, (s.ary.get n.array).readTurn, refGroup c.qref⟩, m)

/-- The plan of a berth (R111, PLANNED): extents, drive operations, lane, key slot and bank, serials and record
numbers. -/
def State.plan (s : State) (b : Nat) : State :=
  let c := (s.berth b).cmd
  let n := s.mrd.ns.get c.nsid
  let r := s.bind c
  let ops := s.cmdOps n r.2.1.turn c
  let s := if n.present then r.1.updAry n.array fun a => { a with readTurn := a.readTurn + 1 } else r.1
  s.updBerth b fun x => { x with
    checkpoint := 3, ns := n, keySlot := n.keySlot, bank := (s.mrd.keys.get n.keySlot).active, lane := r.2.1.lane
    serial := r.2.1.ser, rn := r.2.1.rn, rnN := r.2.2, ops := ops, fetched := x.ownData, issued := false
    merged := none, placed := false, ledger := false, turn := r.2.1.turn }

/-- What a berth is bound to. -/
def State.boundOf (s : State) (e : Berth) : Bound :=
  ⟨e.ns, (s.mrd.keys.get e.keySlot).bank e.bank, e.lane, e.serial, e.rn, e.turn, refGroup e.cmd.qref⟩

/-- Nothing that a berth waits for is outstanding: drive operations, and the ledger copies, RETIRE entries and bypassing
destages of what it has written (R26, R181, R189). -/
def State.berthReady (s : State) (e : Berth) : Bool :=
  e.opsReady && (!e.placed || e.rnN == 0 || !s.rnOpen e.ns.array e.rn e.rnN)

/-- A berth in WAIT whose event has arrived is in RUN (Table 4-3). -/
def State.wake (s : State) (b : Nat) : State :=
  let e := s.berth b
  if e.state = .wait ∧ e.waits = .ops ∧ s.berthReady e then s.goOn b else s

/-- A berth's step needs something: it waits (Table 4-3). -/
def State.waitFor (s : State) (b : Nat) (w : WaitFor) : State :=
  s.updBerth b fun x => { x with state := .wait, waits := w }

/-- It waits for its drives and ledger copies, unless they have answered already. -/
def State.waitOps (s : State) (b : Nat) : State :=
  if s.berthReady (s.berth b) then s else s.waitFor b .ops

/-- The end of a command, of both halves where it is one of a fused pair (R461, R99). -/
def State.finishBerth (s : State) (b : Nat) (st : Status) : State :=
  let e := s.berth b
  match e.mate with
  | none => s.formDone b st
  | some m => (s.formDone b st).formDone m (if st = St.ok then St.ok else St.failedFused)

/-- The checks of PARSED and PLANNED (R461): of both halves together for a fused pair. -/
def State.checkStep (s : State) (b : Nat) : Option State :=
  let e := s.berth b
  match (if e.fusedFirst then e.mate else none) with
  | none => (s.ioCheck e.cmd).map fun x => s.finishBerth b x.2
  | some m =>
    match s.ioCheck e.cmd, s.ioCheck (s.berth m).cmd with
    | none, none => none
    | some x, some y =>
      if x.1 ≤ y.1 then some ((s.formDone b x.2).formDone m St.failedFused)
      else some ((s.formDone b St.failedFused).formDone m y.2)
    | some x, none => some ((s.formDone b x.2).formDone m St.failedFused)
    | none, some y => some ((s.formDone b St.failedFused).formDone m y.2)

/-- Its prompt entry, where the effect of a command was a moored change that a standby must hold first (R318). -/
def State.notePrompt (s t : State) (b : Nat) : State :=
  let n := t.pair.prompts.getLast?.elim 0 (·.seq)
  if s.pair.prompts.getLast?.elim 0 (·.seq) < n then t.updBerth b fun x => { x with prompt := n } else t

/-- The drive operations of a berth issued under checkpoint `ck`, and waited for (R111, ISSUED). -/
def State.issueStep (s : State) (b ck : Nat) : State :=
  ((s.updBerth b fun x => { x with checkpoint := ck }).issueOps b).waitOps b

/-- Its operations that have not finished and are not on a drive: a restart issues them again (R111, ISSUED). -/
def Berth.mustIssue (e : Berth) : Bool :=
  e.ops.any fun o => !o.finished && !o.onDrive && !o.replanned && (!o.write || e.placed)

/-- Stripes of which a block that the command reads came back unreadable, with the reads that reconstruct it and are not
planned yet (R159). -/
def State.reconReads (s : State) (e : Berth) : List (Nat × PlanOp) :=
  let a := s.mrd.arr.get e.ns.array
  let want := if changesData e.cmd then ((coverOf e.ns e.cmd).filter fun x => !x.2).map (·.1) else planBlks e.ns e.cmd
  (want.flatMap fun k =>
    let p := s.placeOf e.ns k
    let mine := (List.range a.mode.copies).filterMap fun c => a.drive p.1 (a.dataRole p.1 p.2.1 c)
    let blk := a.memberBlk p.1 p.2.2
    if mine.any fun b => e.ops.any (fun o => o.bay == b && o.blk == blk && !o.write) && (s.media b blk).bad then
      let from_ := if a.mode.mirror then mine
        else (a.readOrder p.1).filterMap fun x => (a.drive p.1 x).filter fun b => !(s.media b blk).bad
      ((from_.take (max a.k mine.length)).map fun b => (p.1, planOp b blk false)).filter fun o =>
        !e.ops.any fun x => x.bay == o.2.bay && x.blk == blk && !x.write
    else []).eraseDups

/-- The stripes' interlocks asked for: the berth goes on to `k` once it stands first in each line, else it is HELD
(R163). -/
def State.withStripes (s : State) (b : Nat) (l : List Nat) (k : State → State) : State :=
  let i := (s.berth b).ns.array
  let s := l.foldl (fun s st => s.lockStripe i st (.berth b)) s
  if s.stripesFree b l then k s else s.updBerth b fun x => { x with state := .held, waits := .stripes }

/-- The reads of a berth have been answered: blocks that came back unreadable are reconstructed from the other units,
under the interlocks of their stripes (R159); else the command goes on. -/
def State.afterReads (s : State) (b : Nat) (k : State → State) : State :=
  let e := s.berth b
  let l := s.reconReads e
  if l = [] ∨ (s.mrd.arr.get e.ns.array).state = .salvaged then k s
  else s.withStripes b (l.map (·.1)).eraseDups fun s =>
    ((s.updBerth b fun x => { x with ops := x.ops ++ l.map (·.2) }).issueOps b).waitOps b

/-- A read, compare or verify whose operations have been answered: its effect (R27, R227). -/
def State.readDone (s : State) (b : Nat) : State :=
  let e := s.berth b
  let u := s.host.queue.get e.cmd.qref
  let r := s.ioEffect (s.boundOf e) e.cmd (u.live && u.cntlid == e.cntlid)
  if e.fusedFirst then
    let t := r.1.updBerth b fun x => { x with checkpoint := 5, compared := true, compareOk := r.2 == St.ok }
    if r.2 = St.ok then (t.waitFor b .mate).wakeMates else t.finishBerth b r.2
  else r.1.finishBerth b r.2

/-- Stripes of which a command's plan reconstructs a block that it reads: the unit's drive is none (R159). -/
def State.reconStripes (s : State) (e : Berth) : List Nat :=
  let a := s.mrd.arr.get e.ns.array
  if a.mode.mirror then []
  else (((planBlks e.ns e.cmd).map (s.placeOf e.ns)).filter fun p =>
    (s.slotAt e.ns.array p.1 (p.2.1 * a.u + p.2.2)).isNone && (a.readCopy p.1 p.2.1 e.turn).isNone).map (·.1) |>.eraseDups

/-- The reading half of a command (R111, ISSUED): the interlocks of the stripes it reconstructs from (R159), its
operations, their reconstruction, its effect. -/
def State.readStep (s : State) (b : Nat) : State :=
  s.withStripes b (s.reconStripes (s.berth b)) fun s =>
  let e := s.berth b
  if e.mustIssue then s.issueStep b (if e.fusedFirst then e.checkpoint else 6)
  else if !s.berthReady e then s.waitOps b
  else s.afterReads b fun s => s.readDone b

/-- The blocks of a writing command given to its write path, and its member writes issued (R111, ISSUED); without room
in a ring or in the gather buffer it waits (R182, R187). -/
def State.placeStep (s : State) (b : Nat) (l : List (Nat × Unit4k)) : State :=
  let e := s.berth b
  match s.putBlks (s.boundOf e) e.cmd.commit.isSome e.cmd.nsid e.host l with
  | (t, .offline) => t.finishBerth b St.arrayOffline
  | (_, .wait) => s.waitFor b .room
  | (t, .done) =>
    let part := s.ledgers e.ns e.cmd.commit.isSome (planBlks e.ns e.cmd)
    (t.updBerth b fun x => { x with placed := true, ledger := part }).issueStep b (if e.checkpoint = 7 then 7 else 6)

/-- The new content of the blocks, merged where they are partly covered: MERGED is recorded where they are (R57,
R111). -/
def State.mergeStep (s : State) (b : Nat) : State :=
  let e := s.berth b
  match s.buildBlks e.cmd (s.boundOf e) with
  | (t, .error st) => t.finishBerth b st
  | (t, .ok l) =>
    let part := (coverOf e.ns e.cmd).any fun x => !x.2
    t.updBerth b fun x => { x with merged := some l, checkpoint := if part then 7 else x.checkpoint }

/-- A writing command once its data is there: its stripes' interlocks, its reads, the merge, the write, the wait for its
members and ledger copies (R25, R26, R58, R163). No part of a write whose protection information fails goes further. -/
def State.writeStep (s : State) (b : Nat) : State :=
  let e := s.berth b
  match hostPiFail e.ns e.cmd with
  | some st => s.finishBerth b st
  | none =>
    if e.placed then
      if e.mustIssue then s.issueStep b e.checkpoint
      else if s.berthReady e then s.finishBerth b St.ok else s.waitOps b
    else s.withStripes b (s.stripesHeld e) fun s =>
      match e.merged with
      | some l => s.placeStep b l
      | none =>
        if e.mustIssue then s.issueStep b 6
        else if !s.berthReady e then s.waitOps b
        else s.afterReads b fun s => s.mergeStep b

/-- The step after the data has been fetched or was never needed. -/
def State.workStep (s : State) (b : Nat) : State :=
  let e := s.berth b
  if changesData e.cmd then s.writeStep b
  else if readsData e.cmd.opcode then s.readStep b
  else s.notePrompt (s.readDone b) b

/-- PLANNED's interlocks (R57, R463): the berth goes on with those it keeps, or joins the lines of all the blocks it
writes, behind the earlier ones. -/
def State.interlockStep (s : State) (b : Nat) (k : State → State) : State :=
  let e := s.berth b
  if s.blksFree b then k (if e.fusedSecond then s else s.askBlks b e.locks)
  else (s.askBlks b e.writes).updBerth b fun x => { x with state := .held, waits := .blocks }

/-- FETCHED (Table 4-5): the data of a write or compare asked for from the host, unless it is there. A READ beyond those
that may be outstanding waits on its queue pair (R68). -/
def State.fetchStep (s : State) (b : Nat) : State :=
  let e := s.berth b
  if e.fetched then s.updBerth b fun x => { x with checkpoint := 4 }
  else (s.sendFetch b e.cmd.qref e.cmd.cid (e.cmd.nlb * blkBytes e.cmd e.ns)).waitFor b .data

/-- One step of a berth in RUN, by its checkpoint (Table 4-5). -/
def State.step1 (s : State) (b : Nat) : State :=
  let s := s.updBerth b fun x => { x with restarted := false }
  let e := s.berth b
  if e.failed then s.finishBerth b e.status
  else if e.fusedSecond && !((e.mate.map fun m => (s.berth m).compared).getD true) then s.waitFor b .mate
  else if e.fusedFirst && e.compared then s.waitFor b .mate
  else if s.commitBehind e then s.waitFor b .commit
  else match e.checkpoint with
  | 0 | 1 => (s.checkStep b).getD (s.updBerth b fun x => { x with checkpoint := 2 })
  | 2 => (s.checkStep b).getD (s.plan b)
  | 3 => s.interlockStep b fun s =>
      if e.cmd.opcode = 1 ∨ e.cmd.opcode = 5 then s.fetchStep b else s.workStep b
  | 4 | 6 | 7 => s.workStep b
  | _ => s

/-- The host's data for a command that waits for it; what comes while no engine has stepped a restarted berth is kept
for its owner (R111, R457). -/
def State.hostData (s : State) (b : Nat) (data : List Sector) : State :=
  let e := s.berth b
  if e.orphan then s.updBerth b fun x => { x with heldData := some (data, true) }
  else if e.state = .wait ∧ e.waits = .data then
    s.updBerth b fun x =>
      { x with state := .run, waits := .nothing, fetched := true, cmd := { x.cmd with data := data } }
  else s

/-- The bytes from 0 on that pieces at their offsets make up without a gap. -/
def piecesOf : Nat → Nat → List (Nat × List Byte) → List Byte
  | 0, _, _ => []
  | f + 1, at_, l =>
    match l.find? fun p => decide (p.1 ≤ at_ ∧ at_ < p.1 + p.2.length) with
    | some p => let d := p.2.drop (at_ - p.1)
                d ++ piecesOf f (at_ + d.length) l
    | none => []

/-- A sector as it crosses the host interface: its data, then its protection information where the transfer carries
that (R56, R58). -/
def sectorOf (w : Nat) (b : List Byte) : Sector :=
  let be := fun lo n => (beVal ((b.drop lo).take n))
  ⟨BitVec.ofNat 32768 (leVal (b.take w)), BitVec.ofNat 16 (be w 2), BitVec.ofNat 16 (be (w + 2) 2), BitVec.ofNat 32 (be (w + 4) 4)⟩

/-- HOST_DATA_ARRIVAL (R73, R79, R111, FETCHED): packets of the responses to the READ that a command's data was asked
for with, each placed at its index times the path MTU; a CE mark calls for a CNP. With the last byte the READ is
complete and the data there. -/
def execHostDataArrival (berth : Fin 262144) (pkts : List ReadPkt) (s : State) : Result :=
  let e := s.berth berth
  let q := e.cmd.qref
  if isTcp q ∨ e.state = .free ∨ e.fetched ∨ e.heldData.isSome then .next s
  else
    let s := pkts.foldl (fun s p => s.notify q p.ce p.path) s
    let l := e.pieces ++ pkts.map fun p => (p.idx * (s.qp q).mtu, p.payload)
    let w := blkBytes e.cmd e.ns
    let b := piecesOf l.length 0 l
    if b.length < e.cmd.nlb * w then .next (s.updBerth berth fun x => { x with pieces := l })
    else
      let data := (List.range e.cmd.nlb).map fun i => sectorOf (if e.ns.small then 512 else 4096) ((b.drop (i * w)).take w)
      .next ((s.updBerth berth fun x => { x with pieces := [] }).hostData berth data |>.readEnds q (.fetch berth))

/-- The engine that takes over a fenced engine's work (R113, step 3). -/
def State.rescuerOf (s : State) (e : Nat) : Option Nat :=
  ((List.range 16).map fun i => (e / 16 + i) % 16).findSome? fun b =>
    leastBy s.inflight (((List.range 16).map (16 * b + ·)).filter fun x => x != e && s.engRuns x)

/-- A berth restarted at its checkpoint by engine `r` (R111, R113). PARSED repeats its checks; FETCHED fetches again what
did not come with the command; a finished compare is not repeated; operations that have not finished are issued again,
but those whose answer is held. A fenced lane is replaced by another (R235). -/
def State.restart (s : State) (r b : Nat) : State :=
  let l := (s.berth b).lane
  let lost := decide (l < 10) && s.laneFenced l
  let s := if lost then s.tick else s
  let lane := if lost then s.pickLane else l
  s.updBerth b fun x =>
    let again := x.checkpoint == 4 && !x.ownData && x.merged.isNone
    { x with
      owner := r, orphan := false, rescuer := none, state := .run, waits := .nothing, restarted := true, lane := lane
      checkpoint := if x.checkpoint = 2 then 1 else if again then 3 else x.checkpoint
      fetched := x.fetched && !again
      cmd := if again then { x.cmd with data := [] } else x.cmd
      ops := x.ops.map fun o => if o.heldBack.isSome then o else { o with onDrive := o.onDrive && o.finished } }

/-- The entries of a rescuer's tow line that stood on a lost one: each group together, oldest first, while it has slots
(R101, R103, R457). -/
def State.adoptQueued (s : State) (b : Nat) : State :=
  let e := s.berth b
  match e.rescuer with
  | none => s
  | some r =>
    let all := s.berths fun x => x.orphan && x.state == .queued && x.rescuer == some r
    let g := if e.token = 0 then [b] else sortBy (fun x => (s.berth x).order) (all.filter fun x => (s.berth x).token == e.token)
    if !e.orphan ∨ !s.engRuns r ∨ 64 < (s.eng r).tow.length + (s.eng r).transit.length + g.length then s
    else g.foldl (fun s x =>
      (s.updBerth x fun y => { y with orphan := false, rescuer := none }).pushTow r x) s

/-- A rescuer that no longer runs, or an engine that had none, is replaced: one engine takes all that it was to take
(R113, step 3). -/
def State.chooseRescuers (s : State) : State :=
  let old := ((s.berths fun b => b.orphan && b.state != .free).filterMap fun b => (s.berth b).rescuer).eraseDups
  (old.filter fun x => !s.engRuns x).foldl (fun s x =>
    match s.rescuerOf x with
    | none => s
    | some r =>
      ((s.berths fun b => b.orphan && b.rescuer == some x).foldl (fun s b =>
        s.updBerth b fun y => { y with rescuer := some r }) s).tallyEng 0x065 r 1) s

/-- Orphaned berths, and those beyond a rescuer's limit, given to their rescuers while there is room (R113, R457). -/
def State.adopt (s : State) : State :=
  let s := s.chooseRescuers
  let l := sortBy (fun b => (s.berth b).order) (s.berths fun b => b.orphan && b.state != .free)
  l.foldl (fun s b =>
    let e := s.berth b
    if e.state = .queued then s.adoptQueued b
    else match e.rescuer with
      | none => s
      | some r => if s.engRuns r ∧ s.inflight r < 1024 then s.restart r b else s) s

/-- An engine enters RUN: unhomed queues are homed and orphaned berths given owners (R457). -/
def State.engineIn (s : State) (e : Nat) : State :=
  let s := s.updEng e fun x => { x with state := .run, parking := false, idleSince := none }
  let s := (s.setFld (Fld.BRG_STATUS_STATE e) 0).setFld (Fld.BRG_BANK_STAT_STATE e) 0
  let s := (s.host.queue.keysWhere fun _ q => q.live && q.home.isNone).foldl State.homeQueue s
  s.adopt

/-- A parked basin back in RUN (R339). -/
def State.basinIn (s : State) (b : Nat) : State :=
  (List.range 16).foldl (fun s i =>
    if (s.eng (16 * b + i)).state = .parked then s.engineIn (16 * b + i) else s) s

/-- While no engine is in RUN, the entries of every fenced engine's tow line are orphaned (R457). -/
def State.orphanLines (s : State) : State :=
  if (List.range 256).any s.engRuns then s
  else (List.range 256).foldl (fun s e =>
    if (s.eng e).state = .fenced ∧ (s.eng e).tow ≠ [] then
      let l := (s.eng e).tow
      l.foldl (fun s b => s.updBerth b fun x => { x with orphan := true, rescuer := some e })
        (s.updEng e fun x => { x with tow := [] })
    else s) s

/-- Commands of a fenced engine, and those that were waiting for it to take them, are given to one rescuer; without one
they are orphaned, the fenced engines' tow lines too (R113, R457). -/
def State.rescue (s : State) (e : Nat) : State :=
  let mine := s.berths fun b => b.flies e && b.state != .done
  let s := mine.foldl (fun s b => s.updBerth b fun x => { x with orphan := true, rescuer := some e }) s
  s.orphanLines.adopt

/-- ENGINE_TAKE (R101, R102, R113): what it is to rescue comes ahead of its own line; then the head, or the tail once it
has waited longer than AGE_US, with its group. -/
def State.engTake (s : State) (e : Nat) : State :=
  let s := s.adopt
  let l := (s.eng e).tow
  let age := s.fld Fld.BRG_TOW_TIME_AGE_US
  let old := fun b => decide (age ≠ 0 ∧ age * 1000 < s.stamp - (s.berth b).admitTime)
  match (match l.getLast? with
    | some b => if old b then some b else l.head?
    | none => none) with
  | none => s
  | some b =>
    let g := s.groupOn l b
    if 1024 < s.inflight e + g.length then s
    else (g.foldl (fun s x => s.runBerth e x) s).updEng e fun x => { x with idleSince := none }

def execEngineTake (e : Fin 256) (s : State) : Result :=
  if s.engRuns e then .next (s.engTake e) else .next s

/-- TOW_ARRIVAL (R104, R106): the oldest entry runs at once, unless the thief no longer runs or has no room; the others
land on its tow line, oldest at the tail. -/
def State.towArrive (s : State) (e : Nat) : State :=
  let l := (s.eng e).transit
  let s := s.updEng e fun x => { x with transit := [], tow := x.tow ++ l.reverse }
  match l with
  | [] => s
  | b :: _ => if s.engRuns e ∧ s.inflight e < 1024 then s.runBerth e b else s.orphanLines.adopt

def execTowArrival (e : Fin 256) (s : State) : Result := .next (s.towArrive e).basinTrigger

/-- What the bank of a fenced engine, its status and BRG_FAULT show (R112). -/
def State.setFenced (s : State) (e : Nat) (cause : Fld) : State :=
  ((s.updEng e fun x => { x with state := .fenced, parking := false }).raise cause).setFld
    (Fld.BRG_STATUS_STATE e) 2

/-- The restart causes of R396 are acted on by the file of the pairing; here the fault is set. -/
def State.allFenced (s : State) : Bool := (List.range 256).all fun e => (s.eng e).state == .fenced

/-- An engine fenced (R112, R113, R457): a parked basin returns at once when no engine is in RUN. -/
def State.fence (s : State) (e : Nat) (cause : Fld) : State :=
  let s := (s.setFenced e cause).tallyEng 0x066 e 1
  let s := s.logEvent EventKind.engine.code e
  let s := if (List.range 256).any s.engRuns then s
    else match (List.range 16).find? s.basinParked with
      | some b => s.basinIn b
      | none => s
  (s.rehome e).rescue e

end Sys2Proof.Machine
end

