-- ==== Sys2Proof/Machine/BargeRows.lean ====
section
/-! DEFINITION. The rows of completions, engine faults, basin reset, scratchpad banks and berth snapshots
(04_barge_engines.md). -/

namespace Sys2Proof.Machine

/-- COMPLETION_CELL_ACCEPT (R111): a completion cell that the tug accepts. -/
def execCompletionCellAccept (berth : Fin 262144) (s : State) : Result :=
  let e := s.berth berth
  if e.state = .done ∧ !e.posted then .next (s.postBerth berth).adopt else .next s

/-- An engine fenced, with the global fault once every engine is (R112 to R114). -/
def State.fenceEngine (s : State) (e : Nat) (cause : Fld) : State :=
  let s := s.fence e cause
  if s.allFenced then s.globalFault .engines else s

/-- An engine that a fault can fence: in RUN or parked. -/
def State.fenceable (s : State) (e : Nat) : Bool := s.engRuns e || (s.eng e).state == .parked

/-- ENGINE_FENCE (R112): cause 0 uncorrectable bank error, 1 instruction-store parity, 2 register, tow-line or
misaligned-atomic fault; 3 a corrected bank error, which is counted and does not fence. -/
def execEngineFence (e : Fin 256) (cause : Fin 4) (s : State) : Result :=
  if cause = 3 then .next (s.count (Fld.BRG_BANK_STAT_CE e) 1)
  else if s.fenceable e then
    let s := if cause = 0 then s.raise (Fld.BRG_BANK_STAT_UE e) else s
    .next (s.fenceEngine e (if cause = 0 then Fld.BRG_FAULT_BANK_UE e
      else if cause = 1 then Fld.BRG_FAULT_ISTORE_PAR e else Fld.BRG_FAULT_REG_PAR e))
  else .next s

/-- STEP_LIMIT_EXPIRY (R112): a step of the engine has run longer than BRG_STEP_LIMIT. -/
def execStepLimitExpiry (e : Fin 256) (s : State) : Result :=
  if s.engRuns e ∧ !(s.berths fun b => b.flies e && b.state == .run).isEmpty then
    .next (s.fenceEngine e (Fld.BRG_FAULT_STEP_LIMIT e))
  else .next s

/-- A basin may be reset: its tow lines are empty and it owns no berth, or no engine is left to take them
(R114). -/
def State.basinClear (s : State) (b : Nat) : Bool :=
  (List.range 16).all fun i =>
    (s.eng (16 * b + i)).tow.isEmpty && (s.eng (16 * b + i)).transit.isEmpty && s.inflight (16 * b + i) == 0

/-- The engines of a cleared basin are being reset: banks zero (R114, step 2). -/
def State.resetBasins (s : State) : State :=
  s.brg.resets.foldl (fun s r =>
    if s.basinClear r.basin then (List.range 16).foldl (fun s i =>
      let e := 16 * r.basin + i
      if (s.eng e).state = .fenced then
        (s.updEng e fun x => { x with state := .resetting, bank := [] }).setFld (Fld.BRG_STATUS_STATE e) 4
      else s) s
    else s) s

/-- BASIN_RESET's effect (R114): every engine of the basin fenced with cause MANUAL. -/
def basinResetBody (h : Hdr) (basin : Nat) (s : State) : MRes :=
  if 16 ≤ basin then .fail .outOfRange []
  else if s.brg.resets.any fun r => r.basin == basin then .fail .invalidState []
  else
    let s := (List.range 16).foldl (fun s i =>
      if (s.eng (16 * basin + i)).state = .fenced ∨ (s.eng (16 * basin + i)).state = .off then s
      else s.fence (16 * basin + i) (Fld.BRG_FAULT_MANUAL (16 * basin + i))) s
    let s := if s.allFenced then s.globalFault .engines else s
    .later ((s.updBrg fun g => { g with resets := g.resets ++ [⟨basin, h.session, h⟩] }).resetBasins) true

def execBasinReset (h : Hdr) (basin : Nat) (s : State) : Result :=
  .next (s.manifest (.basinReset basin) h 0x0A01 [(.device, basin)] (basinResetBody h basin))

/-- BRG_STATUS.STATE of an engine state (Table 4-10). -/
def EngState.code : EngState → Nat
  | .run => 0 | .parked => 1 | .fenced => 2 | .off => 3 | .resetting => 4

/-- BASIN_SELFTEST_COMPLETE (R114, steps 3 and 4): bit i of `pass` is engine i of the basin. The engines of a basin
that has been cleared since count as reset here. -/
def execBasinSelftestComplete (b : Fin 16) (pass : BitVec 16) (s : State) : Result :=
  let s := s.resetBasins
  match s.brg.resets.find? fun r => r.basin == b.val && s.basinClear b with
  | none => .next s
  | some r =>
    let s := s.updBrg fun g => { g with resets := g.resets.erase r }
    let s := (List.range 16).foldl (fun s i =>
      let e := 16 * b.val + i
      if (s.eng e).state ≠ .resetting then s
      else if pass.getLsbD i then s.engineIn e
      else (s.setFenced e (Fld.BRG_FAULT_SELFTEST e))) s
    let s := if s.allFenced then s.globalFault .engines else s
    let st := (List.range 16).map fun i => BitVec.ofNat 8 (s.eng (16 * b.val + i)).state.code
    .next (match s.findRunning (fun q => q.opcode == 0x0A01 && decide (q.hdr = r.hdr)) with
      | some q => s.finish q .success [st]
      | none => s)

/-- BRG_BANK_CTL_WRITE (R115): a bank state requested for diagnosis; refused for the bank of a running engine. A refused
request stands in REQ all the same (log entry 52). -/
def execBrgBankCtlWrite (e : Fin 256) (req : Nat) (s : State) : Result :=
  let s := s.cfgFld (Fld.BRG_BANK_CTL_REQ e) req
  let r := s.fld (Fld.BRG_BANK_CTL_REQ e)
  if r = 0 then .next s
  else if s.engRuns e then .next (s.raise (Fld.BRG_BANK_STAT_REFUSED e))
  else
    let s := if r = 2 then s.updEng e fun x => { x with bank := [] } else s
    .next (s.setFld (Fld.BRG_BANK_STAT_STATE e) r)

/-- BANK_RETURN_ON (R115, Table 4-6): a bank asked for is ON again, zero where it was OFF. -/
def execBankReturnOn (e : Fin 256) (s : State) : Result :=
  if s.fld (Fld.BRG_BANK_CTL_REQ e) = 0 ∧ (s.eng e).state ≠ .parked ∧ (s.eng e).state ≠ .off then
    .next (s.setFld (Fld.BRG_BANK_STAT_STATE e) 0)
  else .next s

/-- BRG_BERTH_IDX_WRITE (R110): the snapshot of a berth is asked for. -/
def execBrgBerthIdxWrite (berth : Nat) (s : State) : Result :=
  let s := (s.setFld Fld.BRG_BERTH_IDX_BERTH berth).raise Fld.BRG_BERTH_IDX_BUSY
  .next (s.updBrg fun g => { g with snap := some (berth % 2 ^ 18) })

/-- STATE of a berth (Table 4-4). -/
def BerthState.code : BerthState → Nat
  | .free => 0 | .queued => 1 | .run => 2 | .wait => 3 | .held => 4 | .done => 5

/-- Bytes 127 to 0 of a berth (Table 4-4). PLAN, the reservoir address of the plan, is a free value. A FREE berth shows
zeroes (log entry 52). -/
def State.berthBytes (s : State) (b : Nat) : List Byte :=
  let e := s.berth b
  let f := e.admin.toNat + 2 * e.fusedFirst.toNat + 4 * e.fusedSecond.toNat + 8 * e.cmd.commit.isSome.toNat +
    16 * e.claim.toNat + 32 * e.posted.toNat + 64 * e.compared.toNat + 128 * e.compareOk.toNat
  if e.state = .free then List.replicate 128 0
  else
    leBytes 1 e.state.code ++ leBytes 1 f ++ leBytes 1 e.owner ++ leBytes 1 e.home ++ leBytes 2 e.cmd.cid ++
    leBytes 2 e.cntlid ++ leBytes 2 e.qid ++ leBytes 2 e.host ++
    leBytes 4 e.cmd.nsid ++ leBytes 8 e.cmd.slba ++ leBytes 4 e.cmd.nlb ++ leBytes 1 e.cmd.opcode ++
    leBytes 1 e.checkpoint ++ leBytes 1 e.tokenLen ++ leBytes 1 0 ++ leBytes 4 e.token ++ leBytes 4 e.cmd.qref ++
    leBytes 8 e.serial ++ leBytes 2 e.keySlot ++ leBytes 1 e.lane ++ leBytes 1 0 ++ leBytes 8 s.freeVal ++
    leBytes 4 e.ops.length ++ leBytes 4 (e.ops.countP (·.finished)) ++ leBytes 8 e.admitTime ++
    List.replicate 52 0

/-- BERTH_SNAPSHOT_COMPLETE (R110): the snapshot stands in BRG_BERTH_DATA. WORK, bytes 255 to 128, is for diagnosis
only and free. -/
def execBerthSnapshotComplete (s : State) : Result :=
  match s.brg.snap with
  | none => .next s
  | some b =>
    let l := s.berthBytes b
    let s := s.tick
    let s := (List.range 32).foldl (fun s n =>
      s.setReg (Fld.BRG_BERTH_DATA_WORD n).addr (BitVec.ofNat 32 (leVal ((l.drop (4 * n)).take 4)))) s
    let s := (List.range 32).foldl (fun s n =>
      (s.setReg (Fld.BRG_BERTH_DATA_WORD (32 + n)).addr (BitVec.ofNat 32 s.freeVal)).tick) s
    .next ((s.setFld Fld.BRG_BERTH_IDX_BUSY 0).updBrg fun g => { g with snap := none })

/-- BASIN_RETURN_COMPLETE (R339): the returning basin is in RUN; another begins to return where a trigger was held
and a tow line still holds 48 entries. -/
def execBasinReturnComplete (b : Fin 16) (s : State) : Result :=
  if s.pwr.basinReturning = some b.val then
    let held := s.pwr.basinHeld
    let s := (s.updPwr fun p => { p with basinReturning := none, basinHeld := false }).basinIn b
    .next (if held then s.basinTrigger else s)
  else .next s

end Sys2Proof.Machine
end

