-- ==== Sys2Proof/Machine/Host.lean ====
section
/-! DEFINITION. What hosts see (02_host_face.md): Connect and the other fabrics commands (R36 to R40, R458), the admin
queue and its task slot (R43 to R46), admin commands and their data (R41, R42, R54, R60 to R62), and the events of
discovery and temperature. -/

namespace Sys2Proof.Machine

/-- The bytes of the well-known discovery NQN as a number (R39). -/
def discoveryNqn : Nat :=
  "nqn.2014-08.org.nvmexpress.discovery".toList.foldl (fun a c => a * 256 + c.toNat) 0

/-- The address entry admits the source: its prefix, and its VLAN ID where it names one (R38, log entry 36). -/
def Prefix.admits (p : Prefix) (a : Addr) : Bool :=
  let w := if p.v6 then 128 else 32
  p.v6 == a.v6 && p.addr / 2 ^ (w - p.len) == a.addr / 2 ^ (w - p.len) && (p.vlan.isNone || p.vlan == a.vlan)

/-- Some host's address entry admits the source (R38). -/
def State.listed (s : State) (a : Addr) : Bool :=
  s.mrd.hosts.any fun e => e.2.present && e.2.p.addrs.any fun p => Prefix.admits p a

/-- The host of an NQN; the subsystem of one. -/
def State.hostOf (s : State) (nqn : Nat) : Option Nat :=
  (s.mrd.hosts.find? fun e => e.2.present && e.2.p.nqn == nqn).map Prod.fst
def State.subsysOf (s : State) (nqn : Nat) : Option Nat :=
  (s.mrd.subsys.find? fun e => e.2.present && e.2.nqn == nqn).map Prod.fst

/-- A host table index that stands for a host outside the table (R39, OPEN). -/
def strangerHost : Nat := 4096

/-- Port and source of a queue's transport. -/
def State.srcOf (s : State) (q : Nat) : Nat × Addr :=
  if isTcp q then ((s.conn (connOf q)).port, (s.conn (connOf q)).src) else ((s.qp q).port, (s.qp q).src)

/-- A stranger's queue pair destroyed or connection closed, without status, and counted (R38). -/
def State.strangerDrop (s : State) (q : Nat) : State :=
  let s := s.tally 0x028 (s.srcOf q).1 1
  if isTcp q then (s.emit (.tcp (connOf q) .fin)).updTug fun t => { t with conn := t.conn.set (connOf q) default }
  else s.updTug fun t => { t with qp := t.qp.set q default }

/-- The KATO in force: whole 100 ms, at most 300 s (Table 2-2). -/
def katoOf (ms : Nat) : Nat := min 300000 (ceilDiv ms 100 * 100)

/-- A Connect answered without a queue: the transport is all there is. -/
def State.connectEnd (s : State) (q cid : Nat) (st : Status) : State := (s.emit (.response q cid 0 st)).sendResp q none

/-- A probation context that has received Connect takes a free entry of the QP table, whose choice is the device's
(R66, Table 3-1, log entry 1). TCP connections and queue pairs in RTS are their own. -/
def State.connectOn (s : State) (q : Nat) : Option (State × Nat) :=
  if isTcp q ∨ q < 65536 then some (s, q)
  else (firstFrom 65536 s.freeVal fun i => (s.qp i).state == .free).map fun i =>
    let p := s.qp q
    (s.tick.updTug fun t => { t with qp := (t.qp.set i { p with state := .rts, enabled := true }).set q default }, i)

/-- Associations of a host. -/
def State.assocs (s : State) (p : Assoc → Bool) : List Nat := s.host.assoc.keysWhere fun _ a => a.live && p a

/-- A live queue created and homed (R36, R97); authentication that the host's policy requires has 2 s (R40). -/
def State.addQueue (s : State) (q c qid sqsize : Nat) (required : Bool) : State :=
  let e : Queue := { (default : Queue) with
    live := true, cntlid := c, qid := qid, sqsize := sqsize
    authBy := if required then some (s.now + 2000000000) else none, authOk := !required }
  let s := s.updHost fun h => { h with queue := h.queue.set q e }
  let s := if isTcp q then s
    else s.updQp q fun x => { x with cntlid := c, qid := qid, host := (s.host.assoc.get c).host }
  s.homeQueue q

/-- Asynchronous Event Configuration with which an association starts, and to which a controller reset returns it: every
critical warning of the health page enabled, no notice. The spec gives none (log entry 33). -/
def aecStart : Nat := 0xFF

/-- An admin Connect (R36, R37): CNTLID FFFFh, a free one of 1 to 8,192 chosen by the device. -/
def State.connectAdmin (s : State) (q cid : Nat) (host : Option Nat) (sub : Option Nat) (hostId cntlid sqsize kato
    cattr : Nat) : State :=
  let h := host.getD strangerHost
  let p := (s.mrd.hosts.get h).p
  let required := host.isSome && p.policy == .required
  if cntlid ≠ 0xFFFF ∨ cattr.testBit 2 ∨ sqsize = 0 ∨ 31 < sqsize then s.connectEnd q cid St.connectInvalid
  else if 8192 ≤ (s.assocs fun _ => true).length ∨
      (host.isSome ∧ p.maxAssoc ≤ (s.assocs fun a => a.host == h).length) ∨ (s.homeEngine 0).isNone then
    s.connectEnd q cid St.connectBusy
  else match firstFrom 8192 s.freeVal fun i => decide (s.host.assoc.get (i + 1) = default) with
    | none => s.connectEnd q cid St.connectBusy
    | some i =>
      let c := i + 1
      let a : Assoc := { (default : Assoc) with
        live := true, host := h, subsys := sub.getD 0, discovery := sub.isNone, adminQ := q, katoMs := katoOf kato
        kaSince := s.now, wish := if host.isSome then p.defPs else 0, tempOver := 0xFFFF, aec := aecStart, hostId := hostId }
      let s := s.tick.updHost fun x => { x with assoc := x.assoc.set c a }
      let s := s.addQueue q c 0 sqsize required
      s.respond q cid ⟨0, 0, false, c + (if required then 0x20000 else 0)⟩

/-- An I/O queue's Connect (R36, R37): an association of the same host and subsystem, a QID it has been granted. -/
def State.connectIo (s : State) (q cid : Nat) (host : Option Nat) (sub : Option Nat) (hostId c qid sqsize
    cattr : Nat) : State :=
  let a := s.host.assoc.get c
  let h := host.getD strangerHost
  let required := host.isSome && (s.mrd.hosts.get h).p.policy == .required
  if !a.live ∨ a.discovery ∨ a.host ≠ h ∨ sub ≠ some a.subsys ∨ a.hostId ≠ hostId ∨ cattr.testBit 2 ∨ sqsize = 0 ∨
      255 < sqsize ∨ qid = 0 ∨ a.granted.getD 64 < qid ∨ (s.queuesOf c).any (fun x => (s.host.queue.get x).qid == qid) then
    s.connectEnd q cid St.connectInvalid
  else if (s.homeEngine c).isNone then s.connectEnd q cid St.connectBusy
  else
    let s := s.addQueue q c qid sqsize required
    s.respond q cid ⟨0, 0, false, c + (if required then 0x20000 else 0)⟩

/-- The transport that a Connect comes on can take one: a probation context, or an RTS queue pair or a ready TCP
connection without a queue (Table 3-1). -/
def State.connectable (s : State) (q : Nat) : Bool :=
  !(s.host.queue.get q).live && !s.isStandby && s.pair.tko.isNone &&
    (if isTcp q then (s.conn (connOf q)).isOpen && (s.conn (connOf q)).ready
     else if q < 65536 then (s.qp q).state == .rts else (s.qp q).state == .probation)

/-- CONNECT (R36 to R40, Table 3-1): strangers get no status; an empty pool is Controller Busy and DREQ. -/
def execConnect (qref : Nat) (cid : Nat) (hostNqn subNqn : Nat) (hostId : Nat) (cntlid qid sqsize katoMs cattr : Nat)
    (s : State) : Result :=
  let host := s.hostOf hostNqn
  let disc := subNqn == discoveryNqn
  let sub := if disc then none else s.subsysOf subNqn
  let listed := s.listed (s.srcOf qref).2
  let policy := s.mrd.disc.get (s.srcOf qref).1
  let may := if disc then policy == 0 || (policy == 1 && listed && host.isSome)
    else listed && sub.isSome && host.any fun h => sub.any fun u => (s.mrd.hosts.get h).p.reach.contains u
  if !s.connectable qref then .next s
  else if !may then .next (s.strangerDrop qref)
  else match s.connectOn qref with
    | none => .next (((s.connectEnd qref cid St.connectBusy).emit (.cm .dreq qref [])).updQp qref fun q =>
        { q with state := .draining, dreqs := 1, drep := false, flushed := true })
    | some (t, q) =>
      if qid = 0 then .next (t.connectAdmin q cid host sub hostId cntlid sqsize katoMs cattr)
      else .next (t.connectIo q cid host sub hostId cntlid qid sqsize cattr)

/-- The association of an admin queue, where `q` is a live one. -/
def State.adminOf (s : State) (q : Nat) : Option Nat :=
  let e := s.host.queue.get q
  if e.live && e.qid == 0 then some e.cntlid else none


/-- The associations features at their values at creation (NVMe controller reset). -/
def Assoc.resetFeatures (a : Assoc) : Assoc :=
  { a with tempOver := 0xFFFF, tempUnder := 0, tempHigh := false, tempLow := false, aec := aecStart, granted := none
           resvMask := 0, aers := [], unread := [], ready := false, shutdown := false }

/-- What every capsule of an admin queue meets on its arrival (R44, R47, R49): the queue's room, then its identifier; then
the head advances past it. -/
def State.adminIn (s : State) (q cid : Nat) (k : State → State) : State :=
  let e := s.host.queue.get q
  if e.sqsize + 1 ≤ e.cids.length then s.qpError q (some .invalidRequest) 5
  else if e.cids.contains cid then
    ((s.advanceHead q).emit (.response q cid ((e.sqhd + 1) % (e.sqsize + 1)) St.cidConflict)).sendResp q none
  else k (s.advanceHead q)

/-- CAP: MQES 255, CQR, the time to ready free, NVM command set, MPSMIN 0 (Table 2-1); VS is free (log entry 1). -/
def State.capWord (s : State) : Nat := 255 + 2 ^ 16 + s.freeVal % 256 * 2 ^ 24 + 2 ^ 37

/-- A property read of association `c` (R44): its value, none for one outside CAP, VS, CC and CSTS. -/
def State.property (s : State) (c ofst : Nat) : Option Nat :=
  let a := s.host.assoc.get c
  if ofst = 0 then some s.capWord
  else if ofst = 8 then some (s.freeVal % 2 ^ 32)
  else if ofst = 0x14 then some a.cc
  else if ofst = 0x1C then some (a.ready.toNat + if a.shutdown then 8 else 0)
  else none

/-- PROPERTY_GET (R44): CAP, VS, CC and CSTS. -/
def execPropertyGet (qref cid ofst : Nat) (s : State) : Result :=
  match s.adminOf qref with
  | none => .next s
  | some c => .next (s.adminIn qref cid fun s =>
      match s.property c ofst with
      | some v => (s.tick.emit (.adminInfo qref cid 0x7F04 [v])).respond qref cid St.ok
      | none => s.respond qref cid St.invalidField)

/-- CC written (R44): clearing EN resets the controller, whose I/O queues end and whose features return. -/
def State.setCc (s : State) (qref c value : Nat) : State :=
  let a := s.host.assoc.get c
  let en := value.testBit 0
  let s := if a.ready ∧ !en then
      ((s.queuesOf c).filter fun q => q != qref).foldl (fun s q => (s.dropQueue q).endTransport q)
        (s.updAssoc c Assoc.resetFeatures)
    else s
  s.updAssoc c fun a => { a with cc := value % 2 ^ 32, ready := en, shutdown := decide (bitsOf value 14 2 ≠ 0) }

/-- PROPERTY_SET (R44): CC. -/
def execPropertySet (qref cid ofst value : Nat) (s : State) : Result :=
  match s.adminOf qref with
  | none => .next s
  | some c => .next (s.adminIn qref cid fun s =>
      if ofst ≠ 0x14 then s.respond qref cid St.invalidField else (s.setCc qref c value).respond qref cid St.ok)

/-- DISCONNECT (R458): an I/O queue's admitted commands end first; on the admin queue the association goes. -/
def execDisconnect (qref cid : Nat) (s : State) : Result :=
  let e := s.host.queue.get qref
  if !e.live then .next s
  else if e.qid = 0 then .next ((s.respond qref cid St.ok).tearDown e.cntlid)
  else
    let s := s.updQueue qref fun q => { q with sq := [], aborted := [], disconnect := some cid }
    .next (s.settleQueue qref)

/-- Authentication fails: the queue's association is torn down without further status (R40). -/
def State.authFail (s : State) (q : Nat) : State := s.qpError q none 6

/-- Authentication has completed on a queue (R40). -/
def State.authDone (s : State) (q : Nat) : State :=
  s.updQueue q fun e => { e with authOk := true, authBy := none, auth := default }

/-- DH groups of R40, by their number: 0 null, 1 to 5 ffdhe2048 to ffdhe8192. -/
def dhGroups : List Nat := [0, 1, 2, 3, 4, 5]

/-- A host's message (R40): a negotiation fixes the hash of the host's secrets and the first group of its list that the
device supports; a response that is not what the host's secret gives fails; where the host challenges the device too, the
transaction ends with the host's own verdict. A message out of turn fails. -/
def State.authSend (s : State) (q : Nat) (m : AuthMsg) : State × Bool :=
  let e := s.host.queue.get q
  let h := s.mrd.hosts.get (s.queueHost q)
  match m, e.auth.step with
  | .negotiate hashes groups, .idle =>
    match hashes.contains h.hash, groups.find? dhGroups.contains with
    | true, some g => (s.tick.updQueue q fun x => { x with auth := ⟨.challenged, h.hash, g, s.freeVal, none⟩ }, true)
    | _, _ => (s, false)
  | .reply r ch, .challenged =>
    if r ≠ Config.chapResponse h.hostSecret e.auth.hash e.auth.group e.auth.challenge then (s, false)
    else match ch with
      | none => (s.updQueue q fun x => { x with auth := { x.auth with step := .success } }, true)
      | some _ => (s.updQueue q fun x => { x with auth := { x.auth with step := .success, hostChallenge := ch } }, true)
  | .success2, .waitHost => (s.authDone q, true)
  | _, _ => (s, false)

/-- AUTHENTICATION_SEND (R40). A host whose policy is NONE, and a queue that has authenticated, has nothing to send (log
entry 37). -/
def execAuthenticationSend (qref cid : Nat) (m : AuthMsg) (s : State) : Result :=
  let e := s.host.queue.get qref
  if !e.live then .next s
  else if (s.mrd.hosts.get (s.queueHost qref)).p.policy = .none then .next (s.respond qref cid St.sequence)
  else match s.authSend qref m with
    | (t, true) => .next (t.respond qref cid St.ok)
    | (t, false) => .next (t.authFail qref)

/-- The message that a host reads (R40): the challenge with its hash and group, or the success with the device's
response to the host's challenge where it gave one. One-way authentication is complete with the success; both ways, with
the host's success after it. -/
def State.authReceive (s : State) (q : Nat) : State × Option (List Nat) :=
  let e := s.host.queue.get q
  let h := s.mrd.hosts.get (s.queueHost q)
  match e.auth.step, e.auth.hostChallenge with
  | .challenged, _ => (s, some [1, e.auth.hash, e.auth.group, e.auth.challenge])
  | .success, none => (s.authDone q, some [3])
  | .success, some c =>
    (s.updQueue q fun x => { x with auth := { x.auth with step := .waitHost } },
      some [3, Config.chapResponse h.ctrlSecret e.auth.hash e.auth.group c])
  | _, _ => (s, none)

/-- AUTHENTICATION_RECEIVE (R40). With nothing to read it is out of turn (log entry 37). -/
def execAuthenticationReceive (qref cid : Nat) (s : State) : Result :=
  if !(s.host.queue.get qref).live then .next s
  else match s.authReceive qref with
    | (t, some l) => .next ((t.emit (.adminInfo qref cid 0x7F06 l)).respond qref cid St.ok)
    | (t, none) => .next (t.respond qref cid St.sequence)

/-- AUTHENTICATION_TIMEOUT (R40): 2 s after the Connect response. -/
def execAuthenticationTimeout (qref : Nat) (s : State) : Result :=
  let e := s.host.queue.get qref
  if e.live ∧ e.authBy.isSome ∧ !e.authOk then .next (s.authFail qref) else .next s

/-- The lockkeeper serves admin commands and manifests (R392, R332). -/
def State.lkServes (s : State) : Bool :=
  s.rst.phase == .serving && !s.pair.lkDown && decide (s.fld Fld.TWP_PWR_STATE_CUR ≤ 2)

/-- An association sees a namespace: it lies in its subsystem and is attached to its host (R35). -/
def State.sees (s : State) (a : Assoc) (nsid : Nat) : Bool :=
  let n := s.mrd.ns.get nsid
  n.present && n.subsys == a.subsys && n.hosts.contains a.host

/-- Relative performance of an LBA format: 00b on 4,096-byte data, 10b on 512-byte data (Table 2-7). -/
def lbafRp (f : Nat) : Nat := if f = 1 ∨ f = 3 then 2 else 0

/-- The power state descriptors of Table 2-8: MP in hundredths of a watt, NOPS, ENLAT and EXLAT in µs. -/
def powerStates : List (List Nat) := [[48000, 0, 0, 0], [33000, 0, 2, 2], [6000, 0, 100, 40], [600, 1, 5000, 25000]]

/-- Identify's data, by CNS (R41, R42, R56 to R58, R60): none for a CNS outside Table 2-2. In Identify Namespace, DPC
bit 3 (protection information in the first eight bytes of metadata) is set wherever a type is permitted (log entry 33). In
Identify Controller, AWUN and AWUPF are 7 (R57), and the descriptors of Table 2-8 follow. -/
def State.identifyData (s : State) (a : Assoc) (c : AdminCmd) (cntlid : Nat) : Option (List Nat) :=
  let n := s.mrd.ns.get c.nsid
  match bitsOf c.cdw10 0 8 with
  | 0x00 =>
    if s.sees a c.nsid then
      let md := if 2 ≤ n.lbaf then 8 else 0
      some ([n.size, n.size, n.size, 7, n.lbafs.length, n.lbaf + (if md = 0 then 0 else 16),
        n.piTypes.foldl (fun v t => v ||| (if t = 1 then 1 else if t = 3 then 4 else 0)) 0 + (if n.piTypes = [] then 0 else 8),
        n.pi, 1, n.writeProtect.toNat] ++ n.lbafs ++ n.lbafs.map lbafRp)
    else some []
  | 0x01 => some ([cntlid, 9, 0, 15, 63, 3, 1, 1, 0, 0xAD, 256, 16384, 0, 516, 1, 0, 7, 7] ++ powerStates.flatten)
  | 0x02 => some (((s.mrd.ns.keysWhere fun _ _ => true).filter fun i => decide (c.nsid < i) && s.sees a i).take 1024)
  | 0x03 => if s.sees a c.nsid then some [s.freeVal] else some []
  | 0x06 => some [0, 0, 256]
  | _ => none

/-- Bytes of a deferred entry as log page C0h shows it to a host (Table 2-5). -/
def Deferred.bytes (e : Deferred) (h : Nat) : List Byte :=
  leBytes 4 e.nsid ++ leBytes 4 e.nlb ++ leBytes 8 e.slba ++ leBytes 8 e.time ++ leBytes 1 e.array ++
    leBytes 1 e.cause ++ leBytes 1 (if e.claimed.contains h then 1 else 0) ++ leBytes 5 0

/-- Log page C0h of a host (R54, Table 2-5). -/
def State.pageC0 (s : State) (h : Nat) : List Byte :=
  let l := s.host.deferred.filter fun e => e.hosts.contains h
  let g := s.host.log.get h
  leBytes 8 g.generation ++ leBytes 4 l.length ++ leBytes 4 g.lost ++ leBytes 16 0 ++ l.flatMap fun e => Deferred.bytes e h

/-- Worst-case drive exit latency under an array's idle timers, in µs: that of PS2 where T2 is on, else that of PS1 where
T1 is (R62, R286). -/
def State.driveExlat (s : State) (i : Nat) : Nat :=
  let ps := if s.fld (Fld.DRV_IDLE_CFG_T2 i) ≠ 0 then some (s.fld (Fld.DRV_IDLE_CFG_PS2 i))
    else if s.fld (Fld.DRV_IDLE_CFG_T1 i) ≠ 0 then some (s.fld (Fld.DRV_IDLE_CFG_PS1 i)) else none
  let lat := fun b => ((s.drives.get b).id.idleStates.filter fun p => ps == some p.1).map Prod.snd
  (((s.mrd.arr.get i).roles.filterMap (·.bay)).flatMap lat).foldl max 0

/-- EEE wake time of a port in ns, 0 where EEE is off: its timer, or the auto-negotiation that offers it (R62, R264). -/
def State.eeeWake (s : State) (p : Nat) : Nat :=
  if s.fld (Fld.NET_EEE_CFG_IDLE_US (p / 4)) = 0 ∨ !s.flag (Fld.NET_QUAD_CFG_AN_EN (p / 4)) then 0 else 3600 + 100 * s.fld (Fld.NET_EEE_CFG_TW_EXTRA (p / 4))

/-- Log page C1h of a host (R62, Table 2-9): its namespaces, and the ports that carry one of its queues. -/
def State.pageC1 (s : State) (h : Nat) : List Byte :=
  let ns := s.mrd.ns.keysWhere fun _ n => n.present && n.hosts.contains h
  let mine := s.assocs fun a => a.host == h
  let ports := (sortBy id ((s.host.queue.keysWhere fun _ q => q.live && mine.contains q.cntlid).map fun q =>
    (s.srcOf q).1)).eraseDups
  leBytes 4 ns.length ++ leBytes 4 ports.length ++ leBytes 8 0 ++
    (ns.flatMap fun i => leBytes 4 i ++ leBytes 4 (s.driveExlat (s.mrd.ns.get i).array)) ++
    ports.flatMap fun p => leBytes 2 p ++ leBytes 2 0 ++ leBytes 4 (s.eeeWake p)

/-- The device's address entry and a host's address entry have an address and a VLAN in common, so that the port admits
the host (R39, log entry 53). -/
def addrReaches (x : AddrParams) (p : Prefix) : Bool :=
  let w := if p.v6 then 128 else 32
  let l := min x.len p.len
  x.v6 == p.v6 && x.addr / 2 ^ (w - l) == p.addr / 2 ^ (w - l) && (p.vlan.isNone || p.vlan == x.vlan)

/-- Entries of the discovery log page: subsystems that the host may reach, on ports whose address entries admit it
(R39). -/
def State.discoveryLog (s : State) (a : Assoc) : List Nat :=
  let p := (s.mrd.hosts.get a.host).p
  let ports := (((s.mrd.addr.filterMap fun e => e.2).filter fun x => p.addrs.any (addrReaches x)).flatMap fun x =>
    x.ports).eraseDups
  (p.reach.filter fun u => (s.mrd.subsys.get u).present).flatMap fun u => ports.flatMap fun x => [u, x]

/-- The pages of Table 2-2 that carry numbers: errors, health, firmware, changed namespaces, commands, discovery,
reservation notices. 02h gives Tj in kelvin, free before the first report. What the manual does not state in them is free
(log entry 1). -/
def State.logInfo (s : State) (a : Assoc) (lid : Nat) : Option (List Nat) :=
  match lid with
  | 0x01 => some [64, s.freeVal]
  | 0x02 => some [s.pwr.tj.getD (s.freeVal % 65536)]
  | 0x03 => some [s.fw.running, s.fw.version]
  | 0x04 => some a.changed
  | 0x05 => some [0x02, 0x06, 0x08, 0x09, 0x0A, 0x0C, 0x18, 0x80, 0x100, 0x101, 0x102, 0x105, 0x108, 0x109, 0x10C,
      0x10D, 0x10E, 0x111, 0x115]
  | 0x70 => if a.discovery then some (s.discoveryLog a) else none
  | 0x80 => some [s.freeVal]
  | _ => none

/-- Log page C0h read with LSP bit 0 (R54): what lay wholly in the range leaves the host's log, and LOST clears. -/
def State.clearC0 (s : State) (h lo n : Nat) : State :=
  let mine := s.host.deferred.filter fun e => e.hosts.contains h
  let gone := (mine.zipIdx.filter fun e => decide (lo ≤ 32 + 32 * e.2 ∧ 64 + 32 * e.2 ≤ lo + n)).length
  let skip := (mine.zipIdx.filter fun e => decide (32 + 32 * e.2 < lo)).length
  let del := (mine.drop skip).take gone
  let s := s.updLog h fun g => { g with lost := 0, held := g.held - del.length }
  (s.updHost fun x => { x with deferred := (x.deferred.map fun e =>
    if del.contains e then { e with hosts := e.hosts.erase h } else e).filter fun e => e.hosts != [] }).keepDefer

/-- Get Log Page (R41, R54, R62). -/
def State.doLogPage (s : State) (k : Nat) (c : AdminCmd) : State × Status :=
  let a := s.host.assoc.get k
  let lid := bitsOf c.cdw10 0 8
  let n := (bitsOf c.cdw10 16 16 + 65536 * bitsOf c.cdw11 0 16 + 1) * 4
  let lo := c.cdw12
  let read := fun (s : State) => if c.cdw10.testBit 15 then s else
    s.updAssoc k fun a => { a with unread := a.unread.erase lid, changed := if lid = 4 then [] else a.changed }
  if a.discovery ∧ lid ≠ 0x70 then (s, St.invalidField)
  else if lid = 0xC0 then
    let t := read ((s.emit (.adminData c.qref c.cid (((s.pageC0 a.host).drop lo).take n))).sendBytes c.qref n)
    (if c.cdw10.testBit 8 then t.clearC0 a.host lo n else t, St.ok)
  else if lid = 0xC1 then (read ((s.emit (.adminData c.qref c.cid
      (((s.pageC1 a.host).drop lo).take n))).sendBytes c.qref n), St.ok)
  else match s.logInfo a lid with
    | some l => (read ((s.tick.emit (.adminInfo c.qref c.cid (0x200 + lid) l)).sendBytes c.qref n), St.ok)
    | none => (s, St.invalidField)

/-- Set Features (R41, R60, R61): the value in dword 0 where the feature gives one. -/
def State.doSetFeature (s : State) (k : Nat) (c : AdminCmd) : State × Status :=
  let a := s.host.assoc.get k
  let v := c.cdw11
  let put := fun (f : Assoc → Assoc) => (s.updAssoc k f, St.ok)
  match bitsOf c.cdw10 0 8 with
  | 0x02 => if 3 < bitsOf v 0 5 then (s, St.invalidField) else put fun a => { a with wish := bitsOf v 0 5 }
  | 0x04 =>
    if bitsOf v 16 4 ≠ 0 ∧ bitsOf v 16 4 ≠ 15 then (s, St.invalidField)
    else if bitsOf v 20 2 = 0 then put fun a => { a with tempOver := bitsOf v 0 16 }
    else if bitsOf v 20 2 = 1 then put fun a => { a with tempUnder := bitsOf v 0 16 }
    else (s, St.invalidField)
  | 0x05 => if v = 0 then (s, St.ok) else (s, St.invalidField)
  | 0x07 =>
    let nsq := min (bitsOf v 0 16 + 1) 64
    let ncq := min (bitsOf v 16 16 + 1) 64
    if bitsOf v 0 16 = 65535 ∨ bitsOf v 16 16 = 65535 then (s, St.invalidField)
    else if 1 < (s.queuesOf k).length then (s, St.sequence)
    else (s.updAssoc k fun a => { a with granted := some (min nsq ncq) }, ⟨0, 0, false, (ncq - 1) * 65536 + (nsq - 1)⟩)
  | 0x0B => put fun a => { a with aec := v }
  | 0x0F => put fun a => { a with katoMs := katoOf v, kaSince := s.now }
  | 0x81 => (s, St.sequence)
  | 0x82 => put fun a => { a with resvMask := v }
  | 0x83 =>
    if s.sees a c.nsid then
      let n := s.mrd.ns.get c.nsid
      (s.moorAs (.ns c.nsid { n with resv := { n.resv with ptpl := v.testBit 0 } }) true, St.ok)
    else (s, St.invalidNs)
  | _ => (s, St.invalidField)

/-- Get Features (R41, R61): the value in force, its default, or what can be changed. -/
def State.doGetFeature (s : State) (k : Nat) (c : AdminCmd) : State × Status :=
  let a := s.host.assoc.get k
  let sel := bitsOf c.cdw10 8 3
  let give := fun (cur dflt : Nat) =>
    (s, (⟨0, 0, false, if sel = 0 then cur else if sel = 3 then 4 else dflt⟩ : Status))
  match bitsOf c.cdw10 0 8 with
  | 0x02 => give a.wish (s.mrd.hosts.get a.host).p.defPs
  | 0x04 => if bitsOf c.cdw11 20 2 = 1 then give a.tempUnder 0 else give a.tempOver 0xFFFF
  | 0x05 => give 0 0
  | 0x07 => give ((a.granted.getD 64 - 1) * 65537) (63 * 65537)
  | 0x0B => give a.aec aecStart
  | 0x0F => give a.katoMs 0
  | 0x81 => ((s.emit (.adminInfo c.qref c.cid 0x1081 [a.hostId])).sendBytes c.qref 16, St.ok)
  | 0x82 => give a.resvMask 0
  | 0x83 => if s.sees a c.nsid then give (s.mrd.ns.get c.nsid).resv.ptpl.toNat 0 else (s, St.invalidNs)
  | _ => (s, St.invalidField)

/-- Format NVM's checks (R41, R56, R461): one of the formats and PI types offered, SES 0 or 1; a reservation of another
host, write protection and an OFFLINE array refuse it. -/
def State.formatCheck (s : State) (a : Assoc) (c : AdminCmd) : Option Status :=
  let n := s.mrd.ns.get c.nsid
  let lbaf := bitsOf c.cdw10 0 4
  let pi := bitsOf c.cdw10 5 3
  if 1 < bitsOf c.cdw10 9 3 then some St.invalidField
  else if !s.sees a c.nsid then some St.invalidNs
  else if !n.lbafs.contains lbaf ∨ (pi ≠ 0 ∧ (lbaf < 2 ∨ !n.piTypes.contains pi)) ∨
      (lbaf = 3 ∧ n.cipher = .sealed ∧ pi = 3) ∨ (2 ≤ lbaf ∧ !c.cdw10.testBit 4) then some St.invalidField
  else if (s.mrd.arr.get n.array).state = .offline then some St.arrayOffline
  else if n.cipher ≠ .none ∧ (s.mrd.keys.get n.keySlot).mode = 0 then some (St.nsNotReady true)
  else if n.cipher ≠ .none ∧ s.lanesUp = [] then some (St.nsNotReady false)
  else if n.resv.conflict a.host 0x80 then some St.resvConflict
  else if n.writeProtect ∨ (s.mrd.arr.get n.array).state = .salvaged then some St.writeProtected
  else none

/-- The zeroes of a formatted namespace given to its write path: none while there is no room, or while a stripe it
writes is locked (R25, R163, R182). Answers the record numbers, or the status of a failure. -/
def State.zeroNs (s : State) (qref nsid host : Nat) : State × Option (Except Status (Nat × Nat)) :=
  let n := s.mrd.ns.get nsid
  let z : IoCmd := { (default : IoCmd) with qref := qref, opcode := 8, nsid := nsid, nlb := n.size, deac := true }
  let r := s.bind z
  let locked := (s.stripesOf n (planBlks n z)).any fun e => (s.stripeHolder n.array e.1).isSome
  if locked then (s, none)
  else match r.1.buildBlks z r.2.1 with
    | (t, .error st) => (t, some (.error st))
    | (t, .ok l) => match t.putBlks r.2.1 false nsid host l with
      | (u, .done) => (u, some (.ok (r.2.1.rn, r.2.2)))
      | (u, .offline) => (u, some (.error St.arrayOffline))
      | (_, .wait) => (s, none)

/-- A Format NVM under way goes on (R41, R46): the zeroes, then their durability; none while it must wait. -/
def State.formatGo (s : State) (k : Nat) (qref : Nat) (f : Formatting) : State × Option Status :=
  let i := (s.mrd.ns.get f.nsid).array
  match f.placed with
  | some (rn, m) => (s, if s.rnOpen i rn m then none else some St.ok)
  | none => match s.zeroNs qref f.nsid (s.host.assoc.get k).host with
    | (t, none) => (t, none)
    | (t, some (.error st)) => (t, some st)
    | (t, some (.ok (rn, m))) =>
      (t.updAssoc k fun a => { a with format := some { f with placed := some (rn, m) } },
        if t.rnOpen i rn m then none else some St.ok)

/-- Format NVM (R41, R56): the namespace takes the format, and its blocks are zeroed; none while they cannot all be
written. -/
def State.doFormat (s : State) (k : Nat) (c : AdminCmd) : State × Option Status :=
  let n := s.mrd.ns.get c.nsid
  match s.formatCheck (s.host.assoc.get k) c with
  | some st => (s, some st)
  | none =>
    let lbaf := bitsOf c.cdw10 0 4
    let blocks := if n.small then n.size / 8 else n.size
    let size := if lbaf = 1 ∨ lbaf = 3 then blocks * 8 else blocks
    let f : Formatting := ⟨c.nsid, n, none⟩
    let s := (s.moor (.ns c.nsid { n with lbaf := lbaf, pi := bitsOf c.cdw10 5 3, size := size })).updAssoc k fun a =>
      { a with format := some f }
    s.formatGo k c.qref f

/-- Abort (R45): what is still in the admin queue, in a submission queue or on a tow line without a berth step ends
with Command Abort Requested; dword 0 bit 0 says otherwise. -/
def State.doAbort (s : State) (k : Nat) (c : AdminCmd) : State × Status :=
  let sq := bitsOf c.cdw10 0 16
  let cid := bitsOf c.cdw10 16 16
  let no : Status := ⟨0, 0, false, 1⟩
  if sq = 0 then
    match (s.host.assoc.get k).adminSq.find? fun x => x.cid == cid with
    | some x => ((s.updAssoc k fun a => { a with adminSq := a.adminSq.erase x }).respond x.qref cid St.abortRequested, St.ok)
    | none => (s, no)
  else match (s.queuesOf k).find? fun q => (s.host.queue.get q).qid == sq with
    | none => (s, no)
    | some q =>
      if (s.host.queue.get q).sq.any fun x => x.cid == cid then
        (s.updQueue q fun e => { e with aborted := e.aborted ++ [cid] }, St.ok)
      else match (s.berths fun b => b.state == .queued && b.cmd.qref == q && b.cmd.cid == cid && !b.claim &&
          b.cmd.commit.isNone).head? with
        | none => (s, no)
        | some b => (s.finishBerth b St.abortRequested, St.ok)

/-- The berth of an association's task slot (R107): CNTLID − 1, with the command's identity while one is in the slot. -/
def State.slotBerth (s : State) (k : Nat) (c : Option AdminCmd) : State :=
  let q := s.host.queue.get (s.host.assoc.get k).adminQ
  s.updBrg fun g => { g with berth := g.berth.set (k - 1) (match c with
    | none => default
    | some c => { (default : Berth) with
        state := .run, admin := true, owner := q.home.getD 0, home := q.home.getD 0, cntlid := k
        host := (s.host.assoc.get k).host, checkpoint := 1, lane := 255, admitTime := s.stamp
        cmd := { (default : IoCmd) with qref := c.qref, cid := c.cid, opcode := c.opcode, nsid := c.nsid } }) }

/-- The slot's command executed (R43): its completion, or none while it must wait. -/
def State.adminRun (s : State) (k : Nat) (c : AdminCmd) : State × Option Status :=
  let d := fun (r : State × Status) => (r.1, some r.2)
  match c.opcode with
  | 0x06 => match s.identifyData (s.host.assoc.get k) c k with
    | some l => ((s.tick.emit (.adminInfo c.qref c.cid (0x600 + bitsOf c.cdw10 0 8) l)).sendBytes c.qref 4096, some St.ok)
    | none => (s, some St.invalidField)
  | 0x02 => d (s.doLogPage k c)
  | 0x09 => d (s.doSetFeature k c)
  | 0x0A => d (s.doGetFeature k c)
  | 0x08 => d (s.doAbort k c)
  | 0x80 => match (s.host.assoc.get k).format with
    | some f => s.formatGo k c.qref f
    | none => s.doFormat k c
  | _ => (s, some St.invalidOpcode)

/-- The slot's command leaves it with its completion, which waits for the partner where a change behind it must (R43,
R318). -/
def State.slotEnd (s t : State) (k : Nat) (c : AdminCmd) (st : Status) : State :=
  let t := (t.slotBerth k none).updAssoc k fun a => { a with slot := none, format := none }
  if (t.host.assoc.get k).live then s.holdNew (t.respond c.qref c.cid st) else t

/-- Commands of an admin queue served in order, one at a time in the slot, while a lockkeeper core serves (R43). `n` is at
most how many are taken. -/
def State.serveSlot (s : State) (k : Nat) : Nat → State
  | 0 => s
  | n + 1 =>
    let a := s.host.assoc.get k
    match a.slot, a.adminSq with
    | none, [] => s
    | none, c :: l => ((s.updAssoc k fun a => { a with slot := some c, adminSq := l }).slotBerth k (some c)).serveSlot k n
    | some c, _ =>
      if !s.lkServes then s
      else match s.adminRun k c with
        | (t, none) => t
        | (t, some st) => (s.slotEnd t k c st).serveSlot k n

/-- The slot and the queue behind it served as far as they go. -/
def State.serveAdmin (s : State) (k : Nat) : State := s.serveSlot k (2 * ((s.host.assoc.get k).adminSq.length + 1))

/-- An admin command arrives (R43, R49): behind the others in the admin queue, and into the slot in its turn. -/
def State.adminArrive (s : State) (c : AdminCmd) : State :=
  match s.adminOf c.qref with
  | none => s
  | some k =>
    if !(s.host.queue.get c.qref).authOk then (s.advanceHead c.qref).respond c.qref c.cid St.sequence
    else s.adminIn c.qref c.cid fun s =>
      ((s.updQueue c.qref fun q => { q with cids := q.cids ++ [c.cid] }).updAssoc k fun a =>
        { a with adminSq := a.adminSq ++ [c] }).serveAdmin k

/-- Admin commands that wait in slots go on (R43): once a core serves again, and a Format NVM while its blocks can be
written. -/
def State.slotsGo (s : State) : State :=
  (s.host.assoc.keysWhere fun _ a => a.live && a.slot.isSome).foldl State.serveAdmin s

/-- A core has restarted or its spare has taken over (R46): a Format NVM that was under way in a slot is rolled back and
ends with Command Interrupted, unless all it writes has been written; every other command in a slot has had no effect yet
and is executed from its start, and those behind it follow in order. -/
def State.resumeSlots (s : State) : State :=
  ((s.host.assoc.keysWhere fun _ a => a.live && a.slot.isSome).foldl (fun s k =>
    let a := s.host.assoc.get k
    match a.slot, a.format with
    | some c, some ⟨nsid, old, none⟩ => s.slotEnd (s.moor (.ns nsid old)) k c St.interrupted
    | _, _ => s) s).slotsGo

/-- NVME_IDENTIFY (R42). -/
def execNvmeIdentify (c : AdminCmd) (s : State) : Result := .next (s.adminArrive { c with opcode := 0x06 })

/-- GET_LOG_PAGE (R54). -/
def execGetLogPage (c : AdminCmd) (s : State) : Result := .next (s.adminArrive { c with opcode := 0x02 })

/-- SET_FEATURES (R41). -/
def execSetFeatures (c : AdminCmd) (s : State) : Result := .next (s.adminArrive { c with opcode := 0x09 })

/-- GET_FEATURES (R41). -/
def execGetFeatures (c : AdminCmd) (s : State) : Result := .next (s.adminArrive { c with opcode := 0x0A })

/-- ABORT (R45). -/
def execAbort (c : AdminCmd) (s : State) : Result := .next (s.adminArrive { c with opcode := 0x08 })

/-- FORMAT_NVM (R56). -/
def execFormatNvm (c : AdminCmd) (s : State) : Result := .next (s.adminArrive { c with opcode := 0x80 })

/-- An Asynchronous Event Request (R44): parked, or beyond AERL + 1 completed at once. A parked one is outstanding on its
queue (R49). -/
def State.aer (s : State) (k q cid : Nat) : State :=
  s.adminIn q cid fun s =>
    if 16 ≤ (s.host.assoc.get k).aers.length then s.respond q cid St.aerLimit
    else (s.updQueue q fun e => { e with cids := e.cids ++ [cid] }).updAssoc k fun a => { a with aers := a.aers ++ [cid] }

/-- ASYNCHRONOUS_EVENT_REQUEST (R44). -/
def execAsynchronousEventRequest (qref cid : Nat) (s : State) : Result :=
  match s.adminOf qref with
  | none => .next s
  | some k => .next (s.aer k qref cid)

/-- A Keep Alive (R41, R44): the timer starts anew. -/
def State.keepAlive (s : State) (k q cid : Nat) : State :=
  s.adminIn q cid fun s => (s.updAssoc k fun a => { a with kaSince := s.now }).respond q cid St.ok

/-- KEEP_ALIVE (R41, R44). -/
def execKeepAlive (qref cid : Nat) (s : State) : Result :=
  match s.adminOf qref with
  | none => .next s
  | some k => .next (s.keepAlive k qref cid)

/-- KEEP_ALIVE_TIMEOUT (R41): the association is torn down. -/
def execKeepAliveTimeout (cntlid : Nat) (s : State) : Result :=
  let a := s.host.assoc.get cntlid
  if a.live ∧ a.katoMs ≠ 0 then .next (s.tearDown cntlid) else .next s

/-- A capsule on an admin queue: parked events and Keep Alive at once, the rest by the slot (R43, R44). -/
def State.adminCapsule (s : State) (c : AdminCmd) : State :=
  match s.adminOf c.qref with
  | none => s
  | some k =>
    if c.opcode = 0x0C then s.aer k c.qref c.cid
    else if c.opcode = 0x18 then s.keepAlive k c.qref c.cid
    else s.adminArrive c

/-- TEMPERATURE_THRESHOLD_CROSSING (R41): Tj in kelvin against each association's thresholds; an association that asks
for the event gets one for each crossing. -/
def execTemperatureThresholdCrossing (kelvin : Nat) (s : State) : Result :=
  let s := (s.updPwr fun p => { p with tj := some kelvin }).avsFollow
  .next ((s.assocs fun a => !a.discovery).foldl (fun s k =>
    let a := s.host.assoc.get k
    let high := decide (a.tempOver ≤ kelvin)
    let low := decide (kelvin ≤ a.tempUnder)
    let s := s.updAssoc k fun a => { a with tempHigh := high, tempLow := low }
    if ((high && !a.tempHigh) || (low && !a.tempLow)) && a.aec.testBit 1 then s.postAen k 1 1 2 else s) s)

/-- After a change from `s`: a Notice for page 70h on every open discovery controller whose view of the log has changed
(R39). -/
def State.discoveryNote (t s : State) : State :=
  (t.assocs fun a => a.discovery && t.discoveryLog a != s.discoveryLog a).foldl (fun t k => t.postAen k 2 0xF0 0x70) t

/-- After a change from `s`: a Notice for page C1h, whose information is not given (log entry 1), on every association of
a host for which a figure of the page has changed (R62). -/
def State.latencyNote (t s : State) : State :=
  (t.assocs fun a => !a.discovery && t.pageC1 a.host != s.pageC1 a.host).foldl
    (fun u k => u.postAen k 2 (t.freeVal % 256) 0xC1) t.tick

/-- A namespace of an association's inventory has changed: page 04h, and the Notice where it is asked for. -/
def State.nsChanged (s : State) (nsid : Nat) (hosts : List Nat) : State :=
  (s.assocs fun a => !a.discovery && hosts.contains a.host).foldl (fun s k =>
    let a := s.host.assoc.get k
    let s := s.updAssoc k fun a => { a with changed := if a.changed.contains nsid then a.changed else a.changed ++ [nsid] }
    if a.aec.testBit 8 then s.postAen k 2 0 4 else s) s

end Sys2Proof.Machine
end

