-- ==== Sys2Proof/Machine/Dock.lean ====
section
/-! DEFINITION. Dock windows, staircases and dock commits (03_tug_transport.md, R69, R70, R81 to R89). -/

namespace Sys2Proof.Machine

def State.win (s : State) (w : Nat) : DockWin := s.tug.win.get w
def State.updWin (s : State) (w : Nat) (f : DockWin → DockWin) : State := s.updTug fun t => { t with win := t.win.upd w f }

/-- The window's bytes: `n` of them from offset `off`. -/
def State.winRead (s : State) (w off n : Nat) : List Byte :=
  let x := s.win w
  let t := if x.kind = .data then s.res else s.brg.dock
  (List.range n).map fun i => t.get (x.base + off + i)

/-- Bytes laid into a window from offset `off`. -/
def State.winWrite (s : State) (w off : Nat) (l : List Byte) : State :=
  let x := s.win w
  let put := fun (t : Tab Byte) => l.zipIdx.foldl (fun t p => t.set (x.base + off + p.2) p.1) t
  if x.kind = .data then { s with res := put s.res } else s.updBrg fun g => { g with dock := put g.dock }

/-- No uncorrectable error lies in the range of a window behind a bank (R436). -/
def State.winSound (s : State) (w off n : Nat) : Bool :=
  let x := s.win w
  x.kind == .data || !(s.brg.dockBad.any fun u => decide (u * 64 < x.base + off + n ∧ x.base + off < u * 64 + 64))

/-- A packet's operation on the window that its key names is permitted (R85, R70): VALID and of that generation, of the
queue pair's host, the range within it, the operation of its type and permissions. -/
def State.winOk (s : State) (q : Nat) (rkey va len : Nat) (op : PktOp) : Bool :=
  let x := s.win (rkey % 4096)
  let perm := match op with
    | .write => x.wr
    | .read => x.rd && x.kind != .stairs
    | .fetchAdd | .compareSwap => x.atomics && x.kind == .bank
    | _ => false
  x.state == .valid && x.gen == rkey / 4096 && x.host == (s.qp q).host && decide (va + len ≤ x.size) && perm &&
    s.winSound (rkey % 4096) va len

/-- The atomic operations on eight bytes of a bank window (R70, R116): the old value, and the memory after. -/
def State.winAtomic (s : State) (w va : Nat) (op : PktOp) (operand compare : Nat) : State × Nat :=
  match bankAtomic s.brg.dock ((s.win w).base + va) 8 (if op = .fetchAdd then .add else .cswap) operand compare with
  | some (t, old) => (s.updBrg fun g => { g with dock := t }, old)
  | none => (s, 0)

/-- A staircase by its queue pair and key. -/
def State.stair (s : State) (q key : Nat) : Option Stair :=
  (s.tug.stairs.get (qpGroup q)).find? fun t => t.qp == q && t.key == key
def State.updStair (s : State) (q key : Nat) (f : Stair → Stair) : State :=
  let g : List Stair → List Stair := fun l => l.map fun x => if x.qp = q ∧ x.key = key then f x else x
  s.updTug fun t => { t with stairs := t.stairs.upd (qpGroup q) g }
def State.dropStair (s : State) (q key : Nat) : State :=
  let g : List Stair → List Stair := fun l => l.filter fun x => !(x.qp == q && x.key == key)
  s.updTug fun t => { t with stairs := t.stairs.upd (qpGroup q) g }

/-- The window that a local address names, and the offset in it (Table 3-10). -/
def localWin (a : Nat) : Nat × Nat := (bitsOf a 52 12, bitsOf a 0 52)

/-- A local range of a step lies in a VALID window of the queue pair's host that permits it (R83, R85): `wr` to write
there, else to read. -/
def State.localOk (s : State) (q a len : Nat) (wr : Bool) : Bool :=
  let p := localWin a
  let x := s.win p.1
  x.state == .valid && x.host == (s.qp q).host && decide (p.2 + len ≤ x.size) && s.winSound p.1 p.2 len &&
    (if wr then x.wr else x.rd && x.kind != .stairs)

/-- The ranges of a step pass their checks as it starts (R83): what it reads locally, and what it writes. -/
def State.stepOk (s : State) (q : Nat) (t : StairStep) : Bool :=
  s.localOk q t.laddr t.len (t.op == 4) && (t.op != 5 || s.localOk q t.raddr t.len true)

/-- Step `k` issued (Table 3-10): its packets on the queue pair, or the copy between windows. -/
def State.stepIssue (s : State) (q key k : Nat) (t : StairStep) : State :=
  let p := localWin t.laddr
  let data := s.winRead p.1 p.2 t.len
  if t.op = 5 then
    let r := localWin t.raddr
    s.winWrite r.1 r.2 data
  else
    let read := if t.op = 4 then some (ReadTag.step key k) else none
    s.sendRcMsg q (.step t.op t.len t.raddr t.rkey t.imm t.final (if t.op = 4 then [] else data)) t.len t.final read

/-- The host is told that a step with SIGNAL has completed (Table 3-10): the index stands in 4 bytes, least significant
first (log entry 56). -/
def State.stepSignal (s : State) (q key k : Nat) (t : StairStep) : State :=
  if t.signal then s.sendImm q key (leBytes 4 k) else s

/-- A running staircase goes on (R83): the next step starts unless it waits for the one before it; one of no length
completes at once; one that fails its checks stops the staircase. With no step left and none under way the run is over:
REARM makes it idle, and an arming held runs. -/
def State.stairGo : Nat → State → Nat → Nat → State
  | 0, s, _, _ => s
  | f + 1, s, q, key =>
    match s.stair q key with
    | none => s
    | some t =>
      match t.running with
      | none => s
      | some k =>
        match t.steps[k]? with
        | none =>
          if t.issued ≠ [] then s
          else if !t.rearm then s.dropStair q key
          else if t.held then State.stairGo f (s.updStair q key fun x => { x with held := false, running := some 0 }) q key
          else s.updStair q key fun x => { x with running := none }
        | some p =>
          if p.wait && decide (k ≠ 0) && t.issued.contains (k - 1) then s
          else if p.len = 0 then
            State.stairGo f ((s.stepSignal q key k p).updStair q key fun x => { x with running := some (k + 1) }) q key
          else if !s.stepOk q p then
            s.updStair q key fun x => { x with faulted := some k, running := none, issued := [], held := false }
          else
            let s := (s.stepIssue q key k p).updStair q key fun x =>
              { x with running := some (k + 1), issued := x.issued ++ [k] }
            State.stairGo f s q key

/-- Steps that one event can run: those of a run and of the one after it. -/
def stairFuel : Nat := 64

/-- A staircase armed by a message on its queue pair (R82). -/
def State.arm (s : State) (q key : Nat) : State :=
  match s.stair q key with
  | none => s
  | some t =>
    if t.faulted.isSome ∨ t.firm then s
    else match t.running with
      | none => State.stairGo stairFuel (s.updStair q key fun x => { x with running := some 0 }) q key
      | some _ =>
        if t.held then (s.count (Fld.TUG_STAIR_STAT_OVERRUN (qpGroup q)) 1).tally 0x048 (qpGroup q) 1
        else s.updStair q key fun x => { x with held := true }

/-- STAIRCASE_STEP_COMPLETE (R83): step `step` has completed, or failed; a READ brings its data. -/
def execStaircaseStepComplete (qp : Fin 65536) (key step : Nat) (ok : Bool) (data : List Byte) (s : State) : Result :=
  match s.stair qp key with
  | none => .next s
  | some t =>
    match t.steps[step]? with
    | none => .next s
    | some p =>
      if !t.issued.contains step ∨ t.firm then .next s
      else
        let s := if p.op = 4 then s.readEnds qp (.step key step) else s
        if !ok then
          .next (s.updStair qp key fun x => { x with faulted := some step, running := none, issued := [], held := false })
        else
          let l := localWin p.laddr
          let s := if p.op = 4 then s.winWrite l.1 l.2 (data.take p.len) else s
          let s := (s.stepSignal qp key step p).updStair qp key fun x => { x with issued := x.issued.erase step }
          .next (State.stairGo stairFuel s qp key)

/-- A step of a record (Table 3-10). -/
def stepOf (b : List Byte) : StairStep :=
  let f := fun lo n => leVal ((b.drop lo).take n)
  ⟨f 0 1, (f 1 1).testBit 0, (f 1 1).testBit 1, (f 1 1).testBit 2, f 4 4, f 8 8, f 16 8, f 24 4, f 28 4⟩

/-- Staircases that a host has installed. -/
def State.hostStairs (s : State) (h : Nat) : Nat :=
  ((s.tug.stairs.flatMap fun e => e.2).filter fun t => !t.firm && (s.qp t.qp).host == h).length

/-- A staircase added to its group's bank, which holds 1,024 (R81). -/
def State.addStair (s : State) (t : Stair) : State :=
  let g : List Stair → List Stair := fun l => l ++ [t]
  s.updTug fun x => { x with stairs := x.stairs.upd (qpGroup t.qp) g }

/-- A staircase record validated and installed on the queue pair it came on (R81, R86, Table 3-9): 0 success, 1 a
malformed record, 2 a duplicate key, 3 an exhausted allotment. Reserved FLAGS bits make a record malformed, and to remove
what is not installed succeeds (log entry 56). A FAULTED staircase makes room for its successor. -/
def State.install (s : State) (q w off : Nat) : State × Nat :=
  let h := s.winRead w off 64
  let key := leVal (h.take 4)
  let n := leVal ((h.drop 4).take 1)
  let flags := leVal ((h.drop 5).take 1)
  let old := s.stair q key
  let fits := decide (off + 64 * (1 + n) ≤ (s.win w).size)
  let steps := (List.range n).map fun i => stepOf (s.winRead w (off + 64 * (1 + i)) 64)
  let host := (s.qp q).host
  let free := s.dropStair q key
  if (s.win w).size < off + 64 ∨ 3 < flags then (s, 1)
  else if flags.testBit 1 then (free, 0)
  else if n = 0 then (s, 0)
  else if 16 < n ∨ !fits ∨ steps.any (fun t => decide (5 < t.op)) then (s, 1)
  else if old.any fun t => t.faulted.isNone then (s, 2)
  else if (s.mrd.hosts.get host).p.stairs ≤ free.hostStairs host ∨ 1024 ≤ (free.tug.stairs.get (qpGroup q)).length then (s, 3)
  else (free.addStair ⟨q, key, flags.testBit 0, steps, none, [], false, none, false⟩, 0)

/-- The firmware's staircase behind a dock commit (R81, Table 3-10 operation 6): one step, under way until the commit's
response, where its group has room and the key is free on the queue pair (log entry 56). -/
def State.firmStair (s : State) (q key laddr len : Nat) : State :=
  if (s.stair q key).isSome ∨ 1024 ≤ (s.tug.stairs.get (qpGroup q)).length then s
  else s.addStair ⟨q, key, false, [⟨6, false, false, false, len, laddr, 0, 0, 0⟩], some 1, [0], false, none, true⟩

/-- The response of a commit (Table 3-12). -/
def commitResponse (status count serial : Nat) : List Byte :=
  leBytes 2 status ++ leBytes 2 0 ++ leBytes 4 count ++ leBytes 8 serial

/-- Sectors of the bytes of whole 4 KiB blocks, with no protection information of their own. -/
def sectorsIn (small : Bool) (b : List Byte) : List Sector :=
  let w := if small then 512 else 4096
  (List.range (b.length / w)).map fun i => ⟨BitVec.ofNat 32768 (leVal ((b.drop (i * w)).take w)), 0, 0, 0⟩

/-- A dock commit (R87): the blocks it names are admitted as a write to the bound namespace; beyond the window nothing
is ledgered. `acc` is its place among what the window has accepted. A commit's tags are generated, and its LBAs count as
the namespace's sectors do (log entry 38). -/
def State.commit (s : State) (q w va imm acc : Nat) (frame : FrameInfo) : State :=
  let x := s.win w
  let first := va / 2 ^ 24 * 4096 + bitsOf imm 12 12
  let n := bitsOf imm 0 12
  let answer := fun (s : State) (st count : Nat) => s.sendImm q imm (commitResponse st count (s.win w).serial)
  match x.bind with
  | none => s
  | some (nsid, slba) =>
    if n = 0 then answer (s.updWin w fun y => { y with serial := (y.serial + 1) % 2 ^ 64 }) 0 0
    else if x.size < (first + n) * 4096 then answer s 0x0080 0
    else
      let small := (s.mrd.ns.get nsid).small
      let f := if small then 8 else 1
      let c : IoCmd := { (default : IoCmd) with
        qref := q, opcode := 1, nsid := nsid, slba := slba + first * f, nlb := n * f, pract := true
        data := sectorsIn small (s.winRead w (first * 4096) (n * 4096)), frame := frame, commit := some ⟨w, imm, acc⟩ }
      (s.firmStair q imm (w * 2 ^ 52 + first * 4096) (n * 4096)).updQueue q fun e => { e with commits := e.commits ++ [c] }

/-- A delivered immediate or first word acts (R82, R86, R87): it arms a staircase, and on the window that the WRITE
named it installs or commits. One that matches nothing is counted. -/
def State.immediate (s : State) (q : Nat) (m : RxMsg) (imm : Nat) : State :=
  let armed := (s.stair q imm).any fun t => !t.firm
  let s := s.arm q imm
  let x := s.win (m.rkey % 4096)
  let tag := decide (m.op = .write) && x.state != .dead && x.gen == m.rkey / 4096 && x.host == (s.qp q).host &&
    x.tag == bitsOf imm 24 8
  if tag ∧ x.kind = .stairs then
    let r := s.install q (m.rkey % 4096) (bitsOf imm 12 12 * 64)
    r.1.sendImm q imm (leBytes 4 r.2)
  else if tag ∧ x.bind.isSome then s.commit q (m.rkey % 4096) m.va imm m.acc m.frame
  else if armed ∨ m.op ≠ .write then s
  else s.tally 0x047 (qpGroup q) 1

/-- A window whose revocation has no accepted message left, or whose drain limit has come (R89): the key is dead, what
was accepted for it is stale, and the receipt leaves. -/
def State.winDead (s : State) (w : Nat) : State :=
  let acc := (s.win w).accepted
  let s := s.updWin w fun x => { x with state := .dead, accepted := [] }
  let s := acc.foldl (fun s a => s.updQp a.1 fun q => { q with stale := q.stale ++ [a.2] }) s
  s.finishOn 0x0411 (.dock, w) .success []

/-- The drain of a window is over once its limit has passed (R89). -/
def State.drainDue (s : State) (w : Nat) : State :=
  if (s.win w).state = .revoking ∧ (s.win w).drainEnd ≤ s.now then s.winDead w else s

/-- A message of a window has ended (R89). -/
def State.unaccept (s : State) (w q msn : Nat) : State :=
  let s := s.updWin w fun x => { x with accepted := x.accepted.erase (q, msn) }
  if (s.win w).state = .revoking ∧ (s.win w).accepted = [] then s.winDead w else s

/-- DRAIN_LIMIT_EXPIRY (R89). -/
def execDrainLimitExpiry (win : Fin 4096) (s : State) : Result :=
  if (s.win win).state = .revoking then .next (s.winDead win) else .next s

/-- Ranges of a memory that windows hold. -/
def State.winRanges (s : State) (data : Bool) : List (Nat × Nat) :=
  s.tug.win.filterMap fun e =>
    if e.2.state ≠ .dead ∧ (e.2.kind == .data) = data then some (e.2.base, e.2.size) else none

/-- The lowest place for `size` bytes that no window holds, in steps of `step`, of a memory of `n` steps; `fits` says
where one may lie. -/
def freePlace (held : List (Nat × Nat)) (fits : Nat → Bool) (size : Nat) : Option Nat :=
  ((0 :: held.map fun h => h.1 + h.2).filter fun b => fits b &&
    held.all fun h => decide (b + size ≤ h.1 ∨ h.1 + h.2 ≤ b)).foldl (fun m b => match m with
      | none => some b
      | some x => some (min x b)) none

/-- DOCK_CREATE's effect (R84, Table 3-11): types 0 DATA, 1 BANK, 2 STAIRS; permissions read, write, atomics by bit. The
place of a window is the device's choice (log entry 39). -/
def dockCreateBody (host kind size perms : Nat) (bind : Option (Nat × Nat)) (tag : Nat) (s : State) : MRes :=
  if 4096 ≤ host then .fail .outOfRange [beBytes 2 host]
  else if !(s.mrd.hosts.get host).present then .fail .invalidState [beBytes 2 host]
  else match bind with
    | some (nsid, _) =>
      let n := s.mrd.ns.get nsid
      if nsid = 0 ∨ 16384 < nsid then .fail .outOfRange [beBytes 4 nsid]
      else if !n.present ∨ !n.ledgered ∨ !n.hosts.contains host then .fail .invalidState [beBytes 4 nsid]
      else if kind ≠ 0 ∨ 7 < perms ∨ 256 ≤ tag then .fail .invalidParam []
      else dockPlace s
    | none => if 2 < kind ∨ 7 < perms ∨ 256 ≤ tag then .fail .invalidParam [] else dockPlace s
where
  /-- The index and the place taken, the key returned. -/
  dockPlace (s : State) : MRes :=
    let k : WinType := if kind = 0 then .data else if kind = 1 then .bank else .stairs
    let most := if kind = 0 then 2 ^ 30 else if kind = 1 then 2 ^ 22 else 2 ^ 16
    if size = 0 ∨ size % 4096 ≠ 0 ∨ most < size then .fail .invalidSize []
    else
      let fits := fun b => if kind = 0 then decide (b + size ≤ 2 ^ 38)
        else decide (b / 2 ^ 22 = (b + size - 1) / 2 ^ 22 ∧ b / 2 ^ 22 < 8)
      let held := s.winRanges (kind == 0)
      let extra := if kind = 0 then [] else (List.range 8).map fun d => (d * 2 ^ 22, 0)
      match firstFrom 4096 s.freeVal (fun w => (s.win w).state == .dead), freePlace (held ++ extra) fits size with
      | some w, some b =>
        let g := ((s.win w).gen + 1) % 2 ^ 20
        let x : DockWin := ⟨.valid, k, host, size, perms.testBit 0, perms.testBit 1, perms.testBit 2, bind, tag, g, b, 0, 0, 0, []⟩
        .ok (s.tick.updWin w fun _ => x) [beBytes 4 (g * 4096 + w)]
      | _, _ => .fail .noResource []

/-- DOCK_CREATE (R84). -/
def execDockCreate (h : Hdr) (host kind size perms : Nat) (bind : Option (Nat × Nat)) (tag : Nat) (s : State) : Result :=
  .next (s.manifest (.dockCreate host kind size perms bind tag) h 0x0410 [(.host, host)]
    (dockCreateBody host kind size perms bind tag))

/-- DOCK_REVOKE's effect (R89): the drain limit is that of the revocation point (R94). -/
def dockRevokeBody (rkey : Nat) (s : State) : MRes :=
  let w := rkey % 4096
  let x := s.win w
  if x.state ≠ .valid ∨ x.gen ≠ rkey / 4096 then .fail .invalidState [beBytes 4 rkey]
  else
    let t := s.updWin w fun y =>
      { y with state := .revoking, drainEnd := s.now + s.fld Fld.TUG_DRAIN_LIMIT_LIMIT_US * 1000 }
    if x.accepted = [] then .ok (t.updWin w fun y => { y with state := .dead }) [] else .later t true

/-- DOCK_REVOKE (R89). -/
def execDockRevoke (h : Hdr) (rkey : Nat) (s : State) : Result :=
  .next (s.manifest (.dockRevoke rkey) h 0x0411 [(.dock, rkey % 4096)] (dockRevokeBody rkey))

end Sys2Proof.Machine
end

