-- ==== Sys2Proof/Machine/Rdma.lean ====
section
/-! DEFINITION. Packets of reliable connections as the device receives them: placement, acknowledgement, ordering and
delivery (03_tug_transport.md, R68 to R76, R85, R89). -/

namespace Sys2Proof.Machine

/-- Distance from `b` up to `a` in a space of 24-bit sequence numbers. -/
def seqDist (a b : Nat) : Nat := (a + 2 ^ 24 - b % 2 ^ 24) % 2 ^ 24

/-- `a` lies before `b` in a space of 24-bit sequence numbers. -/
def seqBefore (a b : Nat) : Bool := decide (2 ^ 23 ≤ seqDist a b)

/-- The PSNs received that lie in the 256-PSN bitmap from `base` (Table 3-6). -/
def inBitmap (base : Nat) (l : List Nat) : List Nat := l.filter fun p => decide (seqDist p base < 256)

/-- An acknowledgement (R74): PSN E − 1, the MSN of the last whole message, a SACK header where a hole exists. -/
def State.sendAck (s : State) (i : Nat) : State :=
  let q := s.qp i
  let sack := if q.above = [] then none else some (q.epsn, inBitmap q.epsn q.above)
  (s.sendRcAs i 0 q.rmsn sack.isSome (.ack ((q.epsn + 2 ^ 24 - 1) % 2 ^ 24) q.rmsn sack)).updQp i fun x => { x with sinceAck := 0 }

/-- Every packet of the message has been placed (R73). -/
def RxMsg.whole (m : RxMsg) : Bool :=
  match m.last with
  | none => false
  | some k => (List.range (k + 1)).all m.got.contains

/-- Every message of a lower MSN is whole (R76). -/
def Qp.lowerWhole (q : Qp) (msn : Nat) : Bool :=
  (List.range (seqDist msn q.rmsn - 1)).all fun j =>
    q.msgs.any fun m => m.msn == (q.rmsn + 1 + j) % 2 ^ 24 && m.whole

/-- A WRITE with immediate that is a dock commit: a bound window of the queue pair's host, and its COMMIT_TAG (R87). -/
def State.commitLike (s : State) (i rkey : Nat) (op : PktOp) (imm : Option Nat) : Bool :=
  let x := s.win (rkey % 4096)
  match imm with
  | none => false
  | some v => op == .write && x.state != .dead && x.bind.isSome && x.gen == rkey / 4096 && x.host == (s.qp i).host &&
      x.tag == bitsOf v 24 8

/-- A whole message may be delivered now (R76, R87): on a strict queue pair, a FINAL message, a READ, an atomic or a
dock commit only once every message of a lower MSN is whole. -/
def State.deliverable (s : State) (i : Nat) (m : RxMsg) : Bool :=
  let q := s.qp i
  let free := q.relaxed && !m.final && (m.op == .send || m.op == .write) && !s.commitLike i m.rkey m.op m.imm
  m.whole && !m.delivered && (free || q.lowerWhole m.msn)

/-- A message changed. -/
def State.updMsg (s : State) (i msn : Nat) (f : RxMsg → RxMsg) : State :=
  let g : List RxMsg → List RxMsg := fun l => l.map fun m => if m.msn = msn then f m else m
  s.updQp i fun q => { q with msgs := g q.msgs }

/-- A capsule handed to the queue that its SEND came on. -/
def State.takeCapsule (s : State) (q : Nat) (c : Option Capsule) : State :=
  match c with
  | some (.io c) => s.capsule { c with qref := q }
  | some (.admin c) => s.adminCapsule { c with qref := q }
  | _ => s

/-- A message delivered (R76): a SEND's capsule, its immediate or first word; a WRITE's immediate; the data of a READ;
an atomic at its bank. -/
def State.deliver (s : State) (i : Nat) (m : RxMsg) : State :=
  let s := s.updMsg i m.msn fun x => { x with delivered := true }
  let w := m.rkey % 4096
  let s := match m.op with
    | .send =>
      let s := s.takeCapsule i m.capsule
      match m.imm, m.word with
      | some v, _ => s.immediate i m v
      | none, some v => s.arm i v
      | none, none => s
    | .write => match m.imm with
      | some v => s.immediate i m v
      | none => s
    | .read => (s.sendRcAs i ((s.qp i).deal (s.qp i).epsn) m.msn false (.readResponse (s.winRead w m.va m.len))).tally 0x041
        (qpGroup i) (max 1 (ceilDiv m.len (s.qp i).mtu) - 1)
    | .fetchAdd | .compareSwap =>
      let r := s.winAtomic w m.va m.op m.operand m.compare
      r.1.sendRcAs i ((s.qp i).deal (s.qp i).epsn) m.msn false (.atomicResponse r.2)
    | .other => s
  if m.dock then s.unaccept w i m.msn else s

/-- SENDs take receive buffers in the order of their MSNs, as far as every message before them has begun to come
(R76). -/
def Qp.takeBufs : Nat → Nat → Qp → Qp
  | 0, _, q => q
  | f + 1, n, q =>
    match q.msgs.find? fun m => m.msn == n with
    | none => q
    | some m =>
      let take : RxMsg → RxMsg := fun x => if x.msn = n then { x with buf := some q.bufs } else x
      let q := if m.op = .send ∧ m.buf.isNone then { q with msgs := q.msgs.map take, bufs := q.bufs + 1 } else q
      Qp.takeBufs f ((n + 1) % 2 ^ 24) q

/-- RMSN follows the whole messages in order, which are gone once delivered (Table 3-2). -/
def Qp.settleMsn : Nat → Qp → Qp
  | 0, q => q
  | f + 1, q =>
    let n := (q.rmsn + 1) % 2 ^ 24
    match q.msgs.find? fun m => m.msn == n with
    | some m =>
      if m.whole && m.delivered then
        Qp.settleMsn f { q with rmsn := n, msgs := q.msgs.filter fun x => x.msn != n }
      else q
    | none => q

/-- Every message that can be delivered, in MSN order (R76). -/
def State.deliverAll : Nat → State → Nat → State
  | 0, s, _ => s
  | f + 1, s, i =>
    let q := s.qp i
    match (sortBy (fun m => seqDist m.msn q.rmsn) q.msgs).find? fun m => s.deliverable i m with
    | none => s.updQp i fun q => Qp.settleMsn q.msgs.length q
    | some m => State.deliverAll f (s.deliver i m) i

/-- E advances past every PSN received contiguously (R73). -/
def Qp.advanceE : Nat → Qp → Qp
  | 0, q => q
  | f + 1, q =>
    if q.above.contains q.epsn then
      Qp.advanceE f { q with above := q.above.erase q.epsn, epsn := (q.epsn + 1) % 2 ^ 24 }
    else q

/-- READ and atomic requests that wait (R70). -/
def Qp.requests (q : Qp) : Nat :=
  (q.msgs.filter fun m => !m.delivered && (m.op == .read || m.op == .fetchAdd || m.op == .compareSwap)).length

/-- How a packet of a message is taken: it is fatal to the queue pair, the message is answered and has no effect, or it is
accepted. -/
inductive Intake | fatal (n : Nak) | nak (n : Nak) | accept
  deriving DecidableEq, Repr

/-- A message longer than 16 MiB (R68, Table 3-8). -/
def messageMax : Nat := 2 ^ 24

/-- The checks of R68, R69, R70, R85 and R87 on the first-arriving packet of a message; `base` is the address of its first
byte. A queue pair accepts as many READs and atomics as it was created with responder resources (R70, R94). -/
def State.intake (s : State) (i : Nat) (p : Packet) (base : Nat) : Intake :=
  let x := s.win (p.rkey % 4096)
  let full := decide ((s.qp i).cfg.respRes ≤ (s.qp i).requests)
  match p.op with
  | .send => .accept
  | .write =>
    if p.len ≠ 0 then
      if decide (base ≤ p.va) && s.winOk i p.rkey base p.len .write then .accept else .fatal .remoteAccess
    else if s.commitLike i p.rkey .write p.imm then
      if x.state = .valid ∧ x.wr ∧ p.va < x.size then .accept else .fatal .remoteAccess
    else .accept
  | .read =>
    if !s.winOk i p.rkey p.va p.len .read then .fatal .remoteAccess
    else if full then .nak .invalidRequest
    else .accept
  | .fetchAdd | .compareSwap =>
    if !s.winOk i p.rkey p.va 8 p.op then .fatal .remoteAccess
    else if p.va % 8 ≠ 0 ∨ full then .nak .invalidRequest
    else .accept
  | .other => .fatal .invalidRequest

/-- The message is accepted for the window that its key names (R85, R89): a READ, an atomic, a WRITE of bytes, or a commit
of none. -/
def State.forWindow (s : State) (i : Nat) (p : Packet) : Bool :=
  match p.op with
  | .read | .fetchAdd | .compareSwap => true
  | .write => p.len != 0 || s.commitLike i p.rkey .write p.imm
  | _ => false

/-- A message as its first-arriving packet opens it; `dock` and `acc` say whether it is accepted for a window, and its
place there. -/
def Packet.opens (p : Packet) (msn base : Nat) (op : PktOp) (dock : Bool) (acc : Nat) : RxMsg :=
  { (default : RxMsg) with
    msn := msn, op := op, rkey := p.rkey, va := base, len := if op = .fetchAdd ∨ op = .compareSwap then 8 else p.len
    operand := p.operand, compare := p.compare, frame := p.frame, dock := dock, acc := acc }

/-- Where a WRITE packet's bytes go: with the extension at the address of its own RETH, else behind those before it in the
message (R72, R73). -/
def Qp.writeAt (q : Qp) (m : RxMsg) (p : Packet) (idx : Nat) : Nat := if q.relaxed then p.va else m.va + idx * q.mtu

/-- The checks on every packet of a message (R68, R85): a SEND stays within 16 MiB; a WRITE's bytes lie in the range of
its message and its window, under the message's key. -/
def State.packetOk (s : State) (i : Nat) (m : RxMsg) (p : Packet) (idx : Nat) : Intake :=
  let q := s.qp i
  let n := p.payload.length
  let at_ := q.writeAt m p idx
  match m.op with
  | .send => if messageMax < idx * q.mtu + n then .fatal .invalidRequest else .accept
  | .write =>
    if n = 0 then .accept
    else if p.rkey % 2 ^ 32 = m.rkey % 2 ^ 32 ∨ !q.relaxed then
      if m.va ≤ at_ ∧ at_ + n ≤ m.va + m.len ∧ idx * q.mtu + n ≤ m.len ∧ at_ + n ≤ (s.win (m.rkey % 4096)).size then .accept
      else .fatal .remoteAccess
    else .fatal .remoteAccess
  | _ => .accept

/-- What one packet adds to its message (R73). -/
def RxMsg.add (m : RxMsg) (p : Packet) (idx mtu : Nat) : RxMsg :=
  { m with
    got := if m.got.contains idx then m.got else idx :: m.got
    last := if p.last then some idx else m.last
    imm := if p.imm.isSome then p.imm else m.imm
    word := if idx = 0 ∧ p.op = .send ∧ 4 ≤ p.payload.length then some (leVal (p.payload.take 4)) else m.word
    final := m.final || p.final
    capsule := if p.capsule.isSome then p.capsule else m.capsule
    data := if p.op = .send then p.payload.zipIdx.foldl (fun t b => t.set (idx * mtu + b.2) b.1) m.data else m.data }

/-- The message that a packet belongs to, open: its first-arriving packet opens it (R85, R89). What cannot be accepted is
fatal to the queue pair, with its NAK. A message of an unsupported kind that is answered has no effect of its own. -/
def State.openMsg (s : State) (i : Nat) (p : Packet) (msn idx : Nat) : Except Nak State :=
  let q := s.qp i
  let base := p.va - idx * q.mtu
  if q.msgs.any fun m => m.msn == msn then .ok s
  else match s.intake i p base with
    | .fatal n => .error n
    | .nak n =>
      .ok ((s.sendRc i (.nak n)).updQp i fun q => { q with msgs := q.msgs ++ [Packet.opens p msn base .other false 0] })
    | .accept =>
      let w := p.rkey % 4096
      let dock := s.forWindow i p
      let m := Packet.opens p msn base p.op dock (s.win w).commits
      let s := s.updQp i fun q => { q with msgs := q.msgs ++ [m] }
      .ok (if dock then
          s.updWin w fun x => { x with
            accepted := x.accepted ++ [(i, msn)], commits := x.commits + (if p.op = .write then 1 else 0) }
        else s)

/-- A packet placed in its message (R73, R85, R89), or the NAK of what is fatal to the queue pair: so is a packet of a
message whose window has died since. -/
def State.place (s : State) (i : Nat) (p : Packet) (msn idx : Nat) : Except Nak State :=
  let s := if p.op = .send then s else s.drainDue (p.rkey % 4096)
  let q := s.qp i
  if q.stale.contains msn then .error .remoteAccess
  else match s.openMsg i p msn idx with
    | .error n => .error n
    | .ok s =>
      match (s.qp i).msgs.find? fun m => m.msn == msn with
      | none => .ok s
      | some m =>
        match s.packetOk i m p idx with
        | .accept =>
          let s := if m.op = .write then s.winWrite (m.rkey % 4096) (q.writeAt m p idx) p.payload else s
          .ok (s.updMsg i msn fun m => m.add p idx q.mtu)
        | .fatal n | .nak n => .error n

/-- PSNs that a packet takes: a READ request those of its responses. -/
def State.psnsOf (s : State) (i : Nat) (p : Packet) : Nat :=
  if p.op = .read then max 1 (ceilDiv p.len (s.qp i).mtu) else 1

/-- A packet received in order or inside the window: placed, E moved, acknowledged as R74 has it, and whole messages
delivered. -/
def State.receive (s : State) (i : Nat) (p : Packet) (msn idx : Nat) : State :=
  match s.place i p msn idx with
  | .error n => s.qpError i (some n) 0
  | .ok t =>
    let q := t.qp i
    let had := q.above != []
    let q1 := Qp.advanceE (q.above.length + s.psnsOf i p)
      { q with above := q.above ++ (List.range (s.psnsOf i p)).map fun k => (p.psn + k) % 2 ^ 24 }
    let fills := had && q1.epsn != q.epsn
    let q1 := Qp.takeBufs q1.msgs.length ((q1.rmsn + 1) % 2 ^ 24) q1
    let t := t.updQp i fun _ => { q1 with sinceAck := q.sinceAck + 1 }
    let t := t.deliverAll (q.msgs.length + 1) i
    if (t.qp i).state ≠ .rts then t
    else if fills ∨ q.cfg.ackEvery ≤ q.sinceAck + 1 then t.sendAck i
    else t

/-- A READ that the device has had before (R89): its window is alive, so that it is executed again, or has died. Until the
drain ends, a window in REVOKING still serves it. -/
def State.rereadOk (s : State) (i : Nat) (p : Packet) : Bool :=
  let x := s.win (p.rkey % 4096)
  x.state != .dead && x.gen == p.rkey / 4096 && x.host == (s.qp i).host && x.rd && x.kind != .stairs &&
    decide (p.va + p.len ≤ x.size) && s.winSound (p.rkey % 4096) p.va p.len

/-- A packet that has come before (R73, R89): a READ is executed again while its window lives, and is fatal once that is
dead; anything else is acknowledged. -/
def State.again (s : State) (i : Nat) (p : Packet) : State :=
  if p.op = .read then
    let s := s.drainDue (p.rkey % 4096)
    if s.rereadOk i p then
      s.sendRcAs i ((s.qp i).deal (s.qp i).epsn) p.msn false (.readResponse (s.winRead (p.rkey % 4096) p.va p.len))
    else s.qpError i (some .remoteAccess) 0
  else s.sendAck i

/-- A packet on a queue pair without spray (go-back-N): the next PSN is received, a later one is answered by the NAK of
a sequence error, an earlier one has come before. With the extension its header names the message and the index. -/
def State.inOrder (s : State) (i : Nat) (p : Packet) : State :=
  let q := s.qp i
  let msn := if q.relaxed then p.msn else (q.rmsn + 1) % 2 ^ 24
  if p.psn = q.epsn then
    match q.msgs.find? fun m => m.msn == msn with
    | some m =>
      if p.first then s.sendRc i (.nak .invalidRequest) else s.receive i p msn (if q.relaxed then p.idx else m.got.length)
    | none => if p.first then s.receive i p msn 0 else s.sendRc i (.nak .invalidRequest)
  else if seqBefore p.psn q.epsn then s.again i p
  else s.sendRc i (.nak .sequence)

/-- A packet on a sprayed queue pair (R73): inside the window it is placed; one already received, or beyond the window,
is answered by an acknowledgement, the latter counted (log entry 18). -/
def State.sprayed (s : State) (i : Nat) (p : Packet) : State :=
  let q := s.qp i
  if seqBefore p.psn q.epsn then s.again i p
  else if q.above.contains p.psn then s.sendAck i
  else if 2 ^ q.winLog2 ≤ seqDist p.psn q.epsn then (s.tally 0x046 (qpGroup (i % 65536)) 1).sendAck i
  else s.receive i p p.msn p.idx

/-- The queue pair or probation context that a QPN names (R63). A probation context's QPN is the model's own. -/
def qpnEntry (qpn : Nat) : Option Nat :=
  if 0x10000 ≤ qpn ∧ qpn < 0x10000 + 65536 + 256 then some (qpn - 0x10000) else none

/-- A packet discarded and counted (R63, R67). The count is that of the packets to unassigned QPNs, for events that a
state does not list too: Table 19-1 has no other (log entry 18). -/
def State.discardPkt (s : State) (qpn : Nat) : State := s.tally 0x046 (qpGroup (qpn % 65536)) 1

/-- A packet of a reliable connection (R63, R67, R68, R73). On probation the first valid packet enables the transport, and
only a Connect capsule is accepted. -/
def State.packet (s : State) (p : Packet) : State :=
  if p.qpn = 1 then s
  else match qpnEntry p.qpn with
    | none => s.discardPkt p.qpn
    | some i =>
      let s := s.fromTug i
      let q := s.qp i
      let bad := p.op == .other || decide (messageMax < p.len)
      match q.state with
      | .probation =>
        let s := (s.tally 0x040 (qpGroup i) 1).notify i p.ce p.path
        if bad then (s.sendRc i (.nak .invalidRequest)).discardPkt p.qpn
        else
          let s := s.updQp i fun x => { x with enabled := true }
          if p.op = .send ∧ p.capsule = some .fabrics then
            if q.spray then s.sprayed i p else s.inOrder i p
          else s.discardPkt p.qpn
      | .rts =>
        let s := (s.tally 0x040 (qpGroup i) 1).notify i p.ce p.path
        if bad then s.qpError i (some .invalidRequest) 0
        else if q.spray then s.sprayed i p
        else s.inOrder i p
      | _ => s.discardPkt p.qpn

/-- PACKET_RECEIVE (R63, R73, R76). -/
def execPacketReceive (p : Packet) (s : State) : Result := .next (s.packet p)

/-- DOCK_WRITE (R85): a packet of an RDMA WRITE with data. -/
def execDockWrite (p : Packet) (s : State) : Result :=
  if p.op = .write ∧ p.len ≠ 0 then .next (s.packet p) else .next s

/-- DOCK_READ (R85). -/
def execDockRead (p : Packet) (s : State) : Result := if p.op = .read then .next (s.packet p) else .next s

/-- DOCK_ATOMIC (R70). -/
def execDockAtomic (p : Packet) (s : State) : Result :=
  if p.op = .fetchAdd ∨ p.op = .compareSwap then .next (s.packet p) else .next s

/-- ZERO_LENGTH_WRITE (R69). -/
def execZeroLengthWrite (p : Packet) (s : State) : Result :=
  if p.op = .write ∧ p.len = 0 then .next (s.packet p) else .next s

/-- STAIRCASE_INSTALL (R86): a WRITE with immediate that names a STAIRS window. -/
def execStaircaseInstall (p : Packet) (s : State) : Result :=
  if p.op = .write ∧ p.imm.isSome ∧ (s.win (p.rkey % 4096)).kind = .stairs then .next (s.packet p) else .next s

/-- DOCK_COMMIT (R87): a WRITE with immediate that names a bound window. -/
def execDockCommit (p : Packet) (s : State) : Result :=
  if p.op = .write ∧ p.imm.isSome ∧ (s.win (p.rkey % 4096)).bind.isSome then .next (s.packet p) else .next s

/-- REORDER_TIMER_EXPIRY (R74): a PSN lies above E; the selective NAK. -/
def execReorderTimerExpiry (qp : Fin 65536) (s : State) : Result :=
  let q := s.qp qp
  if q.state = .rts ∧ q.spray ∧ q.above ≠ [] then
    .next ((s.sendRcAs qp 0 q.rmsn true (.selectiveNak q.epsn (inBitmap q.epsn q.above))).tally 0x045 (qpGroup qp) 1)
  else .next s

/-- ACK_DELAY_EXPIRY (R74): packets have come since the last acknowledgement. -/
def execAckDelayExpiry (qp : Fin 65536) (s : State) : Result :=
  let q := s.qp qp
  if q.state = .rts ∧ q.sinceAck ≠ 0 then .next (s.sendAck qp) else .next s

/-- Packets acknowledged, and marked received by a SACK (R75): their buffers are free, their paths answer. A READ stays
until its data has come. -/
def Qp.ackSent (q : Qp) (cum : TxPkt → Bool) (got : List Nat) : Qp :=
  let heard := q.sent.filter fun t => cum t || got.contains t.psn
  let gone := q.sent.any cum
  { q with
    sent := (q.sent.filter fun t => !cum t || t.read.isSome).map fun t => { t with sacked := t.sacked || got.contains t.psn }
    paths := heard.foldl (fun ps t => ps.upd t.path fun x => { x with fails := 0, down := false }) q.paths
    retries := if gone then 0 else q.retries
    rnr := if gone then 0 else q.rnr }

/-- One packet sent again (R75): a retransmission that its path needed, which PATH_FAIL of in a row mark down (R78). -/
def State.resend (s : State) (i : Nat) (t : TxPkt) : State :=
  let s := s.updQp i fun q => { q with paths := q.paths.upd t.path fun x =>
    { x with fails := x.fails + 1, down := x.down || decide (q.spray ∧ q.cfg.pathFail ≤ x.fails + 1) } }
  let path := (s.qp i).deal t.psn
  let move : TxPkt → TxPkt := fun x => if x.psn = t.psn then { x with path := path } else x
  let s := s.updQp i fun q => { q with sent := q.sent.map move }
  ((s.emitPkt i { t with path := path } true).tally 0x041 (qpGroup i) 1).tally 0x042 (qpGroup i) 1

/-- ACK_RECEIVE (R75): an ordinary acknowledgement, with its SACK, frees buffers and sends nothing again. ACKED is the
highest PSN acknowledged (Table 3-2). What waited for room leaves. -/
def execAckReceive (qp : Fin 65536) (psn : Nat) (sack : List Nat) (s : State) : Result :=
  if (s.qp qp).state = .rts then
    .next ((s.updQp qp fun q => { Qp.ackSent q (fun t => !seqBefore psn t.psn) sack with
      acked := if seqBefore q.acked psn ∧ seqBefore psn q.spsn then psn % 2 ^ 24 else q.acked }).pump qp)
  else .next s

/-- SELECTIVE_NAK_RECEIVE (R75): what its bitmap shows as missing is sent again; without spray, everything from its
base on. -/
def execSelectiveNakReceive (qp : Fin 65536) (base : Nat) (got : List Nat) (s : State) : Result :=
  if (s.qp qp).state = .rts then
    let s := s.updQp qp fun q => Qp.ackSent q (fun t => seqBefore t.psn base) got
    let q := s.qp qp
    let miss := q.sent.filter fun t => if q.spray then decide (seqDist t.psn base < 256) && !got.contains t.psn
      else !seqBefore t.psn base
    .next ((miss.foldl (fun s t => s.resend qp t) s).pump qp)
  else .next s

/-- NAK_RECEIVE (Table 3-8): Remote Access, Invalid Request or Remote Operational for a request of the device. -/
def execNakReceive (qp : Fin 65536) (_code : Fin 3) (s : State) : Result :=
  if (s.qp qp).state = .rts then .next (s.qpError qp none 0) else .next s

/-- LOCAL_ACK_TIMEOUT (R75, Table 3-8): every unacknowledged packet not marked received is sent again, RETRY_CNT times. -/
def execLocalAckTimeout (qp : Fin 65536) (s : State) : Result :=
  let q := s.qp qp
  if q.state = .rts ∧ q.sent ≠ [] then
    if q.cfg.retryCnt ≤ q.retries then .next (s.qpError qp none 0)
    else
      let s := s.updQp qp fun q => { q with retries := q.retries + 1 }
      .next ((q.sent.filter fun t => !t.sacked).foldl (fun s t => s.resend qp t) s)
  else .next s

/-- RNR_RETRY_EXPIRY (Table 3-8): the oldest unacknowledged packet again, RNR_RETRY times. -/
def execRnrRetryExpiry (qp : Fin 65536) (s : State) : Result :=
  let q := s.qp qp
  match q.sent.head? with
  | none => .next s
  | some t =>
    if q.state ≠ .rts then .next s
    else if q.cfg.rnrRetry ≤ q.rnr then .next (s.qpError qp none 0)
    else .next ((s.updQp qp fun q => { q with rnr := q.rnr + 1 }).resend qp t)

/-- PATH_PROBE_EXPIRY (R78): one unacknowledged packet, the oldest, probes a path that is down. -/
def execPathProbeExpiry (qp : Fin 65536) (path : Fin 8) (s : State) : Result :=
  let q := s.qp qp
  match (q.sent.filter fun t => !t.sacked).head? with
  | none => .next s
  | some t =>
    if q.state = .rts ∧ q.spray ∧ path.val < q.npaths ∧ (q.paths.get path).down then
      let move : TxPkt → TxPkt := fun x => if x.psn = t.psn then { x with path := path.val } else x
      let s := s.updQp qp fun q => { q with sent := q.sent.map move }
      .next (((s.emitPkt qp { t with path := path } true).tally 0x041 (qpGroup qp) 1).tally 0x042 (qpGroup qp) 1)
    else .next s

/-- A path's weight halved, not below 1 of 8 (R80). -/
def Path.halve (p : Path) : Path := { p with short := 8 - max 1 ((8 - p.short) / 2) }

/-- CNP_RECEIVE (R80): one cut per epoch. Rates are kept in kb/s. -/
def execCnpReceive (qp : Fin 65536) (path : Option (Fin 8)) (s : State) : Result :=
  let q := s.qp qp
  if q.state ≠ .rts then .next s
  else
    let s := s.tally 0x044 (qpGroup qp) 1
    let cut := s.fld Fld.TUG_RC_CFG0_CUT
    let epoch := s.fld Fld.TUG_RC_CFG0_EPOCH * 1000
    if !s.flag Fld.TUG_RC_CFG2_RC_EN ∨ cut = 0 ∨ !(q.lastCut.all fun t => decide (t + epoch ≤ s.now)) then .next s
    else
      let least := s.fld Fld.TUG_RC_CFG2_MIN_RATE * 1000
      let ps := match path with
        | some k => if q.spray ∧ k.val < q.npaths then q.paths.upd k Path.halve else q.paths
        | none => q.paths
      .next (s.updQp qp fun q => { q with
        mem := q.rate, rate := max least (q.rate - q.rate * cut / 256), stage := 0, lastCut := some s.now, paths := ps })

/-- One queue pair at a recovery interval (R80). -/
def Qp.recover (q : Qp) (fast step : Nat) : Qp :=
  { q with
    rate := if q.stage < fast then (q.rate + q.mem) / 2 else min q.line (q.rate + step)
    stage := q.stage + 1
    paths := q.paths.mapAll fun _ p => { p with short := p.short - 1 } }

/-- RATE_INTERVAL_EXPIRY (R80). -/
def execRateIntervalExpiry (s : State) : Result :=
  let iv := s.fld Fld.TUG_RC_CFG1_INTERVAL * 1000
  let fast := s.fld Fld.TUG_RC_CFG0_FAST_STEPS
  let step := s.fld Fld.TUG_RC_CFG1_STEP * 1000
  if !s.flag Fld.TUG_RC_CFG2_RC_EN then .next s
  else
    let f : Nat → Qp → Qp := fun _ q =>
      if q.state = .rts ∧ q.rate < q.line ∧ (q.lastCut.all fun t => decide (t + iv ≤ s.now)) then Qp.recover q fast step else q
    .next (s.updTug fun t => { t with qp := t.qp.mapAll f })

end Sys2Proof.Machine
end

