-- ==== Sys2Proof/Machine/TugRows.lean ====
section
/-! DEFINITION. Connection management, NVMe/TCP connections, fenced tugs and the QP table snapshot
(03_tug_transport.md, R63 to R67, R71, R91 to R93). -/

namespace Sys2Proof.Machine

/-- The line rate of a data port in kb/s (Table 11-1: 400, 200 or 100 Gb/s by the quad's mode). -/
def State.lineRate (s : State) (p : Nat) : Nat :=
  let m := s.fld (Fld.NET_QUAD_CFG_MODE (quadOf p))
  if m = 0 then 400000000 else if m = 1 then 200000000 else 100000000

/-- The largest path MTU code that the port MTU allows (R68). -/
def State.mtuCode (s : State) (p : Nat) : Nat :=
  let m := s.fld (Fld.NET_PORT_CFG_MTU (quadOf p) (laneOf p))
  if 4096 ≤ m then 4 else if 2048 ≤ m then 3 else 2

/-- Spray contexts: 16,384 in all (R71). -/
def sprayContexts : Nat := 16384

/-- Which spray context a new queue pair gets: the device's choice among the free ones (log entry 1). -/
def State.freeSpray (s : State) : Option Nat :=
  let used := s.tug.qp.filterMap fun e => e.2.sprayCtx
  if sprayContexts ≤ used.length then none else firstFrom sprayContexts s.freeVal fun c => !used.contains c

/-- A queue pair or probation context is gone, and with it the staircases that were bound to it (R81; log entry 56). -/
def State.freeQp (s : State) (i : Nat) : State :=
  let keep : Stair → Bool := fun x => x.qp != i
  (s.dropQueue i).updTug fun t => { t with
    qp := t.qp.set i default, stairs := t.stairs.upd (qpGroup i) (·.filter keep) }

/-- Whether the private data of a REQ offers the extension (R71). -/
def CmReq.isOffer (r : CmReq) : Bool := r.ext.magic == 0x4358 && r.ext.ver == 1

/-- What a new queue pair takes from the TUG registers (R94). A stored value outside the range that its table names counts
as the nearest one in it (log entry 18). -/
def State.qpCfg (s : State) : QpCfg where
  ackEvery := max 1 (s.fld Fld.TUG_ACK_CFG_ACK_EVERY)
  pathFail := max 1 (s.fld Fld.TUG_ACK_CFG_PATH_FAIL)
  retryCnt := s.fld Fld.TUG_CM_CFG_RETRY_CNT
  rnrRetry := s.fld Fld.TUG_CM_CFG_RNR_RETRY
  respRes := clampNat 1 16 (s.fld Fld.TUG_CM_CFG_RESP_RES)
  initDepth := clampNat 1 16 (s.fld Fld.TUG_CM_CFG_INIT_DEPTH)
  sportBase := s.fld Fld.TUG_SPRAY_CFG_SPORT_BASE
  reorder := s.fld Fld.TUG_SPRAY_CFG_REORDER_US

/-- A new probation context's part of the queue pair, with the extension as negotiated (R71, Table 3-4): SPRAY only
with RELAXED, only where TUG_SPRAY_CFG allows it and while a spray context is free. The path MTU is not below 1,024
bytes (R68; a path record that asks for less gets that, log entry 18). -/
def State.newQp (s : State) (r : CmReq) : Qp :=
  let o := if CmReq.isOffer r then r.ext else default
  let relaxed := o.offer.testBit 0 && s.flag Fld.TUG_SPRAY_CFG_RELAXED_EN
  let ctx := if relaxed && o.offer.testBit 1 && s.flag Fld.TUG_SPRAY_CFG_SPRAY_EN then s.freeSpray else none
  let rate := s.lineRate r.port
  let psn := s.freeVal % 2 ^ 24
  { (default : Qp) with
    state := .probation, relaxed := relaxed, spray := ctx.isSome, v6 := r.src.v6
    pmtu := max 2 (min (min r.pmtu 4) (s.mtuCode r.port))
    npaths := if ctx.isSome then min (min 8 (max 1 o.maxPaths)) (max 1 (s.fld Fld.TUG_SPRAY_CFG_MAX_PATHS)) else 1
    winLog2 := if CmReq.isOffer r then min o.winLog2 (s.fld Fld.TUG_SPRAY_CFG_WIN_LOG2) else 0
    port := r.port, src := r.src, dqpn := r.dqpn, spsn := psn, acked := (psn + 2 ^ 24 - 1) % 2 ^ 24, epsn := r.psn % 2 ^ 24
    rmsn := 2 ^ 24 - 1, sprayCtx := ctx, rate := rate, line := rate, mem := rate, cfg := s.qpCfg }

/-- What the REP says (R66, R71): first PSN, responder resources and initiator depth (Table 3-26), then OFFER, MAX_PATHS,
WIN_LOG2, REORDER_US, which are all zero where the REQ was no offer. -/
def repArgs (r : CmReq) (q : Qp) : List Nat :=
  [q.spsn, q.cfg.respRes, q.cfg.initDepth] ++
    if CmReq.isOffer r then [q.relaxed.toNat + 2 * q.spray.toNat, q.npaths, q.winLog2, q.cfg.reorder] else [0, 0, 0, 0]

/-- CM_REQ (R38, R66, R71): an unlisted source gets no reply and is counted, unless discovery is open on the port. -/
def execCmReq (r : CmReq) (s : State) : Result :=
  if !s.listed r.src ∧ s.mrd.disc.get r.port ≠ 0 then .next (s.tally 0x028 r.port 1)
  else match firstFrom 256 s.freeVal fun p => (s.qp (65536 + p)).state == .free with
    | none => .next (s.emit (.cm .rej 0 [2, r.dqpn]))
    | some p =>
      let s := s.tick
      let q := s.newQp r
      .next ((s.tick.emit (.cm .rep (65536 + p) (repArgs r q))).updTug fun t => { t with qp := t.qp.set (65536 + p) q })

/-- CM_RTU (Table 3-1); in another state the message is discarded and counted (R67). -/
def execCmRtu (p : Fin 256) (s : State) : Result :=
  let i := 65536 + p.val
  if (s.qp i).state = .probation then .next (s.updQp i fun q => { q with enabled := true })
  else .next (s.discardPkt i)

/-- The host has ended a queue's transport: the queue is flushed, and with the admin queue its association goes. -/
def State.peerEnds (s : State) (q : Nat) : State :=
  let e := s.host.queue.get q
  let s := s.dropQueue q
  if e.live ∧ e.qid = 0 then s.tearDown e.cntlid else s

/-- CM_DREQ (Table 3-1): DREP, and the queue pair is flushed; it needs no DREQ of its own. In another state the message
is discarded and counted (R67). -/
def execCmDreq (qp : Fin 65536) (s : State) : Result :=
  if (s.qp qp).state = .rts then
    let s := (s.emit (.cm .drep qp [])).updQp qp fun q =>
      { q with state := .draining, drep := true, flushed := false, msgs := [], sent := [], sendQ := [] }
    .next (s.peerEnds qp)
  else .next (s.discardPkt qp)

/-- A draining queue pair is FREE once it is flushed and answered, or has stopped asking (Table 3-1). -/
def State.settleQp (s : State) (i : Nat) : State :=
  let q := s.qp i
  if q.state = .draining ∧ q.flushed ∧ q.drep then s.freeQp i else s

/-- CM_DREP (Table 3-1); in another state the message is discarded and counted (R67). -/
def execCmDrep (qp : Fin 65792) (s : State) : Result :=
  if (s.qp qp).state = .draining then .next ((s.updQp qp fun q => { q with drep := true }).settleQp qp)
  else .next (s.discardPkt qp)

/-- DREQ_RETRY_EXPIRY (Table 3-1): 20 ms without answer; after three sends no more is asked. -/
def execDreqRetryExpiry (qp : Fin 65792) (s : State) : Result :=
  let q := s.qp qp
  if q.state ≠ .draining ∨ q.drep then .next s
  else if q.dreqs < 3 then .next ((s.emit (.cm .dreq qp [])).updQp qp fun q => { q with dreqs := q.dreqs + 1 })
  else .next ((s.updQp qp fun q => { q with drep := true }).settleQp qp)

/-- PROBATION_TIMEOUT (R66): 5 s without Connect. -/
def execProbationTimeout (p : Fin 256) (s : State) : Result :=
  let i := 65536 + p.val
  if (s.qp i).state = .probation then .next (s.drainQp i) else .next s

/-- QP_FLUSH_COMPLETE (Table 3-1): DREQ from ERROR; a draining queue pair is flushed. -/
def execQpFlushComplete (qp : Fin 65536) (s : State) : Result :=
  let q := s.qp qp
  if q.state = .error then .next ((s.drainQp qp).updQp qp fun q => { q with flushed := true })
  else if q.state = .draining then .next ((s.updQp qp fun q => { q with flushed := true }).settleQp qp)
  else .next s

/-- Tug `t` is fenced. -/
def State.tugFenced (s : State) (t : Nat) : Bool := s.flag (Fld.TUG_STATUS_FENCED t)

/-- Every queue pair and connection of a tug group enters ERROR (R65, Table 3-8), those on probation too. -/
def State.groupError (s : State) (g : Nat) : State :=
  let qs := s.tug.qp.keysWhere fun i q => qpGroup (i % 65536) == g && (q.state == .rts || q.state == .probation)
  let cs := s.tug.conn.keysWhere fun c x => connGroup c == g && x.isOpen
  let s := qs.foldl (fun s i => s.qpError i none 0) s
  cs.foldl (fun s c => s.qpError (2 ^ 31 + c) none 0) s

/-- TUG_FENCE (R65): what the tug held is discarded; no queue pair is in error for it, until all eight tugs of a group are
fenced. -/
def execTugFence (t : Fin 64) (s : State) : Result :=
  if s.tugFenced t then .next s
  else
    let s := (s.raise (Fld.TUG_STATUS_FENCED t)).raise (Fld.TUG_STATUS_FAULT t)
    let s := (s.logEvent EventKind.tug.code t).updTug fun x => { x with inbox := x.inbox.set t [] }
    let g := t.val / 8
    .next (if (List.range 8).all fun k => s.tugFenced (8 * g + k) then s.groupError g else s)

/-- A queue's reference to a TCP connection. -/
def tcpRef (c : Nat) : Nat := 2 ^ 31 + c

/-- A connection is gone, with its queue; the admin queue takes its association with it. -/
def State.closeConn (s : State) (c : Nat) : State :=
  (s.peerEnds (tcpRef c)).updTug fun t => { t with conn := t.conn.set c default }

/-- The window field that a connection shows (Table 3-14). -/
def Conn.ownWnd (x : Conn) : Nat := min 65535 (x.cfg.rwnd * 1024 / 2 ^ x.ownScale)

/-- An acknowledgement on a connection, with its window, the echo of a mark, and the segments held ahead of it. -/
def State.tcpAck (s : State) (c : Nat) : State :=
  let x := s.conn c
  let sack := (x.ooo.take 3).map fun g => (g.1, (g.1 + g.2.1) % 2 ^ 32)
  (s.emit (.tcp c (.ack x.rcvNxt x.ownWnd x.echo sack))).updConn c fun x => { x with delack := 0 }

/-- The PDUs of a segment in order (R92): a bad header digest is fatal, FES 3; a capsule before ICReq, FES 2. -/
def State.takePdus (s : State) (c : Nat) : List (Bool × Option Capsule) → State
  | [] => s
  | (good, cap) :: l =>
    if !(s.conn c).isOpen ∨ (s.conn c).closing then s
    else if !good then s.qpError (tcpRef c) none 3
    else if !(s.conn c).ready ∧ cap.isSome then s.qpError (tcpRef c) none 2
    else State.takePdus (s.takeCapsule (tcpRef c) cap) c l

/-- Segments held out of order that now follow on (R92). -/
def State.drainOoo : Nat → State → Nat → State
  | 0, s, _ => s
  | f + 1, s, c =>
    let x := s.conn c
    match x.ooo.find? fun g => g.1 == x.rcvNxt with
    | none => s
    | some g =>
      let rest := x.ooo.erase g
      let s := s.updConn c fun y => { y with rcvNxt := (y.rcvNxt + g.2.1) % 2 ^ 32, ooo := rest }
      State.drainOoo f (s.takePdus c g.2.2) c

/-- Position `a` lies at `b` or past it, in the space of TCP positions. -/
def tcpPast (a b : Nat) : Bool := decide ((a + 2 ^ 32 - b % 2 ^ 32) % 2 ^ 32 < 2 ^ 31)

/-- What an acknowledgement frees and marks (RFC 5681, RFC 6675): the send position and the segments behind it; SACK
blocks; growth of the congestion window, by slow start below the threshold; the end of a recovery; duplicates. -/
def Conn.acked (x : Conn) (t : TcpSeg) : Conn :=
  let d : Nat := (t.ack + 2 ^ 32 - x.sndUna) % 2 ^ 32
  let marked : List TxSeg := x.segs.map fun g =>
    { g with sacked := g.sacked || t.sack.any fun b => tcpPast g.seq b.1 && tcpPast b.2 (g.seq + g.len) }
  let x : Conn := { x with segs := marked, peerWnd := t.wnd * 2 ^ x.peerScale }
  if d ≠ 0 ∧ d ≤ x.flight then
    let x : Conn := { x with
      sndUna := t.ack % 2 ^ 32, retx := 0, dups := 0, segs := x.segs.filter fun g => !tcpPast t.ack (g.seq + g.len)
      cwnd := if x.cwnd < x.ssthresh then x.cwnd + min d x.mss
        else if x.recover.isNone then x.cwnd + max 1 (x.mss * x.mss / max 1 x.cwnd) else x.cwnd }
    match x.recover with
    | some r => if tcpPast t.ack r then { x with recover := none } else x
    | none => x
  else if d == 0 && t.len == 0 && x.flight != 0 then { x with dups := x.dups + 1 } else x

/-- Half of what is in flight, not below two segments (RFC 5681). -/
def Conn.half (x : Conn) : Nat := max (x.flight / 2) (2 * x.mss)

/-- Loss found by three duplicates or by the scoreboard starts a recovery (RFC 6675); an echoed mark reduces the window
once in a round trip and is answered with CWR (RFC 3168). -/
def Conn.reduce (x : Conn) (t : TcpSeg) : Conn :=
  let lost := decide (3 ≤ x.dups) || (lostMarks x.mss x.segs).head?.any (·.2)
  if x.recover.isNone && lost then
    let mark : List TxSeg := match x.segs with
      | g :: l => { g with lost := !g.sacked } :: l
      | [] => []
    { x with ssthresh := x.half, cwnd := x.half, recover := some x.sndNxt, segs := mark }
  else if x.ecn && t.ece && x.recover.isNone && (x.cwrEnd.all fun e => tcpPast x.sndUna e) then
    { x with ssthresh := x.half, cwnd := x.half, cwr := true, cwrEnd := some x.sndNxt }
  else x

/-- The initial congestion window (RFC 5681). -/
def initialWindow (mss : Nat) : Nat := if 2190 < mss then 2 * mss else if 1095 < mss then 3 * mss else 4 * mss

/-- The shift that brings a receive window of `k` KiB into 16 bits (RFC 7323). -/
def windowShift (k : Nat) : Nat := ((List.range 15).find? fun n => decide (k * 1024 / 2 ^ n ≤ 65535)).getD 14

/-- A SYN opens a connection, with what it negotiates (Table 3-14). -/
def State.tcpOpen (s : State) (t : TcpSeg) : State :=
  let n := s.freeVal % 2 ^ 32
  let c := t.conn
  let rwnd := clampNat 64 4096 (s.fld Fld.TUG_TCP_CFG1_RWND_KIB)
  let own := s.fld (Fld.NET_PORT_CFG_MTU (quadOf t.port) (laneOf t.port)) - (if t.src.v6 then 60 else 40)
  let mss := (if t.opts.mss = 0 then own else min own t.opts.mss) - tcpOptions
  let ecn := t.ece && t.cwr && s.flag Fld.TUG_TCP_CFG0_ECN_EN
  let y : Conn := { (default : Conn) with
    isOpen := true, port := t.port, dport := t.dport, src := t.src, rcvNxt := (t.seq + 1) % 2 ^ 32
    sndUna := n, sndNxt := (n + 1) % 2 ^ 32, sndEnd := (n + 1) % 2 ^ 32, mss := mss
    cfg := ⟨rwnd, s.fld Fld.TUG_TCP_CFG0_DELACK_US, max 1 (s.fld Fld.TUG_TCP_CFG0_MAX_RETX)⟩
    peerScale := min 14 (t.opts.scale.getD 0), ownScale := if t.opts.scale.isSome then windowShift rwnd else 0
    peerWnd := t.wnd, cwnd := initialWindow mss, ssthresh := 2 ^ 30, ecn := ecn }
  (((s.tick.tally 0x040 (connGroup c) 1).emit (.tcp c (.synAck own y.ownScale ecn))).updConn c fun _ => y)

/-- TCP_SEGMENT_RECEIVE (R38, R39, R92, Table 3-14): a SYN from a listed source, or to an open discovery service, opens a
connection; bytes in order are taken, those ahead held up to the receive window, older ones acknowledged. -/
def execTcpSegmentReceive (t : TcpSeg) (s : State) : Result :=
  let c := t.conn
  let x := s.conn c
  if t.syn then
    let disc := s.mrd.disc.get t.port
    let may := if t.dport = 8009 then disc == 0 || (disc == 1 && s.listed t.src) else s.listed t.src
    if t.dport ≠ 4420 ∧ t.dport ≠ 8009 then .next s
    else if !may then .next (s.tally 0x028 t.port 1)
    else if 16384 ≤ c ∨ x.isOpen then .next s
    else .next (s.tcpOpen t)
  else if !x.isOpen then .next s
  else
    let s := (((s.fromTug (tcpRef c)).tally 0x040 (connGroup c) 1).updConn c fun y =>
      (y.acked t).reduce t).pumpTcp c
    let s := s.updConn c fun y => { y with echo := y.ecn && (t.ce || (y.echo && !t.cwr)) }
    if t.rst then .next (s.closeConn c)
    else
      let d := (t.seq + 2 ^ 32 - x.rcvNxt) % 2 ^ 32
      let s := if t.len = 0 then s
        else if d = 0 then
          let s := s.updConn c fun y => { y with rcvNxt := (y.rcvNxt + t.len) % 2 ^ 32, delack := y.delack + 1 }
          let s := State.drainOoo x.ooo.length (s.takePdus c t.pdus) c
          if x.cfg.delack = 0 ∨ 2 ≤ (s.conn c).delack then s.tcpAck c else s
        else if d + t.len ≤ x.cfg.rwnd * 1024 then
          let held := x.ooo.any fun g => g.1 == t.seq
          let s := if held then s else s.updConn c fun y => { y with ooo := y.ooo ++ [(t.seq, t.len, t.pdus)] }
          s.tcpAck c
        else s.tcpAck c
      if !t.fin then .next s
      else if (s.conn c).closing then .next (s.closeConn c)
      else .next ((s.emit (.tcp c .fin)).closeConn c)

/-- ICREQ (R92): answered with ICResp, 128 bytes, with the digests that the host asks for, and the bytes of a spray offer
zero; a second one is a sequence error. -/
def execIcreq (conn : Fin 16384) (hdgst ddgst : Bool) (s : State) : Result :=
  let x := s.conn conn
  if !x.isOpen ∨ x.closing then .next s
  else if x.ready then .next (s.qpError (tcpRef conn) none 2)
  else .next (((s.emit (.tcp conn (.icResp hdgst ddgst))).stream conn 128).updConn conn fun y =>
    { y with ready := true, hdgst := hdgst, ddgst := ddgst })

/-- H2C_DATA (R92, R111): write data of a command that waits for it; a bad data digest fails the command. What comes for
a command without an owner is kept for it (R457). -/
def execH2cData (berth : Fin 262144) (data : List Sector) (digestOk : Bool) (s : State) : Result :=
  let e := s.berth berth
  if !isTcp e.cmd.qref then .next s
  else if digestOk then .next (s.hostData berth data)
  else if e.orphan then .next (s.updBerth berth fun x => { x with heldData := some (data, false) })
  else if e.state = .wait ∧ e.waits = .data then .next (s.finishBerth berth St.transientTransport)
  else .next s

/-- H2C_TERM_REQ (R92): the connection ends and the association is torn down. -/
def execH2cTermReq (conn : Fin 16384) (s : State) : Result :=
  let e := s.host.queue.get (tcpRef conn)
  if (s.conn conn).isOpen then
    let s := (s.emit (.tcp conn .fin)).closeConn conn
    .next (if e.live then s.tearDown e.cntlid else s)
  else .next s

/-- The segments in flight given up by a timeout (RFC 5681, RFC 6675): the threshold at half, the window at one segment,
what is not marked received to be sent again. -/
def Conn.timedOut (x : Conn) : Conn :=
  { x with
    ssthresh := if x.retx = 0 then x.half else x.ssthresh, cwnd := x.mss, dups := 0, recover := some x.sndNxt
    retx := x.retx + 1, segs := x.segs.map fun g => { g with again := false, lost := !g.sacked } }

/-- TCP_RTO_EXPIRY (Table 3-14): the oldest segment again, MAX_RETX times, then a connection error. -/
def execTcpRtoExpiry (conn : Fin 16384) (s : State) : Result :=
  let x := s.conn conn
  let e := s.host.queue.get (tcpRef conn)
  if !x.isOpen ∨ x.sndUna = x.sndNxt then .next s
  else if x.cfg.maxRetx ≤ x.retx then
    let s := s.closeConn conn
    .next (if e.live then s.tearDown e.cntlid else s)
  else
    let s := s.updConn conn Conn.timedOut
    match x.segs with
    | [] => .next ((s.emit (.tcp conn (.segment x.sndUna 0 true false))).tally 0x042 (connGroup conn) 1)
    | _ => .next (s.pumpTcp conn)

/-- TCP_DELACK_EXPIRY (Table 3-24). -/
def execTcpDelackExpiry (conn : Fin 16384) (s : State) : Result :=
  if (s.conn conn).isOpen ∧ (s.conn conn).delack ≠ 0 then .next (s.tcpAck conn) else .next s

/-- STATE of an entry (Table 3-2). -/
def QpState.code : QpState → Nat
  | .free => 0 | .probation => 1 | .rts => 2 | .error => 3 | .draining => 4

/-- Bytes 35 to 0 of a QP table entry (Table 3-2). -/
def State.qptBytes (s : State) (i : Nat) : List Byte :=
  let q := s.qp i
  let home := (s.host.queue.get i).home.getD 0
  leBytes 1 q.state.code ++ leBytes 1 (q.relaxed.toNat + 2 * q.spray.toNat + 4 * q.v6.toNat + 8 * q.pmtu) ++
    leBytes 1 q.npaths ++ leBytes 1 home ++ leBytes 2 q.host ++ leBytes 2 q.cntlid ++ leBytes 2 q.qid ++
    leBytes 3 q.dqpn ++ leBytes 3 q.spsn ++ leBytes 3 q.epsn ++ leBytes 3 q.smsn ++ leBytes 3 q.rmsn ++
    leBytes 3 q.acked ++ leBytes 4 (q.rate / 1000) ++ leBytes 4 (q.sprayCtx.getD 0xFFFFFFFF)

/-- TUG_QPT_IDX_WRITE (R93, Table 3-27): the entry's snapshot. What Table 3-2 gives no layout for, bytes 36 to 127, is
free (log entry 1). -/
def execTugQptIdxWrite (entry : Fin 65536) (s : State) : Result :=
  let l := s.qptBytes entry
  let s := s.setFld Fld.TUG_QPT_IDX_ENTRY entry
  let s := (List.range 9).foldl (fun s n =>
    s.setReg (Fld.TUG_QPT_DATA_WORD n).addr (BitVec.ofNat 32 (leVal ((l.drop (4 * n)).take 4)))) s
  .next ((List.range 23).foldl (fun s n =>
    (s.setReg (Fld.TUG_QPT_DATA_WORD (9 + n)).addr (BitVec.ofNat 32 s.freeVal)).tick) s)

end Sys2Proof.Machine
end

