-- ==== Sys2Proof/Machine/Canal.lean ====
section
/-! DEFINITION. What the canal does (05_canal_fabric.md): credits, entry, delivery, recall, ageing, discard notices and
cancels. -/

namespace Sys2Proof.Machine

/-- A cipher lane whose own cells wait for credits stalls its input (Table 5-4). -/
def State.laneStalled (s : State) (att : Nat) : Bool :=
  decide (72 ≤ att ∧ att < 82) && s.cnl.stalled.any fun e => e.2.any fun w => w.1 == att

/-- Credits for the queue are withheld (R124, R127, R136), `accs` accumulators to be opened with the fold. -/
def State.withheld (s : State) (k accs : Nat) : Bool :=
  let p := queueCls k
  let att := queueAtt k
  decide (s.fld Fld.CNL_QMAX_CELLS ≤ (s.cnl.queue k).length) || s.cnl.capped.get p ||
    (!s.partRoom p 1 && !s.maySpill p) || (accs != 0 && !s.partRoom 4 accs) || s.laneStalled att ||
    (decide (att < 32) && p == 2 && s.classPaused (4 * att + queueSub k / 8) (queueSub k % 8))

/-- The canal itself is clamped: it delivers no cell and grants no credit (Table 15-4). -/
def State.canalClamped (s : State) : Bool := decide (2 ≤ s.pwrDepth)

/-- An attachment's boundary is clamped: as a source it sends nothing (R348, Table 15-4). -/
def State.clampedAt (s : State) (att : Nat) : Bool :=
  let d := s.pwrDepth
  if att < 32 then s.quadGated att || decide (3 ≤ d)
  else if att < 48 ∨ 98 ≤ att then decide (3 ≤ d)
  else if att < 64 then s.basinParked (att - 48) || decide (2 ≤ d)
  else if att < 72 then (s.fld Fld.TWP_DOMAIN_STAT_TUG_GATED).testBit (att - 64) || decide (2 ≤ d)
  else decide (2 ≤ d)

/-- A demand's credits are withheld: for one of its copies' queues. -/
def State.refuses (s : State) (d : CellDst) (cls : Nat) (w : CellDemand) : Bool :=
  let accs := w.fold.elim 0 fun f => s.cnl.opens f.1 f.2
  (d :: w.others).any fun x => s.withheld (queueKey x cls) accs

/-- A source whose cells wait for withheld credits (Table 5-4): what of it waits is held, an engine's step in WAIT. A
drive group withholds its bay's PCIe credits, attachment 98 those of the endpoint, and attachment 99 uses the
aqueduct's flow control; a quad, a tug group and a reservoir channel keep what they hold. -/
def State.stall (s : State) (k : Nat) (w : CellDemand) : State :=
  if (s.cnl.stalled.get k).contains (w.src, w.unit) then s
  else
    let s := (s.updCnl fun c => { c with stalled := c.stalled.upd k (· ++ [(w.src, w.unit)]) }).emit
      (.cellFlow w.src w.unit false)
    if 48 ≤ w.src ∧ w.src < 64 ∧ (s.berth w.unit).state = .run then
      s.updBerth w.unit fun b => { b with state := .wait, waits := .credit }
    else s

/-- A source that has been held goes on. -/
def State.unstall (s : State) (k : Nat) (w : CellDemand) : State :=
  if (s.cnl.stalled.get k).contains (w.src, w.unit) then
    let s := (s.updCnl fun c => { c with stalled := c.stalled.upd k (·.erase (w.src, w.unit)) }).emit
      (.cellFlow w.src w.unit true)
    if 48 ≤ w.src ∧ w.src < 64 ∧ (s.berth w.unit).state = .wait ∧ (s.berth w.unit).waits = .credit then
      s.updBerth w.unit fun b => { b with state := .run, waits := .nothing }
    else s
  else s

/-- CREDIT_ISSUE (R123, R124, Table 5-4): among the sources that wait for the queue, one credit to the next in turn that
holds fewer than MAX and whose copies' queues withhold none; it reserves the accumulators that the fold will open.
Sources whose credits are withheld are held. What is clamped asks for none, and a clamped canal grants none (R348). -/
def execCreditIssue (dst : CellDst) (cls : Fin 7) (wants : List CellDemand) (s : State) : Result :=
  let k := queueKey dst cls
  let wants := if s.canalClamped then [] else wants.filter fun w => !s.clampedAt w.src
  let s := wants.foldl (fun s w => match w.fold, w.par with
    | some f, some o => s.openCtx f.1 o
    | _, _ => s) s
  let free := sortBy (fun w => (w.src + 128 - s.cnl.creditTurn.get k % 128) % 128) (wants.filter fun w =>
    !s.refuses dst cls w && decide ((s.cnl.credits.get (k * 128 + w.src)).length < s.fld Fld.CNL_CREDIT_MAX))
  let s := (wants.filter fun w => s.refuses dst cls w).foldl (fun s w => s.stall k w) s
  match free with
  | [] => .next s
  | w :: _ =>
    let accs := w.fold.elim 0 fun f => s.cnl.opens f.1 f.2
    .next ((s.updCnl fun c => { c with
      credits := c.credits.upd (k * 128 + w.src) (· ++ [accs]), creditTurn := c.creditTurn.set k (w.src + 1) }).unstall k w)

/-- The class of a cell as its sender sets it (R121): to a quad NET_OUT, from a quad NET_IN; 7 stays, to be
discarded. -/
def sentClass (c : Cell) : Nat :=
  if c.cls = 7 then 7 else if c.dst.dest < 32 then 2 else if c.src < 32 then 1 else c.cls

/-- A cell of a block (R119): consecutive SEQ, its 256 bytes, and bytes 4j+3 to 4j of the drive metadata, 0 where the
block has none. -/
def loadCell (c : Cell) (x : CellLoad) : Cell :=
  let j := x.cell.val
  { c with seq := c.seq + j, payload := x.data.extractLsb' (2048 * j) 2048
           mslice := x.md.elim 0 fun m => m.extractLsb' (32 * j) 32 }

/-- A credit of queue and source `k` spent: the oldest that reserves `n` accumulators or more, with all that it
reserves (R123). -/
def Canal.spend (c : Canal) (k n : Nat) : Option Canal :=
  let l := c.credits.get k
  (l.findIdx? fun r => decide (n ≤ r)).map fun j => { c with credits := c.credits.set k (l.eraseIdx j) }

/-- CELL_ENTRY (R119 to R121, R123, R128, R131): a cell whose source holds a credit for its queue, with the block that it
carries a cell of, and the group it replicates by and the context it folds into as their engine gives them where they
do not stand yet. Without a credit the source waits, and a clamped one sends nothing (R348). A cell of class 7 is discarded as an aged one is (R141). `ecc` 1 is
a corrected, 2 an uncorrectable error of the accumulators that it folds into. -/
def execCellEntry (c : Cell) (load : Option CellLoad) (group : List CellDst) (par : Option CtxOpen) (ecc : Fin 3)
    (s : State) : Result :=
  let c := load.elim c (loadCell c)
  let c := { c with cls := sentClass c }
  if s.clampedAt c.src then .next s
  else if 7 ≤ c.cls then
    let t := (s.count Fld.CNL_DISCARD_ECC 1).tally 0x087 7 1
    let t := c.pctx.elim t fun p => t.poison p.1 true
    let back := driveTags [c.dst]
    let t := t.updCnl fun n => { n with lost := n.lost ++ back.filter fun x => !n.lost.contains x }
    .next (t.notice (refOf c) c.cls true c.src)
  else
    let s1 : State := match c.repl with
      | some g => if group = [] then s else s.updCnl fun n => { n with groups := n.groups.set g (group.take 4) }
      | none => s
    let s1 : State := match c.pctx, par with
      | some p, some o => s1.openCtx p.1 o
      | _, _ => s1
    let copies : List CellDst := match c.repl with
      | some g => s1.cnl.groups.get g
      | none => [c.dst]
    let k := queueKey (copies.headD c.dst) c.cls * 128 + c.src
    let opens := c.pctx.elim 0 fun p => s1.cnl.opens p.1 p.2.2
    match s1.cnl.spend k opens with
    | none => .next s
    | some n =>
      let s := (s1.updCnl fun _ => n).tally 0x080 c.src 1
      let s := if c.src < 32 then s.drainQuad c.src c.dst.dest else s
      let s : State := match c.pctx with
        | none => s
        | some p =>
          let there := (s.cnl.ctx.get p.1).acc.get p.2.2 != []
          if ecc = 2 ∧ there then (s.raise Fld.CNL_STATUS_POUND_UE).discardAcc p.1 p.2.2 true
          else (if ecc = 1 ∧ there then s.count Fld.CNL_STATUS_POUND_CE 1 else s).fold p.1 p.2.1 p.2.2 c
      if c.repl.isNone ∧ c.dst.dest = 127 then .next s
      else .next (s.hold c copies)

/-- The quad's port of a queue has its link up. -/
def State.laneUp (s : State) (k : Nat) : Bool := s.flag (Fld.NET_PORT_STAT_LINK (queueAtt k) (queueSub k / 8))

/-- One copy of a held cell taken by its queue's destination. The last cell of a frame ends the sluice's choice of its
queue; a quad discards what it takes for a port whose link is down (R267). -/
def State.takeCopy (s : State) (k i : Nat) : State :=
  let x := s.cnl.slots.get i
  let d := (x.copies.find? fun d => queueKey d x.cell.cls == k).getD x.cell.dst
  let left := x.copies.erase d
  let y : Slot := { x with copies := left }
  let att := queueAtt k
  let quad := decide (att < 32)
  let gone := quad && !s.laneUp k
  let s := s.updCnl fun n => { n with
    queues := n.queues.upd k (·.erase i)
    slots := if left = [] then n.slots.erase i else n.slots.set i y
    picked := if quad && x.cell.last then n.picked.upd att (·.erase (queueSub k)) else n.picked }
  let s := (s.tally 0x081 att 1).settleSpill
  let s := s.arrives att
  if gone then s.netCount (4 * att + queueSub k / 8) 18 1 else s.emit (.cell d { x.cell with dst := d })

/-- Queues of an attachment and class whose head lies in the pound. -/
def State.readyQueues (s : State) (att cls : Nat) : List Nat :=
  s.cnl.queues.keysWhere fun k l => queueAtt k == att && queueCls k == cls && (l.head?.any inPound)

/-- The queue whose turn it is within a class (R122, round-robin). -/
def State.turnOf (s : State) (att cls : Nat) : Option Nat :=
  let l := s.readyQueues att cls
  let p := s.cnl.turn.get (att * 8 + cls)
  (l.find? fun k => decide (p ≤ queueSub k)).or l.head?

/-- DWRR quantum of a class (Table 5-14). -/
def State.quantum (s : State) (cls : Nat) : Nat :=
  match cls with
  | 1 => s.fld Fld.CNL_ARB_WT_NET_IN
  | 2 => s.fld Fld.CNL_ARB_WT_NET_OUT
  | 3 => s.fld Fld.CNL_ARB_WT_DATA
  | 4 => s.fld Fld.CNL_ARB_WT_PAR
  | 5 => s.fld Fld.CNL_ARB_WT_TCP
  | _ => s.fld Fld.CNL_ARB_WT_BULK

/-- The queue that a quad takes a cell from: of a port whose link is down, to be discarded (R267), else that of the
oldest choice of the sluice's whose lane and priority are not paused (R122, R127). -/
def State.quadQueue (s : State) (q : Nat) : Option Nat :=
  let l := s.readyQueues q 2
  (l.find? fun k => !s.laneUp k).or ((s.cnl.picked.get q).findSome? fun sub =>
    l.find? fun k => queueSub k == sub && !s.classPaused (4 * q + sub / 8) (sub % 8))

/-- The queue that an attachment's destination takes a cell from (R122), with the scheduler's state: CTL first, then
DWRR over the other classes; at a quad, the queue that the sluice chose. -/
def State.choose (s : State) (att : Nat) : Option (State × Nat) :=
  if att < 32 then (s.quadQueue att).map fun k => (s, k)
  else
    let took := fun (s : State) (k : Nat) =>
      (s.updCnl fun n => { n with turn := n.turn.set (att * 8 + queueCls k) (queueSub k + 1) }, k)
    match s.turnOf att 0 with
    | some k => some (took s k)
    | none =>
      let ready := ([1, 2, 3, 4, 5, 6].filter fun c => s.readyQueues att c != []).map fun c => (c, 1)
      let empty := [1, 2, 3, 4, 5, 6].filter fun c => s.readyQueues att c == []
      match Dwrr.pick s.quantum ready (dwrrFuel 6) (Dwrr.clear (s.cnl.share.get att) empty) with
      | none => none
      | some (c, d) => (s.turnOf att c).map fun k =>
          took (s.updCnl fun n => { n with share := n.share.set att d }) k

/-- CELL_DELIVERY (R122, R141): one cell; `ecc` 1 is a corrected error of its slot, 2 an uncorrectable one. -/
def execCellDelivery (att : Fin 100) (ecc : Fin 3) (s : State) : Result :=
  if s.canalClamped then .next s else
  match s.choose att with
  | none => .next s
  | some (t, k) =>
    match (t.cnl.queue k).head? with
    | none => .next s
    | some i =>
      if ecc = 2 then
        let t := (t.raise Fld.CNL_STATUS_POUND_UE).discardSlot i true
        .next (if queueCls k = 0 then t.stuck else t)
      else
        let t := if ecc = 1 then t.count Fld.CNL_STATUS_POUND_CE 1 else t
        .next (t.takeCopy k i)

/-- SPILL_RECALL (R137): the oldest spilled cell of a queue is back in the pound, once the queue's pound share is below
QMIN ÷ 2 and the pound has a slot. One that comes back with an uncorrectable error is discarded with cause ECC (R141,
R437). -/
def execSpillRecall (dst : CellDst) (cls : Fin 7) (err : Option (Fin 16 × Bool)) (s : State) : Result :=
  let l := s.cnl.queue (queueKey dst cls)
  match l.find? fun i => !inPound i with
  | none => .next s
  | some i =>
    if s.fld Fld.CNL_SPILL_CFG_QMIN / 2 ≤ (l.filter inPound).length ∨ !s.partRoom cls 1 then .next s
    else if err.any Prod.snd then .next ((err.elim s fun e => s.resError e.1 true).discardSlot i true)
    else
      let s := err.elim s fun e => s.resError e.1 false
      let j := s.pickSlot false
      let x := s.cnl.slots.get i
      let swap : List Nat → List Nat := fun q => q.map fun y => if y = i then j else y
      let s := s.tick.updCnl fun n => { n with
        slots := (n.slots.erase i).set j x
        queues := n.queues.mapAll fun _ q => swap q }
      .next ((s.tally 0x083 dst.dest 1).settleSpill)

/-- CELL_AGE_DISCARD (R139): a cell other than CTL, or the accumulators of a context at an offset, whose age has come. -/
def execCellAgeDiscard (acc : Bool) (i u : Nat) (s : State) : Result :=
  if acc then
    let x := s.cnl.ctx.get i
    if x.isOpen ∧ x.acc.get u ≠ [] ∧ s.aged (x.first.get u).1 (x.first.get u).2 then .next (s.discardAcc i u false)
    else .next s
  else
    let x := s.cnl.slots.get i
    if s.cnl.slots.keys.contains i ∧ x.cell.cls ≠ 0 ∧ s.aged x.entered x.limit then .next (s.discardSlot i false)
    else .next s

/-- CTL_STUCK (R140): the cell stays queued. -/
def execCtlStuck (slot : Nat) (s : State) : Result :=
  let x := s.cnl.slots.get slot
  if s.cnl.slots.keys.contains slot ∧ x.cell.cls = 0 ∧ s.aged x.entered x.limit then .next s.stuck else .next s

/-- The attachment that a notice goes to (R142): of the engine that owns FLOW's berth by then, else the sender. -/
def State.noticeTo (s : State) (n : Notice) : Nat := n.ref.flow.elim n.src fun b => attEngine (s.berth b).owner

/-- DISCARD_NOTICE (R142, R456): the oldest notice, a CTL cell, reaches its owner. What a transport recovers needs
nothing (Table 5-7); a notice of an attempt already cancelled is ignored; otherwise the attempt is cancelled. -/
def execDiscardNotice (s : State) : Result :=
  match s.cnl.notices with
  | [] => .next s
  | n :: rest =>
    let s := (s.updCnl fun c => { c with notices := rest }).tally 0x081 (s.noticeTo n) 1
    if n.cls = 1 ∨ n.cls = 2 ∨ n.cls = 5 ∨ n.ref.owner = .transport ∨ s.cnl.cancels.any (fun c => c.ref.same n.ref) then .next s
    else .next ((s.cancelRef n.ref).updCnl fun c => { c with cancels := c.cancels ++ [n] })

/-- A command run again from PARSED after a discard, RETRY times as it stood when the command began, then Data Transfer
Error (Table 5-7, R145), whose queued cells are cancelled. Fetched data is fetched again; drive operations of the
attempt stay with the drives until they finish (R144). -/
def State.rerun (s : State) (b : Nat) : State :=
  let e := s.berth b
  if e.state = .free ∨ e.state = .done ∨ e.state = .queued then s
  else if e.retries ≤ e.attempts then (s.cancelFlow b).finishBerth b St.dataTransfer
  else s.updBerth b fun x => { x with
    state := .run, checkpoint := 2, attempts := x.attempts + 1, fetched := x.ownData, issued := false, waits := .nothing
    merged := none, placed := false, pieces := []
    cmd := if x.ownData ∨ !(x.cmd.opcode = 1 ∨ x.cmd.opcode = 5) then x.cmd else { x.cmd with data := [] }
    ops := (x.ops.filter fun o => o.onDrive && !o.finished).map fun o => { o with replanned := true } }

/-- A segment's write to one copy again, RETRY times as it stood when the segment was formed, then the member is lost (R145,
R460). -/
def State.retrySegment (s : State) (a p sseq : Nat) (copyA : Bool) : State :=
  let q := (s.mrd.arr.get a).pair p
  match (s.pairRun a p).segs.find? fun g => g.sseq == sseq with
  | none => s
  | some g =>
    let x := if copyA then q.roleA else q.roleB
    if g.retries ≤ g.attempts then s.loseRole a x
    else
      let off := if copyA then g.offA else g.offB
      let s := match (s.mrd.arr.get a).ringBay x with
        | some b => s.emit (.segment b (ringStart + off) (segBlocks g.recs))
        | none => s
      let bump : List Segment → List Segment := fun l => l.map fun y =>
        if y.sseq = sseq then { y with attempts := y.attempts + 1 } else y
      s.updPair a p fun r => { r with segs := bump r.segs }

/-- A stripe's destage reissued from the gather buffer, RETRY times as it stood when the destage began, then the member at
whose bay the cells were aimed is lost (Table 5-7, Table 7-6). -/
def State.retryDestage (s : State) (a st : Nat) (d : CellDst) : State :=
  let g := (s.ary.get a).gather.get st
  if g.running = [] then s
  else if g.attempts < g.retries then
    s.updGather a st fun x => { x with attempts := x.attempts + 1 }
  else match (s.mrd.arr.get a).roles.findIdx? fun r => r.liveBay == some d.sub with
    | some x => s.loseRole a x
    | none => s

/-- What follows a completed cancel (Table 5-7). -/
def State.afterCancel (s : State) (n : Notice) : State :=
  match n.ref.flow with
  | some b => s.rerun b
  | none =>
    match n.ref.owner with
    | .segment a p sseq copyA => s.retrySegment a p sseq copyA
    | .destage a st => s.retryDestage a st n.ref.dst
    | .staircase g i =>
      match (s.tug.stairs.get g)[i]? with
      | some t => s.updStair t.qp t.key fun x => { x with faulted := x.running.or (some 0), running := none, held := false }
      | none => s
    | .rebuild _ | .transport => s
    | .other => s.emit (.repeated n.ref.dst.dest n.ref.dst.tag)

/-- CANCEL_COMPLETE (R456): the oldest cancel whose earlier notices have all been delivered. -/
def execCancelComplete (s : State) : Result :=
  match s.cnl.cancels.find? fun c => !s.cnl.notices.any fun n => n.ref.same c.ref with
  | none => .next s
  | some c => .next ((s.updCnl fun n => { n with cancels := n.cancels.erase c }).afterCancel c)

/-- CNL_PART_CFG_WRITE (R136): taken where the reserves fit and none exceeds its cap. A partition above its new cap gets
no credit until it is below. -/
def execCnlPartCfgWrite (p : Fin 7) (v : Word32) (s : State) : Result :=
  let t := s.cfgWrite (Reg.CNL_PART_CFG p) v
  let fits := decide (((List.range 7).map t.partReserve).sum ≤ poundSlots) &&
    (List.range 7).all fun q => decide (t.partReserve q ≤ t.partCap q)
  let above := decide (t.partCap p < t.cnl.held p)
  .next (if fits then (t.updCnl fun c => { c with capped := c.capped.set p above }).settleSpill
    else s.raise Fld.CNL_STATUS_PART_ERR)

/-- CNL_SPILL_CFG_WRITE (R138): a new size waits for an empty spill area. -/
def execCnlSpillCfgWrite (v : Word32) (s : State) : Result :=
  let t := s.cfgWrite Reg.CNL_SPILL_CFG v
  let old := s.fld Fld.CNL_SPILL_CFG_SIZE_GIB
  let new := t.fld Fld.CNL_SPILL_CFG_SIZE_GIB
  if s.cnl.spilled = 0 ∨ old = new then .next ((t.updCnl fun c => { c with spillSize := none }).settleSpill)
  else .next (((t.setFld Fld.CNL_SPILL_CFG_SIZE_GIB old).moorReg Reg.CNL_SPILL_CFG).updCnl fun c =>
    { c with spillSize := some new }).settleSpill

/-- CNL_ATT_IDX_WRITE (Table 5-21): the snapshot of an attachment and class. -/
def execCnlAttIdxWrite (att : Fin 128) (cls : Fin 8) (s : State) : Result :=
  let here := fun k => queueAtt k == att.val && queueCls k == cls.val
  let qs := s.cnl.queues.filter fun e => here e.1
  let srcs := ((s.cnl.credits.keysWhere fun k n => here (k / 128) && n != []).map (· % 128)).eraseDups
  let s := (s.setFld Fld.CNL_ATT_IDX_ATT att).setFld Fld.CNL_ATT_IDX_CLASS cls
  let s := (s.setFld Fld.CNL_ATT_STAT_DEPTH ((qs.map fun e => e.2.length).sum % 2 ^ 20)).setFld
    Fld.CNL_ATT_STAT_SOURCES srcs.length
  let s := s.setFlag Fld.CNL_ATT_STAT_HELD (qs.any fun e => s.withheld e.1 0)
  .next (s.setFlag Fld.CNL_ATT_STAT_SPILLED (qs.any fun e => e.2.any fun i => !inPound i))

end Sys2Proof.Machine
end

