-- ==== Sys2Proof/Machine/Paddle.lean ====
section
/-! DEFINITION. The 48 paddles (13_paddles_weirs.md, R290 to R303 and Table 13-1). Removal of a drive is in
Machine/Bay.lean, since it reaches the arrays. -/

namespace Sys2Proof.Machine

/-- Codes of PDL_STATE.STATE (Table 13-8). -/
abbrev Pad.empty : Nat := 0
abbrev Pad.present : Nat := 1
abbrev Pad.queued : Nat := 2
abbrev Pad.rampAux : Nat := 3
abbrev Pad.rampMain : Nat := 4
abbrev Pad.on : Nat := 5
abbrev Pad.retry : Nat := 6
abbrev Pad.latched : Nat := 7
abbrev Pad.fetFault : Nat := 8

/-- States of a bay port (DRV_STATE.STATE, Table 12-11). -/
def Bay.empty : Nat := 0
def Bay.present : Nat := 1
def Bay.training : Nat := 2
def Bay.init : Nat := 3
def Bay.ready : Nat := 4
def Bay.ladder : Nat := 5
def Bay.failed : Nat := 6
def Bay.refused : Nat := 7
def Bay.off : Nat := 8

/-- DRV_STATE[b].STATE. -/
def State.bay (s : State) (b : Nat) : Nat := s.fld (Fld.DRV_STATE_STATE b)
/-- DRV_STATE[b].STATE set. -/
def State.setBay (s : State) (b st : Nat) : State := s.setFld (Fld.DRV_STATE_STATE b) st
/-- What the port of bay b holds beside DRV_STATE. -/
def State.bport (s : State) (b : Nat) : BayPort := s.port.get b

/-- PDL_STATE[b].STATE. -/
def State.pad (s : State) (b : Nat) : Nat := s.fld (Fld.PDL_STATE_STATE b)

/-- PDL_STATE[b].STATE set. -/
def State.setPad (s : State) (b st : Nat) : State := s.setFld (Fld.PDL_STATE_STATE b) st

/-- The paddle's inner state changed. -/
def State.updPad (s : State) (b : Nat) (f : Paddle → Paddle) : State :=
  s.updShelf fun h => { h with paddle := h.paddle.upd b f }

/-- ILIM × RS of both rails lies between 2.5 mV and 60 mV; the product of the fields counts 0.01 mV (R291). -/
def State.limitsValid (s : State) (b : Nat) : Bool :=
  let m := s.fld (Fld.PDL_CFG1_ILIM_MAIN b) * s.fld (Fld.PDL_SENSE_RS_MAIN b)
  let a := s.fld (Fld.PDL_CFG1_ILIM_AUX b) * s.fld (Fld.PDL_SENSE_RS_AUX b)
  decide (250 ≤ m ∧ m ≤ 6000 ∧ 250 ≤ a ∧ a ≤ 6000)

/-- Power-good of both rails and of the bay deasserted (R297); the 100 ms of PERST_N start again with the next. -/
def State.dropPg (s : State) (b : Nat) : State :=
  let s := s.updPort b fun p => { p with perstDue := false }
  ((s.setFld (Fld.PDL_STATE_PG_AUX b) 0).setFld (Fld.PDL_STATE_PG_MAIN b) 0).setFld (Fld.PDL_STATE_PG b) 0

/-- The drive port of a bay starts on its power-good (Table 12-5): from PRESENT, from OFF in a state that serves drives,
after the power cycle of rung 3, and from FAILED or REFUSED after one by manifest. -/
def State.startsOnPg (s : State) (b : Nat) : Bool :=
  let st := s.bay b
  let p := s.bport b
  st == Bay.present || (st == Bay.off && decide (s.fld Fld.TWP_PWR_STATE_CUR < 3)) ||
    (st == Bay.ladder && p.step == .cycling) || ((st == Bay.failed || st == Bay.refused) && p.repower)

/-- Bay power-good: both rails' together (R295), on which the drive port holds PERST_N for 100 ms (R283). -/
def State.bayPg (s : State) (b : Nat) : State :=
  if s.flag (Fld.PDL_STATE_PG_AUX b) ∧ s.flag (Fld.PDL_STATE_PG_MAIN b) ∧ !s.flag (Fld.PDL_STATE_PG b) then
    let s := (s.raise (Fld.PDL_STATE_PG b)).updPad b fun p => { p with pgSince := s.now }
    if s.startsOnPg b then
      let s := if (s.bport b).released then s.emit (.pin (.perst b) true) else s
      s.updPort b fun q => { q with perstDue := true, released := false }
    else s
  else s

/-- Both gates pulled low, the main rail's first (R298), every timer of the paddle stopped, power-good and
LIMIT deasserted. -/
def State.gatesLow (s : State) (b : Nat) : State :=
  let p := s.shelf.paddle.get b
  let s := if p.gateMain then s.emit (.pin (.gateMain b) false) else s
  let s := if p.gateAux then s.emit (.pin (.gateAux b) false) else s
  let s := s.updPad b fun _ => default
  (s.dropPg b).setFld (Fld.PDL_STATE_LIMIT b) 0

/-- The bay joins the enable queue (R294). -/
def State.enqueueBay (s : State) (b : Nat) : State :=
  (s.updShelf fun h => { h with queue := h.queue ++ [b] }).setPad b Pad.queued

/-- An enable command (R293, Table 13-1): refused with PDL_FAULT.CFG when a limit is out of range (R291).
A bay that is queued, ramping or on already has what the command asks for; an empty bay has no drive (log entry 62). -/
def State.enableBay (s : State) (b : Nat) : State :=
  let st := s.pad b
  if st = Pad.empty then s
  else if !s.limitsValid b then s.raise (Fld.PDL_FAULT_CFG b)
  else if st = Pad.present ∨ st = Pad.retry ∨ st = Pad.latched ∨ st = Pad.fetFault then
    let s := s.moorFld (Fld.PDL_STATE_INTENT b) 1
    let s := if st = Pad.present then s else
      (s.updPad b fun p => { p with retryTimer := false }).setFld (Fld.PDL_STATE_FAULTS b) 0
    s.enqueueBay b
  else s

/-- The main rail off and the auxiliary rail due to follow; the bay leaves the queue and its timers stop
(Table 13-1, disable). -/
def State.powerOff (s : State) (b : Nat) : State :=
  let p := s.shelf.paddle.get b
  let s := if p.gateMain then s.emit (.pin (.gateMain b) false) else s
  let s := s.updShelf fun h => { h with queue := h.queue.filter fun x => !(x == b) }
  let s := s.updPad b fun _ => { (default : Paddle) with gateAux := p.gateAux, auxOffDue := p.gateAux }
  (s.dropPg b).setFld (Fld.PDL_STATE_LIMIT b) 0

/-- A disable command (Table 13-1). -/
def State.disableBay (s : State) (b : Nat) : State :=
  let st := s.pad b
  if st = Pad.empty ∨ st = Pad.present then s
  else ((s.powerOff b).moorFld (Fld.PDL_STATE_INTENT b) 0).setPad b Pad.present

/-- A cycle command: an ON bay goes off and rejoins the queue after CYCLE_OFF; in any other state the command
acts as an enable (R300). -/
def State.cycleBay (s : State) (b : Nat) : State :=
  if s.pad b = Pad.on then
    ((s.powerOff b).updPad b fun p => { p with cycleOff := true }).setPad b Pad.queued
  else s.enableBay b

/-- The bay's action of BAY_POWER (Table 13-6). One that takes the power of a FAILED or REFUSED bay away lets it train
again (Table 12-5). -/
def State.bayAction (s : State) (a : BayAction) (b : Nat) : State :=
  let st := s.bay b
  let again := fun (s : State) =>
    if st = Bay.failed ∨ st = Bay.refused then s.updPort b fun p => { p with repower := true } else s
  match a with
  | .enable => s.enableBay b
  | .disable => again (s.disableBay b)
  | .cycle => again (s.cycleBay b)

/-- Bays that are ramping (R294). -/
def State.ramping (s : State) : Nat :=
  ((List.range 48).filter fun b => s.pad b == Pad.rampAux || s.pad b == Pad.rampMain).length

/-- The bay is ramping or on, so its rails can fault (Table 13-1). -/
def State.powering (s : State) (b : Nat) : Bool :=
  s.pad b == Pad.rampAux || s.pad b == Pad.rampMain || s.pad b == Pad.on

/-- A fault, TIMER or SHORT by its field of PDL_FAULT (R298): gates low, FAULTS advanced, then RETRY or
LATCHED. -/
def State.padFault (s : State) (b : Nat) (cause : Fld) : State :=
  let s := ((s.gatesLow b).raise cause).count (Fld.PDL_STATE_FAULTS b) 1
  let s := s.count (Fld.PDL_CNT_FAULTS b) 1
  let mx := s.fld (Fld.PDL_CFG0_RETRY_MAX b)
  if s.fld (Fld.PDL_CFG0_RETRY b) = 0 ∨ (mx ≠ 0 ∧ mx ≤ s.fld (Fld.PDL_STATE_FAULTS b)) then
    (s.raise (Fld.PDL_FAULT_LATCH b)).setPad b Pad.latched
  else (s.updPad b fun p => { p with retryTimer := true }).setPad b Pad.retry

/-- A damaged FET (R296): both rails off, no retry. -/
def State.fetFault (s : State) (b : Nat) (cause : Fld) : State :=
  ((s.gatesLow b).raise cause).setPad b Pad.fetFault

/-- PRESENCE_STABLE (R299, R300): the bay becomes PRESENT and the lockkeeper is told; its drive port follows
(Table 12-5). -/
def execPresenceStable (bay : Fin 48) (s : State) : Result :=
  if s.pad bay = Pad.empty then
    let s := (s.setPad bay Pad.present).raise (Fld.PDL_STATE_PRESENT bay)
    let s := (s.count (Fld.PDL_CNT_INSERTS bay) 1).setFld (Fld.DRV_STATE_STATE bay) 1
    .next (s.emit (.lockkeeper 1 bay))
  else .next s

/-- PDL_CMD_ENABLE (R293). -/
def execPdlCmdEnable (bay : Fin 48) (s : State) : Result := .next (s.enableBay bay)

/-- PDL_CMD_DISABLE (R300). -/
def execPdlCmdDisable (bay : Fin 48) (s : State) : Result := .next (s.disableBay bay)

/-- PDL_CMD_CYCLE (R300). -/
def execPdlCmdCycle (bay : Fin 48) (s : State) : Result := .next (s.cycleBay bay)

/-- BAY_POWER's effects (Table 13-6): bays in ascending order (R294); the receipt gives each bay's state
after queueing and the bays refused with CFG. -/
def bayPowerBody (bays : Nat) (action : BayAction) (s : State) : MRes :=
  let l := bitSet 48 bays
  if 2 ^ 48 ≤ bays then .fail .outOfRange []
  else
    let t := l.foldl (fun s b => s.bayAction action b) s
    let bad := l.filter fun b => !s.limitsValid b && s.pad b != Pad.empty &&
      (action == .enable || (action == .cycle && s.pad b != Pad.on))
    let ps := [l.map fun b => BitVec.ofNat 8 (t.pad b),
               beBytes 8 (bad.foldl (fun a b => a + 2 ^ b) 0)]
    if l = [] then .zero t ps else .ok t ps

/-- BAY_POWER (0x0710, R310). -/
def execBayPower (h : Hdr) (bays : Nat) (action : BayAction) (s : State) : Result :=
  .next (s.manifest (.bayPower bays action) h 0x0710 ((bitSet 48 bays).map fun b => (.bay, b))
    (bayPowerBody bays action))

/-- RAMP_START (R294): the oldest queued bay starts its auxiliary ramp when fewer than MAX_RAMP bays ramp and
STAGGER ms have passed since the last start. A device in the STANDBY role holds its gates low, or, self-fenced, keeps
every paddle as it stands (R302). -/
def execRampStart (s : State) : Result :=
  match s.shelf.queue with
  | [] => .next s
  | b :: q =>
    if s.ramping < s.fld Fld.PDL_GLB_MAX_RAMP ∧
        (s.shelf.ramped = false ∨ s.shelf.lastRamp + s.fld Fld.PDL_GLB_STAGGER * 1000000 ≤ s.now) ∧
        s.fld Fld.AQD_ROLE_ROLE ≠ 2 then
      let s := s.updShelf fun h => { h with queue := q, lastRamp := s.now, ramped := true }
      let s := s.updPad b fun p => { p with gateAux := true, auxOffDue := false, cycleOff := false }
      .next ((s.emit (.pin (.gateAux b) true)).setPad b Pad.rampAux)
    else .next s

/-- RAIL_FULL_ENHANCEMENT (R295, step 2): the rail's gate is driven with the full charge pump. -/
def execRailFullEnhancement (bay : Fin 48) (main : Bool) (s : State) : Result :=
  if main then
    if (s.shelf.paddle.get bay).gateMain then .next (s.updPad bay fun p => { p with enhMain := true })
    else .next s
  else
    if (s.shelf.paddle.get bay).gateAux then .next (s.updPad bay fun p => { p with enhAux := true })
    else .next s

/-- RAIL_POWER_GOOD (R295, R297): on a tick on which the rail's VOUT and gate check meet R295, its power-good
asserts unless the fault timer runs. The auxiliary rail's starts the main ramp; both together are the bay's,
on which its drive port acts (R283). -/
def execRailPowerGood (bay : Fin 48) (main : Bool) (s : State) : Result :=
  let p := s.shelf.paddle.get bay
  if p.faultTimer then .next s
  else if main then
    if p.enhMain ∧ (s.pad bay = Pad.rampMain ∨ s.pad bay = Pad.on) then
      .next (((s.raise (Fld.PDL_STATE_PG_MAIN bay)).setPad bay Pad.on).bayPg bay)
    else .next s
  else
    if p.enhAux ∧ s.pad bay = Pad.rampAux then
      let s := (s.raise (Fld.PDL_STATE_PG_AUX bay)).updPad bay fun p => { p with gateMain := true }
      .next ((s.emit (.pin (.gateMain bay) true)).setPad bay Pad.rampMain)
    else if p.enhAux ∧ (s.pad bay = Pad.rampMain ∨ s.pad bay = Pad.on) then
      .next ((s.raise (Fld.PDL_STATE_PG_AUX bay)).bayPg bay)
    else .next s

/-- GATE_CHECK_TIMEOUT (R296): cause GATE. -/
def execGateCheckTimeout (bay : Fin 48) (main : Bool) (s : State) : Result :=
  let p := s.shelf.paddle.get bay
  if (s.pad bay = Pad.rampAux ∧ main = false ∧ p.enhAux) ∨ (s.pad bay = Pad.rampMain ∧ main ∧ p.enhMain) then
    .next (s.fetFault bay (Fld.PDL_FAULT_GATE bay))
  else .next s

/-- RAMP_STALL_TIMEOUT (R296): cause RAMP, while the fault timer is not running. -/
def execRampStallTimeout (bay : Fin 48) (main : Bool) (s : State) : Result :=
  let p := s.shelf.paddle.get bay
  if p.faultTimer = false ∧ ((s.pad bay = Pad.rampAux ∧ main = false ∧ p.enhAux = false) ∨
      (s.pad bay = Pad.rampMain ∧ main ∧ p.enhMain = false)) then
    .next (s.fetFault bay (Fld.PDL_FAULT_RAMP bay))
  else .next s

/-- CURRENT_LIMIT_ONSET (R291, R297): LIMIT, the fault timer runs, power-good is deasserted. -/
def execCurrentLimitOnset (bay : Fin 48) (main : Bool) (s : State) : Result :=
  let p := s.shelf.paddle.get bay
  if s.powering bay ∧ (if main then p.gateMain else p.gateAux) then
    let s := s.updPad bay fun p =>
      { p with limMain := p.limMain || main, limAux := p.limAux || !main, faultTimer := true }
    .next ((s.dropPg bay).raise (Fld.PDL_STATE_LIMIT bay))
  else .next s

/-- CURRENT_LIMIT_CLEAR (R291, R297): neither rail at its limit; the timer stops and resets. -/
def execCurrentLimitClear (bay : Fin 48) (s : State) : Result :=
  let s := s.updPad bay fun p => { p with limMain := false, limAux := false, faultTimer := false }
  .next (s.setFld (Fld.PDL_STATE_LIMIT bay) 0)

/-- FAULT_TIMER_EXPIRY (R297, R298): fault TIMER. -/
def execFaultTimerExpiry (bay : Fin 48) (s : State) : Result :=
  if s.powering bay ∧ (s.shelf.paddle.get bay).faultTimer then
    .next (s.padFault bay (Fld.PDL_FAULT_TIMER bay))
  else .next s

/-- RAIL_SHORT (R292): fault SHORT without waiting for the timer. -/
def execRailShort (bay : Fin 48) (main : Bool) (s : State) : Result :=
  let p := s.shelf.paddle.get bay
  if s.powering bay ∧ (if main then p.gateMain else p.gateAux) then
    .next (s.padFault bay (Fld.PDL_FAULT_SHORT bay))
  else .next s

/-- PADDLE_RETRY_EXPIRY (R298, step 4): the bay rejoins the enable queue. -/
def execPaddleRetryExpiry (bay : Fin 48) (s : State) : Result :=
  if s.pad bay = Pad.retry ∧ (s.shelf.paddle.get bay).retryTimer then
    let s := s.updPad bay fun p => { p with retryTimer := false }
    .next ((s.count (Fld.PDL_CNT_RETRIES bay) 1).enqueueBay bay)
  else .next s

/-- FAULT_COUNT_CLEAR (R298): bay power-good has held for 60 s. -/
def execFaultCountClear (bay : Fin 48) (s : State) : Result :=
  if s.flag (Fld.PDL_STATE_PG bay) ∧ (s.shelf.paddle.get bay).pgSince + 60000000000 ≤ s.now then
    .next (s.setFld (Fld.PDL_STATE_FAULTS bay) 0)
  else .next s

/-- AUX_RAIL_OFF (Table 13-1): main VOUT is below 1 V, or 100 ms have passed. -/
def execAuxRailOff (bay : Fin 48) (s : State) : Result :=
  if (s.shelf.paddle.get bay).auxOffDue then
    let s := s.updPad bay fun p => { p with gateAux := false, auxOffDue := false }
    .next (s.emit (.pin (.gateAux bay) false))
  else .next s

/-- CYCLE_OFF_EXPIRY (Table 13-1): the cycled bay joins the queue. -/
def execCycleOffExpiry (bay : Fin 48) (s : State) : Result :=
  if s.pad bay = Pad.queued ∧ (s.shelf.paddle.get bay).cycleOff then
    .next ((s.updPad bay fun p => { p with cycleOff := false }).enqueueBay bay)
  else .next s

/-- The registers given, written for each bay of the set (Table 13-6, R312). -/
def paddleCfgBody (bays : Nat) (cfg0 cfg1 sense : Option Word32) (s : State) : MRes :=
  let put := fun (s : State) (a : Nat) (v : Option Word32) => match v with
    | none => s
    | some w => s.cfgWrite a w
  let l := bitSet 48 bays
  if 2 ^ 48 ≤ bays then .fail .outOfRange []
  else
    let t := l.foldl (fun s b =>
      put (put (put s (Reg.PDL_CFG0 b) cfg0) (Reg.PDL_CFG1 b) cfg1) (Reg.PDL_SENSE b) sense) s
    if l = [] then .zero t [] else .ok t []

/-- PADDLE_CFG (0x0711, R310). -/
def execPaddleCfg (h : Hdr) (bays : Nat) (cfg0 cfg1 sense : Option Word32) (s : State) : Result :=
  .next (s.manifest (.paddleCfg bays cfg0 cfg1 sense) h 0x0711
    ((bitSet 48 bays).map fun b => (.bay, b)) (paddleCfgBody bays cfg0 cfg1 sense))

/-- State, faults, measurements and counters of each bay of the set (Table 13-6). What is measured is free (log entry 1). -/
def paddleQueryBody (bays : Nat) (s : State) : MRes :=
  let l := bitSet 48 bays
  let word := fun (a : Nat → Nat) => l.flatMap fun b => beBytes 4 (s.reg (a b)).toNat
  if 2 ^ 48 ≤ bays then .fail .outOfRange []
  else
    let meas := fun (k : Nat) => ((List.range l.length).flatMap fun i =>
      beBytes 4 (Config.freeNat (s.free + 2 * i + k) % 2 ^ 24))
    let ps := [word Reg.PDL_STATE, word Reg.PDL_FAULT, meas 0, meas 1, word Reg.PDL_CNT]
    if l = [] then .zero s ps else .ok { s with free := s.free + 2 * l.length } ps

/-- PADDLE_QUERY (0x0712, R310). -/
def execPaddleQuery (h : Hdr) (bays : Nat) (s : State) : Result :=
  .next (s.manifest (.paddleQuery bays) h 0x0712 ((bitSet 48 bays).map fun b => (.bay, b))
    (paddleQueryBody bays))

end Sys2Proof.Machine
end

