-- ==== Sys2Proof/Machine/Drive.lean ====
section
/-! DEFINITION. The drive ports (12_drive_ports.md): bay states, initialisation, operations and their ends, the
abort/reset ladder, idle timers, and the bay sideband. -/

namespace Sys2Proof.Machine

/-- The device holds the bollard lease or runs solo, so that it owns muxes, buses and streams (R274, R287). -/
def State.owns (s : State) : Bool := s.isSolo || s.flag Fld.AQD_LEASE_STAT_HOLDER

/-- MUX_SEL_N of group `g` asserted or released (R274). -/
def State.mux (s : State) (g : Nat) (on : Bool) : State :=
  if s.flag (Fld.DRV_GRP_STAT_MUX_ASSERTED g) = on then s
  else (s.setFlag (Fld.DRV_GRP_STAT_MUX_ASSERTED g) on).emit (.pin (.muxSel g) on)

/-- PERST_N of a bay asserted or released. -/
def State.perst (s : State) (b : Nat) (on : Bool) : State :=
  (s.updPort b fun p => { p with released := !on }).emit (.pin (.perst b) on)

/-- The link of a bay is down: nothing trained, nothing created. -/
def State.bayDown (s : State) (b : Nat) : State :=
  ((s.setReg (Reg.DRV_STATE b) ((s.reg (Reg.DRV_STATE b)) &&& 0x0010000F)).setReg (Reg.DRV_QUEUES b) 0)

/-- Link training starts in the mode its group is set to, the mux asserted first (R273, R274, Table 12-5). -/
def State.train (s : State) (b : Nat) : State :=
  let g := b / 3
  let mode := s.fld (Fld.DRV_GRP_CFG_MODE g)
  let s := if mode = 2 ∧ s.owns then s.mux g true else s
  let s := s.updPort b fun p => { p with mode := mode, perstDue := false }
  (s.perst b false).driveCtl b .train

/-- The bay enters TRAINING. -/
def State.toTraining (s : State) (b : Nat) : State :=
  let s := (s.bayDown b).updPort b fun p => { p with windows := 0, pulse := false, step := .none, cycled := false, repower := false,
                                                     timedOut := [], removed := [] }
  (s.train b).setBay b Bay.training

/-- DRIVE_PERST_RELEASE (R283): 100 ms after power-good or a reset, or of the power cycle of rung 3. Drive ports leave
PRESENT at T9, and those of a mode-2 group only on the device that owns its mux (R274, Table 18-2, Table 14-7). -/
def execDrivePerstRelease (bay : Fin 48) (s : State) : Result :=
  if !(s.bport bay).perstDue ∨ s.bay bay = Bay.empty ∨ !s.rst.baysUp ∨
      (s.fld (Fld.DRV_GRP_CFG_MODE (bay / 3)) = 2 ∧ !s.owns) then .next s
  else if s.bay bay = Bay.ladder then
    .next ((s.train bay).updPort bay fun p => { p with step := .training })
  else .next (s.toTraining bay)

/-- A lockkeeper core runs (R332): firmware performs the drives' initialisation and rung 3 (R276, Table 12-6). -/
def State.lkUp (s : State) : Bool := !s.pair.lkDown

/-- The trained rate and width are of service (R272): MIN_GEN or above, and the width of the group's mode. -/
def State.linkServes (s : State) (b speed width : Nat) : Bool :=
  decide (s.fld Fld.DRV_CFG_MIN_GEN ≤ speed) && width == (if (s.bport b).mode = 1 then 2 else 4)

/-- Firmware begins to initialise the drive of a bay, under DRV_CFG as it then is (R276, R289). -/
def State.startInit (s : State) (b : Nat) : State :=
  (s.updPort b fun p => { p with cfg := some (s.reg Reg.DRV_CFG) }).driveCtl b .init

/-- A field of DRV_CFG as it applies to a bay: of the register as the bay last entered INIT (R289). -/
def State.drvCfg (s : State) (b : Nat) (f : Fld) : Nat :=
  bitsOf ((s.bport b).cfg.getD (s.reg Reg.DRV_CFG)).toNat f.lo f.w

/-- DRIVE_LINK_UP (R283): a link that meets R272 takes the bay to INIT, on rung 3 to its initialisation. -/
def execDriveLinkUp (bay : Fin 48) (speed width : Nat) (s : State) : Result :=
  let up := fun (s : State) =>
    ((s.setFld (Fld.DRV_STATE_SPEED bay) speed).setFld (Fld.DRV_STATE_WIDTH bay) width).startInit bay
  if !s.linkServes bay speed width then .next s
  else if s.bay bay = Bay.training ∧ !(s.bport bay).pulse then .next ((up s).setBay bay Bay.init)
  else if s.bay bay = Bay.ladder ∧ (s.bport bay).step = .training ∧ s.lkUp then
    .next ((up s).updPort bay fun p => { p with step := .init })
  else .next s

/-- Berths whose completion is posted and whose operations have finished are released (R109). -/
def State.releaseDone (s : State) : State :=
  (s.berths fun b => b.state == .done && b.posted && b.ops.all (·.finished)).foldl State.releaseBerth s

/-- The drive of a bay is gone: its operations end, and the role it holds is lost (R157, R282, R283). -/
def State.bayGone (s : State) (b : Nat) : State :=
  let s := s.updPort b fun p => { p with step := .none, timedOut := [], removed := [], shutdown := false, pulse := false }
  let s := (s.setFld (Fld.DRV_STATE_RUNG b) 0).bayDown b
  let live := s.berths fun e => e.state == .wait
  let a := s.mrd.arr.get ((s.bayArray b).getD 0)
  let s := ((s.bayLost b).dropOps a b).logEvent EventKind.drive.code b
  (live.foldl State.wake s).releaseDone

/-- TRAINING_WINDOW_EXPIRY (R283): after the first 1 s window PERST_N is pulsed and a second begins at its release;
after the second the bay has failed. -/
def execTrainingWindowExpiry (bay : Fin 48) (s : State) : Result :=
  let p := s.bport bay
  if s.bay bay ≠ Bay.training ∨ p.pulse then .next s
  else if p.windows = 0 then
    .next ((s.perst bay true).updPort bay fun p => { p with windows := 1, pulse := true })
  else
    let s := if p.mode = 2 then s.raise (Fld.DRV_GRP_STAT_TRAIN_FAIL (bay / 3)) else s
    .next ((s.setBay bay Bay.failed).bayGone bay)

/-- What stands on the drive of this serial number as the device last saw it, in a bay or away from its bays. -/
def State.knownMedium (s : State) (serial : Nat) : Option Medium :=
  ((s.drives.map Prod.snd ++ s.away).find? fun d => d.id.serial == serial).map Drive.medium

/-- The drive in a bay, which it has left every other place for; the one that stood there is away. -/
def State.putDrive (s : State) (b : Nat) (d : Drive) : State :=
  let old := s.drives.get b
  let gone := if old = default ∨ old.id.serial = d.id.serial then [] else [old]
  let rest := s.drives.mapAll fun _ x => if x.id.serial = d.id.serial then default else x
  { s with drives := rest.set b d, away := (s.away.filter fun x => x.id.serial != d.id.serial) ++ gone }

/-- What firmware found and created (R276, R277): the drive's identity, its queues and MDTS, FUA where a cache stays
on. What stands on it is what the device left there, or `content` where another has written to it (log entry 35). -/
def State.driveFound (s : State) (b : Nat) (id : DriveId) (content : Option Medium) : State :=
  let s := s.putDrive b ⟨id, (content.map Medium.canon).getD ((s.knownMedium id.serial).getD default)⟩
  let depth := 64 * 2 ^ s.drvCfg b Fld.DRV_CFG_QDEPTH
  let s := s.setFld (Fld.DRV_QUEUES_IOQ b) (min id.ioqGrant (s.drvCfg b Fld.DRV_CFG_IOQ_MAX))
  let s := s.setFld (Fld.DRV_QUEUES_DEPTH b) (min (id.mqes + 1) depth)
  let s := s.setFld (Fld.DRV_QUEUES_MDTS_KIB b) (min id.mdtsKib 8191)
  let s := s.setFlag (Fld.DRV_STATE_FUA_FORCED b) (id.volatileCache && !id.cacheOff)
  s.setFlag (Fld.DRV_STATE_META64 b) id.meta64

/-- Operations of every berth on a bay that has become READY: what its commands did without counts as finished, the
rest is issued (R282, R62). -/
def State.resumeBay (s : State) (b : Nat) : State :=
  let s := s.updPort b fun p => { p with step := .none, cycled := false, timedOut := [], removed := [] }
  let s := (s.setFld (Fld.DRV_STATE_RUNG b) 0).setBay b Bay.ready
  let mine := s.berths fun e => e.issued && e.ops.any fun o => o.bay == b && !o.finished
  let s := mine.foldl (fun s x => (s.updBerth x fun e => { e with ops := e.ops.map fun o =>
    if o.bay = b ∧ o.replanned ∧ !o.onDrive then { o with finished := true } else o }).issueOps x) s
  s.releaseDone

/-- A drive reported READY to arrays and spare pools (Table 12-5); a paired device registers its key on it (R326). -/
def State.bayReady (s : State) (b : Nat) : State :=
  let s := s.resumeBay b
  let s := if !s.isSolo ∧ (s.bport b).mode = 1 then s.driveCtl b .register else s
  s.bindSpares

/-- DRIVE_INIT_COMPLETE (R276, R277, R282): READY, or REFUSED where a check fails; on rung 3 the ladder succeeds. -/
def execDriveInitComplete (bay : Fin 48) (id : DriveId) (content : Option Medium) (s : State) : Result :=
  if s.bay bay = Bay.init then
    let t := s.driveFound bay id content
    if t.failedCheck bay id = 0 then .next (t.bayReady bay) else .next ((t.setBay bay Bay.refused).bayGone bay)
  else if s.bay bay = Bay.ladder ∧ (s.bport bay).step = .init ∧ s.lkUp then
    let t := s.driveFound bay id content
    if t.failedCheck bay id = 0 then .next (t.bayReady bay) else .next t
  else .next s

/-- DRIVE_INIT_TIMEOUT (R283). -/
def execDriveInitTimeout (bay : Fin 48) (s : State) : Result :=
  if s.bay bay = Bay.init then .next ((s.setBay bay Bay.failed).bayGone bay) else .next s

/-- An address of the space a drive sees (Table 12-4): the rings of the queues created, and, while an operation is
outstanding, PRP list pages and data pages (R275). -/
def State.driveSpace (s : State) (b : Nat) (addr : Nat) : Bool :=
  let ring := fun (base size : Nat) =>
    let q := (addr - base) / 0x10000
    let n := if q = 0 then 32 else s.fld (Fld.DRV_QUEUES_DEPTH b)
    decide (base ≤ addr ∧ q ≤ s.fld (Fld.DRV_QUEUES_IOQ b) ∧ (addr - base) % 0x10000 < n * size)
  ring 0 64 || ring 0x800000 16 || (decide (2 ^ 62 ≤ addr) && decide (0 < s.outstanding b))

/-- DRIVE_MEMORY_READ (R144, R275): served, or answered with Unsupported Request and counted. `tag` is the landing tag
of the cells whose bytes are read, where data is: bytes of a cell that has been discarded get Completer Abort. -/
def execDriveMemoryRead (bay : Fin 48) (addr : Word64) (tag : Option Word32) (s : State) : Result :=
  let ok := s.driveSpace bay addr.toNat
  if ok ∧ (tag.any fun t => s.cnl.lost.contains (bay.val, t.toNat)) then .next (s.driveCtl bay (.abortRead addr.toNat))
  else
    let s := s.driveCtl bay (.memory addr.toNat false ok)
    .next (if ok then s else s.updPort bay fun p => { p with badReads := p.badReads + 1 })

/-- DRIVE_MEMORY_WRITE (R275): taken into the drive group, or discarded and counted. -/
def execDriveMemoryWrite (bay : Fin 48) (addr : Word64) (s : State) : Result :=
  let ok := s.driveSpace bay addr.toNat
  let s := s.driveCtl bay (.memory addr.toNat true ok)
  .next (if ok then s else s.updPort bay fun p => { p with badWrites := p.badWrites + 1 })

/-- The ladder ended with its bay READY again and no rung in progress (R282). -/
def State.rung1Done (s : State) (b : Nat) : State :=
  (s.setFld (Fld.DRV_STATE_RUNG b) 0).setBay b Bay.ready

/-- Operation `i` of a berth has finished (R109, R111). -/
def State.opFinished (s : State) (x i : Nat) (o : PlanOp) : State :=
  let s := s.updBerth x fun e => { e with ops := e.ops.set i { o with finished := true, onDrive := false } }
  let s := s.updPort o.bay fun p => { p with timedOut := p.timedOut.filter fun t => t != (x, i) }
  let s := if s.bay o.bay = Bay.ladder ∧ s.fld (Fld.DRV_STATE_RUNG o.bay) = 1 ∧ (s.bport o.bay).timedOut = [] then
      s.rung1Done o.bay else s
  (s.wake x).releaseBerth x

/-- An operation ended in error (R279): issued again while it may be, then a block that is unreadable, or a failed
member write. -/
def State.opError (s : State) (x i : Nat) (o : PlanOp) (again : Bool) : State :=
  if again ∧ o.reissues < s.fld Fld.DRV_CFG_RETRY then
    let s := s.updBerth x fun e => { e with ops := e.ops.set i { o with onDrive := false, reissues := o.reissues + 1 } }
    (s.tally 0x107 o.bay 1).issueOp x i
  else if o.write then ((s.opFinished x i o).bayLost o.bay).releaseDone
  else
    let s := s.badBlock o.bay o.blk
    s.opFinished x i o

/-- A drive's answer to operation `i` of a berth (R279). -/
def State.opAnswer (s : State) (x i : Nat) (o : PlanOp) (r : DriveResult) : State :=
  let t := s.tallyOps [o]
  match r with
  | .ok => t.opFinished x i o
  | .aborted => s.opFinished x i o
  | .unreadable =>
    (s.badBlock o.bay o.blk).opFinished x i o
  | .error => s.opError x i o true
  | .errorDnr => s.opError x i o false

/-- DRIVE_COMPLETION (R278, R279, R282): an operation of a plan ends, or the queues of rung 2 are recreated. An entry
for an operation that a rung removed is discarded and counted; one for a berth without an owner is held (R457). -/
def execDriveCompletion (bay : Fin 48) (e : DriveEntry) (s : State) : Result :=
  match e with
  | .recreated =>
    if s.bay bay = Bay.ladder ∧ s.fld (Fld.DRV_STATE_RUNG bay) = 2 then .next (s.resumeBay bay) else .next s
  | .op x i r =>
    match (s.berth x).ops[i]? with
    | none => .next s
    | some o =>
      if o.bay ≠ bay.val then .next s
      else if !o.onDrive then
        if (s.bport bay).removed.contains (x.val, i) then
          .next (s.updPort bay fun p => { p with late := p.late + 1 })
        else .next s
      else if (s.berth x).orphan then
        .next (s.updBerth x fun e => { e with ops := e.ops.set i { o with heldBack := some r } })
      else .next (s.opAnswer x i o r)

/-- A rung of the ladder begins: DRV_STATE, its count, the tally (Table 12-6, Table 12-12). -/
def State.rung (s : State) (b n : Nat) (f : Fld) : State :=
  let s := ((s.setBay b Bay.ladder).setFld (Fld.DRV_STATE_RUNG b) n).count f 1
  s.tally (0x103 + n) b 1

/-- I/O queue that an operation of a berth stands on (R278). -/
def State.opQueue (s : State) (b x : Nat) : Nat := 1 + (s.berth x).owner % max 1 (s.fld (Fld.DRV_QUEUES_IOQ b))

/-- DRIVE_COMMAND_TIMEOUT (R280): rung 1 aborts the command; a further timeout joins the rung in progress. -/
def execDriveCommandTimeout (bay : Fin 48) (berth : Fin 262144) (op : Nat) (s : State) : Result :=
  match (s.berth berth).ops[op]? with
  | none => .next s
  | some o =>
    if o.bay ≠ bay.val ∨ !o.onDrive ∨ (s.bport bay).timedOut.contains (berth.val, op) then .next s
    else
      let s := (s.count (Fld.DRV_ERR_STAT_TMO bay) 1).tally 0x103 bay 1
      let s := s.updPort bay fun p => { p with timedOut := p.timedOut ++ [(berth.val, op)] }
      let s := if s.bay bay = Bay.ready then s.rung bay 1 (Fld.DRV_ERR_STAT_ABORTS bay) else s
      .next (if s.fld (Fld.DRV_STATE_RUNG bay) = 1 then s.driveCtl bay (.abort (s.opQueue bay berth)) else s)

/-- Operations that a rung removes from the drive (R282): `p` says which. Reads outstanding are planned again where
their stripes allow (R281). Queued cells of what is abandoned are cancelled (R143). -/
def State.removeOps (s : State) (b : Nat) (p : Nat → Nat → Bool) : State :=
  (s.berths fun e => e.ops.any fun o => o.bay == b && o.onDrive && !o.finished).foldl (fun s x =>
    let e := s.berth x
    let a := s.mrd.arr.get e.ns.array
    let gone := e.ops.zipIdx.filter fun o => o.1.bay == b && o.1.onDrive && !o.1.finished && p x o.2
    let again := fun (o : PlanOp) => o.bay == b && o.onDrive && !o.finished && !o.write && !o.replanned &&
      (s.survivors a o).isSome
    let more := (e.ops.filter again).flatMap fun o => (s.survivors a o).getD []
    let ops := e.ops.zipIdx.map fun o =>
      let o' := if again o.1 then { o.1 with replanned := true } else o.1
      if gone.any (fun g => g.2 == o.2) then { o' with onDrive := false } else o'
    let s := s.updPort b fun q => { q with removed := q.removed ++ gone.map fun g => (x, g.2) }
    let s := if gone = [] then s else s.cancelOp x b
    (s.updBerth x fun e => { e with ops := ops ++ more }).issueOps x) s

/-- RUNG1_EXPIRY (R280, R281): rung 2 deletes and recreates each queue that holds a timed-out command. -/
def execRung1Expiry (bay : Fin 48) (s : State) : Result :=
  if s.bay bay = Bay.ladder ∧ s.fld (Fld.DRV_STATE_RUNG bay) = 1 then
    let qs := ((s.bport bay).timedOut.map fun t => s.opQueue bay t.1).eraseDups
    let s := s.rung bay 2 (Fld.DRV_ERR_STAT_QRESETS bay)
    let s := qs.foldl (fun s q => s.driveCtl bay (.recreate q)) s
    .next (s.removeOps bay fun x _ => qs.contains (s.opQueue bay x))
  else .next s

/-- Rung 3 begins: nothing stays on the drive (R280, R282). The lockkeeper performs it (R29, Table 12-6): while neither
core runs, only its time counts. -/
def State.rung3 (s : State) (b : Nat) (step : RungStep) : State :=
  let s := s.rung b 3 (Fld.DRV_ERR_STAT_CRESETS b)
  let s := s.updPort b fun p => { p with mayCycle := s.flag Fld.DRV_TMO_CFG_PWRCYCLE_EN }
  if !s.lkUp then s.updPort b fun p => { p with step := .none, cycled := false } else
  let s := (s.updPort b fun p => { p with step := step, cycled := false }).removeOps b fun _ _ => true
  match step with
  | .ready => s.driveCtl b .disable
  | _ => s.perst b true

/-- RUNG2_EXPIRY (R280): firmware writes CC.EN := 0. -/
def execRung2Expiry (bay : Fin 48) (s : State) : Result :=
  if s.bay bay = Bay.ladder ∧ s.fld (Fld.DRV_STATE_RUNG bay) = 2 then .next (s.rung3 bay .ready) else .next s

/-- The link of a bay is lost: the ladder starts at rung 3, with PERST_N at once (R280). -/
def State.driveLinkLost (s : State) (b : Nat) : State :=
  if s.bay b = Bay.ready ∨ (s.bay b = Bay.ladder ∧ s.fld (Fld.DRV_STATE_RUNG b) ≤ 2) then
    (s.rung3 b .pulse).bayDown b |>.setFld (Fld.DRV_STATE_RUNG b) 3
  else s

/-- DRIVE_LINK_LOSS (R280). -/
def execDriveLinkLoss (bay : Fin 48) (s : State) : Result := .next (s.driveLinkLost bay)

/-- CSTS_RDY_CLEAR (R280): firmware proceeds to INIT. -/
def execCstsRdyClear (bay : Fin 48) (s : State) : Result :=
  if s.bay bay = Bay.ladder ∧ (s.bport bay).step = .ready ∧ s.lkUp then
    .next ((s.updPort bay fun p => { p with step := .init }).startInit bay)
  else .next s

/-- READY_WAIT_EXPIRY (R280): CSTS.RDY stays 1. -/
def execReadyWaitExpiry (bay : Fin 48) (s : State) : Result :=
  if s.bay bay = Bay.ladder ∧ (s.bport bay).step = .ready ∧ s.lkUp then
    .next ((s.updPort bay fun p => { p with step := .pulse }).perst bay true)
  else .next s

/-- PERST_PULSE_END (R280, R283): the link retrains; where it does not, rung 3 cycles the bay's power if it may. Between
the two training windows, the second begins. -/
def execPerstPulseEnd (bay : Fin 48) (trains : Bool) (s : State) : Result :=
  let p := s.bport bay
  if s.bay bay = Bay.training ∧ p.pulse then
    .next ((s.train bay).updPort bay fun p => { p with pulse := false })
  else if s.bay bay = Bay.ladder ∧ p.step = .pulse ∧ s.lkUp then
    let s := s.train bay
    if !trains ∧ p.mayCycle ∧ !p.cycled then
      .next ((s.updPort bay fun p => { p with step := .cycling, cycled := true }).cycleBay bay)
    else .next (s.updPort bay fun p => { p with step := .training })
  else .next s

/-- RUNG3_EXPIRY (R282): the drive is gone. -/
def execRung3Expiry (bay : Fin 48) (s : State) : Result :=
  if s.bay bay = Bay.ladder ∧ s.fld (Fld.DRV_STATE_RUNG bay) = 3 then .next ((s.setBay bay Bay.failed).bayGone bay)
  else .next s

/-- DRIVE_SHUTDOWN_COMPLETE (R285): PERST_N is asserted and the bay is OFF. -/
def execDriveShutdownComplete (bay : Fin 48) (s : State) : Result :=
  if (s.bport bay).shutdown then
    .next ((((s.perst bay true).bayDown bay).setBay bay Bay.off).updPort bay fun p => { p with shutdown := false })
  else .next s

/-- Every member of an array sent to a drive power state by Set Features, or PS_MISS where it lacks the state or the
state is operational (R286). -/
def State.sendPs (s : State) (a ps : Nat) : State :=
  ((s.mrd.arr.get a).roles.filterMap (·.bay)).foldl (fun s b =>
    if !s.driveReady b then s
    else if (s.drives.get b).id.idleStates.any fun e => e.1 == ps then
      (s.setFld (Fld.DRV_STATE_PS b) ps).driveCtl b (.powerState ps)
    else s.raise (Fld.DRV_STATE_PS_MISS b)) s

/-- A field of DRV_IDLE_CFG as it stood when the array's timers last restarted (R289). -/
def State.idleCfg (s : State) (a : Nat) (f : Fld) : Nat :=
  bitsOf ((s.idle.get a).cfg.getD (s.reg (Reg.DRV_IDLE_CFG a))).toNat f.lo f.w

/-- An idle timer has run out: the array's drives are sent to a power state. -/
def State.idleSent (s : State) (a stage : Nat) (f : Fld) : State :=
  { s with idle := s.idle.upd a fun x => { x with stage := stage } }.sendPs a (s.idleCfg a f)

/-- DRIVE_IDLE_T1_EXPIRY (R286). -/
def execDriveIdleT1Expiry (a : Fin 16) (s : State) : Result :=
  if s.idleCfg a (Fld.DRV_IDLE_CFG_T1 a) ≠ 0 ∧ (s.idle.get a).stage = 0 ∧ (s.mrd.arr.get a).state ≠ .none then
    .next (s.idleSent a 1 (Fld.DRV_IDLE_CFG_PS1 a))
  else .next s

/-- DRIVE_IDLE_T2_EXPIRY (R286): after T1's expiry, or with T1 off after T2 alone. -/
def execDriveIdleT2Expiry (a : Fin 16) (s : State) : Result :=
  let from_ := if s.idleCfg a (Fld.DRV_IDLE_CFG_T1 a) = 0 then 0 else 1
  if s.idleCfg a (Fld.DRV_IDLE_CFG_T2 a) ≠ 0 ∧ (s.idle.get a).stage = from_ ∧ (s.mrd.arr.get a).state ≠ .none then
    .next (s.idleSent a 2 (Fld.DRV_IDLE_CFG_PS2 a))
  else .next s

/-- MI_POLL (R287): a good poll is shown, and a critical warning told to the lockkeeper; three failed ones in a row
clear VALID. -/
def execMiPoll (bay : Fin 48) (ok : Bool) (temp cw life : BitVec 8) (s : State) : Result :=
  if !(s.drvCfg bay Fld.DRV_CFG_MI_EN == 1 && (s.shelf.paddle.get bay).gateAux && s.owns) then .next s
  else if ok then
    let s := s.updPort bay fun p => { p with pollFails := 0, polledAt := s.now }
    let s := (s.setFld (Fld.DRV_MI_STAT_TEMP bay) temp.toNat).setFld (Fld.DRV_MI_STAT_CW bay) cw.toNat
    let s := (s.setFld (Fld.DRV_MI_STAT_LIFE bay) life.toNat).raise (Fld.DRV_MI_STAT_VALID bay)
    .next (if cw = 0 then s else s.emit (.lockkeeper 2 bay))
  else
    let n := (s.bport bay).pollFails + 1
    let s := s.updPort bay fun p => { p with pollFails := n }
    .next (if 3 ≤ n then s.setFld (Fld.DRV_MI_STAT_VALID bay) 0 else s)

/-- A write of DRV_GRP_CFG (R273, R274): stored at once; a mode other than 2 releases the mux. -/
def State.groupWrite (s : State) (g : Nat) (v : Word32) : State :=
  let s := s.cfgWrite (Reg.DRV_GRP_CFG g) v
  if s.fld (Fld.DRV_GRP_CFG_MODE g) = 2 then s else s.mux g false

/-- The word of DRV_GRP_CFG with a mode and SRIS. -/
def groupWord (mode : Nat) (sris : Bool) : Word32 := BitVec.ofNat 32 (mode % 4 + 4 * sris.toNat)

/-- DRV_GROUP_SET's effect (R273, Table 21-2): refused while a bay of the group is READY or LADDER, and for another mode
while the group holds a witness. -/
def drvGroupSetBody (g mode : Nat) (sris : Bool) (s : State) : MRes :=
  if 16 ≤ g then .fail .outOfRange []
  else if 3 ≤ mode then .fail .invalidParam []
  else if mode ≠ s.fld (Fld.DRV_GRP_CFG_MODE g) ∧ (List.range (s.fld Fld.AQD_PAIR_CFG_WITNESSES)).any
      (fun i => s.fld (Fld.AQD_WITNESS_BAY i) / 3 == g) then .fail .invalidState [beBytes 1 g]
  else match (List.range 3).find? (fun i => s.bay (3 * g + i) == Bay.ready || s.bay (3 * g + i) == Bay.ladder) with
    | some i => .fail .invalidState [beBytes 1 (3 * g + i)]
    | none => .ok (s.groupWrite g (groupWord mode sris)) []

/-- DRV_GROUP_SET (R273). -/
def execDrvGroupSet (h : Hdr) (g : Nat) (mode : Nat) (sris : Bool) (s : State) : Result :=
  .next (s.manifest (.drvGroupSet g mode sris) h 0x0703 ((List.range 3).map fun i => (.bay, 3 * g + i))
    (drvGroupSetBody g mode sris))

/-- DRV_GRP_CFG_WRITE (R273). -/
def execDrvGrpCfgWrite (g : Fin 16) (mode : Nat) (sris : Bool) (s : State) : Result :=
  .next (s.groupWrite g (groupWord mode sris))

/-- DRV_CFG_SET's effect (R289): the registers given, by array for the idle timers. -/
def drvCfgSetBody (cfg tmo : Option Word32) (idle : List (Nat × Word32)) (s : State) : MRes :=
  match idle.find? fun e => decide (16 ≤ e.1) with
  | some e => .fail .outOfRange [beBytes 1 e.1]
  | none =>
    let s := cfg.elim s (s.cfgWrite Reg.DRV_CFG)
    let s := tmo.elim s (s.cfgWrite Reg.DRV_TMO_CFG)
    .ok (idle.foldl (fun s e => s.cfgWrite (Reg.DRV_IDLE_CFG e.1) e.2) s) []

/-- PRESENCE_LOST (R283, R299): gates low, timers cancelled, INTENT cleared, the bay EMPTY and its drive gone. -/
def execPresenceLost (bay : Fin 48) (s : State) : Result :=
  if s.pad bay = Pad.empty then .next s
  else
    let s := (s.gatesLow bay).updShelf fun h => { h with queue := h.queue.filter fun x => !(x == bay.val) }
    let s := s.count (Fld.PDL_CNT_REMOVALS bay) 1
    let s := ((s.moorFld (Fld.PDL_STATE_INTENT bay) 0).setPad bay Pad.empty).setFld (Fld.PDL_STATE_PRESENT bay) 0
    let s := (s.setBay bay Bay.empty).driveCtl bay .linkDown
    let s := s.updPort bay fun p => { p with perstDue := false }
    .next (s.bayGone bay)

end Sys2Proof.Machine
end

