-- ==== Sys2Proof/Machine/Wharf.lean ====
section
/-! DEFINITION. The wharf and the lighter (08_wharf_cache.md). -/

namespace Sys2Proof.Machine

def State.updWhf (s : State) (f : Wharf → Wharf) : State := { s with whf := f s.whf }

/-- States of Table 8-3, as WHF_STATE.STATE codes them. -/
def State.whfState (s : State) : Nat := s.fld Fld.WHF_STATE_STATE

/-- The line that holds a reservoir address, and the line's set (R196). -/
def lineOf (addr : Nat) : Nat := addr / 128 % 2 ^ 31
def setOf (line : Nat) : Nat := line % 16384

/-- A line's bytes in the reservoir. -/
def State.resLine (s : State) (line : Nat) : BitVec 1024 :=
  BitVec.ofNat 1024 (leVal ((List.range 128).map fun i => s.res.get (line * 128 + i)))

/-- Bytes written to the reservoir. -/
def State.resWrite (s : State) (addr : Nat) (l : List Byte) : State := { s with res := layBytes s.res addr l }
def State.resPut (s : State) (line : Nat) (v : BitVec 1024) : State := s.resWrite (line * 128) (leBytes 128 v.toNat)

/-- A line with bytes laid into it from an offset on. -/
def lineWith (v : BitVec 1024) (off : Nat) (l : List Byte) : BitVec 1024 :=
  BitVec.ofNat 1024 (leVal ((layBytes ((List.range 128).zip (leBytes 128 v.toNat)) off l).map Prod.snd |>.take 128))

/-- Where a line stands in the wharf: its key, set × 16 + way. -/
def Wharf.find (w : Wharf) (line : Nat) : Option Nat :=
  ((List.range 16).map (setOf line * 16 + ·)).find? fun k => (w.lines.get k).valid && (w.lines.get k).line == line

/-- The pseudo-LRU tree's bit `n` of 15: 1 where the older half is the right one. -/
def plruBit (bits n : Nat) : Bool := bits.testBit n

/-- The victim below node `n` that covers `width` ways from `lo`, among the ways of `mask` (R199). -/
def plruVictim (bits mask : Nat) : Nat → Nat → Nat → Nat → Nat
  | 0, _, lo, _ => lo
  | d + 1, n, lo, width =>
    let half := width / 2
    let has := fun (a : Nat) => (List.range half).any fun i => mask.testBit (a + i)
    let right := if !has lo then true else if !has (lo + half) then false else plruBit bits n
    if right then plruVictim bits mask d (2 * n + 2) (lo + half) half
    else plruVictim bits mask d (2 * n + 1) lo half

/-- The tree after a use of way `w`: every node on its path points away from it. -/
def plruTouch (w : Nat) : Nat → Nat → Nat → Nat → Nat → Nat
  | 0, _, _, _, bits => bits
  | d + 1, n, lo, width, bits =>
    let half := width / 2
    if w < lo + half then plruTouch w d (2 * n + 1) lo half (bits ||| 2 ^ n)
    else plruTouch w d (2 * n + 2) (lo + half) half (bits - if bits.testBit n then 2 ^ n else 0)

/-- A use of the way at key `k` (R199). -/
def State.touch (s : State) (k : Nat) : State :=
  s.updWhf fun w => { w with plru := w.plru.upd (k / 16) (plruTouch (k % 16) 4 0 0 16) }

/-- Ways of a class, and whether it is write-through (Table 8-8). -/
def State.ways (s : State) (c : Nat) : Nat := s.fld (Fld.WHF_CLASS_CFG_WAYS c)
def State.through (s : State) (c : Nat) : Bool := s.flag (Fld.WHF_CLASS_CFG_WT c)

/-- A writeback begins (R202, R205, R209). -/
def State.writeback (s : State) (x : WLine) (maint : Bool) : State :=
  (s.tally 0x0B3 x.cls 1).updWhf fun w => { w with flights := w.flights ++ [⟨x.line, false, false, x.cls, x.data, maint⟩] }

/-- A line that leaves the wharf (R202): into the lighter, whose oldest line may leave in turn, or without a lighter
written back or dropped. -/
def State.evict (s : State) (x : WLine) : State :=
  if !x.valid then s
  else if s.flag Fld.WHF_CTL_LIGHTER_EN ∧ s.whfState = 1 then
    match (if 64 ≤ s.whf.lighter.length then s.whf.lighter.head? else none) with
    | none => s.updWhf fun w => { w with lighter := w.lighter ++ [x] }
    | some o =>
      let s := s.updWhf fun w => { w with lighter := w.lighter.drop 1 ++ [x] }
      if o.dirty then s.writeback o false else s
  else if x.dirty then s.writeback x false else s

/-- A line allocated in the ways of class `c`: an invalid one first, else the pseudo-LRU victim among them (R199). -/
def State.allocate (s : State) (c : Nat) (x : WLine) : State :=
  let mask := s.ways c
  let st := setOf x.line
  let way := match (List.range 16).find? fun i => mask.testBit i && !(s.whf.lines.get (st * 16 + i)).valid with
    | some i => i
    | none => plruVictim (s.whf.plru.get st) mask 4 0 0 16
  let k := st * 16 + way
  let old := s.whf.lines.get k
  ((s.updWhf fun w => { w with lines := w.lines.set k x }).touch k).evict old

/-- A berth whose access waits is in WAIT, and in RUN again once it is served (R201). -/
def State.whfBerth (s : State) (b : Option Nat) (wait : Bool) : State :=
  match b with
  | none => s
  | some b =>
    let e := s.berth b
    if wait ∧ e.state = .run then s.updBerth b fun x => { x with state := .wait, waits := .line }
    else if !wait ∧ e.state = .wait ∧ e.waits = .line then s.updBerth b fun x => { x with state := .run, waits := .nothing }
    else s

/-- An access answered from a line's content. -/
def State.serve (s : State) (r : WharfReq) (v : BitVec 1024) : State :=
  let s := if r.write.isNone then s.emit (.line r.cls (lineOf r.addr) v) else s
  s.whfBerth r.berth false

/-- An access that waits for its line. -/
def State.park (s : State) (r : WharfReq) : State :=
  (s.updWhf fun w => { w with waits := w.waits ++ [.access r] }).whfBerth r.berth true

/-- An access on a line that the wharf or the lighter holds (R200, R209): the line as it is afterwards. A write is
written through where the class, or the class of the line, is, or while the wharf is being cleaned. -/
def State.useLine (s : State) (r : WharfReq) (x : WLine) : State × WLine :=
  match r.write with
  | none => (s.serve r x.data, x)
  | some l =>
    let v := lineWith x.data (r.addr % 128) l
    let thru := s.whfState == 2 || s.through r.cls || s.through x.cls
    if thru then
      let s := if x.dirty ∧ s.whfState = 2 then s.resPut x.line v else s.resWrite r.addr l
      (s.serve r v, { x with data := v, dirty := x.dirty && s.whfState != 2 })
    else (s.serve r v, { x with data := v, dirty := true })

/-- An access that goes to the reservoir directly (R199, R200, R209). -/
def State.direct (s : State) (r : WharfReq) : State :=
  match r.write with
  | some l => (s.resWrite r.addr l).serve r 0
  | none => (s.park r).updWhf fun w => { w with flights := w.flights ++ [⟨lineOf r.addr, true, false, r.cls, 0, false⟩] }

/-- An access at its line, nothing before it (R199 to R203). -/
def State.whfAccess (s : State) (r : WharfReq) : State :=
  let line := lineOf r.addr
  if s.whfState = 3 then s.direct r
  else match s.whf.find line with
    | some k =>
      let x := s.whf.lines.get k
      if x.bad then s
      else
        let s := (s.tally 0x0B0 r.cls 1).touch k
        let y := s.useLine r x
        y.1.updWhf fun w => { w with lines := w.lines.set k y.2 }
    | none =>
      let s := s.tally 0x0B1 r.cls 1
      match s.whf.lighter.find? fun x => x.line == line with
      | some x =>
        if x.bad then s
        else if s.whfState = 2 ∨ s.ways r.cls = 0 then
          let y := s.useLine r x
          let put : WLine → WLine := fun z => if z = x then y.2 else z
          y.1.updWhf fun w => { w with lighter := w.lighter.map put }
        else
          let s := (s.tally 0x0B2 r.cls 1).updWhf fun w => { w with lighter := w.lighter.erase x }
          -- dirty data stays with its write-back class (log entry 61)
          let y := s.useLine r (if x.dirty && s.through r.cls then x else { x with cls := r.cls })
          y.1.allocate r.cls y.2
      | none =>
        if s.whfState = 2 ∨ s.ways r.cls = 0 ∨ (r.write.isSome ∧ s.through r.cls) then s.direct r
        else (s.park r).updWhf fun w => { w with flights := w.flights ++ [⟨line, true, true, r.cls, 0, false⟩] }

/-- The range operation at one line that it finds free (Table 8-2). -/
def State.maintLine (s : State) (line : Nat) : State :=
  let op := (s.whf.maint.getD (0, 0)).1
  let bump := fun (s : State) => s.updWhf fun w => { w with maint := w.maint.map fun m => (m.1, m.2 + 1) }
  match s.whf.find line with
  | some k =>
    let x := s.whf.lines.get k
    let y : WLine := if op = 0 then { x with dirty := false } else default
    let t := s.updWhf fun w => { w with lines := w.lines.set k y }
    if x.dirty then bump (t.writeback x true) else if op = 0 then s else t
  | none =>
    match s.whf.lighter.find? fun x => x.line == line with
    | none => s
    | some x =>
      let keep : List WLine := if op = 0
        then s.whf.lighter.map fun z => if z = x then { x with dirty := false } else z
        else s.whf.lighter.erase x
      let t := s.updWhf fun w => { w with lighter := keep }
      if x.dirty then bump (t.writeback x true) else t

/-- The line that something waits at. -/
def WOp.line : WOp → Nat
  | .access r => lineOf r.addr
  | .maint l => l

/-- Nothing is on its way for a line. -/
def State.lineFree (s : State) (line : Nat) : Bool := !(s.whf.flights.any fun f => f.line == line)

/-- What waits at a line served in order of arrival, until something is on its way for it again (R204). -/
def State.drainLine : Nat → State → Nat → State
  | 0, s, _ => s
  | f + 1, s, line =>
    match s.whf.waits.find? fun w => w.line == line with
    | none => s
    | some w =>
      if !s.lineFree line then s
      else
        let s := s.updWhf fun x => { x with waits := x.waits.erase w }
        State.drainLine f (match w with
          | .access r => s.whfAccess r
          | .maint l => s.maintLine l) line

/-- An uncorrectable error where dirty data lies (R213). -/
def State.whfUeDirty (s : State) : State :=
  ((s.raise Fld.WHF_ECC_STAT_UE_DIRTY).updWhf fun w => { w with ueDirty := true }).globalFault .wharfUe

/-- An error met by an access (R213): 1 corrected, 2 in the line's data, 3 in a tag of its set. -/
def State.whfEcc (s : State) (line ecc : Nat) : State :=
  if ecc = 0 then s
  else if ecc = 1 then s.count Fld.WHF_ECC_STAT_CE 1
  else
    let set := (List.range 16).map (setOf line * 16 + ·)
    let hit := s.whf.find line
    let keys := if ecc = 3 then set else hit.toList
    let mark : WLine → WLine := fun x => { x with bad := true }
    if keys.any fun k => (s.whf.lines.get k).dirty then
      s.whfUeDirty.updWhf fun w => { w with lines := keys.foldl (fun t k =>
        if (t.get k).dirty then t.upd k mark else t) w.lines }
    else if keys ≠ [] then
      (s.count Fld.WHF_ECC_STAT_UE_CLEAN 1).updWhf fun w => { w with lines := keys.foldl (fun t k => t.set k default) w.lines }
    else match s.whf.lighter.find? fun x => x.line == line with
      | none => s
      | some x =>
        if x.dirty then
          let put : WLine → WLine := fun z => if z = x then mark x else z
          s.whfUeDirty.updWhf fun w => { w with lighter := w.lighter.map put }
        else (s.count Fld.WHF_ECC_STAT_UE_CLEAN 1).updWhf fun w => { w with lighter := w.lighter.erase x }

/-- WHARF_ACCESS (R199 to R204, R211, R213): during the invalidation walk, and behind what waits or is on its way at its
line, it waits. -/
def execWharfAccess (r : WharfReq) (ecc : Fin 4) (s : State) : Result :=
  let line := lineOf r.addr
  if s.whfState = 0 ∨ !s.lineFree line ∨ (s.whf.waits.any fun w => w.line == line) then .next (s.park r)
  else .next ((s.whfEcc line ecc).whfAccess r)

/-- WHARF_FILL_COMPLETE (R199, R201, R206, R210): the line arrives; it is allocated, unless the walk has passed its set or
it was not to be; its requester and what waits behind it are served. -/
def execWharfFillComplete (line : Nat) (err : Option (Fin 16 × Bool)) (s : State) : Result :=
  match s.whf.flights.find? fun f => f.fill && f.line == line with
  | none => .next s
  | some f =>
    if s.whfState = 0 ∨ (s.whf.flights.any fun g => !g.fill && g.line == line) then .next s
    else if err.any Prod.snd then
      .next ((err.elim s fun e => s.resError e.1 true).count Fld.WHF_ECC_STAT_UE_CLEAN 1)
    else
      let s := err.elim s fun e => s.resError e.1 false
      let v := s.resLine line
      let s := s.updWhf fun w => { w with flights := w.flights.erase f }
      let fits := f.alloc && s.ways f.cls != 0 && (s.whfState == 1 || (s.whfState == 2 && decide (s.whf.walk ≤ setOf line)))
      if fits then
        let s := s.allocate f.cls ⟨true, line, false, f.cls, false, v⟩
        .next (State.drainLine (s.whf.waits.length) s line)
      else
        match s.whf.waits.find? fun w => w.line == line with
        | some (.access r) =>
          let s := s.updWhf fun w => { w with waits := w.waits.erase (.access r) }
          let s := match r.write with
            | some l => (s.resWrite r.addr l).serve r 0
            | none => s.serve r v
          .next (State.drainLine (s.whf.waits.length) s line)
        | _ => .next (State.drainLine (s.whf.waits.length) s line)

/-- WHARF_WRITEBACK_COMPLETE (R206): the reservoir holds the line. -/
def execWharfWritebackComplete (line : Nat) (s : State) : Result :=
  match s.whf.flights.find? fun f => !f.fill && f.line == line with
  | none => .next s
  | some f =>
    let s := (s.resPut line f.data).updWhf fun w => { w with flights := w.flights.erase f }
    .next (if s.whfState = 0 then s else State.drainLine (s.whf.waits.length) s line)

/-- Lines of a range that are anywhere in the wharf. -/
def State.rangeLines (s : State) (line n : Nat) : List Nat :=
  let l := (s.whf.lines.map fun e => e.2.line) ++ (s.whf.lighter.map (·.line)) ++ s.whf.flights.map (·.line)
  (sortBy id (l.filter fun x => decide (line ≤ x ∧ x < line + n))).eraseDups

/-- One range operation started (R207): ignored while one runs; zero lines complete at once. -/
def State.maintGo (s : State) (op line n : Nat) : State :=
  let s := ((s.setFld Fld.WHF_MAINT_ADDR_LO_ADDR (line % 2 ^ 25)).setFld Fld.WHF_MAINT_ADDR_HI_ADDR (line / 2 ^ 25 % 64))
  let s := (s.setFld Fld.WHF_MAINT_CTL_LINES n).setFld Fld.WHF_MAINT_CTL_OP op
  let line := line % 2 ^ 31
  let n := n % 65536
  if s.flag Fld.WHF_MAINT_STAT_BUSY then s.raise Fld.WHF_MAINT_STAT_REJECT
  else if n = 0 then
    ((s.raise Fld.WHF_MAINT_STAT_DONE).raise Fld.WHF_MAINT_STAT_ZERO).setFld Fld.WHF_MAINT_STAT_WRITTEN 0
  else
    let s := (s.raise Fld.WHF_MAINT_STAT_BUSY).updWhf fun w => { w with maint := some (op, 0) }
    (s.rangeLines line n).foldl (fun s x =>
      if s.lineFree x && !(s.whf.waits.any fun w => w.line == x) then s.maintLine x
      else s.updWhf fun w => { w with waits := w.waits ++ [.maint x] }) s

/-- MAINT_CLEAN (R205). -/
def execMaintClean (line lines : Nat) (s : State) : Result := .next (s.maintGo 0 line lines)

/-- MAINT_INVALIDATE (R205). -/
def execMaintInvalidate (line lines : Nat) (s : State) : Result := .next (s.maintGo 1 line lines)

/-- MAINT_CLEAN_INVALIDATE (R205). -/
def execMaintCleanInvalidate (line lines : Nat) (s : State) : Result := .next (s.maintGo 2 line lines)

/-- MAINT_RANGE_COMPLETE (R207): every line done, its writebacks too. -/
def execMaintRangeComplete (s : State) : Result :=
  let held := s.whf.waits.any fun w => match w with
    | .maint _ => true
    | .access _ => false
  match s.whf.maint with
  | none => .next s
  | some m =>
    if held ∨ (s.whf.flights.any fun f => f.maint) then .next s
    else
      let s := (s.setFld Fld.WHF_MAINT_STAT_BUSY 0).raise Fld.WHF_MAINT_STAT_DONE
      .next ((s.setFld Fld.WHF_MAINT_STAT_WRITTEN (min 65535 m.2)).updWhf fun w => { w with maint := none })

/-- The lighter's dirty lines written back, and its lines gone (R202, R209). -/
def State.emptyLighter (s : State) : State :=
  let l := s.whf.lighter
  (l.filter (·.dirty)).foldl (fun s x => s.writeback x false) (s.updWhf fun w => { w with lighter := [] })

/-- WHARF_DISABLE (R208, R209): EN := 0. -/
def execWharfDisable (s : State) : Result :=
  let s := s.cfgFld Fld.WHF_CTL_EN 0
  if s.whfState = 1 then
    .next (((s.setFld Fld.WHF_STATE_STATE 2).setFld Fld.WHF_STATE_WALK_SET 0).updWhf fun w => { w with walk := 0 })
  else .next s

/-- WHARF_ENABLE (R208): EN := 1; sets already walked stay empty. -/
def execWharfEnable (s : State) : Result :=
  let s := s.cfgFld Fld.WHF_CTL_EN 1
  if s.whfState = 2 ∨ s.whfState = 3 then
    let s := (s.setFld Fld.WHF_STATE_STATE 1).setFld Fld.WHF_STATE_CLEAN 0
    .next ((s.setFld Fld.WHF_STATE_WALK_SET 0).updWhf fun w => { w with walk := 0 })
  else .next s

/-- The keys of a set. -/
def setKeys (st : Nat) : List Nat := (List.range 16).map (st * 16 + ·)

/-- One line of the lighter alongside the walk (R209): the oldest leaves, written back where it is dirty, while fewer than
WB_MAX writebacks are in flight. -/
def State.drainLighter (s : State) : State :=
  match s.whf.lighter with
  | [] => s
  | x :: l =>
    let wbs := (s.whf.flights.filter fun f => !f.fill).length
    if !x.dirty then s.updWhf fun w => { w with lighter := l }
    else if s.fld Fld.WHF_CLEAN_CFG_WB_MAX ≤ wbs then s
    else (s.updWhf fun w => { w with lighter := l }).writeback x false

/-- One set of the cleaning walk (R209): its dirty lines written back while fewer than WB_MAX writebacks are in flight;
the set invalidated, and the walker on, once they are done. -/
def State.walkSet (s : State) : State :=
  let st := s.whf.walk
  let wbs := (s.whf.flights.filter fun f => !f.fill).length
  match (setKeys st).find? fun k => (s.whf.lines.get k).dirty with
  | some k =>
    if s.fld Fld.WHF_CLEAN_CFG_WB_MAX ≤ wbs then s
    else
      let x := s.whf.lines.get k
      (s.updWhf fun w => { w with lines := w.lines.set k { x with dirty := false } }).writeback x false
  | none =>
    if s.whf.flights.any fun f => !f.fill && setOf f.line == st then s
    else
      let s := s.updWhf fun w => { w with walk := w.walk + 1, lines := (setKeys st).foldl (fun t k => t.set k default) w.lines }
      s.setFld Fld.WHF_STATE_WALK_SET (s.whf.walk % 16384)

/-- The walker's progress in one 40 ns step of device time, 70 canal cycles. -/
def State.walkTick (s : State) : State :=
  if s.whfState = 2 then
    (List.range 70).foldl (fun s _ => (if s.whf.walk < 16384 then s.walkSet else s).drainLighter) s
  else s

/-- CLEANING_WALK_COMPLETE (R208, R209): every writeback done and the lighter empty. What the walker had not reached yet,
and what still stood in the lighter, is written back here. -/
def execCleaningWalkComplete (s : State) : Result :=
  if s.whfState = 2 then
    let s := s.whf.flights.foldl (fun s f => if f.fill then s else s.resPut f.line f.data) s
    let dirty := (s.whf.lines.map Prod.snd ++ s.whf.lighter).filter (·.dirty)
    let s := dirty.foldl (fun s x => (s.tally 0x0B3 x.cls 1).resPut x.line x.data) s
    let s := ((s.setFld Fld.WHF_STATE_STATE 3).raise Fld.WHF_STATE_CLEAN).setFld Fld.WHF_STATE_WALK_SET 0
    let s := s.updWhf fun w => { w with lines := [], lighter := [], walk := 0, flights := w.flights.filter (·.fill) }
    .next (s.whf.waits.foldl (fun s x => State.drainLine (s.whf.waits.length) s x.line) s)
  else .next s

/-- The walk that clears the wharf and the lighter begins (R211). -/
def State.invalidate (s : State) : State :=
  ((s.setFld Fld.WHF_STATE_STATE 0).setFld Fld.WHF_STATE_CLEAN 0).updWhf fun w =>
    { w with lines := [], plru := [], lighter := [], walk := 0 }

/-- INVALIDATION_WALK_END (R208, R211, R212): ON or OFF by EN; accesses that waited are served, and the receipt of a
WHARF_DISCARD follows. -/
def execInvalidationWalkEnd (s : State) : Result :=
  if s.whfState ≠ 0 then .next s
  else
    let s := s.setFld Fld.WHF_STATE_STATE (if s.flag Fld.WHF_CTL_EN then 1 else 3)
    let s := s.setFlag Fld.WHF_STATE_CLEAN (!s.flag Fld.WHF_CTL_EN)
    let s := s.whf.waits.foldl (fun s x => State.drainLine (s.whf.waits.length) s x.line) s
    .next (s.finishOn 0x0A20 (.device, 0) .success [beBytes 4 s.whf.lost])

/-- LIGHTER_EN_WRITE (R202). -/
def execLighterEnWrite (en : Bool) (s : State) : Result :=
  let s := s.cfgFld Fld.WHF_CTL_LIGHTER_EN en.toNat
  .next (if en then s else s.emptyLighter)

/-- Dirty lines in the wharf and the lighter (WHF_DIRTY). -/
def Wharf.dirty (w : Wharf) : Nat := (w.lines.filter fun e => e.2.dirty).length + (w.lighter.filter (·.dirty)).length

/-- WHARF_DISCARD's effect (R212). -/
def wharfDiscardBody (s : State) : MRes :=
  let busy := s.mrd.arr.any fun e => e.2.state == .creating || e.2.state == .rebuilding
  let work := s.ary.any fun e => e.2.scrubbing || e.2.gather.any fun g => g.2.inUse
  if (s.assocs fun _ => true) ≠ [] ∨ busy ∨ work ∨ (s.whfState ≠ 1 ∧ s.whfState ≠ 2) then .fail .invalidState []
  else
    let n := s.whf.dirty
    .later (s.invalidate.updWhf fun w => { w with lost := n }) true

/-- WHARF_DISCARD (R212). -/
def execWharfDiscard (h : Hdr) (s : State) : Result :=
  .next (s.manifest .wharfDiscard h 0x0A20 [(.device, 0)] wharfDiscardBody)

end Sys2Proof.Machine
end

