-- ==== Sys2Proof/Machine/Endpoint.lean ====
section
/-! DEFINITION. The management endpoint (17_endpoint.md): BAR2 windows, the copy engine, pending interrupts, link and
resets. -/

namespace Sys2Proof.Machine

/-- Class DIAG of the wharf (Table 8-1). -/
def diagCls : Nat := 7

/-- The content of a line as every agent sees it (R197): in the wharf, in the lighter, on its way back, or in the
reservoir. -/
def State.cohLine (s : State) (line : Nat) : BitVec 1024 :=
  match s.whf.find line with
  | some k => (s.whf.lines.get k).data
  | none => match s.whf.lighter.find? fun x => x.line == line with
    | some x => x.data
    | none => match (s.whf.flights.filter fun f => f.line == line && !f.fill).getLast? with
      | some f => f.data
      | none => s.resLine line

/-- A use of a line by class DIAG (R198 to R200): counted as a hit or a miss, and allocated on a miss where the class
has ways. -/
def State.diagUse (s : State) (line : Nat) : State :=
  match s.whf.find line with
  | some k => (s.tally 0x0B0 diagCls 1).touch k
  | none =>
    let s := s.tally 0x0B1 diagCls 1
    if s.whfState = 1 ∧ s.ways diagCls ≠ 0 ∧ s.lineFree line then
      let x := (s.whf.lighter.find? fun x => x.line == line).getD ⟨true, line, false, diagCls, false, s.resLine line⟩
      (s.updWhf fun w => { w with lighter := w.lighter.erase x }).allocate diagCls (if x.dirty then x else { x with cls := diagCls })
    else s

/-- The lines that `n` bytes from an address on touch. -/
def linesOf (addr n : Nat) : List Nat :=
  if n = 0 then [] else (List.range ((addr + n - 1) / 128 - addr / 128 + 1)).map (addr / 128 + ·)

/-- Bytes of the reservoir read through the wharf. -/
def State.diagRead (s : State) (addr n : Nat) : State × List Byte :=
  let t := (linesOf addr n).foldl State.diagUse s
  let all := (linesOf addr n).flatMap fun l => leBytes 128 (t.cohLine l).toNat
  (t, (all.drop (addr % 128)).take n)

/-- Bytes written to the reservoir through the wharf: the reservoir, and every copy of a line on its way or cached
(write-through, Table 8-1). -/
def State.diagWrite (s : State) (addr : Nat) (l : List Byte) : State :=
  let s := ((linesOf addr l.length).foldl State.diagUse s).resWrite addr l
  let lay := fun (line : Nat) (v : BitVec 1024) =>
    if line * 128 < addr + l.length ∧ addr < line * 128 + 128 then
      if line * 128 ≤ addr then lineWith v (addr - line * 128) l
      else lineWith v 0 (l.drop (line * 128 - addr))
    else v
  let line := fun (x : WLine) => if x.valid then { x with data := lay x.line x.data } else x
  s.updWhf fun w => { w with
    lines := w.lines.mapAll fun _ x => line x
    lighter := w.lighter.map line
    flights := w.flights.map fun f => if f.fill then f else { f with data := lay f.line f.data } }

/-- Bytes in a target space (Table 17-3). -/
def spaceSize (space : Nat) : Nat := if space = 0 then 2 ^ 38 else if space = 1 then 2 ^ 25 else 2 ^ 26

/-- The dock bank that holds an address is OFF (Table 4-6, R435). -/
def State.dockOff (s : State) (addr : Nat) : Bool := s.fld (Fld.SPB_BANK_STAT_STATE (8 + addr / 0x400000)) == 2

/-- Bytes of a target read. Engine banks read as 0 unless their engine is FENCED. -/
def State.targetRead (s : State) (space addr n : Nat) : State × List Byte :=
  if space = 0 then s.diagRead addr n
  else if space = 1 then (s, (List.range n).map fun i => if s.dockOff (addr + i) then 0 else s.brg.dock.get (addr + i))
  else (s, (List.range n).map fun i =>
    let e := (addr + i) / 0x40000
    if (s.eng e).state = .fenced then (s.eng e).bank.get ((addr + i) % 0x40000) else 0)

/-- Bytes of a target written; writes to engine banks are discarded. -/
def State.targetWrite (s : State) (space addr : Nat) (l : List Byte) : State :=
  if space = 0 then s.diagWrite addr l
  else if space = 1 then
    if s.dockOff addr then s else s.updBrg fun g => { g with dock := layBytes g.dock addr l }
  else s

/-- The window that decides at a BAR2 offset: the lowest-numbered VALID one that covers it (R373). -/
def State.winAt (s : State) (x : Nat) : Option (Nat × Window) :=
  ((List.range 64).map fun i => (i, s.ept.win.get i)).find? fun p =>
    p.2.valid && decide (p.2.base ≤ x ∧ x < p.2.base + 2 ^ p.2.sizeLog2)

/-- An access at `x` lies inside its window's target space. -/
def Window.inSpace (w : Window) (x : Nat) : Bool := decide (w.tgt + (x - w.base) < spaceSize w.space)

/-- A run of BAR2 offsets under one window: first offset, length, the window and its number. -/
abbrev Part := Nat × Nat × Option (Nat × Window)

/-- The offsets x to x + n - 1 cut at window boundaries and at the end of target spaces (R374). -/
def State.partsOf (s : State) (x : Nat) : Nat → List Part
  | 0 => []
  | n + 1 =>
    let here := s.winAt x
    let fits := fun (w : Option (Nat × Window)) (x : Nat) => w.any fun p => p.2.inSpace x
    match s.partsOf (x + 1) n with
    | (y, m, w) :: l =>
      if w = here ∧ fits w x = fits w y then (x, m + 1, w) :: l else (x, 1, here) :: (y, m, w) :: l
    | [] => [(x, 1, here)]

/-- Why an access to a part is not served, as the counter that counts it (R374): no window, no permission, or beyond
the target space. -/
def partError (p : Part) (write : Bool) : Option Fld :=
  match p.2.2 with
  | none => some Fld.EPT_ERR_STAT_WIN_MISS
  | some (_, w) =>
    if !(if write then w.wr else w.rd) then some Fld.EPT_ERR_STAT_WIN_PERM
    else if !w.inSpace p.1 then some Fld.EPT_ERR_STAT_WIN_MISS
    else none

/-- Host accesses reach the function's BARs: its link is up. -/
def State.eptUp (s : State) : Bool := s.flag Fld.EPT_STATUS_LINK

/-- The device serves a management window only (R336). -/
def State.mgmtOnly (s : State) : Bool := s.rst.phase == .standby

/-- Bytes that a run of parts reads. -/
def State.readParts (s : State) (l : List Part) : State × List Byte :=
  l.foldl (fun a p => match p.2.2 with
    | none => a
    | some (i, w) =>
      let r := a.1.targetRead w.space (w.tgt + (p.1 - w.base)) p.2.1
      (r.1.tally 0x120 i p.2.1, a.2 ++ r.2)) (s, [])

/-- A part of a read meets an uncorrectable error in a dock bank (R436). -/
def State.partBad (s : State) (p : Part) : Bool :=
  match p.2.2 with
  | some (_, w) =>
    let a := w.tgt + (p.1 - w.base)
    w.space == 1 && s.brg.dockBad.any fun u => decide (64 * u < a + p.2.1 ∧ a < 64 * u + 64)
  | none => false

/-- A read of BAR2 (R373, R374). -/
def State.bar2Read (s : State) (off len : Nat) : Result :=
  if !s.eptUp then .next s
  else if s.mgmtOnly then .next (s.emit (.windowData (List.replicate len 0)))
  else
    let l := s.partsOf off len
    match (l.filterMap fun p => partError p false).head? with
    | some f => .next ((s.count f 1).emit .completerAbort)
    | none =>
      if l.any s.partBad then .next (s.emit .completerAbort)
      else
        let r := s.readParts l
        .next (r.1.emit (.windowData r.2))

/-- A write of BAR2 (R374): each part lands or is discarded and counted. -/
def State.bar2Write (s : State) (off : Nat) (data : List Byte) : Result :=
  if !s.eptUp ∨ s.mgmtOnly then .next s
  else .next ((s.partsOf off data.length).foldl (fun s p =>
    match partError p true, p.2.2 with
    | none, some (i, w) =>
      (s.targetWrite w.space (w.tgt + (p.1 - w.base)) ((data.drop (p.1 - off)).take p.2.1)).tally 0x121 i p.2.1
    | some f, _ => s.count f 1
    | none, none => s) s)

/-- EPT_WIN_CTL_WRITE (R374): the staged base and target and the fields written are applied together. -/
def execEptWinCtlWrite (i : Fin 64) (valid rd wr : Bool) (space sizeLog2 : Nat) (s : State) : Result :=
  let size := clampNat 12 32 sizeLog2
  let base := s.fld (Fld.EPT_WIN_BASE_BASE i) * 4096
  let tgt := s.fld (Fld.EPT_WIN_TGT_HI_ADDR i) * 2 ^ 32 + s.fld (Fld.EPT_WIN_TGT_LO_ADDR i) * 4096
  let bad : Bool := space % 4 == 3 || base % 2 ^ size != 0
  let on := valid && !bad
  let s := (s.setFlag (Fld.EPT_WIN_CTL_VALID i) on).setFlag (Fld.EPT_WIN_CTL_RD i) rd
  let s := (s.setFlag (Fld.EPT_WIN_CTL_WR i) wr).setFld (Fld.EPT_WIN_CTL_SPACE i) space
  let s := s.setFld (Fld.EPT_WIN_CTL_SIZE_LOG2 i) size
  let s := if bad then s.raise (Fld.EPT_WIN_CTL_ERR i) else s
  let w : Window := if on then ⟨true, rd, wr && space % 4 != 2, space % 4, size, base, tgt⟩ else default
  .next (s.updEpt fun e => { e with win := e.win.set i w })

/-- A copy ends with a status of Table 17-7 and the bytes moved; its vector is raised (R376). -/
def State.copyEnd (s : State) (status bytes : Nat) (vec : Nat) : State :=
  let s := (s.setFld Fld.EPT_COPY_STAT_STATUS status).setFld Fld.EPT_COPY_STAT_DONE_BYTES (bytes / 4)
  ((s.setFld Fld.EPT_COPY_STAT_BUSY 0).updEpt fun e => { e with copy := none }).msix vec

/-- A running copy cut short by a reset or a power entry; how much it had moved is not given. -/
def State.copyCut (s : State) (status : Nat) : State :=
  match s.ept.copy with
  | none => s
  | some c => s.tick.copyEnd status (s.freeVal % (c.len / 4 + 1) * 4) c.vec

/-- Non-posted reads that the endpoint may have outstanding (R376). -/
def State.readLimit (s : State) : Nat :=
  if s.flag Fld.EPT_STATUS_TEN_BIT then min (s.fld Fld.EPT_CFG_TAG_LIMIT) 768 else min (s.fld Fld.EPT_CFG_TAG_LIMIT) 256

/-- COPY_GO (R376): starts the copy, or refuses it; a length of 0 completes at once. A range that leaves the window or
its target space is refused with PERM (log entry 63). -/
def execCopyGo (dir : Bool) (vec : Nat) (s : State) : Result :=
  if s.ept.copy.isSome then .next (s.raise Fld.EPT_COPY_STAT_REJECT)
  else
    let s := (s.setFlag Fld.EPT_COPY_CTL_DIR dir).setFld Fld.EPT_COPY_CTL_COPY_VEC vec
    let v := vec % 2048
    let host := s.fld Fld.EPT_COPY_HOST_HI_ADDR * 2 ^ 32 + s.fld Fld.EPT_COPY_HOST_LO_ADDR
    let len := s.fld Fld.EPT_COPY_LEN_LEN
    let off := s.fld Fld.EPT_COPY_OFF_OFF * 4
    let w := s.ept.win.get (s.fld Fld.EPT_COPY_WIN_WIN)
    if host % 4 ≠ 0 ∨ len % 4 ≠ 0 then .next (s.copyEnd 3 0 v)
    else if !w.valid ∨ (if dir then !w.rd else !w.wr) ∨ 2 ^ w.sizeLog2 < off + len ∨
        spaceSize w.space < w.tgt + off + len then .next (s.copyEnd 4 0 v)
    else if len = 0 then .next (s.copyEnd 2 0 v)
    else
      let s := (s.raise Fld.EPT_COPY_STAT_BUSY).setFld Fld.EPT_COPY_STAT_STATUS 0
      let s := if dir then s else s.emit (.hostRead host len s.readLimit)
      .next (s.updEpt fun e => { e with copy := some ⟨w, host, off, len, dir, v⟩ })

/-- Posted writes towards the host: on the link, or discarded and counted (R376); how many requests carry the bytes
depends on a size that the host sets. -/
def State.hostPost (s : State) (addr : Nat) (l : List Byte) : State :=
  if s.flag Fld.EPT_STATUS_BME && s.eptUp then s.emit (.hostWrite addr l)
  else s.tick.count Fld.EPT_ERR_STAT_DISCARDED (1 + s.freeVal % 255)

/-- COPY_COMPLETE (R376): the host's data, or an error after some of it; towards the host, the target's bytes. -/
def execCopyComplete (data : List Byte) (hostError : Bool) (s : State) : Result :=
  match s.ept.copy with
  | none => .next s
  | some c =>
    let a := c.win.tgt + c.off
    let s := s.tally 0x122 0 (if hostError ∧ !c.toHost then min data.length c.len else c.len)
    if c.toHost then
      let r := s.targetRead c.win.space a c.len
      .next ((r.1.hostPost c.host r.2).copyEnd 1 c.len c.vec)
    else
      let l := data.take c.len
      let t := s.targetWrite c.win.space a l
      .next (if hostError then t.copyEnd 5 l.length c.vec else t.copyEnd 1 c.len c.vec)

/-- COMPLETION_TIMEOUT (R376): a read of the copy engine is counted and ends its copy, as a host error. -/
def execCompletionTimeout (s : State) : Result :=
  if s.ept.copy.any fun c => !c.toHost then .next ((s.count Fld.EPT_ERR_STAT_CPL_TMO 1).copyCut 5) else .next s

/-- MSIX_PENDING_SEND (R375). -/
def execMsixPendingSend (vec : Fin 2048) (s : State) : Result :=
  let m := s.ept.msix.get vec
  if s.ept.pba.get vec ∧ (m.unmasked && !s.flag Fld.EPT_STATUS_FMASK && s.flag Fld.EPT_STATUS_MSIX_EN &&
      s.flag Fld.EPT_STATUS_BME && s.flag Fld.EPT_STATUS_LINK) then
    .next ((s.updEpt fun e => { e with pba := e.pba.set vec false }).emit (.msix vec m.addr m.data))
  else .next s

/-- No link, and no bit that the host sets in configuration space. -/
def State.eptLinkOff (s : State) : State :=
  ((s.setFld Fld.EPT_STATUS_LINK 0).setFld Fld.EPT_STATUS_SPEED 0).setFld Fld.EPT_STATUS_WIDTH 0
def State.eptCfgOff (s : State) : State :=
  let s := (s.setFld Fld.EPT_STATUS_BME 0).setFld Fld.EPT_STATUS_MSIX_EN 0
  (s.setFld Fld.EPT_STATUS_FMASK 0).setFld Fld.EPT_STATUS_TEN_BIT 0

/-- A reset of the endpoint alone (R378, Table 17-4): 1 fundamental, 2 hot, 3 function level. Requests that wait are
discarded without completion. -/
def State.endpointReset (s : State) (n : Nat) : State :=
  let s := s.eptCfgOff.copyCut 6
  let on := (List.range 64).filter fun i => (s.ept.win.get i).valid
  let s := on.foldl (fun s i => s.setFld (Fld.EPT_WIN_CTL_VALID i) 0) s
  let s := s.updEpt fun e => { e with msix := [], pba := [], win := [], tlps := [] }
  let mine := fun (h : Hdr) => if h.chan = .mailbox then some (h.session, h.seq) else none
  let s := (s.setFld Fld.MFT_MBOX_STAT_BUSY 0).updMft fun m => { m with
    mboxDrop := (m.running.filterMap fun r => mine r.hdr) ++ (m.waiting.filterMap fun w => mine w.hdr) ++
      s.pair.heldRcpt.filterMap fun x => mine x.2.1 }
  let s := if n = 3 then s else (s.eptLinkOff).updEpt fun e => { e with ready := false }
  s.setFld Fld.EPT_STATUS_LAST_RST n

/-- Subsystem IDs as EPT_SUBSYS gives them at a fundamental reset (R371). -/
def State.loadSubsys (s : State) : State :=
  s.updEpt fun e => { e with subsys := (s.reg Reg.EPT_SUBSYS).toNat }

/-- A word of the configuration header (R371, Table 17-2): identity, class, and each BAR's type. -/
def State.cfgWord (s : State) (o : Nat) : Nat :=
  if o = 0x00 then 0x8C481F5D
  else if o = 0x08 then 0x088000B0
  else if o = 0x10 then 0x4
  else if o = 0x18 then 0xC
  else if o = 0x2C then s.ept.subsys
  else 0

/-- Bytes that a BAR claims (Table 17-2). -/
def barSize (n : Nat) : Nat :=
  if n = 0 then 2 ^ 26 else if n = 2 then 2 ^ 32 else if n = 4 ∨ n = 5 then 2 ^ 16 else 0

/-- HOT_RESET and FLR (R378). -/
def execHotReset (s : State) : Result := .next (s.endpointReset 2)
def execFlr (s : State) : Result := .next (s.endpointReset 3)

/-- The endpoint is powered: the rails are up, or a management window holds it (Table 15-1, R336, R379). -/
def State.eptPowered (s : State) : Bool :=
  !s.rst.resetN && !s.rst.coreLost && (if s.mgmtOnly then s.pwr.mgmtWindow else s.rst.railsUp == 3)

/-- ENDPOINT_LINK_UP (R371): PE_PERST_N is released and the link has trained; the host has set the function's command
bits (log entry 41). -/
def execEndpointLinkUp (speed width : Nat) (bme msixEn fmask tenBit : Bool) (s : State) : Result :=
  if s.eptPowered then
    let s := ((s.raise Fld.EPT_STATUS_LINK).setFld Fld.EPT_STATUS_SPEED speed).setFld Fld.EPT_STATUS_WIDTH width
    let s := (s.setFlag Fld.EPT_STATUS_BME bme).setFlag Fld.EPT_STATUS_MSIX_EN msixEn
    let s := (s.setFlag Fld.EPT_STATUS_FMASK fmask).setFlag Fld.EPT_STATUS_TEN_BIT tenBit
    .next (s.updEpt fun e => { e with ready := true, perst := false })
  else .next s

/-- ENDPOINT_LINK_DOWN (R375, R376). -/
def execEndpointLinkDown (s : State) : Result := .next s.eptLinkOff

end Sys2Proof.Machine
end

