-- ==== Sys2Proof/Machine/Weir.lean ====
section
/-! DEFINITION. The two weirs and the feed swap drill (13_paddles_weirs.md, R304 to R312). Voltages are in
10 mV. -/

namespace Sys2Proof.Machine

/-- Codes of WIR_STATE.STATE (Table 13-12). -/
abbrev Feed.absent : Nat := 0
abbrev Feed.under : Nat := 1
abbrev Feed.good : Nat := 2
abbrev Feed.over : Nat := 3
abbrev Feed.blocked : Nat := 4
abbrev Feed.disabled : Nat := 5

/-- WIR_STATE[f].STATE. -/
def State.feed (s : State) (f : Nat) : Nat := s.fld (Fld.WIR_STATE_STATE f)

/-- The state of an enabled feed at voltage `vin` that was in state `st` (Table 13-4, R306): the thresholds
with their hysteresis of 0.3 V, which precede BLOCKED. -/
def State.feedAt (s : State) (st vin : Nat) : Nat :=
  let uv := s.fld Fld.WIR_CFG_UV * 10
  let ov := s.fld Fld.WIR_CFG_OV * 10
  if vin < 200 then Feed.absent
  else if vin < uv then Feed.under
  else if ov < vin then Feed.over
  else if (st = Feed.absent ∨ st = Feed.under) ∧ vin < uv + 30 then Feed.under
  else if st = Feed.over ∧ ov - 30 < vin then Feed.over
  else if st = Feed.blocked then Feed.blocked
  else Feed.good

/-- The feed's FETs on or off; CARRYING follows them (log entry 9). -/
def State.conduct (s : State) (f : Nat) (on : Bool) : State :=
  let s := s.updShelf fun h => { h with weir := h.weir.set f ⟨on⟩ }
  (s.setFlag (Fld.WIR_STATE_CARRYING f) on).emit (.pin (.weirGate f) on)

/-- The drill ends with a result: regulation returns to 20 mV and a waiting FEED_DRILL is answered (R308). -/
def State.drillDone (s : State) (result : Nat) : State :=
  let s := s.setFld Fld.WIR_SHELF_DRILL_RUN 0
  let s := s.setFld Fld.WIR_DRILL_RESULT result
  let s := s.updShelf fun h => { h with lastDrill := some s.now }
  s.finishOn 0x0722 (.feed, 0) .success [beBytes 1 result]

/-- A reverse trip, a feed event or a power-state entry ends a running drill as ABORTED (R308). -/
def State.drillAbort (s : State) : State :=
  if s.flag Fld.WIR_SHELF_DRILL_RUN then s.drillDone 4 else s

/-- A change of state: FETs off outside GOOD, the entry counted, a drill aborted, the lockkeeper told
(R306). -/
def State.setFeed (s : State) (f st : Nat) : State :=
  if s.feed f = st then s else
  let s := s.setFld (Fld.WIR_STATE_STATE f) st
  let s := if st ≠ Feed.good ∧ (s.shelf.weir.get f).conducting then s.conduct f false else s
  let s := if st = Feed.under then s.count (Fld.WIR_EVT_UNDER f) 1
    else if st = Feed.over then s.count (Fld.WIR_EVT_OVER f) 1 else s
  (s.drillAbort).emit (.lockkeeper 2 f)

/-- WIR_CTL.EN_A or EN_B. -/
def Fld.feedEn (f : Nat) : Fld := if f = 0 then Fld.WIR_CTL_EN_A else Fld.WIR_CTL_EN_B

/-- FEED_FORWARD_TURN_ON (R304): a GOOD feed at VSHELF + 50 mV, or the first at a dark shelf, conducts. -/
def execFeedForwardTurnOn (f : Fin 2) (s : State) : Result :=
  if s.feed f = Feed.good ∧ (s.shelf.weir.get f).conducting = false then .next (s.conduct f true) else .next s

/-- FEED_REVERSE_TRIP (R305): FETs off, BLOCKED, REVERSE counted. -/
def execFeedReverseTrip (f : Fin 2) (s : State) : Result :=
  if (s.shelf.weir.get f).conducting then
    .next ((s.count (Fld.WIR_EVT_REVERSE f) 1).setFeed f Feed.blocked)
  else .next s

/-- FEED_STATE_CHANGE (R306): the feed is measured at `vin`, and where a threshold asks for 1 ms it has
passed. A feed that is not enabled is DISABLED. -/
def execFeedStateChange (f : Fin 2) (vin : Nat) (s : State) : Result :=
  let s := s.setFld (Fld.WIR_MEAS_VIN f) (min vin 4095)
  if s.flag (Fld.feedEn f) then .next (s.setFeed f (s.feedAt (s.feed f) vin))
  else .next (s.setFeed f Feed.disabled)

/-- FEED_UNBLOCK (R305): in the window for 1 ms and above VSHELF + 30 mV, the feed conducts again. -/
def execFeedUnblock (f : Fin 2) (vin vshelf : Nat) (s : State) : Result :=
  let s := (s.setFld (Fld.WIR_MEAS_VIN f) (min vin 4095)).setFld Fld.WIR_SHELF_VSHELF (min vshelf 4095)
  if s.feed f = Feed.blocked ∧ s.feedAt Feed.blocked vin = Feed.blocked ∧ vshelf + 3 < vin then
    .next ((s.setFeed f Feed.good).conduct f true)
  else .next s

/-- FEED_HEALTH_DEGRADED (R307): the forward drop has passed FWD_MAX for 10 ms at more than 1 A, or the gate
check failed. -/
def execFeedHealthDegraded (f : Fin 2) (s : State) : Result :=
  if (s.shelf.weir.get f).conducting then .next (s.raise (Fld.WIR_STATE_DEGRADED f)) else .next s

/-- FEED_HEALTH_OPEN (R307): GOOD, 100 mV above VSHELF and below 0.5 A for 10 ms. -/
def execFeedHealthOpen (f : Fin 2) (s : State) : Result :=
  if s.feed f = Feed.good then .next (s.raise (Fld.WIR_STATE_OPEN f)) else .next s

/-- A feed would be enabled and GOOD with the enable given. -/
def State.feedLive (s : State) (f : Nat) (en : Bool) : Bool :=
  en && (if s.feed f = Feed.disabled then s.feedAt Feed.good (s.fld (Fld.WIR_MEAS_VIN f)) == Feed.good
    else s.feed f == Feed.good)

/-- The enables and the drill interval written; none where no feed would stay enabled and GOOD (R306). -/
def State.wirCtl (s : State) (enA enB : Bool) (drillH : Nat) : Option State :=
  if s.feedLive 0 enA || s.feedLive 1 enB then
    let put := fun (s : State) (f : Nat) (en : Bool) =>
      let s := s.cfgFld (Fld.feedEn f) en.toNat
      if !en then s.setFeed f Feed.disabled
      else if s.feed f = Feed.disabled then s.setFeed f (s.feedAt Feed.good (s.fld (Fld.WIR_MEAS_VIN f)))
      else s
    some ((put (put s 0 enA) 1 enB).cfgFld Fld.WIR_CTL_DRILL_H drillH)
  else none

/-- WIR_CTL_WRITE (R306): ignored with CTL_REJ where it would leave no feed enabled and GOOD. -/
def execWirCtlWrite (enA enB : Bool) (drillH : Nat) (s : State) : Result :=
  match s.wirCtl enA enB drillH with
  | some t => .next t
  | none => .next (s.raise Fld.WIR_SHELF_CTL_REJ)

/-- A drill starts, or is skipped: both feeds GOOD, one idle, at most 150 mV below the other (R308). -/
def State.drillStart (s : State) : State :=
  let c := fun f => (s.shelf.weir.get f).conducting
  let v := fun f => s.fld (Fld.WIR_MEAS_VIN f)
  let idle := if c 0 then 1 else 0
  if s.feed 0 = Feed.good ∧ s.feed 1 = Feed.good ∧ (c 0 != c 1) ∧ v (1 - idle) ≤ v idle + 15 then
    (s.raise Fld.WIR_SHELF_DRILL_RUN).setFld Fld.WIR_DRILL_FEED idle
  else s.setFld Fld.WIR_DRILL_RESULT 3

/-- FEED_DRILL_TIMER (R308): every DRILL_H hours. -/
def execFeedDrillTimer (s : State) : Result :=
  if s.fld Fld.WIR_CTL_DRILL_H = 0 ∨ s.flag Fld.WIR_SHELF_DRILL_RUN then .next s else .next s.drillStart

/-- WIR_DRILL_NOW (Table 13-11, WIR_CTL.DRILL_NOW). -/
def execWirDrillNow (s : State) : Result :=
  if s.flag Fld.WIR_SHELF_DRILL_RUN then .next s else .next s.drillStart

/-- FEED_DRILL's effects (R308): a drill skipped is answered at once, one that runs at its end. -/
def feedDrillBody (s : State) : MRes :=
  let t := if s.flag Fld.WIR_SHELF_DRILL_RUN then s else s.drillStart
  if t.flag Fld.WIR_SHELF_DRILL_RUN then .later t true else .ok t [beBytes 1 3]

/-- FEED_DRILL (0x0722, R308, R310). -/
def execFeedDrill (h : Hdr) (s : State) : Result :=
  .next (s.manifest .feedDrill h 0x0722 [(.feed, 0), (.feed, 1)] feedDrillBody)

/-- DRILL_END (R308): PASS where the idle feed took at least 20 % of the current, else OPEN. -/
def execDrillEnd (share : Nat) (s : State) : Result :=
  if s.flag Fld.WIR_SHELF_DRILL_RUN then
    if 20 ≤ share then .next (s.drillDone 1)
    else .next ((s.raise (Fld.WIR_STATE_OPEN (s.fld Fld.WIR_DRILL_FEED))).drillDone 2)
  else .next s

/-- FEED_CFG's effects (Table 13-6): R306 applies to the enables. -/
def feedCfgBody (enA enB : Option Bool) (drillH uv ov fwdMax rs : OptVal) (s : State) : MRes :=
  let put := fun (s : State) (f : Fld) (v : OptVal) => match v with
    | none => s
    | some x => s.cfgFld f x
  let rest := fun (s : State) =>
    put (put (put (put s Fld.WIR_CFG_UV uv) Fld.WIR_CFG_OV ov) Fld.WIR_CFG_FWD_MAX fwdMax) Fld.WIR_CFG_RS rs
  if enA.isNone && enB.isNone && drillH.isNone then .ok (rest s) []
  else match s.wirCtl (enA.getD (s.flag Fld.WIR_CTL_EN_A)) (enB.getD (s.flag Fld.WIR_CTL_EN_B))
      (drillH.getD (s.fld Fld.WIR_CTL_DRILL_H)) with
    | some t => .ok (rest t) []
    | none => .refuse (s.raise Fld.WIR_SHELF_CTL_REJ) .invalidState [beBytes 4 (s.reg (Reg.WIR_STATE 0)).toNat]

/-- FEED_CFG (0x0720, R306, R310). -/
def execFeedCfg (h : Hdr) (enA enB : Option Bool) (drillH uv ov fwdMax rs : OptVal) (s : State) : Result :=
  .next (s.manifest (.feedCfg enA enB drillH uv ov fwdMax rs) h 0x0720 [(.feed, 0), (.feed, 1)]
    (feedCfgBody enA enB drillH uv ov fwdMax rs))

/-- Whole hours from a device time to now, saturating at 65,535; 0 where there was none. -/
def State.hoursSince (s : State) (t : Option Nat) : Nat := t.elim 0 fun t => min 65535 ((s.now - t) / 3600000000000)

/-- WIR_MEAS of a feed: its voltage, and its current, which is measured and free (log entry 1). -/
def State.feedMeas (s : State) (f : Nat) : Nat := setBits (s.reg (Reg.WIR_MEAS f)).toNat 12 13 (s.freeVal % 2 ^ 13)

/-- WIR_DRILL with its AGE_H. -/
def State.drillWord (s : State) : Nat := setBits (s.reg Reg.WIR_DRILL).toNat 16 16 (s.hoursSince s.shelf.lastDrill)

/-- Both feeds' states, measurements and health, and the last drill (Table 13-6). -/
def feedQueryBody (s : State) : MRes :=
  let w := fun a => beBytes 4 (s.reg a).toNat
  .ok s.tick.tick [w (Reg.WIR_STATE 0) ++ w (Reg.WIR_STATE 1), beBytes 4 (s.feedMeas 0) ++ beBytes 4 (s.tick.feedMeas 1),
    w Reg.WIR_SHELF, beBytes 4 s.drillWord]

/-- FEED_QUERY (0x0721, R310). -/
def execFeedQuery (h : Hdr) (s : State) : Result :=
  .next (s.manifest .feedQuery h 0x0721 [(.feed, 0), (.feed, 1)] feedQueryBody)

end Sys2Proof.Machine
end

