-- ==== Sys2Proof/Machine/Reset.lean ====
section
/-! DEFINITION. Starting, resetting and moorings (18_resets_moorings.md), with the rail sequence of
23_electrical_package.md (R445 to R449). -/

namespace Sys2Proof.Machine

/-- Order of width of the reset kinds (R395), and their codes in TWP_RST_CAUSE.LAST (Table 18-9). -/
def ResetKind.width : ResetKind → Nat
  | .powerOn => 5 | .resetN => 4 | .watchdog => 3 | .warm => 2 | .takeover => 1
def ResetKind.last : ResetKind → Nat
  | .powerOn => 1 | .resetN => 2 | .warm => 3 | .watchdog => 4 | .takeover => 5

/-- Whether a kind keeps the registers of a block: those of the towpath die, and the endpoint's in a warm restart or
watchdog reset (Table 18-3). -/
def ResetKind.keeps (k : ResetKind) : Blk → Bool
  | .glb | .twp | .pdl | .wir | .clk | .aqd | .lkp => true
  | .ept => k == .warm || k == .watchdog
  | _ => false

/-- The register with its volatile fields at their start values (R381). -/
def RegDef.cleared (r : RegDef) (x : Word32) : Word32 :=
  r.fields.foldl (fun y f => if f.cls = .v then f.put y f.start else y) x

/-- The volatile fields of every register that is not kept at their start values. -/
def State.clearRegs (s : State) (keep : Nat → Blk → Bool) : State :=
  { s with regs := s.regs.foldl (fun t e => match findBlock e.1, findReg e.1 with
      | some b, some r => if keep e.1 b.blk then t else Tab.setD regStart t e.1 (r.cleared e.2)
      | _, _ => t) s.regs }

/-- A bay port after its domain was reset or off: PERST_N asserted, EMPTY or PRESENT (Table 12-5, R390). -/
def State.portOff (s : State) (b : Nat) : State :=
  let s := if (s.bport b).released then s.perst b true else s
  let s := { s with port := s.port.set b default }
  s.setBay b (if s.pad b = Pad.empty then Bay.empty else Bay.present)

/-- Groups whose MUX_SEL_N is asserted: the towpath drives it through every reset but power-on (R274). -/
def State.muxes (s : State) : List Nat := (List.range 16).filter fun g => s.flag (Fld.DRV_GRP_STAT_MUX_ASSERTED g)

/-- Registers cleared, with links down, bay ports off and MUX_SEL_N as it was. -/
def State.regsOff (s : State) (keep : Nat → Blk → Bool) : State :=
  let m := s.muxes
  let s := (s.allLinksDown).clearRegs keep
  let s := m.foldl (fun s g => s.raise (Fld.DRV_GRP_STAT_MUX_ASSERTED g)) s
  (List.range 48).foldl State.portOff s

/-- A key slot whose retired bank is lost (Table 18-6). -/
def KeySlot.oneBank (k : KeySlot) : KeySlot := k.setBank (!k.active) default

/-- The volatile contents of canal die, quays and drive groups lost (Table 18-6): berths, engine banks, queue pairs,
associations, windows, canal, wharf, reservoir, gather buffer, tokens, tally, links. The drives stay, with the ledgers and
deferred-error logs on them, which assembly and replay read again (R53, R176, R190). -/
def State.coreOff (s : State) : State :=
  let tug : Tugs := { (default : Tugs) with win := s.tug.win.mapAll fun _ w => { (default : DockWin) with gen := w.gen } }
  let keys : SlotRun → SlotRun := fun r => { (default : SlotRun) with serial := r.serial }
  let cip : Cipher := { (default : Cipher) with
    slot := s.cip.slot.mapAll fun _ r => keys r
    serialDraw := s.cip.serialDraw, serialZero := s.cip.serialZero }
  { s with brg := default, tug := tug, host := default, net := default, slc := default, cnl := default, whf := default
           res := [], idle := [], latch := [], loHeld := [], cip := cip
           ary := []
           mrd := { s.mrd with keys := s.mrd.keys.mapAll fun _ k => k.oneBank } }

/-- A lockkeeper drill ends: RESULT, duration and time; the spare is cold again, and LKP_DRILL is answered (R333). -/
def State.lkpDrillEnd (s : State) (result ms : Nat) : State :=
  let s := (s.setFld Fld.LKP_DRILL_STAT_RESULT result).setFld Fld.LKP_DRILL_STAT_DUR_MS (min 4095 ms)
  let s := (s.setFld Fld.LKP_CORE_STAT_SPARE 0).updPeer fun p => { p with drill := none, lastDrill := some s.now }
  s.finishOn 0x0A30 (.device, 0) .success [beBytes 1 result]

/-- A drill under way ends as ABORTED (R333, R346, R395). -/
def State.lkpDrillAbort (s : State) : State :=
  match s.pair.drill with
  | none => s
  | some d => s.lkpDrillEnd 3 ((s.now - d.start) / 1000000)

/-- What pairing holds only while the device runs. What heartbeats and bollards showed stays with the towpath. -/
def Pairing.off (p : Pairing) : Pairing :=
  { p with round := none, claim := .none, attempts := 0, firstRead := none, force := false, prompts := [], held := []
           heldRcpt := [], window := none, resync := none, rxOpen := false, healthFor := none, relayFor := none
           relayGot := [], relayTotal := 0, draining := false, prepared := false, tko := none, baysDue := false
           lkDown := false, drill := none, pairTables := [] }

/-- Every domain but the towpath put into reset (R391, R395): journal entries taken before are durable; sessions,
drills, copies and transitions end; the device stands before T2. -/
def State.domainsOff (s : State) (k : ResetKind) : State :=
  let s := s.journal
  let s := s.updMft fun m => { (default : Mft) with events := m.events }
  let s := s.drillAbort.lkpDrillAbort
  let s := (s.regsOff fun _ b => k.keeps b).coreOff
  let s := if k.keeps .ept then s.copyCut 6
    else s.updEpt fun e => { (default : Ept) with perst := e.perst, subsys := e.subsys }
  let s := ((s.setFld Fld.TWP_RST_CAUSE_READY 0).setReg Reg.TWP_PWR_STATE 0).setReg Reg.TWP_DOMAIN_STAT 0
  let s := (s.setReg Reg.TWP_QUAD_GATED 0).setFld Fld.TWP_MOOR_STAT_COMPACTING 0
  let s := ((s.setFld Fld.AQD_LEASE_STAT_HOLDER 0).setFld Fld.AQD_LEASE_STAT_MAJ 0).setFld Fld.AQD_LINK_STAT_UP0 0
  let s := s.setFld Fld.AQD_LINK_STAT_UP1 0
  { s with tal := default, pwr := { (default : Pwr) with tj := s.pwr.tj }, pair := s.pair.off }.updRst fun r =>
    { r with phase := .t2, portsUp := false, baysUp := false, draining := false, holds := [], kind := k }

/-- A reset of the device (R390): its cause is recorded. -/
def State.deviceReset (s : State) (k : ResetKind) : State :=
  let s := (s.domainsOff k).setFld Fld.TWP_RST_CAUSE_LAST k.last
  let s := match k with
    | .warm => s.count Fld.TWP_RST_CAUSE_WARM_CNT 1
    | .watchdog => s.count Fld.TWP_RST_CAUSE_WDOG_CNT 1
    | _ => s
  s.logEvent EventKind.reset.code k.last

/-- Width of the start or reset in progress; a warm restart runs from its drain on (R392, R395). -/
def State.resetWidth (s : State) : Nat :=
  if s.rst.phase = .serving ∨ s.rst.phase = .standby then (if s.rst.draining then ResetKind.warm.width else 0)
  else s.rst.kind.width

/-- The domains held as RESET_N holds them; a power-on start that this meets absorbs it and begins again (R391, R395). -/
def State.asResetN (s : State) : State :=
  s.deviceReset (if s.resetWidth = ResetKind.powerOn.width then .powerOn else .resetN)

/-- A reset of a kind asked for: absorbed by one as wide or wider (R395). -/
def State.resetAs (s : State) (k : ResetKind) : State :=
  if k.width ≤ s.resetWidth then s else s.deviceReset k

/-- A warm restart begins with its drain: admission stops (R392). -/
def State.warmRestart (s : State) : State :=
  if ResetKind.warm.width ≤ s.resetWidth then s
  else
    let t := s.now + s.fld Fld.TWP_START_CFG_DRAIN_MS * 1000000
    s.updRst fun r => { r with draining := true, drainBy := t, holds := [] }

/-- No command is admitted and unfinished. -/
def State.idleBerths (s : State) : Bool := (s.berths fun b => b.state != .free).isEmpty

/-- WARM_RESTART_DRAIN_END (R392): no admitted command is left, or DRAIN_MS has passed. -/
def execWarmRestartDrainEnd (s : State) : Result :=
  if s.rst.draining ∧ (s.rst.drainBy ≤ s.now ∨ s.idleBerths) then .next (s.deviceReset .warm) else .next s

/-- The role taken, moored as LAST_ROLE where it differs (Table 14-10). -/
def State.setRole (s : State) (r : Nat) : State :=
  let s := s.setFld Fld.AQD_ROLE_ROLE r
  if s.fld Fld.AQD_ROLE_LAST_ROLE = r then s else s.moorFld Fld.AQD_ROLE_LAST_ROLE r

/-- The next rail group's enable raised (R445): groups HBM, QAY and CNL in this order, the last with an AVS target of
0.80 V (Table 23-6). -/
def State.raiseRail (s : State) : State :=
  if s.rst.railsUp < 3 ∧ s.rst.railsOn = s.rst.railsUp ∧ !s.rst.railWait ∧ !s.rst.tripped then
    let s := if s.rst.railsUp = 2 then s.avsTo 160 else s
    (s.emit (.pin (.railEnable s.rst.railsUp) true)).updRst fun r => { r with railsOn := r.railsUp + 1 }
  else s

/-- Every enable that is up lowered, in reverse order (Table 23-6, R446). -/
def State.lowerRails (s : State) : State :=
  let s := (List.range s.rst.railsOn).reverse.foldl (fun s g => s.emit (.pin (.railEnable g) false)) s
  s.updRst fun r => { r with railsUp := 0, railsOn := 0, avs := 0 }

/-- POWER_FAULT_N driven low and the event logged (R446, R447, R449). -/
def State.powerFault (s : State) (arg : Nat) : State :=
  let s := if s.rst.powerFault then s else s.emit (.pin .powerFault true)
  (s.updRst fun r => { r with powerFault := true }).logEvent EventKind.power.code arg

/-- T5 begins: the canal die and its rails (Table 18-2, Table 23-6). -/
def State.startT5 (s : State) : State := (s.updRst fun r => { r with phase := .t5 }).raiseRail

/-- Domains outside the towpath are held in reset (R391, R422, R449). -/
def State.heldOff (s : State) : Bool := s.rst.resetN || s.rst.coreLost || s.rst.tripped

/-- POWER_ON (R390, Table 23-6): everything volatile is lost; the store, the boot flash, the drives and what stands on
them stay. The output pins take their levels. -/
def execPowerOn (s : State) : Result :=
  let pins : List Out :=
    ((List.range 3).map fun g => .pin (.railEnable g) false) ++ ((List.range 48).map fun b => .pin (.perst b) true) ++
      ((List.range 16).map fun g => .pin (.muxSel g) false) ++ [.pin .devFault false, .pin .powerFault false] ++
      ((List.range 48).map fun b => .pin (.gateMain b) false) ++ ((List.range 48).map fun b => .pin (.gateAux b) false) ++
      (List.range 2).map fun f => .pin (.weirGate f) false
  let cip : Cipher := { (default : Cipher) with serialDraw := s.cip.serialDraw }
  .next { State.reset with
    store := { s.store with waiting := [], stopped := false }
    fw := s.fw, cip := cip, drives := s.drives, away := s.away, out := s.out ++ pins, pending := s.pending
    peerOut := s.peerOut, free := s.free, now := s.now, timeBase := -(s.now : Int) }

/-- TOWPATH_RESET_RELEASE (T1, Table 18-2). -/
def execTowpathResetRelease (s : State) : Result :=
  if s.rst.phase = .t1 then .next (s.updRst fun r => { r with phase := .t2 }) else .next s

/-- A slot with changes applied to it (R384, R385): moored registers over their factory values, and the tables. -/
def MoorSlot.apply (t : MoorSlot) (l : List JEntry) : MoorSlot :=
  l.foldl (fun t e => { t with seq := e.seq, regs := e.change.toRegs t.regs, tab := e.change.toTables t.tab }) t

/-- The slot in force: of the valid ones that with the higher CKPT_SEQ; `true` is B (R385). -/
def Store.current (t : Store) : Option (Bool × MoorSlot) :=
  match t.slotA.valid, t.slotB.valid with
  | true, true => if t.slotA.seq < t.slotB.seq then some (true, t.slotB) else some (false, t.slotA)
  | true, false => some (false, t.slotA)
  | false, true => some (true, t.slotB)
  | false, false => none

/-- Journal entries above a slot's CKPT_SEQ that are applied: up to the first that is invalid (R385). -/
def Store.entries (t : Store) (seq : Nat) : List JEntry :=
  (t.journal.filter fun e => decide (seq < e.seq)).takeWhile (·.crcOk)

/-- The moored image as the store holds it. -/
def Store.image (t : Store) : MoorSlot :=
  match t.current with
  | none => { (default : MoorSlot) with valid := true }
  | some (_, x) => x.apply (t.entries x.seq)

/-- Moored fields at their factory values, then as the image has them. -/
def State.restoreRegs (s : State) (img : Tab Word32) : State :=
  let put := fun (t : Tab Word32) (a : Nat) (v : Nat → Word32) => match findReg a with
    | none => t
    | some d => if d.moored then Tab.setD regStart t a (d.restore (Tab.getD regStart t a) (v a)) else t
  let t := s.regs.foldl (fun t e => put t e.1 regStart) s.regs
  { s with regs := img.foldl (fun t e => put t e.1 fun _ => e.2) t }

/-- The device with the moorings of an image in force. Retired key banks are not restored (Table 18-6). -/
def State.takeImage (s : State) (x : MoorSlot) : State :=
  let s := s.restoreRegs x.regs
  let tab : Moored := { x.tab with keys := x.tab.keys.mapAll fun _ k => k.oneBank }
  let s := { s with mrd := tab }.updStore fun t => { t with seq := x.seq, waiting := [] }
  let s := (s.setFld Fld.TWP_MOOR_SEQ_LO_SEQ (x.seq % 2 ^ 32)).setFld Fld.TWP_MOOR_SEQ_HI_SEQ (x.seq / 2 ^ 32)
  s.moorStat

/-- The device wrap key is drawn from the entropy source where the identity region holds none: at the first power-on, and
after UNMOOR (R222, R387; log entry 1). -/
def State.ensureWrapKey (s : State) : State :=
  if s.store.wrapKey.isSome then s
  else (s.updStore fun t => { t with wrapKey := some (BitVec.ofNat 256 s.freeVal) }).tick

/-- Factory values in every moored field, and a fresh image in slot A (R386, R387). -/
def State.startFactory (s : State) (source : Nat) : State :=
  let s := s.ensureWrapKey
  let fresh : MoorSlot := { (default : MoorSlot) with valid := true }
  let s := s.updStore fun t => { t with slotA := fresh, slotB := default, journal := [], written := true, unmoor := false }
  (s.takeImage fresh).setFld Fld.TWP_MOOR_STAT_SOURCE source

/-- T2 (R385 to R387): the moorings come from the slot in force and the journal; from factory values after UNMOOR,
whose zeroing is completed first; or from factory values where both slots failed. -/
def State.restoreMoorings (s : State) : State :=
  if s.store.unmoor then s.startFactory 2
  else match s.store.current with
    | none =>
      let s' := s.startFactory 3
      if s.store.written then s'.globalFault .mooring else s'
    | some (b, x) =>
      let torn := (s.store.journal.filter fun e => decide (x.seq < e.seq)).any fun e => !e.crcOk
      let s := (s.takeImage s.store.image).setFld Fld.TWP_MOOR_STAT_SOURCE b.toNat
      let s := s.setFlag Fld.TWP_MOOR_STAT_TORN torn
      let s := s.updStore fun t => { t with journal := t.entries x.seq }
      if s.store.slotA.valid && s.store.slotB.valid then s else s.raise Fld.TWP_MOOR_STAT_SLOT_ERR

/-- T4 (Table 18-2): SOLO at once, or the 50 ms listen of "Start of a pair". -/
def State.startRole (s : State) : State :=
  if s.fld Fld.AQD_PAIR_CFG_PAIR_EN = 0 then (s.setRole 0).startT5
  else
    let s := s.setFld Fld.AQD_ROLE_ROLE 2
    (s.updPeer fun p => { p with listening := true, heardSince := false }).updRst fun r => { r with phase := .t4 }

/-- MOORINGS_RESTORE (R385 to R388). -/
def execMooringsRestore (s : State) : Result :=
  if s.rst.phase = .t2 ∧ !s.heldOff then
    let s := s.restoreMoorings
    let s := if s.rst.kind.keeps .ept then s else s.loadSubsys
    .next (s.updRst fun r => { r with assembleS := s.fld Fld.TWP_START_CFG_ASSEMBLE_S }).startRole
  else .next s

/-- PWRGD_RISE (R445): the next group is enabled; with the last, the PLLs lock, the AVS target moves to the part's value
and POWER_FAULT_N is released. -/
def execPwrgdRise (g : Fin 3) (s : State) : Result :=
  if s.rst.railsUp = g.val ∧ s.rst.railsOn = g.val + 1 then
    let s := s.updRst fun r => { r with railsUp := g.val + 1 }
    if g.val < 2 then .next s.raiseRail
    else
      let s := if s.rst.powerFault then s.emit (.pin .powerFault false) else s
      let s := s.updRst fun r => { r with retries := 0, powerFault := false }
      let s := (s.raise Fld.CLK_LOCK_CORE).raise Fld.CLK_LOCK_EPT
      let s := (s.setFld Fld.CLK_LOCK_DRV 0xFFFF).setFld Fld.CLK_QUAD_LOCK_QUADS 0xFFFFFFFF
      .next ((s.setFld Fld.CLK_LOCK_AQD 3).raise Fld.CLK_LOCK_MGMT).avsFollow
  else .next s

/-- PWRGD_TIMEOUT (R446): the enables are lowered; the sequence is repeated after 1 s, at most three attempts in all. -/
def execPwrgdTimeout (g : Fin 3) (s : State) : Result :=
  if s.rst.railsUp = g.val ∧ s.rst.railsOn = g.val + 1 then
    let s := (s.lowerRails).powerFault g
    .next (s.updRst fun r => { r with retries := r.retries + 1, railWait := true })
  else .next s

/-- POWER_SEQUENCE_RETRY (R446, R447): after three failed attempts the device stays with the towpath alone. -/
def execPowerSequenceRetry (s : State) : Result :=
  if s.rst.railWait ∧ s.rst.retries < 3 then
    let s := s.updRst fun r => { r with railWait := false }
    .next (if s.rst.phase = .t5 then s.raiseRail else s)
  else .next s

/-- The PLLs are off with their supplies. -/
def State.clocksOff (s : State) : State := (s.setReg Reg.CLK_LOCK 0).setReg Reg.CLK_QUAD_LOCK 0

/-- PWRGD_FALL (R447): as RESET_N, with the enables lowered. It is no fault while its enable is low, and the enables
are lowered in a P4 entry after its commit. -/
def execPwrgdFall (g : Fin 3) (s : State) : Result :=
  if s.rst.railsUp ≤ g.val ∨ (s.pwr.stage = .committed ∧ s.fld Fld.TWP_PWR_STATE_TARGET = 4) then .next s
  else
    let s := s.asResetN.lowerRails.clocksOff
    .next ((s.powerFault g).updRst fun r => { r with railWait := true })

/-- THERMAL_TRIP (R449): a sensor at 130 °C or above; every domain is clamped and the enables lowered; only RESET_N or
power-on restarts. -/
def execThermalTrip (s : State) : Result :=
  let s := (s.domainsOff .resetN).lowerRails.clocksOff
  let s := s.updPwr fun p => { p with tj := some (max 403 (p.tj.getD 0)) }
  .next (((s.powerFault 3).raise Fld.TWP_RST_CAUSE_THERMAL).updRst fun r => { r with tripped := true })

/-- VDD_TWP_FALL (R448). -/
def execVddTwpFall (s : State) : Result := .next (s.updStore fun t => { t with stopped := true })

/-- RESET_N_ASSERT (R391, R395): the domains are held; a power-on start that it meets absorbs it. -/
def execResetNAssert (s : State) : Result :=
  if s.rst.resetN then .next s
  else
    let s := s.updRst fun r => { r with resetN := true }
    .next (if s.rst.phase = .t1 then s else s.asResetN)

/-- Every sensor that has reported reads below 110 °C (R449). -/
def State.cool (s : State) : Bool := decide (s.pwr.tj.getD 0 < 383)

/-- RESET_N_RELEASE (R391): T2 starts. It ends a sequence that had given up (R446), and a thermal trip once every sensor
reads below 110 °C (R449, log entry 65). -/
def execResetNRelease (s : State) : Result :=
  if s.rst.resetN then
    .next (s.updRst fun r => { r with resetN := false, tripped := r.tripped && !s.cool, retries := 0, railWait := false })
  else .next s

/-- CANAL_DIE_UP (T5 ends): rails up, wharf walk and entropy start-up done, counters loaded (R211, R230, R233); T6 and T8
begin, and every quad trains (R253). -/
def execCanalDieUp (s : State) : Result :=
  if s.rst.phase = .t5 ∧ s.rst.railsUp = 3 ∧ !s.heldOff then
    let fresh : Bool := s.rst.kind == .powerOn || s.rst.kind == .takeover
    let s := s.updCip fun c => { c with
      started := true
      slot := if fresh then [] else c.slot
      serialDraw := if fresh then c.serialDraw + 1 else c.serialDraw
      serialZero := if fresh then s.flag Fld.CIP_STATUS_ENT_DEGRADED else c.serialZero }
    let s := s.setFld Fld.WHF_STATE_STATE (if s.flag Fld.WHF_CTL_EN then 1 else 3)
    let s := s.setFlag Fld.WHF_STATE_CLEAN (!s.flag Fld.WHF_CTL_EN)
    let s := s.updRst fun r => { r with phase := .t6, portsUp := true }
    .next ((List.range 32).foldl State.retrain s)
  else .next s

/-- RESERVOIR_TRAINED (T6 ends): full where no training values were moored; the device records them (R381). -/
def execReservoirTrained (s : State) : Result :=
  if s.rst.phase = .t6 ∧ !s.heldOff then
    let full : Bool := !s.store.trained || decide (2 ≤ s.fld Fld.TWP_MOOR_STAT_SOURCE)
    .next ((s.updRst fun r => { r with phase := .t7, fullTrain := full }).updStore fun t => { t with trained := true })
  else .next s

/-- The staged firmware image becomes the one that runs (FW_ACTIVATE, Table 16-5). -/
def State.runFirmware (s : State) : State :=
  if (s.rst.runStaged || (s.fw.atTakeover && s.rst.kind == .takeover)) ∧ s.fw.staged then
    { s with fw := { s.fw with activeVersion := some s.fw.version, staged := false, atTakeover := false } }.updRst fun r =>
      { r with runStaged := false }
  else s.updRst fun r => { r with runStaged := false }

/-- Enables of every bay with INTENT = 1 that is PRESENT, and the drives of powered bays held in PERST_N for 100 ms
(R293, R390). -/
def State.startBays (s : State) : State :=
  let s := (List.range 48).foldl (fun s b =>
    if s.pad b = Pad.present ∧ s.flag (Fld.PDL_STATE_INTENT b) then
      (if s.limitsValid b then s.enqueueBay b else s.raise (Fld.PDL_FAULT_CFG b))
    else s) s
  (List.range 48).foldl (fun s b =>
    if s.flag (Fld.PDL_STATE_PG b) then s.updPort b fun p => { p with perstDue := true } else s) s

/-- The engines' instruction stores loaded from the firmware image that runs (R95). -/
def State.loadEngines (s : State) : State := s.updBrg fun g => { g with istore := some s.fw.running }

/-- LOCKKEEPER_STARTED (T7 ends): READY; T9 begins (R392). -/
def execLockkeeperStarted (s : State) : Result :=
  if s.rst.phase = .t7 ∧ !s.heldOff then
    let s := s.runFirmware.loadEngines.updRst fun r => { r with
      phase := .serving, baysUp := true, wdogAt := s.now
      assembleBy := s.now + s.rst.assembleS * 1000000000
      wdogPeriod := s.fld Fld.TWP_WDOG_CFG_PERIOD_MS }
    let s := s.raise Fld.TWP_RST_CAUSE_READY
    let s := if s.isSolo then s else s.updPeer fun p => { p with baysDue := true }
    -- the exit from P4 in which a takeover starts ends here
    let s := if s.rst.kind = .takeover then
        let us := (s.now - s.pwr.exitStart) / 1000
        ((s.setReg Reg.TWP_PWR_STATE 0).setFld Fld.TWP_WAKE_STAT_LAST_EXIT (min 65535 (us / 10))).updPwr fun p =>
          { p with stage := .none }
      else s
    .next s.startBays
  else .next s

/-- A bay named by a role has settled (R389). -/
def State.baySettled (s : State) (b : Nat) : Bool :=
  s.bay b == Bay.ready || s.bay b == Bay.failed || s.bay b == Bay.refused || s.bay b == Bay.empty

/-- Bays that an array's roles name. -/
def Arr.bays (a : Arr) : List Nat :=
  a.roles.flatMap fun r => r.bay.toList ++ (match r.target with
    | .bay b => [b]
    | _ => [])

/-- What the other device of a pair has left on drives that both reach, where no array in service here uses them
(R326, log entry 60). -/
def State.takeLeft (s : State) (left : List (Fin 48 × Medium)) : State :=
  if s.isSolo then s
  else (left.filter fun e => (s.bayArray e.1).all fun i => !(s.ary.get i).assembled).foldl (fun s e =>
    s.updMedium e.1 fun _ => e.2.canon) s

/-- ARRAY_ASSEMBLY (R170, R389): on a device that may write to its drives, once the array's bays have settled. -/
def execArrayAssembly (a : Fin 16) (left : List (Fin 48 × Medium)) (s : State) : Result :=
  let s := s.takeLeft left
  if s.rst.baysUp ∧ s.owns ∧ (s.mrd.arr.get a).bays.all s.baySettled then .next (s.assemble a).tkoEnd else .next s

/-- ASSEMBLE_TIMEOUT (R389): ASSEMBLE_S after T9 began, arrays that wait are assembled with what is there. -/
def execAssembleTimeout (s : State) : Result :=
  if s.rst.baysUp ∧ s.owns ∧ s.rst.assembleBy ≤ s.now then .next ((List.range 16).foldl State.assemble s).tkoEnd else .next s

/-- WATCHDOG_KICK (R393, Table 18-10): from the active lockkeeper core only; a new period counts from the next kick. -/
def execWatchdogKick (core : Fin 2) (s : State) : Result :=
  if s.fld Fld.LKP_CORE_STAT_ACTIVE = core.val ∧ s.rst.phase = .serving then
    .next (s.updRst fun r => { r with wdogAt := s.now, wdogPeriod := s.fld Fld.TWP_WDOG_CFG_PERIOD_MS })
  else .next s

/-- The spare lockkeeper core takes over (R332): the failed one stays off until power-on; what stood in slots is
executed from its start (R46). -/
def State.coreSwitch (s : State) : State :=
  let s := s.lkpDrillAbort
  let s := (s.setFld Fld.LKP_CORE_STAT_ACTIVE (1 - s.fld Fld.LKP_CORE_STAT_ACTIVE)).setFld Fld.LKP_CORE_STAT_SPARE 2
  let s := (s.count Fld.LKP_CORE_STAT_SWITCHES 1).updPeer fun p => { p with lkDown := false }
  (s.updRst fun r => { r with wdogAt := s.now }).resumeSlots

/-- A lockkeeper core fails: the spare takes over where there is one (R332). -/
def State.coreFailed (s : State) : State :=
  if s.fld Fld.LKP_CORE_STAT_SPARE = 2 then s.updPeer fun p => { p with lkDown := true } else s.coreSwitch

/-- WATCHDOG_EXPIRY (R393): a period without a kick has passed; stopped in P3 and P4 and while RESET_N is low. -/
def execWatchdogExpiry (s : State) : Result :=
  if s.rst.phase ≠ .serving ∨ s.rst.resetN ∨ 3 ≤ s.fld Fld.TWP_PWR_STATE_CUR ∨
      s.now < s.rst.wdogAt + s.rst.wdogPeriod * 1000000 then .next s
  else if s.fld Fld.LKP_CORE_STAT_SPARE = 2 then .next (s.resetAs .watchdog)
  else .next s.coreSwitch

/-- The condition of a restart cause holds: every engine or lane is fenced; dirty wharf data met an uncorrectable error,
and no restart has come since (R396). -/
def State.causeHolds (s : State) : FaultCause → Bool
  | .engines => s.allFenced
  | .wharfUe => s.whf.ueDirty
  | .cipher => s.lanesUp == []
  | _ => false

/-- FAULT_HOLD_EXPIRY (R396): HOLD_S after a cause, a warm restart, unless the condition that raised it has gone. -/
def execFaultHoldExpiry (s : State) : Result :=
  let due := s.rst.holds.filter fun h => decide (h.2 ≤ s.now)
  let s := s.updRst fun r => { r with holds := r.holds.filter fun h => !decide (h.2 ≤ s.now) }
  .next (if due.any fun h => s.causeHolds h.1 then s.warmRestart else s)

/-- A write to the store has failed after three attempts (Table 18-7, Table 18-11). -/
def State.storeFailed (s : State) : State := (s.raise Fld.TWP_MOOR_STAT_WRITE_ERR).globalFault .mooring

/-- MOOR_JOURNAL_WRITE (R383): the changes that wait are durable, or wait on where the write failed. -/
def execMoorJournalWrite (ok : Bool) (s : State) : Result :=
  if ok then .next s.journal
  else if s.store.stopped ∨ s.store.waiting = [] then .next s
  else .next s.storeFailed

/-- The slot not in use has lost its CRC (R384). -/
def Store.spoil (t : Store) : Store :=
  match t.current with
  | some (false, _) => { t with slotB := default }
  | _ => { t with slotA := default }

/-- JOURNAL_COMPACTION (R384): with the journal 75 % full, a complete image goes to the slot not in use and frees the
journal's entries. One that does not come to its end (`1`: a write failed after three attempts, `2`: cut short by a power
loss) leaves that slot without a valid CRC, the other and the journal as they are. -/
def execJournalCompaction (outcome : Fin 3) (s : State) : Result :=
  if s.store.stopped ∨ s.fld Fld.TWP_MOOR_STAT_JOURNAL_PCT < 75 then .next s
  else if outcome ≠ 0 then
    let t := s.updStore Store.spoil
    .next (if outcome = 1 then t.storeFailed else t)
  else
    let s := s.journal
    let img : MoorSlot := { s.store.image with seq := s.store.seq }
    let s := s.updStore fun t => match t.current with
      | some (true, _) => { t with slotA := img, journal := [] }
      | some (false, _) => { t with slotB := img, journal := [] }
      | none => { t with slotA := img, journal := [] }
    .next s.moorStat

/-- A core PLL has lost lock: the domains are held as by RESET_N, and LAST says so (R422). -/
def State.coreLol (s : State) : State :=
  if s.fld Fld.CLK_LOCK_CORE = 0 then s
  else
    let s := ((s.raise Fld.CLK_LOL_CORE_LOL).count Fld.CLK_LOL_CORE_CNT 1).setFld Fld.CLK_LOCK_CORE 0
    let s := s.logEvent EventKind.clock.code 0
    let s := s.updRst fun r => { r with coreLost := true }
    s.asResetN.setFld Fld.TWP_RST_CAUSE_LAST ResetKind.resetN.last

/-- CORE_LOSS_OF_LOCK (R422). -/
def execCoreLossOfLock (s : State) : Result := .next s.coreLol

end Sys2Proof.Machine
end

