-- ==== Sys2Proof/Machine/Power.lean ====
section
/-! DEFINITION. Power states (15_power_states.md): requests and the idle policy, entries and their refusers, wakes and
exits, the trimming of P1. -/

namespace Sys2Proof.Machine

/-- TWP_PWR_STATE.CUR: the state the device is in. -/
def State.cur (s : State) : Nat := s.fld Fld.TWP_PWR_STATE_CUR

/-- The state, with no transition in progress. -/
def State.setCur (s : State) (p : Nat) : State :=
  ((s.setFld Fld.TWP_PWR_STATE_CUR p).setFld Fld.TWP_PWR_STATE_TARGET p).setFld Fld.TWP_PWR_STATE_BUSY 0

/-- The characters of a name (Table 15-2, Table 15-5). -/
def ascii (l : List Char) : List Byte := l.map fun c => BitVec.ofNat 8 c.toNat
/-- `n` decimal digits, and two hexadecimal ones. -/
def decimal (n v : Nat) : List Byte := (List.range n).map fun i => BitVec.ofNat 8 (48 + v / 10 ^ (n - 1 - i) % 10)
def hexDigit (d : Nat) : Byte := BitVec.ofNat 8 (if d < 10 then 48 + d else 55 + d)
def hexadecimal (v : Nat) : List Byte := [hexDigit (v / 16 % 16), hexDigit (v % 16)]
/-- A name padded with spaces to 8 characters (R343). -/
def nameOf (l : List Byte) : List Byte := (l ++ List.replicate 8 32).take 8

/-- A name in its two registers, character 0 lowest (Table 15-10). -/
def State.setName (s : State) (lo hi : Fld) (l : List Byte) : State :=
  (s.setFld lo (leVal (l.take 4))).setFld hi (leVal (l.drop 4))

/-- A host with a live association that wishes a state shallower than `t` (R61). -/
def State.hostRefuses (s : State) (t : Nat) : Option Nat :=
  let l := (s.host.assoc.filter fun e => e.2.live && decide (e.2.wish < t)).map fun e => e.2.host
  leastBy (fun h => h) l

/-- A tug group with a send that is not acknowledged or a receive that is not placed (Table 15-2). -/
def State.tugBusy (s : State) (g : Nat) : Bool :=
  (s.tug.qp.any fun e => decide (e.1 < 65536) && qpGroup e.1 == g &&
    (!e.2.sent.isEmpty || e.2.msgs.any fun m => !m.delivered)) ||
  s.tug.conn.any fun e => connGroup e.1 == g && e.2.isOpen && (e.2.sndUna != e.2.sndNxt || !e.2.ooo.isEmpty)

/-- The refuser of an entry to state `t`, first in the order of Table 15-2 and then by lowest number: its row and
name. -/
def State.refuser (s : State) (t : Nat) : Option (Nat × List Byte) :=
  let deep : Bool := decide (2 ≤ t)
  let off : Bool := decide (3 ≤ t)
  let first := fun (row n : Nat) (on : Bool) (p : Nat → Bool) (nm : Nat → List Byte) =>
    if on then ((List.range n).find? p).map fun i => (row, nameOf (nm i)) else none
  let host := (s.hostRefuses t).map fun h => (0, nameOf (ascii ['H', 'O', 'S', 'T'] ++ decimal 4 h))
  let rebuilds := fun a => (s.mrd.arr.get a).state == .rebuilding && !s.flag (Fld.ARY_REBUILD_CFG_HOLD a)
  let gathers := fun a => (s.ary.get a).gather.any fun g => g.2.inUse
  let wins := s.tug.win.any fun e => e.2.state != .dead
  let bays := fun b => decide (0 < s.outstanding b) || s.bay b == Bay.ladder
  let pads := fun b => s.pad b == Pad.rampAux || s.pad b == Pad.rampMain || s.flag (Fld.PDL_STATE_LIMIT b)
  ((((((((((host.or
    (first 1 1 off (fun _ => s.isActive) fun _ => ascii ['L', 'E', 'A', 'S', 'E'])).or
    (first 2 1 true (fun _ => s.pair.drill.isSome) fun _ => ascii ['L', 'K', 'P', 'D', 'R', 'I', 'L', 'L'])).or
    (first 3 16 deep rebuilds fun a => ascii ['R', 'B', 'L', 'D'] ++ decimal 2 a)).or
    (first 4 16 off gathers fun a => ascii ['G', 'A', 'T', 'H', 'E', 'R'] ++ decimal 2 a)).or
    (first 5 1 off (fun _ => wins) fun _ => ascii ['D', 'O', 'C', 'K', 'W', 'I', 'N'])).or
    (first 6 48 deep bays fun b => ascii ['B', 'A', 'Y'] ++ decimal 2 b)).or
    (first 7 256 deep (fun e => decide (0 < s.inflight e)) fun e => ascii ['B', 'A', 'R', 'G', 'E'] ++ hexadecimal e)).or
    (first 8 8 deep s.tugBusy fun g => ascii ['T', 'U', 'G', 'G', 'R', 'P'] ++ decimal 1 g)).or
    (first 9 32 deep s.quadHeld fun q => ascii ['Q', 'U', 'A', 'D'] ++ decimal 2 q)).or
    (first 10 48 off pads fun b => ascii ['P', 'A', 'D', 'D', 'L', 'E'] ++ decimal 2 b))

/-- The answer to the manifest behind a request (R342, R344). -/
def State.pwrAnswer (s : State) (o : PwrOrigin) (st : MStat) (ps : List (List Byte)) : State :=
  match o with
  | .manifest h => match s.findRunning fun r => r.opcode == 0x0701 && decide (r.hdr = h) with
    | some r => s.finish r st ps
    | none => s
  | _ => s

/-- A refusal of state `t` (R344): counted and named, the state as it was; the idle timer of the refused state
restarts (R342). -/
def State.refuse (s : State) (t : Nat) (o : PwrOrigin) (r : Nat × List Byte) : State :=
  let s := (s.count Fld.TWP_REFUSE_CNT_COUNT 1).setName Fld.TWP_REFUSE_NAME_LO_NAME Fld.TWP_REFUSE_NAME_HI_NAME r.2
  let s := (s.setCur s.cur).tally 0x131 r.1 1
  let s := s.updPwr fun p => { p with
    stage := .none, origin := none
    lowIntervals := if t = 1 then 0 else p.lowIntervals
    idleMs := if t = 2 then 0 else p.idleMs
    p2Ms := if t = 3 then 0 else p.p2Ms }
  s.pwrAnswer o .refused [r.2]

/-- The exit to P0 begins (R350). -/
def State.exitStart (s : State) (o : Option PwrOrigin) : State :=
  let s := (s.setFld Fld.TWP_PWR_STATE_TARGET 0).raise Fld.TWP_PWR_STATE_BUSY
  let s := s.updPwr fun p => { p with stage := .exiting, origin := o, heldWake := none, exitStart := s.now }
  s.raiseRail

/-- A request taken up with no transition in progress (R342, R343). One for the current state has nothing to do; one for
a shallower state is an exit, which ends in P0, and what is left of it is taken up then. -/
def State.pwrStart (s : State) (t : Nat) (o : PwrOrigin) : State :=
  if t = s.cur then s.pwrAnswer o .zeroWork []
  else if t < s.cur then
    if t = 0 then s.exitStart (some o)
    else (s.updPwr fun p => { p with waiting := (t, o) :: p.waiting }).exitStart none
  else if t = 1 then
    match s.refuser 1 with
    | some r => s.refuse 1 o r
    | none => (s.drillAbort.setCur 1).pwrAnswer o .success []
  else
    let s := if 3 ≤ t then s.copyCut 7 else s
    let s := if o = .role then s.lkpDrillAbort else s
    let s := (s.setFld Fld.TWP_PWR_STATE_TARGET t).raise Fld.TWP_PWR_STATE_BUSY
    ((s.latchWake t).updPwr fun p => { p with stage := .freeze, origin := some o }).drillAbort

/-- Waiting requests taken up in order until one starts a transition. -/
def State.takeUpN : Nat → State → State
  | 0, s => s
  | n + 1, s =>
    if s.pwr.stage ≠ .none then s
    else match s.pwr.waiting with
      | [] => s
      | (t, o) :: l => State.takeUpN n ((s.updPwr fun p => { p with waiting := l }).pwrStart t o)

/-- At most every waiting request, and the second half of each exit. -/
def State.takeUp (s : State) : State := State.takeUpN (2 * s.pwr.waiting.length) s

/-- A request (R314, R342): a standby's is for P4 whatever it names; a manifest's, or a register write's, replaces those
of the idle policy that still wait. -/
def State.pwrRequest (s : State) (t : Nat) (o : PwrOrigin) : State :=
  let t := if s.isStandby then 4 else t
  let keep := fun (w : Nat × PwrOrigin) => w.2 != .idle || o == .idle
  (s.updPwr fun p => { p with waiting := p.waiting.filter keep ++ [(t, o)] }).takeUp

/-- POWER_STATE_SET (R342): the receipt follows at the commit point, or at the refusal. -/
def execPowerStateSet (h : Hdr) (target : Nat) (s : State) : Result :=
  let body := fun (s : State) =>
    if 5 ≤ target then MRes.fail .invalidParam [beBytes 1 target]
    else
      let t := if s.isStandby then 4 else target
      let keep := fun (w : Nat × PwrOrigin) => w.2 != .idle
      MRes.later (s.updPwr fun p => { p with waiting := p.waiting.filter keep ++ [(t, .manifest h)] }) false
  .next (s.manifest (.powerStateSet target) h 0x0701 [(.device, 0)] body).takeUp

/-- TWP_PWR_REQ_GO (R342): states 5 to 7 are ignored. -/
def execTwpPwrReqGo (target : Nat) (s : State) : Result :=
  if 5 ≤ target then .next s else .next (s.pwrRequest target .register)

/-- The deepest state that the hosts' wishes allow (R61, TWP_PWR_STATE.HOST_LIMIT): 0 before the device serves. -/
def State.hostLimit (s : State) : Nat :=
  if s.rst.phase = .serving then
    (s.host.assoc.filter fun e => e.2.live).foldl (fun n e => min n e.2.wish) 3
  else 0

/-- TWP_PWR_STATE with its HOST_LIMIT. -/
def State.pwrWord (s : State) : Nat := setBits (s.reg Reg.TWP_PWR_STATE).toNat 8 2 s.hostLimit

/-- POWER_QUERY (Table 16-5). -/
def execPowerQuery (h : Hdr) (s : State) : Result :=
  .next (s.manifest .powerQuery h 0x0702 [(.device, 0)] fun s =>
    .ok s [beBytes 4 s.pwrWord,
      leBytes 4 (s.fld Fld.TWP_REFUSE_NAME_LO_NAME) ++ leBytes 4 (s.fld Fld.TWP_REFUSE_NAME_HI_NAME),
      beBytes 4 (s.reg Reg.TWP_WAKE_STAT).toNat])

/-- Bytes of the session image (R340, Table 15-6): 128 a queue pair, 256 a connection, 64 an association. -/
def State.imageBytes (s : State) : Nat :=
  (s.tug.qp.keysWhere fun i q => decide (i < 65536) && q.state != .free).length * 128 +
    (s.tug.conn.keysWhere fun _ c => c.isOpen).length * 256 +
    (s.host.assoc.keysWhere fun _ a => a.live).length * 64

/-- QUIESCE_CLEAR (R343): no refuser remains; for P3 and P4 each READY drive gets a normal shutdown (R285). A role change ignores the refusers (R346). -/
def execQuiesceClear (s : State) : Result :=
  let t := s.fld Fld.TWP_PWR_STATE_TARGET
  if s.pwr.stage ≠ .freeze ∨ (s.pwr.origin ≠ some .role ∧ (s.refuser t).isSome) then .next s
  else
    let s := s.updPwr fun p => { p with stage := .shutdown }
    if t < 3 then .next s
    else
      let s := (List.range 48).foldl (fun s b =>
        if s.bay b = Bay.ready then (s.driveCtl b .shutdown).updPort b fun p => { p with shutdown := true } else s) s
      .next s

/-- QUIESCE_EXPIRY (R343, R344): the entry is refused by the first refuser that remains. -/
def execQuiesceExpiry (s : State) : Result :=
  let t := s.fld Fld.TWP_PWR_STATE_TARGET
  match s.pwr.stage, s.pwr.origin, s.refuser t with
  | .freeze, some o, some r => if o = .role then .next s else .next (s.refuse t o r).takeUp
  | _, _, _ => .next s

/-- Registers that a state of Table 15-1 leaves powered, and the volatile ones of the save list (R347): the endpoint and
the session region in P3, the counters of ports. -/
def keptIn (t : Nat) (a : Nat) (b : Blk) : Bool :=
  match b with
  | .glb | .twp | .pdl | .wir | .clk | .aqd | .lkp => true
  | .ept | .mft => t == 3
  | .net => decide (0x1000 ≤ (a - 0x2800000) % 0x20000 ∧ (a - 0x2800000) % 0x20000 < 0x1A00)
  | _ => false

/-- Links that P3 keeps: those of ports with WAKE = 2 (R265). -/
def State.wakeLinks (s : State) : List Nat := (List.range 128).filter fun p =>
  (s.pwr.wakePorts.get p).1 == 2 && s.flag (Fld.NET_PORT_STAT_LINK (quadOf p) (laneOf p))

/-- The deferred-error log alone, without associations: it stays with the drives (Table 18-6). -/
def HostFace.logs (h : HostFace) : HostFace :=
  { (default : HostFace) with log := h.log, deferred := h.deferred, lostBlks := h.lostBlks, dying := h.dying }

/-- The domains off in P3 or P4 (Table 15-1, Table 18-6): what the session image and the save list carry stays. -/
def State.domainsSleep (s : State) (t : Nat) : State :=
  let live := if t = 3 then s.wakeLinks else []
  let m := s.muxes
  let fenced := s.fld Fld.CIP_STATUS_FENCED
  let run := s.ary
  let old := s
  let s := ((List.range 128).filter fun p => !live.contains p).foldl State.linkDown s
  let s := (s.clearRegs (keptIn t)).setFld Fld.CIP_STATUS_FENCED fenced
  let s := m.foldl (fun s g => s.raise (Fld.DRV_GRP_STAT_MUX_ASSERTED g)) s
  let s := live.foldl (fun s p =>
    ((s.raise (Fld.NET_PORT_STAT_LINK (quadOf p) (laneOf p))).raise (Fld.NET_PORT_STAT_LPI_TX (quadOf p) (laneOf p))).raise
      (Fld.NET_PORT_STAT_LPI_RX (quadOf p) (laneOf p))) s
  let s := (List.range 48).foldl (fun s b => (s.portOff b).setBay b
    (if s.pad b = Pad.empty then Bay.empty else Bay.off)) s
  let s := { s.coreOff with ary := run }
  let plain : Qp → Qp := fun q => { q with above := [], msgs := [] }
  let brg : Barge := { (default : Barge) with homePtr := old.brg.homePtr }
  let s := { s with brg := brg }
  if t = 3 then
    let tug : Tugs := { s.tug with qp := old.tug.qp.mapAll fun _ q => plain q, conn := old.tug.conn }
    let host : HostFace := { old.host with locks := [] }
    { s with tug := tug, host := host, net := { (default : Net) with eee := old.net.eee } }
  else
    let mft : Mft := { (default : Mft) with events := s.mft.events }
    let ept : Ept := { (default : Ept) with perst := s.ept.perst, subsys := s.ept.subsys }
    ({ s with mft := mft, ept := ept, host := old.host.logs }.setFld Fld.AQD_LINK_STAT_UP0 0).setFld Fld.AQD_LINK_STAT_UP1 0

/-- The manifests in progress as the entry commits: that which asked for it is answered (R342). -/
def State.pwrCommitted (s : State) : State :=
  match s.pwr.origin with
  | some o => s.pwrAnswer o .success []
  | none => s

/-- POWER_ENTRY_COMMIT (R343): the session image and save list are written, and from here the entry cannot be aborted.
Drives that have not reported the end of their shutdown are held in PERST_N (R285); the domains enter retention or power
off. -/
def execPowerEntryCommit (s : State) : Result :=
  if s.pwr.stage ≠ .shutdown then .next s
  else
    let t := s.fld Fld.TWP_PWR_STATE_TARGET
    let s := s.pwrCommitted.updPwr fun p => { p with stage := .committed, origin := none }
    if t = 2 then
      let s := (List.range 128).foldl (fun s p =>
        if s.eeeOn p then s.raise (Fld.NET_PORT_STAT_LPI_TX (quadOf p) (laneOf p)) else s) s
      .next (if s.flag Fld.DRV_CFG_ASPM_EN then (List.range 48).foldl (fun s b =>
        if s.bay b = Bay.ready then (s.raise (Fld.DRV_STATE_L1 b)).driveCtl b .l1 else s) s else s)
    else
      let s := if t = 3 then s.setFld Fld.TWP_SAVE_STAT_IMAGE_KIB (ceilDiv s.imageBytes 1024) else s
      let s := s.domainsSleep t
      .next (if t = 4 then s.lowerRails.clocksOff else s)

/-- POWER_ENTRY_COMPLETE (R351): the state is reached; a wake held since the commit starts the exit. A standby in P4 ends
its entry with its agent (R336). -/
def execPowerEntryComplete (s : State) : Result :=
  if s.pwr.stage ≠ .committed then .next s
  else
    let t := s.fld Fld.TWP_PWR_STATE_TARGET
    let held := s.pwr.heldWake
    let s := (s.setCur t).updPwr fun p => { p with stage := .none, heldWake := none, p2Ms := 0 }
    let s := if t = 4 ∧ s.isStandby then s.updRst fun r => { r with phase := .standby, portsUp := false, baysUp := false } else s
    match held with
    | some _ => .next (s.exitStart none)
    | none => .next s.takeUp

/-- A wake source of Table 15-5, by its row and the number of its unit, wakes from state `t`: for a frame, an enabled port
in P2, one with WAKE = 1 in P3, and one with WAKE = 2 for a wake frame. -/
def State.wakesFrom (s : State) (t row i : Nat) : Bool :=
  let wake := (s.pwr.wakePorts.get i).1
  let en := s.flag (Fld.NET_PORT_CFG_EN (quadOf i) (laneOf i))
  s.pwr.wakeEn.testBit row && (match row with
    | 0 => en && (t == 2 || (t == 3 && wake == 1))
    | 1 => en && t == 3 && wake == 2
    | 2 => t == 2 || t == 3
    | 3 => t == 4
    | 4 => t == 2 || t == 3
    | 5 | 6 => decide (2 ≤ t)
    | 7 => t == 3 || t == 4
    | 9 => t == 2
    | _ => false)

/-- Name of a wake source (Table 15-5). -/
def wakeName (row i : Nat) : List Byte := nameOf (match row with
  | 0 => ascii ['L', 'I', 'N', 'K'] ++ decimal 2 (i / 4)
  | 1 => ascii ['P', 'A', 'T', 'T'] ++ decimal 2 (i / 4)
  | 2 | 3 => ascii ['E', 'N', 'D', 'P', 'O', 'I', 'N', 'T']
  | 4 => ascii ['M', 'G', 'M', 'T', 'P', 'O', 'R', 'T']
  | 5 => ascii ['P', 'R', 'E', 'S'] ++ decimal 2 i
  | 6 => ascii (if i = 0 then ['F', 'E', 'E', 'D', 'A'] else ['F', 'E', 'E', 'D', 'B'])
  | 7 => ascii ['T', 'I', 'M', 'E', 'R']
  | 8 => ascii ['S', 'I', 'D', 'E', 'B', 'A', 'N', 'D']
  | _ => ascii ['L', 'K', 'P', 'E', 'V', 'E', 'N', 'T'])

/-- An entry is aborted before its commit (R345): drives that were shut down train again; the manifest that asked for it
is refused with the source's name (log entry 42). -/
def State.entryAbort (s : State) (name : List Byte) : State :=
  let s := (List.range 48).foldl (fun s b =>
    if (s.bport b).shutdown ∨ s.bay b = Bay.off then
      ((s.portOff b).updPort b fun p => { p with perstDue := true }) else s) s
  let s := (s.count Fld.TWP_REFUSE_CNT_ABORTS 1).setName Fld.TWP_ABORT_NAME_LO_NAME Fld.TWP_ABORT_NAME_HI_NAME name
  let o := s.pwr.origin
  let s := (s.setCur s.cur).updPwr fun p => { p with stage := .none, origin := none }
  match o with
  | some o => s.pwrAnswer o .refused [name]
  | none => s

/-- A wake (R345, R350, R351): it aborts an entry that has not committed, is held after the commit, and starts the exit
of a device at rest. A standby only notes it (R314). -/
def State.wakeUp (s : State) (row i : Nat) : State :=
  let note := fun (s : State) => s.setFld Fld.TWP_WAKE_STAT_SRC (2 ^ row)
  let t := s.fld Fld.TWP_PWR_STATE_TARGET
  if s.isStandby then
    if (row = 7 ∨ row = 8) ∧ s.rst.phase = .standby ∧ s.pwr.wakeEn.testBit row then note s else s
  else match s.pwr.stage with
  | .freeze | .shutdown =>
    if !s.wakesFrom t row i then s
    else
      let s := s.entryAbort (wakeName row i)
      if s.wakesFrom s.cur row i then (note s).exitStart none else s.takeUp
  | .committed =>
    if !s.wakesFrom t row i then s
    else match s.pwr.heldWake with
      | some (r, _) => if r ≤ row then s else (note s).updPwr fun p => { p with heldWake := some (row, i) }
      | none => (note s).updPwr fun p => { p with heldWake := some (row, i) }
  | .none => if s.wakesFrom s.cur row i then (note s).exitStart none else s
  | .exiting => s

/-- WAKE_EVENT (R350). -/
def execWakeEvent (source index : Nat) (s : State) : Result := .next (s.wakeUp source index)

/-- WAKE_TIMER_EXPIRY (R350): TWP_WAKE_TIMER.SECONDS after the entry. -/
def execWakeTimerExpiry (s : State) : Result :=
  if s.pwr.wakeTimer = 0 then .next s else .next (s.wakeUp 7 0)

/-- Registers of a block set to a value, as a bad row of the save list leaves them. -/
def State.zeroRegs (s : State) (p : Nat → Bool) (v : Nat → Word32) : State :=
  { s with regs := s.regs.foldl (fun t e => if p e.1 then Tab.setD regStart t e.1 (v e.1) else t) s.regs }

/-- Row `i` of the save list failed its CRC (Table 15-3). -/
def State.badRow (s : State) (i : Nat) : State :=
  let zero : Nat → Word32 := fun _ => 0
  let off := fun (a base st : Nat) => (a - base) % st
  match i with
  | 0 => s.updCip fun c => { c with slot := c.slot.mapAll fun _ r => { r with serial := none }
                                    serialDraw := c.serialDraw + 1, serialZero := false }
  | 1 =>
    let ks := if s.cip.serialZero then List.range 4096 else s.cip.slot.keys
    ks.foldl (fun s k => let n := (s.serialOf k).1; s.updSlot k fun r => { r with serial := some (n, 1) }) s
  | 2 => s.updTal fun t => { t with cnt := [], seq := 0, s0 := 0 }
  | 3 => s.zeroRegs (fun a => decide (0x2800000 ≤ a ∧ a < 0x2C00000 ∧ 0x1000 ≤ off a 0x2800000 0x20000 ∧
      off a 0x2800000 0x20000 < 0x1A00)) zero
  | 4 => (List.range 256).foldl (fun s e => s.setFld (Fld.BRG_BANK_CTL_REQ e) 0) s
  | 5 => (List.range 48).foldl (fun s b => s.setFld (Fld.DRV_CTL_LOCATE b) 0) s
  | 6 => (((s.setFld Fld.AQD_ROLE_FENCED 0).setFld Fld.AQD_ROLE_FENCE_CAUSE 0).setFld Fld.AQD_TKO_STAT_LAST_MS 0).setFld
      Fld.AQD_TKO_STAT_CAUSE 0
  | 7 => s.setFld Fld.LKP_DRILL_STAT_RESULT 0
  | 8 => s.zeroRegs (fun a => decide (0x620010 ≤ a ∧ a < 0x621000)) regStart
  | 9 => (List.range 16).foldl (fun s k => s.setFld (Fld.SPB_BANK_CTL_REQ k) 0) s
  | _ => s.zeroRegs (fun a => decide (0x400100 ≤ a ∧ a < 0x400500)) zero

/-- Every association, connection and queue pair gone without DREQ: the session image failed its CRC (R347). -/
def State.imageLost (s : State) : State :=
  let tug : Tugs := { s.tug with qp := [], conn := [], stairs := [], inbox := [] }
  { s with host := s.host.logs, tug := tug }.raise Fld.TWP_SAVE_STAT_IMAGE_ERR

/-- The trimmed units of P1 return: parked and parking basins, tug groups (R339). -/
def State.untrim (s : State) : State :=
  let s := (List.range 16).foldl (fun s b => if s.basinParked b then s.basinIn b else s) s
  let s := s.updBrg fun g => { g with eng := g.eng.mapAll fun _ x => { x with parking := false } }
  let s := s.updPwr fun p => { p with basinReturning := none, basinHeld := false }
  s.setFld Fld.TWP_DOMAIN_STAT_TUG_GATED 0

/-- Domains that return from P3 or P4 (Table 18-6): wharf and cipher start up, ports that are down train, the drives of
powered bays train and initialise again, the lockkeeper resumes (R285, R350). -/
def State.domainsWake (s : State) : State :=
  let s := s.setFld Fld.WHF_STATE_STATE (if s.flag Fld.WHF_CTL_EN then 1 else 3)
  let s := (s.setFlag Fld.WHF_STATE_CLEAN (!s.flag Fld.WHF_CTL_EN)).updCip fun c => { c with started := true }
  let s := (List.range 32).foldl (fun s q =>
    if (List.range 4).any fun l => s.flag (Fld.NET_PORT_STAT_LINK q l) then s else s.retrain q) s
  let s := (List.range 48).foldl (fun s b =>
    let s := s.setBay b (if s.pad b = Pad.empty then Bay.empty else Bay.present)
    if s.flag (Fld.PDL_STATE_PG b) then s.updPort b fun p => { p with perstDue := true } else s) s
  (s.updRst fun r => { r with wdogAt := s.now }).resumeSlots

/-- The device may end its exit: nothing holds it in reset, and the rails are up. -/
def State.exitReady (s : State) : Bool :=
  s.pwr.stage == .exiting && !s.heldOff && s.rst.phase == .serving && !(s.cur == 4 && s.rst.railsUp != 3)

/-- An exit ends (R338, R347, R350): every domain serves. `badRows` are the rows of the save list whose CRC failed. -/
def State.exitEnd (s : State) (badRows : BitVec 11) (imageBad : Bool) : State :=
  let c := s.cur
  let rows := (List.range 11).filter fun i => badRows.getLsbD i && (decide (i < 10) || c == 4)
  let s := if c < 3 ∨ rows = [] then s else (rows.foldl State.badRow s).raise Fld.TWP_SAVE_STAT_SAVE_ERR
  let s := if c = 3 ∧ imageBad then s.imageLost else s
  let s := if c < 3 then s else s.domainsWake
  let us := (s.now - s.pwr.exitStart) / 1000
  let s := (s.untrim.setFld Fld.TWP_WAKE_STAT_LAST_EXIT (min 65535 (us / 10))).setCur 0
  let s := (s.tally 0x132 c 1).tally 0x133 c us
  let o := s.pwr.origin
  let s := s.updPwr fun p => { p with stage := .none, origin := none, lowIntervals := 0, idleMs := 0, p2Ms := 0 }
  let s := match o with
    | some o => s.pwrAnswer o .success []
    | none => s
  let s := if c < 3 then s else s.updTal fun t => { t with resumed := true }
  s.takeUp

/-- IDLE_POLICY_EVAL (R342): `admitted` commands in the 1 ms that ends. -/
def execIdlePolicyEval (admitted : Nat) (s : State) : Result :=
  if s.rst.phase ≠ .serving ∨ s.isStandby ∨ s.pwr.stage ≠ .none then .next s
  else
    let rate := s.fld Fld.TWP_IDLE_CFG_P1_RATE * 100
    let quiet : Bool := admitted == 0 && !s.pwr.driveOps
    let s := s.updPwr fun p => { p with
      driveOps := false
      idleMs := if quiet then p.idleMs + 1 else 0
      p2Ms := if s.cur = 2 then p.p2Ms + 1 else 0
      lowIntervals := if s.cur = 0 ∧ admitted < rate then p.lowIntervals + 1 else 0 }
    let p2 := s.fld Fld.TWP_IDLE_CFG_P2_MS
    let p3 := s.fld Fld.TWP_IDLE_CFG2_P3_S
    if s.cur = 0 ∧ s.flag Fld.TWP_IDLE_CFG_P1_EN ∧ 10 ≤ s.pwr.lowIntervals then .next (s.pwrRequest 1 .idle)
    else if s.cur = 1 ∧ 2 * rate ≤ admitted then .next (s.pwrRequest 0 .idle)
    else if s.cur = 1 ∧ p2 ≠ 0 ∧ p2 ≤ s.pwr.idleMs then .next (s.pwrRequest 2 .idle)
    else if s.cur = 2 ∧ p3 ≠ 0 ∧ p3 * 1000 ≤ s.pwr.p2Ms then .next (s.pwrRequest 3 .idle)
    else .next s

/-- A basin runs: one of its engines is open to work. -/
def State.basinRuns (s : State) (b : Nat) : Bool := (List.range 16).any fun i => s.engOpen (16 * b + i)

/-- The engines of a basin begin to run down, their queues re-homed (R98, R339). -/
def State.basinPark (s : State) (b : Nat) : State :=
  let l := ((List.range 16).map (16 * b + ·)).filter s.engOpen
  let s := l.foldl (fun s e => s.updEng e fun x => { x with parking := true }) s
  l.foldl State.rehome s

/-- A basin parked or on its way there runs again. -/
def State.basinUnpark (s : State) (b : Nat) : State :=
  if s.basinParked b then s.basinIn b
  else (List.range 16).foldl (fun s i => s.updEng (16 * b + i) fun x => { x with parking := false }) s

/-- PARK_DECISION (R339): in P1 the number of basins that run follows the load. -/
def execParkDecision (admittedPerSecond : Nat) (s : State) : Result :=
  if s.cur ≠ 1 ∨ s.pwr.stage ≠ .none then .next s
  else
    let need := max (s.fld Fld.TWP_PARK_CFG_MIN_BASINS)
      (ceilDiv admittedPerSecond (s.fld Fld.TWP_PARK_CFG_BASIN_KIOPS * 100000))
    let run := (List.range 16).filter s.basinRuns
    let idle := (List.range 16).filter fun b => !s.basinRuns b &&
      (s.basinParked b || (List.range 16).any fun i => (s.eng (16 * b + i)).parking)
    if need < run.length then .next ((run.drop need).foldl State.basinPark s)
    else .next ((idle.take (need - run.length)).foldl State.basinUnpark s)

/-- ENGINE_PARKED (R115, R339): its tow line and commands have run down; its bank enters RETENTION. -/
def execEngineParked (e : Fin 256) (s : State) : Result :=
  if (s.eng e).parking ∧ s.engRuns e ∧ (s.eng e).tow = [] ∧ (s.eng e).transit = [] ∧ s.inflight e = 0 then
    .next ((s.updEng e fun x => { x with state := .parked, parking := false }).setFld (Fld.BRG_BANK_STAT_STATE e) 1 |>.setFld
      (Fld.BRG_STATUS_STATE e) 1)
  else .next s

/-- TUG_GROUP_GATE (R339): in P1, with nothing outstanding. -/
def execTugGroupGate (g : Fin 8) (s : State) : Result :=
  if s.cur = 1 ∧ !s.tugBusy g then
    .next (s.setFld Fld.TWP_DOMAIN_STAT_TUG_GATED (s.fld Fld.TWP_DOMAIN_STAT_TUG_GATED ||| 2 ^ g.val))
  else .next s

/-- MANAGEMENT_WINDOW_OPEN (R336): PE_PERST_N is released on a standby whose TWP_WAKE_EN enables the ENDPOINT rows. -/
def execManagementWindowOpen (s : State) : Result :=
  if s.rst.phase = .standby ∧ s.pwr.wakeEn.testBit 2 ∧ s.pwr.wakeEn.testBit 3 then
    .next ((s.updPwr fun p => { p with mgmtWindow := true }).updEpt fun e => { e with perst := false })
  else .next s

/-- The management window closes: the endpoint is unpowered again. -/
def State.closeMgmt (s : State) : State :=
  if s.pwr.mgmtWindow then
    let s := s.copyCut 6
    let s := s.clearRegs fun _ b => b != .ept
    let ept : Ept := { (default : Ept) with perst := s.ept.perst, subsys := s.ept.subsys }
    { s with ept := ept }.updPwr fun p => { p with mgmtWindow := false }
  else s

/-- MANAGEMENT_WINDOW_CLOSE (R336). -/
def execManagementWindowClose (s : State) : Result := .next s.closeMgmt

/-- PE_PERST_ASSERT (R378). It closes a standby's management window (R336). -/
def execPePerstAssert (s : State) : Result :=
  let s := (s.endpointReset 1).loadSubsys
  .next (s.updEpt fun e => { e with perst := true }).closeMgmt

end Sys2Proof.Machine
end

