-- ==== Sys2Proof/Machine/Banks.lean ====
section
/-! DEFINITION. Uncorrectable errors of cipher lanes and large banks, the SPB banks and the reservoir stacks
(09_cipher.md, R235; 22_register_map.md, R435 to R437). -/

namespace Sys2Proof.Machine

/-- LANE_FENCE (R235): the lane's held cells and those queued for it are discarded with cause ECC. With all ten fenced
the global fault is raised. An error that ECC has corrected is counted, and nothing else. -/
def execLaneFence (l : Fin 10) (corrected : Bool) (s : State) : Result :=
  if corrected then .next (s.count (Fld.CIP_LANE_STAT_CE l) 1)
  else if s.laneFenced l then .next s
  else
    let held := (s.cip.lane.get l).hold
    let s := s.setFld Fld.CIP_STATUS_FENCED (s.fld Fld.CIP_STATUS_FENCED + 2 ^ l.val)
    let s := s.raise (Fld.CIP_LANE_STAT_UE l)
    let s := s.updLane l fun _ => default
    let s := held.foldl (fun s h =>
      let t := s.count Fld.CNL_DISCARD_ECC h.cells
      ((t.tally 0x087 3 h.cells).tally 0x087 7 h.cells).notice ⟨some h.berth, default, .other⟩ 3 true (attLane l)) s
    let queued := (s.cnl.queues.filter fun q => queueAtt q.1 == 72 + l.val && queueCls q.1 != 0).flatMap Prod.snd
    let s := queued.foldl (fun s i => s.discardSlot i true) s
    let s := s.logEvent EventKind.lane.code l
    .next (if s.lanesUp = [] then s.globalFault .cipher else s)

/-- What a large bank is for (Table 22-4). -/
inductive BankUse | lockkeeper | tug | dock
  deriving DecidableEq, Repr

def bankUse (k : Nat) : BankUse := if k < 2 then .lockkeeper else if k < 8 then .tug else .dock

/-- Bytes of a dock bank. -/
def dockBankBytes : Nat := 0x400000

/-- Some DATA or bank window that is VALID or REVOKING lies in dock bank `d` (R435). -/
def State.dockBacked (s : State) (d : Nat) : Bool :=
  s.tug.win.any fun e => e.2.state != .dead && e.2.kind == .bank &&
    decide (e.2.base < (d + 1) * dockBankBytes ∧ d * dockBankBytes < e.2.base + e.2.size)

/-- A REQ of RETENTION or OFF on bank `k` is refused (R435). -/
def State.bankRefused (s : State) (k : Nat) : Bool :=
  match bankUse k with
  | .lockkeeper => s.fld Fld.LKP_CORE_STAT_ACTIVE == k
  | .tug => s.fld Fld.TWP_DOMAIN_STAT_TUG_GATED != 255
  | .dock => s.dockBacked (k - 8)

/-- The tug bank that holds a group's staircases, and a spray context: spread evenly over the six (log entry 57). -/
def stairBank (g : Nat) : Nat := 2 + g % 6
def sprayBank (c : Nat) : Nat := 2 + c % 6

/-- What tug bank `k` held is lost (Table 4-6): staircases, and what the spray contexts knew of packets ahead of E. -/
def State.loseTugBank (s : State) (k : Nat) : State :=
  s.updTug fun t => { t with
    stairs := t.stairs.mapAll fun g l => if stairBank g = k then [] else l
    qp := t.qp.mapAll fun _ q => if q.sprayCtx.any fun c => sprayBank c == k then { q with above := [], msgs := [] } else q }

/-- SPB_BANK_CTL_WRITE (R435): the bank takes the state at once; a bank that is off has lost its contents (Table
4-6). -/
def execSpbBankCtlWrite (k : Fin 16) (req : Nat) (s : State) : Result :=
  let r := if req % 4 = 3 then 0 else req % 4
  if r ≠ 0 ∧ s.bankRefused k then .next (s.raise (Fld.SPB_BANK_STAT_REFUSED k))
  else
    let s := (s.setFld (Fld.SPB_BANK_CTL_REQ k) r).setFld (Fld.SPB_BANK_STAT_STATE k) r
    if r = 2 ∧ bankUse k = .dock then
      let d := k.val - 8
      let keep := fun (a : Nat) => a / dockBankBytes != d
      .next (s.updBrg fun g => { g with
        dock := g.dock.filter fun e => keep e.1, dockBad := g.dockBad.filter fun u => keep (64 * u) })
    else if r = 2 ∧ bankUse k = .tug then .next (s.loseTugBank k)
    else .next s

/-- LARGE_BANK_UE (R436): an error in the 64 bytes with number `unit` of bank `k`; `qps` are the queue pairs whose spray
context or staircase lies in them. One that ECC has corrected is counted, and nothing else. -/
def execLargeBankUe (k : Fin 16) (unit : Nat) (qps : List Nat) (corrected : Bool) (s : State) : Result :=
  if corrected then .next (s.count (Fld.SPB_BANK_STAT_CE k) 1) else
  let s := s.raise (Fld.SPB_BANK_STAT_UE k)
  match bankUse k with
  | .lockkeeper => if s.fld Fld.LKP_CORE_STAT_ACTIVE = k.val then .next s.coreFailed else .next s
  | .tug =>
    let l := qps.filter fun i => decide (i < 65536) && ((s.qp i).state == .rts || (s.qp i).state == .probation)
    let s := l.foldl (fun s i => s.qpError i none 0) s
    .next (s.updTug fun t => { t with stairs := t.stairs.mapAll fun _ x => x.filter fun y => !qps.contains y.qp })
  | .dock =>
    let u := (k.val - 8) * (dockBankBytes / 64) + unit % (dockBankBytes / 64)
    .next (s.updBrg fun g => { g with dockBad := if g.dockBad.contains u then g.dockBad else g.dockBad ++ [u] })

/-- STACK_TEMP_CHANGE (R437): above 85 °C refresh is doubled until below 80 °C; 125 °C sets HOT and tells the
lockkeeper. -/
def execStackTempChange (stack : Fin 4) (celsius : Int) (s : State) : Result :=
  let c : Int := max (-128) (min 127 celsius)
  let s := s.setFld (Fld.RSV_STACK_STAT_TEMP stack) (c % 256).toNat
  let s := if 85 < celsius then s.raise (Fld.RSV_STACK_STAT_REFRESH_X2 stack)
    else if celsius < 80 then s.setFld (Fld.RSV_STACK_STAT_REFRESH_X2 stack) 0 else s
  if 125 ≤ celsius then .next ((s.raise (Fld.RSV_STACK_STAT_HOT stack)).emit (.lockkeeper 4 stack)) else .next s

end Sys2Proof.Machine
end

