-- ==== Sys2Proof/Machine/Pairing.lean ====
section
/-! DEFINITION. Pairing, bollards and takeover (14_pairing.md): heartbeats, checkpoints to the standby, the lease, claims
and takeovers, the lockkeeper pair's drills. -/

namespace Sys2Proof.Machine

/-- A 64-bit value held in two registers. -/
def State.fld64 (s : State) (lo hi : Fld) : Nat := s.fld hi * 2 ^ 32 + s.fld lo
def State.setFld64 (s : State) (lo hi : Fld) (v : Nat) : State :=
  (s.setFld lo (v % 2 ^ 32)).setFld hi (v / 2 ^ 32 % 2 ^ 32)

/-- AQD_EPOCH, AQD_PAIR_ID, AQD_CKPT_SEQ and this device's serial. -/
def State.epoch (s : State) : Nat := s.fld64 Fld.AQD_EPOCH_LO_EPOCH Fld.AQD_EPOCH_HI_EPOCH
def State.setEpoch (s : State) (v : Nat) : State := s.setFld64 Fld.AQD_EPOCH_LO_EPOCH Fld.AQD_EPOCH_HI_EPOCH v
def State.pairId (s : State) : Nat := s.fld64 Fld.AQD_PAIR_ID_LO_ID Fld.AQD_PAIR_ID_HI_ID
def State.ckpt (s : State) : Nat := s.fld64 Fld.AQD_CKPT_SEQ_LO_SEQ Fld.AQD_CKPT_SEQ_HI_SEQ
def State.setCkpt (s : State) (v : Nat) : State := s.setFld64 Fld.AQD_CKPT_SEQ_LO_SEQ Fld.AQD_CKPT_SEQ_HI_SEQ v
def serial : Nat := Config.fusedSerial.toNat

/-- AQD_PARTNER.STATE and SYNC (Table 14-11). -/
def State.partnerLost (s : State) : Bool := decide (2 ≤ s.fld Fld.AQD_PARTNER_STATE)
def State.setSync (s : State) (v : Nat) : State :=
  if s.fld Fld.AQD_PARTNER_SYNC = v then s else s.moorFld Fld.AQD_PARTNER_SYNC v

/-- A frame that R316 accepts: its CRC holds and PAIR_ID and DEVICE are those of the pair and of the recorded partner. -/
def State.frameOk (s : State) (f : PeerHdr) : Bool := f.crcOk && f.pairId == s.pairId && f.device == s.mrd.partner

/-- A frame as it arrives (R316): on a path that is up; discarded and counted where it does not match. -/
def State.onFrame (s : State) (f : PeerHdr) (g : State → State) : Result :=
  if f.aqd && !s.aqdUp && !s.pair.rxOpen then .next s
  else if s.frameOk f then .next (g s)
  else .next (s.count Fld.AQD_LINK_STAT_BAD_FRAMES 1)

/-- Every enable issued at start has reached ON, RETRY, LATCHED or FET_FAULT (R302). -/
def State.baysSettled (s : State) : Bool := (List.range 48).all fun b =>
  !(s.pad b == Pad.queued || s.pad b == Pad.rampAux || s.pad b == Pad.rampMain)

/-- The HEARTBEAT this device sends (Table 14-3). -/
def State.beat (s : State) : PeerFrame :=
  let p := s.pair
  let up := s.isActive && s.rst.phase == .serving && !p.baysDue
  let flags := p.sendFenced.toNat + 2 * p.drill.isSome.toNat + 4 * (s.fld Fld.AQD_PARTNER_SYNC == 2).toNat +
    8 * s.fld Fld.AQD_LEASE_STAT_MAJ + 16 * up.toNat
  .heartbeat (if p.sendFenced then 2 else s.role) flags p.hseq (if s.isActive then s.epoch else 0) p.rseqOk
    (if s.isActive then p.sentSeq else s.ckpt) (if s.isStandby then p.check.1 else 0)

/-- HEARTBEAT_TIMER (R316): every 10 ms, on every path that is up. -/
def execHeartbeatTimer (s : State) : Result :=
  if s.rst.phase = .t1 then .next s
  else
    let s := s.updPeer fun p => { p with hseq := (p.hseq + 1) % 2 ^ 32, baysDue := p.baysDue && !s.baysSettled }
    .next (s.sendPeers s.beat)

/-- Effects held for entries up to `n` leave (R318), with the receipts of manifests where `rcpt`. -/
def State.releaseHeld (s : State) (n : Nat) (rcpt : Bool) : State :=
  let p := s.pair
  let outs := (p.held.filter fun e => decide (e.1 ≤ n)).map fun e => e.2
  let s := { s with out := s.out ++ outs }.updPeer fun p => { p with
    held := p.held.filter fun e => decide (n < e.1)
    prompts := p.prompts.filter fun e => decide (n < e.seq)
    pairTables := p.pairTables.filter fun e => decide (n < e.2) }
  if rcpt then
    let due := p.heldRcpt.filter fun e => decide (e.1 ≤ n)
    let s := s.updPeer fun p => { p with heldRcpt := p.heldRcpt.filter fun e => decide (n < e.1) }
    due.foldl (fun s e => s.sendReceipt e.2.1 e.2.2) s
  else s

/-- Entries up to `n` are acknowledged: AQD_CKPT_SEQ is the highest (Table 14-12). -/
def State.acked (s : State) (n : Nat) : State :=
  let s := s.updPeer fun p => { p with ackHi := max p.ackHi n, reqs := p.reqs.filter fun q => decide (n < q) }
  s.setCkpt s.pair.ackHi

/-- The prompt entries up to `n` are acknowledged; a manifest's entry below them still waits for its window (R318,
R319, R323). -/
def State.promptsAcked (s : State) (n : Nat) : State :=
  let l := s.pair.prompts.map (·.seq)
  let s := (s.releaseHeld n false).updPeer fun p => { p with
    ackHi := max p.ackHi n, reqs := p.reqs.filter fun q => !(decide (q ≤ n) && l.contains q) }
  s.setCkpt s.pair.ackHi

/-- PARTNER_HEALTH and PARTNER_RELAY that wait are answered NOT_AVAILABLE. -/
def State.partnerGone (s : State) : State :=
  let s := s.updPeer fun p => { p with healthFor := none, relayFor := none, relayGot := [], relayTotal := 0 }
  (s.finishOn 0x0805 (.device, 0) .notAvailable []).finishOn 0x0807 (.device, 0) .notAvailable []

/-- The standby is powered for a bollard check or a takeover, tally and port counters at 0 (Table 14-7, R390,
Table 18-6). -/
def State.powerUp (s : State) : State :=
  if s.rst.phase ≠ .standby then s
  else
    let s := (s.setFld Fld.TWP_PWR_STATE_TARGET 0).raise Fld.TWP_PWR_STATE_BUSY
    let pwr : Pwr := { (default : Pwr) with stage := .exiting, exitStart := s.now, mgmtWindow := s.pwr.mgmtWindow, tj := s.pwr.tj }
    let s := { s with pwr := pwr, tal := default }.setFld Fld.TWP_RST_CAUSE_LAST ResetKind.takeover.last
    let s := s.badRow 3
    let s := (s.logEvent EventKind.reset.code ResetKind.takeover.last).lkpDrillAbort
    (s.updRst fun r => { r with kind := .takeover, assembleS := s.fld Fld.TWP_START_CFG_ASSEMBLE_S }).startT5

/-- A takeover is under way from now (AQD_TKO_STAT.CAUSE 1 LOST, 2 YIELD, 4 FORCE; 0 the start of a pair), its claim at
`c` unless one has begun. -/
def State.takeoverStart (s : State) (cause : Nat) (c : ClaimPhase) : State :=
  let s := s.updPeer fun p => { p with
    tko := p.tko.or (some (s.now, cause)), lowered := false
    claim := if p.claim = .none ∨ p.claim = .recheck then c else p.claim
    attempts := if p.claim = .none ∨ p.claim = .recheck then 0 else p.attempts
    firstRead := none }
  s.powerUp

/-- A powered standby is off at once, in P4 (Table 14-1). -/
def State.standbyOff (s : State) : State :=
  let s := ((s.domainsSleep 4).lowerRails.clocksOff).setCur 4
  let pwr : Pwr := { (default : Pwr) with mgmtWindow := s.pwr.mgmtWindow, tj := s.pwr.tj }
  let s := { s with pwr := pwr }.latchWake 4
  s.updRst fun r => { r with phase := .standby, portsUp := false, baysUp := false }

/-- A standby gives up a claim or a check and returns to P4 (R327, Table 14-6). -/
def State.backToP4 (s : State) (c : ClaimPhase) : State :=
  let s := s.updPeer fun p => { p with claim := c, tko := none, round := none, firstRead := none, prepared := false,
                                       force := false }
  match s.rst.phase with
  | .standby => s
  | .serving => s.pwrRequest 4 .role
  | _ => s.standbyOff

/-- The partner is declared lost (R317, R320, Table 14-6). -/
def State.losePartner (s : State) : State :=
  let s := s.setFld Fld.AQD_PARTNER_STATE 2
  if s.isActive then
    let s := s.releaseHeld s.store.seq true
    let s := if s.pair.resync.isSome then s.setSync 0 else s
    (s.updPeer fun p => { p with window := none, resync := none }).partnerGone
  else if s.isStandby ∧ !s.pair.listening then
    let s := s.updPeer fun p => { p with resync := none }
    s.takeoverStart 1 .checking
  else s

/-- PARTNER_LOST (R317): 30 ms without a HEARTBEAT on any path. -/
def execPartnerLost (s : State) : Result :=
  if s.isSolo then .next s
  else
    let s := (s.setFld Fld.AQD_PARTNER_HB_SB 0).setFld Fld.AQD_PARTNER_HB_AQD 0
    .next (if s.partnerLost then s else s.losePartner)

/-- HEARTBEAT_PATH_LOST (R317, Table 14-6): AQD_PARTNER reports the path. -/
def execHeartbeatPathLost (aqd : Bool) (s : State) : Result :=
  .next (s.setFld (if aqd then Fld.AQD_PARTNER_HB_AQD else Fld.AQD_PARTNER_HB_SB) 0)

/-- A full resync begins (R320). The image's length is a free value (log entry 1). -/
def State.startResync (s : State) : State :=
  if s.isActive ∧ s.partnerAlive then
    let n := 1 + s.freeVal % 2 ^ 26
    let s := (s.setSync 2).tick.updPeer fun p => { p with resync := some (0, n), window := none }
    s.openWindow 1
  else s

/-- The active hears its standby again, whose highest entry is `seq` (R320): nothing is missing, or the kept entries hold
what is, or a full resync follows. An entry below `seq` that no window has carried yet is missing too (R319). -/
def State.resumePartner (s : State) (seq : Nat) : State :=
  let from_ := min s.pair.ckptAcked seq
  let missing := s.pair.kept.filter fun e => decide (from_ < e.seq)
  let low := match s.pair.kept with
    | e :: _ => e.seq - 1
    | [] => s.store.seq
  if seq < low ∨ s.store.seq < seq then s.startResync
  else
    let s := s.updPeer fun p => { p with ckptAcked := from_ }
    if missing = [] then s.setSync 1 else s.openWindow 0

/-- Gates of a fenced device lowered bay by bay, and held low (R298, R302): a bay with a drive is PRESENT again, its
INTENT kept (log entry 62). -/
def State.lowerGates (s : State) : State :=
  let s := (List.range 48).foldl (fun s b =>
    let s := s.gatesLow b
    if s.pad b = Pad.empty then s else s.setPad b Pad.present) s
  (s.updShelf fun h => { h with queue := [] }).updPeer fun p => { p with lowering := false, lowered := true }

/-- What a HEARTBEAT shows of the lease (R327): a newer EPOCH or RSEQ is a renewal observed now. -/
def State.seeRenewal (s : State) (epoch rseq : Nat) : State :=
  let p := s.pair
  if p.obsEpoch < epoch ∨ (epoch = p.obsEpoch ∧ p.obsRseq < rseq) then
    s.updPeer fun p => { p with obsEpoch := epoch, obsRseq := rseq, obsAt := s.now, noWait := false }
  else s

/-- A standby at its takeover hears an ACTIVE partner again: on the aqueduct alone, the sideband is what was lost
(Table 14-6). -/
def State.standDown (s : State) (aqd : Bool) : State :=
  if s.pair.tko.isNone ∨ s.pair.claim = .round then s
  else
    let s := if aqd && !s.flag Fld.AQD_PARTNER_HB_SB then s.raise Fld.AQD_PARTNER_SIDEBAND_LOST else s
    s.backToP4 .none

/-- A HEARTBEAT taken (R317, R302, Table 14-6). -/
def State.heard (s : State) (aqd : Bool) (b : Beat) : State :=
  let was := s.fld Fld.AQD_PARTNER_STATE
  let s := s.raise (if aqd then Fld.AQD_PARTNER_HB_AQD else Fld.AQD_PARTNER_HB_SB)
  let s := (s.setFld Fld.AQD_PARTNER_HEALTH (b.health % 4)).updPeer fun p =>
    { p with pRole := b.role, pEpoch := b.epoch, pRseq := b.rseq, pCkpt := b.ckptSeq, heardSince := true }
  let s := if b.role = 1 then s.seeRenewal b.epoch b.rseq else s
  let newer := decide (b.role = 1 ∧ s.pair.fenceEpoch < b.epoch)
  let s := if s.pair.sendFenced && newer then s.updPeer fun p => { p with sendFenced := false } else s
  let s := if s.pair.lowering && newer && b.flags.testBit 4 then s.lowerGates else s
  if s.isStandby && b.flags.testBit 0 then
    if 2 ≤ was then s else s.losePartner
  else
    let s := s.setFld Fld.AQD_PARTNER_STATE 1
    if s.isActive then
      if was ≠ 1 ∧ b.role = 2 then s.resumePartner b.ckptSeq else s
    else if s.isStandby ∧ !s.pair.listening ∧ b.role = 1 then s.standDown aqd
    else s

/-- HEARTBEAT_RECEIVE (R317). -/
def execHeartbeatReceive (f : PeerHdr) (b : Beat) (s : State) : Result := s.onFrame f fun s => s.heard f.aqd b

/-- A change as a standby takes it: PAIR_EN and PREFER are each device's own (log entry 43). -/
def State.ownBits (s : State) (r : MoorRec) : MoorRec :=
  match r with
  | .reg a v =>
    if a = Reg.AQD_PAIR_CFG then .reg a ((v &&& 0x1C) ||| (s.reg a &&& 3)) else r
  | _ => r

/-- A key slot as it travels, wrapped under the pair key (R222). -/
def State.wrapEntry (s : State) (e : JEntry) : JEntry :=
  match e.change with
  | .key i k => { e with change := .wrapped s.mrd.pairKey i k }
  | _ => e

/-- The unwrap of an entry's key slot under this device's pair key: none where its integrity fails (R222). -/
def State.unwrapEntry (s : State) (e : JEntry) : Option JEntry :=
  match e.change with
  | .wrapped u i k => if u = s.mrd.pairKey then some { e with change := .key i k } else none
  | .key _ _ => none
  | _ => some e

/-- A checkpoint is refused because an unwrap failed: the health report shows it (R222, R334). -/
def State.refuseCkpt (s : State) : State :=
  s.updPeer fun p => { p with check := (2, (BitVec.ofNat 6 p.check.2.1 ||| 32#6).toNat, p.check.2.2.1, s.now) }

/-- An entry applied as a moored write under the active's CKPT_SEQ (R316, R318, R319). The standby's own changes may have
taken that number in its journal, where it is then the next free one (log entry 43). -/
def State.applyEntry (s : State) (e : JEntry) : State :=
  if !e.crcOk ∨ e.change.own then s
  else
    let s := s.updStore fun t => { t with seq := max t.seq (e.seq - 1) }
    (s.moor (s.ownBits e.change)).setCkpt (max s.ckpt e.seq)

def State.applyEntries (s : State) (l : List JEntry) : State := (l.foldl State.applyEntry s).journal

/-- Entries with their key slots unwrapped, or none where an unwrap fails. -/
def State.unwrapAll (s : State) (l : List JEntry) : Option (List JEntry) := l.mapM s.unwrapEntry

/-- PROMPT_RECEIVE (R318): a standby writes the entries, then acknowledges them. -/
def execPromptReceive (f : PeerHdr) (entries : List JEntry) (s : State) : Result :=
  s.onFrame f fun s =>
    if s.isStandby then
      match s.unwrapAll entries with
      | none => s.refuseCkpt
      | some l =>
        let s := s.applyEntries l
        s.sendPeers (.promptAck s.ckpt)
    else s

/-- PROMPT_RESEND_EXPIRY (Table 14-2). -/
def execPromptResendExpiry (s : State) : Result :=
  match s.isActive && s.partnerAlive, s.pair.prompts with
  | true, e :: l => .next (s.sendPeers (.prompt e.seq ((e :: l).take 16 |>.map fun x => x.change)))
  | _, _ => .next s

/-- PROMPT_ACK_RECEIVE (R318). -/
def execPromptAckReceive (f : PeerHdr) (seq : Nat) (s : State) : Result :=
  s.onFrame f fun s => if s.isActive then s.promptsAcked seq else s

/-- Entries that a window carries (R319): those above `held` that a later one to the same field does not cover
(R383). -/
def State.windowEntries (s : State) (held : Nat) : List JEntry :=
  s.pair.kept.filter fun e => decide (held < e.seq) &&
    !s.pair.kept.any fun x => decide (e.seq < x.seq) && x.change.same e.change

/-- CHECKPOINT_BATCH_EXPIRY (R319): the oldest entry not sent, which no PROMPT carries, is BATCH_MS old. -/
def execCheckpointBatchExpiry (s : State) : Result :=
  if s.isActive ∧ s.partnerAlive ∧
      s.pair.kept.any (fun e => decide (s.pair.ckptAcked < e.seq) && !e.change.prompts) then
    .next (s.openWindow 0)
  else .next s

/-- WINDOW_REQ_RECEIVE (R319): PWR_EN_QAY alone is raised (Table 23-6). -/
def execWindowReqReceive (f : PeerHdr) (_first _last kind : Nat) (s : State) : Result :=
  s.onFrame f fun s =>
    if !s.isStandby then s
    else
      let s := if s.rst.phase = .standby ∧ !s.pair.rxOpen then s.emit (.pin (.railEnable 1) true) else s
      let s := s.updPeer fun p => { p with rxOpen := true, resync := if kind = 1 then some (0, 0) else p.resync }
      let s := if kind = 1 then s.setSync 2 else s
      s.sendPeer false (.windowReady s.ckpt)

/-- WINDOW_READY_RECEIVE (R319, R320, R336). -/
def execWindowReadyReceive (f : PeerHdr) (held : Nat) (s : State) : Result :=
  s.onFrame f fun s =>
    match s.isActive, s.pair.window with
    | true, some w =>
      let s := s.updPeer fun p => { p with window := some { w with ready := true } }
      if w.kind = 0 then
        let low := min held s.pair.ckptAcked
        let l := (s.windowEntries low).map s.wrapEntry
        let top := l.foldl (fun m e => max m e.seq) held
        (s.updPeer fun p => { p with
          sentSeq := max p.sentSeq top
          window := some { w with ready := true, last := top } }).sendPeer true (.ckptEntries (low + 1) l)
      else if w.kind = 1 then s.sendPeer true (.ckptImage 0)
      else match s.pair.relayFor with
        | some (_, inner) => s.sendPeer true (.relay inner)
        | none => s
    | _, _ => s

/-- An image with this device's own registers, partner and pair key in place of the active's (log entry 43, R222). -/
def State.ownImage (s : State) (x : MoorSlot) : MoorSlot :=
  let keep := [Reg.AQD_ROLE, Reg.AQD_PARTNER, Reg.AQD_CKPT_SEQ_LO, Reg.AQD_CKPT_SEQ_HI, Reg.AQD_TKO_STAT]
  let mine := fun (a : Nat) => match findReg a with
    | some r => r.mooredBits (s.reg a)
    | none => 0
  let cfg := (Tab.getD regStart x.regs Reg.AQD_PAIR_CFG &&& 0x1C) ||| (s.reg Reg.AQD_PAIR_CFG &&& 3)
  let regs := keep.foldl (fun t a => Tab.setD regStart t a (mine a)) x.regs
  { x with valid := true, seq := max x.seq (s.store.seq + 1)
           regs := Tab.setD regStart regs Reg.AQD_PAIR_CFG cfg, tab := { x.tab with partner := s.mrd.partner, pairKey := s.mrd.pairKey } }

/-- The whole image has come: the slot not in use holds it and becomes current (R320). -/
def State.takeResync (s : State) (x : MoorSlot) : State :=
  let y := s.ownImage x
  let s := s.updStore fun t => match t.current with
    | some (true, _) => { t with slotA := y, journal := [] }
    | some (false, _) => { t with slotB := y, journal := [] }
    | none => { t with slotA := y, journal := [] }
  let s := ((s.takeImage y).setCkpt x.seq).updPeer fun p => { p with resync := none }
  s.setSync 1

/-- An image holds key slots that are wrapped under another pair key than this device's (R222). -/
def State.imageLocked (s : State) (x : MoorSlot) : Bool :=
  x.tab.pairKey != s.mrd.pairKey && x.tab.keys.any fun e => e.2.mode != 0

/-- CKPT_RECEIVE (R319, R320): entries, or image bytes from an offset with the image itself where they complete it. One
whose key slots do not unwrap is refused: none of it is applied or acknowledged (R222). -/
def execCkptReceive (f : PeerHdr) (entries : List JEntry) (image : Option (Nat × Nat × Option MoorSlot)) (s : State) :
    Result :=
  s.onFrame f fun s =>
    if !(s.isStandby && s.pair.rxOpen) then s
    else match s.unwrapAll entries with
    | none => s.refuseCkpt
    | some l =>
      let s := s.applyEntries l
      match image with
      | none => s.sendPeer false (.ckptAck s.ckpt 0)
      | some (off, len, x) =>
        if s.pair.resync.isNone then s
        else if x.any s.imageLocked then s.refuseCkpt
        else
          let s := s.updPeer fun p => { p with resync := some (off + len, 0) }
          let s := x.elim s s.takeResync
          s.sendPeer false (.ckptAck s.ckpt (off + len))

/-- What follows a window that has ended: a relay that waits, receipts whose entries are not yet sent. -/
def State.nextWindow (s : State) : State :=
  let s := s.updPeer fun p => { p with window := none }
  if s.pair.relayFor.isSome then s.openWindow 2
  else if s.pair.heldRcpt ≠ [] then s.openWindow 0
  else s

/-- CKPT_ACK_RECEIVE (R319, R320). -/
def execCkptAckReceive (f : PeerHdr) (seq offset : Nat) (s : State) : Result :=
  s.onFrame f fun s =>
    match s.isActive, s.pair.window with
    | true, some w =>
      match s.pair.resync with
      | some (_, n) =>
        if w.kind ≠ 1 then s
        else if n ≤ offset then
          let s := (s.updPeer fun p => { p with resync := none, ckptAcked := seq }).setSync 1
          ((s.releaseHeld seq true).acked seq).nextWindow
        else (s.updPeer fun p => { p with resync := some (offset, n) }).sendPeer true (.ckptImage offset)
      | none =>
        if w.kind ≠ 0 ∨ !w.ready then s
        else
          let n := min seq w.last
          let s := s.updPeer fun p => { p with ckptAcked := max p.ckptAcked n }
          let s := (s.releaseHeld n true).acked n
          if w.last ≤ seq then (s.setSync 1).nextWindow else s
    | _, _ => s

/-- WINDOW_CLOSE_EXPIRY (R319). -/
def execWindowCloseExpiry (s : State) : Result :=
  if s.pair.rxOpen then
    let s := if s.rst.phase = .standby then s.emit (.pin (.railEnable 1) false) else s
    .next (s.updPeer fun p => { p with rxOpen := false, resync := none })
  else .next s

/-- HEALTH_REQ_RECEIVE (R334). -/
def execHealthReqReceive (f : PeerHdr) (s : State) : Result :=
  s.onFrame f fun s =>
    if s.isStandby then
      let c := s.pair.check
      s.sendPeer false (.healthRpt c.1 c.2.1 c.2.2.1 (if c.1 = 0 then 0 else (s.now - c.2.2.2) / 1000000000))
    else s

/-- HEALTH_RPT_RECEIVE (R334). -/
def execHealthRptReceive (f : PeerHdr) (result failed ppm age : Nat) (s : State) : Result :=
  s.onFrame f fun s =>
    if s.isActive ∧ s.pair.healthFor.isSome then
      (s.updPeer fun p => { p with healthFor := none }).finishOn 0x0805 (.device, 0) .success
        [beBytes 1 result, beBytes 1 failed, beBytes 2 ppm, beBytes 8 age]
    else s

/-- PARTNER_HEALTH (R334, Table 14-8). -/
def execPartnerHealth (h : Hdr) (s : State) : Result :=
  .next (s.manifest .partnerHealth h 0x0805 [(.device, 0)] fun s =>
    if !s.partnerAlive then .fail .notAvailable []
    else .later ((s.updPeer fun p => { p with healthFor := some h }).sendPeer false .healthReq) true)

/-- STANDBY_HEALTH_CHECK (R334): every 10 minutes, except during a window or a takeover. -/
def execStandbyHealthCheck (failed : BitVec 6) (ppm : Nat) (s : State) : Result :=
  if s.isStandby ∧ !s.pair.rxOpen ∧ !s.pwr.mgmtWindow ∧ s.pair.tko.isNone then
    .next (s.updPeer fun p => { p with check := (if failed = 0 then 1 else 2, failed.toNat, ppm, s.now) })
  else .next s

/-- PARTNER_RELAY (R336): the inner manifest is subject to the opcode limits of the outer one's channel. -/
def execPartnerRelay (h : Hdr) (inner : List Byte) (s : State) : Result :=
  .next (s.manifest (.partnerRelay inner) h 0x0807 [(.device, 0)] fun s =>
    if !s.isActive then .fail .invalidState []
    else if inner = [] then .zero s []
    else if 65512 < inner.length then .fail .invalidSize []
    else if chanRefuses h.chan (beVal ((inner.drop 4).take 2)) then .fail .channelNotAllowed []
    else if !s.partnerAlive then .fail .notAvailable []
    else .later ((s.updPeer fun p =>
      { p with relayFor := some (h, inner), relayGot := [], relayTotal := 0 }).openWindow 2) true)

/-- RELAY_RCPT_RECEIVE (R336): the inner receipt is whole with its TOTAL bytes. -/
def execRelayRcptReceive (f : PeerHdr) (total offset : Nat) (bytes : List Byte) (s : State) : Result :=
  s.onFrame f fun s =>
    if s.pair.relayFor.isNone then s
    else
      let got := layBytes s.pair.relayGot offset bytes
      let n := max s.pair.relayTotal (offset + bytes.length)
      if total ≤ n then
        let inner := (List.range total).map fun i => got.get i
        let s := s.updPeer fun p => { p with relayFor := none, relayGot := [], relayTotal := 0 }
        (s.nextWindow).finishOn 0x0807 (.device, 0) .success [inner]
      else s.updPeer fun p => { p with relayGot := got, relayTotal := n }

/-- Witnesses, by index (R321). -/
def State.witnesses (s : State) : List Nat := List.range (s.fld Fld.AQD_PAIR_CFG_WITNESSES)

/-- A round of the lease unit (R322): one operation on each of the witnesses given. -/
def State.startRound (s : State) (k : RoundKind) (r : Lease) (ws : List Nat) : State :=
  let st := match r.state with
    | .free => 0
    | .held => 1
    | .released => 2
  let s := ws.foldl (fun s w => s.emit (.lease w st r.epoch r.rseq r.reqSeq)) s
  s.updPeer fun p => { p with round := some ⟨k, r, s.now, ws, []⟩ }

/-- REQ_SEQ of a renewal (R323). -/
def State.reqSeq (s : State) : Nat := s.pair.reqs.foldl max (if s.pair.reqs = [] then s.pair.ackHi else 0)

/-- The lease record of this device. -/
def State.leaseOf (s : State) (st : LeaseState) (epoch rseq req : Nat) : Lease := ⟨st, s.pairId, serial, epoch, rseq, req⟩

/-- RENEWAL_ROUND_START (R323): every 100 ms, in ACTIVE. -/
def execRenewalRoundStart (s : State) : Result :=
  if s.isActive ∧ s.flag Fld.AQD_LEASE_STAT_HOLDER then
    let s := s.updPeer fun p => { p with rseq := p.rseq + 1 }
    .next (s.startRound .renew (s.leaseOf .held s.epoch s.pair.rseq s.reqSeq) s.witnesses)
  else .next s

/-- The active fences itself (R324), for a cause of AQD_ROLE.FENCE_CAUSE: muxes released, links down, nothing more
written or completed; STANDBY, and P4 follows. -/
def State.selfFence (s : State) (cause : Nat) : State :=
  let s := s.partnerGone
  let s := s.muxes.foldl (fun s g => s.mux g false) s
  let s := s.allLinksDown.coreOff
  let s := s.updPeer fun p => { p with
    round := none, sendFenced := true, fenceEpoch := s.epoch, lowering := true, draining := false, held := []
    heldRcpt := [], prompts := [], pairTables := [], window := none, resync := none, claim := .none, tko := none
    prepared := false, force := false }
  let s := (s.setFld Fld.AQD_LEASE_STAT_HOLDER 0).setFld Fld.AQD_LEASE_STAT_MAJ 0
  let s := (s.setRole 2).raise Fld.AQD_ROLE_FENCED
  let s := (s.setFld Fld.AQD_ROLE_FENCE_CAUSE cause).logEvent EventKind.pairing.code cause
  s.pwrRequest 4 .role

/-- SELF_FENCE (R324): TIMER once 300 ms have passed since T_ok, LOST or RES_CONFLICT. -/
def execSelfFence (cause : Fin 3) (s : State) : Result :=
  if s.isActive ∧ (cause ≠ 0 ∨ s.pair.tOk + 300000000 ≤ s.now) then .next (s.selfFence (cause + 1)) else .next s

/-- Bays of mode-1 groups whose drives are READY. -/
def State.pairBays (s : State) : List Nat :=
  (List.range 48).filter fun b => s.bay b == Bay.ready && s.fld (Fld.DRV_GRP_CFG_MODE (b / 3)) == 1

/-- CLAIM_SUCCESS (R328): the new holder asserts its muxes, preempts the partner's reservations and serves. -/
def State.claimed (s : State) (r : Round) : State :=
  let s := (s.setRole 1).raise Fld.AQD_LEASE_STAT_HOLDER
  let s := s.updPeer fun p => { p with
    claim := .none, attempts := 0, firstRead := none, force := false, prepared := false, noWait := false
    rseq := 0, rseqOk := 0, tOk := r.start, lowering := false, lowered := false, sendFenced := false
    kept := [], ckptAcked := s.store.seq, ackHi := s.ckpt, sentSeq := s.ckpt, reqs := []
    resync := none, rxOpen := false }
  let groups := (List.range 16).filter fun g => s.fld (Fld.DRV_GRP_CFG_MODE g) == 2
  let s := groups.foldl (fun s g => s.mux g true) s
  let s := s.pairBays.foldl (fun s b => s.driveCtl b .preempt) s
  let s := s.closeMgmt.updMft fun m => { (default : Mft) with events := m.events }
  (s.logEvent EventKind.pairing.code 0).tkoEnd

/-- A round that has won a majority (R322, R323, R328). -/
def State.roundWon (s : State) (r : Round) : State :=
  match r.kind with
  | .renew => (s.raise Fld.AQD_LEASE_STAT_MAJ).updPeer fun p => { p with tOk := r.start, rseqOk := r.record.rseq }
  | .claim => (s.raise Fld.AQD_LEASE_STAT_MAJ).claimed r
  | _ => s

/-- After an attempt whose records are released: the wait of 50 to 150 ms, or after the third the end (R327). -/
def State.attemptOver (s : State) : State :=
  if s.pair.attempts < 3 then s else (s.raise Fld.AQD_PARTNER_NO_MAJORITY).backToP4 .recheck

/-- A claim that won no majority (R327): the records it won are released first. -/
def State.claimFailed (s : State) (r : Round) : State :=
  let s := s.updPeer fun p => { p with attempts := p.attempts + 1, claim := .backoff }
  if r.won = [] then s.attemptOver
  else s.startRound .release { r.record with state := .released } r.won

/-- A round whose operations have all ended. -/
def State.roundEnd (s : State) (r : Round) (won : Bool) : State :=
  let s := s.updPeer fun p => { p with round := none }
  match r.kind with
  | .renew => if won then s else s.setFld Fld.AQD_LEASE_STAT_MAJ 0
  | .claim => if won then s else (s.setFld Fld.AQD_LEASE_STAT_MAJ 0).claimFailed r
  | .release => s.attemptOver
  | .yield => s.sendPeers (.yield r.record.epoch r.record.reqSeq)

/-- The lease record of witness `w` as its drive holds it and this device last wrote or read it (R321, R322). -/
def State.keepLease (s : State) (w : Nat) (l : Lease) : State :=
  let b := s.fld (Fld.AQD_WITNESS_BAY w)
  let s := s.updPeer fun p => { p with records := p.records.set w l }
  if s.driveHere b then s.updMedium b fun m => { m with lease := some l } else s

/-- An operation of the lease unit ends (R322): result 0 won, 1 lost, 2 failed. -/
def State.leaseOp (s : State) (w result : Nat) : State :=
  match s.pair.round with
  | none => s
  | some r =>
    if !r.pending.contains w then s
    else
      let s := s.setFld (Fld.AQD_WITNESS_STATE w) (result + 1)
      let s := if result = 2 then s.count (Fld.AQD_WITNESS_FAILS w) 1 else s
      let s := if result = 0 then s.keepLease w r.record else s
      if r.kind = .renew ∧ result = 1 then s.selfFence 2
      else
        let r' := { r with pending := r.pending.erase w, won := if result = 0 then r.won ++ [w] else r.won }
        let n := s.witnesses.length
        let s := (s.updPeer fun p => { p with round := some r' }).setFld Fld.AQD_LEASE_STAT_WON r'.won.length
        let s := if result = 0 ∧ n < 2 * r'.won.length ∧ 2 * r.won.length ≤ n then s.roundWon r' else s
        if r'.pending = [] then s.roundEnd r' (decide (n < 2 * r'.won.length)) else s

/-- LEASE_OPERATION_COMPLETE (R322). -/
def execLeaseOperationComplete (w : Fin 7) (result : Fin 3) (s : State) : Result := .next (s.leaseOp w result)

/-- LEASE_OPERATION_TIMEOUT (R322): not complete within 50 ms, it is aborted and has failed. -/
def execLeaseOperationTimeout (w : Fin 7) (s : State) : Result := .next (s.leaseOp w 2)

/-- Records read from witnesses (R327): a newer EPOCH or RSEQ is a new observation, and the answer says so; a newest
record that is FREE or RELEASED needs no wait. -/
def State.readRecords (s : State) (l : List (Nat × LeaseRead)) : State × Bool :=
  let st := fun (n : Fin 3) => if n = 0 then LeaseState.free else if n = 1 then .held else .released
  let s := l.foldl (fun s e =>
    s.keepLease e.1 ⟨st e.2.state, s.pairId, e.2.holder, e.2.epoch, e.2.rseq, e.2.reqSeq⟩) s
  let s := s.updPeer fun p => { p with reqSeen := l.foldl (fun m e => max m e.2.reqSeq) p.reqSeen }
  let old := (s.pair.obsEpoch, s.pair.obsRseq)
  let s := l.foldl (fun s e => s.seeRenewal e.2.epoch e.2.rseq) s
  let new := decide ((s.pair.obsEpoch, s.pair.obsRseq) ≠ old)
  let top := l.filter fun e => e.2.epoch == s.pair.obsEpoch && e.2.rseq == s.pair.obsRseq
  let open_ := top.any (fun e => e.2.state != 1) || (decide (l ≠ []) && l.all fun e => e.2.state != 1)
  let s := if open_ then s.updPeer fun p => { p with noWait := true } else s
  (s.setEpoch (max s.epoch s.pair.obsEpoch), new)

/-- Conditions of R327 beside CKPT_SEQ and the wait: a powered standby whose partner is lost or has yielded, or that
carries out the start of a pair, and that is in no full resync. -/
def State.mayClaim (s : State) : Bool :=
  s.isStandby && s.rst.phase == .serving && s.pair.resync.isNone &&
    (s.partnerLost || s.pair.tko.any fun t => t.2 == 0 || t.2 == 2)

/-- A claim's round, or CANNOT_CLAIM (R327). The reservation key is registered before it (R326). -/
def State.tryClaim (s : State) : State :=
  if !s.pair.force ∧ s.ckpt < s.pair.reqSeen then (s.raise Fld.AQD_PARTNER_CANNOT_CLAIM).backToP4 .recheck
  else
    let s := s.pairBays.foldl (fun s b => s.driveCtl b .register) s
    let ep := max s.pair.obsEpoch (s.pair.records.foldl (fun m e => max m e.2.epoch) 0) + 1
    let s := (s.setEpoch ep).updPeer fun p => { p with claim := .round }
    if s.witnesses = [] then s.claimFailed ⟨.claim, s.leaseOf .held ep 0 s.ckpt, s.now, [], []⟩
    else s.startRound .claim (s.leaseOf .held ep 0 s.ckpt) s.witnesses

/-- The records are reread, and the claim goes on unless they show a renewal (R327). -/
def State.claimStep (s : State) (reads : List (Nat × LeaseRead)) : State :=
  if !s.mayClaim then s
  else
    let t := s.readRecords reads
    if t.2 && !t.1.pair.noWait then t.1.updPeer fun p => { p with claim := .waiting } else t.1.tryClaim

/-- 500 ms have passed since the last renewal observed, or no wait is needed (R327). -/
def State.leaseWaited (s : State) : Bool :=
  s.pair.noWait || s.pair.obsEpoch == 0 || decide (s.pair.obsAt + 500000000 ≤ s.now)

/-- LEASE_WAIT_EXPIRY (R327). -/
def execLeaseWaitExpiry (reads : List (Nat × LeaseRead)) (s : State) : Result :=
  if (s.pair.claim = .waiting ∨ s.pair.claim = .checking) ∧ s.leaseWaited then .next (s.claimStep reads) else .next s

/-- CLAIM_BACKOFF_EXPIRY (R327), once the records won are released. -/
def execClaimBackoffExpiry (reads : List (Nat × LeaseRead)) (s : State) : Result :=
  if s.pair.claim = .backoff ∧ s.pair.round.isNone ∧ s.leaseWaited then .next (s.claimStep reads) else .next s

/-- BOLLARD_CHECK_READ (Table 14-6): the records are read twice, 150 ms apart; where RSEQ has advanced, the active lives
and the standby returns to P4. -/
def execBollardCheckRead (reads : List (Nat × LeaseRead)) (s : State) : Result :=
  if s.pair.claim ≠ .checking ∨ !s.mayClaim then .next s
  else
    let s := (s.readRecords reads).1
    let top := (s.pair.obsEpoch, s.pair.obsRseq)
    match s.pair.firstRead with
    | none => .next (s.updPeer fun p => { p with firstRead := some top })
    | some x =>
      if x ≠ top ∧ !s.pair.noWait then .next ((s.setFld Fld.AQD_PARTNER_STATE 3).backToP4 .recheck)
      else .next ((s.setFld Fld.AQD_PARTNER_STATE 2).updPeer fun p => { p with claim := .waiting })

/-- BOLLARD_RECHECK_EXPIRY (R327, Table 14-6): RECHECK_S has passed and the partner stays lost. -/
def execBollardRecheckExpiry (s : State) : Result :=
  if s.isStandby ∧ s.pair.claim = .recheck ∧ s.partnerLost then
    .next (s.takeoverStart 1 .checking)
  else .next s

/-- AQUEDUCT_LANE_UP (R315): up in ACTIVE, and in STANDBY only out of P4. -/
def execAqueductLaneUp (lane : Fin 2) (s : State) : Result :=
  if !s.isSolo ∧ s.rst.portsUp ∧ s.rst.phase ≠ .standby then
    .next (s.raise (if lane = 0 then Fld.AQD_LINK_STAT_UP0 else Fld.AQD_LINK_STAT_UP1))
  else .next s

/-- AQUEDUCT_LANE_DOWN (R315, R317): a path that is down counts as silent. -/
def execAqueductLaneDown (lane : Fin 2) (s : State) : Result :=
  let s := s.setFld (if lane = 0 then Fld.AQD_LINK_STAT_UP0 else Fld.AQD_LINK_STAT_UP1) 0
  .next (if s.aqdUp then s else s.setFld Fld.AQD_PARTNER_HB_AQD 0)

/-- A device takes STANDBY as its start ends, in P4, its gates low (Table 18-2, R302). -/
def State.endStandby (s : State) : State :=
  let s := ((s.setRole 2).setCur 4).latchWake 4
  s.updRst fun r => { r with phase := .standby }

/-- PAIR_LISTEN_EXPIRY ("Start of a pair"): STANDBY where an ACTIVE partner was heard, or this device is not the
candidate. -/
def execPairListenExpiry (s : State) : Result :=
  if !s.pair.listening ∨ s.rst.phase ≠ .t4 ∨ s.heldOff then .next s
  else
    let p := s.pair
    let last := s.fld Fld.AQD_ROLE_LAST_ROLE
    let candidate : Bool :=
      if p.heardSince then
        p.pRole != 1 && (last == 1 || s.flag Fld.AQD_PAIR_CFG_PREFER || decide (serial < s.mrd.partner))
      else last != 2
    let s := s.updPeer fun p => { p with listening := false }
    .next (if candidate then (s.updPeer fun p => { p with tko := some (s.now, 0), claim := .waiting }).startT5
           else s.endStandby)

/-- PREPARE_RECEIVE (R329): P0 with quads and mode-1 drive links trained, or back to P4. -/
def execPrepareReceive (f : PeerHdr) (action : Nat) (s : State) : Result :=
  s.onFrame f fun s =>
    if !s.isStandby then s
    else if action = 1 then (s.updPeer fun p => { p with prepared := true }).powerUp
    else if action = 0 ∧ s.pair.prepared ∧ s.pair.tko.isNone then s.backToP4 .none
    else s

/-- YIELD_RECEIVE (R327, R329): the released lease needs no wait; a standby that is powered claims at once. -/
def execYieldReceive (f : PeerHdr) (epoch reqSeq : Nat) (s : State) : Result :=
  s.onFrame f fun s =>
    if !s.isStandby then s
    else
      let s := s.updPeer fun p => { p with
        noWait := true, obsEpoch := max p.obsEpoch epoch, reqSeen := max p.reqSeen reqSeq }
      let s := s.takeoverStart 2 .waiting
      if s.mayClaim ∧ s.pair.claim = .waiting then s.tryClaim else s

/-- TAKEOVER (R329, Table 14-8): a planned takeover from the active; with FORCE on a standby whose partner is lost, a
claim that ignores CKPT_SEQ. -/
def execTakeover (h : Hdr) (force : Bool) (s : State) : Result :=
  .next (s.manifest (.takeover force) h 0x0804 [(.device, 0)] fun s =>
    if s.isActive then (if s.pair.draining then .fail .invalidState [] else .ok s.beginYield [])
    else if s.isStandby ∧ force then
      if s.partnerLost then
        .ok ((s.updPeer fun p => { p with force := true }).takeoverStart 4 .waiting) []
      else .fail .invalidState []
    else .fail .invalidState [])

/-- PLANNED_DRAIN_EXPIRY (R329): the active fences and writes every record RELEASED; YIELD follows. -/
def execPlannedDrainExpiry (s : State) : Result :=
  if s.isActive ∧ s.pair.draining then
    let rec_ := s.leaseOf .released s.epoch s.pair.rseq s.reqSeq
    let s := s.selfFence 4
    .next (if s.witnesses = [] then s.sendPeers (.yield rec_.epoch rec_.reqSeq)
           else s.startRound .yield rec_ s.witnesses)
  else .next s

/-- PAIR_SET (Table 14-8): the role follows at the next start. -/
def execPairSet (h : Hdr) (en : Bool) (pairId partner : Nat) (prefer : Bool) (s : State) : Result :=
  .next (s.manifest (.pairSet en pairId partner prefer) h 0x0801 [(.device, 0)] fun s =>
    if s.pair.tko.isSome ∨ s.pair.draining then .fail .invalidState []
    else
      let s := s.setFld64 Fld.AQD_PAIR_ID_LO_ID Fld.AQD_PAIR_ID_HI_ID pairId
      let s := (s.moorReg Reg.AQD_PAIR_ID_LO).moorReg Reg.AQD_PAIR_ID_HI
      let s := (s.setFlag Fld.AQD_PAIR_CFG_PAIR_EN en).setFlag Fld.AQD_PAIR_CFG_PREFER prefer
      .ok ((s.moorReg Reg.AQD_PAIR_CFG).moor (.partner partner)).startResync [])

/-- PAIR_QUERY (Table 14-8). -/
def execPairQuery (h : Hdr) (s : State) : Result :=
  .next (s.manifest .pairQuery h 0x0802 [(.device, 0)] fun s =>
    .ok s [beBytes 4 (s.reg Reg.AQD_ROLE).toNat, beBytes 4 (s.reg Reg.AQD_PARTNER).toNat,
      beBytes 4 (s.reg Reg.AQD_LEASE_STAT).toNat,
      ((List.range 7).flatMap fun i => beBytes 4 (s.reg (Reg.AQD_WITNESS i)).toNat),
      beBytes 4 (s.reg Reg.AQD_TKO_STAT).toNat])

/-- A bay that may be a witness (R321), beside the mode of its group: READY, its drive with the fused Compare and Write of
R277. -/
def State.witnessOk (s : State) (b : Nat) : Bool :=
  s.bay b == Bay.ready && s.failedCheck b (s.drives.get b).id == 0 && (s.drives.get b).id.fusedCw

/-- The witnesses named, and their records written in the current epoch (R321, Table 14-8). -/
def State.setWitnesses (s : State) (bays : List Nat) : State :=
  let s := (s.setFld Fld.AQD_PAIR_CFG_WITNESSES bays.length).moorReg Reg.AQD_PAIR_CFG
  let s := (List.range 7).foldl (fun s i =>
    let s := s.setReg (Reg.AQD_WITNESS i) 0
    s.moorFld (Fld.AQD_WITNESS_BAY i) (bays.getD i 0x3F)) s
  let st := if s.isActive then LeaseState.held else .free
  let r := s.leaseOf st s.epoch s.pair.rseq s.reqSeq
  let n := if s.isActive then 1 else 0
  let s := s.witnesses.foldl (fun s w => s.emit (.lease w n r.epoch r.rseq r.reqSeq)) s
  s.witnesses.foldl (fun s w => s.keepLease w r) (s.updPeer fun p => { p with records := [] })

/-- WITNESS_SET (R321, Table 14-8). -/
def execWitnessSet (h : Hdr) (bays : List Nat) (s : State) : Result :=
  .next (s.manifest (.witnessSet bays) h 0x0803 (bays.map fun b => (.bay, b)) fun s =>
    match bays.find? fun b => decide (48 ≤ b) with
    | some b => .fail .outOfRange [beBytes 1 b]
    | none =>
      if s.isStandby then .fail .invalidState []
      else if bays = [] then .zero s []
      else if !(bays.length == 3 || bays.length == 5 || bays.length == 7) ∨ !bays.Nodup then .fail .invalidParam []
      else match bays.find? (fun b => s.fld (Fld.DRV_GRP_CFG_MODE (b / 3)) != 1), bays.find? (fun b => !s.witnessOk b) with
        | some b, _ => .fail .invalidParam [beBytes 1 b]
        | none, some b => .fail .invalidState [beBytes 1 b]
        | none, none => .ok (s.setWitnesses bays) [])

/-- CKPT_RESYNC (R320). -/
def execCkptResync (h : Hdr) (s : State) : Result :=
  .next (s.manifest .ckptResync h 0x0806 [(.device, 0)] fun s =>
    if !s.isActive then .fail .invalidState []
    else if !s.partnerAlive then .fail .notAvailable []
    else .ok s.startResync [])

/-- LKP_CHECKPOINT (R332). -/
def execLkpCheckpoint (s : State) : Result :=
  if s.rst.phase = .serving ∧ s.cur ≤ 2 then .next (s.updPeer fun p => { p with lkCkpt := s.now }) else .next s

/-- LKP_CORE_SWITCH (R332): an uncorrectable error in the active core or its bank. -/
def execLkpCoreSwitch (s : State) : Result :=
  if s.rst.phase = .serving ∧ s.cur ≤ 2 then .next s.coreFailed else .next s

/-- A drill due now is skipped (R333), and so is one while the lockkeeper is off or has no cold spare. -/
def State.drillSkips (s : State) : Bool :=
  s.pair.tko.isSome || s.pair.draining || s.pair.resync.isSome || s.pwr.stage != .none || decide (3 ≤ s.cur) ||
    s.fld Fld.LKP_CORE_STAT_SPARE != 0

/-- The spare is powered for its drill (R333). -/
def State.lkpDrillBegin (s : State) (h : Option Hdr) : State :=
  (s.setFld Fld.LKP_CORE_STAT_SPARE 1).updPeer fun p => { p with drill := some ⟨h, s.now⟩ }

/-- A drill asked for by its interval or by DRILL_NOW (R333). -/
def State.drillDue (s : State) : State :=
  if s.rst.phase ≠ .serving ∨ s.pair.drill.isSome then s
  else if s.drillSkips then s.setFld Fld.LKP_DRILL_STAT_RESULT 4
  else s.lkpDrillBegin none

/-- LKP_DRILL_TIMER (R333). -/
def execLkpDrillTimer (s : State) : Result := .next s.drillDue

/-- LKP_DRILL_NOW (Table 14-14). -/
def execLkpDrillNow (s : State) : Result := .next s.drillDue

/-- LKP_DRILL (R333, Table 14-8): the receipt carries the result. -/
def execLkpDrill (h : Hdr) (s : State) : Result :=
  .next (s.manifest .lkpDrill h 0x0A30 [(.device, 0)] fun s =>
    if s.pair.drill.isSome then .fail .busy []
    else if s.drillSkips then .ok (s.setFld Fld.LKP_DRILL_STAT_RESULT 4) [beBytes 1 4]
    else .later (s.lkpDrillBegin (some h)) true)

/-- LKP_DRILL_COMPLETE (R333). -/
def execLkpDrillComplete (pass : Bool) (durMs : Nat) (s : State) : Result :=
  if s.pair.drill.isSome then .next (s.lkpDrillEnd (if pass then 1 else 2) durMs) else .next s

/-- LKP_SWITCH (R332, Table 14-8). -/
def execLkpSwitch (h : Hdr) (s : State) : Result :=
  .next (s.manifest .lkpSwitch h 0x0A31 [(.device, 0)] fun s =>
    if s.fld Fld.LKP_CORE_STAT_SPARE ≠ 0 then .fail .invalidState [] else .ok s.coreSwitch [])

end Sys2Proof.Machine
end

