-- ==== Sys2Proof/Machine/Clocks.lean ====
section
/-! DEFINITION. Clocks (20_clocks.md): PLL locks, the frequency counter, and which domains a register can be reached in. -/

namespace Sys2Proof.Machine

/-- The domain that holds a block's registers is powered off or held in reset (R420, R392, Table 15-1, R336); `q` is the
instance, which matters for quads that P3 keeps awake. -/
def State.blkOff (s : State) (b : Blk) (q : Nat) : Bool :=
  match b with
  | .glb | .twp => false
  | .ept => !s.eptPowered || (s.cur == 4 && !s.mgmtOnly)
  | .pdl | .wir | .clk | .aqd | .lkp | .mft => !s.mgmtOnly && s.fld Fld.TWP_RST_CAUSE_READY == 0
  | .net => s.mgmtOnly || s.fld Fld.TWP_RST_CAUSE_READY == 0 ||
      (decide (3 ≤ s.cur) && !(s.cur == 3 && s.wakeLinks.any fun p => quadOf p == q))
  | _ => s.mgmtOnly || s.fld Fld.TWP_RST_CAUSE_READY == 0 || decide (3 ≤ s.cur)

/-- The bit of a PLL's event in a lock register set or cleared. -/
def State.lockBit (s : State) (f : Fld) (i : Nat) (on : Bool) : State :=
  let v := s.fld f
  s.setFld f (if on then v ||| 2 ^ i else v &&& (2 ^ 32 - 1 - 2 ^ i))

/-- A PLL's bit in CLK_LOCK or CLK_QUAD_LOCK. -/
def State.pllLock (s : State) (p : Pll) (on : Bool) : State :=
  match p with
  | .quad q => s.lockBit Fld.CLK_QUAD_LOCK_QUADS q on
  | .aqueduct i => s.lockBit Fld.CLK_LOCK_AQD i on
  | .management => s.setFlag Fld.CLK_LOCK_MGMT on
  | .driveGroup g => s.lockBit Fld.CLK_LOCK_DRV g on
  | .endpoint => s.setFlag Fld.CLK_LOCK_EPT on
  | .core => s.setFlag Fld.CLK_LOCK_CORE on

/-- PLL_LOSS_OF_LOCK (R422). -/
def execPllLossOfLock (pll : Pll) (s : State) : Result :=
  match pll with
  | .core => .next s.coreLol
  | .quad q =>
    let s := (s.pllLock (.quad q) false).raise Fld.CLK_LOL_NET_LOL
    .next ((List.range 4).foldl (fun s l => s.linkDown (4 * q + l)) s)
  | .aqueduct i =>
    let s := (s.pllLock (.aqueduct i) false).raise Fld.CLK_LOL_NET_LOL
    let s := s.setFld (if i = 0 then Fld.AQD_LINK_STAT_UP0 else Fld.AQD_LINK_STAT_UP1) 0
    .next (if s.aqdUp then s else s.setFld Fld.AQD_PARTNER_HB_AQD 0)
  | .management => .next ((s.pllLock .management false).raise Fld.CLK_LOL_NET_LOL)
  | .driveGroup g =>
    let s := (s.pllLock (.driveGroup g) false).raise Fld.CLK_LOL_DRV_LOL
    .next ((List.range 3).foldl (fun s i => s.driveLinkLost (3 * g + i)) s)
  | .endpoint => .next ((s.pllLock .endpoint false).raise Fld.CLK_LOL_EPT_LOL).eptLinkOff

/-- PLL_LOCK_RETURN (R422): a quad's links retrain, and the device restarts when the core PLL locks again. -/
def execPllLockReturn (pll : Pll) (s : State) : Result :=
  let t := s.pllLock pll true
  match pll with
  | .core => .next (t.updRst fun r => { r with coreLost := false })
  | .quad q => .next (if s.rst.portsUp then t.retrain q else t)
  | _ => .next t

/-- The clock of a domain runs (R413, Table 15-1): the codes of CLK_FREQ_IDX.DOMAIN. -/
def State.clockRuns (s : State) (d i : Nat) : Bool :=
  let up : Bool := s.fld Fld.TWP_RST_CAUSE_READY == 1 && !s.mgmtOnly
  match d with
  | 0 | 5 => up && decide (s.cur ≤ 2)
  | 1 | 2 | 3 | 4 => up && decide (s.cur ≤ 1)
  | 6 => !s.blkOff .net i
  | 7 => !s.blkOff .drv i
  | 8 => s.eptPowered
  | _ => false

/-- CLK_FREQ_IDX_WRITE (R422, Table 20-6): a measurement begins at once. -/
def execClkFreqIdxWrite (domain inst : Nat) (s : State) : Result :=
  .next ((s.cfgWrite Reg.CLK_FREQ_IDX (BitVec.ofNat 32 (domain % 16 + 16 * (inst % 64)))).raise Fld.CLK_FREQ_BUSY)

/-- FREQ_MEASUREMENT_END (Table 20-6): what was counted, or 0 where the clock is stopped. -/
def execFreqMeasurementEnd (khz : Nat) (s : State) : Result :=
  if s.fld Fld.CLK_FREQ_BUSY = 0 then .next s
  else
    let runs := s.clockRuns (s.fld Fld.CLK_FREQ_IDX_DOMAIN) (s.fld Fld.CLK_FREQ_IDX_INST)
    .next ((s.setFld Fld.CLK_FREQ_KHZ (if runs then min khz (2 ^ 23 - 1) else 0)).setFld Fld.CLK_FREQ_BUSY 0)

end Sys2Proof.Machine
end

