-- ==== Sys2Proof/Machine/Frames.lean ====
section
/-! DEFINITION. The receiving of frames (11_network_ports.md, R255 to R269): the steps of R255 in their order, PFC and
pause, ARP and ND, ACLs, wake frames, and the receive buffer. -/

namespace Sys2Proof

/-- VLAN of a frame with at most one tag: VID 0 is untagged (Table 11-2). -/
def RxFrame.vid (f : RxFrame) : Option Nat :=
  match f.tags with
  | (_, v) :: _ => if v = 0 then none else some v
  | [] => none

/-- DSCP of an IP packet. -/
def RxFrame.dscp (f : RxFrame) : Nat :=
  match f.body with
  | .ip _ _ _ d _ _ _ _ _ _ _ _ => d
  | _ => 0

/-- Ingress priority (R238). -/
def RxFrame.prio (f : RxFrame) : Nat :=
  match f.tags with
  | (p, _) :: _ => p % 8
  | [] => f.dscp / 8 % 8

/-- What the sluice sees of the frame. -/
def RxFrame.info (f : RxFrame) (p : Nat) : FrameInfo := ⟨p, f.len, !f.tags.isEmpty, f.prio, f.dscp⟩

/-- A rule matches the frame (R263, Table 11-3). IPv4 and IPv6 sources are those of IP packets. -/
def AclRule.hits (r : AclRule) (f : RxFrame) : Bool :=
  let pre := fun (w a : Nat) => a / 2 ^ (w - r.len) == r.addr / 2 ^ (128 - r.len)
  r.action != 0 && (f.etype &&& r.mask) == (r.etype &&& r.mask) &&
    (r.vlan == 0xFFFF || (r.vlan == 0x1000 && f.vid.isNone) || f.vid == some r.vlan) &&
    (match r.kind, f.body with
      | 0, _ => true
      | 1, _ => r.addr / 2 ^ 80 == f.smac
      | 2, .ip false src _ _ _ _ _ _ _ _ _ _ => pre 32 src
      | 3, .ip true src _ _ _ _ _ _ _ _ _ _ => pre 128 src
      | 3, .solicit src _ => pre 128 src
      | 3, .advert src => pre 128 src
      | _, _ => false)

end Sys2Proof

namespace Sys2Proof.Machine

/-- MAC address of a port; the management lane is 128 (R256). -/
def portMac (p : Nat) : Nat := Config.fusedMac.toNat * 256 + p

/-- Address entries that hold the port. -/
def State.entriesOf (s : State) (p : Nat) : List AddrParams :=
  s.mrd.addr.filterMap fun e => e.2.bind fun a => if a.ports.contains p then some a else none

/-- IP MTU of a port; that of the management lane is log entry 44. -/
def State.mtuOf (s : State) (p : Nat) : Nat :=
  if p = 128 then 4200 else s.fld (Fld.NET_PORT_CFG_MTU (quadOf p) (laneOf p))

/-- Step 2 of R255: the port's MAC, broadcast, or the solicited-node multicast of one of its IPv6 addresses. A MAC
control frame comes to its own reserved address (log entry 46). -/
def State.macOk (s : State) (p : Nat) (f : RxFrame) : Bool :=
  f.dmac == 2 ^ 48 - 1 || f.dmac == portMac p || (f.etype == 0x8808 && f.dmac == 0x0180C2000001) ||
    (s.entriesOf p).any fun a => a.v6 && f.dmac == 0x3333FF000000 + a.addr % 2 ^ 24

/-- Step 4 of R255. -/
def State.vlanOk (s : State) (p : Nat) (f : RxFrame) : Bool :=
  decide (f.tags.length < 2) && (s.entriesOf p).any fun a => a.vlan == f.vid

/-- A wake frame's payload (R266): an all-zero pattern never matches. -/
def State.patternOk (s : State) (p : Nat) (words : List Nat) : Bool :=
  let pat := (s.pwr.wakePorts.get p).2
  decide (pat.length = 4) && decide (pat ≠ [0, 0, 0, 0]) && words.take 4 == pat

/-- Step 6 of R255: the first rule that matches decides, else ACL_DEF. The management lane has no rules. -/
def State.aclOk (s : State) (p : Nat) (f : RxFrame) : Bool :=
  if 128 ≤ p then true
  else match ((List.range 16).map fun i => s.mrd.acl.get (16 * p + i)).find? fun r => r.hits f with
    | some r => r.action == 1
    | none => !s.flag (Fld.NET_PORT_CFG_ACL_DEF (quadOf p) (laneOf p))

/-- The control meter of a port lets a non-storage frame pass (R237): red is dropped and counted. -/
def State.ctlMeter (s : State) (p : Nat) (f : RxFrame) : State × Bool :=
  if 128 ≤ p ∨ !s.flag (Fld.SLC_PORT_CFG_CTRL_EN p) then (s, true)
  else match s.meterFrame (s.fld (Fld.SLC_PORT_CFG_CTRL_METER p)) (f.info p) with
    | (t, .red) => (t.count Fld.SLC_DROP_RED_NONSTORAGE 1, false)
    | (t, _) => (t, true)

/-- A received PFC frame (R260): the enabled priorities it names stop, or with time 0 resume. -/
def State.takePfc (s : State) (p : Nat) (times : List (Nat × Nat)) : State :=
  let q := quadOf p
  let l := laneOf p
  let on := fun (c : Nat) => decide (p < 128) && s.pfcOn p c
  let s := if times.any fun t => !on t.1 then s.netCount p 23 1 else s
  (times.filter fun t => on t.1).foldl (fun s t =>
    let x := s.fld (Fld.NET_PORT_STAT_PFC_RX q l)
    if t.2 = 0 then (if x.testBit t.1 then s.setFld (Fld.NET_PORT_STAT_PFC_RX q l) (x - 2 ^ t.1) else s)
    else (s.setFld (Fld.NET_PORT_STAT_PFC_RX q l) (x ||| 2 ^ t.1)).netCount p (24 + t.1) 1) s

/-- A received pause frame (R260), ignored where the port's pause is not in force. -/
def State.takePause (s : State) (p time : Nat) : State :=
  if p < 128 ∧ s.pauseOn p then
    (s.setFlag (Fld.NET_PORT_STAT_PAUSED_RX (quadOf p) (laneOf p)) (time != 0)).netCount p 40 1
  else s.netCount p 23 1

/-- A neighbour has been heard from (R257). -/
def State.confirm (s : State) (p addr : Nat) : State :=
  s.updNet fun n => { n with neigh := n.neigh.map fun x =>
    if x.port = p ∧ x.addr = addr then { x with asked := 0, confirmed := some s.now } else x }

/-- ARP (R257): requests for a live address are answered; another MAC that claims one is a conflict; a reply confirms a
neighbour. -/
def State.takeArp (s : State) (p : Nat) (f : RxFrame) (request : Bool) (sender target : Nat) : State :=
  let mine := fun (a : Nat) => (s.liveAddrs p).any fun x => !x.v6 && x.addr == a
  let other := f.smac / 256 != Config.fusedMac.toNat || decide (128 < f.smac % 256)
  let s := if mine sender && other then
      let s := s.netCount p 42 1
      if p < 128 then s.raise (Fld.NET_PORT_STAT_ADDR_CONFLICT (quadOf p) (laneOf p)) else s
    else s
  if request then
    match (s.liveAddrs p).find? fun x => !x.v6 && x.addr == target with
    | some x => s.sendNet p x.vlan (.answer false target)
    | none => s
  else s.confirm p sender

/-- The device has something to send from one of its addresses to `dst` (R256, R257): an unreachable destination is
counted; a neighbour that is not in the cache of 16,384 is asked for. -/
def State.reach (s : State) (p : Nat) (a : AddrParams) (dst : Nat) : State :=
  match nextHop a dst with
  | none => s.netCount p 20 1
  | some n =>
    if s.net.neigh.any fun x => x.port == p && x.addr == n then s
    else
      let x : Neighbour := ⟨p, a.v6, n, 1, none⟩
      (s.updNet fun t => { t with neigh := (t.neigh ++ [x]).drop (t.neigh.length + 1 - 16384) }).sendNet
        p a.vlan (.request a.v6 n)

/-- A transport packet that the buffer has taken is for the tug group that owns its queue pair or connection (R64, R65). -/
def State.toGroup (s : State) (flow : Option Nat) : State :=
  match flow with
  | some q => s.toTug q
  | none => s

/-- A frame into the receive buffer (R126, R261): a frame past its headroom, and one without back-pressure that finds
the buffer full, is discarded. -/
def State.buffer (s : State) (p : Nat) (f : RxFrame) (flow : Option Nat) : State :=
  let q := quadOf p
  let c := f.prio
  let t := if s.pauseOn p then 0 else c
  if s.pauseOn p || s.pfcOn p c then
    if s.fld (Fld.NET_PFC_THR_XOFF q (laneOf p) t) + s.fld (Fld.NET_PFC_THR_HEAD q (laneOf p) t) ≤ s.thrOcc p t then
      (s.raise (Fld.NET_PORT_STAT_HEAD_OVR q (laneOf p))).netCount p 17 1
    else (s.holdFrame p c f.len flow).toGroup flow
  else if 1024 ≤ s.bufUnits q then s.netCount p 16 1
  else (s.holdFrame p c f.len flow).toGroup flow

/-- The host whose queue pair or connection a transport packet belongs to: of a connection, once its queue is connected. -/
def State.flowHost (s : State) (flow : Nat) : Option Nat :=
  if !isTcp flow then some (s.qp (flow % 65536)).host
  else if (s.host.queue.get flow).live then some (s.queueHost flow) else none

/-- The meter's part of step 8 (R237, Table 10-1): a frame that is not storage's meets the control meter and is dropped red;
storage data and admin capsules are debited from their host's meter whatever its colour, without the I/O capsules that a
segment carries, which are debited at admission. Answers whether the frame passes. -/
def State.sortIp (s : State) (p : Nat) (f : RxFrame) (kind caps : Nat) (flow : Option Nat) : State × Bool :=
  if kind = 2 then s.ctlMeter p f
  else if kind ≠ 1 then (s, true)
  else match (flow.bind s.flowHost).bind fun h => s.hostMeter h (f.info p) with
    | none => (s, true)
    | some m => ((s.meterFrame m { f.info p with len := f.len - caps }).1, true)

/-- Step 8 of R255 and what follows it, for an IP packet to address `a` of the port: its meter, the checksums of the tugs, an
echo answered, an MTU notice taken by its connection. -/
def State.takeIp (s : State) (p : Nat) (f : RxFrame) (a : AddrParams) : State :=
  match f.body with
  | .ip v6 src _ _ _ icrcOk tcpOk kind caps echo mtu flow =>
    if p = 128 ∧ kind ≠ 2 then s
    else
      let r := s.sortIp p f kind caps flow
      if !r.2 then r.1
      else if !icrcOk then r.1.netCount p 13 1
      else if !tcpOk then r.1.netCount p 14 1
      else
        let s := r.1.reach p a src
        match echo, mtu with
        | true, _ => s.sendNet p none (.echoReply src f.len)
        | false, some (c, m) =>
          if (s.conn c).isOpen then
            s.updConn c fun x => { x with mss := min x.mss (max 1220 (m - (if v6 then 60 else 40) - tcpOptions)) }
          else s
        | false, none => if p < 128 then s.buffer p f flow else s
  | _ => s

/-- Steps 4 to 8 of R255. -/
def State.sortFrame (s : State) (p : Nat) (f : RxFrame) : State :=
  if !s.vlanOk p f then s.netCount p 10 1
  else if f.etype = 0x88B5 then s.netCount p 19 1
  else if !s.aclOk p f then s.netCount p 11 1
  else match f.body with
    | .arp request sender target =>
      let r := s.ctlMeter p f
      if r.2 then r.1.takeArp p f request sender target else r.1
    | .solicit _ target =>
      let r := s.ctlMeter p f
      match r.2, (s.liveAddrs p).find? fun x => x.v6 && x.addr == target with
      | true, some x => r.1.sendNet p x.vlan (.answer true target)
      | _, _ => r.1
    | .advert sender =>
      let r := s.ctlMeter p f
      if r.2 then r.1.confirm p sender else r.1
    | .ip v6 _ dst _ bad _ _ _ _ _ _ _ =>
      if bad then s.netCount p 12 1
      else match (s.liveAddrs p).find? fun x => x.v6 == v6 && x.addr == dst with
        | none => s.netCount p 12 1
        | some a => s.takeIp p f a
    | _ => if p < 128 then (s.ctlMeter p f).1 else s

/-- Uncorrected codewords of a port (R268): counted over 1 s; DEG_MAX of them mark it degraded, and with DEGRADE_DOWN it
retrains, at most once every 10 s. -/
def State.codewords (s : State) (p n : Nat) : State :=
  if n = 0 ∨ 128 ≤ p then s
  else
    let q := quadOf p
    let l := laneOf p
    let s := s.netCount p 5 n
    let fresh : Bool := decide (1000000000 ≤ s.now - s.net.window.get p)
    let c := (if fresh then 0 else s.net.uncorr.get p) + n
    let s := s.updNet fun x => { x with
      uncorr := x.uncorr.set p c, window := if fresh then x.window.set p s.now else x.window }
    let m := s.fld (Fld.NET_QUAD_CFG_DEG_MAX q)
    if m = 0 ∨ c < m then s
    else
      let s := s.raise (Fld.NET_PORT_STAT_DEGRADED q l)
      let free := (s.net.retrained.get p).all fun t => decide (10000000000 ≤ s.now - t)
      if s.flag (Fld.NET_PORT_CFG_DEGRADE_DOWN q l) ∧ free then
        let s := s.updNet fun x => { x with retrained := x.retrained.set p (some s.now) }
        ((s.linkDown p).raise (Fld.NET_QUAD_STAT_TRAINING q)).emit (.net p .train)
      else s

/-- Steps 1 to 3 of R255. -/
def State.frameIn (s : State) (p : Nat) (f : RxFrame) : State :=
  let s := (s.netCount p 0 1).netCount p 1 f.len
  let s := ((s.netCount p 4 f.corrected).netCount p 6 f.symbols).codewords p f.uncorrected
  if f.errored ∨ f.uncorrected ≠ 0 then s.netCount p 7 1
  else if f.len < 64 ∨ s.mtuOf p + 18 + 4 * min 1 f.tags.length < f.len then s.netCount p 8 1
  else if !s.macOk p f then s.netCount p 9 1
  else if f.etype = 0x8808 then match f.body with
    | .pfc times => s.takePfc p times
    | .pause time => s.takePause p time
    | _ => s
  else s.sortFrame p f

/-- A frame meets R266 on a port. -/
def State.wakeFrame (s : State) (p : Nat) (f : RxFrame) : Bool :=
  !f.errored && f.uncorrected == 0 && (f.dmac == portMac p || f.dmac == 2 ^ 48 - 1) && decide (f.tags.length < 2) &&
    (f.tags.isEmpty || s.vlanOk p f) && f.etype == 0x88B5 && (match f.body with
      | .wake words => s.patternOk p words
      | _ => false)

/-- FRAME_RECEIVE (R255, R265, R266, R269): on a port whose link is up, or the management lane. In P2 the frame wakes the
device and is not lost; in P3 a port with WAKE = 1 wakes with it and one with WAKE = 2 wakes with a wake frame, and the
frame is lost. -/
def execFrameReceive (port : Fin 129) (f : RxFrame) (s : State) : Result :=
  let p := port.val
  let up : Bool := p == 128 || s.flag (Fld.NET_PORT_STAT_LINK (quadOf p) (laneOf p))
  if 4 ≤ s.pwrDepth then .next s
  else if s.pwrDepth = 3 then
    if p = 128 then .next (s.wakeUp 4 0)
    else if s.wakeFrame p f ∧ up then .next (s.wakeUp 1 p)
    else .next (s.wakeUp 0 p)
  else if !up then .next s
  else
    let s := if s.pwrDepth = 2 then s.wakeUp (if p = 128 then 4 else 0) p else s
    .next (s.frameIn p f)

end Sys2Proof.Machine
end

