-- ==== Sys2Proof/Machine/Steps.lean ====
section
/-! DEFINITION. The step of an engine (R96, R111), and what reached a berth while no engine owned it (R113, R457). -/

namespace Sys2Proof.Machine

/-- What drives and the host sent while the berth had no owner is delivered to it (R113, step 5; R457). -/
def State.takeHeld (s : State) (b : Nat) : State :=
  let s := (s.berth b).ops.zipIdx.foldl (fun s p => match p.1.heldBack with
    | some r =>
      let o := { p.1 with heldBack := none }
      (s.updBerth b fun x => { x with ops := x.ops.set p.2 o }).opAnswer b p.2 o r
    | none => s) s
  match (s.berth b).heldData with
  | none => s
  | some (data, good) =>
    let s := s.updBerth b fun x => { x with heldData := none }
    if (s.berth b).checkpoint ≠ 3 ∨ (s.berth b).fetched then s
    else if good then s.updBerth b fun x => { x with fetched := true, cmd := { x.cmd with data := data } }
    else s.updBerth b fun x => { x with failed := true, status := St.transientTransport }

/-- A berth's next step, after what was held for it. -/
def State.runStep (s : State) (b : Nat) : State :=
  let s := s.takeHeld b
  if (s.berth b).state = .run then s.step1 b else s

/-- ENGINE_STEP (R96, R111): the berth's ready step, run by its owner. -/
def execEngineStep (berth : Fin 262144) (s : State) : Result :=
  let e := s.berth berth
  if e.state = .run ∧ !e.orphan ∧ !e.admin ∧ s.engRuns e.owner then .next (s.runStep berth) else .next s

end Sys2Proof.Machine
end

