-- ==== Sys2Proof/Machine/IoRows.lean ====
section
/-! DEFINITION. The rows of the I/O commands (02_host_face.md, Table 2-2). A row stands for the command from its capsule
on, through the same admission, berth, steps and completion as every command; where nothing holds it, the host's data,
its drives and its ledger copies answer within the row (log entry 54). What must wait stays where it waits, for the rows
of engines, drives and the ledger. -/

namespace Sys2Proof.Machine

/-- Every operation of a berth that stands on a drive is answered well. -/
def State.answerOps (s : State) (b : Nat) : State :=
  (s.berth b).ops.zipIdx.foldl (fun s p =>
    if p.1.onDrive ∧ !p.1.finished ∧ ((s.berth b).ops[p.2]?.any fun o => !o.finished) then s.opAnswer b p.2 p.1 .ok
    else s) s

/-- Steps that a command without waits takes, with one more for each segment and reconstruction. -/
def ioFuel : Nat := 64

/-- The pairs of array `i` in which some of the records `mine` is not durable: their segments issued, and the copies in
flight complete (R177). -/
def State.answerPairs (s : State) (i : Nat) (mine : LedgerRec → Bool) : State :=
  (List.range (s.mrd.arr.get i).pairs.length).foldl (fun s p =>
    let r := s.pairRun i p
    if r.waiting.any mine || r.segs.any fun g => !g.durable && g.recs.any mine then
      let s := if s.pair.pairTables.any fun e => e.1 == i then s else s.segIssue i p
      ((s.pairRun i p).segs.filter fun g => !g.durable && g.recs.any mine).foldl (fun s g =>
        (if g.toA && !g.onA then s.segDone i p g.sseq true else s) |> fun s =>
          if g.toB && !g.onB then s.segDone i p g.sseq false else s) s
    else s) s

/-- What comes next of a destage that bypasses the ledger (R184, R189): its interlock, its marks, its member writes, its
RETIRE entry. -/
def State.answerDestage (s : State) (i st : Nat) : State :=
  let e := (s.ary.get i).gather.get st
  if e.due ≠ some .bypass ∧ e.cause ≠ some .bypass then s
  else match e.at_ with
  | .none => s.destageAsk i st
  | .writing => s.destageWrite i st
  | _ => s.answerPairs i fun r => r.stripe == st && decide (2 ≤ r.kind)

/-- What a write with record numbers `lo` to `lo + n - 1` has left to the ledger, or to its bypass on `stripes`, becomes
durable (R177, R189). -/
def State.answerLedger (s : State) (i lo n : Nat) (stripes : List Nat) : State :=
  let s := s.answerPairs i fun r => (r.kind == 1 || r.kind == 4) && decide (lo ≤ r.rn ∧ r.rn < lo + n)
  stripes.foldl (fun s st => (List.range ioFuel).foldl (fun s _ => s.answerDestage i st) s) s

/-- One thing that happens next to a command under way: its engine takes it, runs its step, its host, drives or ledger
copies answer, the tug accepts its completion. `data` is the host's. -/
def State.progress (s : State) (b : Nat) (data : List Sector) : State :=
  let e := s.berth b
  match e.state with
  | .queued =>
    match (List.range 256).find? fun x => (s.eng x).tow.contains b with
    | some x => if s.engRuns x ∧ s.inflight x < 1024 then s.runBerth x b else s
    | none => s
  | .run => if s.engRuns e.owner ∧ !e.orphan then s.runStep b else s
  | .wait => match e.waits with
    | .data => s.hostData b data
    | .ops =>
      let stripes := if e.placed && e.ledger then (s.stripesOf e.ns (planBlks e.ns e.cmd)).map (·.1) else []
      ((s.answerOps b).answerLedger e.ns.array e.rn e.rnN stripes).wake b
    | _ => s
  | .done => if e.posted then s else (s.postBerth b).adopt
  | _ => s

/-- The command goes on until it is released or nothing of its own moves it. -/
def State.runOn (s : State) (b : Nat) (data : List Sector) : Nat → State
  | 0 => s
  | n + 1 =>
    let e := s.berth b
    let t := s.progress b data
    if e.state = .free then s else if t.berth b = e then t else t.runOn b data n

/-- The berth that holds a queue's command, where one does. -/
def State.berthOf (s : State) (q cid : Nat) : Option Nat :=
  (s.berths fun b => b.cmd.qref == q && b.cmd.cid == cid && b.cmd.commit.isNone && !b.admin && b.state != .done).head?

/-- The queue's home engine admits its head, where it can. -/
def State.admitNow (s : State) (q : Nat) : State :=
  match (s.host.queue.get q).home with
  | some e => if s.engOpen e then (s.admitFrom e q).basinTrigger else s
  | none => s

/-- The capsule of an I/O command as it arrives: data beyond 8,192 bytes is not in it (Table 2-1). -/
def State.capsuleOf (s : State) (c : IoCmd) : IoCmd :=
  if ioInCapsule c (s.mrd.ns.get c.nsid) then c else { c with data := [] }

/-- An I/O command from its arrival on (R25 to R28, R47 to R49, R99 to R111). One that does not stand alone at the head of
its queue waits its turn. -/
def State.ioRow (s : State) (c : IoCmd) : State :=
  let t := s.capsule (s.capsuleOf c)
  if (t.host.queue.get c.qref).sq ≠ [s.capsuleOf c] then t
  else
    let t := t.admitNow c.qref
    match t.berthOf c.qref c.cid with
    | none => t
    | some b => t.runOn b c.data ioFuel

/-- A fused Compare and Write from the arrival of its capsules on (R52, R99, R461, R463). -/
def State.fusedRow (s : State) (a b : IoCmd) : State :=
  let x := s.capsuleOf { a with fuse := 1 }
  let y := s.capsuleOf { b with fuse := 2, qref := a.qref }
  let t := (s.capsule x).capsule y
  if (t.host.queue.get a.qref).sq ≠ [x, y] then t
  else
    let t := t.admitNow a.qref
    match t.berthOf a.qref a.cid, t.berthOf a.qref b.cid with
    | some m, some n => ((t.runOn m a.data ioFuel).runOn n b.data ioFuel).runOn m a.data ioFuel
    | _, _ => t

/-- READ (R27). -/
def execRead (c : IoCmd) (s : State) : Result := .next (s.ioRow { c with opcode := 2 })

/-- WRITE (R25). -/
def execWrite (c : IoCmd) (s : State) : Result := .next (s.ioRow { c with opcode := 1 })

/-- FLUSH (R179). -/
def execFlush (c : IoCmd) (s : State) : Result := .next (s.ioRow { c with opcode := 0 })

/-- COMPARE (R41). -/
def execCompare (c : IoCmd) (s : State) : Result := .next (s.ioRow { c with opcode := 5 })

/-- COMPARE_AND_WRITE (R463). -/
def execCompareAndWrite (first second : IoCmd) (s : State) : Result := .next (s.fusedRow first second)

/-- WRITE_ZEROES (R41). -/
def execWriteZeroes (c : IoCmd) (s : State) : Result := .next (s.ioRow { c with opcode := 8 })

/-- DATASET_MANAGEMENT (R41). -/
def execDatasetManagement (c : IoCmd) (s : State) : Result := .next (s.ioRow { c with opcode := 9 })

/-- VERIFY (R41). -/
def execVerify (c : IoCmd) (s : State) : Result := .next (s.ioRow { c with opcode := 0x0C })

/-- RESERVATION_REGISTER (R41). -/
def execReservationRegister (c : IoCmd) (s : State) : Result := .next (s.ioRow { c with opcode := 0x0D })

/-- RESERVATION_REPORT (R41). -/
def execReservationReport (c : IoCmd) (s : State) : Result := .next (s.ioRow { c with opcode := 0x0E })

/-- RESERVATION_ACQUIRE (R41). -/
def execReservationAcquire (c : IoCmd) (s : State) : Result := .next (s.ioRow { c with opcode := 0x11 })

/-- RESERVATION_RELEASE (R41). -/
def execReservationRelease (c : IoCmd) (s : State) : Result := .next (s.ioRow { c with opcode := 0x15 })

/-- UNSUPPORTED_OPCODE (R29, R41): an I/O opcode outside Table 2-2 is found out by the engine that runs the command, an
admin opcode by the lockkeeper in the task slot. -/
def execUnsupportedOpcode (qref cid opcode : Nat) (s : State) : Result :=
  let q := s.host.queue.get qref
  if !q.live ∨ (if q.qid = 0 then adminSupported opcode else ioSupported opcode) then .next s
  else if q.qid = 0 then
    .next (s.adminArrive { (default : AdminCmd) with qref := qref, cid := cid, opcode := opcode })
  else .next (s.ioRow { (default : IoCmd) with qref := qref, cid := cid, opcode := opcode })

end Sys2Proof.Machine
end

