-- ==== Sys2Proof/Machine/Caps.lean ====
section
/-! DEFINITION. The capability list (16_manifests.md, R368; 22_register_map.md, R433, R434). -/

namespace Sys2Proof.Machine

/-- A row of Table 22-3: ID and feature words. Every VER is 1. -/
abbrev CapRow := Nat × List Nat

/-- Table 22-3. -/
def capRows : List CapRow :=
  [(0x0001, [32 + 48 * 2 ^ 8 + 16 * 2 ^ 16 + 8 * 2 ^ 24, 4096 + 8192 * 2 ^ 16, 16384 + 1024 * 2 ^ 16]),
   (0x0002, [20 + 16 * 2 ^ 8, 130048]),
   (0x0010, [65536 + 24 * 2 ^ 24, 256 + 16 * 2 ^ 16]),
   (0x0011, [16384 + 8 * 2 ^ 16]),
   (0x0012, [8 + 12 * 2 ^ 4 + 16384 * 2 ^ 16]),
   (0x0013, [16 + 1024 * 2 ^ 16]),
   (0x0014, [4096 + 8 * 2 ^ 16 + 30 * 2 ^ 24]),
   (0x0020, [4096 + 10 * 2 ^ 16]),
   (0x0021, [4096 + 256 * 2 ^ 16]),
   (0x0030, [32 + 30 * 2 ^ 8]),
   (0x0031, [32 + 2 ^ 8 + 0x1F * 2 ^ 16]),
   (0x0032, [32 + 2 ^ 8 + 0x1F * 2 ^ 16]),
   (0x0033, [32 + 2 ^ 8 + 0x1F * 2 ^ 16 + 29 * 2 ^ 24])] ++
  [(0x0034, [17 + 7 * 2 ^ 8 + 4032 * 2 ^ 16]),
   (0x0040, [8192 + 8 * 2 ^ 16 + 3 * 2 ^ 20, 32768]),
   (0x0041, [8192]),
   (0x0050, [2 + 10 * 2 ^ 8 + 30 * 2 ^ 16]),
   (0x0051, [0xA8, 400 + 100 * 2 ^ 16]),
   (0x0060, [48 + 2 ^ 8 + 60 * 2 ^ 16]),
   (0x0061, [2 + 2 ^ 8]),
   (0x0070, [0x1F + 11 * 2 ^ 8]),
   (0x0080, [4096 + 512 * 2 ^ 16]),
   (0x0090, [16384 + 16 * 2 ^ 16 + 64 * 2 ^ 24]),
   (0x00A0, [64 + 2048 * 2 ^ 8 + 768 * 2 ^ 20])]

/-- The words of the list from offset `o` on: word 0, NEXT, the feature words of each entry (R368, R434). -/
def capFrom (o : Nat) : List CapRow → List Nat
  | [] => []
  | (id, w) :: l =>
    let n := w.length + 2
    (id + 2 ^ 16 + n * 2 ^ 24) :: (if l = [] then 0 else o + 4 * n) :: (w ++ capFrom (o + 4 * n) l)

/-- The capability list, from BAR0 offset 0x100. -/
def capWords : List Nat := capFrom 0x100 capRows

end Sys2Proof.Machine
end

