-- ==== Sys2Proof/Machine/ManRows.lean ====
section
/-! DEFINITION. Manifests on sessions, the device, keys, moorings and firmware (16_manifests.md, Table 16-5; 18_resets_moorings.md,
R387, R396). Those on subsystems, namespaces and hosts are in Machine/NsRows.lean. -/

namespace Sys2Proof.Machine

/-- CAP_LIST (0x0101, R368): 312 bytes, one value. -/
def execCapList (h : Hdr) (s : State) : Result :=
  .next (s.manifest .capList h 0x0101 [] fun s => .ok s [capWords.flatMap (beBytes 4)])

/-- Sessions that are open, session 0 of the mailbox left out (R359). -/
def State.openSessions (s : State) : List Nat := s.mft.sessions.keysWhere fun k x => k != 0 && x.isOpen

/-- A session closed (R359). What it last kept goes with it. -/
def State.closeSession (s : State) (k : Nat) : State :=
  s.updMft fun m => { m with sessions := m.sessions.upd k fun x => { x with isOpen := false, kept := none } }

/-- Sessions under a manifest key closed: it was cleared or replaced (R359). -/
def State.closeUnder (s : State) (k : Nat) : State :=
  (s.openSessions.filter fun j => (s.mft.sessions.get j).key == k).foldl State.closeSession s

/-- SESSION_OPEN's effect (R359): at most 64 sessions, 8 of the standby agent. Number and NONCE_D are the device's
choice (log entry 1). -/
def sessionOpenBody (h : Hdr) (keyId : Nat) (nonceH : BitVec 128) (s : State) : MRes :=
  if 8 ≤ keyId then .fail .outOfRange [beBytes 1 keyId]
  else match s.mrd.mkeys.get keyId with
    | none => .fail .noKey [beBytes 1 keyId]
    | some key =>
      if (if s.agent then 8 else 64) ≤ s.openSessions.length then .fail .noResource []
      else
        let open_ := s.openSessions
        let tries := (List.range 65).map fun i => 1 + (s.freeVal + i) % 0xFFFFFFFE
        let n := (tries.find? fun k => !open_.contains k).getD 1
        let s := s.tick
        let nonceD := BitVec.ofNat 128 s.freeVal
        let x : Session := { (default : Session) with
          isOpen := true, key := keyId, chan := h.chan, src := h.src, ks := Config.sessionKey key nonceH nonceD n
          heard := s.now }
        let keep : Tab Session := s.mft.sessions.filter fun e => e.1 == 0 || e.2.isOpen
        let s := s.tick.updMft fun m => { m with sessions := Tab.set keep n x }
        .ok s [beBytes 4 n, beBytes 16 nonceD.toNat]

/-- SESSION_OPEN (0x0102): on a network channel one that names an empty key is discarded (R359). -/
def execSessionOpen (h : Hdr) (keyId : Nat) (nonceH : BitVec 128) (s : State) : Result :=
  if h.chan ≠ .mailbox ∧ (s.mrd.mkeys.get keyId).isNone then .next s
  else .next (s.manifest (.sessionOpen keyId nonceH) h 0x0102 [] (sessionOpenBody h keyId nonceH))

/-- SESSION_CLOSE (0x0103): session 0 is not one that closes. -/
def execSessionClose (h : Hdr) (s : State) : Result :=
  .next (s.manifest .sessionClose h 0x0103 [] fun s =>
    if h.session = 0 then .fail .invalidState [] else .ok (s.closeSession h.session) [])

/-- SESSION_IDLE_EXPIRY (R359): MFT_SESS_CFG.IDLE_S have passed since the session received something. -/
def execSessionIdleExpiry (session : Nat) (s : State) : Result :=
  let x := s.mft.sessions.get session
  if session ≠ 0 ∧ x.isOpen ∧ x.heard + s.fld Fld.MFT_SESS_CFG_IDLE_S * 1000000000 ≤ s.now then .next (s.closeSession session) else .next s

/-- IDENTIFY (0x0104): serial, stepping, MAC base, firmware versions, mooring source (Table 16-5). -/
def execIdentify (h : Hdr) (s : State) : Result :=
  .next (s.manifest .identify h 0x0104 [(.device, 0)] fun s =>
    .ok s [beBytes 8 Config.fusedSerial.toNat, beBytes 1 0xB0, beBytes 6 (Config.fusedMac.toNat * 256),
      beBytes 4 s.fw.running, beBytes 4 (if s.fw.staged then s.fw.version else 0),
      beBytes 1 (s.fld Fld.TWP_MOOR_STAT_SOURCE)])

/-- TIME_SET (0x0105): the timestamp in ns before it (R432). -/
def execTimeSet (h : Hdr) (ms : Nat) (s : State) : Result :=
  .next (s.manifest (.timeSet ms) h 0x0105 [(.device, 0)] fun s =>
    .ok { s with timeBase := (ms * 1000000 : Nat) - (s.now : Int) } [beBytes 8 s.stamp])

/-- WARM_RESTART (0x0106, R392): the receipt, then the restart's drain. -/
def execWarmRestart (h : Hdr) (s : State) : Result :=
  .next (s.manifest .warmRestart h 0x0106 [(.device, 0)] fun s => .ok s.warmRestart [])

/-- Causes of the global fault whose condition persists (R396): engines, wharf and lanes as they stand, and a CTL cell
past the age limit. -/
def State.causesLeft (s : State) : List FaultCause :=
  let stuck := s.cnl.slots.any fun e => e.2.cell.cls == 0 && s.aged e.2.entered e.2.limit
  ([.engines, .wharfUe, .cipher].filter s.causeHolds) ++ if stuck then [.stuck] else []

/-- TWP_FAULT's bits in `mask` cleared: one whose condition persists is set again at once, and DEV_FAULT_N rises with
the last (R396). -/
def State.faultClear (s : State) (mask : Nat) : State :=
  let a := Fld.TWP_FAULT_ACTIVE.addr
  let old := bitsOf (s.reg a).toNat 0 6
  let left := (List.range 6).foldl (fun v i => if old.testBit i ∧ !mask.testBit i then v + 2 ^ i else v) 0
  let s := s.setFld ⟨a, 0, 6⟩ left
  let s := s.setFlag Fld.TWP_FAULT_ACTIVE (left != 0)
  let again := s.causesLeft.filter fun c => old.testBit c.bit && mask.testBit c.bit
  let s := again.foldl State.faultSet s
  if left = 0 ∧ again = [] ∧ old ≠ 0 then s.emit (.pin .devFault false) else s

/-- FAULT_QUERY (0x0107, R396): the causes as a set; with CLEAR they are cleared. -/
def execFaultQuery (h : Hdr) (clear : Bool) (s : State) : Result :=
  .next (s.manifest (.faultQuery clear) h 0x0107 [(.device, 0)] fun s =>
    let v := bitsOf (s.reg Fld.TWP_FAULT_ACTIVE.addr).toNat 0 6
    .ok (if clear then s.faultClear 0x3F else s) [beBytes 1 v])

/-- EVENT_READ's effect (Table 16-5, R364, R366). -/
def eventReadBody (count : Nat) (clear : Bool) (s : State) : MRes :=
  if count = 0 then .zero s []
  else if clear ∧ 24 < count then .fail .invalidParam [beBytes 2 count]
  else
    let l := s.mft.events.take count
    let s := if clear then s.updMft fun m => { m with events := m.events.drop count } else s
    .ok s [l.flatMap fun e => beBytes 32 (Config.eventBytes e.kind e.arg e.time).toNat]

/-- EVENT_READ (0x0108). -/
def execEventRead (h : Hdr) (count : Nat) (clear : Bool) (s : State) : Result :=
  .next (s.manifest (.eventRead count clear) h 0x0108 [(.device, 0)] (eventReadBody count clear))

/-- MANIFEST_KEY_SET (0x0620): the key, and the sessions under it closed (R359). -/
def execManifestKeySet (h : Hdr) (k : Nat) (key : BitVec 256) (s : State) : Result :=
  .next (s.manifest (.manifestKeySet k key) h 0x0620 [(.device, 0)] fun s =>
    if 8 ≤ k then .fail .outOfRange [beBytes 1 k] else .ok ((s.moor (.mkey k (some key))).closeUnder k) [])

/-- MANIFEST_KEY_CLEAR (0x0621, R359, R459). -/
def execManifestKeyClear (h : Hdr) (k : Nat) (s : State) : Result :=
  .next (s.manifest (.manifestKeyClear k) h 0x0621 [(.device, 0)] fun s =>
    if 8 ≤ k then .fail .outOfRange [beBytes 1 k]
    else if (s.mrd.mkeys.get k).isNone then .fail .invalidState [beBytes 1 k]
    else .ok ((s.moor (.mkey k none)).closeUnder k) [])

/-- LANE_MARGIN's effect (Table 16-5): what is measured comes with the command. A lane whose link does not run has no
margin. -/
def laneMarginBody (quad : Bool) (i lane time volt : Nat) (s : State) : MRes :=
  if (if quad then 32 else 48) ≤ i ∨ 4 ≤ lane then .fail .outOfRange [beBytes 1 i]
  else
    let up := if quad then (List.range 4).any fun l => s.flag (Fld.NET_PORT_STAT_LINK i l)
      else s.bay i == Bay.init || s.bay i == Bay.ready || s.bay i == Bay.ladder
    if up then .ok s [beBytes 2 time, beBytes 2 volt] else .fail .invalidState [beBytes 1 i]

/-- LANE_MARGIN (0x0A02). -/
def execLaneMargin (h : Hdr) (quad : Bool) (i lane : Nat) (time volt : Nat) (s : State) : Result :=
  .next (s.manifest (.laneMargin quad i lane time volt) h 0x0A02
    [if quad then (.port, 4 * i + lane) else (.bay, i)] (laneMarginBody quad i lane time volt))

/-- MOOR_QUERY (0x0B01): CKPT_SEQ and CRC state of each slot, and whether the start took factory values (R387). -/
def execMoorQuery (h : Hdr) (s : State) : Result :=
  .next (s.manifest .moorQuery h 0x0B01 [(.device, 0)] fun s =>
    let slot := fun (x : MoorSlot) => beBytes 8 x.seq ++ beBytes 1 x.valid.toNat
    .ok s [slot s.store.slotA, slot s.store.slotB, beBytes 1 (s.fld Fld.TWP_MOOR_STAT_SOURCE / 2)])

/-- UNMOOR's effect (R387): the marker, both slots and the journal zeroed, and a warm restart into factory values. -/
def unmoorBody (confirm : Nat) (s : State) : MRes :=
  if confirm ≠ 0x554E then .fail .invalidParam [beBytes 2 confirm]
  else if s.isActive then .fail .invalidState []
  else .ok (s.updStore fun t =>
    { t with unmoor := true, slotA := default, slotB := default, journal := [], trained := false, wrapKey := none }).warmRestart []

/-- UNMOOR (0x0B02). -/
def execUnmoor (h : Hdr) (confirm : Nat) (s : State) : Result :=
  .next (s.manifest (.unmoor confirm) h 0x0B02 [(.device, 0)] (unmoorBody confirm))

/-- FW_STAGE (0x0C01): a chunk at an offset; an image that was staged no longer is. -/
def execFwStage (h : Hdr) (offset : Nat) (chunk : List Byte) (s : State) : Result :=
  .next (s.manifest (.fwStage offset chunk) h 0x0C01 [(.device, 0)] fun s =>
    if chunk = [] then .zero s []
    else .ok { s with fw := { s.fw with bytes := layBytes s.fw.bytes offset chunk, staged := false } }
      [beBytes 4 chunk.length])

/-- FW_COMMIT (0x0C02): `signatureOk` says that the staged bytes have the SHA-256 given and a good signature. -/
def execFwCommit (h : Hdr) (length : Nat) (sha : BitVec 256) (signatureOk : Bool) (s : State) : Result :=
  .next (s.manifest (.fwCommit length sha signatureOk) h 0x0C02 [(.device, 0)] fun s =>
    if length = 0 then .zero s []
    else if !signatureOk then .fail .invalidParam [beBytes 4 length]
    else .ok { s with fw := { s.fw with staged := true, version := (Config.imageVersion sha).toNat } } [])

/-- FW_ACTIVATE (0x0C03): the staged image runs from a restart now, or from the next takeover. -/
def execFwActivate (h : Hdr) (atTakeover : Bool) (s : State) : Result :=
  .next (s.manifest (.fwActivate atTakeover) h 0x0C03 [(.device, 0)] fun s =>
    if !s.fw.staged then .fail .invalidState []
    else if atTakeover then .ok { s with fw := { s.fw with atTakeover := true } } []
    else .ok (s.updRst fun r => { r with runStaged := true }).warmRestart [])

/-- FW_QUERY (0x0C04): versions and states of both images: running, and none, bytes staged, or verified (log entry 47). -/
def execFwQuery (h : Hdr) (s : State) : Result :=
  .next (s.manifest .fwQuery h 0x0C04 [(.device, 0)] fun s =>
    .ok s [beBytes 4 s.fw.running, beBytes 1 1, beBytes 4 (if s.fw.staged then s.fw.version else 0),
      beBytes 1 (if s.fw.staged then 2 else if s.fw.bytes = [] then 0 else 1)])

/-- What an abandoned manifest had begun is undone (R363): the array it was creating, an address in duplicate
detection, a power-state request. -/
def State.undo (s : State) (r : Running) : State :=
  if r.opcode = 0x0301 then
    r.objs.foldl (fun s o => if o.1 = .array ∧ (s.mrd.arr.get o.2).state = .creating then
      { s with mrd := { s.mrd with arr := s.mrd.arr.set o.2 default }, ary := s.ary.set o.2 default } else s) s
  else if r.opcode = 0x0203 then
    s.updNet fun n => { n with dad := n.dad.filter fun d => d.2.ports.map (fun p => (ObjKind.port, p)) != r.objs }
  else if r.opcode = 0x0701 then
    let o : PwrOrigin := .manifest r.hdr
    let s := s.updPwr fun p => { p with waiting := p.waiting.filter fun w => w.2 != o }
    if s.pwr.origin = some o ∧ (s.pwr.stage = .freeze ∨ s.pwr.stage = .shutdown) then
      let s := (List.range 48).foldl (fun s b =>
        if (s.bport b).shutdown then (s.portOff b).updPort b fun p => { p with perstDue := true } else s) s
      (s.setCur s.cur).updPwr fun p => { p with stage := .none, origin := none }
    else s
  else s

/-- MANIFEST_TIMEOUT (R363, R336): the class bound has passed. A manifest before its commit point is abandoned; a relay
whose inner receipt has not come ends with NOT_AVAILABLE. -/
def execManifestTimeout (h : Hdr) (s : State) : Result :=
  match s.findRunning fun r => decide (r.hdr = h) with
  | none => .next s
  | some r =>
    if r.opcode = 0x0807 then
      let s := s.updPeer fun p => { p with relayFor := none, relayGot := [], relayTotal := 0 }
      let s := if s.pair.window.any (·.kind == 2) then s.nextWindow else s
      .next (s.finish r .notAvailable [])
    else if r.opcode = 0x0805 then
      .next ((s.updPeer fun p => { p with healthFor := none }).finish r .timeout [])
    else if r.committed then .next s
    else .next ((s.undo r).finish r .timeout []).takeUp

end Sys2Proof.Machine
end

