-- ==== Sys2Proof/Machine/Notices.lean ====
section
/-! DEFINITION. Manifests on ports, addresses and drive timers whose changes hosts are told of (R39, R62): PORT_SET, ADDR_SET,
ADDR_DELETE, DRV_CFG_SET (11_network_ports.md, R256 to R258; 12_drive_ports.md, R289). -/

namespace Sys2Proof.Machine

/-- The effect of a manifest, followed by `f` where it succeeded. -/
def MRes.then (r : MRes) (f : State → State) : MRes :=
  match r with
  | .ok s ps => .ok (f s) ps
  | r => r

/-- PORT_SET (0x0202, R258, R62). -/
def execPortSet (h : Hdr) (port : Nat) (cfg pfc eee : Option Word32) (thr wake : List (Nat × Word32)) (s : State) :
    Result :=
  .next (s.manifest (.portSet port cfg pfc eee thr wake) h 0x0202 [(.port, port)] fun s =>
    (portSetBody port cfg pfc eee thr wake s).then fun t => t.latencyNote s)

/-- DRV_CFG_SET (0x0704, R289, R62). -/
def execDrvCfgSet (h : Hdr) (cfg tmo : Option Word32) (idle : List (Nat × Word32)) (s : State) : Result :=
  .next (s.manifest (.drvCfgSet cfg tmo idle) h 0x0704 [(.device, 0)] fun s =>
    (drvCfgSetBody cfg tmo idle s).then fun t => t.latencyNote s)

/-- Ports of a manifest that the quads' modes lack (R251). -/
def State.absent (s : State) (ports : List Nat) : Bool := ports.any fun p => decide (p < 128) && !s.portHere p

/-- An address entry written: the address announced on its ports that are up (R256, R257). -/
def State.putAddr (s : State) (entry : Nat) (a : AddrParams) : State :=
  let s0 := s
  let s := s.moor (.addr entry (some a))
  let up := fun (p : Nat) => p == 128 || s.flag (Fld.NET_PORT_STAT_LINK (quadOf p) (laneOf p))
  ((a.ports.filter up).foldl (fun s p => s.sendNet p a.vlan (.announce a.v6 a.addr)) s).discoveryNote s0

/-- ADDR_SET's effect (R256, R257, R269): a new IPv6 address first runs duplicate detection, and the receipt waits for
it. -/
def addrSetBody (entry : Nat) (a : AddrParams) (s : State) : MRes :=
  if 1024 ≤ entry ∨ (a.ports.any fun p => decide (128 < p)) then .fail .outOfRange [beBytes 2 entry]
  else if s.absent a.ports then .fail .invalidState []
  else if (if a.v6 then 128 else 32) < a.len ∨ a.vlan.any (fun v => decide (4094 < v)) then .fail .invalidParam []
  else if a.ports = [] then .zero s []
  else if a.ports.any fun p => decide ((if p = 128 then 1 else 16) ≤ s.portEntries p entry) then .fail .noResource []
  else
    let old := s.mrd.addr.get entry
    let s := s.updNet fun n => { n with dad := n.dad.filter fun d => d.1 != entry }
    if a.v6 ∧ old.all (fun o => !(o.v6 && o.addr == a.addr)) then
      let s := s.updNet fun n => { n with dad := n.dad ++ [(entry, a)] }
      .later (a.ports.foldl (fun s p => s.sendNet p a.vlan (.dad a.addr)) s) false
    else .ok (s.putAddr entry a) []

/-- ADDR_SET (0x0203). -/
def execAddrSet (h : Hdr) (entry : Nat) (a : AddrParams) (s : State) : Result :=
  .next (s.manifest (.addrSet entry a) h 0x0203 (a.ports.map fun p => (.port, p)) (addrSetBody entry a))

/-- DAD_COMPLETE (R257): the address is live, or it is not used and the receipt reports DUPLICATE. -/
def execDadComplete (entry : Fin 1024) (duplicate : Bool) (s : State) : Result :=
  match s.net.dad.find? fun d => d.1 == entry.val with
  | none => .next s
  | some (_, a) =>
    let s := s.updNet fun n => { n with dad := n.dad.filter fun d => d.1 != entry.val }
    let wait := s.findRunning fun r => r.opcode == 0x0203 && decide (r.objs = a.ports.map fun p => (.port, p))
    let s := if duplicate then s else s.putAddr entry a
    .next (wait.elim s fun r => s.finish r (if duplicate then .duplicate else .success) [])

/-- ADDR_DELETE's effect (R256, R459). -/
def addrDeleteBody (entry : Nat) (s : State) : MRes :=
  if 1024 ≤ entry then .fail .outOfRange [beBytes 2 entry]
  else if (s.mrd.addr.get entry).isNone then .fail .invalidState [beBytes 2 entry]
  else .ok ((s.moor (.addr entry none)).discoveryNote s) []

/-- ADDR_DELETE (0x0204). -/
def execAddrDelete (h : Hdr) (entry : Nat) (s : State) : Result :=
  .next (s.manifest (.addrDelete entry) h 0x0204 [] (addrDeleteBody entry))

end Sys2Proof.Machine
end

