-- ==== Sys2Proof/Machine/NsRows.lean ====
section
/-! DEFINITION. Manifests on subsystems, namespaces and hosts (16_manifests.md, Table 16-5 and R459; 02_host_face.md, R35, R38,
R53, R56, R462). -/

namespace Sys2Proof.Machine

/-- SUBSYS_SET's effect (R35, R459). -/
def subsysSetBody (i nqn : Nat) (s : State) : MRes :=
  if 1024 ≤ i then .fail .outOfRange [beBytes 2 i]
  else if nqn = 0 then .fail .invalidParam [beBytes 2 i]
  else match s.mrd.subsys.find? fun e => e.1 != i && e.2.present && e.2.nqn == nqn with
    | some e => .fail .duplicate [beBytes 2 e.1]
    | none => .ok ((s.moor (.subsys i ⟨true, nqn⟩)).discoveryNote s) []

/-- SUBSYS_SET (0x0401). -/
def execSubsysSet (h : Hdr) (i : Nat) (nqn : Nat) (s : State) : Result :=
  .next (s.manifest (.subsysSet i nqn) h 0x0401 [(.device, 0)] (subsysSetBody i nqn))

/-- SUBSYS_DELETE's effect (R459): IN_USE while it holds namespaces. -/
def subsysDeleteBody (i : Nat) (s : State) : MRes :=
  if 1024 ≤ i then .fail .outOfRange [beBytes 2 i]
  else if !(s.mrd.subsys.get i).present then .fail .invalidState [beBytes 2 i]
  else if s.mrd.ns.any fun e => e.2.present && e.2.subsys == i then .fail .inUse [beBytes 2 i]
  else .ok ((s.moor (.subsys i default)).discoveryNote s) []

/-- SUBSYS_DELETE (0x0402). -/
def execSubsysDelete (h : Hdr) (i : Nat) (s : State) : Result :=
  .next (s.manifest (.subsysDelete i) h 0x0402 [(.device, 0)] (subsysDeleteBody i))

/-- The check of R459 for an opcode that acts on a namespace: a number of R35, and there. -/
def State.onNs (s : State) (nsid : Nat) (k : Namespace → MRes) : MRes :=
  let n := s.mrd.ns.get nsid
  if nsid = 0 ∨ 16384 < nsid then .fail .outOfRange [beBytes 4 nsid]
  else if n.present then k n else .fail .invalidState [beBytes 4 nsid]

/-- Extents of array `a` that no namespace holds, and none whose planned commands still run (R152, R462). -/
def State.freeExtents (s : State) (a : Nat) : List Nat :=
  let used := (s.mrd.ns.flatMap fun e => if e.2.present ∧ e.2.array = a then e.2.ext else []) ++
    s.host.dying.flatMap fun d => if d.ns.array = a then d.ns.ext else []
  (List.range ((s.mrd.arr.get a).stripes / 256)).filter fun x => !used.contains x

/-- LBA formats of Table 2-7 whose conditions hold for an array. -/
def State.lbafsOf (s : State) (a : Nat) : List Nat :=
  if (s.mrd.arr.get a).meta64 then [0, 1, 2, 3] else [0, 1]

/-- CipherMode by its number. -/
def cipherOf (mode : Nat) : CipherMode := if mode = 1 then .xts else if mode = 2 then .sealed else .none

/-- NS_CREATE's effect (R152, R216, R459, Table 2-7, Table 21-2): `size` counts 4 KiB blocks, and the namespace starts in
the lowest format it offers. Which free extents are taken is the device's choice (log entry 1). -/
def nsCreateBody (nsid subsys array size : Nat) (lbafs piTypes : List Nat) (mode slot : Nat) (ledgered : Bool)
    (s : State) : MRes :=
  let arr := s.mrd.arr.get array
  let offered := (s.lbafsOf array).filter fun f => lbafs.contains f
  if nsid = 0 ∨ 16384 < nsid then .fail .outOfRange [beBytes 4 nsid]
  else if (s.mrd.ns.get nsid).present then .fail .duplicate [beBytes 4 nsid]
  else if 1024 ≤ subsys then .fail .outOfRange [beBytes 2 subsys]
  else if !(s.mrd.subsys.get subsys).present then .fail .invalidState [beBytes 2 subsys]
  else s.onArray array fun s =>
    if arr.state = .creating ∨ arr.state = .offline ∨ arr.state = .salvaged then .fail .invalidState [beBytes 1 array]
    else if mode ≠ 0 ∧ 4096 ≤ slot then .fail .outOfRange [beBytes 2 slot]
    else if 2 < mode ∨ (mode = 2 ∧ !arr.meta64) then .fail .invalidParam [beBytes 1 mode]
    else if piTypes.any (fun t => t != 1 && t != 3) ∨ lbafs.any (fun f => decide (4 ≤ f)) then
      .fail .invalidParam [beBytes 4 nsid]
    else if size = 0 ∨ lbafs = [] then .zero s []
    else match offered with
      | [] => .fail .invalidParam [beBytes 4 nsid]
      | f :: _ =>
        let l := s.freeExtents array
        let need := ceilDiv size arr.e
        if l.length < need then .fail .noResource [beBytes 8 size]
        else
          let at_ := s.freeVal % l.length
          let ext := (l.drop at_ ++ l.take at_).take need
          let n : Namespace := { (default : Namespace) with
            present := true, subsys := subsys, array := array, size := if f = 1 ∨ f = 3 then 8 * size else size
            lbafs := offered, lbaf := f, piTypes := piTypes, cipher := cipherOf mode, keySlot := slot
            ledgered := ledgered, ext := ext }
          .ok (s.tick.moor (.ns nsid n)) [ext.flatMap (beBytes 4)]

/-- NS_CREATE (0x0403). -/
def execNsCreate (h : Hdr) (nsid subsys array size : Nat) (lbafs piTypes : List Nat) (mode : Nat) (slot : Nat)
    (ledgered : Bool) (s : State) : Result :=
  .next (s.manifest (.nsCreate nsid subsys array size lbafs piTypes mode slot ledgered) h 0x0403
    [(.nspace, nsid), (.array, array)] (nsCreateBody nsid subsys array size lbafs piTypes mode slot ledgered))

/-- NS_DELETE's effect (R462, R53): the namespace is gone at the commit point, with its hosts' marks; its entries make
no block fail any more; its space follows its last planned command. -/
def nsDeleteBody (nsid : Nat) (s : State) : MRes :=
  s.onNs nsid fun n =>
    let s := s.updHost fun f => { f with
      dying := f.dying ++ [⟨nsid, n⟩]
      log := f.log.mapAll fun _ e => { e with marks := e.marks.erase nsid }
      lostBlks := f.lostBlks.filter fun e => e.2.2 != nsid }
    let s := (s.keepDefer.moor (.ns nsid default)).nsChanged nsid n.hosts
    .ok s.settleDying []

/-- NS_DELETE (0x0404): the receipt is sent at the commit point. -/
def execNsDelete (h : Hdr) (nsid : Nat) (s : State) : Result :=
  .next (s.manifest (.nsDelete nsid) h 0x0404 [(.nspace, nsid)] (nsDeleteBody nsid))

/-- NS_ATTACH's effect (R35, R459). -/
def nsAttachBody (nsid : Nat) (hosts : List Nat) (attach : Bool) (s : State) : MRes :=
  s.onNs nsid fun n =>
    match hosts.find? fun k => !(s.mrd.hosts.get k).present with
    | some k => if 4096 ≤ k then .fail .outOfRange [beBytes 2 k] else .fail .invalidState [beBytes 2 k]
    | none =>
      if hosts = [] then .zero s []
      else
        let fresh := hosts.filter fun k => n.hosts.contains k != attach
        let l := if attach then n.hosts ++ fresh else n.hosts.filter fun k => !fresh.contains k
        .ok ((s.moor (.ns nsid { n with hosts := l })).nsChanged nsid fresh) []

/-- NS_ATTACH (0x0405). -/
def execNsAttach (h : Hdr) (nsid : Nat) (hosts : List Nat) (attach : Bool) (s : State) : Result :=
  .next (s.manifest (.nsAttach nsid hosts attach) h 0x0405
    ((.nspace, nsid) :: hosts.map fun k => (.host, k)) (nsAttachBody nsid hosts attach))

/-- A prefix as the host table takes it. -/
def prefixOk (p : Prefix) : Bool :=
  decide (p.len ≤ if p.v6 then 128 else 32) && p.vlan.all fun v => decide (v ≤ 4094)

/-- HOST_SET's effect (R36, R38, R61, R78, R81, R238, R459): the entry is created or replaced, its secrets stay. -/
def hostSetBody (i : Nat) (e : HostParams) (s : State) : MRes :=
  if 4096 ≤ i then .fail .outOfRange [beBytes 2 i]
  else if e.reach.any (fun r => decide (1024 ≤ r)) ∨ e.sprayPorts.any (fun p => decide (128 ≤ p)) ∨
      e.meter.any (fun m => decide (8191 < m + (if e.meterPerClass then 7 else 0))) then .fail .outOfRange [beBytes 2 i]
  else if s.absent e.sprayPorts then .fail .invalidState [beBytes 2 i]
  else if e.nqn = 0 ∨ 8 < e.addrs.length ∨ !e.addrs.all prefixOk ∨ 3 < e.defPs ∨ e.maxAssoc = 0 ∨ 8192 < e.maxAssoc ∨
      64 < e.stairs then .fail .invalidParam [beBytes 2 i]
  else match s.mrd.hosts.find? fun x => x.1 != i && x.2.present && x.2.p.nqn == e.nqn with
    | some x => .fail .duplicate [beBytes 2 x.1]
    | none => .ok ((s.moor (.host i { s.mrd.hosts.get i with present := true, p := e })).discoveryNote s) []

/-- HOST_SET (0x0406). -/
def execHostSet (h : Hdr) (i : Nat) (e : HostParams) (s : State) : Result :=
  .next (s.manifest (.hostSet i e) h 0x0406 [(.host, i)] (hostSetBody i e))

/-- The check of R459 for an opcode that acts on a host. -/
def State.onHost (s : State) (i : Nat) (k : HostEntry → MRes) : MRes :=
  let e := s.mrd.hosts.get i
  if 4096 ≤ i then .fail .outOfRange [beBytes 2 i]
  else if e.present then k e else .fail .invalidState [beBytes 2 i]

/-- HOST_DELETE's effect (R53, R91): associations torn down; marks, and the host in every deferred entry and namespace,
removed; GENERATION and LOST 0. -/
def hostDeleteBody (i : Nat) (s : State) : MRes :=
  s.onHost i fun _ =>
    let s := (s.host.assoc.keysWhere fun _ a => a.live && a.host == i).foldl State.tearDown s
    let s := s.updHost fun f => { f with
      log := f.log.set i default
      deferred := (f.deferred.map fun d => { d with hosts := d.hosts.erase i, claimed := d.claimed.erase i }).filter
        fun d => !d.hosts.isEmpty }
    let s := s.keepDefer
    let s := (s.mrd.ns.keysWhere fun _ n => n.present && n.hosts.contains i).foldl (fun s k =>
      let n := s.mrd.ns.get k
      s.moor (.ns k { n with hosts := n.hosts.erase i })) s
    .ok ((s.moor (.host i default)).discoveryNote s) []

/-- HOST_DELETE (0x0407). -/
def execHostDelete (h : Hdr) (i : Nat) (s : State) : Result :=
  .next (s.manifest (.hostDelete i) h 0x0407 [(.host, i)] (hostDeleteBody i))

/-- A set of numbers as a bitmap of `n` bytes (R357). -/
def bitmapBytes (n : Nat) (l : List Nat) : List Byte :=
  beBytes n (l.foldl (fun v i => if v.testBit i then v else v + 2 ^ i) 0)

/-- NS_QUERY's effect: attributes, extents, attached hosts (Table 16-5; the attributes' layout is log entry 47). -/
def nsQueryBody (nsid : Nat) (s : State) : MRes :=
  s.onNs nsid fun n =>
    let c := match n.cipher with
      | .none => 0
      | .xts => 1
      | .sealed => 2
    .ok s [beBytes 2 n.subsys ++ beBytes 1 n.array ++ beBytes 8 n.size ++ bitmapBytes 1 n.lbafs ++ beBytes 1 n.lbaf ++
        bitmapBytes 1 n.piTypes ++ beBytes 1 n.pi ++ beBytes 1 c ++ beBytes 2 n.keySlot ++ beBytes 1 n.ledgered.toNat ++
        beBytes 1 n.writeProtect.toNat,
      n.ext.flatMap (beBytes 4), bitmapBytes 512 n.hosts]

/-- NS_QUERY (0x0408). -/
def execNsQuery (h : Hdr) (nsid : Nat) (s : State) : Result :=
  .next (s.manifest (.nsQuery nsid) h 0x0408 [(.nspace, nsid)] (nsQueryBody nsid))

/-- AUTH_SECRET_SET's effect (R40): hash 1 is SHA-256, 2 SHA-384, 3 SHA-512. -/
def authSecretSetBody (i hostSecret ctrlSecret hash : Nat) (s : State) : MRes :=
  s.onHost i fun e =>
    if hash = 0 ∨ 3 < hash then .fail .invalidParam [beBytes 1 hash]
    else .ok (s.moor (.host i { e with hostSecret := hostSecret, ctrlSecret := ctrlSecret, hash := hash })) []

/-- AUTH_SECRET_SET (0x0610). -/
def execAuthSecretSet (h : Hdr) (i : Nat) (hostSecret ctrlSecret hash : Nat) (s : State) : Result :=
  .next (s.manifest (.authSecretSet i hostSecret ctrlSecret hash) h 0x0610 [(.host, i)]
    (authSecretSetBody i hostSecret ctrlSecret hash))

/-- AUTH_SECRET_CLEAR (0x0611, R40). -/
def execAuthSecretClear (h : Hdr) (i : Nat) (s : State) : Result :=
  .next (s.manifest (.authSecretClear i) h 0x0611 [(.host, i)] fun s =>
    s.onHost i fun e => .ok (s.moor (.host i { e with hostSecret := 0, ctrlSecret := 0, hash := 0 })) [])

end Sys2Proof.Machine
end

