-- ==== Sys2Proof/Machine/Tally.lean ====
section
/-! DEFINITION. The tally (19_tally.md): selectors, modes, clearing, dumps and the BAR5 page. -/

namespace Sys2Proof.Machine

/-- A selector of Table 19-1: whether it is an occupancy, and which instances it has. -/
def tallySource (code : Nat) : Option (Bool × (Nat → Bool)) :=
  let below := fun (n : Nat) (i : Nat) => decide (i < n)
  let engine := fun (i : Nat) => decide (i < 0x110) || i == 0x1FF
  let nspace := fun (i : Nat) => decide (1 ≤ i ∧ i ≤ 16384)
  if code ≤ 0x001 then some (false, below 1)
  else if 0x010 ≤ code ∧ code ≤ 0x028 then some (false, below 129)
  else if code = 0x030 then some (true, below 129)
  else if 0x040 ≤ code ∧ code ≤ 0x048 then some (false, below 8)
  else if code = 0x050 ∨ code = 0x051 then some (true, below 8)
  else if 0x060 ≤ code ∧ code ≤ 0x067 then some (false, engine)
  else if code = 0x068 then some (false, fun i => i == 0x1FF)
  else if code = 0x070 ∨ code = 0x071 then some (true, engine)
  else if code = 0x072 then some (true, below 17)
  else if 0x080 ≤ code ∧ code ≤ 0x085 then some (false, below 100)
  else if code = 0x086 ∨ code = 0x087 then some (false, below 8)
  else if code = 0x088 then some (false, below 1)
  else if code = 0x090 then some (true, below 8)
  else if code = 0x091 then some (true, below 100)
  else if code = 0x092 ∨ code = 0x093 then some (true, below 1)
  else if code = 0x0A0 ∨ code = 0x0A1 then some (false, below 16)
  else if code = 0x0A8 then some (true, below 16)
  else if 0x0B0 ≤ code ∧ code ≤ 0x0B3 then some (false, below 8)
  else if 0x0C0 ≤ code ∧ code ≤ 0x0C2 then some (false, below 10)
  else if code = 0x0C8 then some (true, below 10)
  else if 0x0D0 ≤ code ∧ code ≤ 0x0D6 then some (false, below 8192)
  else if code = 0x0D8 then some (true, below 8192)
  else if code = 0x0DA then some (true, below 1152)
  else if code = 0x0DC then some (true, below 32768)
  else if code = 0x0DD then some (false, below 32768)
  else if 0x0E0 ≤ code ∧ code ≤ 0x0E5 then some (false, below 16)
  else if code = 0x0E8 then some (true, below 17)
  else if 0x100 ≤ code ∧ code ≤ 0x107 then some (false, below 48)
  else if code = 0x108 then some (true, below 48)
  else if 0x110 ≤ code ∧ code ≤ 0x113 then some (false, nspace)
  else if code = 0x118 then some (true, nspace)
  else if code = 0x120 ∨ code = 0x121 then some (false, below 64)
  else if code = 0x122 then some (false, below 1)
  else if code = 0x130 then some (false, below 5)
  else if code = 0x131 then some (false, below 11)
  else if code = 0x132 ∨ code = 0x133 then some (false, fun i => decide (1 ≤ i ∧ i ≤ 4))
  else none

/-- A selector that is stored (R399): its code and instance exist, and its mode suits its kind; mode 3 is EVENT. -/
def selectorOk (v : Word32) : Bool :=
  let mode := bitsOf v.toNat 24 2
  match tallySource (bitsOf v.toNat 0 9) with
  | none => false
  | some (occ, inst) => inst (bitsOf v.toNat 9 15) && (if occ then mode == 1 else mode != 1)

/-- A counter and its accumulator at 0. -/
def State.clearCnt (s : State) (n : Nat) : State :=
  s.updTal fun t => { t with cnt := t.cnt.set n 0, acc := t.acc.set n 0 }

/-- A write of TAL_SEL[n] (R399, R400). -/
def State.selWrite (s : State) (n : Nat) (v : Word32) : State :=
  if selectorOk v then
    let v := if bitsOf v.toNat 24 2 = 3 then BitVec.ofNat 32 (setBits v.toNat 24 2 0) else v
    ((s.cfgWrite (Reg.TAL_SEL n) v).clearCnt n).updTal fun t => { t with armed := t.armed.set n false }
  else (s.raise (Fld.TAL_SEL_ERR n)).raise Fld.TAL_STATUS_SEL_ERR

/-- A write of TAL_THR[n] (R401, R402): a WINDOW counter restarts its accumulation at the next boundary. -/
def State.thrWrite (s : State) (n : Nat) (v : Word32) : State :=
  if s.fld (Fld.TAL_SEL_MODE n) = 2 then
    let s := s.cfgWrite (Reg.TAL_THR n) (BitVec.ofNat 32 (min v.toNat 10000000))
    s.updTal fun t => { t with acc := t.acc.set n 0, armed := t.armed.set n false }
  else s.cfgWrite (Reg.TAL_THR n) v

/-- TAL_SEL_WRITE (R400). -/
def execTalSelWrite (n : Fin 4096) (v : Word32) (s : State) : Result := .next (s.selWrite n v)

/-- TAL_THR_WRITE (R402). -/
def execTalThrWrite (n : Fin 4096) (v : Word32) (s : State) : Result := .next (s.thrWrite n v)

/-- TAL_CLR_GO (R404). -/
def execTalClrGo (index : Nat) (all : Bool) (s : State) : Result :=
  let s := (s.setFld Fld.TAL_CLR_INDEX index).setFlag Fld.TAL_CLR_ALL all
  .next (if all then s.updTal fun t => { t with cnt := [], acc := [] } else s.clearCnt (index % 4096))

/-- TALLY_WINDOW_END (R401): a window of counter n ends, as they do at every multiple of VALUE µs since power-on. -/
def execTallyWindowEnd (n : Fin 4096) (s : State) : Result :=
  if s.fld (Fld.TAL_SEL_MODE n) = 2 ∧ s.flag (Fld.TAL_SEL_EN n) ∧ s.fld (Fld.TAL_THR_VALUE n) ≠ 0 ∧
      s.now % (s.fld (Fld.TAL_THR_VALUE n) * 1000) = 0 then
    .next (s.updTal fun t =>
      if t.armed.get n then { t with cnt := t.cnt.set n (t.acc.get n), acc := t.acc.set n 0 }
      else { t with armed := t.armed.set n true, acc := t.acc.set n 0 })
  else .next s

/-- An occupancy of Table 19-1 as it stands. Requests queued at a reservoir channel and packets held for credits are not
modelled (log entry 45). -/
def State.level (s : State) (code i : Nat) : Nat :=
  let engines := if i < 256 then [i] else if i < 272 then (List.range 16).map (16 * (i - 256) + ·) else List.range 256
  let pools := if i < 16 then [i] else List.range 16
  let atts := fun (k : Nat) => queueAtt k == i
  match code with
  | 0x030 => ((List.range 8).map (s.occUnits i)).sum
  | 0x050 => (s.tug.qp.map fun e => if e.1 < 65536 ∧ qpGroup e.1 = i ∧ e.2.spray then e.2.above.length else 0).sum
  | 0x070 => (engines.map fun e => (s.eng e).tow.length).sum
  | 0x071 => (engines.map s.inflight).sum
  | 0x072 => (pools.map s.poolUsed).sum
  | 0x090 => if i < 7 then s.cnl.held i else ((List.range 7).map s.cnl.held).sum
  | 0x091 => (s.cnl.queues.map fun e => if atts e.1 then e.2.length else 0).sum
  | 0x092 => ceilDiv s.cnl.spilled 4096
  | 0x093 => (s.cnl.ctx.keysWhere fun _ c => c.isOpen).length
  | 0x0C8 => (s.cip.lane.get i).occupied
  | 0x0D8 => ((s.slc.meter.get i).c.at (s.fld (Fld.SLC_MTR_CIR_RATE i)) s.now).used / 8000
  | 0x0DA =>
    if i < 1024 then ((s.slc.cmax.get i).at (s.fld (Fld.SLC_CMAX_RATE_RATE i)) s.now).used / 8000
    else ((s.slc.port.get (i - 1024)).at (s.fld (Fld.SLC_PORT_TB_RATE_RATE (i - 1024))) s.now).used / 8000
  | 0x0DC => ((s.slc.nsb.get i).at (s.nsbParams i).1 s.now).used / (if i % 2 = 0 then 1000000000 else 1000)
  | 0x0E8 => ((if i < 16 then [i] else List.range 16).map fun a =>
      ((s.ary.get a).gather.map fun g => g.2.slots.length + g.2.running.length).sum).sum
  | 0x108 => s.outstanding i
  | 0x118 => (s.berths fun b => b.state != .free && b.cmd.nsid == i).length
  | _ => 0

/-- THRESHOLD counters over `n` canal cycles in which the occupancies stand as they are (R401). -/
def State.tallyCycles (s : State) (n : Nat) : State :=
  (s.regs.filterMap fun e =>
    let v := e.2.toNat
    if 0x610000 ≤ e.1 ∧ e.1 < 0x618000 ∧ e.1 % 8 = 0 ∧ bitsOf v 24 2 = 1 ∧ v.testBit 31 then
      some ((e.1 - 0x610000) / 8, bitsOf v 0 9, bitsOf v 9 15) else none).foldl (fun s w =>
    if s.fld (Fld.TAL_THR_VALUE w.1) < s.level w.2.1 w.2.2 then
      s.updTal fun t => { t with cnt := t.cnt.set w.1 ((t.cnt.get w.1 + n) % 2 ^ 64) }
    else s) s

/-- TALLY_SELECT (R399): INVALID_PARAM where a register write would be refused. -/
def execTallySelect (h : Hdr) (n : Nat) (sel thr : Word32) (s : State) : Result :=
  .next (s.manifest (.tallySelect n sel thr) h 0x0901 [(.device, 0)] fun s =>
    if 4096 ≤ n then .fail .outOfRange [beBytes 2 n]
    else if !selectorOk sel then .fail .invalidParam [beBytes 4 sel.toNat]
    else .ok ((s.selWrite n sel).thrWrite n thr) [])

/-- The counters of a list captured in one cycle: its TIME, their values (R403). -/
def State.latchTally (s : State) (l : List Nat) : State × List Nat :=
  (s.updTal fun t => { t with time := s.stamp }, l.map fun n => s.tal.cnt.get n)

/-- TALLY_READ (R403). -/
def execTallyRead (h : Hdr) (set : List Nat) (s : State) : Result :=
  .next (s.manifest (.tallyRead set) h 0x0903 [(.device, 0)] fun s =>
    let l := (List.range 4096).filter fun n => set.contains n
    match set.find? fun n => decide (4096 ≤ n) with
    | some n => .fail .outOfRange [beBytes 2 n]
    | none =>
      if l = [] then .zero s []
      else if s.maxPlen h.chan h.port h.src < 4 + 8 * l.length then .fail .invalidSize []
      else
        let r := s.latchTally l
        .ok r.1 [r.2.flatMap (beBytes 8)])

/-- TALLY_USER (R377). -/
def execTallyUser (h : Hdr) (en : Bool) (s : State) : Result :=
  .next (s.manifest (.tallyUser en) h 0x0904 [(.device, 0)] fun s =>
    .ok (s.cfgFld Fld.TAL_USER_EN_EN en.toNat) [])

/-- The counters that TAL_DUMP_SET names, ascending. -/
def State.dumpSet (s : State) : List Nat := (List.range 128).flatMap fun w =>
  let v := s.fld (Fld.TAL_DUMP_SET_BITS w)
  if v = 0 then [] else (bitSet 32 v).map (32 * w + ·)

/-- TALLY_DUMP_SET (R411). -/
def execTallyDumpSet (h : Hdr) (set : List Nat) (period target slots : Nat) (s : State) : Result :=
  .next (s.manifest (.tallyDumpSet set period target slots) h 0x0902 [(.device, 0)] fun s =>
    match set.find? fun n => decide (4096 ≤ n) with
    | some n => .fail .outOfRange [beBytes 2 n]
    | none =>
      if 2 ≤ target then .fail .invalidParam [beBytes 1 target]
      else
        let word := fun (w : Nat) => (List.range 32).foldl (fun v j => if set.contains (32 * w + j) then v + 2 ^ j else v) 0
        let s := (List.range 128).foldl (fun s w => s.setFld (Fld.TAL_DUMP_SET_BITS w) (word w)) s
        let s := (s.cfgFld Fld.TAL_DUMP_PERIOD_MS period).cfgFld Fld.TAL_DUMP_SLOTS_SLOTS slots
        let s := s.cfgFld Fld.TAL_DUMP_CFG_TARGET target
        if set = [] ∨ period = 0 ∨ slots = 0 then .zero s [] else .ok s [])

/-- A tick that writes no record (R410). -/
def State.dumpLost (s : State) : State :=
  (s.count Fld.TAL_DUMP_STAT_LOST 1).updTal fun t => { t with lostNext := min (2 ^ 32 - 1) (t.lostNext + 1) }

/-- A dump record (Table 19-3), little-endian. -/
def dumpRecord (flags time period lost seq : Nat) (vals : List Nat) : List Byte :=
  leBytes 2 0x5444 ++ [1, BitVec.ofNat 8 flags] ++ leBytes 2 vals.length ++ leBytes 2 0 ++ leBytes 8 time ++
    leBytes 4 period ++ leBytes 4 lost ++ List.replicate 32 0 ++ leBytes 8 seq ++ vals.flatMap (leBytes 8) ++
    List.replicate ((8 - vals.length % 8) % 8 * 8) 0

/-- The device's dump writes reach their ring: the reservoir, or a host that takes posted writes (R376, R410). -/
def State.dumpLands (s : State) (target : Nat) : Bool :=
  target == 1 || (s.flag Fld.EPT_STATUS_BME && s.flag Fld.EPT_STATUS_LINK)

/-- DUMP_TICK (R408 to R411): SEQ advances, the set is latched and its record is on its way. The timer stops in P3 and
P4 (R406). -/
def execDumpTick (s : State) : Result :=
  if !s.flag Fld.TAL_DUMP_CFG_EN ∨ 3 ≤ s.cur ∨ s.rst.phase ≠ .serving then .next s
  else
    let seq := s.tal.seq + 1
    let s := (s.setFld Fld.TAL_DUMP_SEQ_LO_SEQ (seq % 2 ^ 32)).setFld Fld.TAL_DUMP_SEQ_HI_SEQ (seq / 2 ^ 32)
    let base := s.fld Fld.TAL_DUMP_BASE_HI_ADDR * 2 ^ 32 + s.fld Fld.TAL_DUMP_BASE_LO_ADDR * 64
    let slots := s.fld Fld.TAL_DUMP_SLOTS_SLOTS
    let set := s.dumpSet
    let t := s.tal
    let first : Bool := t.first || t.s0 == 0 || t.base != base || t.slots != slots || t.set != set
    let s := s.updTal fun t => { t with seq := seq, first := first, base := base, slots := slots, set := set }
    if set = [] then .next (s.raise Fld.TAL_DUMP_STAT_ZERO)
    else
      let r := s.latchTally set
      let s := r.1
      if t.busy ∨ !s.dumpLands (s.fld Fld.TAL_DUMP_CFG_TARGET) then .next s.dumpLost
      else
        let s0 := if first then seq else t.s0
        let size := 64 + 64 * ceilDiv set.length 8
        let flags := first.toNat + 2 * t.resumed.toNat
        let bytes := dumpRecord flags s.stamp (s.fld Fld.TAL_DUMP_PERIOD_MS) t.lostNext seq r.2
        let s := s.updTal fun t => { t with busy := true, at_ := base + (seq - s0) % slots * size, rec_ := bytes
                                            s0 := s0, first := false, resumed := false, carries := (flags, t.lostNext)
                                            cfg := s.reg Reg.TAL_DUMP_CFG }
        .next (s.raise Fld.TAL_STATUS_DUMP_BUSY)

/-- The record under way is not written: what it said of FIRST and RESUMED the next one says. -/
def State.dumpFailed (s : State) : State :=
  (s.updTal fun t => { t with first := t.first || t.carries.1 % 2 == 1, resumed := t.resumed || t.carries.1 / 2 == 1 }).dumpLost

/-- DUMP_RECORD_WRITTEN (R408 to R410): bytes 63:56 land last, then the vector is raised, all under TAL_DUMP_CFG as of the
record's tick (R412); a reservoir write may end in error. -/
def execDumpRecordWritten (ok : Bool) (s : State) : Result :=
  let t := s.tal
  let cfg := fun (f : Fld) => bitsOf t.cfg.toNat f.lo f.w
  let ram : Bool := cfg Fld.TAL_DUMP_CFG_TARGET == 1
  if !t.busy then .next s
  else
    let s := (s.updTal fun t => { t with busy := false, rec_ := [] }).setFld Fld.TAL_STATUS_DUMP_BUSY 0
    if ram ∧ !ok then .next (s.raise Fld.TAL_DUMP_STAT_FAULT).dumpFailed
    else if !s.dumpLands (cfg Fld.TAL_DUMP_CFG_TARGET) then .next s.dumpFailed
    else
      let s := s.updTal fun t => { t with lostNext := t.lostNext - t.carries.2 }
      let s := if ram then s.resWrite (t.at_ % 2 ^ 38) t.rec_
        else ((s.emit (.hostWrite t.at_ (t.rec_.take 56))).emit (.hostWrite (t.at_ + 64) (t.rec_.drop 64))).emit
          (.hostWrite (t.at_ + 56) ((t.rec_.drop 56).take 8))
      .next (if cfg Fld.TAL_DUMP_CFG_IRQ_EN = 1 then s.msix (cfg Fld.TAL_DUMP_CFG_VECTOR) else s)

/-- A word of the BAR5 page (R377, R407): counters, the last SEQ and the TIME of the last latch. -/
def State.userWord (s : State) (off : Nat) : Nat :=
  let v := if off < 0x8000 then s.tal.cnt.get (off / 8)
    else if off / 8 = 0x1000 then s.tal.seq
    else if off / 8 = 0x1001 then s.tal.time
    else 0
  if s.flag Fld.TAL_USER_EN_EN then v else 0

end Sys2Proof.Machine
end

