-- ==== Sys2Proof/Machine/ManRun.lean ====
section
/-! DEFINITION. A manifest from its bytes (16_manifests.md, R353 to R360): framing, trailer, parameters, then the meaning of
its opcode. The rows that bring one: MBOX_GO, MANIFEST_DATAGRAM, RELAY_RECEIVE. The values of parameters wider than one
number (lists, records, addresses) are laid out as log entry 48 says. -/

namespace Sys2Proof.Machine

/-- The meaning of a manifest under a header. -/
def manExec (h : Hdr) (i : ManCmd) (s : State) : Result :=
  match i with
  | .basinReset basin => execBasinReset h basin s
  | .arrayCreate a mode bays unit d pool => execArrayCreate h a mode bays unit d pool s
  | .arrayDelete a => execArrayDelete h a s
  | .arrayQuery a => execArrayQuery h a s
  | .sparePoolSet p bays => execSparePoolSet h p bays s
  | .memberFail a role force => execMemberFail h a role force s
  | .memberReplace a role bay => execMemberReplace h a role bay s
  | .scrubStart a start => execScrubStart h a start s
  | .scrubStop a => execScrubStop h a s
  | .scrubLog a clear => execScrubLog h a clear s
  | .arraySalvage a => execArraySalvage h a s
  | .wharfDiscard => execWharfDiscard h s
  | .keyLoad slot mode key base => execKeyLoad h slot mode key base s
  | .keyZeroise slot => execKeyZeroise h slot s
  | .serialSet slot serial => execSerialSet h slot serial s
  | .keyQuery slot => execKeyQuery h slot s
  | .pairKeyLoad key => execPairKeyLoad h key s
  | .slcPortSet port mode strictN overhead weights shapers preColours => execSlcPortSet h port mode strictN overhead weights shapers preColours s
  | .meterSet meter words => execMeterSet h meter words s
  | .slcCfgSet yellowFree yellowDepth => execSlcCfgSet h yellowFree yellowDepth s
  | .subNodeSet node words => execSubNodeSet h node words s
  | .nsbSet nsid cmdRate cmdBurst byteRate byteBurst => execNsbSet h nsid cmdRate cmdBurst byteRate byteBurst s
  | .quadSet quad mode anEn map degMax => execQuadSet h quad mode anEn map degMax s
  | .portSet port cfg pfc eee thr wake => execPortSet h port cfg pfc eee thr wake s
  | .addrSet entry a => execAddrSet h entry a s
  | .addrDelete entry => execAddrDelete h entry s
  | .portQuery ports => execPortQuery h ports s
  | .discoverySet ports policy => execDiscoverySet h ports policy s
  | .aclSet port index rule => execAclSet h port index rule s
  | .aclQuery port => execAclQuery h port s
  | .mgmtSrcSet entry p => execMgmtSrcSet h entry p s
  | .drvGroupSet g mode sris => execDrvGroupSet h g mode sris s
  | .drvCfgSet cfg tmo idle => execDrvCfgSet h cfg tmo idle s
  | .bayPower bays action => execBayPower h bays action s
  | .paddleCfg bays cfg0 cfg1 sense => execPaddleCfg h bays cfg0 cfg1 sense s
  | .paddleQuery bays => execPaddleQuery h bays s
  | .feedDrill => execFeedDrill h s
  | .feedCfg enA enB drillH uv ov fwdMax rs => execFeedCfg h enA enB drillH uv ov fwdMax rs s
  | .feedQuery => execFeedQuery h s
  | .takeover force => execTakeover h force s
  | .pairSet en pairId partner prefer => execPairSet h en pairId partner prefer s
  | .pairQuery => execPairQuery h s
  | .witnessSet bays => execWitnessSet h bays s
  | .partnerHealth => execPartnerHealth h s
  | .ckptResync => execCkptResync h s
  | .partnerRelay inner => execPartnerRelay h inner s
  | .lkpDrill => execLkpDrill h s
  | .lkpSwitch => execLkpSwitch h s
  | .powerStateSet target => execPowerStateSet h target s
  | .capList => execCapList h s
  | .sessionOpen keyId nonceH => execSessionOpen h keyId nonceH s
  | .sessionClose => execSessionClose h s
  | .identify => execIdentify h s
  | .timeSet ms => execTimeSet h ms s
  | .warmRestart => execWarmRestart h s
  | .faultQuery clear => execFaultQuery h clear s
  | .eventRead count clear => execEventRead h count clear s
  | .subsysSet i nqn => execSubsysSet h i nqn s
  | .subsysDelete i => execSubsysDelete h i s
  | .nsCreate nsid subsys array size lbafs piTypes mode slot ledgered => execNsCreate h nsid subsys array size lbafs piTypes mode slot ledgered s
  | .nsDelete nsid => execNsDelete h nsid s
  | .nsAttach nsid hosts attach => execNsAttach h nsid hosts attach s
  | .hostSet i e => execHostSet h i e s
  | .hostDelete i => execHostDelete h i s
  | .nsQuery nsid => execNsQuery h nsid s
  | .dockCreate host kind size perms bind tag => execDockCreate h host kind size perms bind tag s
  | .dockRevoke rkey => execDockRevoke h rkey s
  | .authSecretSet i hostSecret ctrlSecret hash => execAuthSecretSet h i hostSecret ctrlSecret hash s
  | .authSecretClear i => execAuthSecretClear h i s
  | .manifestKeySet k key => execManifestKeySet h k key s
  | .manifestKeyClear k => execManifestKeyClear h k s
  | .powerQuery => execPowerQuery h s
  | .tallySelect n sel thr => execTallySelect h n sel thr s
  | .tallyDumpSet set period target slots => execTallyDumpSet h set period target slots s
  | .tallyRead set => execTallyRead h set s
  | .tallyUser en => execTallyUser h en s
  | .laneMargin quad i lane time volt => execLaneMargin h quad i lane time volt s
  | .moorQuery => execMoorQuery h s
  | .unmoor confirm => execUnmoor h confirm s
  | .fwStage offset chunk => execFwStage h offset chunk s
  | .fwCommit length sha signatureOk => execFwCommit h length sha signatureOk s
  | .fwActivate atTakeover => execFwActivate h atTakeover s
  | .fwQuery => execFwQuery h s

/-- Lengths that a parameter's value may have. -/
inductive PLen | is (n : Nat) | either (a b : Nat) | upTo (n : Nat) | mult (n : Nat)
  deriving DecidableEq, Repr

def PLen.ok : PLen → Nat → Bool
  | .is n, k => k == n
  | .either a b, k => k == a || k == b
  | .upTo n, k => decide (k ≤ n)
  | .mult n, k => k % n == 0

/-- A parameter as an opcode takes it: required (R357), and its length. -/
abbrev PShape := Bool × PLen

def req (n : Nat) : PShape := (true, .is n)
def opt (n : Nat) : PShape := (false, .is n)

/-- Parameters of the opcodes that take any, in the order of Tables 16-5, 6-5, 9-4, 13-6 and 14-8 (R357, log entry 48). -/
def manShapes : List (Nat × List PShape) :=
  [(0x0101, [opt 1]), (0x0102, [req 1, req 16]), (0x0103, []), (0x0104, []), (0x0105, [req 8]), (0x0106, []),
   (0x0107, [opt 1]), (0x0108, [req 2, opt 1]),
   (0x0201, [req 1, opt 1, opt 1, opt 2, opt 2]),
   (0x0202, [req 1, opt 4, opt 4, (false, .mult 4), (false, .mult 4), opt 4]),
   (0x0203, [req 2, (true, .either 4 16), req 1, opt 2, (false, .either 4 16), (true, .either 16 17)]),
   (0x0204, [req 2]), (0x0205, [req 16]), (0x0206, [req 16, req 1]),
   (0x0210, [req 1, opt 1, opt 1, opt 1, (false, .upTo 8), (false, .mult 10), (false, .mult 4)]),
   (0x0211, [req 2, (true, .mult 4)]), (0x0212, [opt 2, opt 2])] ++
  [(0x0301, [req 1, req 1, (true, .upTo 48), req 1, opt 1, opt 1]), (0x0302, [req 1]), (0x0303, [req 1]),
   (0x0304, [req 1, req 6]), (0x0305, [req 1, req 1, opt 1]), (0x0306, [req 1, req 1, req 1]), (0x0307, [req 1, opt 8]),
   (0x0308, [req 1]), (0x0309, [req 1, opt 1]), (0x030A, [req 1]),
   (0x0401, [req 2, (true, .upTo 223)]), (0x0402, [req 2]),
   (0x0403, [req 4, req 2, req 1, req 8, req 1, req 1, req 1, req 2, req 1]), (0x0404, [req 4]),
   (0x0405, [req 4, req 512, req 1]),
   (0x0406, [req 2, (true, .upTo 223), (true, .mult 20), req 128, req 1, req 1, opt 2, opt 4, req 1, req 16]),
   (0x0407, [req 2]), (0x0408, [req 4]),
   (0x0410, [req 2, req 1, req 4, req 1, opt 4, opt 8, opt 1]), (0x0411, [req 4])] ++
  [(0x0420, [req 2, (true, .mult 4)]), (0x0421, [req 4, opt 8, opt 8]),
   (0x0501, [req 1, req 1, req 32]), (0x0502, [req 1]), (0x0510, [req 1, (false, .either 4 16), opt 1, opt 2]),
   (0x0601, [req 2, req 1, (true, .either 32 64), opt 4]), (0x0602, [req 2]), (0x0603, [req 2, req 8]),
   (0x0604, [req 2]), (0x0605, [req 32]),
   (0x0610, [req 2, (true, .upTo 64), (false, .upTo 64), req 1]), (0x0611, [req 2]), (0x0620, [req 1, req 32]),
   (0x0621, [req 1]),
   (0x0701, [req 1]), (0x0702, []), (0x0703, [req 1, req 1, opt 1]), (0x0704, [opt 4, opt 4, (false, .mult 4)]),
   (0x0710, [req 6, req 1]), (0x0711, [req 6, opt 4, opt 4, opt 4]), (0x0712, [req 6])] ++
  [(0x0720, [opt 1, opt 1, opt 1, opt 1, opt 1, opt 1, opt 1]), (0x0721, []), (0x0722, []),
   (0x0801, [req 1, req 8, req 8, req 1]), (0x0802, []), (0x0803, [(true, .upTo 7)]), (0x0804, [opt 1]), (0x0805, []),
   (0x0806, []), (0x0807, [(true, .upTo 65512)]),
   (0x0901, [req 2, req 4, opt 4]), (0x0902, [req 512, req 4, req 1, req 4]), (0x0903, [req 512]), (0x0904, [req 1]),
   (0x0A01, [req 1]), (0x0A02, [req 1, req 1]), (0x0A20, []), (0x0A30, []), (0x0A31, []),
   (0x0B01, []), (0x0B02, [req 2]),
   (0x0C01, [req 4, (true, .upTo 65488)]), (0x0C02, [req 4, req 32]), (0x0C03, [req 1]), (0x0C04, [])]

/-- Table 16-5's parameters of an opcode; none for an opcode outside it (R367). -/
def manShape (op : Nat) : Option (List PShape) := (manShapes.find? fun e => e.1 == op).map Prod.snd

/-- A payload as TLVs; none where one overruns it (R357). -/
def readTlvs : Nat → List Byte → Option (List (Nat × List Byte))
  | _, [] => some []
  | 0, _ => none
  | n + 1, l =>
    let len := beVal ((l.drop 2).take 2)
    let next := 4 + (len + 3) / 4 * 4
    if l.length < 4 ∨ l.length < next then none
    else (readTlvs n (l.drop next)).map fun r => (beVal (l.take 2), (l.drop 4).take len) :: r

/-- The number of the parameter that a TYPE stands for: bit 15 only says that it is optional (R357, log entry 48). -/
def typeNo (t : Nat) : Nat := t % 2 ^ 15

/-- The parameters of a payload by number; the status otherwise, with the TYPE's number (R357). -/
def readParams (sh : List PShape) (pl : List Byte) : (MStat × Nat) ⊕ List (Nat × List Byte) :=
  match readTlvs (pl.length / 4) pl with
  | none => .inl (.badTlv, 0)
  | some l =>
    let known := fun (t : Nat) => decide (1 ≤ typeNo t) && decide (typeNo t ≤ sh.length)
    match l.find? fun p => !known p.1 && decide (p.1 < 2 ^ 15) with
    | some p => .inl (.badTlv, p.1)
    | none =>
      let l := (l.filter fun p => known p.1).map fun p => (typeNo p.1, p.2)
      let bad := l.find? fun p => ((sh[p.1 - 1]?).any fun x => !x.2.ok p.2.length) ||
        decide (1 < (l.filter fun q => q.1 == p.1).length)
      match bad with
      | some p => .inl (.badTlv, p.1)
      | none =>
        match (List.range sh.length).find? fun i => (sh[i]?).any (·.1) && !(l.any fun p => p.1 == i + 1) with
        | some i => .inl (.missingParam, i + 1)
        | none => .inr l

/-- A list's elements of `n` bytes each. -/
def elems (n : Nat) (l : List Byte) : List (List Byte) :=
  (List.range (l.length / n)).map fun i => (l.drop (n * i)).take n

/-- The words of a value, each with its place. -/
def wordsOf (l : List Byte) : List (Nat × Word32) :=
  let w := (elems 4 l).map fun b => BitVec.ofNat 32 (beVal b)
  (List.range w.length).zip w

/-- An address entry of a host (log entry 48): family, prefix length, VLAN with bit 15 for none, address. -/
def readPrefix (b : List Byte) : Prefix :=
  let v := beVal ((b.drop 2).take 2)
  { v6 := beVal (b.take 1) != 4, addr := beVal (if beVal (b.take 1) = 4 then b.drop 16 else b.drop 4)
    len := beVal ((b.drop 1).take 1), vlan := if v < 2 ^ 15 then some v else none }

/-- An ACL rule from its 32 bytes (Table 11-3). -/
def readRule (b : List Byte) : AclRule :=
  let v := fun (i n : Nat) => beVal ((b.drop i).take n)
  { action := v 0 1, kind := v 1 1, len := v 2 1, etype := v 4 2, mask := v 6 2, vlan := v 8 2, addr := v 16 16 }

/-- Bytes of a key, the first in bits [7:0], as CIP_KEY_DATA and CIP_PAIR_KEY take them (log entry 48). -/
def keyVal (l : List Byte) : Nat := l.foldr (fun b v => b.toNat + 256 * v) 0

/-- Mode of ARY_CFG by its code (Table 6-8). -/
def modeOf : Nat → Option Mode
  | 1 => some .m2 | 2 => some .m3 | 3 => some .p | 4 => some .pq | 5 => some .pqr | _ => none

/-- Policies of R40: 0 NONE, 1 OPTIONAL, 2 REQUIRED (log entry 48). -/
def policyOf : Nat → Option AuthPolicy
  | 0 => some .none | 1 => some .optional | 2 => some .required | _ => none

/-- A shaper of SLC_PORT_SET: kind, class, rate, burst (log entry 48). -/
def readShaper (b : List Byte) : Nat × Nat × Nat × Nat :=
  (beVal (b.take 1), beVal ((b.drop 1).take 1), beVal ((b.drop 2).take 4), beVal (b.drop 6))

/-- Values with their places. -/
def numbered (l : List Nat) : List (Nat × Nat) := (List.range l.length).zip l

/-- The first `n` bytes that FW_STAGE staged. -/
def State.stagedBytes (s : State) (n : Nat) : List Byte := (List.range n).map fun i => s.fw.bytes.get i

/-- What precedes every other check of a parameter: the object named exists or does not (R459). For opcodes whose values
can be outside their meanings; the others' own checks begin with it. -/
def State.firstCheck (s : State) (op i : Nat) : Option (MStat × List (List Byte)) :=
  if op / 256 = 3 then
    if 16 ≤ i then some (.outOfRange, [beBytes 1 i])
    else if op = 0x0301 then (if s.arrThere i then some (.duplicate, [beBytes 1 i]) else none)
    else if s.arrThere i then none else some (.invalidState, [beBytes 1 i])
  else if op = 0x0403 ∨ op = 0x0405 then
    if i = 0 ∨ 16384 < i then some (.outOfRange, [beBytes 4 i])
    else if (s.mrd.ns.get i).present ∧ op = 0x0403 then some (.duplicate, [beBytes 4 i])
    else if !(s.mrd.ns.get i).present ∧ op = 0x0405 then some (.invalidState, [beBytes 4 i])
    else none
  else if op = 0x0406 ∧ 4096 ≤ i then some (.outOfRange, [beBytes 2 i])
  else none

/-- A manifest from its parameters, or the status with the name its receipt carries: a value outside its field's meanings
fails with INVALID_PARAM, naming the parameter's number. The margin of LANE_MARGIN is the measurement's (log entry 1). -/
def State.manOf (s : State) (op : Nat) (l : List (Nat × List Byte)) : (MStat × List (List Byte)) ⊕ ManCmd :=
  let raw := fun (n : Nat) => (l.find? fun p => p.1 == n).map Prod.snd
  let bytes := fun (n : Nat) => (raw n).getD []
  let g := fun (n : Nat) => beVal (bytes n)
  let o : Nat → OptVal := fun n => (raw n).map beVal
  let ow : Nat → Option Word32 := fun n => (raw n).map fun b => BitVec.ofNat 32 (beVal b)
  let nums := fun (n k : Nat) => (elems k (bytes n)).map beVal
  let words := fun (n : Nat) => wordsOf (bytes n)
  let bad := fun (n : Nat) => (Sum.inl ((s.firstCheck op (g 1)).getD (.invalidParam, [beBytes 2 n])) :
    (MStat × List (List Byte)) ⊕ ManCmd)
  let flag := fun (n : Nat) (k : Bool → ManCmd) => if g n ≤ 1 then Sum.inr (k (g n == 1)) else bad n
  let ok := fun (m : ManCmd) => (Sum.inr m : (MStat × List (List Byte)) ⊕ ManCmd)
  let v6 := fun (n : Nat) => (bytes n).length == 16
  match op with
  | 0x0101 => ok .capList
  | 0x0102 => ok (.sessionOpen (g 1) (BitVec.ofNat 128 (g 2)))
  | 0x0103 => ok .sessionClose
  | 0x0104 => ok .identify
  | 0x0105 => ok (.timeSet (g 1))
  | 0x0106 => ok .warmRestart
  | 0x0107 => flag 1 .faultQuery
  | 0x0108 => flag 2 (.eventRead (g 1))
  | 0x0201 => ok (.quadSet (g 1) (o 2) (o 3) (o 4) (o 5))
  | 0x0202 => ok (.portSet (g 1) (ow 2) (ow 3) (ow 6) (words 4) (words 5))
  | 0x0203 => ok (.addrSet (g 1) { v6 := v6 2, addr := g 2, len := g 3, vlan := o 4, gateway := o 5,
                                      ports := bitSet 136 (g 6) })
  | 0x0204 => ok (.addrDelete (g 1))
  | 0x0205 => ok (.portQuery (bitSet 128 (g 1)))
  | 0x0206 => ok (.discoverySet (bitSet 128 (g 1)) (g 2))
  | 0x0210 => ok (.slcPortSet (g 1) (o 2) (o 3) (o 4) (numbered (nums 5 1)) ((elems 10 (bytes 6)).map readShaper)
      (words 7))
  | 0x0211 => ok (.meterSet (g 1) (words 2))
  | 0x0212 => ok (.slcCfgSet (o 1) (o 2))
  | 0x0301 =>
    match (modeOf (g 2)), decide (g 5 ≤ 1) with
    | some m, true => ok (.arrayCreate (g 1) m (nums 3 1) (g 4) (g 5 == 1) ((o 6).getD 7))
    | some _, false => bad 5
    | none, _ => bad 2
  | 0x0302 => ok (.arrayDelete (g 1))
  | 0x0303 => ok (.arrayQuery (g 1))
  | 0x0304 => ok (.sparePoolSet (g 1) (g 2))
  | 0x0305 => flag 3 (.memberFail (g 1) (g 2))
  | 0x0306 => ok (.memberReplace (g 1) (g 2) (g 3))
  | 0x0307 => ok (.scrubStart (g 1) (o 2))
  | 0x0308 => ok (.scrubStop (g 1))
  | 0x0309 => flag 2 (.scrubLog (g 1))
  | 0x030A => ok (.arraySalvage (g 1))
  | 0x0401 => ok (.subsysSet (g 1) (g 2))
  | 0x0402 => ok (.subsysDelete (g 1))
  | 0x0403 => if 1 < g 9 then bad 9 else ok (.nsCreate (g 1) (g 2) (g 3) (g 4) (bitSet 8 (g 5)) (bitSet 8 (g 6)) (g 7)
      (g 8) (g 9 == 0))
  | 0x0404 => ok (.nsDelete (g 1))
  | 0x0405 => flag 3 (.nsAttach (g 1) (bitSet 4096 (g 2)))
  | 0x0406 =>
    match policyOf (g 5) with
    | none => bad 5
    | some p =>
      ok (.hostSet (g 1)
        { nqn := g 2, addrs := (elems 20 (bytes 3)).map readPrefix, reach := bitSet 1024 (g 4), policy := p, defPs := g 6
          maxAssoc := (o 7).getD 64, meter := (o 8).map fun v => v % 2 ^ 16, meterPerClass := decide (2 ^ 16 ≤ g 8)
          stairs := g 9, sprayPorts := bitSet 128 (g 10) })
  | 0x0407 => ok (.hostDelete (g 1))
  | 0x0408 => ok (.nsQuery (g 1))
  | 0x0410 => ok (.dockCreate (g 1) (g 2) (g 3) (g 4) ((o 5).map fun n => (n, g 6)) (g 7))
  | 0x0411 => ok (.dockRevoke (g 1))
  | 0x0420 => ok (.subNodeSet (g 1) (words 2))
  | 0x0421 => ok (.nsbSet (g 1) ((nums 2 4)[0]?) ((nums 3 4)[0]?) ((nums 2 4)[1]?) ((nums 3 4)[1]?))
  | 0x0501 => ok (.aclSet (g 1) (g 2) (readRule (bytes 3)))
  | 0x0502 => ok (.aclQuery (g 1))
  | 0x0510 => ok (.mgmtSrcSet (g 1) ((o 2).map fun a => { v6 := v6 2, addr := a, len := g 3, vlan := o 4 }))
  | 0x0601 => if g 2 = 1 ∧ (bytes 3).length = 32 then .inl (.badTlv, [beBytes 2 3]) else ok (.keyLoad (g 1) (g 2)
      (BitVec.ofNat 512 (keyVal (bytes 3))) (BitVec.ofNat 32 (g 4)))
  | 0x0602 => ok (.keyZeroise (g 1))
  | 0x0603 => ok (.serialSet (g 1) (BitVec.ofNat 64 (g 2)))
  | 0x0604 => ok (.keyQuery (g 1))
  | 0x0605 => ok (.pairKeyLoad (BitVec.ofNat 256 (keyVal (bytes 1))))
  | 0x0610 => ok (.authSecretSet (g 1) (g 2) (g 3) (g 4))
  | 0x0611 => ok (.authSecretClear (g 1))
  | 0x0620 => ok (.manifestKeySet (g 1) (BitVec.ofNat 256 (g 2)))
  | 0x0621 => ok (.manifestKeyClear (g 1))
  | 0x0701 => ok (.powerStateSet (g 1))
  | 0x0702 => ok .powerQuery
  | 0x0703 => flag 3 (.drvGroupSet (g 1) (g 2))
  | 0x0704 => ok (.drvCfgSet (ow 1) (ow 2) (words 3))
  | 0x0710 => if g 2 = 1 then ok (.bayPower (g 1) .enable) else if g 2 = 2 then ok (.bayPower (g 1) .disable) else if g
      2 = 3 then ok (.bayPower (g 1) .cycle) else bad 2
  | 0x0711 => ok (.paddleCfg (g 1) (ow 2) (ow 3) (ow 4))
  | 0x0712 => ok (.paddleQuery (g 1))
  | 0x0720 => if 1 < g 1 then bad 1 else if 1 < g 2 then bad 2 else ok (.feedCfg ((o 1).map (· == 1)) ((o 2).map (· ==
      1)) (o 3) (o 4) (o 5) (o 6) (o 7))
  | 0x0721 => ok .feedQuery
  | 0x0722 => ok .feedDrill
  | 0x0801 => if 1 < g 1 then bad 1 else flag 4 (.pairSet (g 1 == 1) (g 2) (g 3))
  | 0x0802 => ok .pairQuery
  | 0x0803 => ok (.witnessSet (nums 1 1))
  | 0x0804 => flag 1 .takeover
  | 0x0805 => ok .partnerHealth
  | 0x0806 => ok .ckptResync
  | 0x0807 => ok (.partnerRelay (bytes 1))
  | 0x0901 => ok (.tallySelect (g 1) (BitVec.ofNat 32 (g 2)) (BitVec.ofNat 32 (g 3)))
  | 0x0902 => ok (.tallyDumpSet (bitSet 4096 (g 1)) (g 2) (g 3) (g 4))
  | 0x0903 => ok (.tallyRead (bitSet 4096 (g 1)))
  | 0x0904 => flag 1 .tallyUser
  | 0x0A01 => ok (.basinReset (g 1))
  | 0x0A02 => ok (.laneMargin (128 ≤ g 1) (g 1 % 128) (g 2) (Config.freeNat s.free % 65536) (Config.freeNat (s.free +
      1) % 65536))
  | 0x0A20 => ok .wharfDiscard
  | 0x0A30 => ok .lkpDrill
  | 0x0A31 => ok .lkpSwitch
  | 0x0B01 => ok .moorQuery
  | 0x0B02 => ok (.unmoor (g 1))
  | 0x0C01 => ok (.fwStage (g 1) (bytes 2))
  | 0x0C02 => ok (.fwCommit (g 1) (BitVec.ofNat 256 (g 2)) (Config.signatureOk (s.stagedBytes (g 1)) (BitVec.ofNat 256
      (g 2))))
  | 0x0C03 => flag 1 .fwActivate
  | 0x0C04 => ok .fwQuery
  | _ => .inl (.unknownOpcode, [])

/-- A header that cannot be used (R358): counted; on the mailbox answered with SEQ 0. -/
def State.unusable (s : State) (c : Channel) (op : Nat) (st : MStat) : State :=
  let s := s.count Fld.MFT_STAT_FRAMING 1
  if c = .mailbox then s.answerOnly ⟨c, 0, 0, 0, 0, none⟩ op st else s

/-- A manifest whose trailer does not verify (R360). -/
def State.unverified (s : State) (h : Hdr) (op : Nat) (st : MStat) : State :=
  let s := s.count Fld.MFT_STAT_AUTH_FAIL 1
  if h.chan = .mailbox then s.answerOnly h op st else s

/-- A manifest with a good header and trailer: opcode, parameters, then its opcode's meaning (R357, R367). -/
def State.runManifest (s : State) (h : Hdr) (op : Nat) (pl : List Byte) : State :=
  match manShape op with
  | none => s.manifestFails h op .unknownOpcode []
  | some sh =>
    if chanRefuses h.chan op then s.manifestFails h op .channelNotAllowed []
    else if s.agent ∧ !agentOps.contains op then s.manifestFails h op .invalidState []
    else match readParams sh pl with
      | .inl (st, t) => s.manifestFails h op st [beBytes 2 t]
      | .inr l =>
        match s.manOf op l with
        | .inl (st, ps) => s.manifestFails h op st ps
        | .inr m =>
          match manExec h m (if op = 0x0A02 then s.tick.tick else s) with
          | .next t => t
          | _ => s

/-- A manifest's bytes on a channel (R353, R356, R358 to R360): `b` is what came, from the header on. -/
def State.takeManifest (s : State) (c : Channel) (port src : Nat) (b : List Byte) : State :=
  let f := fun (i n : Nat) => beVal ((b.drop i).take n)
  let op := f 4 2
  let plen := f 14 4
  let auth := (f 3 1).testBit 1
  let session := f 10 4
  let must := decide (c ≠ .mailbox) || decide (session ≠ 0) || s.mboxFld Fld.MFT_MBOX_CFG_AUTH_REQ == 1
  if !s.manUp c then s
  else if !s.chanOn c then s.count Fld.MFT_STAT_DISABLED 1
  else if b.length < 32 then s.unusable c op .badLength
  else if f 0 2 ≠ 0x434D then s.unusable c op .badMagic
  else if f 2 1 ≠ 1 then s.unusable c op .badVersion
  else if plen % 4 ≠ 0 ∨ s.maxPlen c port src < plen ∨ b.length < 32 + plen + (if auth then 16 else 0) then
    s.unusable c op .badLength
  else if must ∧ !auth then s.unusable c op .badLength
  else
    let pl := (b.drop 32).take plen
    let named := decide (op = 0x0101) || decide (op = 0x0102)
    let kid := if auth && decide (session = 0) && named then
        (match readTlvs (plen / 4) pl with
          | some l => (l.find? fun p => typeNo p.1 == 1).map fun p => beVal p.2
          | none => none)
      else none
    let h : Hdr := ⟨c, session, f 6 4, src, port, kid⟩
    let good := fun (k : BitVec 256) => decide ((Config.hmac k (b.take (32 + plen))).toNat = f (32 + plen) 16)
    if !auth then s.runManifest h op pl
    else if session ≠ 0 then
      if !s.sessionOk h op then s.unverified h op .sessionUnknown
      else if good (s.mft.sessions.get session).ks then s.runManifest h op pl
      else s.unverified h op .authFail
    else if !named ∧ c ≠ .mailbox then s.unverified h op .sessionUnknown
    else match kid with
      | none => s.unverified h op .authFail
      | some k =>
        match s.mrd.mkeys.get k with
        | none => if c = .mailbox then s.answerOnly h op .noKey else s
        | some key => if good key then s.runManifest h op pl else s.unverified h op .authFail

/-- MBOX_GO (R355): the manifest of MFT_MBOX_CTL.LEN bytes in MFT_REQ_BUF. While BUSY the write is ignored and sets
REJECT. A disabled mailbox ignores it (R353), as does one that nothing serves. -/
def State.mboxGo (s : State) : State :=
  let n := s.fld Fld.MFT_MBOX_CTL_LEN
  if s.flag Fld.MFT_MBOX_STAT_BUSY then s.raise Fld.MFT_MBOX_STAT_REJECT
  else if !s.manUp .mailbox then s
  else if !s.chanOn .mailbox then s.count Fld.MFT_STAT_DISABLED 1
  else
    let s := (s.updMft fun m => { m with mboxCfg := s.reg Reg.MFT_MBOX_CFG }).raise Fld.MFT_MBOX_STAT_BUSY
    if n < 32 ∨ 65536 < n then
      s.unusable .mailbox (beVal ((List.range 2).map fun i => s.mft.reqBuf.get (4 + i))) .badLength
    else s.takeManifest .mailbox 0 0 ((List.range n).map fun i => s.mft.reqBuf.get i)

def execMboxGo (s : State) : Result := .next s.mboxGo

/-- The source list admits an in-band datagram (R354). -/
def State.sourceListed (s : State) (v6 : Bool) (addr : Nat) (vlan : Option Nat) : Bool :=
  (List.range 16).any fun i => (s.mrd.src.get i).any fun p =>
    p.v6 == v6 && addr / 2 ^ ((if v6 then 128 else 32) - p.len) == p.addr / 2 ^ ((if v6 then 128 else 32) - p.len) &&
      (p.vlan.isNone || p.vlan == vlan)

/-- Source address and UDP port as one number (Hdr.src). -/
def srcKey (v6 : Bool) (addr src : Nat) : Nat := (if v6 then 2 ^ 144 else 0) + addr * 65536 + src % 65536

/-- MANIFEST_DATAGRAM (R354): a datagram to MFT_CHAN_CFG.UDP_PORT at an address of the management lane or of a data port,
after what FRAME_RECEIVE does with its frame. -/
def execManifestDatagram (inband v6 : Bool) (addr : Nat) (vlan : Option Nat) (port src : Nat) (bytes : List Byte)
    (s : State) : Result :=
  if inband then
    if 128 ≤ port ∨ !s.manUp .inband then .next s
    else if !s.chanOn .inband then .next (s.count Fld.MFT_STAT_DISABLED 1)
    else if !s.sourceListed v6 addr vlan then .next (s.count Fld.MFT_STAT_SOURCE 1)
    else .next (s.takeManifest .inband port (srcKey v6 addr src) bytes)
  else .next (s.takeManifest .mgmtPort 128 (srcKey v6 addr src) bytes)

/-- RELAY_RECEIVE (R336): the standby agent executes the inner manifest; on any other role the frame has no effect. -/
def execRelayReceive (f : PeerHdr) (inner : List Byte) (s : State) : Result :=
  s.onFrame f fun s => if s.agent then s.takeManifest .relay 0 0 inner else s

/-- The oldest waiting manifest that need wait no longer starts (R362): the queue is in order of arrival, so one behind
an older one of the same object waits on. -/
def State.startWaiting (s : State) : Option State :=
  let l := s.mft.waiting
  let free := (List.range l.length).find? fun k =>
    (l[k]?).any fun w => !(s.updMft fun m => { m with waiting := l.take k }).mustWait w.objs
  if s.lkAsleep then none
  else match free.bind fun k => l[k]? with
    | none => none
    | some w =>
      let k := l.idxOf w
      let sess : Tab Session := if w.hdr.session = 0 ∧ w.hdr.chan ≠ .mailbox then s.mft.sessions else
        s.mft.sessions.upd w.hdr.session fun x => { x with running := none }
      match manExec w.hdr w.i (s.updMft fun m => { m with waiting := l.take k, sessions := sess }) with
      | .next t => some (t.updMft fun m => { m with waiting := m.waiting ++ l.drop (k + 1) })
      | _ => none

end Sys2Proof.Machine
end

