-- ==== Sys2Proof/Machine/RegView.lean ====
section
/-! DEFINITION. What a register shows where its value follows from the rest of the state (the field maps' Meaning
columns): one function per block, each given the block instance, the offset in it and the stored word. -/

namespace Sys2Proof.Machine

/-- The number whose bit i is `p i`, for the bits below `n`. -/
def bitMap (n : Nat) (p : Nat → Bool) : Nat := (List.range n).foldl (fun v i => if p i then v + 2 ^ i else v) 0

/-- The low half, or the upper half, of a 64-bit value (R19). -/
def halfOf (hi : Bool) (v : Nat) : Nat := if hi then v / 2 ^ 32 % 2 ^ 32 else v % 2 ^ 32

/-- GLB (Table 22-2, R432). -/
def State.viewGlb (s : State) (o w : Nat) : Nat :=
  if o = 0x08 ∨ o = 0x0C then halfOf (o == 0x0C) Config.fusedSerial.toNat
  else if o = 0x10 ∨ o = 0x14 then halfOf (o == 0x14) (Config.fusedMac.toNat * 256)
  else if o = 0x18 then (if s.rst.phase = .serving then s.fw.running else 0)
  else if o = 0x1C then (if s.fw.staged then s.fw.version else 0)
  else if o = 0x20 ∨ o = 0x24 then halfOf (o == 0x24) s.stamp
  else w

/-- TWP (Tables 15-7 and 15-10). -/
def State.viewTwp (s : State) (o w : Nat) : Nat :=
  if o = 0 then s.pwrWord
  else if o = 0x40 then setBits w 0 16 (bitMap 16 s.basinParked)
  else if o = 0x44 then bitMap 32 s.quadGated
  else w

/-- PDL (Table 13-9): the measurements are free (log entry 1). -/
def State.viewPdl (s : State) (o w : Nat) : Nat := if o = 0x18 ∨ o = 0x1C then s.freeVal % 2 ^ 24 else w

/-- WIR (Table 13-11, Table 13-12). -/
def State.viewWir (s : State) (o w : Nat) : Nat :=
  if o = 0x0C then s.drillWord
  else if o = 0x14 ∨ o = 0x24 then s.feedMeas ((o - 0x14) / 16)
  else w

/-- MFT (Table 16-8): open sessions, loaded keys. -/
def State.viewMft (s : State) (o w : Nat) : Nat :=
  if o = 0x10 then setBits w 16 7 s.openSessions.length
  else if o = 0x18 then bitMap 8 fun k => (s.mrd.mkeys.get k).isSome
  else w

/-- TAL (Table 19-6). -/
def State.viewTal (s : State) (o w : Nat) : Nat :=
  if o < 0x8000 then halfOf (o % 8 == 4) (s.tal.cnt.get (o / 8))
  else if o = 0x20004 then
    setBits w 16 13 (s.regs.countP fun e =>
      decide (0x610000 ≤ e.1 ∧ e.1 < 0x618000 ∧ e.1 % 8 = 0) && e.2.toNat.testBit 31)
  else w

/-- CNL (Tables 5-10, 5-16, 5-18 to 5-20). -/
def State.viewCnl (s : State) (o w : Nat) : Nat :=
  if o = 0 then setBits w 2 1 (decide (0 < s.spillCells ∧ s.spillCells ≤ s.cnl.spilled)).toNat
  else if o = 0x34 then
    ceilDiv s.cnl.spilled 4096 + 2 ^ 16 * min 65535 (s.cnl.queues.countP fun e => e.2.any fun i => !inPound i)
  else if 0x80 ≤ o ∧ o < 0x9C then s.cnl.held ((o - 0x80) / 4)
  else if o = 0xA0 then setBits w 0 11 (s.cnl.ctx.countP fun e => e.2.isOpen)
  else if o = 0xA4 then s.cnl.groups.length
  else w

/-- WHF (Table 8-8). -/
def State.viewWhf (s : State) (o w : Nat) : Nat :=
  if o = 0x54 then s.whf.dirty
  else if o = 0x58 then s.whf.lighter.length + 256 * s.whf.lighter.countP fun x => x.dirty
  else w

/-- CIP (Tables 9-7 to 9-10): the registers of the slot that CIP_SLOT_IDX selects, and the lanes. -/
def State.viewCip (s : State) (o w : Nat) : Nat :=
  let k := s.fld Fld.CIP_SLOT_IDX_SLOT
  let e := s.mrd.keys.get k
  let r := s.cip.slot.get k
  let n := s.serialOf k
  if o = 0x18 then e.mode + 4 * e.active.toNat + 8 * r.retired.toNat + 16 * n.2 + 64 * r.weak.toNat +
    128 * r.busyReject.toNat
  else if o = 0x1C then (e.bank e.active).base.toNat
  else if o = 0x20 ∨ o = 0x24 then halfOf (o == 0x24) n.1
  else if 0xC0 ≤ o ∧ o < 0xE8 then setBits w 0 9 (s.cip.lane.get ((o - 0xC0) / 4)).occupied
  else w

/-- Queues whose head capsule the host's meter would hold red now (SLC_DROP.HELD_QUEUES). -/
def State.redQueues (s : State) : Nat :=
  s.host.queue.countP fun e => match e.2.sq.head? with
    | none => false
    | some c => (s.hostMeter (s.queueHost e.1) c.frame).any fun m =>
      (s.meterRun m c.frame.len (s.inputColour c.frame)).1 == .red

/-- BRG (Tables 4-9 to 4-14), engine `e`. Working registers show only while the engine is FENCED; what they hold is
free (log entry 1). -/
def State.viewBrg (s : State) (e o w : Nat) : Nat :=
  if o = 0 then e + 256 * (e / 16)
  else if o = 0x14 then (s.eng e).tow.length + 2 ^ 16 * s.inflight e
  else if o = 0x18 then (s.homed e).length
  else if o = 0x4C then s.berthsFree
  else if o = 0x50 then s.poolFree (e / 16)
  else if 0x8000 ≤ o then (if (s.eng e).state = .fenced then s.freeVal % 2 ^ 32 else 0)
  else w

/-- TUG (Tables 3-14 and 3-20), tug `t`. -/
def State.viewTug (s : State) (t o w : Nat) : Nat :=
  if o = 0 then t + 64 * (t / 8)
  else if o = 0x200 then
    let l := s.tug.stairs.get (t / 8)
    setBits (setBits w 0 11 l.length) 16 8 (min 255 (l.countP fun x => x.faulted.isSome))
  else w

/-- NET (Table 11-9), quad `q`. -/
def State.viewNet (s : State) (q o w : Nat) : Nat :=
  if o = 4 then setBits (setBits w 3 1 (s.quadHeld q).toNat) 16 11 (s.bufUnits q) else w

/-- DRV (Tables 12-10 and 12-13), bay `b`. -/
def State.viewDrv (s : State) (b o w : Nat) : Nat :=
  if o = 0 then b + 64 * (b / 3)
  else if o = 0x10 then setBits w 25 7 (min 127 ((s.now - (s.bport b).polledAt) / 1000000000))
  else w

/-- Bits 0 to 47 of a set of bays, in two registers (ARY_POOL_LO, ARY_POOL_HI). -/
def bayHalf (hi : Bool) (l : List Nat) : Nat := halfOf hi (bitMap 48 l.contains)

/-- ARY (Tables 6-7 to 6-16), array `a`. -/
def State.viewAry (s : State) (a o w : Nat) : Nat :=
  let x := s.mrd.arr.get a
  let r := s.ary.get a
  if o = 0 then
    x.state.code + 8 * r.scrubbing.toNat +
      16 * (x.state == .rebuilding && s.flag (Fld.ARY_REBUILD_CFG_HOLD a)).toNat +
      256 * x.roles.countP fun y => y.state == .missing || y.state == .rebuilding || y.state == .restoring
  else if o = 4 then
    if x.state = .none then w
    else x.mode.code + 2 ^ 8 * x.n + 2 ^ 16 * x.k + 2 ^ 24 * x.d.toNat + 2 ^ 25 * x.unit + 2 ^ 28 * x.pool.getD 7
  else if o = 8 then x.gen
  else if o = 0x10 ∨ o = 0x14 then halfOf (o == 0x14) x.stripes
  else if o = 0x20 ∨ o = 0x24 then halfOf (o == 0x24) r.mooredCursor
  else if o = 0x48 ∨ o = 0x4C then halfOf (o == 0x4C) r.mooredScrub
  else if o = 0x58 then x.subst.getD 0 + 128 * x.subst.isSome.toNat
  else if 0x80 ≤ o ∧ o < 0x100 then
    let y := x.role ((o - 0x80) / 4)
    y.bay.getD 0x3F + 2 ^ 8 * y.state.code + 2 ^ 16 * y.target.code
  else if 0x1000 ≤ o ∧ o < 0x1020 then bayHalf (o % 8 == 4) (s.mrd.pools.get ((o - 0x1000) / 8))
  else if o = 0x1040 then
    (bitMap 16 fun i => (s.mrd.arr.get i).state == .offline || (s.mrd.arr.get i).state == .salvaged) +
      2 ^ 16 * bitMap 16 fun i => (s.mrd.arr.get i).state == .rebuilding
  else w

/-- LDG_PAIR.STATE (Table 7-11). -/
def PairState.code : PairState → Nat
  | .unused => 0 | .two => 1 | .single => 2 | .repairing => 3 | .lost => 4

/-- LDG (Tables 7-8 to 7-12), array `a`. -/
def State.viewLdg (s : State) (a o w : Nat) : Nat :=
  let x := s.mrd.arr.get a
  if o = 0 then
    x.pairs.length + 32 * (s.ary.get a).replaying.toNat + 64 * (x.pairs.any fun p => p.state != .two).toNat +
      128 * (x.pairs.any fun p => p.sameGroup).toNat
  else if 0x40 ≤ o ∧ o < 0x84 then
    match x.pairs[(o - 0x40) / 4]? with
    | none => 0
    | some p => p.roleA + 2 ^ 8 * p.roleB + 2 ^ 16 * p.state.code + 2 ^ 19 * p.sameGroup.toNat +
        2 ^ 20 * p.liveA.toNat + 2 ^ 21 * p.liveB.toNat
  else if 0x100 ≤ o ∧ o < 0x180 then s.ringBlocks a ((o - 0x100) / 4) / 256
  else if o = 0x808 then s.slotsUsed
  else w

/-- SPB_BANK_STAT (R435): lockkeeper banks follow their core, tug banks retain in P2. -/
def State.viewSpb (s : State) (o w : Nat) : Nat :=
  let k := o / 8
  if o % 8 = 4 then
    if k < 2 then
      let on : Bool := if s.fld Fld.LKP_CORE_STAT_ACTIVE = k then !s.pair.lkDown
        else s.fld Fld.LKP_CORE_STAT_SPARE == 1
      setBits w 0 2 (if on then 0 else 2)
    else if k < 8 ∧ s.cur = 2 ∧ bitsOf w 0 2 = 0 then setBits w 0 2 1
    else w
  else w

/-- RSV (Table 22-6). -/
def State.viewRsv (s : State) (o w : Nat) : Nat :=
  let ready : Bool := s.rst.phase == .t7 || s.rst.phase == .serving
  if o = 0 then setBits (setBits w 0 1 ready.toNat) 1 1 s.rst.fullTrain.toNat
  else if 0x100 ≤ o ∧ o < 0x140 then
    setBits w 0 3 (if s.rst.phase = .t6 then 1 else if !ready then 0 else if s.cur = 2 then 3
      else if s.cur = 3 then 4 else 2)
  else w

/-- AQD_LEASE_STAT.SINCE_OK_MS (Table 14-13). -/
def State.viewAqd (s : State) (o w : Nat) : Nat :=
  if o = 0x20 then setBits w 16 10 (min 1023 ((s.now - s.pair.tOk) / 1000000)) else w

/-- LKP_DRILL_STAT.AGE_H (Table 14-16). -/
def State.viewLkp (s : State) (o w : Nat) : Nat :=
  if o = 8 then setBits w 16 16 (s.hoursSince s.pair.lastDrill) else w

/-- Bytes of one instance of a block, the instance of an offset, and the offset in it (Table 22-1). -/
def BlockDef.size (b : BlockDef) : Nat := if b.stride = 0 then b.last + 1 - b.base else b.stride
def BlockDef.inst (b : BlockDef) (a : Nat) : Nat := (a - b.base) / b.size
def BlockDef.rel (b : BlockDef) (a : Nat) : Nat := (a - b.base) % b.size

/-- The value of the register at an offset, before its access types are applied. -/
def State.view (s : State) (b : BlockDef) (a : Nat) : Nat :=
  let w := (s.reg a).toNat
  let i := b.inst a
  let o := b.rel a
  match b.blk with
  | .glb => s.viewGlb o w
  | .twp => s.viewTwp o w
  | .pdl => s.viewPdl o w
  | .wir => s.viewWir o w
  | .mft => s.viewMft o w
  | .tal => s.viewTal o w
  | .cnl => s.viewCnl o w
  | .whf => s.viewWhf o w
  | .cip => s.viewCip o w
  | .slc => if o = 8 then setBits w 16 16 (min 65535 s.redQueues) else w
  | .brg => s.viewBrg i o w
  | .tug => s.viewTug i o w
  | .net => s.viewNet i o w
  | .drv => s.viewDrv i o w
  | .ary => s.viewAry i o w
  | .ldg => s.viewLdg i o w
  | .spb => s.viewSpb o w
  | .rsv => s.viewRsv o w
  | .aqd => s.viewAqd o w
  | .lkp => s.viewLkp o w
  | .clk | .ept => w

/-- A word of the CNL_POUND_HDR window (R146). -/
def State.poundWord (s : State) (off : Nat) : Nat :=
  let w := s.fld Fld.CNL_POUND_BASE_WINDOW
  let i := w * 65536 + off / 32
  match s.cnl.slotAt i with
  | none => 0
  | some x => if 12 ≤ w then 0 else if off % 32 = 24 then 1 else bitsOf x.header (8 * (off % 32)) 32

/-- A word of a byte table, byte 0 in bits [7:0]. -/
def wordAt (t : Tab Byte) (a : Nat) : Nat := leVal ((List.range 4).map fun i => t.get (a + i))

/-- A word of BAR0 that is no register: the capability list, the mailbox buffers, the pound headers; 0 anywhere else
(R18, R146, R355, R368). -/
def State.windowWord (s : State) (a : Nat) : Nat :=
  if 0x100 ≤ a ∧ a < 0x1000 then capWords.getD ((a - 0x100) / 4) 0
  else if 0x510000 ≤ a ∧ a < 0x520000 then wordAt s.mft.reqBuf (a - 0x510000)
  else if 0x520000 ≤ a ∧ a < 0x530000 then wordAt s.mft.rcptBuf (a - 0x520000)
  else if 0xA00000 ≤ a ∧ a < 0xC00000 then s.poundWord (a - 0xA00000)
  else 0

/-- The three SGPIO bits of a bay: activity, locate, fault (R288). Only a device that masters the SMBus drives
them. -/
def State.sgpio (s : State) (b : Nat) : Bool × Bool × Bool :=
  let missing := s.mrd.arr.any fun e => e.2.roles.any fun r => r.bay == some b && r.state == .missing
  (decide (0 < s.outstanding b), s.flag (Fld.DRV_CTL_LOCATE b),
    s.bay b == Bay.failed || s.bay b == Bay.refused || missing)

end Sys2Proof.Machine
end

