-- ==== Sys2Proof/Machine/RegBus.lean ====
section
/-! DEFINITION. The register bus (00_scope.md, R17 to R21; 17_endpoint.md, R372 and R377; 20_clocks.md, R420 and R421):
what a requester reads, and what a write does. -/

namespace Sys2Proof.Machine

/-- A step that goes on from another's next state. -/
def Result.andThen (r : Result) (f : State → Result) : Result :=
  match r with
  | .next s => f s
  | .fault e => .fault e
  | .refused e => .refused e

/-- The blocks that BAR0 serves in a management window (R336). -/
def servedStandby (b : Blk) : Bool := b == .glb || b == .twp || b == .aqd || b == .lkp || b == .mft

/-- What shows of a register's value: its fields, but for WO and WOK ones; reserved bits read 0 (R17, R18). -/
def RegDef.visible (r : RegDef) (v : Nat) : Nat :=
  r.fields.foldl (fun x f => if f.access = .wo ∨ f.access = .wok then x else setBits x f.lo f.w (bitsOf v f.lo f.w)) 0

/-- The register after a read: RC fields are clear (R17, R420). -/
def RegDef.afterRead (r : RegDef) (x : Word32) : Word32 :=
  r.fields.foldl (fun x f => if f.access = .rc then f.put x 0 else x) x

/-- Some field of the register takes a write. -/
def RegDef.writable (r : RegDef) : Bool := r.fields.any fun f => f.access != .ro && f.access != .rc

/-- A requester's HI latch: one for BAR0, one for each core, the one all BAR5 requesters share (R421). -/
def latchNo : Requester → Nat
  | .core c => 1 + c.val
  | .bar5 => 3
  | _ => 0

/-- A latch's key: requester and block. -/
def BlockDef.latchKey (b : BlockDef) (who : Requester) : Nat := b.base / 0x80000 * 4 + latchNo who

/-- The half that the requester has latched of the pair whose LO stands at `lo` (R421). -/
def State.latched (s : State) (b : BlockDef) (who : Requester) (lo : Nat) : Option Nat :=
  let e := Tab.get s.latch (b.latchKey who)
  if e.1 = lo + 1 then some e.2 else none

/-- HI latched by a read of LO (R19, R421). -/
def State.setLatch (s : State) (b : BlockDef) (who : Requester) (lo hi : Nat) : State :=
  { s with latch := Tab.set s.latch (b.latchKey who) (lo + 1, hi) }

/-- The register shows a value that is measured, or otherwise free (log entry 1). -/
def showsFree (b : BlockDef) (a : Nat) : Bool :=
  (b.blk == .pdl && (b.rel a == 0x18 || b.rel a == 0x1C)) || (b.blk == .wir && (b.rel a == 0x14 || b.rel a == 0x24)) ||
    (b.blk == .brg && decide (0x8000 ≤ b.rel a))

/-- A read of a register that is there: its value; RC fields clear; LO latches HI (R17, R19, R420, R421). -/
def State.readReg (s : State) (who : Requester) (b : BlockDef) (r : RegDef) (a : Nat) : State × Nat :=
  let v := r.visible (s.view b a)
  let t := s.setReg a (r.afterRead (s.reg a))
  let t := if showsFree b a then t.tick else t
  match r.half with
  | .whole => (t, v)
  | .lo => (t.setLatch b who a (s.view b (a + 4)), v)
  | .hi => (t, r.visible ((s.latched b who (a - 4)).getD (s.view b a)))

/-- A read of one aligned word of BAR0. A domain that is off reads 0 and the access is recorded (R420); in a management
window other blocks read 0 (R336). -/
def State.busRead (s : State) (who : Requester) (a : Nat) : State × Nat :=
  match findBlock a with
  | none => (s, 0)
  | some b =>
    if s.blkOff b.blk (b.inst a) then (s.raise Fld.CLK_LOL_OFF_READ, 0)
    else if s.mgmtOnly && !servedStandby b.blk then (s, 0)
    else match findReg a with
      | none => (s, s.windowWord a)
      | some r => s.readReg who b r a

/-- A word of BAR4: the MSI-X table, then the PBA (R372, R375). -/
def State.bar4Word (s : State) (a : Nat) : Nat :=
  if a < 0x8000 then
    let m := s.ept.msix.get (a / 16)
    if a % 16 = 0 then m.addr % 2 ^ 32
    else if a % 16 = 4 then m.addr / 2 ^ 32
    else if a % 16 = 8 then m.data
    else (!m.unmasked).toNat
  else if a < 0x8100 then bitMap 32 fun i => s.ept.pba.get ((a - 0x8000) * 8 + i)
  else 0

/-- A word of BAR5, the user tally page (R377, R407). -/
def State.bar5Read (s : State) (a : Nat) : State × Nat :=
  match findBlock 0x600000 with
  | none => (s, 0)
  | some b =>
    if s.mgmtOnly then (s, 0)
    else if s.blkOff .tal 0 then (s.raise Fld.CLK_LOL_OFF_READ, 0)
    else
      let lo := a / 8 * 8
      let v := s.userWord lo
      if a % 8 = 0 then (s.setLatch b .bar5 lo (v / 2 ^ 32), v % 2 ^ 32)
      else (s, if s.flag Fld.TAL_USER_EN_EN then (s.latched b .bar5 lo).getD (v / 2 ^ 32) else 0)

/-- A word read by a requester. -/
def State.wordRead (s : State) (who : Requester) (a : Nat) : State × Nat :=
  match who with
  | .bar4 => (s, s.bar4Word a)
  | .bar5 => s.bar5Read a
  | _ => s.busRead who a

/-- The requester can make an access: the endpoint's link is up, or the core is the active one and runs. -/
def State.canAccess (s : State) : Requester → Bool
  | .core c => s.fld Fld.LKP_CORE_STAT_ACTIVE == c.val && !s.pair.lkDown && decide (s.cur ≤ 2) &&
      (s.rst.phase == .t7 || s.rst.phase == .serving)
  | _ => s.eptUp

/-- A register read (R17 to R19, R372, R420, R421): 4 or 8 bytes inside an 8-byte unit; a word read in part has its read
effects whole. -/
def State.registerRead (s : State) (who : Requester) (addr : Nat) (eight : Bool) : Result :=
  let n := if eight then 8 else 4
  if !s.canAccess who then .next s
  else if 8 < addr % 8 + n then
    match who with
    | .core _ => .next s
    | _ => .next (s.emit .completerAbort)
  else
    let first := addr / 4 * 4
    let x := s.wordRead who first
    let y := if first + 4 < addr + n then x.1.wordRead who (first + 4) else (x.1, 0)
    .next (y.1.emit (.readData who ((x.2 + 2 ^ 32 * y.2) / 2 ^ (8 * (addr % 4)) % 2 ^ (8 * n))))

/-- TWP writes (R352, R393 to R396): PWR_REQ, FAULT, WDOG_CFG have effects of their own. -/
def State.writeTwp (s : State) (who : Requester) (o a : Nat) (v : Word32) : Result :=
  if o = 4 then (if v.toNat.testBit 31 then execTwpPwrReqGo (bitsOf v.toNat 0 3) s else .next s)
  else if o = 0x110 then .next (s.faultClear (bitsOf v.toNat 0 6))
  else if o = 0x118 ∧ v.toNat.testBit 31 then
    match who with
    | .core c => execWatchdogKick c (s.cfgWrite a v)
    | _ => .next (s.cfgWrite a v)
  else .next (s.cfgWrite a v)

/-- PDL writes (R293): PDL_CMD acts on bay `b`. -/
def State.writePdl (s : State) (b o a : Nat) (v : Word32) : Result :=
  if o = 0 then
    let bay := Fin.ofNat 48 b
    match bitsOf v.toNat 0 2 with
    | 1 => execPdlCmdEnable bay s
    | 2 => execPdlCmdDisable bay s
    | 3 => execPdlCmdCycle bay s
    | _ => .next s
  else .next (s.cfgWrite a v)

/-- WIR writes (R306, R308): an ignored WIR_CTL write starts no drill either. -/
def State.writeWir (s : State) (o a : Nat) (v : Word32) : Result :=
  let n := v.toNat
  if o = 0 then
    let r := execWirCtlWrite (n.testBit 0) (n.testBit 1) (bitsOf n 8 8) s
    if n.testBit 16 ∧ (s.wirCtl (n.testBit 0) (n.testBit 1) (bitsOf n 8 8)).isSome then r.andThen execWirDrillNow
    else r
  else .next (s.cfgWrite a v)

/-- EPT writes (R374, R376, R380): COPY_CTL with GO, and a window's CTL, which commits it. -/
def State.writeEpt (s : State) (o a : Nat) (v : Word32) : Result :=
  let n := v.toNat
  if o = 0x30 ∧ n.testBit 31 then execCopyGo (n.testBit 0) (bitsOf n 1 11) s
  else if 0x100 ≤ o ∧ o < 0x500 ∧ o % 16 = 0 then
    let i := Fin.ofNat 64 ((o - 0x100) / 16)
    let s := if n.testBit 31 then s.setFld (Fld.EPT_WIN_CTL_ERR i) 0 else s
    execEptWinCtlWrite i (n.testBit 0) (n.testBit 1) (n.testBit 2) (bitsOf n 4 2) (bitsOf n 8 6) s
  else .next (s.cfgWrite a v)

/-- MFT writes (R353, R355, R369): GO, and the sessions of a channel that is disabled. -/
def State.writeMft (s : State) (o a : Nat) (v : Word32) : Result :=
  let t := s.cfgWrite a v
  if o = 0 then .next (if v.toNat.testBit 31 then t.mboxGo else t)
  else if o = 0x0C then
    .next ((t.openSessions.filter fun k => !t.chanOn (t.mft.sessions.get k).chan).foldl State.closeSession t)
  else .next t

/-- TAL writes (R400, R402, R404, R412). -/
def State.writeTal (s : State) (o a : Nat) (v : Word32) : Result :=
  let n := v.toNat
  if 0x10000 ≤ o ∧ o < 0x18000 then
    let k := Fin.ofNat 4096 ((o - 0x10000) / 8)
    if o % 8 = 0 then execTalSelWrite k v s else execTalThrWrite k v s
  else if o = 0x20008 ∧ n.testBit 31 then execTalClrGo (bitsOf n 0 12) (n.testBit 30) s
  else if o = 0x20010 then
    let t := s.cfgWrite a v
    .next (if t.flag Fld.TAL_DUMP_CFG_EN && !s.flag Fld.TAL_DUMP_CFG_EN then t.updTal fun x => { x with first := true }
      else t)
  else .next (s.cfgWrite a v)

/-- CNL writes (R136 to R138, R145): a low watermark stays below its high one. -/
def State.writeCnl (s : State) (o a : Nat) (v : Word32) : Result :=
  let n := v.toNat
  if o = 4 then .next (s.cfgWrite a v).settleSpill
  else if o = 0x30 then execCnlSpillCfgWrite v s
  else if 0x40 ≤ o ∧ o < 0x78 then
    let p := (o - 0x40) / 8
    if o % 8 = 0 then execCnlPartCfgWrite (Fin.ofNat 7 p) v s
    else
      let t := s.cfgWrite a v
      let hi := t.fld (Fld.CNL_PART_WM_SPILL_HI p)
      .next (if hi ≤ t.fld (Fld.CNL_PART_WM_SPILL_LO p) then t.cfgFld (Fld.CNL_PART_WM_SPILL_LO p) (hi - 1)
        else t).settleSpill
  else if o = 0x100 then execCnlAttIdxWrite (Fin.ofNat 128 (bitsOf n 0 7)) (Fin.ofNat 8 (bitsOf n 8 3)) s
  else .next (s.cfgWrite a v)

/-- WHF writes (R207 to R210, R214). -/
def State.writeWhf (s : State) (o a : Nat) (v : Word32) : Result :=
  let n := v.toNat
  if o = 0 then
    (if n.testBit 0 then execWharfEnable s else execWharfDisable s).andThen (execLighterEnWrite (n.testBit 1))
  else if o = 0x48 then
    let t := s.cfgWrite a v
    let line := t.fld Fld.WHF_MAINT_ADDR_HI_ADDR * 2 ^ 25 + t.fld Fld.WHF_MAINT_ADDR_LO_ADDR
    .next (if n.testBit 31 then t.maintGo (t.fld Fld.WHF_MAINT_CTL_OP) line (t.fld Fld.WHF_MAINT_CTL_LINES) else t)
  else .next (s.cfgWrite a v)

/-- CIP writes (R219 to R222, R236): one that carries both COMMIT and ZEROISE commits first. -/
def State.writeCip (s : State) (o a : Nat) (v : Word32) : Result :=
  let n := v.toNat
  if o = 0x10 then execCipSlotIdxWrite (bitsOf n 0 12) s
  else if 0x40 ≤ o ∧ o < 0x80 then execCipKeyDataWrite (Fin.ofNat 16 ((o - 0x40) / 4)) v s
  else if 0x80 ≤ o ∧ o < 0xA0 then execCipPairKeyWrite (Fin.ofNat 8 ((o - 0x80) / 4)) v s
  else if o = 0x14 then
    let r := if n.testBit 31 then execKeyCommit (bitsOf n 0 2) s else .next (s.cfgWrite a v)
    if n.testBit 30 then r.andThen execSlotZeroise else r
  else if o = 0x18 then
    .next (s.updSlot (s.fld Fld.CIP_SLOT_IDX_SLOT) fun r =>
      { r with weak := r.weak && !n.testBit 6, busyReject := r.busyReject && !n.testBit 7 })
  else if o = 0x1C then .next (s.updCip fun c => { c with stageBase := v })
  else .next (s.cfgWrite a v)

/-- BRG writes (R110, R115), engine `e`. -/
def State.writeBrg (s : State) (e o a : Nat) (v : Word32) : Result :=
  if o = 0x20 then execBrgBankCtlWrite (Fin.ofNat 256 e) (bitsOf v.toNat 0 2) s
  else if o = 0x100 then execBrgBerthIdxWrite (bitsOf v.toNat 0 18) s
  else .next (s.cfgWrite a v)

/-- DRV writes (R274, R286, R289), bay `b`. -/
def State.writeDrv (s : State) (b o a : Nat) (v : Word32) : Result :=
  if o = 0x100 then .next (s.groupWrite (b / 3) v)
  else if 0x240 ≤ o ∧ o < 0x280 then .next ((s.cfgWrite a v).latencyNote s)
  else .next (s.cfgWrite a v)

/-- A word written to a register that is there. -/
def State.writeReg (s : State) (who : Requester) (b : BlockDef) (a : Nat) (v : Word32) : Result :=
  let i := b.inst a
  let o := b.rel a
  let n := v.toNat
  match b.blk with
  | .twp => s.writeTwp who o a v
  | .pdl => s.writePdl i o a v
  | .wir => s.writeWir o a v
  | .clk => if o = 0x0C then execClkFreqIdxWrite (bitsOf n 0 4) (bitsOf n 4 6) s else .next (s.cfgWrite a v)
  | .ept => s.writeEpt o a v
  | .mft => s.writeMft o a v
  | .tal => s.writeTal o a v
  | .cnl => s.writeCnl o a v
  | .whf => s.writeWhf o a v
  | .cip => s.writeCip o a v
  | .slc =>
    let t := s.slcWrite a v
    .next (if 0x200 ≤ o ∧ o < 0x400 then t.slcMode ((o - 0x200) / 4) else t)
  | .brg => s.writeBrg i o a v
  | .tug => if o = 0x100 then execTugQptIdxWrite (Fin.ofNat 65536 (bitsOf n 0 16)) s else .next (s.cfgWrite a v)
  | .net =>
    let t := s.netWrite a v
    .next (t.latencyNote s)
  | .drv => s.writeDrv i o a v
  | .ary => if o = 0x28 then execAryRemIdxWrite (Fin.ofNat 16 i) (bitsOf n 0 5) s else .next (s.cfgWrite a v)
  | .spb => if o % 8 = 0 then execSpbBankCtlWrite (Fin.ofNat 16 (o / 8)) (bitsOf n 0 2) s else .next (s.cfgWrite a v)
  | .lkp => if o = 4 ∧ n.testBit 8 then execLkpDrillNow (s.cfgWrite a v) else .next (s.cfgWrite a v)
  | .glb | .ldg | .rsv | .aqd => .next (s.cfgWrite a v)

/-- An RW pair written: LO as held, with HI (R19). CIP_SERIAL sets the selected slot's counter (R229). -/
def State.writePair (s : State) (a : Nat) (lo : Option Word32) (v : Word32) : Result :=
  if a = Reg.CIP_SERIAL_HI then
    execCipSerialWrite (lo.getD (BitVec.ofNat 32 (s.serialOf (s.fld Fld.CIP_SLOT_IDX_SLOT)).1)) v s
  else .next ((lo.elim s (s.cfgWrite (a - 4))).cfgWrite a v)

/-- A write of one aligned word of BAR0: ignored where no register is (R18), discarded and recorded where the domain is
off (R420), ignored in a management window outside its blocks (R336). Of an RW pair, LO waits for HI (R19). -/
def State.busWrite (s : State) (who : Requester) (a : Nat) (v : Word32) : Result :=
  match findBlock a with
  | none => .next s
  | some b =>
    if s.blkOff b.blk (b.inst a) then .next (s.raise Fld.CLK_LOL_OFF_READ)
    else if s.mgmtOnly && !servedStandby b.blk then .next s
    else match findReg a with
      | none =>
        if 0x510000 ≤ a ∧ a < 0x520000 then
          .next (s.updMft fun m => { m with reqBuf := layBytes m.reqBuf (a - 0x510000) (leBytes 4 v.toNat) })
        else .next s
      | some r =>
        match r.half, r.writable with
        | .lo, true =>
          if b.blk = .ept ∧ 0x100 ≤ b.rel a then .next (s.cfgWrite a v)
          else .next { s with loHeld := Tab.set s.loHeld a (some v.toNat) }
        | .hi, true =>
          if b.blk = .ept ∧ 0x100 ≤ b.rel a then .next (s.cfgWrite a v)
          else
            let lo := (Tab.get s.loHeld (a - 4)).map (BitVec.ofNat 32)
            ({ s with loHeld := Tab.set s.loHeld (a - 4) none } : State).writePair a lo v
        | .whole, true => s.writeReg who b a v
        | _, false => .next s

/-- A word of the MSI-X table written; the PBA ignores writes (R375). -/
def State.bar4Write (s : State) (a v : Nat) : State :=
  if a < 0x8000 then
    s.updEpt fun e => { e with msix := e.msix.upd (a / 16) fun m =>
      if a % 16 = 0 then { m with addr := m.addr / 2 ^ 32 * 2 ^ 32 + v / 4 * 4 }
      else if a % 16 = 4 then { m with addr := v * 2 ^ 32 + m.addr % 2 ^ 32 }
      else if a % 16 = 8 then { m with data := v }
      else { m with unmasked := !v.testBit 0 } }
  else s

/-- A word written by a requester; BAR5 discards writes (R377). -/
def State.wordWrite (s : State) (who : Requester) (a : Nat) (v : Nat) : Result :=
  match who with
  | .bar4 => .next (s.bar4Write a v)
  | .bar5 => .next s
  | _ => s.busWrite who a (BitVec.ofNat 32 v)

/-- A register write (R17 to R19, R372): one aligned unit of 4 or 8 bytes, LO before HI; any other write is discarded and
counted. -/
def State.registerWrite (s : State) (who : Requester) (addr v : Nat) (eight : Bool) : Result :=
  if !s.canAccess who then .next s
  else if addr % 4 ≠ 0 ∨ (eight ∧ addr % 8 ≠ 0) then
    match who with
    | .core _ => .next s
    | _ => .next (s.count Fld.EPT_ERR_STAT_DISCARDED 1)
  else if eight then
    (s.wordWrite who addr (v % 2 ^ 32)).andThen fun t => t.wordWrite who (addr + 4) (v / 2 ^ 32 % 2 ^ 32)
  else s.wordWrite who addr (v % 2 ^ 32)

end Sys2Proof.Machine
end

