-- ==== Sys2Proof/Machine/Tlps.lean ====
section
/-! DEFINITION. Requests of the management host as they arrive (17_endpoint.md, R372, R373, R379): each is a wake event, and
one that arrives in P2 or P3 completes after the exit. -/

namespace Sys2Proof.Machine

/-- What a request does once the device serves it. -/
def State.serveTlp (s : State) (x : Tlp) : Result :=
  match x with
  | .read who addr eight => s.registerRead who addr eight
  | .write who addr v eight => s.registerWrite who addr v eight
  | .bar2Read off len => s.bar2Read off len
  | .bar2Write off data => s.bar2Write off data

/-- A request as it arrives on a link that is up (R345, R350, R379). -/
def State.tlp (s : State) (x : Tlp) : Result :=
  if !s.eptUp then .next s
  else
    let s := s.wakeUp 2 0
    if s.pwrDepth = 2 ∨ s.pwrDepth = 3 then .next (s.updEpt fun e => { e with tlps := e.tlps ++ [x] })
    else s.serveTlp x

/-- REGISTER_READ (R17 to R19, R372, R420, R421): of the endpoint, or of a lockkeeper core on its bus. -/
def execRegisterRead (who : Requester) (addr : Nat) (eight : Bool) (s : State) : Result :=
  match who with
  | .core _ => s.registerRead who addr eight
  | _ => s.tlp (.read who addr eight)

/-- REGISTER_WRITE (R17 to R19, R372). -/
def execRegisterWrite (who : Requester) (addr v : Nat) (eight : Bool) (s : State) : Result :=
  match who with
  | .core _ => s.registerWrite who addr v eight
  | _ => s.tlp (.write who addr v eight)

/-- BAR2_READ (R373, R374). -/
def execBar2Read (off len : Nat) (s : State) : Result := s.tlp (.bar2Read off len)

/-- BAR2_WRITE (R374). -/
def execBar2Write (off : Nat) (data : List Byte) (s : State) : Result := s.tlp (.bar2Write off data)

/-- EXIT_COMPLETE (R338, R347, R350, R379): every domain serves, and the requests that waited complete in their order. -/
def execExitComplete (badRows : BitVec 11) (imageBad : Bool) (s : State) : Result :=
  if !s.exitReady then .next s
  else
    let l := s.ept.tlps
    let t := (s.exitEnd badRows imageBad).updEpt fun e => { e with tlps := [] }
    l.foldl (fun r x => r.andThen fun t => t.serveTlp x) (.next t)

end Sys2Proof.Machine
end

