-- ==== Sys2Proof/Machine/Dispatch.lean ====
section
/-! DEFINITION. The effect of a command: one arm per row of the table, each one call of its meaning. -/

namespace Sys2Proof.Machine

/-- The effect of command `i` on everything but the queue. -/
def exec (i : Instr) (s : State) : Host.Outcome State Fault Refusal :=
  match i with
  | .connect qref cid hostNqn subNqn hostId cntlid qid sqsize katoMs cattr => Sys2Proof.Machine.execConnect qref cid hostNqn subNqn hostId cntlid qid sqsize katoMs cattr s
  | .propertyGet qref cid ofst => Sys2Proof.Machine.execPropertyGet qref cid ofst s
  | .propertySet qref cid ofst value => Sys2Proof.Machine.execPropertySet qref cid ofst value s
  | .disconnect qref cid => Sys2Proof.Machine.execDisconnect qref cid s
  | .authenticationSend qref cid m => Sys2Proof.Machine.execAuthenticationSend qref cid m s
  | .authenticationReceive qref cid => Sys2Proof.Machine.execAuthenticationReceive qref cid s
  | .authenticationTimeout qref => Sys2Proof.Machine.execAuthenticationTimeout qref s
  | .nvmeIdentify c => Sys2Proof.Machine.execNvmeIdentify c s
  | .getLogPage c => Sys2Proof.Machine.execGetLogPage c s
  | .setFeatures c => Sys2Proof.Machine.execSetFeatures c s
  | .getFeatures c => Sys2Proof.Machine.execGetFeatures c s
  | .asynchronousEventRequest qref cid => Sys2Proof.Machine.execAsynchronousEventRequest qref cid s
  | .keepAlive qref cid => Sys2Proof.Machine.execKeepAlive qref cid s
  | .keepAliveTimeout cntlid => Sys2Proof.Machine.execKeepAliveTimeout cntlid s
  | .abort c => Sys2Proof.Machine.execAbort c s
  | .formatNvm c => Sys2Proof.Machine.execFormatNvm c s
  | .unsupportedOpcode qref cid opcode => Sys2Proof.Machine.execUnsupportedOpcode qref cid opcode s
  | .capsuleArrival c => Sys2Proof.Machine.execCapsuleArrival c s
  | .read c => Sys2Proof.Machine.execRead c s
  | .write c => Sys2Proof.Machine.execWrite c s
  | .flush c => Sys2Proof.Machine.execFlush c s
  | .compare c => Sys2Proof.Machine.execCompare c s
  | .compareAndWrite first second => Sys2Proof.Machine.execCompareAndWrite first second s
  | .writeZeroes c => Sys2Proof.Machine.execWriteZeroes c s
  | .datasetManagement c => Sys2Proof.Machine.execDatasetManagement c s
  | .verify c => Sys2Proof.Machine.execVerify c s
  | .reservationRegister c => Sys2Proof.Machine.execReservationRegister c s
  | .reservationReport c => Sys2Proof.Machine.execReservationReport c s
  | .reservationAcquire c => Sys2Proof.Machine.execReservationAcquire c s
  | .reservationRelease c => Sys2Proof.Machine.execReservationRelease c s
  | .admissionTurn e => Sys2Proof.Machine.execAdmissionTurn e s
  | .basinReturnComplete b => Sys2Proof.Machine.execBasinReturnComplete b s
  | .cmReq r => Sys2Proof.Machine.execCmReq r s
  | .cmRtu p => Sys2Proof.Machine.execCmRtu p s
  | .cmDreq qp => Sys2Proof.Machine.execCmDreq qp s
  | .cmDrep qp => Sys2Proof.Machine.execCmDrep qp s
  | .dreqRetryExpiry qp => Sys2Proof.Machine.execDreqRetryExpiry qp s
  | .probationTimeout p => Sys2Proof.Machine.execProbationTimeout p s
  | .packetReceive p => Sys2Proof.Machine.execPacketReceive p s
  | .reorderTimerExpiry qp => Sys2Proof.Machine.execReorderTimerExpiry qp s
  | .ackDelayExpiry qp => Sys2Proof.Machine.execAckDelayExpiry qp s
  | .ackReceive qp psn sack => Sys2Proof.Machine.execAckReceive qp psn sack s
  | .selectiveNakReceive qp base got => Sys2Proof.Machine.execSelectiveNakReceive qp base got s
  | .nakReceive qp code => Sys2Proof.Machine.execNakReceive qp code s
  | .localAckTimeout qp => Sys2Proof.Machine.execLocalAckTimeout qp s
  | .pathProbeExpiry qp path => Sys2Proof.Machine.execPathProbeExpiry qp path s
  | .cnpReceive qp path => Sys2Proof.Machine.execCnpReceive qp path s
  | .rateIntervalExpiry => Sys2Proof.Machine.execRateIntervalExpiry s
  | .dockWrite p => Sys2Proof.Machine.execDockWrite p s
  | .dockRead p => Sys2Proof.Machine.execDockRead p s
  | .dockAtomic p => Sys2Proof.Machine.execDockAtomic p s
  | .zeroLengthWrite p => Sys2Proof.Machine.execZeroLengthWrite p s
  | .staircaseInstall p => Sys2Proof.Machine.execStaircaseInstall p s
  | .staircaseStepComplete qp key step ok data => Sys2Proof.Machine.execStaircaseStepComplete qp key step ok data s
  | .dockCommit p => Sys2Proof.Machine.execDockCommit p s
  | .drainLimitExpiry win => Sys2Proof.Machine.execDrainLimitExpiry win s
  | .qpFlushComplete qp => Sys2Proof.Machine.execQpFlushComplete qp s
  | .tugFence t => Sys2Proof.Machine.execTugFence t s
  | .tcpSegmentReceive t => Sys2Proof.Machine.execTcpSegmentReceive t s
  | .icreq conn hdgst ddgst => Sys2Proof.Machine.execIcreq conn hdgst ddgst s
  | .h2cData berth data digestOk => Sys2Proof.Machine.execH2cData berth data digestOk s
  | .h2cTermReq conn => Sys2Proof.Machine.execH2cTermReq conn s
  | .tcpRtoExpiry conn => Sys2Proof.Machine.execTcpRtoExpiry conn s
  | .tcpDelackExpiry conn => Sys2Proof.Machine.execTcpDelackExpiry conn s
  | .tugQptIdxWrite entry => Sys2Proof.Machine.execTugQptIdxWrite entry s
  | .towLook e => Sys2Proof.Machine.execTowLook e s
  | .towArrival e => Sys2Proof.Machine.execTowArrival e s
  | .engineTake e => Sys2Proof.Machine.execEngineTake e s
  | .engineStep berth => Sys2Proof.Machine.execEngineStep berth s
  | .hostDataArrival berth pkts => Sys2Proof.Machine.execHostDataArrival berth pkts s
  | .completionCellAccept berth => Sys2Proof.Machine.execCompletionCellAccept berth s
  | .engineFence e cause => Sys2Proof.Machine.execEngineFence e cause s
  | .stepLimitExpiry e => Sys2Proof.Machine.execStepLimitExpiry e s
  | .basinReset h basin => Sys2Proof.Machine.execBasinReset h basin s
  | .basinSelftestComplete b pass => Sys2Proof.Machine.execBasinSelftestComplete b pass s
  | .brgBankCtlWrite e req => Sys2Proof.Machine.execBrgBankCtlWrite e req s
  | .bankReturnOn e => Sys2Proof.Machine.execBankReturnOn e s
  | .brgBerthIdxWrite berth => Sys2Proof.Machine.execBrgBerthIdxWrite berth s
  | .berthSnapshotComplete => Sys2Proof.Machine.execBerthSnapshotComplete s
  | .cellEntry c load group par ecc => Sys2Proof.Machine.execCellEntry c load group par ecc s
  | .creditIssue dst cls wants => Sys2Proof.Machine.execCreditIssue dst cls wants s
  | .cellDelivery att ecc => Sys2Proof.Machine.execCellDelivery att ecc s
  | .spillRecall dst cls err => Sys2Proof.Machine.execSpillRecall dst cls err s
  | .cellAgeDiscard acc ix u => Sys2Proof.Machine.execCellAgeDiscard acc ix u s
  | .ctlStuck slot => Sys2Proof.Machine.execCtlStuck slot s
  | .discardNotice => Sys2Proof.Machine.execDiscardNotice s
  | .cancelComplete => Sys2Proof.Machine.execCancelComplete s
  | .cnlPartCfgWrite p v => Sys2Proof.Machine.execCnlPartCfgWrite p v s
  | .cnlSpillCfgWrite v => Sys2Proof.Machine.execCnlSpillCfgWrite v s
  | .cnlAttIdxWrite att cls => Sys2Proof.Machine.execCnlAttIdxWrite att cls s
  | .memberLoss a role => Sys2Proof.Machine.execMemberLoss a role s
  | .arrayCreate h a mode bays unit d pool => Sys2Proof.Machine.execArrayCreate h a mode bays unit d pool s
  | .arrayZeroed a => Sys2Proof.Machine.execArrayZeroed a s
  | .arrayDelete h a => Sys2Proof.Machine.execArrayDelete h a s
  | .arrayQuery h a => Sys2Proof.Machine.execArrayQuery h a s
  | .sparePoolSet h p bays => Sys2Proof.Machine.execSparePoolSet h p bays s
  | .memberFail h a role force => Sys2Proof.Machine.execMemberFail h a role force s
  | .memberReplace h a role bay => Sys2Proof.Machine.execMemberReplace h a role bay s
  | .scrubStart h a start => Sys2Proof.Machine.execScrubStart h a start s
  | .scrubStop h a => Sys2Proof.Machine.execScrubStop h a s
  | .scrubLog h a clear => Sys2Proof.Machine.execScrubLog h a clear s
  | .arraySalvage h a => Sys2Proof.Machine.execArraySalvage h a s
  | .rebuildStripe a => Sys2Proof.Machine.execRebuildStripe a s
  | .scrubPassTimer a => Sys2Proof.Machine.execScrubPassTimer a s
  | .scrubStripe a => Sys2Proof.Machine.execScrubStripe a s
  | .aryRemIdxWrite a role => Sys2Proof.Machine.execAryRemIdxWrite a role s
  | .arrayAssembly a left => Sys2Proof.Machine.execArrayAssembly a left s
  | .segmentIssue a p => Sys2Proof.Machine.execSegmentIssue a p s
  | .segmentComplete a p sseq copyA ok => Sys2Proof.Machine.execSegmentComplete a p sseq copyA ok s
  | .gatherAgeExpiry a stripe => Sys2Proof.Machine.execGatherAgeExpiry a stripe s
  | .destageStart a stripe ue => Sys2Proof.Machine.execDestageStart a stripe ue s
  | .destageComplete a stripe => Sys2Proof.Machine.execDestageComplete a stripe s
  | .ledgerRepairSegment a p => Sys2Proof.Machine.execLedgerRepairSegment a p s
  | .replay a => Sys2Proof.Machine.execReplay a s
  | .wharfAccess r ecc => Sys2Proof.Machine.execWharfAccess r ecc s
  | .wharfFillComplete line err => Sys2Proof.Machine.execWharfFillComplete line err s
  | .wharfWritebackComplete line => Sys2Proof.Machine.execWharfWritebackComplete line s
  | .maintClean line lines => Sys2Proof.Machine.execMaintClean line lines s
  | .maintInvalidate line lines => Sys2Proof.Machine.execMaintInvalidate line lines s
  | .maintCleanInvalidate line lines => Sys2Proof.Machine.execMaintCleanInvalidate line lines s
  | .maintRangeComplete => Sys2Proof.Machine.execMaintRangeComplete s
  | .wharfDisable => Sys2Proof.Machine.execWharfDisable s
  | .wharfEnable => Sys2Proof.Machine.execWharfEnable s
  | .cleaningWalkComplete => Sys2Proof.Machine.execCleaningWalkComplete s
  | .invalidationWalkEnd => Sys2Proof.Machine.execInvalidationWalkEnd s
  | .lighterEnWrite en => Sys2Proof.Machine.execLighterEnWrite en s
  | .wharfDiscard h => Sys2Proof.Machine.execWharfDiscard h s
  | .cipSlotIdxWrite slot => Sys2Proof.Machine.execCipSlotIdxWrite slot s
  | .cipKeyDataWrite n v => Sys2Proof.Machine.execCipKeyDataWrite n v s
  | .keyCommit mode => Sys2Proof.Machine.execKeyCommit mode s
  | .slotZeroise => Sys2Proof.Machine.execSlotZeroise s
  | .cipSerialWrite lo hi => Sys2Proof.Machine.execCipSerialWrite lo hi s
  | .cipPairKeyWrite n v => Sys2Proof.Machine.execCipPairKeyWrite n v s
  | .keyLoad h slot mode key base => Sys2Proof.Machine.execKeyLoad h slot mode key base s
  | .keyZeroise h slot => Sys2Proof.Machine.execKeyZeroise h slot s
  | .serialSet h slot serial => Sys2Proof.Machine.execSerialSet h slot serial s
  | .keyQuery h slot => Sys2Proof.Machine.execKeyQuery h slot s
  | .pairKeyLoad h key => Sys2Proof.Machine.execPairKeyLoad h key s
  | .cipherCell l berth blk cell reading => Sys2Proof.Machine.execCipherCell l berth blk cell reading s
  | .keyCacheFill l slot => Sys2Proof.Machine.execKeyCacheFill l slot s
  | .entropyWindow repetition proportion => Sys2Proof.Machine.execEntropyWindow repetition proportion s
  | .drbgReseed l => Sys2Proof.Machine.execDrbgReseed l s
  | .laneFence l corrected => Sys2Proof.Machine.execLaneFence l corrected s
  | .frameReceive port f => Sys2Proof.Machine.execFrameReceive port f s
  | .pfcRefreshExpiry port prio => Sys2Proof.Machine.execPfcRefreshExpiry port prio s
  | .pauseTimerExpiry port cls => Sys2Proof.Machine.execPauseTimerExpiry port cls s
  | .egressFrameChoice port heads => Sys2Proof.Machine.execEgressFrameChoice port heads s
  | .subscriberChoice group port cls waiting => Sys2Proof.Machine.execSubscriberChoice group port cls waiting s
  | .slcModeWrite port mode strictN => Sys2Proof.Machine.execSlcModeWrite port mode strictN s
  | .slcPortSet h port mode strictN overhead weights shapers preColours => Sys2Proof.Machine.execSlcPortSet h port mode strictN overhead weights shapers preColours s
  | .meterSet h meter words => Sys2Proof.Machine.execMeterSet h meter words s
  | .slcCfgSet h yellowFree yellowDepth => Sys2Proof.Machine.execSlcCfgSet h yellowFree yellowDepth s
  | .subNodeSet h node words => Sys2Proof.Machine.execSubNodeSet h node words s
  | .nsbSet h nsid cmdRate cmdBurst byteRate byteBurst => Sys2Proof.Machine.execNsbSet h nsid cmdRate cmdBurst byteRate byteBurst s
  | .quadSet h quad mode anEn map degMax => Sys2Proof.Machine.execQuadSet h quad mode anEn map degMax s
  | .quadReconfigWrite q cfg map => Sys2Proof.Machine.execQuadReconfigWrite q cfg map s
  | .linkUp port eee => Sys2Proof.Machine.execLinkUp port eee s
  | .linkDown port => Sys2Proof.Machine.execLinkDown port s
  | .dadComplete entry duplicate => Sys2Proof.Machine.execDadComplete entry duplicate s
  | .neighbourRetryExpiry port addr => Sys2Proof.Machine.execNeighbourRetryExpiry port addr s
  | .neighbourRevalidate port addr => Sys2Proof.Machine.execNeighbourRevalidate port addr s
  | .lpiEntry port rx => Sys2Proof.Machine.execLpiEntry port rx s
  | .portSet h port cfg pfc eee thr wake => Sys2Proof.Machine.execPortSet h port cfg pfc eee thr wake s
  | .addrSet h entry a => Sys2Proof.Machine.execAddrSet h entry a s
  | .addrDelete h entry => Sys2Proof.Machine.execAddrDelete h entry s
  | .portQuery h ports => Sys2Proof.Machine.execPortQuery h ports s
  | .discoverySet h ports policy => Sys2Proof.Machine.execDiscoverySet h ports policy s
  | .aclSet h port index rule => Sys2Proof.Machine.execAclSet h port index rule s
  | .aclQuery h port => Sys2Proof.Machine.execAclQuery h port s
  | .mgmtSrcSet h entry p => Sys2Proof.Machine.execMgmtSrcSet h entry p s
  | .drivePerstRelease bay => Sys2Proof.Machine.execDrivePerstRelease bay s
  | .driveLinkUp bay speed width => Sys2Proof.Machine.execDriveLinkUp bay speed width s
  | .trainingWindowExpiry bay => Sys2Proof.Machine.execTrainingWindowExpiry bay s
  | .driveInitComplete bay id content => Sys2Proof.Machine.execDriveInitComplete bay id content s
  | .driveInitTimeout bay => Sys2Proof.Machine.execDriveInitTimeout bay s
  | .driveMemoryRead bay addr tag => Sys2Proof.Machine.execDriveMemoryRead bay addr tag s
  | .driveMemoryWrite bay addr => Sys2Proof.Machine.execDriveMemoryWrite bay addr s
  | .driveCompletion bay e => Sys2Proof.Machine.execDriveCompletion bay e s
  | .driveCommandTimeout bay berth op => Sys2Proof.Machine.execDriveCommandTimeout bay berth op s
  | .driveLinkLoss bay => Sys2Proof.Machine.execDriveLinkLoss bay s
  | .rung1Expiry bay => Sys2Proof.Machine.execRung1Expiry bay s
  | .rung2Expiry bay => Sys2Proof.Machine.execRung2Expiry bay s
  | .readyWaitExpiry bay => Sys2Proof.Machine.execReadyWaitExpiry bay s
  | .perstPulseEnd bay trains => Sys2Proof.Machine.execPerstPulseEnd bay trains s
  | .rung3Expiry bay => Sys2Proof.Machine.execRung3Expiry bay s
  | .driveShutdownComplete bay => Sys2Proof.Machine.execDriveShutdownComplete bay s
  | .driveIdleT1Expiry a => Sys2Proof.Machine.execDriveIdleT1Expiry a s
  | .driveIdleT2Expiry a => Sys2Proof.Machine.execDriveIdleT2Expiry a s
  | .miPoll bay ok temp cw life => Sys2Proof.Machine.execMiPoll bay ok temp cw life s
  | .drvGroupSet h g mode sris => Sys2Proof.Machine.execDrvGroupSet h g mode sris s
  | .drvGrpCfgWrite g mode sris => Sys2Proof.Machine.execDrvGrpCfgWrite g mode sris s
  | .drvCfgSet h cfg tmo idle => Sys2Proof.Machine.execDrvCfgSet h cfg tmo idle s
  | .presenceStable bay => Sys2Proof.Machine.execPresenceStable bay s
  | .presenceLost bay => Sys2Proof.Machine.execPresenceLost bay s
  | .pdlCmdEnable bay => Sys2Proof.Machine.execPdlCmdEnable bay s
  | .pdlCmdDisable bay => Sys2Proof.Machine.execPdlCmdDisable bay s
  | .pdlCmdCycle bay => Sys2Proof.Machine.execPdlCmdCycle bay s
  | .bayPower h bays action => Sys2Proof.Machine.execBayPower h bays action s
  | .rampStart => Sys2Proof.Machine.execRampStart s
  | .railFullEnhancement bay main => Sys2Proof.Machine.execRailFullEnhancement bay main s
  | .railPowerGood bay main => Sys2Proof.Machine.execRailPowerGood bay main s
  | .gateCheckTimeout bay main => Sys2Proof.Machine.execGateCheckTimeout bay main s
  | .rampStallTimeout bay main => Sys2Proof.Machine.execRampStallTimeout bay main s
  | .currentLimitOnset bay main => Sys2Proof.Machine.execCurrentLimitOnset bay main s
  | .currentLimitClear bay => Sys2Proof.Machine.execCurrentLimitClear bay s
  | .faultTimerExpiry bay => Sys2Proof.Machine.execFaultTimerExpiry bay s
  | .railShort bay main => Sys2Proof.Machine.execRailShort bay main s
  | .paddleRetryExpiry bay => Sys2Proof.Machine.execPaddleRetryExpiry bay s
  | .faultCountClear bay => Sys2Proof.Machine.execFaultCountClear bay s
  | .auxRailOff bay => Sys2Proof.Machine.execAuxRailOff bay s
  | .cycleOffExpiry bay => Sys2Proof.Machine.execCycleOffExpiry bay s
  | .paddleCfg h bays cfg0 cfg1 sense => Sys2Proof.Machine.execPaddleCfg h bays cfg0 cfg1 sense s
  | .paddleQuery h bays => Sys2Proof.Machine.execPaddleQuery h bays s
  | .feedForwardTurnOn f => Sys2Proof.Machine.execFeedForwardTurnOn f s
  | .feedReverseTrip f => Sys2Proof.Machine.execFeedReverseTrip f s
  | .feedStateChange f vin => Sys2Proof.Machine.execFeedStateChange f vin s
  | .feedUnblock f vin vshelf => Sys2Proof.Machine.execFeedUnblock f vin vshelf s
  | .feedHealthDegraded f => Sys2Proof.Machine.execFeedHealthDegraded f s
  | .feedHealthOpen f => Sys2Proof.Machine.execFeedHealthOpen f s
  | .wirCtlWrite enA enB drillH => Sys2Proof.Machine.execWirCtlWrite enA enB drillH s
  | .feedDrillTimer => Sys2Proof.Machine.execFeedDrillTimer s
  | .wirDrillNow => Sys2Proof.Machine.execWirDrillNow s
  | .feedDrill h => Sys2Proof.Machine.execFeedDrill h s
  | .drillEnd share => Sys2Proof.Machine.execDrillEnd share s
  | .feedCfg h enA enB drillH uv ov fwdMax rs => Sys2Proof.Machine.execFeedCfg h enA enB drillH uv ov fwdMax rs s
  | .feedQuery h => Sys2Proof.Machine.execFeedQuery h s
  | .heartbeatTimer => Sys2Proof.Machine.execHeartbeatTimer s
  | .heartbeatReceive f b => Sys2Proof.Machine.execHeartbeatReceive f b s
  | .partnerLost => Sys2Proof.Machine.execPartnerLost s
  | .promptReceive f entries => Sys2Proof.Machine.execPromptReceive f entries s
  | .promptResendExpiry => Sys2Proof.Machine.execPromptResendExpiry s
  | .promptAckReceive f seq => Sys2Proof.Machine.execPromptAckReceive f seq s
  | .checkpointBatchExpiry => Sys2Proof.Machine.execCheckpointBatchExpiry s
  | .windowReqReceive f first last kind => Sys2Proof.Machine.execWindowReqReceive f first last kind s
  | .windowReadyReceive f held => Sys2Proof.Machine.execWindowReadyReceive f held s
  | .ckptReceive f entries image => Sys2Proof.Machine.execCkptReceive f entries image s
  | .ckptAckReceive f seq offset => Sys2Proof.Machine.execCkptAckReceive f seq offset s
  | .windowCloseExpiry => Sys2Proof.Machine.execWindowCloseExpiry s
  | .yieldReceive f epoch reqSeq => Sys2Proof.Machine.execYieldReceive f epoch reqSeq s
  | .prepareReceive f action => Sys2Proof.Machine.execPrepareReceive f action s
  | .healthReqReceive f => Sys2Proof.Machine.execHealthReqReceive f s
  | .healthRptReceive f result failed ppm age => Sys2Proof.Machine.execHealthRptReceive f result failed ppm age s
  | .relayReceive f inner => Sys2Proof.Machine.execRelayReceive f inner s
  | .relayRcptReceive f total offset bytes => Sys2Proof.Machine.execRelayRcptReceive f total offset bytes s
  | .renewalRoundStart => Sys2Proof.Machine.execRenewalRoundStart s
  | .leaseOperationComplete w result => Sys2Proof.Machine.execLeaseOperationComplete w result s
  | .leaseOperationTimeout w => Sys2Proof.Machine.execLeaseOperationTimeout w s
  | .selfFence cause => Sys2Proof.Machine.execSelfFence cause s
  | .leaseWaitExpiry reads => Sys2Proof.Machine.execLeaseWaitExpiry reads s
  | .claimBackoffExpiry reads => Sys2Proof.Machine.execClaimBackoffExpiry reads s
  | .bollardRecheckExpiry => Sys2Proof.Machine.execBollardRecheckExpiry s
  | .bollardCheckRead reads => Sys2Proof.Machine.execBollardCheckRead reads s
  | .pairListenExpiry => Sys2Proof.Machine.execPairListenExpiry s
  | .takeover h force => Sys2Proof.Machine.execTakeover h force s
  | .plannedDrainExpiry => Sys2Proof.Machine.execPlannedDrainExpiry s
  | .pairSet h en pairId partner prefer => Sys2Proof.Machine.execPairSet h en pairId partner prefer s
  | .pairQuery h => Sys2Proof.Machine.execPairQuery h s
  | .witnessSet h bays => Sys2Proof.Machine.execWitnessSet h bays s
  | .partnerHealth h => Sys2Proof.Machine.execPartnerHealth h s
  | .ckptResync h => Sys2Proof.Machine.execCkptResync h s
  | .partnerRelay h inner => Sys2Proof.Machine.execPartnerRelay h inner s
  | .lkpCheckpoint => Sys2Proof.Machine.execLkpCheckpoint s
  | .lkpCoreSwitch => Sys2Proof.Machine.execLkpCoreSwitch s
  | .lkpDrillTimer => Sys2Proof.Machine.execLkpDrillTimer s
  | .lkpDrillNow => Sys2Proof.Machine.execLkpDrillNow s
  | .lkpDrill h => Sys2Proof.Machine.execLkpDrill h s
  | .lkpDrillComplete pass durMs => Sys2Proof.Machine.execLkpDrillComplete pass durMs s
  | .lkpSwitch h => Sys2Proof.Machine.execLkpSwitch h s
  | .standbyHealthCheck failed ppm => Sys2Proof.Machine.execStandbyHealthCheck failed ppm s
  | .managementWindowOpen => Sys2Proof.Machine.execManagementWindowOpen s
  | .managementWindowClose => Sys2Proof.Machine.execManagementWindowClose s
  | .idlePolicyEval admitted => Sys2Proof.Machine.execIdlePolicyEval admitted s
  | .powerStateSet h target => Sys2Proof.Machine.execPowerStateSet h target s
  | .twpPwrReqGo target => Sys2Proof.Machine.execTwpPwrReqGo target s
  | .quiesceClear => Sys2Proof.Machine.execQuiesceClear s
  | .quiesceExpiry => Sys2Proof.Machine.execQuiesceExpiry s
  | .powerEntryCommit => Sys2Proof.Machine.execPowerEntryCommit s
  | .wakeEvent source index => Sys2Proof.Machine.execWakeEvent source index s
  | .exitComplete badRows imageBad => Sys2Proof.Machine.execExitComplete badRows imageBad s
  | .wakeTimerExpiry => Sys2Proof.Machine.execWakeTimerExpiry s
  | .parkDecision admittedPerSecond => Sys2Proof.Machine.execParkDecision admittedPerSecond s
  | .engineParked e => Sys2Proof.Machine.execEngineParked e s
  | .tugGroupGate g => Sys2Proof.Machine.execTugGroupGate g s
  | .mboxGo => Sys2Proof.Machine.execMboxGo s
  | .manifestDatagram inband v6 addr vlan port src bytes => Sys2Proof.Machine.execManifestDatagram inband v6 addr vlan port src bytes s
  | .sessionIdleExpiry session => Sys2Proof.Machine.execSessionIdleExpiry session s
  | .manifestTimeout h => Sys2Proof.Machine.execManifestTimeout h s
  | .capList h => Sys2Proof.Machine.execCapList h s
  | .sessionOpen h keyId nonceH => Sys2Proof.Machine.execSessionOpen h keyId nonceH s
  | .sessionClose h => Sys2Proof.Machine.execSessionClose h s
  | .identify h => Sys2Proof.Machine.execIdentify h s
  | .timeSet h ms => Sys2Proof.Machine.execTimeSet h ms s
  | .warmRestart h => Sys2Proof.Machine.execWarmRestart h s
  | .faultQuery h clear => Sys2Proof.Machine.execFaultQuery h clear s
  | .eventRead h count clear => Sys2Proof.Machine.execEventRead h count clear s
  | .subsysSet h ix nqn => Sys2Proof.Machine.execSubsysSet h ix nqn s
  | .subsysDelete h ix => Sys2Proof.Machine.execSubsysDelete h ix s
  | .nsCreate h nsid subsys array size lbafs piTypes mode slot ledgered => Sys2Proof.Machine.execNsCreate h nsid subsys array size lbafs piTypes mode slot ledgered s
  | .nsDelete h nsid => Sys2Proof.Machine.execNsDelete h nsid s
  | .nsAttach h nsid hosts attach => Sys2Proof.Machine.execNsAttach h nsid hosts attach s
  | .hostSet h ix e => Sys2Proof.Machine.execHostSet h ix e s
  | .hostDelete h ix => Sys2Proof.Machine.execHostDelete h ix s
  | .nsQuery h nsid => Sys2Proof.Machine.execNsQuery h nsid s
  | .dockCreate h host kind size perms bind tag => Sys2Proof.Machine.execDockCreate h host kind size perms bind tag s
  | .dockRevoke h rkey => Sys2Proof.Machine.execDockRevoke h rkey s
  | .authSecretSet h ix hostSecret ctrlSecret hash => Sys2Proof.Machine.execAuthSecretSet h ix hostSecret ctrlSecret hash s
  | .authSecretClear h ix => Sys2Proof.Machine.execAuthSecretClear h ix s
  | .manifestKeySet h k key => Sys2Proof.Machine.execManifestKeySet h k key s
  | .manifestKeyClear h k => Sys2Proof.Machine.execManifestKeyClear h k s
  | .powerQuery h => Sys2Proof.Machine.execPowerQuery h s
  | .tallySelect h n sel thr => Sys2Proof.Machine.execTallySelect h n sel thr s
  | .tallyDumpSet h set period target slots => Sys2Proof.Machine.execTallyDumpSet h set period target slots s
  | .tallyRead h set => Sys2Proof.Machine.execTallyRead h set s
  | .tallyUser h en => Sys2Proof.Machine.execTallyUser h en s
  | .laneMargin h quad ix lane time volt => Sys2Proof.Machine.execLaneMargin h quad ix lane time volt s
  | .moorQuery h => Sys2Proof.Machine.execMoorQuery h s
  | .unmoor h confirm => Sys2Proof.Machine.execUnmoor h confirm s
  | .fwStage h offset chunk => Sys2Proof.Machine.execFwStage h offset chunk s
  | .fwCommit h length sha signatureOk => Sys2Proof.Machine.execFwCommit h length sha signatureOk s
  | .fwActivate h atTakeover => Sys2Proof.Machine.execFwActivate h atTakeover s
  | .fwQuery h => Sys2Proof.Machine.execFwQuery h s
  | .bar2Read off len => Sys2Proof.Machine.execBar2Read off len s
  | .bar2Write off data => Sys2Proof.Machine.execBar2Write off data s
  | .eptWinCtlWrite ix valid rd wr space sizeLog2 => Sys2Proof.Machine.execEptWinCtlWrite ix valid rd wr space sizeLog2 s
  | .copyGo dir vec => Sys2Proof.Machine.execCopyGo dir vec s
  | .copyComplete data hostError => Sys2Proof.Machine.execCopyComplete data hostError s
  | .completionTimeout => Sys2Proof.Machine.execCompletionTimeout s
  | .msixPendingSend vec => Sys2Proof.Machine.execMsixPendingSend vec s
  | .pePerstAssert => Sys2Proof.Machine.execPePerstAssert s
  | .hotReset => Sys2Proof.Machine.execHotReset s
  | .flr => Sys2Proof.Machine.execFlr s
  | .endpointLinkUp speed width bme msixEn fmask tenBit => Sys2Proof.Machine.execEndpointLinkUp speed width bme msixEn fmask tenBit s
  | .powerOn => Sys2Proof.Machine.execPowerOn s
  | .towpathResetRelease => Sys2Proof.Machine.execTowpathResetRelease s
  | .mooringsRestore => Sys2Proof.Machine.execMooringsRestore s
  | .pwrgdRise g => Sys2Proof.Machine.execPwrgdRise g s
  | .pwrgdTimeout g => Sys2Proof.Machine.execPwrgdTimeout g s
  | .powerSequenceRetry => Sys2Proof.Machine.execPowerSequenceRetry s
  | .pwrgdFall g => Sys2Proof.Machine.execPwrgdFall g s
  | .canalDieUp => Sys2Proof.Machine.execCanalDieUp s
  | .reservoirTrained => Sys2Proof.Machine.execReservoirTrained s
  | .lockkeeperStarted => Sys2Proof.Machine.execLockkeeperStarted s
  | .assembleTimeout => Sys2Proof.Machine.execAssembleTimeout s
  | .resetNAssert => Sys2Proof.Machine.execResetNAssert s
  | .resetNRelease => Sys2Proof.Machine.execResetNRelease s
  | .warmRestartDrainEnd => Sys2Proof.Machine.execWarmRestartDrainEnd s
  | .watchdogKick core => Sys2Proof.Machine.execWatchdogKick core s
  | .watchdogExpiry => Sys2Proof.Machine.execWatchdogExpiry s
  | .faultHoldExpiry => Sys2Proof.Machine.execFaultHoldExpiry s
  | .moorJournalWrite ok => Sys2Proof.Machine.execMoorJournalWrite ok s
  | .journalCompaction outcome => Sys2Proof.Machine.execJournalCompaction outcome s
  | .vddTwpFall => Sys2Proof.Machine.execVddTwpFall s
  | .thermalTrip => Sys2Proof.Machine.execThermalTrip s
  | .coreLossOfLock => Sys2Proof.Machine.execCoreLossOfLock s
  | .pllLossOfLock pll => Sys2Proof.Machine.execPllLossOfLock pll s
  | .clkFreqIdxWrite domain inst => Sys2Proof.Machine.execClkFreqIdxWrite domain inst s
  | .freqMeasurementEnd khz => Sys2Proof.Machine.execFreqMeasurementEnd khz s
  | .talSelWrite n v => Sys2Proof.Machine.execTalSelWrite n v s
  | .talThrWrite n v => Sys2Proof.Machine.execTalThrWrite n v s
  | .talClrGo index all => Sys2Proof.Machine.execTalClrGo index all s
  | .tallyWindowEnd n => Sys2Proof.Machine.execTallyWindowEnd n s
  | .dumpTick => Sys2Proof.Machine.execDumpTick s
  | .dumpRecordWritten ok => Sys2Proof.Machine.execDumpRecordWritten ok s
  | .spbBankCtlWrite k req => Sys2Proof.Machine.execSpbBankCtlWrite k req s
  | .largeBankUe k unit qps corrected => Sys2Proof.Machine.execLargeBankUe k unit qps corrected s
  | .stackTempChange stack celsius => Sys2Proof.Machine.execStackTempChange stack celsius s
  | .registerWrite who addr v eight => Sys2Proof.Machine.execRegisterWrite who addr v eight s
  | .registerRead who addr eight => Sys2Proof.Machine.execRegisterRead who addr eight s
  | .lpiExit port rx => Sys2Proof.Machine.execLpiExit port rx s
  | .cstsRdyClear bay => Sys2Proof.Machine.execCstsRdyClear bay s
  | .heartbeatPathLost aqd => Sys2Proof.Machine.execHeartbeatPathLost aqd s
  | .aqueductLaneDown lane => Sys2Proof.Machine.execAqueductLaneDown lane s
  | .aqueductLaneUp lane => Sys2Proof.Machine.execAqueductLaneUp lane s
  | .powerEntryComplete => Sys2Proof.Machine.execPowerEntryComplete s
  | .pllLockReturn pll => Sys2Proof.Machine.execPllLockReturn pll s
  | .endpointLinkDown => Sys2Proof.Machine.execEndpointLinkDown s
  | .rnrRetryExpiry qp => Sys2Proof.Machine.execRnrRetryExpiry qp s
  | .temperatureThresholdCrossing kelvin => Sys2Proof.Machine.execTemperatureThresholdCrossing kelvin s

end Sys2Proof.Machine
end

