-- ==== Sys2Proof/Machine/Idle.lean ====
section
/-! DEFINITION. What the block does when no command waits: a manifest that waited for its object starts (R362), else
40 ns of device time pass (R419) and admin commands in their slots go on (R43). -/

namespace Sys2Proof.Machine

/-- Canal cycles from device time 0 to `t`: 1.75 GHz, 1/16 of it in P2 (R413). -/
def canalCycles (p2 : Bool) (t : Nat) : Nat := t * 7 / (if p2 then 64 else 4)

/-- One step of device time (R419): canal cycles reach the tally, which samples its levels (R399, R401), full
microseconds count as residency (Table 19-1), and the cleaning walk goes on (R209). -/
def State.passTime (s : State) : State :=
  let t := { s with now := s.now + 40 }
  let n := if s.blkOff .tal 0 then 0 else canalCycles (s.cur == 2) t.now - canalCycles (s.cur == 2) s.now
  let t := (t.tally 0x001 0 n).tallyCycles n
  let t := if t.now % 1000 = 0 then t.tally 0x130 t.cur 1 else t
  if n = 70 then t.walkTick else t

/-- The block with no command to take (log entry 3). -/
def State.idleStep (s : State) : State :=
  match s.startWaiting with
  | some t => t
  | none => s.passTime.slotsGo

end Sys2Proof.Machine
end

