-- ==== Sys2Proof/Parts.lean ====
section
/-! DEFINITION. Which parts of the state each command may change: the frames that claims state. -/

namespace Sys2Proof

/-- The parts of the state that a command may change. -/
inductive Part
  | regs | latch | loHeld | mrd | store | fw | rst | pwr | mft | ept | shelf | host | brg | tug | tal | net |
  pair | peerOut | ary | cip | slc | cnl | whf | res | port | idle | drives | away | out | timeBase | free
  deriving DecidableEq, Repr

/-- Every part. -/
def Part.all : List Part :=
  [.regs, .latch, .loHeld, .mrd, .store, .fw, .rst, .pwr, .mft, .ept, .shelf, .host, .brg, .tug, .tal, .net,
   .pair, .peerOut, .ary, .cip, .slc, .cnl, .whf, .res, .port, .idle, .drives, .away, .out, .timeBase, .free]

/-- Every part but those of `l`. -/
def Part.but (l : List Part) : List Part := Part.all.filter fun p => !l.contains p

/-- The parts that a command of this kind may change; what is not named it leaves as it is. -/
def Instr.mayChange (c : Instr) : List Part :=
  match c with
  | .rateIntervalExpiry => [.tug]
  | .bankReturnOn .. => [.regs]
  | .cnlAttIdxWrite .. => [.regs]
  | .aryRemIdxWrite .. => [.regs]
  | .gatherAgeExpiry .. => [.ary]
  | .cipKeyDataWrite .. => [.cip]
  | .cipSerialWrite .. => [.cip]
  | .keyCacheFill .. => [.cip]
  | .pauseTimerExpiry .. => [.regs]
  | .railFullEnhancement .. => [.shelf]
  | .faultCountClear .. => [.regs]
  | .feedHealthDegraded .. => [.regs]
  | .feedHealthOpen .. => [.regs]
  | .feedDrillTimer => [.regs]
  | .wirDrillNow => [.regs]
  | .promptResendExpiry => [.peerOut]
  | .lkpCheckpoint => [.pair]
  | .standbyHealthCheck .. => [.pair]
  | .tugGroupGate .. => [.regs]
  | .sessionIdleExpiry .. => [.mft]
  | .towpathResetRelease => [.rst]
  | .resetNRelease => [.rst]
  | .watchdogKick .. => [.rst]
  | .faultHoldExpiry => [.rst]
  | .vddTwpFall => [.store]
  | .freqMeasurementEnd .. => [.regs]
  | .tallyWindowEnd .. => [.tal]
  | .lpiExit .. => [.regs]
  | .heartbeatPathLost .. => [.regs]
  | .aqueductLaneDown .. => [.regs]
  | .aqueductLaneUp .. => [.regs]
  | .endpointLinkDown => [.regs]
  | .cmRtu .. => [.tug, .tal]
  | .probationTimeout .. => [.tug, .out]
  | .reorderTimerExpiry .. => [.tal, .out]
  | .cnpReceive .. => [.tug, .tal]
  | .tcpDelackExpiry .. => [.tug, .out]
  | .tugQptIdxWrite .. => [.regs, .free]
  | .towLook .. => [.brg, .tal]
  | .brgBerthIdxWrite .. => [.regs, .brg]
  | .scrubPassTimer .. => [.mrd, .ary]
  | .maintRangeComplete => [.regs, .whf]
  | .cipSlotIdxWrite .. => [.regs, .cip]
  | .cipherCell .. => [.tal, .cip]
  | .entropyWindow .. => [.regs, .cip]
  | .lpiEntry .. => [.regs, .tal]
  | .driveMemoryRead .. => [.port, .out]
  | .driveMemoryWrite .. => [.port, .out]
  | .readyWaitExpiry .. => [.port, .out]
  | .presenceStable .. => [.regs, .out]
  | .currentLimitClear .. => [.regs, .shelf]
  | .paddleRetryExpiry .. => [.regs, .shelf]
  | .auxRailOff .. => [.shelf, .out]
  | .cycleOffExpiry .. => [.regs, .shelf]
  | .heartbeatTimer => [.pair, .peerOut]
  | .windowCloseExpiry => [.pair, .out]
  | .healthReqReceive .. => [.regs, .peerOut]
  | .renewalRoundStart => [.pair, .out]
  | .lkpDrillTimer => [.regs, .pair]
  | .lkpDrillNow => [.regs, .pair]
  | .managementWindowOpen => [.pwr, .ept]
  | .engineParked .. => [.regs, .brg]
  | .eptWinCtlWrite .. => [.regs, .ept]
  | .msixPendingSend .. => [.ept, .out]
  | .endpointLinkUp .. => [.regs, .ept]
  | .powerSequenceRetry => [.rst, .out]
  | .reservoirTrained => [.store, .rst]
  | .talClrGo .. => [.regs, .tal]
  | .dumpTick => [.regs, .tal]
  | .stackTempChange .. => [.regs, .out]
  | .cstsRdyClear .. => [.port, .out]
  | .ackDelayExpiry .. => [.tug, .tal, .out]
  | .h2cData .. => [.host, .brg, .ary]
  | .engineTake .. => [.brg, .tal, .free]
  | .berthSnapshotComplete => [.regs, .brg, .free]
  | .creditIssue .. => [.brg, .cnl, .out]
  | .segmentIssue .. => [.tal, .ary, .out]
  | .maintClean .. => [.regs, .tal, .whf]
  | .maintInvalidate .. => [.regs, .tal, .whf]
  | .maintCleanInvalidate .. => [.regs, .tal, .whf]
  | .drbgReseed .. => [.regs, .cip, .out]
  | .pfcRefreshExpiry .. => [.regs, .tal, .out]
  | .subscriberChoice .. => [.regs, .slc, .out]
  | .neighbourRevalidate .. => [.regs, .tal, .out]
  | .drivePerstRelease .. => [.regs, .port, .out]
  | .driveLinkUp .. => [.regs, .port, .out]
  | .driveShutdownComplete .. => [.regs, .port, .out]
  | .driveIdleT1Expiry .. => [.regs, .idle, .out]
  | .driveIdleT2Expiry .. => [.regs, .idle, .out]
  | .miPoll .. => [.regs, .port, .out]
  | .rampStart => [.regs, .shelf, .out]
  | .currentLimitOnset .. => [.regs, .shelf, .port]
  | .feedForwardTurnOn .. => [.regs, .shelf, .out]
  | .checkpointBatchExpiry => [.regs, .pair, .peerOut]
  | .windowReadyReceive .. => [.regs, .pair, .peerOut]
  | .quiesceClear => [.pwr, .port, .out]
  | .copyGo .. => [.regs, .ept, .out]
  | .pwrgdRise .. => [.regs, .rst, .out]
  | .spbBankCtlWrite .. => [.regs, .brg, .tug]
  | .cmReq .. => [.tug, .tal, .out, .free]
  | .ackReceive .. => [.regs, .tug, .tal, .out]
  | .selectiveNakReceive .. => [.regs, .tug, .tal, .out]
  | .pathProbeExpiry .. => [.regs, .tug, .tal, .out]
  | .towArrival .. => [.pwr, .brg, .tal, .free]
  | .linkUp .. => [.regs, .tal, .net, .out]
  | .linkDown .. => [.regs, .tug, .tal, .out]
  | .neighbourRetryExpiry .. => [.regs, .tal, .net, .out]
  | .driveCommandTimeout .. => [.regs, .tal, .port, .out]
  | .railPowerGood .. => [.regs, .shelf, .port, .out]
  | .gateCheckTimeout .. => [.regs, .shelf, .port, .out]
  | .rampStallTimeout .. => [.regs, .shelf, .port, .out]
  | .faultTimerExpiry .. => [.regs, .shelf, .port, .out]
  | .railShort .. => [.regs, .shelf, .port, .out]
  | .completionTimeout => [.regs, .ept, .out, .free]
  | .pwrgdTimeout .. => [.rst, .mft, .ept, .out]
  | .clkFreqIdxWrite .. => [.regs, .store, .pair, .peerOut]
  | .authenticationReceive .. => [.regs, .host, .tug, .tal, .out]
  | .hostDataArrival .. => [.regs, .brg, .tug, .tal, .out]
  | .brgBankCtlWrite .. => [.regs, .store, .brg, .pair, .peerOut]
  | .cnlPartCfgWrite .. => [.regs, .store, .pair, .peerOut, .cnl]
  | .cnlSpillCfgWrite .. => [.regs, .store, .pair, .peerOut, .cnl]
  | .wharfWritebackComplete .. => [.brg, .tal, .whf, .res, .out]
  | .wharfDisable => [.regs, .store, .pair, .peerOut, .whf]
  | .wharfEnable => [.regs, .store, .pair, .peerOut, .whf]
  | .cipPairKeyWrite .. => [.regs, .mrd, .store, .pair, .peerOut]
  | .egressFrameChoice .. => [.regs, .tal, .slc, .cnl, .out]
  | .slcModeWrite .. => [.regs, .store, .pair, .peerOut, .slc]
  | .drvGrpCfgWrite .. => [.regs, .store, .pair, .peerOut, .out]
  | .pdlCmdEnable .. => [.regs, .store, .shelf, .pair, .peerOut]
  | .promptReceive .. => [.regs, .mrd, .store, .pair, .peerOut]
  | .windowReqReceive .. => [.regs, .store, .pair, .peerOut, .out]
  | .ckptReceive .. => [.regs, .mrd, .store, .pair, .peerOut]
  | .managementWindowClose => [.regs, .pwr, .ept, .out, .free]
  | .parkDecision .. => [.regs, .host, .brg, .tal, .free]
  | .hotReset => [.regs, .mft, .ept, .out, .free]
  | .flr => [.regs, .mft, .ept, .out, .free]
  | .talSelWrite .. => [.regs, .store, .tal, .pair, .peerOut]
  | .talThrWrite .. => [.regs, .store, .tal, .pair, .peerOut]
  | .dumpRecordWritten .. => [.regs, .ept, .tal, .res, .out]
  | .pllLockReturn .. => [.regs, .rst, .tug, .tal, .out]
  | .basinReturnComplete .. => [.regs, .pwr, .host, .brg, .tal, .free]
  | .staircaseStepComplete .. => [.regs, .brg, .tug, .tal, .res, .out]
  | .cellAgeDiscard .. => [.regs, .store, .tal, .pair, .peerOut, .cnl]
  | .discardNotice => [.regs, .store, .tal, .pair, .peerOut, .cnl]
  | .wharfFillComplete .. => [.regs, .brg, .tal, .whf, .res, .out]
  | .cleaningWalkComplete => [.regs, .brg, .tal, .whf, .res, .out]
  | .lighterEnWrite .. => [.regs, .store, .tal, .pair, .peerOut, .whf]
  | .pePerstAssert => [.regs, .pwr, .mft, .ept, .out, .free]
  | .canalDieUp => [.regs, .rst, .tug, .tal, .cip, .out]
  | .connect .. => [.regs, .host, .brg, .tug, .tal, .out, .free]
  | .spillRecall .. => [.regs, .store, .tal, .pair, .peerOut, .cnl, .free]
  | .ctlStuck .. => [.regs, .rst, .mft, .ept, .pair, .peerOut, .out]
  | .arrayQuery .. => [.regs, .store, .mft, .ept, .pair, .peerOut, .out]
  | .ledgerRepairSegment .. => [.regs, .mrd, .store, .pair, .peerOut, .ary, .drives]
  | .keyQuery .. => [.regs, .store, .mft, .ept, .pair, .peerOut, .out]
  | .slcCfgSet .. => [.regs, .store, .mft, .ept, .pair, .peerOut, .out]
  | .quadReconfigWrite .. => [.regs, .store, .tug, .tal, .pair, .peerOut, .out]
  | .portQuery .. => [.regs, .store, .mft, .ept, .pair, .peerOut, .out]
  | .aclQuery .. => [.regs, .store, .mft, .ept, .pair, .peerOut, .out]
  | .perstPulseEnd .. => [.regs, .store, .shelf, .pair, .peerOut, .port, .out]
  | .drvGroupSet .. => [.regs, .store, .mft, .ept, .pair, .peerOut, .out]
  | .pdlCmdDisable .. => [.regs, .store, .shelf, .pair, .peerOut, .port, .out]
  | .pdlCmdCycle .. => [.regs, .store, .shelf, .pair, .peerOut, .port, .out]
  | .paddleCfg .. => [.regs, .store, .mft, .ept, .pair, .peerOut, .out]
  | .feedDrill .. => [.regs, .store, .mft, .ept, .pair, .peerOut, .out]
  | .promptAckReceive .. => [.regs, .store, .mft, .ept, .pair, .peerOut, .out]
  | .ckptAckReceive .. => [.regs, .store, .mft, .ept, .pair, .peerOut, .out]
  | .healthRptReceive .. => [.regs, .store, .mft, .ept, .pair, .peerOut, .out]
  | .relayRcptReceive .. => [.regs, .store, .mft, .ept, .pair, .peerOut, .out]
  | .pairListenExpiry => [.regs, .store, .rst, .pwr, .pair, .peerOut, .out]
  | .pairQuery .. => [.regs, .store, .mft, .ept, .pair, .peerOut, .out]
  | .partnerHealth .. => [.regs, .store, .mft, .ept, .pair, .peerOut, .out]
  | .partnerRelay .. => [.regs, .store, .mft, .ept, .pair, .peerOut, .out]
  | .lkpDrill .. => [.regs, .store, .mft, .ept, .pair, .peerOut, .out]
  | .lkpDrillComplete .. => [.regs, .store, .mft, .ept, .pair, .peerOut, .out]
  | .capList .. => [.regs, .store, .mft, .ept, .pair, .peerOut, .out]
  | .sessionClose .. => [.regs, .store, .mft, .ept, .pair, .peerOut, .out]
  | .identify .. => [.regs, .store, .mft, .ept, .pair, .peerOut, .out]
  | .faultQuery .. => [.regs, .store, .mft, .ept, .pair, .peerOut, .out]
  | .eventRead .. => [.regs, .store, .mft, .ept, .pair, .peerOut, .out]
  | .nsQuery .. => [.regs, .store, .mft, .ept, .pair, .peerOut, .out]
  | .powerQuery .. => [.regs, .store, .mft, .ept, .pair, .peerOut, .out]
  | .tallyDumpSet .. => [.regs, .store, .mft, .ept, .pair, .peerOut, .out]
  | .tallyUser .. => [.regs, .store, .mft, .ept, .pair, .peerOut, .out]
  | .laneMargin .. => [.regs, .store, .mft, .ept, .pair, .peerOut, .out]
  | .moorQuery .. => [.regs, .store, .mft, .ept, .pair, .peerOut, .out]
  | .fwQuery .. => [.regs, .store, .mft, .ept, .pair, .peerOut, .out]
  | .temperatureThresholdCrossing .. => [.regs, .rst, .pwr, .host, .tug, .tal, .out]
  | .drainLimitExpiry .. => [.regs, .store, .mft, .ept, .tug, .pair, .peerOut, .out]
  | .scrubLog .. => [.regs, .store, .mft, .ept, .pair, .peerOut, .ary, .out]
  | .wharfDiscard .. => [.regs, .store, .mft, .ept, .pair, .peerOut, .whf, .out]
  | .serialSet .. => [.regs, .store, .mft, .ept, .pair, .peerOut, .cip, .out]
  | .pairKeyLoad .. => [.regs, .mrd, .store, .mft, .ept, .pair, .peerOut, .out]
  | .slcPortSet .. => [.regs, .store, .mft, .ept, .pair, .peerOut, .slc, .out]
  | .meterSet .. => [.regs, .store, .mft, .ept, .pair, .peerOut, .slc, .out]
  | .subNodeSet .. => [.regs, .store, .mft, .ept, .pair, .peerOut, .slc, .out]
  | .nsbSet .. => [.regs, .store, .mft, .ept, .pair, .peerOut, .slc, .out]
  | .discoverySet .. => [.regs, .mrd, .store, .mft, .ept, .pair, .peerOut, .out]
  | .aclSet .. => [.regs, .mrd, .store, .mft, .ept, .pair, .peerOut, .out]
  | .mgmtSrcSet .. => [.regs, .mrd, .store, .mft, .ept, .pair, .peerOut, .out]
  | .paddleQuery .. => [.regs, .store, .mft, .ept, .pair, .peerOut, .out, .free]
  | .feedReverseTrip .. => [.regs, .store, .mft, .ept, .shelf, .pair, .peerOut, .out]
  | .feedStateChange .. => [.regs, .store, .mft, .ept, .shelf, .pair, .peerOut, .out]
  | .feedUnblock .. => [.regs, .store, .mft, .ept, .shelf, .pair, .peerOut, .out]
  | .wirCtlWrite .. => [.regs, .store, .mft, .ept, .shelf, .pair, .peerOut, .out]
  | .drillEnd .. => [.regs, .store, .mft, .ept, .shelf, .pair, .peerOut, .out]
  | .feedCfg .. => [.regs, .store, .mft, .ept, .shelf, .pair, .peerOut, .out]
  | .feedQuery .. => [.regs, .store, .mft, .ept, .pair, .peerOut, .out, .free]
  | .witnessSet .. => [.regs, .store, .mft, .ept, .pair, .peerOut, .drives, .out]
  | .ckptResync .. => [.regs, .store, .mft, .ept, .pair, .peerOut, .out, .free]
  | .sessionOpen .. => [.regs, .store, .mft, .ept, .pair, .peerOut, .out, .free]
  | .timeSet .. => [.regs, .store, .mft, .ept, .pair, .peerOut, .out, .timeBase]
  | .warmRestart .. => [.regs, .store, .rst, .mft, .ept, .pair, .peerOut, .out]
  | .dockRevoke .. => [.regs, .store, .mft, .ept, .tug, .pair, .peerOut, .out]
  | .authSecretSet .. => [.regs, .mrd, .store, .mft, .ept, .pair, .peerOut, .out]
  | .authSecretClear .. => [.regs, .mrd, .store, .mft, .ept, .pair, .peerOut, .out]
  | .manifestKeySet .. => [.regs, .mrd, .store, .mft, .ept, .pair, .peerOut, .out]
  | .manifestKeyClear .. => [.regs, .mrd, .store, .mft, .ept, .pair, .peerOut, .out]
  | .tallySelect .. => [.regs, .store, .mft, .ept, .tal, .pair, .peerOut, .out]
  | .tallyRead .. => [.regs, .store, .mft, .ept, .tal, .pair, .peerOut, .out]
  | .unmoor .. => [.regs, .store, .rst, .mft, .ept, .pair, .peerOut, .out]
  | .fwStage .. => [.regs, .store, .fw, .mft, .ept, .pair, .peerOut, .out]
  | .fwCommit .. => [.regs, .store, .fw, .mft, .ept, .pair, .peerOut, .out]
  | .copyComplete .. => [.regs, .ept, .brg, .tal, .whf, .res, .out, .free]
  | .lockkeeperStarted => [.regs, .fw, .rst, .pwr, .shelf, .brg, .pair, .port]
  | .moorJournalWrite .. => [.regs, .store, .rst, .mft, .ept, .pair, .peerOut, .out]
  | .journalCompaction .. => [.regs, .store, .rst, .mft, .ept, .pair, .peerOut, .out]
  | .cellEntry .. => [.regs, .store, .tal, .net, .pair, .peerOut, .cnl, .out, .free]
  | .scrubStart .. => [.regs, .mrd, .store, .mft, .ept, .pair, .peerOut, .ary, .out]
  | .scrubStop .. => [.regs, .mrd, .store, .mft, .ept, .pair, .peerOut, .ary, .out]
  | .keyCommit .. => [.regs, .mrd, .store, .mft, .ept, .pair, .peerOut, .cip, .out]
  | .slotZeroise => [.regs, .mrd, .store, .mft, .ept, .pair, .peerOut, .cip, .out]
  | .keyLoad .. => [.regs, .mrd, .store, .mft, .ept, .pair, .peerOut, .cip, .out]
  | .keyZeroise .. => [.regs, .mrd, .store, .mft, .ept, .pair, .peerOut, .cip, .out]
  | .quadSet .. => [.regs, .store, .mft, .ept, .tug, .tal, .pair, .peerOut, .out]
  | .bayPower .. => [.regs, .store, .mft, .ept, .shelf, .pair, .peerOut, .port, .out]
  | .pairSet .. => [.regs, .mrd, .store, .mft, .ept, .pair, .peerOut, .out, .free]
  | .nsCreate .. => [.regs, .mrd, .store, .mft, .ept, .pair, .peerOut, .out, .free]
  | .dockCreate .. => [.regs, .store, .mft, .ept, .tug, .pair, .peerOut, .out, .free]
  | .fwActivate .. => [.regs, .store, .fw, .rst, .mft, .ept, .pair, .peerOut, .out]
  | .cellDelivery .. => [.regs, .store, .rst, .mft, .ept, .tal, .pair, .peerOut, .cnl, .out]
  | .arrayCreate .. => [.regs, .mrd, .store, .mft, .ept, .pair, .peerOut, .ary, .drives, .out]
  | .arrayZeroed .. => [.regs, .mrd, .store, .mft, .ept, .pair, .peerOut, .ary, .drives, .out]
  | .arrayDelete .. => [.regs, .mrd, .store, .mft, .ept, .pair, .peerOut, .ary, .drives, .out]
  | .sparePoolSet .. => [.regs, .mrd, .store, .mft, .ept, .pair, .peerOut, .ary, .drives, .out]
  | .memberReplace .. => [.regs, .mrd, .store, .mft, .ept, .pair, .peerOut, .ary, .drives, .out]
  | .arraySalvage .. => [.regs, .mrd, .store, .mft, .ept, .pair, .peerOut, .ary, .drives, .out]
  | .mooringsRestore => [.regs, .mrd, .store, .rst, .mft, .ept, .pair, .peerOut, .out, .free]
  | .engineFence .. => [.regs, .rst, .mft, .ept, .host, .brg, .tal, .pair, .peerOut, .out, .free]
  | .stepLimitExpiry .. => [.regs, .rst, .mft, .ept, .host, .brg, .tal, .pair, .peerOut, .out, .free]
  | .wharfAccess .. => [.regs, .rst, .mft, .ept, .brg, .tal, .pair, .peerOut, .whf, .res, .out]
  | .invalidationWalkEnd => [.regs, .store, .mft, .ept, .brg, .tal, .pair, .peerOut, .whf, .res, .out]
  | .laneFence .. => [.regs, .store, .rst, .mft, .ept, .tal, .pair, .peerOut, .cip, .cnl, .out]
  | .portSet .. => [.regs, .store, .mft, .ept, .host, .tug, .tal, .pair, .peerOut, .out, .free]
  | .addrDelete .. => [.regs, .mrd, .store, .mft, .ept, .host, .tug, .tal, .pair, .peerOut, .out]
  | .driveLinkLoss .. => [.regs, .store, .pwr, .brg, .tal, .pair, .peerOut, .cnl, .port, .idle, .out]
  | .rung1Expiry .. => [.regs, .store, .pwr, .brg, .tal, .pair, .peerOut, .cnl, .port, .idle, .out]
  | .rung2Expiry .. => [.regs, .store, .pwr, .brg, .tal, .pair, .peerOut, .cnl, .port, .idle, .out]
  | .drvCfgSet .. => [.regs, .store, .mft, .ept, .host, .tug, .tal, .pair, .peerOut, .out, .free]
  | .partnerLost => [.regs, .store, .rst, .pwr, .mft, .ept, .tal, .pair, .peerOut, .cip, .out]
  | .bollardRecheckExpiry => [.regs, .store, .rst, .pwr, .mft, .ept, .tal, .pair, .peerOut, .cip, .out]
  | .takeover .. => [.regs, .store, .rst, .pwr, .mft, .ept, .tal, .pair, .peerOut, .cip, .out]
  | .subsysSet .. => [.regs, .mrd, .store, .mft, .ept, .host, .tug, .tal, .pair, .peerOut, .out]
  | .subsysDelete .. => [.regs, .mrd, .store, .mft, .ept, .host, .tug, .tal, .pair, .peerOut, .out]
  | .nsAttach .. => [.regs, .mrd, .store, .mft, .ept, .host, .tug, .tal, .pair, .peerOut, .out]
  | .hostSet .. => [.regs, .mrd, .store, .mft, .ept, .host, .tug, .tal, .pair, .peerOut, .out]
  | .basinReset .. => [.regs, .store, .rst, .mft, .ept, .host, .brg, .tal, .pair, .peerOut, .out, .free]
  | .basinSelftestComplete .. => [.regs, .store, .rst, .mft, .ept, .host, .brg, .tal, .pair, .peerOut, .out,
      .free]
  | .dadComplete .. => [.regs, .mrd, .store, .mft, .ept, .host, .tug, .tal, .net, .pair, .peerOut, .out]
  | .addrSet .. => [.regs, .mrd, .store, .mft, .ept, .host, .tug, .tal, .net, .pair, .peerOut, .out]
  | .idlePolicyEval .. => [.regs, .store, .rst, .pwr, .mft, .ept, .shelf, .tal, .pair, .peerOut, .out, .free]
  | .powerStateSet .. => [.regs, .store, .rst, .pwr, .mft, .ept, .shelf, .tal, .pair, .peerOut, .out, .free]
  | .twpPwrReqGo .. => [.regs, .store, .rst, .pwr, .mft, .ept, .shelf, .tal, .pair, .peerOut, .out, .free]
  | .quiesceExpiry => [.regs, .store, .rst, .pwr, .mft, .ept, .shelf, .tal, .pair, .peerOut, .out, .free]
  | .powerEntryComplete => [.regs, .store, .rst, .pwr, .mft, .ept, .shelf, .tal, .pair, .peerOut, .out, .free]
  | .destageStart .. => [.regs, .mrd, .store, .host, .brg, .tug, .tal, .pair, .peerOut, .ary, .drives, .out,
      .free]
  | .destageComplete .. => [.regs, .mrd, .store, .host, .brg, .tug, .tal, .pair, .peerOut, .ary, .drives,
      .out, .free]
  | .replay .. => [.regs, .mrd, .store, .host, .brg, .tug, .tal, .pair, .peerOut, .ary, .drives, .out, .free]
  | .wakeEvent .. => [.regs, .store, .rst, .pwr, .mft, .ept, .shelf, .tal, .pair, .peerOut, .port, .out,
      .free]
  | .wakeTimerExpiry => [.regs, .store, .rst, .pwr, .mft, .ept, .shelf, .tal, .pair, .peerOut, .port, .out,
      .free]
  | .nsDelete .. => [.regs, .mrd, .store, .mft, .ept, .host, .brg, .tug, .tal, .pair, .peerOut, .ary, .drives,
      .out]
  | .propertySet .. => [.regs, .mrd, .store, .mft, .ept, .host, .brg, .tug, .tal, .pair, .peerOut, .ary, .cip,
      .cnl, .out]
  | .disconnect .. => [.regs, .mrd, .store, .mft, .ept, .host, .brg, .tug, .tal, .pair, .peerOut, .ary, .cip,
      .cnl, .out]
  | .authenticationTimeout .. => [.regs, .mrd, .store, .mft, .ept, .host, .brg, .tug, .tal, .pair, .peerOut,
      .ary, .cip, .cnl, .out]
  | .asynchronousEventRequest .. => [.regs, .mrd, .store, .mft, .ept, .host, .brg, .tug, .tal, .pair,
      .peerOut, .ary, .cip, .cnl, .out]
  | .keepAlive .. => [.regs, .mrd, .store, .mft, .ept, .host, .brg, .tug, .tal, .pair, .peerOut, .ary, .cip,
      .cnl, .out]
  | .keepAliveTimeout .. => [.regs, .mrd, .store, .mft, .ept, .host, .brg, .tug, .tal, .pair, .peerOut, .ary,
      .cip, .cnl, .out]
  | .admissionTurn .. => [.regs, .mrd, .store, .pwr, .host, .brg, .tug, .tal, .pair, .peerOut, .ary, .slc,
      .drives, .out, .free]
  | .cmDreq .. => [.regs, .mrd, .store, .mft, .ept, .host, .brg, .tug, .tal, .pair, .peerOut, .ary, .cip,
      .cnl, .out]
  | .cmDrep .. => [.regs, .mrd, .store, .mft, .ept, .host, .brg, .tug, .tal, .pair, .peerOut, .ary, .cip,
      .cnl, .out]
  | .dreqRetryExpiry .. => [.regs, .mrd, .store, .mft, .ept, .host, .brg, .tug, .tal, .pair, .peerOut, .ary,
      .cip, .cnl, .out]
  | .nakReceive .. => [.regs, .mrd, .store, .mft, .ept, .host, .brg, .tug, .tal, .pair, .peerOut, .ary, .cip,
      .cnl, .out]
  | .localAckTimeout .. => [.regs, .mrd, .store, .mft, .ept, .host, .brg, .tug, .tal, .pair, .peerOut, .ary,
      .cip, .cnl, .out]
  | .qpFlushComplete .. => [.regs, .mrd, .store, .mft, .ept, .host, .brg, .tug, .tal, .pair, .peerOut, .ary,
      .cip, .cnl, .out]
  | .tugFence .. => [.regs, .mrd, .store, .mft, .ept, .host, .brg, .tug, .tal, .pair, .peerOut, .ary, .cip,
      .cnl, .out]
  | .icreq .. => [.regs, .mrd, .store, .mft, .ept, .host, .brg, .tug, .tal, .pair, .peerOut, .ary, .cip, .cnl,
      .out]
  | .h2cTermReq .. => [.regs, .mrd, .store, .mft, .ept, .host, .brg, .tug, .tal, .pair, .peerOut, .ary, .cip,
      .cnl, .out]
  | .tcpRtoExpiry .. => [.regs, .mrd, .store, .mft, .ept, .host, .brg, .tug, .tal, .pair, .peerOut, .ary,
      .cip, .cnl, .out]
  | .rnrRetryExpiry .. => [.regs, .mrd, .store, .mft, .ept, .host, .brg, .tug, .tal, .pair, .peerOut, .ary,
      .cip, .cnl, .out]
  | .propertyGet .. => Part.but [.latch, .loHeld, .fw, .rst, .pwr, .shelf, .net, .slc, .whf, .res, .port,
      .idle, .drives, .away, .timeBase]
  | .authenticationSend .. => Part.but [.latch, .loHeld, .fw, .rst, .pwr, .shelf, .net, .slc, .whf, .res,
      .port, .idle, .drives, .away, .timeBase]
  | .completionCellAccept .. => Part.but [.latch, .loHeld, .fw, .rst, .pwr, .shelf, .net, .slc, .whf, .res,
      .port, .idle, .drives, .away, .timeBase]
  | .frameReceive .. => Part.but [.latch, .loHeld, .mrd, .fw, .host, .brg, .ary, .cip, .cnl, .whf, .res,
      .idle, .drives, .away, .timeBase]
  | .manifestTimeout .. => Part.but [.latch, .loHeld, .fw, .host, .brg, .tug, .cip, .slc, .cnl, .whf, .res,
      .idle, .drives, .away, .timeBase]
  | .hostDelete .. => Part.but [.latch, .loHeld, .fw, .rst, .pwr, .shelf, .net, .slc, .whf, .res, .port,
      .idle, .away, .timeBase, .free]
  | .capsuleArrival .. => Part.but [.latch, .loHeld, .fw, .rst, .pwr, .shelf, .net, .whf, .res, .port, .idle,
      .drives, .away, .timeBase]
  | .memberLoss .. => Part.but [.latch, .loHeld, .fw, .rst, .shelf, .net, .cip, .slc, .cnl, .whf, .res, .port,
      .away, .timeBase]
  | .memberFail .. => Part.but [.latch, .loHeld, .fw, .rst, .shelf, .net, .cip, .slc, .cnl, .whf, .res, .port,
      .away, .timeBase]
  | .rebuildStripe .. => Part.but [.latch, .loHeld, .fw, .rst, .shelf, .net, .cip, .slc, .cnl, .whf, .res,
      .port, .away, .timeBase]
  | .scrubStripe .. => Part.but [.latch, .loHeld, .fw, .rst, .shelf, .net, .cip, .slc, .cnl, .whf, .res,
      .port, .away, .timeBase]
  | .arrayAssembly .. => Part.but [.latch, .loHeld, .fw, .rst, .shelf, .net, .cip, .slc, .cnl, .whf, .res,
      .port, .away, .timeBase]
  | .segmentComplete .. => Part.but [.latch, .loHeld, .fw, .rst, .shelf, .net, .cip, .slc, .cnl, .whf, .res,
      .port, .away, .timeBase]
  | .assembleTimeout => Part.but [.latch, .loHeld, .fw, .rst, .shelf, .net, .cip, .slc, .cnl, .whf, .res,
      .port, .away, .timeBase]
  | .cancelComplete => Part.but [.latch, .loHeld, .fw, .rst, .shelf, .net, .cip, .slc, .whf, .res, .port,
      .away, .timeBase]
  | .nvmeIdentify .. => Part.but [.latch, .loHeld, .fw, .rst, .shelf, .net, .slc, .whf, .res, .port, .away,
      .timeBase]
  | .getLogPage .. => Part.but [.latch, .loHeld, .fw, .rst, .shelf, .net, .slc, .whf, .res, .port, .away,
      .timeBase]
  | .setFeatures .. => Part.but [.latch, .loHeld, .fw, .rst, .shelf, .net, .slc, .whf, .res, .port, .away,
      .timeBase]
  | .getFeatures .. => Part.but [.latch, .loHeld, .fw, .rst, .shelf, .net, .slc, .whf, .res, .port, .away,
      .timeBase]
  | .abort .. => Part.but [.latch, .loHeld, .fw, .rst, .shelf, .net, .slc, .whf, .res, .port, .away,
      .timeBase]
  | .formatNvm .. => Part.but [.latch, .loHeld, .fw, .rst, .shelf, .net, .slc, .whf, .res, .port, .away,
      .timeBase]
  | .engineStep .. => Part.but [.latch, .loHeld, .fw, .rst, .shelf, .net, .slc, .cnl, .whf, .res, .away,
      .timeBase]
  | .trainingWindowExpiry .. => Part.but [.latch, .loHeld, .fw, .rst, .shelf, .net, .slc, .cnl, .whf, .res,
      .away, .timeBase]
  | .driveInitTimeout .. => Part.but [.latch, .loHeld, .fw, .rst, .shelf, .net, .slc, .cnl, .whf, .res, .away,
      .timeBase]
  | .driveCompletion .. => Part.but [.latch, .loHeld, .fw, .rst, .shelf, .net, .slc, .cnl, .whf, .res, .away,
      .timeBase]
  | .rung3Expiry .. => Part.but [.latch, .loHeld, .fw, .rst, .shelf, .net, .slc, .cnl, .whf, .res, .away,
      .timeBase]
  | .lkpCoreSwitch => Part.but [.latch, .loHeld, .fw, .shelf, .net, .slc, .cnl, .whf, .res, .port, .away,
      .timeBase]
  | .lkpSwitch .. => Part.but [.latch, .loHeld, .fw, .shelf, .net, .slc, .cnl, .whf, .res, .port, .away,
      .timeBase]
  | .tcpSegmentReceive .. => Part.but [.latch, .loHeld, .fw, .rst, .shelf, .net, .whf, .res, .port, .away,
      .timeBase]
  | .driveInitComplete .. => Part.but [.latch, .loHeld, .fw, .rst, .shelf, .net, .slc, .cnl, .whf, .res,
      .timeBase]
  | .presenceLost .. => Part.but [.latch, .loHeld, .fw, .rst, .net, .slc, .cnl, .whf, .res, .away, .timeBase]
  | .largeBankUe .. => Part.but [.latch, .loHeld, .fw, .shelf, .net, .slc, .whf, .res, .port, .away,
      .timeBase]
  | .unsupportedOpcode .. => Part.but [.latch, .loHeld, .fw, .rst, .shelf, .net, .whf, .res, .away, .timeBase]
  | .read .. => Part.but [.latch, .loHeld, .fw, .rst, .shelf, .net, .whf, .res, .away, .timeBase]
  | .write .. => Part.but [.latch, .loHeld, .fw, .rst, .shelf, .net, .whf, .res, .away, .timeBase]
  | .flush .. => Part.but [.latch, .loHeld, .fw, .rst, .shelf, .net, .whf, .res, .away, .timeBase]
  | .compare .. => Part.but [.latch, .loHeld, .fw, .rst, .shelf, .net, .whf, .res, .away, .timeBase]
  | .compareAndWrite .. => Part.but [.latch, .loHeld, .fw, .rst, .shelf, .net, .whf, .res, .away, .timeBase]
  | .writeZeroes .. => Part.but [.latch, .loHeld, .fw, .rst, .shelf, .net, .whf, .res, .away, .timeBase]
  | .datasetManagement .. => Part.but [.latch, .loHeld, .fw, .rst, .shelf, .net, .whf, .res, .away, .timeBase]
  | .verify .. => Part.but [.latch, .loHeld, .fw, .rst, .shelf, .net, .whf, .res, .away, .timeBase]
  | .reservationRegister .. => Part.but [.latch, .loHeld, .fw, .rst, .shelf, .net, .whf, .res, .away,
      .timeBase]
  | .reservationReport .. => Part.but [.latch, .loHeld, .fw, .rst, .shelf, .net, .whf, .res, .away, .timeBase]
  | .reservationAcquire .. => Part.but [.latch, .loHeld, .fw, .rst, .shelf, .net, .whf, .res, .away,
      .timeBase]
  | .reservationRelease .. => Part.but [.latch, .loHeld, .fw, .rst, .shelf, .net, .whf, .res, .away,
      .timeBase]
  | .packetReceive .. => Part.but [.latch, .loHeld, .fw, .rst, .shelf, .net, .whf, .port, .away, .timeBase]
  | .dockWrite .. => Part.but [.latch, .loHeld, .fw, .rst, .shelf, .net, .whf, .port, .away, .timeBase]
  | .dockRead .. => Part.but [.latch, .loHeld, .fw, .rst, .shelf, .net, .whf, .port, .away, .timeBase]
  | .dockAtomic .. => Part.but [.latch, .loHeld, .fw, .rst, .shelf, .net, .whf, .port, .away, .timeBase]
  | .zeroLengthWrite .. => Part.but [.latch, .loHeld, .fw, .rst, .shelf, .net, .whf, .port, .away, .timeBase]
  | .staircaseInstall .. => Part.but [.latch, .loHeld, .fw, .rst, .shelf, .net, .whf, .port, .away, .timeBase]
  | .dockCommit .. => Part.but [.latch, .loHeld, .fw, .rst, .shelf, .net, .whf, .port, .away, .timeBase]
  | .powerEntryCommit => Part.but [.fw, .shelf, .drives, .away, .timeBase, .free]
  | .selfFence .. => Part.but [.fw, .port, .drives, .away, .timeBase]
  | .plannedDrainExpiry => Part.but [.fw, .port, .drives, .away, .timeBase]
  | .powerOn => Part.but [.fw, .peerOut, .drives, .away, .free]
  | .heartbeatReceive .. => Part.but [.fw, .drives, .away, .timeBase]
  | .yieldReceive .. => Part.but [.fw, .drives, .away, .timeBase]
  | .prepareReceive .. => Part.but [.fw, .drives, .away, .timeBase]
  | .relayReceive .. => Part.but [.latch, .loHeld, .res, .away]
  | .mboxGo => Part.but [.latch, .loHeld, .res, .away]
  | .manifestDatagram .. => Part.but [.latch, .loHeld, .res, .away]
  | .pwrgdFall .. => Part.but [.fw, .drives, .away, .timeBase]
  | .resetNAssert => Part.but [.fw, .drives, .away, .timeBase]
  | .warmRestartDrainEnd => Part.but [.fw, .drives, .away, .timeBase]
  | .thermalTrip => Part.but [.fw, .drives, .away, .timeBase]
  | .coreLossOfLock => Part.but [.fw, .drives, .away, .timeBase]
  | .pllLossOfLock .. => Part.but [.fw, .drives, .away, .timeBase]
  | .leaseOperationComplete .. => Part.but [.fw, .away, .timeBase]
  | .leaseOperationTimeout .. => Part.but [.fw, .away, .timeBase]
  | .leaseWaitExpiry .. => Part.but [.fw, .away, .timeBase]
  | .claimBackoffExpiry .. => Part.but [.fw, .away, .timeBase]
  | .bollardCheckRead .. => Part.but [.fw, .away, .timeBase]
  | .watchdogExpiry => Part.but [.fw, .away, .timeBase]
  | .exitComplete .. => Part.but [.away]
  | .bar2Read .. => Part.but [.away]
  | .bar2Write .. => Part.but [.away]
  | .registerWrite .. => Part.but [.away]
  | .registerRead .. => Part.but [.away]

end Sys2Proof
end

