-- ==== Sys2Proof/Safety.lean ====
section
/-! DEFINITION. The terms that claims use: a step proceeds, the sparse tables keep their one canonical form, a manifest is
taken up and answered. -/

namespace Sys2Proof.Machine

/-- The step at `s` ends in a next state. -/
def State.proceeds (s : State) : Prop := ∃ t, step s = .next t

/-- The canonical form of the register store, the latches, the held halves and the tables that commands address. -/
def State.tabsWf (s : State) : Bool :=
  Tab.wfD regStart s.regs && Tab.wf s.latch && Tab.wf s.loHeld && Tab.wf s.res && Tab.wf s.drives && Tab.wf s.ary &&
    Tab.wf s.port && Tab.wf s.idle && Tab.wf s.brg.eng && Tab.wf s.brg.berth && Tab.wf s.tug.qp && Tab.wf s.tug.conn &&
    Tab.wf s.tug.win && Tab.wf s.host.assoc && Tab.wf s.host.queue && Tab.wf s.mft.sessions && Tab.wf s.mrd.arr &&
    Tab.wf s.mrd.ns && Tab.wf s.mrd.hosts && Tab.wf s.mrd.keys

/-- The canonical form of a memory of bytes: addresses rise strictly and no entry equals what an unlisted address reads
as. -/
def Memory.wf (m : Tab Byte) : Bool := Tab.wf m

/-- What every step keeps: the reservoir, the latches and the held halves in canonical form, and device time on the grid
of the 25 MHz reference (R419). -/
def State.inv (s : State) : Prop :=
  Memory.wf s.res = true ∧ Tab.wf s.latch = true ∧ Tab.wf s.loHeld = true ∧ s.now % 40 = 0

/-- The block whose range holds offset `a` (Table 22-1). -/
def blkAt (a : Nat) : Option Blk := (findBlock a).map (·.blk)

/-- A manifest under header `h` with opcode `op` on the objects `objs` is executed at once: its channel carries the opcode,
it is admitted, nothing makes it wait, and its receipt is wanted (R353, R355, R359 to R362). -/
def State.takes (s : State) (h : Hdr) (op : Nat) (objs : List (ObjKind × Nat)) : Bool :=
  !chanRefuses h.chan op && (!s.agent || agentOps.contains op) && (s.admitMan h op).2 && !s.lkAsleep &&
    !(s.mustWait objs && (decide (h.session ≠ 0) || decide (h.chan = .mailbox))) &&
    !s.mft.mboxDrop.contains (h.session, h.seq)

/-- A receipt of the manifest with this status and these parameters has left, or waits for the partner (R319, R358). -/
def State.answered (t : State) (h : Hdr) (op : Nat) (st : MStat) (ps : List (List Byte)) : Prop :=
  Out.receipt (receiptOf h op st (params ps)) ∈ t.out ∨
    ∃ n, (n, h, receiptOf h op st (params ps)) ∈ t.pair.heldRcpt

/-- An array opcode at `s` that names no existing array: answered so, and nothing of the arrays, drives and engines has
changed (R459). -/
def State.arrayRefuses (s t : State) (h : Hdr) (op a : Nat) : Prop :=
  t.answered h op (if 16 ≤ a then .outOfRange else .invalidState) [beBytes 1 a] ∧
    t.mrd = s.mrd ∧ t.ary = s.ary ∧ t.drives = s.drives ∧ t.brg = s.brg

/-- The moored image has room for `n` more records and runs of extents (R382). -/
def State.imageRoom (s : State) (n : Nat) : Bool := decide (s.moorBytes + 40 * n ≤ 20 * 2 ^ 20)

/-- The manifest executes on, its receipt to come when its commit point passes or its work ends (R362, R363). -/
def State.executing (t : State) (h : Hdr) (op : Nat) : Prop :=
  ∃ r ∈ t.mft.running, r.hdr = h ∧ r.opcode = op

/-- The completion of command `cid` on queue `q` has left, or waits for the partner (R48, R318). -/
def State.responded (t : State) (q cid : Nat) (st : Status) : Prop :=
  (∃ hd, Out.response q cid hd st ∈ t.out) ∨ ∃ n hd, (n, Out.response q cid hd st) ∈ t.pair.held

/-- No command is under way: no berth is in use, no tow line holds an entry, no interlock is held, no deleted namespace
waits for its commands. -/
def State.quiet (s : State) : Bool :=
  s.brg.berth.isEmpty && (s.brg.eng.all fun e => e.2.tow.isEmpty && e.2.transit.isEmpty) && s.host.locks.isEmpty &&
    s.host.dying.isEmpty

/-- The sluice lets an I/O command pass on a quiet device (R241, R242). -/
def State.sluicePasses (s : State) (c : IoCmd) : Bool :=
  (s.sluiceAdmit (s.queueHost c.qref) c.frame c.nsid (ioCost c (if (s.mrd.ns.get c.nsid).small then 512 else 4096))
    15872 0).isSome

/-- Neither a meter nor an admission bucket applies to an I/O command (R239, R242). -/
def State.unmetered (s : State) (c : IoCmd) : Bool :=
  (s.hostMeter (s.queueHost c.qref) c.frame).isNone && (s.nsbParams (2 * (c.nsid - 1))).1 == 0 &&
    (s.nsbParams (2 * (c.nsid - 1) + 1)).1 == 0

/-- The queue of an I/O command lives, is authenticated and empty, and its home engine is open (R47 to R49, R99). -/
def State.queueOpen (s : State) (c : IoCmd) : Bool :=
  let q := s.host.queue.get c.qref
  q.live && q.qid != 0 && q.disconnect.isNone && q.authOk && q.sq.isEmpty && q.commits.isEmpty && q.cids.isEmpty &&
    q.aborted.isEmpty && c.commit.isNone && !s.ioHeld c && q.home.any fun e => decide (e < 256) && s.engOpen e

/-- An I/O command that is no half of a pair is admitted as it arrives: the device is quiet, its queue is open, the
sluice passes it, and no mark claims it (R47 to R49, R52, R99, R241). -/
def State.ioAdmits (s : State) (c : IoCmd) : Bool :=
  s.quiet && s.queueOpen c && c.fuse == 0 && s.sluicePasses c && (s.claim c).isNone

/-- It goes through at once: every check of Table 2-10 passes too (R461). -/
def State.ioTaken (s : State) (c : IoCmd) : Bool := s.ioAdmits c && (s.ioCheck (s.capsuleOf c)).isNone

/-- An admin command is executed at once: its queue is association `k`'s authenticated admin queue with room, its
identifier is free, and the lockkeeper serves the free slot (R43, R49). -/
def State.adminTaken (s : State) (c : AdminCmd) (k : Nat) : Bool :=
  let q := s.host.queue.get c.qref
  s.adminOf c.qref == some k && q.authOk && decide (q.cids.length ≤ q.sqsize) && !q.cids.contains c.cid &&
    (s.host.assoc.get k).live && (s.host.assoc.get k).slot.isNone && (s.host.assoc.get k).adminSq.isEmpty &&
    (s.host.assoc.get k).format.isNone && s.lkServes

/-- An unmarked message of one packet that comes next on queue pair `i`: in RTS, without spray, nothing unfinished or
stale; with the extension its header names the next message (R72, R73). -/
def State.nextOn (s : State) (p : Packet) (i : Nat) : Bool :=
  let q := s.qp i
  qpnEntry p.qpn == some i && q.state == .rts && !q.spray && q.msgs.isEmpty && q.above.isEmpty && q.stale.isEmpty &&
    (!q.relaxed || p.msn == (q.rmsn + 1) % 2 ^ 24) && p.psn == q.epsn && decide (q.epsn < 2 ^ 24) && p.first && p.last &&
    !p.ce && decide (p.len ≤ 2 ^ 24)

/-- Both feeds GOOD, one of them idle and at most 150 mV below the other: a drill may start (R308). -/
def State.drillMay (s : State) : Bool :=
  let c := fun f => (s.shelf.weir.get f).conducting
  let v := fun f => s.fld (Fld.WIR_MEAS_VIN f)
  let idle := if c 0 then 1 else 0
  s.feed 0 == Feed.good && s.feed 1 == Feed.good && (c 0 != c 1) && decide (v (1 - idle) ≤ v idle + 15)

/-- In P0 or P1 with no transition in progress: a request of the management host is served as it arrives (R372, R379). -/
def State.awake (s : State) : Bool := s.pwr.stage == .none && decide (s.cur ≤ 1)

/-- An access of this requester is served at once: a lockkeeper core's, or one of the management host to a device that is
awake (R372, R379, R421). -/
def State.serves (s : State) (who : Requester) : Bool :=
  s.canAccess who && (match who with | .core _ => true | _ => s.awake)

/-- The product of two polynomials over GF(2), the bits of a number its coefficients. -/
def polyMul (a b : Nat) : Nat :=
  (List.range 8).foldl (fun x i => if a.testBit i then x ^^^ b <<< i else x) 0

/-- A polynomial of degree below 16 reduced modulo 0x11D (R130). -/
def polyMod (x : Nat) : Nat :=
  [7, 6, 5, 4, 3, 2, 1, 0].foldl (fun x i => if x.testBit (8 + i) then x ^^^ 0x11D <<< i else x) x

/-- The fields of a register lie inside its 32 bits and share none. -/
def RegDef.apart (r : RegDef) : Bool :=
  r.fields.all (fun f => decide (f.lo + f.w ≤ 32) && decide (0 < f.w)) &&
    decide (r.fields.Pairwise fun f g => f.lo + f.w ≤ g.lo ∨ g.lo + g.w ≤ f.lo)

/-- A stripe's units with those at the places `lost` missing. -/
def without {α : Type} (l : List α) (lost : List Nat) : List (Option α) :=
  ((List.range l.length).zip l).map fun p => if lost.contains p.1 then none else some p.2

/-- The tail entry of engine `e`'s tow line has waited longer than BRG_TOW_TIME.AGE_US since its admission (R102). -/
def State.tailAged (s : State) (e : Nat) : Bool :=
  let age := s.fld Fld.BRG_TOW_TIME_AGE_US
  (s.eng e).tow.getLast?.any fun b => decide (age ≠ 0) && decide (age * 1000 + (s.berth b).admitTime < s.stamp)

/-- A namespace of 4 KiB blocks without protection information and without encryption. -/
def Namespace.plain (n : Namespace) : Bool := n.lbaf == 0 && n.pi == 0 && n.cipher == .none

/-- The gather slot that holds namespace block `b` (R180). -/
def State.gathered (s : State) (n : Namespace) (b : Nat) : Option GatherSlot :=
  let a := s.mrd.arr.get n.array
  let p := a.place (a.mapped n.ext b)
  s.slotAt n.array p.1 (p.2.1 * a.u + p.2.2)

/-- Block `b` stands readable in the gather buffer. -/
def State.gatheredOk (s : State) (n : Namespace) (b : Nat) : Bool := (s.gathered n b).any fun g => !g.bad

/-- One block of a ledgered namespace has room on the rings and in the gather buffer, on a pair in TWO of an array whose
stripes hold more than one block and whose ledger has nothing under way (R177, R182, R187); its slot, if it has one, is
no newer. -/
def State.ledgerRoom (s : State) (n : Namespace) (b : Nat) : Bool :=
  let i := n.array
  let a := s.mrd.arr.get i
  let q := a.pair (a.pairOf (s.placeOf n b).1)
  let r := s.ary.get i
  n.ledgered && decide (1 < a.k * a.u) && decide (s.slotsUsed + 1 ≤ s.slotsMax) && q.state == .two && q.liveA && q.liveB &&
    (s.ringRoom i q.roleA 2).isSome && (s.ringRoom i q.roleB 2).isSome &&
    (r.pairs.all fun e => e.2.segs.isEmpty && e.2.waiting.isEmpty) &&
    (r.gather.all fun e => e.2.due != some .bypass && e.2.cause != some .bypass) &&
    !(s.pair.pairTables.any fun e => e.1 == i) && (s.gathered n b).all fun g => decide (g.rn ≤ r.rnNext)

/-- The 32 bytes of a manifest header (Table 16-2) with this opcode, sequence number and session, no payload, and AUTH as
given. -/
def isHeader (b : List Byte) (op seq session : Nat) (auth : Bool) : Bool :=
  let f := fun (i n : Nat) => beVal ((b.drop i).take n)
  b.length == 32 && f 0 2 == 0x434D && f 2 1 == 1 && (f 3 1).testBit 1 == auth && f 4 2 == op && f 6 4 == seq &&
    f 10 4 == session && f 14 4 == 0

/-- The trailer of a header under a session's key (R360). -/
def State.trailed (s : State) (session : Nat) (b : List Byte) : List Byte :=
  b ++ beBytes 16 (Config.hmac (s.mft.sessions.get session).ks b).toNat

end Sys2Proof.Machine
end

