-- ==== Sys2Proof/Certificates/Slice0/Obligations.lean ====
section
/-! DEFINITION. The statements for the provers: what the commands do, family by family, what they leave alone, what a step
is, what reset leaves, and what every step keeps. -/

open Sys2Proof Sys2Proof.Machine

/-- For every command c, every queue l and every state s, the step of s with c in front of l is exec of c on s with l as
its queue. The queue of commands is the model's own. -/
def Obligations.AStepTakesTheCommandInFront : Prop :=
  (∀ (c : Instr) (l : List Instr) (s : State),
    step { s with pending := c :: l } = exec c { s with pending := l })

/-- On an empty queue a step starts the first waiting manifest whose objects are free (R362); with none it lets device
time pass and admin commands in their slots go on (R43); where no slot holds one it advances device time by 40 ns
(R419), and configuration, arrays, drives, hosts, outputs and, while no cleaning walk runs, the reservoir stay as
they are. What happens on an empty queue is the model's choice (log entry 3). -/
def Obligations.AnEmptyQueueLetsTimePass : Prop :=
  (∀ (s : State),
    s.pending = [] →
    s.startWaiting.isSome = true →
    ∃ t, s.startWaiting = some t ∧ step s = .next t) ∧
  (∀ (s : State),
    s.pending = [] →
    s.startWaiting = none →
    (∀ e ∈ s.host.assoc, e.2.slot = none) →
    ∃ t, step s = .next t ∧ t.now = s.now + 40 ∧ t.pending = [] ∧ t.mrd = s.mrd ∧ t.ary = s.ary ∧ t.drives =
      s.drives ∧ t.host = s.host ∧ t.out = s.out ∧ (s.whfState ≠ 2 → t.res = s.res)) ∧
  (∀ (s : State),
    s.pending = [] →
    s.startWaiting = none →
    step s = .next s.passTime.slotsGo)

/-- The state after reset is the device just after power-on: every register holds the power-on or factory value of its
field map (R381), the start has not passed T1, the device is SOLO, no array, namespace, host, session, association,
queue pair or engine entry exists, the reservoir lists nothing, device time is 0 and no command waits. Start values
that the field maps leave out are 0 by the model's choice (log entry 2). -/
def Obligations.ResetHoldsTheStartValues : Prop :=
  (∀ a, State.reset.reg a = regStart a) ∧
  (State.reset.rst.phase = .t1 ∧ State.reset.isSolo = true ∧ State.reset.now = 0 ∧ State.reset.pending = [] ∧
    State.reset.out = []) ∧
  (State.reset.mrd.arr = [] ∧ State.reset.mrd.ns = [] ∧ State.reset.mrd.hosts = [] ∧ State.reset.mrd.keys = [] ∧
    State.reset.res = []) ∧
  (State.reset.host.assoc = [] ∧ State.reset.host.queue = [] ∧ State.reset.tug.qp = [] ∧ State.reset.brg.berth = [] ∧
    State.reset.mft.sessions = [])

/-- No word of any length decodes to a command, and placing a word in front of a state's queue leaves the state as it
is: the table's rows are commands of the device's surroundings and carry no encoding. -/
def Obligations.NoWordSpellsACommand : Prop :=
  (∀ (n : Nat) (w : Nat) (s : State),
    decodeTableWord n w = none ∧ s.withFetchWord n w = s)

/-- TAL_CLR_GO clears counter INDEX, or every counter when ALL is set, with its accumulator, in one step; another
counter and its accumulator stay, and every TAL_SEL and TAL_THR register stays. -/
def Obligations.TallyClearClearsOneCounterOrAll : Prop :=
  (∀ (n : Fin 4096) (all : Bool) (s : State),
    ∃ t, exec (.talClrGo n all) s = .next t ∧
      (t.tal.cnt.get n = 0 ∧ t.tal.acc.get n = 0) ∧
      (all = true → ∀ k, t.tal.cnt.get k = 0 ∧ t.tal.acc.get k = 0) ∧
      (all = false → ∀ k, k ≠ n.val → t.tal.cnt.get k = s.tal.cnt.get k ∧ t.tal.acc.get k = s.tal.acc.get k) ∧
      (∀ k : Fin 4096, t.reg (Reg.TAL_SEL k) = s.reg (Reg.TAL_SEL k) ∧ t.reg (Reg.TAL_THR k) = s.reg
        (Reg.TAL_THR k)))

/-- Whatever refuses, and whatever asked, a refusal adds 1 to TWP_REFUSE_CNT.COUNT (which holds at its highest value),
puts the refuser's name of 8 bytes into TWP_REFUSE_NAME, leaves TWP_PWR_STATE.CUR as it was with no transition, and
a running manifest that asked is answered with REFUSED and the name. A freeze that ends with a refuser and nothing
waiting ends so by QUIESCE_EXPIRY. -/
def Obligations.ARefusalIsCountedNamedAndAnswered : Prop :=
  (∀ (s : State) (t : Nat) (o : PwrOrigin) (r : Nat × List Byte),
    r.2.length = 8 →
    (s.refuse t o r).fld Fld.TWP_REFUSE_CNT_COUNT = min (s.fld Fld.TWP_REFUSE_CNT_COUNT + 1) 65535 ∧ (s.refuse t o
      r).fld Fld.TWP_REFUSE_NAME_LO_NAME = leVal (r.2.take 4) ∧ (s.refuse t o r).fld Fld.TWP_REFUSE_NAME_HI_NAME =
      leVal (r.2.drop 4) ∧ (s.refuse t o r).cur = s.cur ∧ (s.refuse t o r).pwr.stage = .none ∧ (s.refuse t o
      r).mrd = s.mrd) ∧
  (∀ (s : State) (t : Nat) (h : Hdr) (r : Nat × List Byte),
    (∃ m ∈ s.mft.running, m.opcode = 0x0701 ∧ m.hdr = h) →
    s.mft.mboxDrop.contains (h.session, h.seq) = false →
    (s.refuse t (.manifest h) r).answered h 0x0701 .refused [r.2]) ∧
  (∀ (h : Hdr) (r : Nat × List Byte) (s : State),
    s.pwr.stage = .freeze ∧ s.pwr.origin = some (.manifest h) ∧ s.pwr.waiting = [] →
    (∃ m ∈ s.mft.running, m.opcode = 0x0701 ∧ m.hdr = h) ∧ s.mft.mboxDrop.contains (h.session, h.seq) = false →
    s.refuser (s.fld Fld.TWP_PWR_STATE_TARGET) = some r ∧ r.2.length = 8 →
    ∃ t, exec (.quiesceExpiry) s = .next t ∧
      t.answered h 0x0701 .refused [r.2] ∧ t.cur = s.cur ∧ t.pwr.stage = .none ∧
      t.fld Fld.TWP_REFUSE_CNT_COUNT = min (s.fld Fld.TWP_REFUSE_CNT_COUNT + 1) 65535 ∧
      t.fld Fld.TWP_REFUSE_NAME_LO_NAME = leVal (r.2.take 4) ∧ t.fld Fld.TWP_REFUSE_NAME_HI_NAME = leVal
        (r.2.drop 4))

/-- A BAR0 read of a register whose block is on returns a word in which every bit of no field is 0. A read of an offset
that the map assigns no register, outside the windows of BAR0 (capability list, manifest buffers, pound), returns 0,
and a write to it changes nothing. -/
def Obligations.ReservedBitsAndUnassignedOffsetsReadZero : Prop :=
  (∀ (r : RegDef) (v : Nat) (i : Nat),
    r.fields.all (fun f => decide (i < f.lo ∨ f.lo + f.w ≤ i)) = true →
    (r.visible v).testBit i = false) ∧
  (∀ (a : Nat) (b : BlockDef) (r : RegDef) (s : State),
    s.serves .bar0 = true ∧ a % 4 = 0 ∧ findBlock a = some b ∧ findReg a = some r →
    s.blkOff b.blk (b.inst a) = false ∧ s.mgmtOnly = false →
    ∃ t, exec (.registerRead .bar0 a false) s = .next t ∧
      (∃ v, Out.readData .bar0 v ∈ t.out.drop s.out.length ∧ ∀ i, r.fields.all (fun f => decide (i < f.lo ∨ f.lo
        + f.w ≤ i)) = true → v.testBit i = false)) ∧
  (∀ (a : Nat) (s : State),
    s.serves .bar0 = true ∧ a % 4 = 0 ∧ findReg a = none →
    ¬(0x100 ≤ a ∧ a < 0x1000) ∧ ¬(0x510000 ≤ a ∧ a < 0x530000) ∧ ¬(0xA00000 ≤ a ∧ a < 0xC00000) →
    (findBlock a).all (fun b => !s.blkOff b.blk (b.inst a)) = true →
    ∃ t, exec (.registerRead .bar0 a false) s = .next t ∧
      t = s.emit (.readData .bar0 0)) ∧
  (∀ (a : Nat) (v : Nat) (s : State),
    s.serves .bar0 = true ∧ a % 4 = 0 ∧ findReg a = none →
    ¬(0x510000 ≤ a ∧ a < 0x520000) →
    (findBlock a).all (fun b => !s.blkOff b.blk (b.inst a)) = true →
    ∃ t, exec (.registerWrite .bar0 a v false) s = .next t ∧
      t = s)

/-- ENGINE_TAKE of an engine in RUN with an entry on its tow line and room for it takes the tail entry if that has
waited longer than AGE_US microseconds since its admission, else the head entry: the entry, with the entries of its
ordering token, runs on that engine, the others of a line that holds each entry once keep their places, and an
engine whose lines hold none of them is as before. No orphaned work waits for a rescuer, which would come first
(R113). With AGE_US at 0 the tail never counts as aged. -/
def Obligations.AnEngineTakesTheHeadOrAnAgedTail : Prop :=
  (∀ (e : Fin 256) (b : Nat) (s : State),
    s.engRuns e = true ∧ s.tailAged e = true ∧ (s.eng e).tow.getLast? = some b →
    s.inflight e + (s.groupOn (s.eng e).tow b).length ≤ 1024 ∧ s.berths (fun x => x.orphan) = [] →
    ∃ t, exec (.engineTake e) s = .next t ∧
      (∀ x ∈ s.groupOn (s.eng e).tow b, (t.berth x).state = .run ∧ (t.berth x).owner = e) ∧
      ((s.eng e).tow.Nodup → (t.eng e).tow = (s.eng e).tow.filter (fun y => !(s.groupOn (s.eng e).tow
        b).contains y)) ∧
      (∀ f, f ≠ e.val → (∀ x ∈ s.groupOn (s.eng e).tow b, x ∉ (s.eng f).tow ∧ x ∉ (s.eng f).transit) → t.eng f =
        s.eng f)) ∧
  (∀ (e : Fin 256) (b : Nat) (s : State),
    s.engRuns e = true ∧ s.tailAged e = false ∧ (s.eng e).tow.head? = some b →
    s.inflight e + (s.groupOn (s.eng e).tow b).length ≤ 1024 ∧ s.berths (fun x => x.orphan) = [] →
    ∃ t, exec (.engineTake e) s = .next t ∧
      (∀ x ∈ s.groupOn (s.eng e).tow b, (t.berth x).state = .run ∧ (t.berth x).owner = e) ∧
      ((s.eng e).tow.Nodup → (t.eng e).tow = (s.eng e).tow.filter (fun y => !(s.groupOn (s.eng e).tow
        b).contains y)) ∧
      (∀ f, f ≠ e.val → (∀ x ∈ s.groupOn (s.eng e).tow b, x ∉ (s.eng f).tow ∧ x ∉ (s.eng f).transit) → t.eng f =
        s.eng f)) ∧
  (∀ (e : Nat) (s : State),
    s.fld Fld.BRG_TOW_TIME_AGE_US = 0 →
    s.tailAged e = false)

/-- On a channel that MFT_CHAN_CFG does not enable, a manifest in the mailbox, or in a datagram to the management lane
or to a data port, adds 1 to MFT_STAT.DISABLED and changes nothing else; nothing is answered. So does a manifest
command whose channel is not enabled. -/
def Obligations.ADisabledChannelIgnoresItsManifests : Prop :=
  (∀ (s : State),
    s.flag Fld.MFT_MBOX_STAT_BUSY = false ∧ s.manUp .mailbox = true ∧ s.chanOn .mailbox = false →
    ∃ t, exec (.mboxGo) s = .next t ∧
      t = s.count Fld.MFT_STAT_DISABLED 1) ∧
  (∀ (inband : Bool) (v6 : Bool) (addr : Nat) (vlan : Option Nat) (port : Nat) (src : Nat) (b : List Byte) (s :
    State),
    port < 128 ∧ s.manUp (if inband then .inband else .mgmtPort) = true ∧ s.chanOn (if inband then .inband else
      .mgmtPort) = false →
    ∃ t, exec (.manifestDatagram inband v6 addr vlan port src b) s = .next t ∧
      t = s.count Fld.MFT_STAT_DISABLED 1) ∧
  (∀ (h : Hdr) (ports : List Nat) (s : State),
    s.manUp h.chan = true ∧ s.chanOn h.chan = false →
    ∃ t, exec (.portQuery h ports) s = .next t ∧
      t = s.count Fld.MFT_STAT_DISABLED 1)

/-- After PE_PERST_ASSERT, HOT_RESET and FLR the configuration, store, firmware, hosts, engines, transport, arrays,
keys, canal, wharf, reservoir, tally, pairing, shelf, bays and drives are as before, and so is every register
outside the endpoint's and the manifest engine's blocks. -/
def Obligations.EndpointResetsLeaveTheRestAlone : Prop :=
  (∀ (s : State),
    ∃ t, exec (.pePerstAssert) s = .next t ∧
      (t.mrd = s.mrd ∧ t.store = s.store ∧ t.fw = s.fw ∧ t.host = s.host ∧ t.brg = s.brg ∧ t.tug = s.tug ∧ t.ary
        = s.ary ∧ t.cip = s.cip ∧ t.cnl = s.cnl ∧ t.whf = s.whf ∧ t.res = s.res ∧ t.tal = s.tal ∧ t.pair =
        s.pair ∧ t.shelf = s.shelf ∧ t.port = s.port ∧ t.drives = s.drives) ∧
      (∀ a, blkAt a ≠ some .ept → blkAt a ≠ some .mft → t.reg a = s.reg a)) ∧
  (∀ (s : State),
    ∃ t, exec (.hotReset) s = .next t ∧
      (t.mrd = s.mrd ∧ t.store = s.store ∧ t.fw = s.fw ∧ t.host = s.host ∧ t.brg = s.brg ∧ t.tug = s.tug ∧ t.ary
        = s.ary ∧ t.cip = s.cip ∧ t.cnl = s.cnl ∧ t.whf = s.whf ∧ t.res = s.res ∧ t.tal = s.tal ∧ t.pair =
        s.pair ∧ t.shelf = s.shelf ∧ t.port = s.port ∧ t.drives = s.drives) ∧
      (∀ a, blkAt a ≠ some .ept → blkAt a ≠ some .mft → t.reg a = s.reg a)) ∧
  (∀ (s : State),
    ∃ t, exec (.flr) s = .next t ∧
      (t.mrd = s.mrd ∧ t.store = s.store ∧ t.fw = s.fw ∧ t.host = s.host ∧ t.brg = s.brg ∧ t.tug = s.tug ∧ t.ary
        = s.ary ∧ t.cip = s.cip ∧ t.cnl = s.cnl ∧ t.whf = s.whf ∧ t.res = s.res ∧ t.tal = s.tal ∧ t.pair =
        s.pair ∧ t.shelf = s.shelf ∧ t.port = s.port ∧ t.drives = s.drives) ∧
      (∀ a, blkAt a ≠ some .ept → blkAt a ≠ some .mft → t.reg a = s.reg a))

/-- The product of two bytes is their polynomial product reduced modulo 0x11D; scaling a unit scales each of its bytes
by itself; and scaling distributes over XOR in the coefficient and in the unit (R130). -/
def Obligations.ParityIsAFieldOfBytes : Prop :=
  (∀ (c : BitVec 8) (x : BitVec 8),
    (gfScale c x).toNat = polyMod (polyMul c.toNat x.toNat)) ∧
  (∀ (n : Nat) (c : BitVec 8) (x : BitVec (8 * n)) (k : Nat),
    k < n →
    (gfScale c x).extractLsb' (8 * k) 8 = gfScale c (x.extractLsb' (8 * k) 8)) ∧
  (∀ (n : Nat) (c : BitVec 8) (d : BitVec 8) (x : BitVec (8 * n)) (y : BitVec (8 * n)),
    gfScale (c ^^^ d) x = gfScale c x ^^^ gfScale d x ∧ gfScale c (x ^^^ y) = gfScale c x ^^^ gfScale c y)

/-- For a stripe of at most 32 data units with one to three redundant units P, Q and R, and any distinct places lost
among both such that at least as many redundant units remain as data units are lost, solving the stripe from the
units that remain gives all data units as they were. -/
def Obligations.LostDataUnitsAreRecovered : Prop :=
  (∀ (n : Nat) (ds : List (BitVec (8 * n))) (p : Nat) (lost : List Nat) (lostP : List Nat),
    ds.length ≤ 32 ∧ p ≤ 3 ∧ lost.Nodup ∧ lostP.Nodup ∧ (∀ i ∈ lost, i < ds.length) ∧ (∀ o ∈ lostP, o < p) →
    lost.length + lostP.length ≤ p →
    gfRecover (without ds lost) (without ((List.range p).map fun o => parityOf o ds) lostP) = some ds)

/-- In every register of the map the fields lie inside 32 bits and share none. Of such a register, a write leaves RO and
RC fields, gives RW fields what the field map stores for the value, and clears the W1C bits written 1; a read shows
0 in WO fields and the register's value in the others, and clears RC fields alone (R17). -/
def Obligations.FieldsActAsTheirAccessTypesSay : Prop :=
  (∀ b ∈ blockMap, ∀ r ∈ b.regs, r.apart = true) ∧
  (∀ (r : RegDef) (f : FieldDef) (x : Word32) (v : Word32),
    r.apart = true ∧ f ∈ r.fields →
    (f.access = .ro ∨ f.access = .rc → f.of (r.written x v) = f.of x) ∧ (f.access = .rw → f.of (r.written x v) =
      f.store (f.of v) % 2 ^ f.w) ∧ (f.access = .w1c → f.of (r.written x v) = (BitVec.ofNat 32 (f.of x) &&& ~~~
      BitVec.ofNat 32 (f.of v)).toNat)) ∧
  (∀ (r : RegDef) (f : FieldDef) (x : Word32),
    r.apart = true ∧ f ∈ r.fields →
    bitsOf (r.visible x.toNat) f.lo f.w = (if f.access = .wo ∨ f.access = .wok then 0 else f.of x) ∧ f.of
      (r.afterRead x) = (if f.access = .rc then 0 else f.of x))

/-- A manifest of opcodes 0x0301 to 0x030A that is executed at once and whose operands Table 6-5 accepts answers a next
state: ARRAY_CREATE leaves a CREATING array with its modes, roles and stripes and goes on executing; ARRAY_DELETE
leaves no array; ARRAY_QUERY changes no array, drive or namespace; SPARE_POOL_SET replaces the pool; MEMBER_FAIL
takes the role out of ONLINE and steps the generation; MEMBER_REPLACE sets a MISSING role rebuilding to the bay;
SCRUB_START and SCRUB_STOP start and end a pass; SCRUB_LOG answers the mismatch list and clears it on request;
ARRAY_SALVAGE makes an OFFLINE array SALVAGED and write-protects its namespaces. Each but ARRAY_CREATE is answered
with SUCCESS. -/
def Obligations.ArrayManifestsTakeEffect : Prop :=
  (∀ (h : Hdr) (a : Nat) (m : Mode) (bays : List Nat) (unit : Nat) (d : Bool) (pool : Nat) (s : State),
    s.takes h 0x0301 ((.array, a) :: bays.map fun b => (.bay, b)) = true →
    a < 16 ∧ (s.mrd.arr.get a).state = .none →
    bays ≠ [] ∧ bays.Nodup ∧ (∀ b ∈ bays, b < 48) →
    (∀ b ∈ bays, s.bayArray b = none ∧ s.bayPool b = none ∧ s.driveReady b = true ∧ s.driveFits b (bays.head?.map
      fun b => (s.drives.get b).id.meta64) = true) →
    m.allowed bays.length d = true ∧ unit ≤ 4 ∧ (pool < 4 ∨ pool = 7) →
    stripesOf ((bays.map fun b => (s.drives.get b).id.capacity).min?.getD 0) (4 * 2 ^ unit) ≠ 0 →
    ∃ t, exec (.arrayCreate h a m bays unit d pool) s = .next t ∧
      t.executing h 0x0301 ∧
      (t.mrd.arr.get a).state = .creating ∧ (t.mrd.arr.get a).mode = m ∧ (t.mrd.arr.get a).n = bays.length ∧
      (t.mrd.arr.get a).stripes = stripesOf ((bays.map fun b => (s.drives.get b).id.capacity).min?.getD 0) (4 *
        2 ^ unit) ∧
      (t.mrd.arr.get a).roles.map (fun (r : Role) => r.bay) = bays.map some) ∧
  (∀ (h : Hdr) (a : Nat) (s : State),
    s.takes h 0x0302 [(.array, a)] = true →
    a < 16 ∧ (s.mrd.arr.get a).state ≠ .none ∧ (s.mrd.ns.any fun e => e.2.present && e.2.array == a) = false →
    ∃ t, exec (.arrayDelete h a) s = .next t ∧
      t.answered h 0x0302 .success [] ∧
      t.mrd.arr.get a = default ∧ t.ary.get a = default ∧ t.mrd.ns = s.mrd.ns) ∧
  (∀ (h : Hdr) (a : Nat) (s : State),
    s.takes h 0x0303 [(.array, a)] = true →
    a < 16 ∧ (s.mrd.arr.get a).state ≠ .none →
    ∃ t, exec (.arrayQuery h a) s = .next t ∧
      (∃ ps, t.answered h 0x0303 .success (beBytes 1 (s.mrd.arr.get a).state.code :: ps)) ∧
      t.mrd = s.mrd ∧ t.ary = s.ary ∧ t.drives = s.drives ∧ t.res = s.res) ∧
  (∀ (h : Hdr) (p : Nat) (bays : Nat) (s : State),
    s.takes h 0x0304 ((bitSet 48 bays).map fun b => (.bay, b)) = true →
    p < 4 ∧ bays < 2 ^ 48 ∧ bays ≠ 0 →
    (∀ b ∈ bitSet 48 bays, s.bayArray b = none ∧ (s.bayPool b = none ∨ s.bayPool b = some p)) →
    (∀ e ∈ s.mrd.arr, e.2.state ≠ .degraded ∧ e.2.state ≠ .rebuilding) →
    s.imageRoom 1 = true →
    ∃ t, exec (.sparePoolSet h p bays) s = .next t ∧
      t.answered h 0x0304 .success (((bitSet 48 bays).filter fun b => !(s.driveReady b && s.driveFits b
        none)).map fun b => (s.badBay b).flatten) ∧
      t.mrd.pools.get p = bitSet 48 bays ∧ t.mrd.ns = s.mrd.ns) ∧
  (∀ (h : Hdr) (a : Nat) (role : Nat) (force : Bool) (s : State),
    s.takes h 0x0305 [(.array, a)] = true →
    a < 16 ∧ role < (s.mrd.arr.get a).n ∧ ((s.mrd.arr.get a).role role).state = .online →
    (s.mrd.arr.get a).serving = true ∧ (force = true ∨ (s.mrd.arr.get a).fatal role = false) →
    s.imageRoom 3 = true →
    ∃ t, exec (.memberFail h a role force) s = .next t ∧
      t.answered h 0x0305 .success [] ∧
      ((t.mrd.arr.get a).role role).state ≠ .online ∧ (t.mrd.arr.get a).gen = (s.mrd.arr.get a).gen + 1) ∧
  (∀ (h : Hdr) (a : Nat) (role : Nat) (bay : Nat) (s : State),
    s.takes h 0x0306 [(.array, a), (.bay, bay)] = true →
    a < 16 ∧ role < (s.mrd.arr.get a).n ∧ role < (s.mrd.arr.get a).roles.length ∧ bay < 48 →
    ((s.mrd.arr.get a).role role).state = .missing ∧ (s.mrd.arr.get a).serving = true →
    ((s.mrd.arr.get a).role role).bay = some bay ∨ (s.bayArray bay = none ∧ s.bayPool bay = none) →
    s.driveReady bay = true ∧ s.driveFits bay (some (s.mrd.arr.get a).meta64) = true ∧ s.imageRoom 1 = true →
    dataBase + (s.mrd.arr.get a).stripes * (s.mrd.arr.get a).u ≤ (s.drives.get bay).id.capacity →
    ∃ t, exec (.memberReplace h a role bay) s = .next t ∧
      t.answered h 0x0306 .success [] ∧
      ((t.mrd.arr.get a).role role).state = .rebuilding ∧ ((t.mrd.arr.get a).role role).target = .bay bay ∧
      ((t.mrd.arr.get a).role role).rem = (s.mrd.arr.get a).stripes ∧ (t.mrd.arr.get a).state = .rebuilding) ∧
  (∀ (h : Hdr) (a : Nat) (start : Option Nat) (s : State),
    s.takes h 0x0307 [(.array, a)] = true →
    a < 16 ∧ (s.mrd.arr.get a).serving = true ∧ (∀ x, start = some x → x < (s.mrd.arr.get a).stripes) ∧
      s.imageRoom 1 = true →
    ∃ t, exec (.scrubStart h a start) s = .next t ∧
      t.answered h 0x0307 .success [] ∧
      (t.ary.get a).scrubbing = true ∧ (t.ary.get a).scrubbed = 0 ∧
      (t.mrd.arr.get a).scrubPos = start.getD (s.mrd.arr.get a).scrubPos) ∧
  (∀ (h : Hdr) (a : Nat) (s : State),
    s.takes h 0x0308 [(.array, a)] = true →
    a < 16 ∧ (s.mrd.arr.get a).state ≠ .none ∧ s.imageRoom 1 = true →
    ∃ t, exec (.scrubStop h a) s = .next t ∧
      t.answered h 0x0308 .success [] ∧
      (t.ary.get a).scrubbing = false ∧ t.mrd.arr.get a = s.mrd.arr.get a) ∧
  (∀ (h : Hdr) (a : Nat) (clear : Bool) (s : State),
    s.takes h 0x0309 [(.array, a)] = true →
    a < 16 ∧ (s.mrd.arr.get a).state ≠ .none →
    ∃ t, exec (.scrubLog h a clear) s = .next t ∧
      t.answered h 0x0309 .success [(s.ary.get a).mismatches.flatMap fun x => beBytes 8 x] ∧
      (t.ary.get a).mismatches = (if clear then [] else (s.ary.get a).mismatches) ∧ t.mrd = s.mrd) ∧
  (∀ (h : Hdr) (a : Nat) (s : State),
    s.takes h 0x030A [(.array, a)] = true →
    a < 16 ∧ (s.mrd.arr.get a).state = .offline →
    s.imageRoom (1 + s.mrd.ns.length + (s.mrd.ns.map fun e => extRuns e.2.ext).sum) = true →
    ∃ t, exec (.arraySalvage h a) s = .next t ∧
      t.answered h 0x030A .success [] ∧
      (t.mrd.arr.get a).state = .salvaged ∧ (t.mrd.arr.get a).gen = (s.mrd.arr.get a).gen + 1 ∧
      (∀ i, (s.mrd.ns.get i).present = true → (s.mrd.ns.get i).array = a → (t.mrd.ns.get i).writeProtect = true))

/-- For each of the eight opcodes that act on one existing array, a manifest executed at once that names array 16 or
above is answered OUT_OF_RANGE with that number, and one that names an array that does not exist INVALID_STATE; in
both cases no moored table, no array's run state, no drive and no engine has changed. -/
def Obligations.ArrayOpcodesCheckTheirArray : Prop :=
  (∀ (h : Hdr) (a : Nat) (s : State),
    s.takes h 0x0302 [(.array, a)] = true →
    16 ≤ a ∨ (s.mrd.arr.get a).state = .none →
    ∃ t, exec (.arrayDelete h a) s = .next t ∧
      s.arrayRefuses t h 0x0302 a) ∧
  (∀ (h : Hdr) (a : Nat) (s : State),
    s.takes h 0x0303 [(.array, a)] = true →
    16 ≤ a ∨ (s.mrd.arr.get a).state = .none →
    ∃ t, exec (.arrayQuery h a) s = .next t ∧
      s.arrayRefuses t h 0x0303 a) ∧
  (∀ (h : Hdr) (a : Nat) (role : Nat) (f : Bool) (s : State),
    s.takes h 0x0305 [(.array, a)] = true →
    16 ≤ a ∨ (s.mrd.arr.get a).state = .none →
    ∃ t, exec (.memberFail h a role f) s = .next t ∧
      s.arrayRefuses t h 0x0305 a) ∧
  (∀ (h : Hdr) (a : Nat) (role : Nat) (bay : Nat) (s : State),
    s.takes h 0x0306 [(.array, a), (.bay, bay)] = true →
    16 ≤ a ∨ (s.mrd.arr.get a).state = .none →
    ∃ t, exec (.memberReplace h a role bay) s = .next t ∧
      s.arrayRefuses t h 0x0306 a) ∧
  (∀ (h : Hdr) (a : Nat) (x : Option Nat) (s : State),
    s.takes h 0x0307 [(.array, a)] = true →
    16 ≤ a ∨ (s.mrd.arr.get a).state = .none →
    ∃ t, exec (.scrubStart h a x) s = .next t ∧
      s.arrayRefuses t h 0x0307 a) ∧
  (∀ (h : Hdr) (a : Nat) (s : State),
    s.takes h 0x0308 [(.array, a)] = true →
    16 ≤ a ∨ (s.mrd.arr.get a).state = .none →
    ∃ t, exec (.scrubStop h a) s = .next t ∧
      s.arrayRefuses t h 0x0308 a) ∧
  (∀ (h : Hdr) (a : Nat) (c : Bool) (s : State),
    s.takes h 0x0309 [(.array, a)] = true →
    16 ≤ a ∨ (s.mrd.arr.get a).state = .none →
    ∃ t, exec (.scrubLog h a c) s = .next t ∧
      s.arrayRefuses t h 0x0309 a) ∧
  (∀ (h : Hdr) (a : Nat) (s : State),
    s.takes h 0x030A [(.array, a)] = true →
    16 ≤ a ∨ (s.mrd.arr.get a).state = .none →
    ∃ t, exec (.arraySalvage h a) s = .next t ∧
      s.arrayRefuses t h 0x030A a)

/-- A lost ONLINE role leaves ONLINE and the generation steps (R157, R150); a zeroed CREATING array whose drives still
fit is OPTIMAL (R465); the rebuild of a readable stripe of a REBUILDING array that is not held and whose interlock
nobody else asks for moves the cursor (R163, R164); the scrub timer begins a pass and the scrub of a readable stripe
moves the scrub position (R169); an array whose members all carry its label is assembled and waits for replay
(R170); a write of ARY_REM_IDX puts the role's remaining count into ARY_REM (Table 6-10). -/
def Obligations.ArrayEventsAdvanceTheArray : Prop :=
  (∀ (a : Fin 16) (role : Fin 32) (s : State),
    ((s.mrd.arr.get a).role role).state = .online ∧ (s.mrd.arr.get a).serving = true →
    ∃ t, exec (.memberLoss a role) s = .next t ∧
      ((t.mrd.arr.get a).role role).state ≠ .online ∧ (t.mrd.arr.get a).gen = (s.mrd.arr.get a).gen + 1) ∧
  (∀ (a : Fin 16) (s : State),
    (s.mrd.arr.get a).state = .creating →
    (∀ b ∈ (s.mrd.arr.get a).roles.filterMap (fun (r : Role) => r.bay), s.driveFits b (some (s.mrd.arr.get
      a).meta64) = true) →
    ∃ t, exec (.arrayZeroed a) s = .next t ∧
      t.mrd.arr.get a = { s.mrd.arr.get a with state := .optimal }) ∧
  (∀ (a : Fin 16) (s : State),
    (s.mrd.arr.get a).state = .rebuilding ∧ s.flag (Fld.ARY_REBUILD_CFG_HOLD a) = false ∧ s.arrPrompt a = false →
    ((s.ary.get a).locks.any fun l => l.1 == (s.mrd.arr.get a).cursor && l.2 != .rebuild) = false →
    (∀ off < (s.mrd.arr.get a).u, s.unreadable (s.mrd.arr.get a) (s.mrd.arr.get a).cursor off ((s.mrd.arr.get
      a).unitRoles (s.mrd.arr.get a).cursor) = [] ∧ (s.stripeData (s.mrd.arr.get a) (s.mrd.arr.get a).cursor
      off).isSome = true) →
    ∃ t, exec (.rebuildStripe a) s = .next t ∧
      (t.mrd.arr.get a).cursor = ((s.mrd.arr.get a).cursor + 1) % (s.mrd.arr.get a).stripes ∧
      t.mrd.ns = s.mrd.ns ∧ t.mrd.hosts = s.mrd.hosts) ∧
  (∀ (a : Fin 16) (s : State),
    (s.mrd.arr.get a).state = .optimal ∧ s.flag (Fld.ARY_SCRUB_CFG_EN a) = true ∧ (s.ary.get a).scrubbing = false
      →
    ∃ t, exec (.scrubPassTimer a) s = .next t ∧
      (t.ary.get a).scrubbing = true ∧ (t.ary.get a).scrubbed = 0 ∧ (t.ary.get a).lastScrub = s.now ∧
      (∀ i, t.mrd.arr.get i = s.mrd.arr.get i) ∧ t.drives = s.drives) ∧
  (∀ (a : Fin 16) (s : State),
    (s.mrd.arr.get a).state = .optimal ∧ s.flag (Fld.ARY_SCRUB_CFG_EN a) = true ∧ (s.ary.get a).scrubbing = true →
    s.fld Fld.TWP_PWR_STATE_CUR < 2 ∧ ((s.ary.get a).locks.any fun l => l.1 == (s.mrd.arr.get a).scrubPos && l.2
      != .scrub) = false →
    (s.mrd.arr.get a).beyond (s.mrd.arr.get a).scrubPos [] = false →
    (∀ off < (s.mrd.arr.get a).u, s.unreadable (s.mrd.arr.get a) (s.mrd.arr.get a).scrubPos off ((s.mrd.arr.get
      a).unitRoles (s.mrd.arr.get a).scrubPos) = [] ∧ (s.stripeData (s.mrd.arr.get a) (s.mrd.arr.get a).scrubPos
      off).isSome = true) →
    ∃ t, exec (.scrubStripe a) s = .next t ∧
      (t.mrd.arr.get a).scrubPos = ((s.mrd.arr.get a).scrubPos + 1) % (s.mrd.arr.get a).stripes ∧
      (t.mrd.arr.get a).state = .optimal ∧ t.mrd.ns = s.mrd.ns) ∧
  (∀ (a : Fin 16) (role : Fin 32) (s : State),
    ((s.mrd.arr.get a).role role).rem < 2 ^ 64 →
    ∃ t, exec (.aryRemIdxWrite a role) s = .next t ∧
      t.fld (Fld.ARY_REM_LO_REM a) + 2 ^ 32 * t.fld (Fld.ARY_REM_HI_REM a) = (if ((s.mrd.arr.get a).role
        role).state = .rebuilding ∨ ((s.mrd.arr.get a).role role).state = .restoring then ((s.mrd.arr.get
        a).role role).rem else 0) ∧
      t.mrd = s.mrd ∧ t.out = s.out) ∧
  (∀ (a : Fin 16) (left : List (Fin 48 × Medium)) (s : State),
    s.rst.baysUp = true ∧ s.owns = true ∧ ((s.mrd.arr.get a).bays.all s.baySettled) = true →
    (s.ary.get a).assembled = false ∧ (s.mrd.arr.get a).state = .optimal →
    (∀ x < (s.mrd.arr.get a).n, ((s.mrd.arr.get a).role x).state = .online ∧ (((s.mrd.arr.get a).role x).bay.any
      fun b => (s.takeLeft left).labelled (s.mrd.arr.get a) a x b) = true) →
    ∃ t, exec (.arrayAssembly a left) s = .next t ∧
      (t.ary.get a).assembled = true ∧ (t.ary.get a).replaying = true ∧ (t.mrd.arr.get a).state = .optimal)

/-- On an array in service, up to 62 waiting records of a pair in TWO with room on both rings are issued as one segment
under the next SSEQ (R177); a completed copy stands on its member's ring (R177); an aged stripe's destage becomes
due (R183), takes the interlock with every slot in it (R163, R184) and, its members written, appends the RETIRE
entry of its slots (R184); a pair being repaired whose live segments all stand on the new copy is TWO again (R188);
a replay that finds a header for every copy ends with the record counter at the highest RN_LIMIT of the headers
(R178, R191), the next limit 2^40 above (the model's choice, log entry 60). -/
def Obligations.LedgerAndDestageCommandsAdvanceThePair : Prop :=
  (∀ (a : Fin 16) (p : Fin 17) (s : State),
    (s.mrd.arr.get a).serving = true ∧ (s.pair.pairTables.any fun e => e.1 == a.val) = false →
    ((s.mrd.arr.get a).pair p).state = .two ∧ ((s.mrd.arr.get a).pair p).liveA = true ∧ ((s.mrd.arr.get a).pair
      p).liveB = true →
    (s.pairRun a p).waiting ≠ [] ∧ (s.pairRun a p).mayIssue (s.fld Fld.LDG_CFG_SEG_INFLIGHT) = true →
    (s.ringRoom a ((s.mrd.arr.get a).pair p).roleA (segBlocks ((s.pairRun a p).waiting.take 62))).isSome = true →
    (s.ringRoom a ((s.mrd.arr.get a).pair p).roleB (segBlocks ((s.pairRun a p).waiting.take 62))).isSome = true →
    ∃ t, exec (.segmentIssue a p) s = .next t ∧
      (t.pairRun a p).nextSseq = (s.pairRun a p).nextSseq + 1 ∧ (t.pairRun a p).waiting = (s.pairRun a
        p).waiting.filter (fun r => decide (r ∉ (s.pairRun a p).waiting.take 62)) ∧
      (∃ g, (t.pairRun a p).segs = (s.pairRun a p).segs ++ [g] ∧ g.sseq = (s.pairRun a p).nextSseq + 1 ∧ g.recs
        = (s.pairRun a p).waiting.take 62 ∧ g.toA = true ∧ g.toB = true ∧ g.onA = false ∧ g.onB = false) ∧
      t.mrd = s.mrd ∧ t.drives = s.drives) ∧
  (∀ (a : Fin 16) (p : Fin 17) (sseq : Nat) (copyA : Bool) (s : State),
    (s.mrd.arr.get a).serving = true ∧ (s.ary.get a).assembled = true →
    ((s.pairRun a p).segs.any fun g => g.sseq == sseq && (if copyA then g.toA && !g.onA else g.toB && !g.onB)) =
      true →
    ∃ t, exec (.segmentComplete a p sseq copyA true) s = .next t ∧
      (∀ g ∈ (t.pairRun a p).segs, g.sseq = sseq → (if copyA then g.onA else g.onB) = true) ∧
      (((s.pairRun a p).segs.find? fun g => g.sseq == sseq && (if copyA then g.toA && !g.onA else g.toB &&
        !g.onB)).all fun g => ((s.mrd.arr.get a).ringBay (if copyA then ((s.mrd.arr.get a).pair p).roleA else
        ((s.mrd.arr.get a).pair p).roleB)).all fun b => decide (Tab.get (t.drives.get b).medium.ring (if copyA
        then g.offA else g.offB) = g.onDrive a p)) = true ∧
      t.mrd = s.mrd) ∧
  (∀ (a : Fin 16) (stripe : Nat) (s : State),
    ((s.ary.get a).gather.get stripe).slots ≠ [] ∧ ((s.ary.get a).gather.get stripe).due = none →
    s.fld Fld.LDG_GATHER_CFG_AGE_MS * 1000000 ≤ s.now - ((s.ary.get a).gather.get stripe).since →
    ∃ t, exec (.gatherAgeExpiry a stripe) s = .next t ∧
      ((t.ary.get a).gather.get stripe).due = some .age ∧ ((t.ary.get a).gather.get stripe).slots = ((s.ary.get
        a).gather.get stripe).slots) ∧
  (∀ (a : Fin 16) (stripe : Nat) (ue : List Nat) (s : State),
    (s.mrd.arr.get a).serving = true ∧ ((s.ary.get a).gather.get stripe).due.isSome = true ∧ ((s.ary.get
      a).gather.get stripe).running = [] →
    ((s.ary.get a).gather.get stripe).slots ≠ [] ∧ s.stripeHolder a stripe = none →
    ((s.ary.get a).gather.get stripe).due = some .bypass ∨ (s.destageFirst a stripe = true ∧ s.destages a < s.fld
      Fld.LDG_GATHER_CFG_DESTAGE_MAX) →
    (s.reconRecs a stripe (((s.ary.get a).gather.get stripe).slots.map fun g => g.blk) (maxRn ((s.ary.get
      a).gather.get stripe).slots)).isSome = true →
    ∃ t, exec (.destageStart a stripe ue) s = .next t ∧
      t.stripeHolder a stripe = some .destage ∧ ((t.ary.get a).gather.get stripe).slots = [] ∧
      ((t.ary.get a).gather.get stripe).running.map (fun g => (g.blk, g.rn)) = ((s.ary.get a).gather.get
        stripe).slots.map (fun g => (g.blk, g.rn))) ∧
  (∀ (a : Fin 16) (stripe : Nat) (s : State),
    (s.mrd.arr.get a).serving = true ∧ ((s.ary.get a).gather.get stripe).at_ = .writing →
    (s.mrd.arr.get a).mode.mirror = true ∨ (∀ off < (s.mrd.arr.get a).u, (s.stripeData (s.mrd.arr.get a) stripe
      off).isSome = true) →
    ∃ t, exec (.destageComplete a stripe) s = .next t ∧
      ((t.ary.get a).gather.get stripe).at_ = .retiring ∧ ((t.ary.get a).gather.get stripe).running =
        ((s.ary.get a).gather.get stripe).running ∧
      mark 4 stripe (maxRn ((s.ary.get a).gather.get stripe).running) ∈ (t.pairRun a ((s.mrd.arr.get a).pairOf
        stripe)).waiting) ∧
  (∀ (a : Fin 16) (p : Fin 17) (s : State),
    (s.mrd.arr.get a).serving = true ∧ ((s.mrd.arr.get a).pair p).state = .repairing →
    (∀ g ∈ (s.pairRun a p).segs, g.durable = true ∧ (if ((s.mrd.arr.get a).pair p).liveA then g.onB else g.onA) =
      true) →
    ∃ t, exec (.ledgerRepairSegment a p) s = .next t ∧
      ((t.mrd.arr.get a).pair p).state = .two ∧ ((t.mrd.arr.get a).pair p).liveA = true ∧ ((t.mrd.arr.get
        a).pair p).liveB = true) ∧
  (∀ (a : Fin 16) (s : State),
    (s.ary.get a).replaying = true ∧ (s.mrd.arr.get a).serving = true →
    (∀ x < (s.mrd.arr.get a).n, ((s.mrd.arr.get a).pairs.any fun q => q.holds x) = true → (s.ringOf a x).isSome =
      true) →
    ∃ t, exec (.replay a) s = .next t ∧
      (t.ary.get a).replaying = false ∧
      (t.ary.get a).rnNext = ((List.range (s.mrd.arr.get a).n).filterMap fun x => (s.ringOf a x).map fun r =>
        r.1.rnLimit).max?.getD 0 ∧
      (t.ary.get a).rnLimit = (t.ary.get a).rnNext + 2 ^ 40)

/-- An I/O command that goes through at once, on a quiet device, is answered on its queue. READ of plain blocks that
stand in the gather buffer places each slot's data at the host and completes with success (R180); COMPARE of such
blocks completes with success exactly when every block equals the host's data and with Compare Failure otherwise;
VERIFY of such blocks whose redundancy agrees and whose drives answer, and FLUSH, complete with success; none of
them changes an array, a gather buffer or what a drive holds. An opcode outside Table 2-2 completes with Invalid
Command Opcode, on an I/O queue and in the admin slot. -/
def Obligations.ReadAndCheckCommandsComplete : Prop :=
  (∀ (c : IoCmd) (s : State),
    s.ioTaken { c with opcode := 2 } = true →
    (s.mrd.ns.get c.nsid).plain = true ∧ (∀ i < c.nlb, s.gatheredOk (s.mrd.ns.get c.nsid) (c.slba + i) = true) →
    ∃ t, exec (.read c) s = .next t ∧
      (∀ i < c.nlb, ∃ x : Sector, Out.readSectors c.qref c.cid [x] ∈ t.out ∧ some x.data = (s.gathered
        (s.mrd.ns.get c.nsid) (c.slba + i)).map fun g => g.data) ∧
      t.responded c.qref c.cid St.ok ∧
      t.mrd.arr = s.mrd.arr ∧ t.mrd.ns = s.mrd.ns ∧ t.drives = s.drives ∧
      (∀ i, (t.ary.get i).gather = (s.ary.get i).gather)) ∧
  (∀ (c : IoCmd) (s : State),
    s.ioTaken { c with opcode := 0 } = true →
    ∃ t, exec (.flush c) s = .next t ∧
      t.responded c.qref c.cid St.ok ∧
      t.mrd.arr = s.mrd.arr ∧ t.mrd.ns = s.mrd.ns ∧ t.drives = s.drives ∧
      (∀ i, (t.ary.get i).gather = (s.ary.get i).gather)) ∧
  (∀ (c : IoCmd) (s : State),
    s.ioTaken { c with opcode := 5 } = true →
    (s.mrd.ns.get c.nsid).plain = true ∧ (∀ i < c.nlb, s.gatheredOk (s.mrd.ns.get c.nsid) (c.slba + i) = true) →
    ∃ t, exec (.compare c) s = .next t ∧
      t.responded c.qref c.cid (if c.data.map (fun (x : Sector) => x.data) = (List.range c.nlb).map (fun i =>
        ((s.gathered (s.mrd.ns.get c.nsid) (c.slba + i)).map fun g => g.data).getD 0) then St.ok else
        St.compareFailure) ∧
      t.mrd.arr = s.mrd.arr ∧ t.mrd.ns = s.mrd.ns ∧ t.drives = s.drives ∧
      (∀ i, (t.ary.get i).gather = (s.ary.get i).gather)) ∧
  (∀ (c : IoCmd) (s : State),
    s.ioTaken { c with opcode := 0x0C } = true →
    (s.mrd.ns.get c.nsid).plain = true ∧ (∀ i < c.nlb, s.gatheredOk (s.mrd.ns.get c.nsid) (c.slba + i) = true) →
    (∀ i < c.nlb, s.parityOk (s.mrd.arr.get (s.mrd.ns.get c.nsid).array) ((s.mrd.arr.get (s.mrd.ns.get
      c.nsid).array).place ((s.mrd.arr.get (s.mrd.ns.get c.nsid).array).mapped (s.mrd.ns.get c.nsid).ext (c.slba +
      i))).1 ((s.mrd.arr.get (s.mrd.ns.get c.nsid).array).place ((s.mrd.arr.get (s.mrd.ns.get
      c.nsid).array).mapped (s.mrd.ns.get c.nsid).ext (c.slba + i))).2.2 = true) →
    (s.cmdOps (s.mrd.ns.get c.nsid) 0 { c with opcode := 0x0C }).all (fun o => s.bayTakes o.bay && !(s.media o.bay
      o.blk).bad) = true →
    ∃ t, exec (.verify c) s = .next t ∧
      t.responded c.qref c.cid St.ok ∧
      t.mrd.arr = s.mrd.arr ∧ t.mrd.ns = s.mrd.ns ∧ t.drives = s.drives ∧
      (∀ i, (t.ary.get i).gather = (s.ary.get i).gather)) ∧
  (∀ (q : Nat) (cid : Nat) (op : Nat) (s : State),
    s.ioAdmits { (default : IoCmd) with qref := q, cid := cid, opcode := op } = true ∧ ioSupported op = false →
    ∃ t, exec (.unsupportedOpcode q cid op) s = .next t ∧
      t.responded q cid St.invalidOpcode ∧
      (t.host.queue.get q).sqhd = ((s.host.queue.get q).sqhd + 1) % ((s.host.queue.get q).sqsize + 1) ∧
        t.mrd.arr = s.mrd.arr ∧ t.mrd.ns = s.mrd.ns ∧ t.drives = s.drives) ∧
  (∀ (q : Nat) (k : Nat) (cid : Nat) (op : Nat) (s : State),
    s.adminTaken { (default : AdminCmd) with qref := q, cid := cid, opcode := op } k = true ∧ adminSupported op =
      false →
    (s.host.queue.get q).qid = 0 ∧ (s.host.queue.get q).live = true →
    ∃ t, exec (.unsupportedOpcode q cid op) s = .next t ∧
      t.responded q cid St.invalidOpcode ∧
      (t.host.queue.get q).sqhd = ((s.host.queue.get q).sqhd + 1) % ((s.host.queue.get q).sqsize + 1) ∧ t.mrd =
        s.mrd ∧ t.ary = s.ary)

/-- On a plain ledgered namespace whose pair is in TWO with room, WRITE of one block, WRITE_ZEROES of one block,
DATASET_MANAGEMENT with Deallocate of one block and the fused COMPARE_AND_WRITE of one gathered block that compares
equal complete with success, and the block's gather slot then holds the new data (zeroes for Write Zeroes and
Deallocate), so that a later read is given it (R180); DATASET_MANAGEMENT without Deallocate completes with success
and changes no array, no gather buffer and no drive. -/
def Obligations.WriteCommandsReachTheLedger : Prop :=
  (∀ (c : IoCmd) (s : State),
    s.ioTaken { c with opcode := 1 } = true →
    (s.mrd.ns.get c.nsid).plain = true ∧ c.nlb = 1 ∧ s.ledgerRoom (s.mrd.ns.get c.nsid) c.slba = true →
    ∃ t, exec (.write c) s = .next t ∧
      t.responded c.qref c.cid St.ok ∧
      (t.gathered (s.mrd.ns.get c.nsid) c.slba).map (fun g => g.data) = some (c.data.getD 0 default).data ∧
      t.mrd.ns = s.mrd.ns ∧ t.mrd.hosts = s.mrd.hosts) ∧
  (∀ (c : IoCmd) (s : State),
    s.ioTaken { c with opcode := 8 } = true →
    (s.mrd.ns.get c.nsid).plain = true ∧ c.nlb = 1 ∧ s.ledgerRoom (s.mrd.ns.get c.nsid) c.slba = true →
    ∃ t, exec (.writeZeroes c) s = .next t ∧
      t.responded c.qref c.cid St.ok ∧
      (t.gathered (s.mrd.ns.get c.nsid) c.slba).map (fun g => g.data) = some 0) ∧
  (∀ (c : IoCmd) (b : Nat) (s : State),
    s.ioTaken { c with opcode := 9 } = true →
    (s.mrd.ns.get c.nsid).plain = true ∧ c.deac = true ∧ c.ranges = [(b, 1)] ∧ s.ledgerRoom (s.mrd.ns.get c.nsid)
      b = true →
    ∃ t, exec (.datasetManagement c) s = .next t ∧
      t.responded c.qref c.cid St.ok ∧
      (t.gathered (s.mrd.ns.get c.nsid) b).map (fun g => g.data) = some 0) ∧
  (∀ (c : IoCmd) (s : State),
    s.ioTaken { c with opcode := 9 } = true →
    c.deac = false →
    ∃ t, exec (.datasetManagement c) s = .next t ∧
      t.responded c.qref c.cid St.ok ∧
      t.mrd.arr = s.mrd.arr ∧ t.mrd.ns = s.mrd.ns ∧ t.drives = s.drives ∧
      (∀ i, (t.ary.get i).gather = (s.ary.get i).gather)) ∧
  (∀ (a : IoCmd) (b : IoCmd) (s : State),
    s.quiet = true ∧ s.queueOpen a = true ∧ s.queueOpen b = true ∧ s.unmetered a = true ∧ s.unmetered b = true ∧
      (s.claim a).isNone = true ∧ 2 ≤ (s.host.queue.get a.qref).sqsize →
    (s.ioCheck (s.capsuleOf { a with fuse := 1 })).isNone = true ∧ (s.ioCheck (s.capsuleOf
      { b with fuse := 2 })).isNone = true ∧ a.opcode = 5 ∧ b.opcode = 1 ∧ b.qref = a.qref ∧ b.cid ≠ a.cid ∧
      b.nsid = a.nsid →
    (s.mrd.ns.get a.nsid).plain = true ∧ a.nlb = 1 ∧ b.nlb = 1 ∧ s.gatheredOk (s.mrd.ns.get a.nsid) a.slba = true
      →
    (s.gathered (s.mrd.ns.get a.nsid) a.slba).map (fun g => g.data) = (a.data.head?.map fun x => x.data) ∧
      a.data.length = 1 →
    s.ledgerRoom (s.mrd.ns.get b.nsid) b.slba = true →
    ∃ t, exec (.compareAndWrite a b) s = .next t ∧
      t.responded a.qref a.cid St.ok ∧ t.responded b.qref b.cid St.ok ∧
      (t.gathered (s.mrd.ns.get b.nsid) b.slba).map (fun g => g.data) = some (b.data.getD 0 default).data)

/-- A reservation command that goes through at once completes with success: REGISTER of a host that is no registrant
makes it one with its key and advances the generation; REPORT changes nothing moored and gives the generation, the
type and the number of registrants; ACQUIRE by a registrant with its key, of a namespace that is not reserved, makes
it holder with the type asked for; RELEASE by the holder with its key and the type leaves the namespace unreserved.
The layout of reservations follows NVMe, to which Table 2-2 refers. -/
def Obligations.ReservationCommandsChangeTheReservation : Prop :=
  (∀ (c : IoCmd) (s : State),
    s.ioTaken { c with opcode := 0x0D } = true ∧ c.resv.action = 0 →
    (s.mrd.ns.get c.nsid).resv.registered (s.queueHost c.qref) = false →
    ∃ t, exec (.reservationRegister c) s = .next t ∧
      t.responded c.qref c.cid St.ok ∧
      (s.queueHost c.qref, c.resv.nrkey) ∈ (t.mrd.ns.get c.nsid).resv.regs ∧
      (t.mrd.ns.get c.nsid).resv.gen = (s.mrd.ns.get c.nsid).resv.gen + 1) ∧
  (∀ (c : IoCmd) (s : State),
    s.ioTaken { c with opcode := 0x0E } = true →
    ∃ t, exec (.reservationReport c) s = .next t ∧
      t.responded c.qref c.cid St.ok ∧
      (∃ l, Out.adminInfo c.qref c.cid 0x0E ([(s.mrd.ns.get c.nsid).resv.gen % 2 ^ 32, (s.mrd.ns.get
        c.nsid).resv.rtype, (s.mrd.ns.get c.nsid).resv.regs.length] ++ l) ∈ t.out) ∧
      t.mrd.arr = s.mrd.arr ∧ t.mrd.ns = s.mrd.ns ∧ t.drives = s.drives) ∧
  (∀ (c : IoCmd) (s : State),
    s.ioTaken { c with opcode := 0x11 } = true ∧ c.resv.action = 0 ∧ 1 ≤ c.resv.rtype ∧ c.resv.rtype ≤ 6 →
    ((s.mrd.ns.get c.nsid).resv.regs.find? fun e => e.1 == s.queueHost c.qref) = some (s.queueHost c.qref,
      c.resv.crkey) ∧ (s.mrd.ns.get c.nsid).resv.rtype = 0 →
    ∃ t, exec (.reservationAcquire c) s = .next t ∧
      t.responded c.qref c.cid St.ok ∧
      (t.mrd.ns.get c.nsid).resv.holder = some (s.queueHost c.qref) ∧ (t.mrd.ns.get c.nsid).resv.rtype =
        c.resv.rtype ∧
      (t.mrd.ns.get c.nsid).resv.regs = (s.mrd.ns.get c.nsid).resv.regs) ∧
  (∀ (c : IoCmd) (s : State),
    s.ioTaken { c with opcode := 0x15 } = true ∧ c.resv.action = 0 ∧ c.resv.rtype = (s.mrd.ns.get
      c.nsid).resv.rtype ∧ c.resv.rtype ≠ 0 →
    ((s.mrd.ns.get c.nsid).resv.regs.find? fun e => e.1 == s.queueHost c.qref) = some (s.queueHost c.qref,
      c.resv.crkey) ∧ (s.mrd.ns.get c.nsid).resv.holds (s.queueHost c.qref) = true →
    ∃ t, exec (.reservationRelease c) s = .next t ∧
      t.responded c.qref c.cid St.ok ∧
      (t.mrd.ns.get c.nsid).resv.holder = none ∧ (t.mrd.ns.get c.nsid).resv.rtype = 0 ∧
      (t.mrd.ns.get c.nsid).resv.regs = (s.mrd.ns.get c.nsid).resv.regs)

/-- A capsule that arrives on a live, authenticated queue with room stands last in its storage (R47); a first half that
the capsule behind it shows to stand alone completes with Command Aborted due to Missing Fused Command where its
home engine would admit it (R99). In its turn an open engine admits the queue's single unheld command to a free
berth, QUEUED, at the head of its tow line, and the queue's head advances (R48, R99 to R101). An idle engine's look
takes the tail slots of its victim into transit (R104); a tow that arrives runs its oldest entry (R106); an engine
takes the head of its tow line to RUN (R102). A command in RUN whose checks pass is PARSED; packets of the data that
a command fetches are gathered until the last byte is there, which puts it back in RUN (R73); an accepted completion
cell answers the host and frees the berth (R109, R111). -/
def Obligations.AdmissionAndTowingMoveCommands : Prop :=
  (∀ (c : IoCmd) (s : State),
    (s.host.queue.get c.qref).live = true ∧ (s.host.queue.get c.qref).qid ≠ 0 ∧ (s.host.queue.get c.qref).authOk =
      true ∧ (s.host.queue.get c.qref).disconnect = none →
    (s.host.queue.get c.qref).sq.length + (s.host.queue.get c.qref).cids.length ≤ (s.host.queue.get c.qref).sqsize
      →
    (s.host.queue.get c.qref).home = none ∨ (((s.host.queue.get c.qref).sq ++ [c]).head?.all fun x => x.fuse == 0)
      = true →
    ∃ t, exec (.capsuleArrival c) s = .next t ∧
      (t.host.queue.get c.qref).sq = (s.host.queue.get c.qref).sq ++ [c] ∧
      t.brg = s.brg ∧ t.mrd = s.mrd ∧ t.out = s.out) ∧
  (∀ (c : IoCmd) (d : IoCmd) (e : Nat) (s : State),
    (s.host.queue.get c.qref).live = true ∧ (s.host.queue.get c.qref).qid ≠ 0 ∧ (s.host.queue.get c.qref).authOk =
      true ∧ (s.host.queue.get c.qref).disconnect = none →
    1 + (s.host.queue.get c.qref).cids.length ≤ (s.host.queue.get c.qref).sqsize →
    (s.host.queue.get c.qref).sq = [d] ∧ d.fuse = 1 ∧ c.fuse ≠ 2 ∧ (s.host.queue.get c.qref).home = some e →
    s.engOpen e = true ∧ (s.eng e).tow.length + (s.eng e).transit.length < 64 ∧ s.ioHeld d = false ∧ (s.admits e
      d).isSome = true →
    ∃ t, exec (.capsuleArrival c) s = .next t ∧
      (t.host.queue.get c.qref).sq = [c] ∧ t.brg = s.brg ∧
      Out.response c.qref d.cid (((s.host.queue.get c.qref).sqhd + 1) % ((s.host.queue.get c.qref).sqsize + 1))
        St.missingFused ∈ t.out) ∧
  (∀ (e : Fin 256) (q : Nat) (b : Nat) (c : IoCmd) (s : State),
    s.engOpen e = true ∧ s.nextQueue e = some q ∧ (s.eng e).tow.length + (s.eng e).transit.length < 64 →
    (s.host.queue.get q).commits = [] ∧ (s.host.queue.get q).sq = [c] ∧ c.qref = q ∧ c.fuse = 0 ∧ c.commit = none
      →
    s.ioHeld c = false ∧ c.cid ∉ (s.host.queue.get q).cids ∧ c.cid ∉ (s.host.queue.get q).aborted ∧ s.claim c =
      none →
    ((s.updEng e fun x => { x with turn := q + 1 }).admits e c |>.map Prod.fst) = some b →
    ∃ t, exec (.admissionTurn e) s = .next t ∧
      (t.berth b).state = .queued ∧ (t.berth b).cmd = c ∧ (t.berth b).owner = e ∧ (t.berth b).checkpoint = 1 ∧
      (t.eng e).tow = b :: (s.eng e).tow ∧ (t.eng e).turn = q + 1 ∧
      (t.host.queue.get q).sq = [] ∧ c.cid ∈ (t.host.queue.get q).cids ∧
      (t.host.queue.get q).sqhd = ((s.host.queue.get q).sqhd + 1) % ((s.host.queue.get q).sqsize + 1)) ∧
  (∀ (e : Fin 256) (v : Nat) (s : State),
    s.engOpen e = true ∧ (s.eng e).transit = [] ∧ s.engIdle e = true ∧ s.flag (Fld.BRG_TOW_CTL_TOW_EN e) = true ∧
      s.inflight e < 1024 →
    (s.updEng e fun x => { x with idleSince := some (x.idleSince.getD s.now) }).pickVictim (e / 16) e = some v →
    (s.eng v).state = .run ∧ v ≠ e ∧ (∀ x ∈ (s.eng v).tow, (s.berth x).token = 0) →
    ∃ t, exec (.towLook e) s = .next t ∧
      (t.eng e).transit = (s.eng v).tow.reverse.take (max 1 (min (s.fld (Fld.BRG_TOW_CTL_TAKE_MAX e)) ((s.eng
        v).tow.length / 2))) ∧
      (t.eng v).tow.reverse = (s.eng v).tow.reverse.drop (max 1 (min (s.fld (Fld.BRG_TOW_CTL_TAKE_MAX e))
        ((s.eng v).tow.length / 2))) ∧
      t.brg.berth = s.brg.berth) ∧
  (∀ (e : Fin 256) (b : Nat) (l : List Nat) (s : State),
    (s.eng e).transit = b :: l ∧ s.engRuns e = true ∧ s.inflight e < 1024 →
    ∃ t, exec (.towArrival e) s = .next t ∧
      (t.berth b).state = .run ∧ (t.berth b).owner = e ∧
      (t.eng e).transit = [] ∧ (t.eng e).tow = ((s.eng e).tow ++ l.reverse ++ [b]).erase b) ∧
  (∀ (e : Fin 256) (b : Nat) (l : List Nat) (s : State),
    s.engRuns e = true ∧ (s.eng e).tow = b :: l ∧ s.fld Fld.BRG_TOW_TIME_AGE_US = 0 ∧ (s.berth b).token = 0 ∧
      s.inflight e < 1024 →
    (s.berths fun x => x.orphan && x.state != .free) = [] →
    ∃ t, exec (.engineTake e) s = .next t ∧
      (t.berth b).state = .run ∧ (t.berth b).owner = e ∧
      (t.eng e).tow = l ∧ (t.eng e).idleSince = none) ∧
  (∀ (b : Fin 262144) (s : State),
    (s.berth b).state = .run ∧ (s.berth b).orphan = false ∧ (s.berth b).admin = false ∧ s.engRuns (s.berth
      b).owner = true →
    (s.berth b).failed = false ∧ (s.berth b).checkpoint ≤ 1 ∧ (s.berth b).fusedFirst = false ∧ (s.berth
      b).fusedSecond = false →
    (s.berth b).cmd.commit = none ∧ s.ioCheck (s.berth b).cmd = none ∧ ((s.berth b).ops.all fun o =>
      o.heldBack.isNone) = true ∧ (s.berth b).heldData = none →
    ∃ t, exec (.engineStep b) s = .next t ∧
      (t.berth b).checkpoint = 2 ∧ (t.berth b).state = .run ∧ (t.berth b).cmd = (s.berth b).cmd ∧
      t.mrd = s.mrd ∧ t.ary = s.ary ∧ t.out = s.out) ∧
  (∀ (b : Fin 262144) (p : ReadPkt) (s : State),
    (s.berth b).state = .wait ∧ (s.berth b).waits = .data ∧ (s.berth b).fetched = false ∧ (s.berth b).orphan =
      false →
    (s.berth b).heldData = none ∧ (s.berth b).pieces = [] ∧ isTcp (s.berth b).cmd.qref = false →
    p.idx = 0 ∧ p.ce = false ∧ p.payload.length = (s.berth b).cmd.nlb * blkBytes (s.berth b).cmd (s.berth b).ns →
    ∃ t, exec (.hostDataArrival b [p]) s = .next t ∧
      (t.berth b).state = .run ∧ (t.berth b).fetched = true ∧ (t.berth b).pieces = [] ∧
      ((t.berth b).cmd.data = (List.range (s.berth b).cmd.nlb).map fun i => sectorOf (if (s.berth b).ns.small
        then 512 else 4096) ((p.payload.drop (i * blkBytes (s.berth b).cmd (s.berth b).ns)).take (blkBytes
        (s.berth b).cmd (s.berth b).ns))) ∧
      t.mrd = s.mrd ∧ t.ary = s.ary ∧ t.host = s.host) ∧
  (∀ (b : Fin 262144) (p : ReadPkt) (s : State),
    (s.berth b).state = .wait ∧ (s.berth b).fetched = false ∧ (s.berth b).heldData = none ∧ (s.berth b).pieces =
      [] →
    isTcp (s.berth b).cmd.qref = false ∧ p.ce = false ∧ p.payload.length < (s.berth b).cmd.nlb * blkBytes (s.berth
      b).cmd (s.berth b).ns →
    ∃ t, exec (.hostDataArrival b [p]) s = .next t ∧
      (t.berth b).pieces = [(p.idx * (s.qp (s.berth b).cmd.qref).mtu, p.payload)] ∧ (t.berth b).state = .wait ∧
        (t.berth b).fetched = false ∧
      t.out = s.out ∧ t.mrd = s.mrd ∧ t.tug = s.tug ∧ t.host = s.host) ∧
  (∀ (b : Fin 262144) (s : State),
    (s.berth b).state = .done ∧ (s.berth b).posted = false ∧ ((s.berth b).ops.all fun o => o.finished) = true ∧
      (s.berth b).cmd.commit = none →
    (s.host.queue.get (s.berth b).cmd.qref).live = true ∧ (s.host.queue.get (s.berth b).cmd.qref).cntlid =
      (s.berth b).cntlid ∧ (s.host.queue.get (s.berth b).cmd.qref).disconnect = none →
    ∃ t, exec (.completionCellAccept b) s = .next t ∧
      (t.berth b).state = .free ∧
      Out.response (s.berth b).cmd.qref (s.berth b).cmd.cid (s.berth b).sqhd (s.berth b).status ∈ t.out ∨
        ((s.berth b).prompt, Out.response (s.berth b).cmd.qref (s.berth b).cmd.cid (s.berth b).sqhd (s.berth
        b).status) ∈ t.pair.held)

/-- While another engine runs, an engine fault or an expired step limit leaves the engine FENCED with its cause set in
BRG_FAULT, a corrected bank error only counts (R112); BASIN_RESET leaves no engine of the basin in RUN or PARKED and
goes on executing (R114), and the self-test puts the engines that passed in RUN and fences the others; a bank state
asked for on an engine that does not run is taken, and the bank returns ON (R115); a berth index starts a snapshot
(R110), whose end clears BUSY with STATE in the first byte; a returning basin whose trigger is not held is in RUN
(R339). -/
def Obligations.EngineFaultsBanksAndSnapshots : Prop :=
  (∀ (e : Fin 256) (cause : Fin 4) (s : State),
    cause ≠ 3 ∧ s.fenceable e = true ∧ ((List.range 256).any fun x => x != e.val && s.engRuns x) = true →
    ∃ t, exec (.engineFence e cause) s = .next t ∧
      (t.eng e).state = .fenced ∧ t.fld (Fld.BRG_STATUS_STATE e) = 2 ∧
      t.fld (if cause = 0 then Fld.BRG_FAULT_BANK_UE e else if cause = 1 then Fld.BRG_FAULT_ISTORE_PAR e else
        Fld.BRG_FAULT_REG_PAR e) = 1) ∧
  (∀ (e : Fin 256) (s : State),
    s.fld (Fld.BRG_BANK_STAT_CE e) < 2 ^ (Fld.BRG_BANK_STAT_CE e).w - 1 →
    ∃ t, exec (.engineFence e 3) s = .next t ∧
      t.fld (Fld.BRG_BANK_STAT_CE e) = s.fld (Fld.BRG_BANK_STAT_CE e) + 1 ∧ t.brg = s.brg) ∧
  (∀ (e : Fin 256) (s : State),
    s.engRuns e = true ∧ (s.berths fun b => b.flies e && b.state == .run) ≠ [] ∧ ((List.range 256).any fun x => x
      != e.val && s.engRuns x) = true →
    ∃ t, exec (.stepLimitExpiry e) s = .next t ∧
      (t.eng e).state = .fenced ∧ t.fld (Fld.BRG_STATUS_STATE e) = 2 ∧ t.fld (Fld.BRG_FAULT_STEP_LIMIT e) = 1) ∧
  (∀ (h : Hdr) (basin : Nat) (s : State),
    s.takes h 0x0A01 [(.device, basin)] = true →
    basin < 16 ∧ (s.brg.resets.any fun r => r.basin == basin) = false ∧ ((List.range 256).any fun x => x / 16 !=
      basin && s.engRuns x) = true →
    ∃ t, exec (.basinReset h basin) s = .next t ∧
      t.executing h 0x0A01 ∧
      (∀ i ∈ List.range 16, (t.eng (16 * basin + i)).state ≠ .run ∧ (t.eng (16 * basin + i)).state ≠ .parked)) ∧
  (∀ (b : Fin 16) (pass : BitVec 16) (r : BasinReset) (s : State),
    s.brg.resets = [r] ∧ r.basin = b.val ∧ s.basinClear b = true →
    (∀ i ∈ List.range 16, (s.eng (16 * b.val + i)).state = .fenced ∨ (s.eng (16 * b.val + i)).state = .resetting)
      →
    ∃ t, exec (.basinSelftestComplete b pass) s = .next t ∧
      t.brg.resets = [] ∧
      (∀ i ∈ List.range 16, (t.eng (16 * b.val + i)).state = if pass.getLsbD i then .run else .fenced)) ∧
  (∀ (e : Fin 256) (req : Nat) (s : State),
    (req = 1 ∨ req = 2) ∧ s.engRuns e = false →
    ∃ t, exec (.brgBankCtlWrite e req) s = .next t ∧
      t.fld (Fld.BRG_BANK_CTL_REQ e) = req ∧ t.fld (Fld.BRG_BANK_STAT_STATE e) = req ∧
      (t.eng e).bank = (if req = 2 then [] else (s.eng e).bank)) ∧
  (∀ (e : Fin 256) (s : State),
    s.fld (Fld.BRG_BANK_CTL_REQ e) = 0 ∧ (s.eng e).state ≠ .parked ∧ (s.eng e).state ≠ .off →
    ∃ t, exec (.bankReturnOn e) s = .next t ∧
      t.fld (Fld.BRG_BANK_STAT_STATE e) = 0 ∧ t.brg = s.brg) ∧
  (∀ (berth : Nat) (s : State),
    berth < 2 ^ 18 →
    ∃ t, exec (.brgBerthIdxWrite berth) s = .next t ∧
      t.brg.snap = some berth ∧ t.fld Fld.BRG_BERTH_IDX_BERTH = berth ∧ t.fld Fld.BRG_BERTH_IDX_BUSY = 1 ∧
      t.brg.berth = s.brg.berth) ∧
  (∀ (b : Nat) (s : State),
    s.brg.snap = some b →
    ∃ t, exec (.berthSnapshotComplete) s = .next t ∧
      t.brg.snap = none ∧ t.fld Fld.BRG_BERTH_IDX_BUSY = 0 ∧
      (t.reg (Fld.BRG_BERTH_DATA_WORD 0).addr).toNat % 256 = (s.berth b).state.code ∧
      t.brg.berth = s.brg.berth) ∧
  (∀ (b : Fin 16) (s : State),
    s.pwr.basinReturning = some b.val ∧ s.pwr.basinHeld = false ∧ (∀ i ∈ List.range 16, (s.eng (16 * b.val +
      i)).state = .parked) →
    ∃ t, exec (.basinReturnComplete b) s = .next t ∧
      t.pwr.basinReturning = none ∧
      (∀ i ∈ List.range 16, (t.eng (16 * b.val + i)).state = .run))

/-- An admin Connect of a listed host on a queue pair in RTS, to a subsystem it may reach, with a dynamic CNTLID, a
legal SQSIZE and room for the association, leaves a live association of that host and subsystem and answers with
success status (R36 to R38). Property Get of CC answers its value; Property Set of CC records it and CSTS.RDY
follows EN (R44). Disconnect on an I/O queue without admitted commands answers and ends the queue, on the admin
queue the association (R458). A negotiation that offers the host's hash and a known group draws a challenge, which
the host reads with its hash and group; the right response succeeds, and the read of the success authenticates the
queue one way, the host's success after it both ways; a wrong response, or no authentication in time, ends the queue
(R40). A Keep Alive restarts its timer; its expiry tears the association down (R41, R91). -/
def Obligations.ConnectAndQueueEndsChangeAssociations : Prop :=
  (∀ (q : Nat) (cid : Nat) (nqn : Nat) (sub : Nat) (hostId : Nat) (sqsize : Nat) (kato : Nat) (cattr : Nat) (hn :
    Nat) (un : Nat) (s : State),
    q < 65536 ∧ (s.qp q).state = .rts ∧ (s.host.queue.get q).live = false ∧ s.isStandby = false ∧ s.pair.tko =
      none →
    s.hostOf nqn = some hn ∧ s.subsysOf sub = some un ∧ sub ≠ discoveryNqn ∧ s.listed (s.srcOf q).2 = true →
    un ∈ (s.mrd.hosts.get hn).p.reach ∧ 1 ≤ sqsize ∧ sqsize ≤ 31 ∧ cattr.testBit 2 = false →
    (s.assocs fun _ => true).length < 8192 ∧ (s.assocs fun a => a.host == hn).length < (s.mrd.hosts.get
      hn).p.maxAssoc →
    (s.homeEngine 0).isSome = true ∧ ((List.range 8192).any fun i => decide (s.host.assoc.get (i + 1) = default))
      = true →
    ∃ t, exec (.connect q cid nqn sub hostId 0xFFFF 0 sqsize kato cattr) s = .next t ∧
      (t.host.queue.get q).live = true ∧ (t.host.queue.get q).qid = 0 ∧ (t.host.queue.get q).sqsize = sqsize ∧
      (t.host.assoc.get (t.host.queue.get q).cntlid).live = true ∧ (t.host.assoc.get (t.host.queue.get
        q).cntlid).host = hn ∧ (t.host.assoc.get (t.host.queue.get q).cntlid).subsys = un ∧
      (t.host.assoc.get (t.host.queue.get q).cntlid).katoMs = katoOf kato ∧ t.mrd = s.mrd) ∧
  (∀ (q : Nat) (cid : Nat) (k : Nat) (s : State),
    s.adminOf q = some k ∧ cid ∉ (s.host.queue.get q).cids ∧ (s.host.queue.get q).cids.length ≤ (s.host.queue.get
      q).sqsize →
    ∃ t, exec (.propertyGet q cid 0x14) s = .next t ∧
      Out.adminInfo q cid 0x7F04 [(s.host.assoc.get k).cc] ∈ t.out ∧ t.responded q cid St.ok ∧
      t.host.assoc = s.host.assoc ∧ t.mrd = s.mrd) ∧
  (∀ (q : Nat) (cid : Nat) (k : Nat) (v : Nat) (s : State),
    s.adminOf q = some k ∧ cid ∉ (s.host.queue.get q).cids ∧ (s.host.queue.get q).cids.length ≤ (s.host.queue.get
      q).sqsize →
    v.testBit 0 = true ∨ (s.host.assoc.get k).ready = false →
    ∃ t, exec (.propertySet q cid 0x14 v) s = .next t ∧
      (t.host.assoc.get k).cc = v % 2 ^ 32 ∧ (t.host.assoc.get k).ready = v.testBit 0 ∧
      t.responded q cid St.ok ∧ t.mrd = s.mrd) ∧
  (∀ (q : Nat) (cid : Nat) (s : State),
    (s.host.queue.get q).live = true ∧ (s.host.queue.get q).qid ≠ 0 →
    (s.berths fun b => b.cmd.qref == q && b.state != .free) = [] →
    ∃ t, exec (.disconnect q cid) s = .next t ∧
      (t.host.queue.get q) = default ∧ t.responded q cid St.ok ∧
      t.host.assoc = s.host.assoc ∧ t.mrd = s.mrd) ∧
  (∀ (q : Nat) (cid : Nat) (s : State),
    (s.host.queue.get q).live = true ∧ (s.host.queue.get q).qid = 0 →
    ∃ t, exec (.disconnect q cid) s = .next t ∧
      (t.host.assoc.get (s.host.queue.get q).cntlid).live = false) ∧
  (∀ (q : Nat) (cid : Nat) (hashes : List Nat) (groups : List Nat) (g : Nat) (s : State),
    (s.host.queue.get q).live = true ∧ (s.mrd.hosts.get (s.queueHost q)).p.policy ≠ .none ∧ (s.host.queue.get
      q).auth.step = .idle →
    (s.mrd.hosts.get (s.queueHost q)).hash ∈ hashes ∧ (groups.find? fun x => [0, 1, 2, 3, 4, 5].contains x) = some
      g →
    ∃ t, exec (.authenticationSend q cid (.negotiate hashes groups)) s = .next t ∧
      (t.host.queue.get q).auth = ⟨.challenged, (s.mrd.hosts.get (s.queueHost q)).hash, g, s.freeVal, none⟩ ∧
      t.responded q cid St.ok ∧ t.host.assoc = s.host.assoc ∧ t.mrd = s.mrd) ∧
  (∀ (q : Nat) (cid : Nat) (ch : Option Nat) (s : State),
    (s.host.queue.get q).live = true ∧ (s.mrd.hosts.get (s.queueHost q)).p.policy ≠ .none ∧ (s.host.queue.get
      q).auth.step = .challenged →
    (s.host.queue.get q).auth.hostChallenge = none →
    ∃ t, exec (.authenticationSend q cid (.reply (Config.chapResponse (s.mrd.hosts.get (s.queueHost q)).hostSecret (s.host.queue.get q).auth.hash (s.host.queue.get q).auth.group (s.host.queue.get q).auth.challenge) ch)) s = .next t ∧
      (t.host.queue.get q).auth = { (s.host.queue.get q).auth with step := .success, hostChallenge := ch } ∧
      t.responded q cid St.ok ∧ t.host.assoc = s.host.assoc ∧ t.mrd = s.mrd) ∧
  (∀ (q : Nat) (cid : Nat) (s : State),
    (s.host.queue.get q).live = true ∧ (s.mrd.hosts.get (s.queueHost q)).p.policy ≠ .none ∧ (s.host.queue.get
      q).auth.step = .waitHost →
    ∃ t, exec (.authenticationSend q cid .success2) s = .next t ∧
      (t.host.queue.get q).authOk = true ∧ (t.host.queue.get q).authBy = none ∧ t.responded q cid St.ok ∧
      t.host.assoc = s.host.assoc ∧ t.mrd = s.mrd) ∧
  (∀ (q : Nat) (cid : Nat) (w : Nat) (ch : Option Nat) (s : State),
    (s.host.queue.get q).live = true ∧ (s.mrd.hosts.get (s.queueHost q)).p.policy ≠ .none ∧ (s.host.queue.get
      q).auth.step = .challenged →
    w ≠ Config.chapResponse (s.mrd.hosts.get (s.queueHost q)).hostSecret (s.host.queue.get q).auth.hash
      (s.host.queue.get q).auth.group (s.host.queue.get q).auth.challenge →
    q < 65536 ∧ (s.qp q).state = .rts →
    ∃ t, exec (.authenticationSend q cid (.reply w ch)) s = .next t ∧
      (t.host.queue.get q).live = false ∧ (t.host.assoc.get (s.host.queue.get q).cntlid).live = false) ∧
  (∀ (q : Nat) (cid : Nat) (s : State),
    (s.host.queue.get q).live = true ∧ (s.host.queue.get q).auth.step = .challenged →
    ∃ t, exec (.authenticationReceive q cid) s = .next t ∧
      Out.adminInfo q cid 0x7F06 [1, (s.host.queue.get q).auth.hash, (s.host.queue.get q).auth.group,
        (s.host.queue.get q).auth.challenge] ∈ t.out ∧
      t.responded q cid St.ok ∧ t.host.assoc = s.host.assoc ∧ t.mrd = s.mrd) ∧
  (∀ (q : Nat) (cid : Nat) (s : State),
    (s.host.queue.get q).live = true ∧ (s.host.queue.get q).auth.step = .success ∧ (s.host.queue.get
      q).auth.hostChallenge = none →
    ∃ t, exec (.authenticationReceive q cid) s = .next t ∧
      (t.host.queue.get q).authOk = true ∧ (t.host.queue.get q).authBy = none ∧ t.responded q cid St.ok) ∧
  (∀ (q : Nat) (cid : Nat) (c : Nat) (s : State),
    (s.host.queue.get q).live = true ∧ (s.host.queue.get q).auth.step = .success ∧ (s.host.queue.get
      q).auth.hostChallenge = some c →
    ∃ t, exec (.authenticationReceive q cid) s = .next t ∧
      (t.host.queue.get q).auth.step = .waitHost ∧ (t.host.queue.get q).authOk = (s.host.queue.get q).authOk ∧
        t.responded q cid St.ok ∧
      Out.adminInfo q cid 0x7F06 [3, Config.chapResponse (s.mrd.hosts.get (s.queueHost q)).ctrlSecret
        (s.host.queue.get q).auth.hash (s.host.queue.get q).auth.group c] ∈ t.out) ∧
  (∀ (q : Nat) (s : State),
    (s.host.queue.get q).live = true ∧ (s.host.queue.get q).authBy.isSome = true ∧ (s.host.queue.get q).authOk =
      false →
    q < 65536 ∧ (s.qp q).state = .rts →
    ∃ t, exec (.authenticationTimeout q) s = .next t ∧
      (t.host.queue.get q).live = false) ∧
  (∀ (q : Nat) (cid : Nat) (k : Nat) (s : State),
    s.adminOf q = some k ∧ cid ∉ (s.host.queue.get q).cids ∧ (s.host.queue.get q).cids.length ≤ (s.host.queue.get
      q).sqsize →
    ∃ t, exec (.keepAlive q cid) s = .next t ∧
      (t.host.assoc.get k).kaSince = s.now ∧ t.responded q cid St.ok ∧
      t.mrd = s.mrd ∧ t.brg = s.brg) ∧
  (∀ (k : Nat) (s : State),
    (s.host.assoc.get k).live = true ∧ (s.host.assoc.get k).katoMs ≠ 0 →
    ∃ t, exec (.keepAliveTimeout k) s = .next t ∧
      (t.host.assoc.get k).live = false ∧ (t.host.assoc.get k).aers = [] ∧ (t.host.assoc.get k).wish = 0)

/-- An admin command on an authenticated admin queue with a free slot that the lockkeeper serves is executed at once:
Identify of an active namespace, the firmware log page, Set Features of the asynchronous event configuration, Get
Features of it, Abort of a command that waits in its submission queue each answer as Table 2-2 says; Abort records
the abort, and of the others only Set Features changes the association. Format NVM of a format that the namespace
offers sets its format and size, and the command ends or goes on in its slot. An Asynchronous Event Request below
the limit is parked. A temperature that crosses no association's threshold completes no event. -/
def Obligations.AdminCommandsCompleteOrWait : Prop :=
  (∀ (c : AdminCmd) (k : Nat) (s : State),
    s.adminTaken c k = true ∧ bitsOf c.cdw10 0 8 = 0 ∧ s.sees (s.host.assoc.get k) c.nsid = true →
    ∃ t, exec (.nvmeIdentify c) s = .next t ∧
      t.responded c.qref c.cid St.ok ∧ t.mrd = s.mrd ∧ t.brg.eng = s.brg.eng ∧
      (∀ b, b ≠ k - 1 → t.berth b = s.berth b) ∧
      (∃ l, Out.adminInfo c.qref c.cid 0x600 ([(s.mrd.ns.get c.nsid).size, (s.mrd.ns.get c.nsid).size,
        (s.mrd.ns.get c.nsid).size] ++ l) ∈ t.out)) ∧
  (∀ (c : AdminCmd) (k : Nat) (s : State),
    s.adminTaken c k = true ∧ bitsOf c.cdw10 0 8 = 3 ∧ (s.host.assoc.get k).discovery = false →
    ∃ t, exec (.getLogPage c) s = .next t ∧
      t.responded c.qref c.cid St.ok ∧ t.mrd = s.mrd ∧
      Out.adminInfo c.qref c.cid 0x203 [s.fw.running, s.fw.version] ∈ t.out) ∧
  (∀ (c : AdminCmd) (k : Nat) (s : State),
    s.adminTaken c k = true ∧ bitsOf c.cdw10 0 8 = 0x0B →
    ∃ t, exec (.setFeatures c) s = .next t ∧
      t.responded c.qref c.cid St.ok ∧ (t.host.assoc.get k).aec = c.cdw11 ∧ t.mrd = s.mrd) ∧
  (∀ (c : AdminCmd) (k : Nat) (s : State),
    s.adminTaken c k = true ∧ bitsOf c.cdw10 0 8 = 0x0B ∧ bitsOf c.cdw10 8 3 = 0 →
    ∃ t, exec (.getFeatures c) s = .next t ∧
      t.responded c.qref c.cid ⟨0, 0, false, (s.host.assoc.get k).aec⟩ ∧
      t.host.assoc.get k = s.host.assoc.get k ∧ t.mrd = s.mrd) ∧
  (∀ (c : AdminCmd) (k : Nat) (q : Nat) (s : State),
    s.adminTaken c k = true ∧ bitsOf c.cdw10 0 16 ≠ 0 ∧ q ≠ c.qref →
    ((s.queuesOf k).find? fun x => (s.host.queue.get x).qid == bitsOf c.cdw10 0 16) = some q →
    ((s.host.queue.get q).sq.any fun x => x.cid == bitsOf c.cdw10 16 16) = true →
    ∃ t, exec (.abort c) s = .next t ∧
      t.responded c.qref c.cid St.ok ∧ (t.host.queue.get q).aborted = (s.host.queue.get q).aborted ++ [bitsOf
        c.cdw10 16 16] ∧
      t.brg.eng = s.brg.eng ∧ t.mrd = s.mrd ∧
      (∀ b, b ≠ k - 1 → t.berth b = s.berth b)) ∧
  (∀ (c : AdminCmd) (k : Nat) (s : State),
    s.adminTaken c k = true ∧ s.sees (s.host.assoc.get k) c.nsid = true ∧ bitsOf c.cdw10 9 3 ≤ 1 ∧ bitsOf c.cdw10
      5 3 = 0 →
    bitsOf c.cdw10 0 4 = 0 ∧ 0 ∈ (s.mrd.ns.get c.nsid).lbafs ∧ (s.mrd.ns.get c.nsid).writeProtect = false →
    (s.mrd.arr.get (s.mrd.ns.get c.nsid).array).state ≠ .offline ∧ (s.mrd.arr.get (s.mrd.ns.get
      c.nsid).array).state ≠ .salvaged →
    (s.mrd.ns.get c.nsid).cipher = .none ∧ (s.mrd.ns.get c.nsid).resv.conflict (s.host.assoc.get k).host 0x80 =
      false →
    ∃ t, exec (.formatNvm c) s = .next t ∧
      (t.mrd.ns.get c.nsid).lbaf = 0 ∧ (t.mrd.ns.get c.nsid).pi = 0 ∧ (t.mrd.ns.get c.nsid).ext = (s.mrd.ns.get
        c.nsid).ext ∧
      ((t.host.assoc.get k).slot = none ∨ (t.host.assoc.get k).format.isSome = true) ∧
      (t.mrd.ns.get c.nsid).size = (if (s.mrd.ns.get c.nsid).small then (s.mrd.ns.get c.nsid).size / 8 else
        (s.mrd.ns.get c.nsid).size)) ∧
  (∀ (q : Nat) (cid : Nat) (k : Nat) (s : State),
    s.adminOf q = some k ∧ cid ∉ (s.host.queue.get q).cids ∧ (s.host.queue.get q).cids.length ≤ (s.host.queue.get
      q).sqsize →
    (s.host.assoc.get k).aers.length < 16 →
    ∃ t, exec (.asynchronousEventRequest q cid) s = .next t ∧
      (t.host.assoc.get k).aers = (s.host.assoc.get k).aers ++ [cid] ∧ t.out = s.out ∧ t.mrd = s.mrd) ∧
  (∀ (kelvin : Nat) (s : State),
    (∀ k ∈ s.assocs fun a => !a.discovery, (s.host.assoc.get k).tempUnder < kelvin ∧ kelvin < (s.host.assoc.get
      k).tempOver) →
    ∃ t, exec (.temperatureThresholdCrossing kelvin) s = .next t ∧
      t.out = (if s.rst.railsUp = 3 then s.out ++ [Out.avs (max 130 (min 170 (Config.avsCurve (some kelvin))))]
        else s.out) ∧
      t.mrd = s.mrd ∧ (∀ k ∈ s.assocs fun a => !a.discovery, (t.host.assoc.get k).tempHigh = false ∧
        (t.host.assoc.get k).tempLow = false))

/-- On a queue pair in RTS without spray and without an unfinished message, an unmarked message of one packet with the
expected PSN advances the expected PSN and the MSN (R73). Its effect follows its operation: a WRITE with data to a
permitted DATA window lays its bytes there and a zero-length WRITE changes no memory (R85, R69); a READ answers the
window's bytes and an atomic its old value, leaving the sum or the swapped value (R70); an immediate that carries
the COMMIT_TAG of a STAIRS window installs the record there and answers the result (R81, R86), and one of a bound
window puts a commit of the named blocks behind the queue's commits (R87). -/
def Obligations.PacketsOfReliableConnectionsArePlaced : Prop :=
  (∀ (p : Packet) (i : Nat) (s : State),
    s.nextOn p i = true ∧ p.op = .send ∧ p.imm = none ∧ p.capsule = none ∧ p.payload = [] →
    ∃ t, exec (.packetReceive p) s = .next t ∧
      (t.qp i).epsn = (p.psn + 1) % 2 ^ 24 ∧ (t.qp i).rmsn = ((s.qp i).rmsn + 1) % 2 ^ 24 ∧
      t.res = s.res ∧ t.mrd = s.mrd ∧ t.tug.win = s.tug.win) ∧
  (∀ (p : Packet) (i : Nat) (s : State),
    s.nextOn p i = true ∧ p.op = .write ∧ p.len ≠ 0 ∧ p.imm = none ∧ p.payload.length ≤ p.len →
    s.winOk i p.rkey p.va p.len .write = true ∧ (s.win (p.rkey % 4096)).kind = .data →
    ∃ t, exec (.dockWrite p) s = .next t ∧
      (t.qp i).epsn = (p.psn + 1) % 2 ^ 24 ∧ (t.qp i).rmsn = ((s.qp i).rmsn + 1) % 2 ^ 24 ∧
      (∀ k < p.payload.length, t.res.get ((s.win (p.rkey % 4096)).base + p.va + k) = p.payload.getD k 0) ∧
      (∀ a, (a < (s.win (p.rkey % 4096)).base + p.va ∨ (s.win (p.rkey % 4096)).base + p.va + p.payload.length ≤
        a) → t.res.get a = s.res.get a)) ∧
  (∀ (p : Packet) (i : Nat) (s : State),
    s.nextOn p i = true ∧ p.op = .read ∧ s.winOk i p.rkey p.va p.len .read = true ∧ 0 < (s.qp i).cfg.respRes →
    ∃ t, exec (.dockRead p) s = .next t ∧
      Out.rc i ((s.qp i).cxh false false false 0 (((s.qp i).rmsn + 1) % 2 ^ 24) 0) (.readResponse (s.winRead
        (p.rkey % 4096) p.va p.len)) ∈ t.out ∧ t.res = s.res ∧ t.mrd = s.mrd) ∧
  (∀ (p : Packet) (i : Nat) (s : State),
    s.nextOn p i = true ∧ (p.op = .fetchAdd ∨ p.op = .compareSwap) ∧ s.winOk i p.rkey p.va 8 p.op = true ∧ p.va %
      8 = 0 ∧ (s.win (p.rkey % 4096)).base % 8 = 0 ∧ 0 < (s.qp i).cfg.respRes →
    ∃ t, exec (.dockAtomic p) s = .next t ∧
      Out.rc i ((s.qp i).cxh false false false 0 (((s.qp i).rmsn + 1) % 2 ^ 24) 0) (.atomicResponse (leVal
        (s.winRead (p.rkey % 4096) p.va 8))) ∈ t.out ∧
      leVal (t.winRead (p.rkey % 4096) p.va 8) = (if p.op = .fetchAdd then (leVal (s.winRead (p.rkey % 4096)
        p.va 8) + p.operand) % 2 ^ 64 else if leVal (s.winRead (p.rkey % 4096) p.va 8) = p.compare then
        p.operand % 2 ^ 64 else leVal (s.winRead (p.rkey % 4096) p.va 8)) ∧
      t.res = s.res) ∧
  (∀ (p : Packet) (i : Nat) (s : State),
    s.nextOn p i = true ∧ p.op = .write ∧ p.len = 0 ∧ p.imm = none ∧ p.payload = [] ∧ (s.win (p.rkey %
      4096)).state ≠ .revoking →
    ∃ t, exec (.zeroLengthWrite p) s = .next t ∧
      (t.qp i).epsn = (p.psn + 1) % 2 ^ 24 ∧ (t.qp i).rmsn = ((s.qp i).rmsn + 1) % 2 ^ 24 ∧
      t.res = s.res ∧ t.brg = s.brg ∧ t.tug.win = s.tug.win) ∧
  (∀ (p : Packet) (i : Nat) (v : Nat) (s : State),
    s.nextOn p i = true ∧ p.op = .write ∧ p.len = 0 ∧ p.imm = some v ∧ p.payload = [] ∧ s.stair i v = none →
    (s.win (p.rkey % 4096)).kind = .stairs ∧ (s.win (p.rkey % 4096)).state = .valid ∧ (s.win (p.rkey % 4096)).gen
      = p.rkey / 4096 ∧ (s.win (p.rkey % 4096)).host = (s.qp i).host →
    (s.win (p.rkey % 4096)).tag = bitsOf v 24 8 ∧ (s.win (p.rkey % 4096)).bind = none ∧ (s.install i (p.rkey %
      4096) (bitsOf v 12 12 * 64)).2 = 0 →
    ∃ t, exec (.staircaseInstall p) s = .next t ∧
      t.tug.stairs = (s.install i (p.rkey % 4096) (bitsOf v 12 12 * 64)).1.tug.stairs ∧
      Out.rcMsg i (.sendImm v (leBytes 4 0)) ∈ t.out ∧ t.res = s.res) ∧
  (∀ (p : Packet) (i : Nat) (v : Nat) (nsid : Nat) (slba : Nat) (s : State),
    s.nextOn p i = true ∧ p.op = .write ∧ p.len = 0 ∧ p.imm = some v ∧ p.payload = [] ∧ s.stair i v = none →
    (s.win (p.rkey % 4096)).kind = .data ∧ (s.win (p.rkey % 4096)).state = .valid ∧ (s.win (p.rkey % 4096)).gen =
      p.rkey / 4096 ∧ (s.win (p.rkey % 4096)).host = (s.qp i).host →
    (s.win (p.rkey % 4096)).tag = bitsOf v 24 8 ∧ (s.win (p.rkey % 4096)).bind = some (nsid, slba) ∧ (s.win
      (p.rkey % 4096)).wr = true ∧ p.va < (s.win (p.rkey % 4096)).size →
    bitsOf v 0 12 ≠ 0 ∧ (p.va / 2 ^ 24 * 4096 + bitsOf v 12 12 + bitsOf v 0 12) * 4096 ≤ (s.win (p.rkey %
      4096)).size ∧ (s.mrd.ns.get nsid).small = false →
    ∃ t, exec (.dockCommit p) s = .next t ∧
      (t.host.queue.get i).commits.length = (s.host.queue.get i).commits.length + 1 ∧ t.res = s.res ∧
      ((t.host.queue.get i).commits.getLast?.map fun c => (c.nsid, c.slba, c.nlb, c.commit)) = some (nsid, slba
        + (p.va / 2 ^ 24 * 4096 + bitsOf v 12 12), bitsOf v 0 12, some ⟨p.rkey % 4096, v, (s.win (p.rkey %
        4096)).commits⟩))

/-- A hole answers the reorder timer with a selective NAK, packets not acknowledged answer the ACK delay with an
acknowledgement (R74). An acknowledgement frees what it covers; a selective NAK sends again what its bitmap lacks; a
fatal NAK takes the queue pair out of RTS; the local ACK timeout and the RNR retry count and send again below their
limits, a path probe sends the oldest packet on the path (R75, R78, R90). A CNP cuts the rate once and the recovery
interval raises it (R80). The last step of a REARM staircase leaves it idle, a failed step FAULTED (R83).
DOCK_CREATE leaves a VALID window of the host and size and answers its key (R84); DOCK_REVOKE of a window with
nothing accepted, and the drain limit, leave it dead (R89). -/
def Obligations.AcknowledgementsAndTimersActOnTheSender : Prop :=
  (∀ (qp : Fin 65536) (s : State),
    (s.qp qp).state = .rts ∧ (s.qp qp).spray = true ∧ (s.qp qp).above ≠ [] →
    ∃ t, exec (.reorderTimerExpiry qp) s = .next t ∧
      Out.rc qp ((s.qp qp).cxh false true false 0 (s.qp qp).rmsn 0) (.selectiveNak (s.qp qp).epsn (inBitmap
        (s.qp qp).epsn (s.qp qp).above)) ∈ t.out ∧ t.tug = s.tug ∧ t.res = s.res) ∧
  (∀ (qp : Fin 65536) (s : State),
    (s.qp qp).state = .rts ∧ (s.qp qp).sinceAck ≠ 0 →
    ∃ t, exec (.ackDelayExpiry qp) s = .next t ∧
      (t.qp qp).sinceAck = 0 ∧ (t.qp qp).epsn = (s.qp qp).epsn ∧ t.res = s.res ∧ t.tug.win = s.tug.win ∧
      (∃ c sack, Out.rc qp c (.ack (((s.qp qp).epsn + 2 ^ 24 - 1) % 2 ^ 24) (s.qp qp).rmsn sack) ∈ t.out)) ∧
  (∀ (qp : Fin 65536) (psn : Nat) (sack : List Nat) (s : State),
    (s.qp qp).state = .rts →
    ∃ t, exec (.ackReceive qp psn sack) s = .next t ∧
      (t.qp qp).acked = if seqBefore (s.qp qp).acked psn = true ∧ seqBefore psn (s.qp qp).spsn = true then psn %
        2 ^ 24 else (s.qp qp).acked) ∧
  (∀ (qp : Fin 65536) (psn : Nat) (sack : List Nat) (s : State),
    (s.qp qp).state = .rts ∧ (s.qp qp).sendQ = [] →
    ∃ t, exec (.ackReceive qp psn sack) s = .next t ∧
      ((t.qp qp).sent.map (fun x => x.psn) = ((s.qp qp).sent.filter fun x => seqBefore psn x.psn ||
        x.read.isSome).map fun x => x.psn) ∧
      t.out = s.out) ∧
  (∀ (qp : Fin 65536) (base : Nat) (got : List Nat) (x : TxPkt) (s : State),
    (s.qp qp).state = .rts ∧ (s.qp qp).spray = true ∧ x ∈ (s.qp qp).sent →
    seqBefore x.psn base = false ∧ seqDist x.psn base < 256 ∧ x.psn ∉ got →
    ∃ t, exec (.selectiveNakReceive qp base got) s = .next t ∧
      (∃ port sport c v, Out.packet qp x.psn port sport c v ∈ t.out) ∧
      t.res = s.res ∧ t.mrd = s.mrd) ∧
  (∀ (qp : Fin 65536) (c : Fin 3) (s : State),
    (s.qp qp).state = .rts →
    ∃ t, exec (.nakReceive qp c) s = .next t ∧
      (t.qp qp).state ≠ .rts ∧ (t.host.queue.get qp).live = false) ∧
  (∀ (qp : Fin 65536) (s : State),
    (s.qp qp).state = .rts ∧ (s.qp qp).sent ≠ [] ∧ (s.qp qp).retries < (s.qp qp).cfg.retryCnt →
    ∃ t, exec (.localAckTimeout qp) s = .next t ∧
      (t.qp qp).retries = (s.qp qp).retries + 1 ∧ (t.qp qp).state = .rts ∧ t.res = s.res ∧ t.mrd = s.mrd) ∧
  (∀ (qp : Fin 65536) (x : TxPkt) (s : State),
    (s.qp qp).state = .rts ∧ (s.qp qp).sent.head? = some x ∧ (s.qp qp).rnr < (s.qp qp).cfg.rnrRetry →
    ∃ t, exec (.rnrRetryExpiry qp) s = .next t ∧
      (t.qp qp).rnr = (s.qp qp).rnr + 1 ∧ (t.qp qp).state = .rts ∧
      (∃ port sport c v, Out.packet qp x.psn port sport c v ∈ t.out)) ∧
  (∀ (qp : Fin 65536) (path : Fin 8) (x : TxPkt) (s : State),
    (s.qp qp).state = .rts ∧ (s.qp qp).spray = true ∧ path.val < (s.qp qp).npaths ∧ ((s.qp qp).paths.get
      path).down = true →
    ((s.qp qp).sent.filter fun x => !x.sacked).head? = some x →
    ∃ t, exec (.pathProbeExpiry qp path) s = .next t ∧
      Out.packet qp x.psn (s.pathPort (s.qp qp) path) ((s.qp qp).sport path) ((s.qp qp).cxh x.final false true
        path x.msn x.idx) x.inval ∈ t.out ∧ t.res = s.res ∧ t.mrd = s.mrd) ∧
  (∀ (qp : Fin 65536) (s : State),
    (s.qp qp).state = .rts ∧ (s.qp qp).lastCut = none ∧ s.flag Fld.TUG_RC_CFG2_RC_EN = true ∧ s.fld
      Fld.TUG_RC_CFG0_CUT ≠ 0 →
    ∃ t, exec (.cnpReceive qp none) s = .next t ∧
      (t.qp qp).rate = max (s.fld Fld.TUG_RC_CFG2_MIN_RATE * 1000) ((s.qp qp).rate - (s.qp qp).rate * s.fld
        Fld.TUG_RC_CFG0_CUT / 256) ∧
      (t.qp qp).mem = (s.qp qp).rate ∧ (t.qp qp).stage = 0 ∧ (t.qp qp).lastCut = some s.now ∧ t.out = s.out) ∧
  (∀ (s : State),
    s.tug.qp.wf = true ∧ s.flag Fld.TUG_RC_CFG2_RC_EN = true →
    ∃ t, exec (.rateIntervalExpiry) s = .next t ∧
      (∀ i, (s.qp i).state = .rts → (s.qp i).rate < (s.qp i).line → (s.qp i).lastCut = none → (t.qp i).rate = if
        (s.qp i).stage < s.fld Fld.TUG_RC_CFG0_FAST_STEPS then ((s.qp i).rate + (s.qp i).mem) / 2 else min (s.qp
        i).line ((s.qp i).rate + s.fld Fld.TUG_RC_CFG1_STEP * 1000)) ∧
      t.out = s.out ∧ t.tug.conn = s.tug.conn ∧ t.mrd = s.mrd) ∧
  (∀ (qp : Fin 65536) (key : Nat) (k : Nat) (r : Nat) (x : Stair) (s : State),
    s.stair qp key = some x ∧ x.issued = [k] ∧ x.firm = false ∧ x.rearm = true ∧ x.held = false →
    x.running = some r ∧ x.steps[r]? = none ∧ (x.steps[k]?.any fun y => y.op != 4 && !y.signal) = true →
    ∃ t, exec (.staircaseStepComplete qp key k true []) s = .next t ∧
      t.stair qp key = some { x with issued := [], running := none } ∧
      t.out = s.out ∧ t.res = s.res) ∧
  (∀ (qp : Fin 65536) (key : Nat) (k : Nat) (x : Stair) (s : State),
    s.stair qp key = some x ∧ k ∈ x.issued ∧ x.firm = false ∧ (x.steps[k]?.any fun y => y.op != 4) = true →
    ∃ t, exec (.staircaseStepComplete qp key k false []) s = .next t ∧
      t.stair qp key = some { x with faulted := some k, running := none, issued := [], held := false } ∧
      t.out = s.out ∧ t.res = s.res) ∧
  (∀ (w : Fin 4096) (s : State),
    (s.win w).state = .revoking →
    ∃ t, exec (.drainLimitExpiry w) s = .next t ∧
      (t.win w).state = .dead ∧ (t.win w).accepted = [] ∧ t.res = s.res ∧ t.brg.dock = s.brg.dock) ∧
  (∀ (h : Hdr) (host : Nat) (kind : Nat) (size : Nat) (perms : Nat) (tag : Nat) (s : State),
    s.takes h 0x0410 [(.host, host)] = true →
    host < 4096 ∧ (s.mrd.hosts.get host).present = true ∧ kind ≤ 2 ∧ perms ≤ 7 ∧ tag < 256 →
    size ≠ 0 ∧ size % 4096 = 0 ∧ size ≤ (if kind = 0 then 2 ^ 30 else if kind = 1 then 2 ^ 22 else 2 ^ 16) →
    s.winRanges (kind == 0) = [] ∧ ((List.range 4096).any fun w => (s.win w).state == .dead) = true →
    ∃ t, exec (.dockCreate h host kind size perms none tag) s = .next t ∧
      (∃ w < 4096, (t.win w).state = .valid ∧ (t.win w).host = host ∧ (t.win w).size = size ∧ (t.win w).wr =
        perms.testBit 1 ∧ t.answered h 0x0410 .success [beBytes 4 ((t.win w).gen * 4096 + w)]) ∧
      t.mrd = s.mrd ∧ t.res = s.res) ∧
  (∀ (h : Hdr) (rkey : Nat) (s : State),
    s.takes h 0x0411 [(.dock, rkey % 4096)] = true →
    (s.win (rkey % 4096)).state = .valid ∧ (s.win (rkey % 4096)).gen = rkey / 4096 ∧ (s.win (rkey %
      4096)).accepted = [] →
    ∃ t, exec (.dockRevoke h rkey) s = .next t ∧
      t.answered h 0x0411 .success [] ∧ (t.win (rkey % 4096)).state = .dead ∧ t.res = s.res)

/-- A REQ from a listed host with a free probation context is answered with REP and leaves a context in PROBATION; RTU
enables it; its 5 s end in DREQ (R66, Table 3-1). DREQ from the host is answered with DREP and drains; DREP to a
flushed draining queue pair frees it; a DREQ unanswered is sent again up to three times; a flushed ERROR queue pair
asks for its end. A tug fence is recorded and no queue pair is in error for it while another tug of the group runs
(R65). A SYN from a listed source opens a connection, ICReq is answered, write data that verifies goes to its
command and a bad digest ends it, a termination request ends the connection, and the retransmission and delayed
acknowledgement timers send what they stand for (R92). A write of TUG_QPT_IDX shows the entry's state (R93, Table
3-2). -/
def Obligations.ConnectionsOpenAndEnd : Prop :=
  (∀ (r : CmReq) (s : State),
    s.listed r.src = true ∧ ((List.range 256).any fun p => (s.qp (65536 + p)).state == .free) = true →
    ∃ t, exec (.cmReq r) s = .next t ∧
      (∃ p < 256, (t.qp (65536 + p)).state = .probation ∧ (t.qp (65536 + p)).src = r.src ∧ (t.qp (65536 +
        p)).dqpn = r.dqpn ∧ ∃ l, Out.cm .rep (65536 + p) l ∈ t.out) ∧
      t.host = s.host ∧ t.mrd = s.mrd) ∧
  (∀ (p : Fin 256) (s : State),
    (s.qp (65536 + p.val)).state = .probation →
    ∃ t, exec (.cmRtu p) s = .next t ∧
      t.qp (65536 + p.val) = { s.qp (65536 + p.val) with enabled := true } ∧
      t.out = s.out ∧ t.host = s.host) ∧
  (∀ (qp : Fin 65536) (s : State),
    (s.qp qp).state = .rts →
    ∃ t, exec (.cmDreq qp) s = .next t ∧
      (t.qp qp).state = .draining ∧ (t.host.queue.get qp).live = false ∧ Out.cm .drep qp [] ∈ t.out) ∧
  (∀ (qp : Fin 65792) (s : State),
    (s.qp qp).state = .draining ∧ (s.qp qp).flushed = true →
    ∃ t, exec (.cmDrep qp) s = .next t ∧
      t.qp qp = default ∧ (t.host.queue.get qp).live = false) ∧
  (∀ (qp : Fin 65792) (s : State),
    (s.qp qp).state = .draining ∧ (s.qp qp).drep = false ∧ (s.qp qp).dreqs < 3 →
    ∃ t, exec (.dreqRetryExpiry qp) s = .next t ∧
      t.qp qp = { s.qp qp with dreqs := (s.qp qp).dreqs + 1 } ∧ t.host = s.host ∧ Out.cm .dreq qp [] ∈ t.out) ∧
  (∀ (p : Fin 256) (s : State),
    (s.qp (65536 + p.val)).state = .probation →
    ∃ t, exec (.probationTimeout p) s = .next t ∧
      (t.qp (65536 + p.val)).state = .draining ∧ (t.qp (65536 + p.val)).dreqs = 1 ∧ t.host = s.host ∧
      Out.cm .dreq (65536 + p.val) [] ∈ t.out) ∧
  (∀ (qp : Fin 65536) (s : State),
    (s.qp qp).state = .error →
    ∃ t, exec (.qpFlushComplete qp) s = .next t ∧
      (t.qp qp).state = .draining ∧ (t.qp qp).flushed = true ∧ Out.cm .dreq qp [] ∈ t.out ∧ t.host = s.host) ∧
  (∀ (t' : Fin 64) (s : State),
    s.tugFenced t' = false ∧ ((List.range 8).any fun k => 8 * (t'.val / 8) + k != t'.val && !s.tugFenced (8 *
      (t'.val / 8) + k)) = true →
    ∃ t, exec (.tugFence t') s = .next t ∧
      t.fld (Fld.TUG_STATUS_FENCED t') = 1 ∧ t.fld (Fld.TUG_STATUS_FAULT t') = 1 ∧ t.tug.qp = s.tug.qp ∧
        t.tug.inbox.get t' = [] ∧ t.host = s.host) ∧
  (∀ (x : TcpSeg) (s : State),
    x.syn = true ∧ (x.dport = 4420 ∨ (x.dport = 8009 ∧ s.mrd.disc.get x.port ≤ 1)) ∧ s.listed x.src = true ∧
      x.conn < 16384 ∧ (s.conn x.conn).isOpen = false →
    ∃ t, exec (.tcpSegmentReceive x) s = .next t ∧
      (t.conn x.conn).isOpen = true ∧ (t.conn x.conn).src = x.src ∧ (t.conn x.conn).rcvNxt = (x.seq + 1) % 2 ^
        32 ∧ (t.conn x.conn).ready = false ∧
      (∃ mss scale ecn, Out.tcp x.conn (.synAck mss scale ecn) ∈ t.out) ∧
      t.host = s.host ∧ t.mrd = s.mrd) ∧
  (∀ (c : Fin 16384) (h : Bool) (d : Bool) (s : State),
    (s.conn c).isOpen = true ∧ (s.conn c).closing = false ∧ (s.conn c).ready = false →
    ∃ t, exec (.icreq c h d) s = .next t ∧
      (t.conn c).ready = true ∧ (t.conn c).hdgst = h ∧ (t.conn c).ddgst = d ∧ Out.tcp c (.icResp h d) ∈ t.out ∧
        t.host = s.host) ∧
  (∀ (b : Fin 262144) (data : List Sector) (s : State),
    (s.berth b).state = .wait ∧ (s.berth b).waits = .data ∧ (s.berth b).orphan = false ∧ isTcp (s.berth
      b).cmd.qref = true →
    ∃ t, exec (.h2cData b data true) s = .next t ∧
      (t.berth b).state = .run ∧ (t.berth b).fetched = true ∧ (t.berth b).cmd.data = data ∧ t.out = s.out) ∧
  (∀ (b : Fin 262144) (data : List Sector) (s : State),
    (s.berth b).state = .wait ∧ (s.berth b).waits = .data ∧ (s.berth b).orphan = false ∧ isTcp (s.berth
      b).cmd.qref = true ∧ (s.berth b).mate = none →
    ∃ t, exec (.h2cData b data false) s = .next t ∧
      (t.berth b).state = .done ∧ (t.berth b).status = St.transientTransport ∧ t.mrd = s.mrd) ∧
  (∀ (c : Fin 16384) (s : State),
    (s.conn c).isOpen = true →
    ∃ t, exec (.h2cTermReq c) s = .next t ∧
      (t.conn c).isOpen = false ∧ (t.host.queue.get (tcpRef c)).live = false ∧ Out.tcp c .fin ∈ t.out) ∧
  (∀ (c : Fin 16384) (s : State),
    (s.conn c).isOpen = true ∧ (s.conn c).sndUna ≠ (s.conn c).sndNxt ∧ (s.conn c).retx < (s.conn c).cfg.maxRetx ∧
      (s.conn c).segs = [] →
    ∃ t, exec (.tcpRtoExpiry c) s = .next t ∧
      (t.conn c).retx = (s.conn c).retx + 1 ∧ Out.tcp c (.segment (s.conn c).sndUna 0 true false) ∈ t.out ∧
      t.host = s.host ∧ t.tug.qp = s.tug.qp) ∧
  (∀ (c : Fin 16384) (g : TxSeg) (l : List TxSeg) (s : State),
    (s.conn c).isOpen = true ∧ (s.conn c).sndUna ≠ (s.conn c).sndNxt ∧ (s.conn c).retx < (s.conn c).cfg.maxRetx →
    (s.conn c).segs = g :: l ∧ g.sacked = false ∧ g.len ≤ (s.conn c).mss →
    ∃ t, exec (.tcpRtoExpiry c) s = .next t ∧
      (t.conn c).retx = (s.conn c).retx + 1 ∧ Out.tcp c (.segment g.seq g.len true false) ∈ t.out ∧
      t.host = s.host ∧ t.tug.qp = s.tug.qp) ∧
  (∀ (c : Fin 16384) (s : State),
    (s.conn c).isOpen = true ∧ (s.conn c).delack ≠ 0 →
    ∃ t, exec (.tcpDelackExpiry c) s = .next t ∧
      t.conn c = { s.conn c with delack := 0 } ∧ t.host = s.host ∧
      (∃ wnd ece sack, Out.tcp c (.ack (s.conn c).rcvNxt wnd ece sack) ∈ t.out)) ∧
  (∀ (e : Fin 65536) (s : State),
    ∃ t, exec (.tugQptIdxWrite e) s = .next t ∧
      t.fld Fld.TUG_QPT_IDX_ENTRY = e.val ∧ (t.reg (Fld.TUG_QPT_DATA_WORD 0).addr).toNat % 256 = (s.qp
        e).state.code ∧
      t.tug = s.tug ∧ t.host = s.host ∧ t.out = s.out)

/-- A credit that no queue withholds is issued (R123, R124). A cell whose source holds one enters: the credit is used
and the cell stands last in its destination queue (R120, R121). A cell of class 7 is discarded with its notice
(R141). Delivery takes the head of the chosen queue, CTL before all other classes, and hands the cell over (R122). A
spilled cell comes back to the pound (R137); an aged cell leaves its slot and a notice follows (R139, R142); a stuck
CTL cell is reported and stays (R140); a notice whose attempt is not cancelled yet becomes a cancel, and a completed
cancel of another owner's transfer repeats it (R142, R456). Partition sizes that fit and a spill size with an empty
area take effect (R136, R138); a write of CNL_ATT_IDX shows the depth of the attachment's queues (Table 5-21). -/
def Obligations.CellsMoveThroughTheCanal : Prop :=
  (∀ (d : CellDst) (cls : Fin 7) (w : CellDemand) (s : State),
    s.canalClamped = false ∧ s.clampedAt w.src = false ∧ w.par = none ∧ s.refuses d cls w = false →
    (s.cnl.credits.get (queueKey d cls * 128 + w.src)).length < s.fld Fld.CNL_CREDIT_MAX →
    ∃ t, exec (.creditIssue d cls [w]) s = .next t ∧
      t.cnl.credits.get (queueKey d cls * 128 + w.src) = s.cnl.credits.get (queueKey d cls * 128 + w.src) ++
        [w.fold.elim 0 fun f => s.cnl.opens f.1 f.2] ∧
      t.cnl.creditTurn.get (queueKey d cls) = w.src + 1 ∧ t.cnl.queues = s.cnl.queues ∧ t.cnl.slots =
        s.cnl.slots ∧ t.regs = s.regs) ∧
  (∀ (c : Cell) (n : Nat) (l : List Nat) (s : State),
    c.cls < 7 ∧ c.repl = none ∧ c.pctx = none ∧ c.dst.dest ≠ 127 ∧ s.clampedAt c.src = false →
    s.cnl.credits.get (queueKey c.dst (sentClass c) * 128 + c.src) = n :: l →
    ∃ t, exec (.cellEntry c none [] none 0) s = .next t ∧
      t.cnl.credits.get (queueKey c.dst (sentClass c) * 128 + c.src) = l ∧
      (∃ i, t.cnl.queue (queueKey c.dst (sentClass c)) = s.cnl.queue (queueKey c.dst (sentClass c)) ++ [i] ∧
        (t.cnl.slots.get i).cell = { c with cls := sentClass c } ∧ (t.cnl.slots.get i).copies = [c.dst]) ∧
      t.cnl.notices = s.cnl.notices ∧ t.mrd.arr = s.mrd.arr) ∧
  (∀ (c : Cell) (s : State),
    c.cls = 7 ∧ c.pctx = none ∧ s.clampedAt c.src = false →
    ∃ t, exec (.cellEntry c none [] none 0) s = .next t ∧
      t.cnl.notices = s.cnl.notices ++ [⟨refOf c, 7, true, c.src⟩] ∧ t.cnl.queues = s.cnl.queues ∧ t.cnl.slots =
        s.cnl.slots) ∧
  (∀ (att : Fin 100) (d : CellDst) (k : Nat) (i : Nat) (s : State),
    s.canalClamped = false ∧ (s.choose att).map Prod.snd = some k ∧ (s.cnl.queue k).head? = some i →
    (queueAtt k < 32 → s.laneUp k = true) →
    (s.cnl.slots.get i).copies = [d] ∧ queueKey d (s.cnl.slots.get i).cell.cls = k →
    ∃ t, exec (.cellDelivery att 0) s = .next t ∧
      Out.cell d { (s.cnl.slots.get i).cell with dst := d } ∈ t.out ∧
      t.cnl.queue k = (s.cnl.queue k).erase i ∧ t.cnl.slots.get i = default ∧ t.cnl.credits = s.cnl.credits) ∧
  (∀ (att : Fin 100) (k : Nat) (i : Nat) (s : State),
    s.canalClamped = false ∧ 32 ≤ att.val ∧ s.turnOf att 0 = some k ∧ queueAtt k = att.val ∧ (s.cnl.queue k).head?
      = some i →
    ∃ t, exec (.cellDelivery att 0) s = .next t ∧
      t.cnl.queue k = (s.cnl.queue k).erase i ∧ (∀ x ∈ s.cnl.queues, x.1 ≠ k → t.cnl.queue x.1 = s.cnl.queue
        x.1)) ∧
  (∀ (d : CellDst) (cls : Fin 7) (i : Nat) (s : State),
    (s.cnl.queue (queueKey d cls)).find? (fun i => !inPound i) = some i →
    ((s.cnl.queue (queueKey d cls)).filter inPound).length < s.fld Fld.CNL_SPILL_CFG_QMIN / 2 ∧ s.partRoom cls 1 =
      true →
    ∃ t, exec (.spillRecall d cls none) s = .next t ∧
      t.cnl.slots.get i = default ∧
      (∃ j, inPound j = true ∧ t.cnl.slots.get j = s.cnl.slots.get i) ∧
      t.cnl.notices = s.cnl.notices ∧ t.cnl.credits = s.cnl.credits) ∧
  (∀ (i : Nat) (u : Nat) (s : State),
    s.cnl.slots.keys.contains i = true ∧ (s.cnl.slots.get i).cell.cls ≠ 0 ∧ (s.cnl.slots.get i).cell.pctx = none ∧
      s.aged (s.cnl.slots.get i).entered (s.cnl.slots.get i).limit = true →
    ∃ t, exec (.cellAgeDiscard false i u) s = .next t ∧
      t.cnl.slots.get i = default ∧
      t.cnl.notices = s.cnl.notices ++
        [⟨{ refOf (s.cnl.slots.get i).cell with dst := (s.cnl.slots.get i).copies.headD (s.cnl.slots.get i).cell.dst },
        (s.cnl.slots.get i).cell.cls, false, (s.cnl.slots.get i).cell.src⟩]) ∧
  (∀ (i : Nat) (s : State),
    s.cnl.slots.keys.contains i = true ∧ (s.cnl.slots.get i).cell.cls = 0 ∧ s.aged (s.cnl.slots.get i).entered
      (s.cnl.slots.get i).limit = true →
    ∃ t, exec (.ctlStuck i) s = .next t ∧
      t.fld Fld.CNL_STATUS_STUCK = 1 ∧ t.cnl = s.cnl) ∧
  (∀ (n : Notice) (l : List Notice) (s : State),
    s.cnl.notices = n :: l ∧ n.cls ∉ [1, 2, 5] ∧ n.ref.owner ≠ .transport ∧ (s.cnl.cancels.any fun c => c.ref.same
      n.ref) = false →
    ∃ t, exec (.discardNotice) s = .next t ∧
      t.cnl.notices = l ∧ t.cnl.cancels = s.cnl.cancels ++ [n]) ∧
  (∀ (n : Notice) (s : State),
    (s.cnl.cancels.find? fun c => !s.cnl.notices.any fun m => m.ref.same c.ref) = some n ∧ n.ref.flow = none ∧
      n.ref.owner = .other →
    ∃ t, exec (.cancelComplete) s = .next t ∧
      t.cnl.cancels = s.cnl.cancels.erase n ∧ Out.repeated n.ref.dst.dest n.ref.dst.tag ∈ t.out ∧
      t.cnl.notices = s.cnl.notices ∧ t.cnl.slots = s.cnl.slots) ∧
  (∀ (p : Fin 7) (v : Word32) (s : State),
    ((List.range 7).map (s.cfgWrite (Reg.CNL_PART_CFG p) v).partReserve).sum ≤ poundSlots →
    (∀ q ∈ List.range 7, (s.cfgWrite (Reg.CNL_PART_CFG p) v).partReserve q ≤ (s.cfgWrite (Reg.CNL_PART_CFG p)
      v).partCap q) →
    ∃ t, exec (.cnlPartCfgWrite p v) s = .next t ∧
      t.fld (Fld.CNL_PART_CFG_RESERVE_MIB p) = bitsOf v.toNat (Fld.CNL_PART_CFG_RESERVE_MIB p).lo
        (Fld.CNL_PART_CFG_RESERVE_MIB p).w ∧
      t.fld (Fld.CNL_PART_CFG_CAP_MIB p) = bitsOf v.toNat (Fld.CNL_PART_CFG_CAP_MIB p).lo
        (Fld.CNL_PART_CFG_CAP_MIB p).w ∧
      t.cnl.slots = s.cnl.slots ∧ t.cnl.queues = s.cnl.queues) ∧
  (∀ (v : Word32) (s : State),
    s.cnl.spilled = 0 →
    ∃ t, exec (.cnlSpillCfgWrite v) s = .next t ∧
      t.cnl.spillSize = none ∧ t.fld Fld.CNL_SPILL_CFG_SIZE_GIB = (s.cfgWrite Reg.CNL_SPILL_CFG v).fld
        Fld.CNL_SPILL_CFG_SIZE_GIB ∧
      t.cnl.slots = s.cnl.slots ∧ t.cnl.queues = s.cnl.queues) ∧
  (∀ (att : Fin 128) (cls : Fin 8) (s : State),
    ∃ t, exec (.cnlAttIdxWrite att cls) s = .next t ∧
      t.fld Fld.CNL_ATT_IDX_ATT = att.val ∧ t.fld Fld.CNL_ATT_IDX_CLASS = cls.val ∧
      t.fld Fld.CNL_ATT_STAT_DEPTH = (((s.cnl.queues.filter fun e => queueAtt e.1 == att.val && queueCls e.1 ==
        cls.val).map fun e => e.2.length).sum) % 2 ^ 20 ∧
      t.cnl = s.cnl ∧ t.out = s.out)

/-- A read that hits answers the line and leaves it (R199); a write-back write that hits changes the line's bytes, marks
it dirty and leaves the reservoir (R200). A fill puts the reservoir's line into the wharf (R199), a writeback's end
puts its data into the reservoir (R206). Clean writes a dirty line back and keeps it clean, both invalidating
operations also drop it, and the range operation ends with DONE and its count (R205, R207). Disabling starts the
cleaning walk, whose end is OFF and clean; enabling returns to ON (R208, R209). The invalidation walk ends in ON or
OFF by EN (R211). Switching the lighter off empties it (R202). WHARF_DISCARD of an idle device drops every line and
goes on executing (R212). -/
def Obligations.WharfAccessesAndMaintenance : Prop :=
  (∀ (r : WharfReq) (k : Nat) (s : State),
    s.whfState = 1 ∧ s.lineFree (lineOf r.addr) = true ∧ (s.whf.waits.any fun w => w.line == lineOf r.addr) =
      false →
    s.whf.find (lineOf r.addr) = some k ∧ (s.whf.lines.get k).bad = false ∧ r.write = none →
    ∃ t, exec (.wharfAccess r 0) s = .next t ∧
      Out.line r.cls (lineOf r.addr) (s.whf.lines.get k).data ∈ t.out ∧
      t.whf.lines.get k = s.whf.lines.get k ∧ t.res = s.res ∧ t.whf.flights = s.whf.flights) ∧
  (∀ (r : WharfReq) (b : List Byte) (k : Nat) (s : State),
    s.whfState = 1 ∧ s.lineFree (lineOf r.addr) = true ∧ (s.whf.waits.any fun w => w.line == lineOf r.addr) =
      false →
    s.whf.find (lineOf r.addr) = some k ∧ (s.whf.lines.get k).bad = false ∧ r.write = some b →
    s.through r.cls = false ∧ s.through (s.whf.lines.get k).cls = false →
    ∃ t, exec (.wharfAccess r 0) s = .next t ∧
      t.whf.lines.get k =
        { s.whf.lines.get k with data := lineWith (s.whf.lines.get k).data (r.addr % 128) b, dirty := true } ∧
      t.res = s.res ∧ t.whf.flights = s.whf.flights ∧ t.out = s.out) ∧
  (∀ (l : Nat) (f : Flight) (s : State),
    (s.whf.flights.find? fun f => f.fill && f.line == l) = some f ∧ s.whfState = 1 ∧ (s.whf.flights.any fun g =>
      !g.fill && g.line == l) = false →
    f.alloc = true ∧ s.ways f.cls ≠ 0 ∧ s.ways f.cls < 2 ^ 16 ∧ s.whf.find l = none ∧ (s.whf.waits.any fun w =>
      w.line == l) = false →
    ∃ t, exec (.wharfFillComplete l none) s = .next t ∧
      (∃ k, t.whf.find l = some k ∧ t.whf.lines.get k = ⟨true, l, false, f.cls, false, s.resLine l⟩) ∧
      t.res = s.res ∧ t.whf.waits = s.whf.waits) ∧
  (∀ (l : Nat) (f : Flight) (s : State),
    (s.whf.flights.find? fun f => !f.fill && f.line == l) = some f ∧ (s.whf.waits.any fun w => w.line == l) =
      false →
    ∃ t, exec (.wharfWritebackComplete l) s = .next t ∧
      t.resLine l = f.data ∧ t.whf.flights = s.whf.flights.erase f ∧ t.whf.lines = s.whf.lines ∧
      (∀ a, (a < l * 128 ∨ l * 128 + 128 ≤ a) → t.res.get a = s.res.get a)) ∧
  (∀ (l : Nat) (k : Nat) (s : State),
    s.flag Fld.WHF_MAINT_STAT_BUSY = false ∧ l < 2 ^ 31 ∧ s.lineFree l = true ∧ (s.whf.waits.any fun w => w.line
      == l) = false →
    s.whf.find l = some k ∧ (s.whf.lines.get k).dirty = true →
    ∃ t, exec (.maintClean l 1) s = .next t ∧
      t.whf.lines.get k = { s.whf.lines.get k with dirty := false } ∧ t.fld Fld.WHF_MAINT_STAT_BUSY = 1 ∧
      t.whf.flights = s.whf.flights ++ [⟨l, false, false, (s.whf.lines.get k).cls, (s.whf.lines.get k).data,
        true⟩] ∧ t.res = s.res) ∧
  (∀ (l : Nat) (k : Nat) (s : State),
    s.flag Fld.WHF_MAINT_STAT_BUSY = false ∧ l < 2 ^ 31 ∧ s.lineFree l = true ∧ (s.whf.waits.any fun w => w.line
      == l) = false →
    s.whf.find l = some k →
    ∃ t, exec (.maintInvalidate l 1) s = .next t ∧
      t.whf.lines.get k = default ∧ t.fld Fld.WHF_MAINT_STAT_BUSY = 1 ∧ t.res = s.res ∧
      t.whf.flights = s.whf.flights ++ (if (s.whf.lines.get k).dirty then [⟨l, false, false, (s.whf.lines.get
        k).cls, (s.whf.lines.get k).data, true⟩] else [])) ∧
  (∀ (l : Nat) (k : Nat) (s : State),
    s.flag Fld.WHF_MAINT_STAT_BUSY = false ∧ l < 2 ^ 31 ∧ s.lineFree l = true ∧ (s.whf.waits.any fun w => w.line
      == l) = false →
    s.whf.find l = some k →
    ∃ t, exec (.maintCleanInvalidate l 1) s = .next t ∧
      t.whf.lines.get k = default ∧ t.fld Fld.WHF_MAINT_STAT_BUSY = 1 ∧ t.res = s.res ∧
      t.whf.flights = s.whf.flights ++ (if (s.whf.lines.get k).dirty then [⟨l, false, false, (s.whf.lines.get
        k).cls, (s.whf.lines.get k).data, true⟩] else [])) ∧
  (∀ (m : Nat × Nat) (s : State),
    s.whf.maint = some m ∧ s.whf.waits = [] ∧ (s.whf.flights.any fun f => f.maint) = false →
    ∃ t, exec (.maintRangeComplete) s = .next t ∧
      t.fld Fld.WHF_MAINT_STAT_BUSY = 0 ∧ t.fld Fld.WHF_MAINT_STAT_DONE = 1 ∧ t.fld Fld.WHF_MAINT_STAT_WRITTEN =
        min 65535 m.2 ∧
      t.whf.maint = none ∧ t.whf.lines = s.whf.lines ∧ t.res = s.res) ∧
  (∀ (s : State),
    s.whfState = 1 →
    ∃ t, exec (.wharfDisable) s = .next t ∧
      t.whfState = 2 ∧ t.fld Fld.WHF_CTL_EN = 0 ∧ t.fld Fld.WHF_STATE_WALK_SET = 0 ∧ t.whf.walk = 0 ∧
      t.whf.lighter = s.whf.lighter ∧ t.whf.lines = s.whf.lines ∧ t.res = s.res) ∧
  (∀ (s : State),
    s.whfState = 2 ∨ s.whfState = 3 →
    ∃ t, exec (.wharfEnable) s = .next t ∧
      t.whfState = 1 ∧ t.fld Fld.WHF_CTL_EN = 1 ∧ t.fld Fld.WHF_STATE_CLEAN = 0 ∧ t.whf.walk = 0 ∧
      t.whf.lines = s.whf.lines ∧ t.res = s.res) ∧
  (∀ (s : State),
    s.whfState = 2 ∧ s.whf.waits = [] →
    ∃ t, exec (.cleaningWalkComplete) s = .next t ∧
      t.whfState = 3 ∧ t.fld Fld.WHF_STATE_CLEAN = 1 ∧ t.whf.lines = [] ∧ t.whf.lighter = [] ∧ t.whf.walk = 0) ∧
  (∀ (s : State),
    s.whfState = 0 ∧ s.whf.waits = [] →
    ∃ t, exec (.invalidationWalkEnd) s = .next t ∧
      t.whfState = (if s.flag Fld.WHF_CTL_EN then 1 else 3) ∧ t.fld Fld.WHF_STATE_CLEAN = (if s.flag
        Fld.WHF_CTL_EN then 0 else 1) ∧
      t.whf = s.whf ∧ t.res = s.res) ∧
  (∀ (en : Bool) (s : State),
    ∃ t, exec (.lighterEnWrite en) s = .next t ∧
      t.fld Fld.WHF_CTL_LIGHTER_EN = en.toNat ∧ t.whf.lines = s.whf.lines ∧ t.res = s.res ∧
      t.whf.lighter = (if en then s.whf.lighter else [])) ∧
  (∀ (h : Hdr) (s : State),
    s.takes h 0x0A20 [(.device, 0)] = true ∧ (s.whfState = 1 ∨ s.whfState = 2) →
    s.assocs (fun _ => true) = [] ∧ (∀ e ∈ s.mrd.arr, e.2.state ≠ .creating ∧ e.2.state ≠ .rebuilding) →
    (∀ e ∈ s.ary, e.2.scrubbing = false ∧ e.2.gather = []) →
    ∃ t, exec (.wharfDiscard h) s = .next t ∧
      t.executing h 0x0A20 ∧ t.whfState = 0 ∧ t.whf.lines = [] ∧ t.whf.lighter = [] ∧ t.whf.lost = s.whf.dirty ∧
      t.res = s.res ∧ t.drives = s.drives)

/-- A write of CIP_SLOT_IDX addresses the slot and clears the staging buffer, one of CIP_KEY_DATA stages its word, and
KEY_COMMIT loads the staged key into the inactive bank and makes it active (R219, R220); KEY_LOAD does so with its
own key. Zeroising empties the slot, and KEY_ZEROISE of a slot that no berth is bound to is answered with the slot
overwritten (R221). Serial writes and SERIAL_SET load the counter (R230); KEY_QUERY changes no key; the pair key is
written by word or whole (R222). The first cell of a sealed read is held (R226); a key not cached is loaded, and
stands first in the lane's cache then (R215); a good entropy window gives 1,024 samples and starts the lanes, 512 of
which reseed a lane (R233, R234). A lane fence fences the lane, a corrected error is counted (R235). -/
def Obligations.KeySlotsSerialsAndEntropy : Prop :=
  (∀ (slot : Nat) (s : State),
    slot < 4096 →
    ∃ t, exec (.cipSlotIdxWrite slot) s = .next t ∧
      t.fld Fld.CIP_SLOT_IDX_SLOT = slot ∧ t.cip.stageKey = 0 ∧ t.cip.stageBase = 0 ∧ t.mrd = s.mrd ∧ t.cip.slot
        = s.cip.slot) ∧
  (∀ (n : Fin 16) (v : Word32) (s : State),
    ∃ t, exec (.cipKeyDataWrite n v) s = .next t ∧
      bitsOf t.cip.stageKey.toNat (32 * n) 32 = v.toNat ∧ t.mrd = s.mrd ∧ t.regs = s.regs ∧
      (∀ m ∈ List.range 16, m ≠ n.val → bitsOf t.cip.stageKey.toNat (32 * m) 32 = bitsOf s.cip.stageKey.toNat
        (32 * m) 32)) ∧
  (∀ (mode : Nat) (k : Nat) (s : State),
    (mode = 1 ∨ mode = 2) ∧ k = s.fld Fld.CIP_SLOT_IDX_SLOT ∧ (s.cip.slot.get k).retired = false ∧ (s.cip.slot.get
      k).zeroising = false →
    (mode = 1 → s.cip.stageKey.extractLsb' 0 256 ≠ s.cip.stageKey.extractLsb' 256 256) →
    ∃ t, exec (.keyCommit mode) s = .next t ∧
      (t.mrd.keys.get k).mode = mode ∧ (t.mrd.keys.get k).active = !(s.mrd.keys.get k).active ∧
      (t.mrd.keys.get k).bank (t.mrd.keys.get k).active = ⟨s.cip.stageKey, s.cip.stageBase⟩ ∧ t.cip.stageKey = 0) ∧
  (∀ (k : Nat) (s : State),
    k = s.fld Fld.CIP_SLOT_IDX_SLOT →
    ∃ t, exec (.slotZeroise) s = .next t ∧
      (t.mrd.keys.get k).mode = 0 ∧ t.mrd.ns = s.mrd.ns) ∧
  (∀ (lo : Word32) (hi : Word32) (k : Nat) (s : State),
    k = s.fld Fld.CIP_SLOT_IDX_SLOT →
    ∃ t, exec (.cipSerialWrite lo hi) s = .next t ∧
      t.serialOf k = (hi.toNat * 2 ^ 32 + lo.toNat, 0) ∧ t.mrd = s.mrd ∧ t.regs = s.regs) ∧
  (∀ (n : Fin 8) (v : Word32) (s : State),
    ∃ t, exec (.cipPairKeyWrite n v) s = .next t ∧
      bitsOf t.mrd.pairKey.toNat (32 * n) 32 = v.toNat ∧ t.mrd.keys = s.mrd.keys ∧
      (∀ m ∈ List.range 8, m ≠ n.val → bitsOf t.mrd.pairKey.toNat (32 * m) 32 = bitsOf s.mrd.pairKey.toNat (32 *
        m) 32)) ∧
  (∀ (h : Hdr) (k : Nat) (mode : Nat) (key : BitVec 512) (base : BitVec 32) (s : State),
    s.takes h 0x0601 [(.keySlot, k)] = true ∧ k < 4096 ∧ (mode = 1 ∨ mode = 2) ∧ s.imageRoom 1 = true →
    (s.cip.slot.get k).retired = false ∧ (s.cip.slot.get k).zeroising = false ∧ key.extractLsb' 0 256 ≠
      key.extractLsb' 256 256 →
    ∃ t, exec (.keyLoad h k mode key base) s = .next t ∧
      t.answered h 0x0601 .success [] ∧ (t.mrd.keys.get k).mode = mode ∧ (t.mrd.keys.get k).active =
        !(s.mrd.keys.get k).active ∧
      (t.mrd.keys.get k).bank (t.mrd.keys.get k).active = ⟨key, base⟩) ∧
  (∀ (h : Hdr) (k : Nat) (s : State),
    s.takes h 0x0602 [(.keySlot, k)] = true ∧ k < 4096 ∧ s.bankBound k true = false ∧ s.bankBound k false = false
      →
    ∃ t, exec (.keyZeroise h k) s = .next t ∧
      t.answered h 0x0602 .success [] ∧ t.mrd.keys.get k = default ∧ t.mrd.ns = s.mrd.ns) ∧
  (∀ (h : Hdr) (k : Nat) (v : Word64) (s : State),
    s.takes h 0x0603 [(.keySlot, k)] = true ∧ k < 4096 →
    ∃ t, exec (.serialSet h k v) s = .next t ∧
      t.answered h 0x0603 .success [] ∧ t.serialOf k = (v.toNat, 0) ∧ t.mrd = s.mrd) ∧
  (∀ (h : Hdr) (k : Nat) (s : State),
    s.takes h 0x0604 [(.keySlot, k)] = true ∧ k < 4096 →
    ∃ t, exec (.keyQuery h k) s = .next t ∧
      (∃ l, t.answered h 0x0604 .success (beBytes 1 (s.mrd.keys.get k).mode :: beBytes 1 (s.mrd.keys.get
        k).active.toNat :: l)) ∧
      t.mrd = s.mrd ∧ t.cip = s.cip) ∧
  (∀ (h : Hdr) (key : BitVec 256) (s : State),
    s.takes h 0x0605 [(.device, 0)] = true →
    ∃ t, exec (.pairKeyLoad h key) s = .next t ∧
      t.answered h 0x0605 .success [] ∧ t.mrd.pairKey = key ∧ t.mrd.keys = s.mrd.keys ∧ t.cip = s.cip) ∧
  (∀ (l : Fin 10) (b : Fin 262144) (blk : Nat) (s : State),
    s.laneFenced l = false ∧ s.cip.started = true ∧ (s.berth b).state ≠ .free ∧ 3 ≤ (s.berth b).checkpoint ∧
      (s.berth b).lane = l.val →
    (s.cip.lane.get l).cache.contains ((s.berth b).keySlot, (s.berth b).bank) = true →
    (s.berth b).ns.cipher = .sealed ∧ (s.cip.lane.get l).occupied < 256 →
    ((s.cip.lane.get l).hold.find? fun h => h.berth == b.val && h.blk == blk && h.reading) = none →
    ∃ t, exec (.cipherCell l b blk 0 true) s = .next t ∧
      (t.cip.lane.get l).hold = (s.cip.lane.get l).hold ++ [⟨b, blk, 1, true⟩] ∧ t.mrd = s.mrd ∧ t.brg = s.brg) ∧
  (∀ (l : Fin 10) (b : Fin 262144) (blk : Nat) (s : State),
    s.laneFenced l = false ∧ s.cip.started = true ∧ (s.berth b).state ≠ .free ∧ 3 ≤ (s.berth b).checkpoint ∧
      (s.berth b).lane = l.val →
    (s.cip.lane.get l).cache.contains ((s.berth b).keySlot, (s.berth b).bank) = false →
    ∃ t, exec (.cipherCell l b blk 0 true) s = .next t ∧
      ((s.berth b).keySlot, (s.berth b).bank) ∈ (t.cip.lane.get l).loading ∧ (t.cip.lane.get l).hold =
        (s.cip.lane.get l).hold ∧ t.mrd = s.mrd ∧ t.brg = s.brg) ∧
  (∀ (l : Fin 10) (k : Fin 4096) (s : State),
    s.laneFenced l = false →
    ∃ t, exec (.keyCacheFill l k) s = .next t ∧
      (t.cip.lane.get l).cache = ((s.cip.lane.get l).loading.filter (fun x => x.1 == k.val) ++ (s.cip.lane.get
        l).cache.filter fun x => !((s.cip.lane.get l).loading.filter fun y => y.1 == k.val).contains x).take 64
        ∧
      (t.cip.lane.get l).loading = (s.cip.lane.get l).loading.filter (fun x => x.1 != k.val) ∧ (t.cip.lane.get
        l).hold = (s.cip.lane.get l).hold ∧ t.regs = s.regs) ∧
  (∀ (s : State),
    ∃ t, exec (.entropyWindow true true) s = .next t ∧
      t.cip.samples = s.cip.samples + 1024 ∧ t.cip.started = true ∧ t.regs = s.regs) ∧
  (∀ (l : Fin 10) (s : State),
    512 ≤ s.cip.samples →
    ∃ t, exec (.drbgReseed l) s = .next t ∧
      t.cip.samples = s.cip.samples - 512 ∧ t.cip.badReseeds = 0 ∧ t.fld Fld.CIP_STATUS_ENT_DEGRADED = 0) ∧
  (∀ (l : Fin 10) (s : State),
    s.laneFenced l = false ∧ ((List.range 10).any fun m => m != l.val && !s.laneFenced m) = true →
    ∃ t, exec (.laneFence l false) s = .next t ∧
      t.laneFenced l = true ∧ t.fld (Fld.CIP_LANE_STAT_UE l) = 1 ∧ (t.cip.lane.get l).hold = [] ∧ t.mrd = s.mrd) ∧
  (∀ (l : Fin 10) (s : State),
    s.fld (Fld.CIP_LANE_STAT_CE l) < 2 ^ (Fld.CIP_LANE_STAT_CE l).w - 1 →
    ∃ t, exec (.laneFence l true) s = .next t ∧
      t.fld (Fld.CIP_LANE_STAT_CE l) = s.fld (Fld.CIP_LANE_STAT_CE l) + 1 ∧ t.cip = s.cip ∧ t.mrd = s.mrd)

/-- A bank state that is not refused is taken and shown (R435). An uncorrectable error of a dock bank sets UE and marks
its 64 bytes (R436). A stack temperature is shown as a signed byte; above 85 degrees refresh is doubled, below 80 it
is not (R437). -/
def Obligations.BanksAndReservoirStacks : Prop :=
  (∀ (k : Fin 16) (req : Nat) (s : State),
    req < 3 ∧ (req = 0 ∨ s.bankRefused k = false) →
    ∃ t, exec (.spbBankCtlWrite k req) s = .next t ∧
      t.fld (Fld.SPB_BANK_CTL_REQ k) = req ∧ t.fld (Fld.SPB_BANK_STAT_STATE k) = req ∧ t.res = s.res ∧ t.mrd =
        s.mrd) ∧
  (∀ (k : Fin 16) (unit : Nat) (s : State),
    8 ≤ k.val ∧ unit < 65536 →
    ∃ t, exec (.largeBankUe k unit [] false) s = .next t ∧
      t.fld (Fld.SPB_BANK_STAT_UE k) = 1 ∧ (k.val - 8) * 65536 + unit ∈ t.brg.dockBad ∧ t.brg.dock = s.brg.dock) ∧
  (∀ (k : Fin 4) (c : Int) (s : State),
    -128 ≤ c ∧ c < 125 →
    ∃ t, exec (.stackTempChange k c) s = .next t ∧
      t.fld (Fld.RSV_STACK_STAT_TEMP k) = (c % 256).toNat ∧ t.out = s.out ∧ t.mrd = s.mrd ∧
      t.fld (Fld.RSV_STACK_STAT_REFRESH_X2 k) = (if 85 < c then 1 else if c < 80 then 0 else s.fld
        (Fld.RSV_STACK_STAT_REFRESH_X2 k)))

/-- An ARP request that passes the steps of R255 for a live address of the port is answered. A port's own XOFF is sent
again while its occupancy stays at XON (R259); a received PFC time ends for its class only (R260). A link comes up
on a present, enabled port and goes down with its port training again (R253, R267); a direct write of NET_QUAD_CFG
is stored (R253). Low-power idle is entered where EEE is in force, counted, and left (R264). An unanswered neighbour
is asked again, an old one is probed (R257). -/
def Obligations.PortsLinksAndFrames : Prop :=
  (∀ (p : Fin 129) (f : RxFrame) (sender : Nat) (target : Nat) (s : State),
    s.pwrDepth < 2 ∧ (p.val = 128 ∨ s.flag (Fld.NET_PORT_STAT_LINK (quadOf p) (laneOf p)) = true) →
    f.errored = false ∧ f.uncorrected = 0 ∧ 64 ≤ f.len ∧ f.len ≤ s.mtuOf p + 18 + 4 * min 1 f.tags.length ∧
      s.macOk p f = true →
    f.etype ≠ 0x8808 ∧ f.etype ≠ 0x88B5 ∧ s.vlanOk p f = true ∧ s.aclOk p f = true ∧ f.body = .arp true sender
      target →
    (p.val = 128 ∨ s.flag (Fld.SLC_PORT_CFG_CTRL_EN p) = false) ∧ ((s.liveAddrs p).any fun x => !x.v6 && x.addr ==
      target) = true →
    ∃ t, exec (.frameReceive p f) s = .next t ∧
      Out.net p (.answer false target) ∈ t.out ∧ t.mrd = s.mrd ∧ t.net.rx = s.net.rx ∧ t.net.neigh = s.net.neigh) ∧
  (∀ (p : Fin 128) (c : Fin 8) (s : State),
    s.pauseOn p = false ∧ (s.fld (Fld.NET_PORT_STAT_XOFF_TX (quadOf p) (laneOf p))).testBit c = true →
    s.fld (Fld.NET_PFC_THR_XON (quadOf p) (laneOf p) c) ≤ s.thrOcc p c →
    ∃ t, exec (.pfcRefreshExpiry p c) s = .next t ∧
      Out.net p (.pfc [(c, s.fld (Fld.NET_PFC_CFG_QUANTA (quadOf p) (laneOf p)))]) ∈ t.out ∧ t.net = s.net ∧
      t.fld (Fld.NET_PORT_STAT_XOFF_TX (quadOf p) (laneOf p)) = s.fld (Fld.NET_PORT_STAT_XOFF_TX (quadOf p)
        (laneOf p))) ∧
  (∀ (p : Fin 128) (c : Fin 8) (s : State),
    ∃ t, exec (.pauseTimerExpiry p (some c)) s = .next t ∧
      (t.fld (Fld.NET_PORT_STAT_PFC_RX (quadOf p) (laneOf p))).testBit c = false ∧ t.out = s.out ∧ t.net = s.net
        ∧
      (∀ d ∈ List.range 8, d ≠ c.val → (t.fld (Fld.NET_PORT_STAT_PFC_RX (quadOf p) (laneOf p))).testBit d =
        (s.fld (Fld.NET_PORT_STAT_PFC_RX (quadOf p) (laneOf p))).testBit d)) ∧
  (∀ (q : Fin 32) (v : Word32) (s : State),
    (s.cfgWrite (Reg.NET_QUAD_CFG q) v).thrSum q ≤ 1024 →
    ∃ t, exec (.quadReconfigWrite q (some v) none) s = .next t ∧
      t.reg (Reg.NET_QUAD_CFG q) = (s.cfgWrite (Reg.NET_QUAD_CFG q) v).reg (Reg.NET_QUAD_CFG q) ∧ t.net = s.net) ∧
  (∀ (p : Fin 128) (eee : Bool) (s : State),
    s.portHere p = true ∧ s.flag (Fld.NET_PORT_CFG_EN (quadOf p) (laneOf p)) = true ∧ s.rst.portsUp = true →
    s.flag (Fld.NET_PORT_STAT_LINK (quadOf p) (laneOf p)) = false →
    ∃ t, exec (.linkUp p eee) s = .next t ∧
      t.fld (Fld.NET_PORT_STAT_LINK (quadOf p) (laneOf p)) = 1 ∧ t.net.rx = s.net.rx ∧ t.net.neigh = s.net.neigh
        ∧ t.mrd = s.mrd ∧
      t.net.eee.get p = (if eee = true ∧ s.flag (Fld.NET_QUAD_CFG_AN_EN (quadOf p)) = true then s.fld
        (Fld.NET_EEE_CFG_IDLE_US (quadOf p)) else 0)) ∧
  (∀ (p : Fin 128) (s : State),
    s.flag (Fld.NET_PORT_STAT_LINK (quadOf p) (laneOf p)) = true →
    ∃ t, exec (.linkDown p) s = .next t ∧
      t.fld (Fld.NET_PORT_STAT_LINK (quadOf p) (laneOf p)) = 0 ∧ t.fld (Fld.NET_QUAD_STAT_TRAINING (quadOf p)) =
        1 ∧
      Out.net p .train ∈ t.out ∧ t.net = s.net ∧ t.mrd = s.mrd) ∧
  (∀ (p : Nat) (a : Nat) (n : Neighbour) (s : State),
    (s.net.neigh.find? fun n => n.port == p && n.addr == a && n.confirmed.isNone) = some n ∧ n.asked < 3 →
    ∃ t, exec (.neighbourRetryExpiry p a) s = .next t ∧
      Out.net p (.request n.v6 a) ∈ t.out ∧ { n with asked := n.asked + 1 } ∈ t.net.neigh ∧ t.net.neigh.length =
        s.net.neigh.length ∧
      t.net.rx = s.net.rx ∧ t.mrd = s.mrd) ∧
  (∀ (p : Nat) (a : Nat) (n : Neighbour) (s : State),
    (s.net.neigh.find? fun n => n.port == p && n.addr == a && n.confirmed.isSome) = some n →
    ∃ t, exec (.neighbourRevalidate p a) s = .next t ∧
      Out.net p (.probe n.v6 a) ∈ t.out ∧ t.net = s.net ∧ t.mrd = s.mrd) ∧
  (∀ (p : Fin 128) (rx : Bool) (s : State),
    s.eeeOn p = true →
    s.flag (if rx then Fld.NET_PORT_STAT_LPI_RX (quadOf p) (laneOf p) else Fld.NET_PORT_STAT_LPI_TX (quadOf p)
      (laneOf p)) = false →
    ∃ t, exec (.lpiEntry p rx) s = .next t ∧
      t.fld (if rx then Fld.NET_PORT_STAT_LPI_RX (quadOf p) (laneOf p) else Fld.NET_PORT_STAT_LPI_TX (quadOf p)
        (laneOf p)) = 1 ∧
      t.out = s.out ∧ t.net = s.net) ∧
  (∀ (p : Fin 128) (rx : Bool) (s : State),
    ∃ t, exec (.lpiExit p rx) s = .next t ∧
      t.fld (if rx then Fld.NET_PORT_STAT_LPI_RX (quadOf p) (laneOf p) else Fld.NET_PORT_STAT_LPI_TX (quadOf p)
        (laneOf p)) = 0 ∧
      t.out = s.out ∧ t.net = s.net)

/-- Executed at once and with operands in range, QUAD_SET of a mode stores it, PORT_SET of a wake pattern stores it,
PORT_QUERY and ACL_QUERY answer without a change, DISCOVERY_SET sets each named port's policy, ACL_SET the rule,
MGMT_SRC_SET the entry, ADDR_SET of an IPv4 address and ADDR_DELETE the address entry, each answered with SUCCESS.
Duplicate detection that ends puts the address in force, or drops it where it is a duplicate (R257). -/
def Obligations.PortAndAddressManifestsTakeEffect : Prop :=
  (∀ (h : Hdr) (q : Nat) (m : Nat) (s : State),
    s.takes h 0x0201 ((List.range 4).map fun l => (.port, 4 * q + l)) = true ∧ q < 32 ∧ m ≤ 2 →
    (s.cfgWrite (Reg.NET_QUAD_CFG q) (BitVec.ofNat 32 (setBits (s.reg (Reg.NET_QUAD_CFG q)).toNat 0 2 m))).thrSum
      q ≤ 1024 →
    ∃ t, exec (.quadSet h q (some m) none none none) s = .next t ∧
      t.answered h 0x0201 .success [] ∧ t.fld (Fld.NET_QUAD_CFG_MODE q) = m ∧ t.net = s.net) ∧
  (∀ (h : Hdr) (p : Nat) (w : Nat) (v : Word32) (s : State),
    s.takes h 0x0202 [(.port, p)] = true ∧ p < 128 ∧ s.portHere p = true ∧ w < 4 ∧ s.thrSum (quadOf p) ≤ 1024 →
    ∃ t, exec (.portSet h p none none none [] [(w, v)]) s = .next t ∧
      t.answered h 0x0202 .success [] ∧ t.reg (Reg.NET_WAKE_PAT (quadOf p) (laneOf p) w) = v ∧ t.net = s.net) ∧
  (∀ (h : Hdr) (p : Nat) (s : State),
    s.takes h 0x0205 [] = true ∧ p < 128 ∧ s.portHere p = true →
    ∃ t, exec (.portQuery h [p]) s = .next t ∧
      (∃ l, t.answered h 0x0205 .success [beBytes 1 p ++ beBytes 4 (s.reg (Reg.NET_PORT_STAT (quadOf p) (laneOf
        p))).toNat ++ l]) ∧
      t.net = s.net ∧ t.mrd = s.mrd) ∧
  (∀ (h : Hdr) (ports : List Nat) (policy : Nat) (s : State),
    s.takes h 0x0206 (ports.map fun p => (.port, p)) = true ∧ ports ≠ [] ∧ (∀ p ∈ ports, p < 128 ∧ s.portHere p =
      true) ∧ policy ≤ 2 ∧ s.imageRoom ports.length = true →
    ∃ t, exec (.discoverySet h ports policy) s = .next t ∧
      t.answered h 0x0206 .success [] ∧ (∀ p ∈ ports, t.mrd.disc.get p = policy) ∧ t.mrd.addr = s.mrd.addr) ∧
  (∀ (h : Hdr) (p : Nat) (i : Nat) (r : AclRule) (s : State),
    s.takes h 0x0501 [(.port, p)] = true ∧ p < 128 ∧ i < 16 ∧ s.portHere p = true ∧ r.action ≤ 2 ∧ r.kind ≤ 3 →
    (r.kind = 2 → r.len ≤ 32) ∧ (r.kind = 3 → r.len ≤ 128) ∧ s.imageRoom 1 = true →
    ∃ t, exec (.aclSet h p i r) s = .next t ∧
      t.answered h 0x0501 .success [] ∧ t.mrd.acl.get (16 * p + i) = r ∧ t.mrd.addr = s.mrd.addr) ∧
  (∀ (h : Hdr) (p : Nat) (s : State),
    s.takes h 0x0502 [] = true ∧ p < 128 ∧ s.portHere p = true →
    ∃ t, exec (.aclQuery h p) s = .next t ∧
      t.answered h 0x0502 .success ((List.range 16).map fun i => aclBytes (s.mrd.acl.get (16 * p + i))) ∧ t.mrd
        = s.mrd) ∧
  (∀ (h : Hdr) (e : Nat) (p : Prefix) (s : State),
    s.takes h 0x0510 [] = true ∧ e < 16 ∧ p.len ≤ (if p.v6 then 128 else 32) ∧ s.imageRoom 1 = true →
    ∃ t, exec (.mgmtSrcSet h e (some p)) s = .next t ∧
      t.answered h 0x0510 .success [] ∧ t.mrd.src.get e = some p ∧ t.mrd.addr = s.mrd.addr) ∧
  (∀ (h : Hdr) (e : Nat) (a : AddrParams) (s : State),
    s.takes h 0x0203 (a.ports.map fun p => (.port, p)) = true ∧ e < 1024 ∧ a.v6 = false ∧ a.len ≤ 32 →
    (∀ p ∈ a.ports, p ≤ 128 ∧ s.portEntries p e < (if p = 128 then 1 else 16)) ∧ a.ports ≠ [] ∧ s.absent a.ports =
      false ∧ (∀ v ∈ a.vlan, v ≤ 4094) ∧ s.imageRoom 1 = true →
    ∃ t, exec (.addrSet h e a) s = .next t ∧
      t.answered h 0x0203 .success [] ∧ t.mrd.addr.get e = some a ∧ t.mrd.acl = s.mrd.acl) ∧
  (∀ (h : Hdr) (e : Nat) (s : State),
    s.takes h 0x0204 [] = true ∧ e < 1024 ∧ (s.mrd.addr.get e).isSome = true →
    ∃ t, exec (.addrDelete h e) s = .next t ∧
      t.answered h 0x0204 .success [] ∧ t.mrd.addr.get e = none ∧ t.mrd.acl = s.mrd.acl) ∧
  (∀ (e : Fin 1024) (dup : Bool) (a : AddrParams) (s : State),
    (s.net.dad.find? fun d => d.1 == e.val) = some (e.val, a) →
    ∃ t, exec (.dadComplete e dup) s = .next t ∧
      t.mrd.addr.get e = (if dup then s.mrd.addr.get e else some a) ∧ (t.net.dad.any fun d => d.1 == e.val) =
        false ∧
      t.mrd.acl = s.mrd.acl ∧ t.net.neigh = s.net.neigh)

/-- In mode 0 with strict classes, a frame of class 7 whose shapers are open and whose class is not paused leaves first
on a port whose link is up, and the port's and class's buckets are debited (R243, R244). A waiting host without a
subscriber node is served as the default subscriber by a tug group that holds a credit for the class (R246). A mode
write is stored and clears the lane's deficits (R247). SLC_PORT_SET, METER_SET, SLC_CFG_SET, SUB_NODE_SET and
NSB_SET store what their registers hold of the value and are answered with SUCCESS (R250). -/
def Obligations.SluiceChoicesAndSettings : Prop :=
  (∀ (p : Fin 128) (heads : List (Option Nat)) (n : Nat) (s : State),
    s.fld (Fld.SLC_PORT_CFG_MODE p) = 0 ∧ s.fld (Fld.SLC_PORT_CFG_STRICT_N p) ≠ 0 ∧ heads.getD 7 none = some n ∧
      s.classPaused p 7 = false ∧ s.linked p = true →
    shaperOpen (s.slc.port.get p) (s.fld (Fld.SLC_PORT_TB_RATE_RATE p)) (s.fld (Fld.SLC_PORT_TB_BURST_BURST p))
      s.now = true →
    shaperOpen (s.slc.cmax.get (8 * p + 7)) (s.fld (Fld.SLC_CMAX_RATE_RATE (8 * p + 7))) (s.fld
      (Fld.SLC_CMAX_BURST_BURST (8 * p + 7))) s.now = true →
    ∃ t, exec (.egressFrameChoice p heads) s = .next t ∧
      Out.frameOut p 7 n ∈ t.out ∧ t.slc.cmin = s.slc.cmin ∧ t.slc.meter = s.slc.meter ∧ t.slc.nsb = s.slc.nsb ∧
        t.mrd = s.mrd ∧
      t.slc.port.get p = (s.slc.port.get p).debit (s.fld (Fld.SLC_PORT_TB_RATE_RATE p)) s.now (s.egressLen p n *
        8000)) ∧
  (∀ (g : Fin 8) (p : Fin 128) (c : Fin 8) (host : Nat) (len : Nat) (s : State),
    s.subNodes p c host = [] ∧ s.egressLen p len ≤ 256 ∧ s.cnl.credits.get (netOut p c * 128 + attGroup g) ≠ [] →
    ∃ t, exec (.subscriberChoice g p c [(host, len)]) s = .next t ∧
      Out.subscriber g p c 8192 ∈ t.out ∧ t.slc.subMax = s.slc.subMax ∧ t.slc.subMin = s.slc.subMin) ∧
  (∀ (p : Fin 128) (mode : Nat) (n : Nat) (s : State),
    mode < 2 ∧ n < 4 →
    ∃ t, exec (.slcModeWrite p mode n) s = .next t ∧
      t.fld (Fld.SLC_PORT_CFG_MODE p) = mode ∧ t.fld (Fld.SLC_PORT_CFG_STRICT_N p) = n ∧ t.slc.lane.get p =
        default ∧ t.slc.sub = s.slc.sub) ∧
  (∀ (h : Hdr) (p : Nat) (mode : Nat) (s : State),
    s.takes h 0x0210 [(.port, p)] = true ∧ p < 128 ∧ mode < 2 ∧ s.portHere p = true →
    ∃ t, exec (.slcPortSet h p (some mode) none none [] [] []) s = .next t ∧
      (∃ l, t.answered h 0x0210 .success l) ∧
      t.fld (Fld.SLC_PORT_CFG_MODE p) = mode ∧ t.slc.lane.get p = default) ∧
  (∀ (h : Hdr) (m : Nat) (v : Word32) (s : State),
    s.takes h 0x0211 [(.device, 0)] = true ∧ m < 8192 →
    ∃ t, exec (.meterSet h m [(0, v)]) s = .next t ∧
      (∃ l, t.answered h 0x0211 .success l) ∧
      t.reg (Reg.SLC_MTR_CFG m) = (s.cfgWrite (Reg.SLC_MTR_CFG m) v).reg (Reg.SLC_MTR_CFG m)) ∧
  (∀ (h : Hdr) (v : Nat) (s : State),
    s.takes h 0x0212 [(.device, 0)] = true →
    ∃ t, exec (.slcCfgSet h (some v) none) s = .next t ∧
      t.answered h 0x0212 .success [] ∧ t.fld Fld.SLC_CFG_YELLOW_FREE = (s.cfgFld Fld.SLC_CFG_YELLOW_FREE v).fld
        Fld.SLC_CFG_YELLOW_FREE ∧
      t.fld Fld.SLC_CFG_YELLOW_DEPTH = s.fld Fld.SLC_CFG_YELLOW_DEPTH) ∧
  (∀ (h : Hdr) (m : Nat) (v : Word32) (s : State),
    s.takes h 0x0420 [(.device, 0)] = true ∧ m < 8192 ∧ (v.getLsbD 31 = true → s.portHere (bitsOf v.toNat 0 7) =
      true) →
    ∃ t, exec (.subNodeSet h m [(0, v)]) s = .next t ∧
      (∃ l, t.answered h 0x0420 .success l) ∧
      t.reg (Reg.SLC_SUB_CFG m) = (s.cfgWrite (Reg.SLC_SUB_CFG m) v).reg (Reg.SLC_SUB_CFG m)) ∧
  (∀ (h : Hdr) (nsid : Nat) (v : Nat) (s : State),
    s.takes h 0x0421 [(.nspace, nsid)] = true ∧ 1 ≤ nsid ∧ nsid ≤ 16384 ∧ (s.mrd.ns.get nsid).present = true →
    ∃ t, exec (.nsbSet h nsid (some v) none none none) s = .next t ∧
      (∃ l, t.answered h 0x0421 .success l) ∧
      t.reg (Reg.SLC_NSB_RATE (2 * (nsid - 1))) = (s.cfgWrite (Reg.SLC_NSB_RATE (2 * (nsid - 1))) (BitVec.ofNat
        32 v)).reg (Reg.SLC_NSB_RATE (2 * (nsid - 1))))

/-- PERST release of a powered bay starts TRAINING, a link of service takes it to INIT, and a drive that passes the
checks makes it READY (R276, R277, R283); expired windows pulse PERST once, and initialisation or rung 3 that runs
out leaves the bay FAILED (R282, R283). A drive's accesses inside its space are served (R275). A read of bytes of a
discarded cell gets Completer Abort (R144). A timeout on a READY bay starts rung 1, its expiry rung 2 and then,
while a lockkeeper core runs, rung 3, which goes by CSTS.RDY to initialisation, or by PERST to training; link loss
starts at rung 3 (R280). A finished operation is marked so. A shutdown that completes leaves the bay OFF (R285).
Idle expiries advance the array's idle stage (R286) and a good sideband poll is shown (R287). -/
def Obligations.BayPortsTrainInitialiseAndClimbTheLadder : Prop :=
  (∀ (b : Fin 48) (s : State),
    (s.bport b).perstDue = true ∧ s.bay b ≠ Bay.empty ∧ s.bay b ≠ Bay.ladder ∧ s.rst.baysUp = true ∧ s.fld
      (Fld.DRV_GRP_CFG_MODE (b / 3)) ≠ 2 →
    ∃ t, exec (.drivePerstRelease b) s = .next t ∧
      t.bay b = Bay.training ∧ (t.bport b).released = true ∧ (t.bport b).perstDue = false ∧ t.mrd = s.mrd) ∧
  (∀ (b : Fin 48) (speed : Nat) (width : Nat) (s : State),
    s.linkServes b speed width = true ∧ speed < 8 ∧ s.bay b = Bay.training ∧ (s.bport b).pulse = false →
    ∃ t, exec (.driveLinkUp b speed width) s = .next t ∧
      t.bay b = Bay.init ∧ t.fld (Fld.DRV_STATE_SPEED b) = speed ∧ t.fld (Fld.DRV_STATE_WIDTH b) = width ∧ t.mrd
        = s.mrd ∧
      (t.bport b).cfg = some (s.reg Reg.DRV_CFG) ∧ (t.bport b).step = (s.bport b).step) ∧
  (∀ (b : Fin 48) (s : State),
    s.bay b = Bay.training ∧ (s.bport b).pulse = false ∧ (s.bport b).windows = 0 →
    ∃ t, exec (.trainingWindowExpiry b) s = .next t ∧
      (t.bport b).windows = 1 ∧ (t.bport b).pulse = true ∧ (t.bport b).released = false ∧ t.regs = s.regs) ∧
  (∀ (b : Fin 48) (id : DriveId) (content : Option Medium) (s : State),
    s.bay b = Bay.init ∧ (s.driveFound b id content).failedCheck b id = 0 →
    ∃ t, exec (.driveInitComplete b id content) s = .next t ∧
      t.bay b = Bay.ready ∧ (t.drives.get b).id = id) ∧
  (∀ (b : Fin 48) (s : State),
    s.bay b = Bay.init →
    ∃ t, exec (.driveInitTimeout b) s = .next t ∧
      t.bay b = Bay.failed ∧ t.fld (Fld.DRV_STATE_RUNG b) = 0) ∧
  (∀ (b : Fin 48) (a : Word64) (tag : Option Word32) (s : State),
    s.driveSpace b a.toNat = true ∧ (tag.any fun x => s.cnl.lost.contains (b.val, x.toNat)) = false →
    ∃ t, exec (.driveMemoryRead b a tag) s = .next t ∧
      Out.driveCtl b (.memory a.toNat false true) ∈ t.out ∧ t.port = s.port ∧ t.regs = s.regs) ∧
  (∀ (b : Fin 48) (a : Word64) (x : Word32) (s : State),
    s.driveSpace b a.toNat = true ∧ s.cnl.lost.contains (b.val, x.toNat) = true →
    ∃ t, exec (.driveMemoryRead b a (some x)) s = .next t ∧
      Out.driveCtl b (.abortRead a.toNat) ∈ t.out ∧ t.port = s.port ∧ t.regs = s.regs) ∧
  (∀ (b : Fin 48) (a : Word64) (s : State),
    s.driveSpace b a.toNat = true →
    ∃ t, exec (.driveMemoryWrite b a) s = .next t ∧
      Out.driveCtl b (.memory a.toNat true true) ∈ t.out ∧ t.port = s.port ∧ t.regs = s.regs) ∧
  (∀ (b : Fin 48) (x : Fin 262144) (i : Nat) (o : PlanOp) (s : State),
    (s.berth x).ops[i]? = some o ∧ o.bay = b.val ∧ o.onDrive = true ∧ (s.berth x).state = .run ∧ (s.berth
      x).orphan = false →
    ∃ t, exec (.driveCompletion b (.op x i .ok)) s = .next t ∧
      ((t.berth x).ops[i]?.map fun o => o.finished) = some true ∧ t.mrd = s.mrd) ∧
  (∀ (b : Fin 48) (x : Fin 262144) (i : Nat) (o : PlanOp) (s : State),
    (s.berth x).ops[i]? = some o ∧ o.bay = b.val ∧ o.onDrive = true ∧ (s.bport b).timedOut.contains (x.val, i) =
      false ∧ s.bay b = Bay.ready →
    ∃ t, exec (.driveCommandTimeout b x i) s = .next t ∧
      t.bay b = Bay.ladder ∧ t.fld (Fld.DRV_STATE_RUNG b) = 1 ∧ (t.bport b).timedOut = (s.bport b).timedOut ++
        [(x.val, i)] ∧
      t.brg = s.brg ∧ t.mrd = s.mrd) ∧
  (∀ (b : Fin 48) (s : State),
    s.bay b = Bay.ready ∧ s.lkUp = true →
    ∃ t, exec (.driveLinkLoss b) s = .next t ∧
      t.bay b = Bay.ladder ∧ t.fld (Fld.DRV_STATE_RUNG b) = 3 ∧ (t.bport b).released = false ∧ (t.bport b).step
        = .pulse) ∧
  (∀ (b : Fin 48) (s : State),
    s.bay b = Bay.ladder ∧ s.fld (Fld.DRV_STATE_RUNG b) = 1 →
    ∃ t, exec (.rung1Expiry b) s = .next t ∧
      t.bay b = Bay.ladder ∧ t.fld (Fld.DRV_STATE_RUNG b) = 2) ∧
  (∀ (b : Fin 48) (s : State),
    s.bay b = Bay.ladder ∧ s.fld (Fld.DRV_STATE_RUNG b) = 2 ∧ s.lkUp = true →
    ∃ t, exec (.rung2Expiry b) s = .next t ∧
      t.bay b = Bay.ladder ∧ t.fld (Fld.DRV_STATE_RUNG b) = 3 ∧ (t.bport b).step = .ready) ∧
  (∀ (b : Fin 48) (s : State),
    s.bay b = Bay.ladder ∧ (s.bport b).step = .ready ∧ s.lkUp = true →
    ∃ t, exec (.cstsRdyClear b) s = .next t ∧
      (t.bport b).step = .init ∧ t.regs = s.regs ∧ t.mrd = s.mrd) ∧
  (∀ (b : Fin 48) (s : State),
    s.bay b = Bay.ladder ∧ (s.bport b).step = .ready ∧ s.lkUp = true →
    ∃ t, exec (.readyWaitExpiry b) s = .next t ∧
      (t.bport b).step = .pulse ∧ (t.bport b).released = false ∧ t.regs = s.regs ∧ t.mrd = s.mrd) ∧
  (∀ (b : Fin 48) (trains : Bool) (s : State),
    s.bay b = Bay.ladder ∧ (s.bport b).step = .pulse ∧ s.lkUp = true →
    trains = true ∨ (s.bport b).mayCycle = false ∨ (s.bport b).cycled = true →
    ∃ t, exec (.perstPulseEnd b trains) s = .next t ∧
      (t.bport b).step = .training ∧ (t.bport b).released = true ∧ t.bay b = Bay.ladder ∧ t.mrd = s.mrd) ∧
  (∀ (b : Fin 48) (s : State),
    s.bay b = Bay.ladder ∧ s.fld (Fld.DRV_STATE_RUNG b) = 3 →
    ∃ t, exec (.rung3Expiry b) s = .next t ∧
      t.bay b = Bay.failed ∧ t.fld (Fld.DRV_STATE_RUNG b) = 0) ∧
  (∀ (b : Fin 48) (s : State),
    (s.bport b).shutdown = true →
    ∃ t, exec (.driveShutdownComplete b) s = .next t ∧
      t.bay b = Bay.off ∧ (t.bport b).shutdown = false ∧ (t.bport b).released = false ∧ t.mrd = s.mrd) ∧
  (∀ (a : Fin 16) (s : State),
    s.idleCfg a (Fld.DRV_IDLE_CFG_T1 a) ≠ 0 ∧ (s.idle.get a).stage = 0 ∧ (s.mrd.arr.get a).state ≠ .none →
    ∃ t, exec (.driveIdleT1Expiry a) s = .next t ∧
      (t.idle.get a).stage = 1 ∧ t.mrd = s.mrd ∧ t.port = s.port) ∧
  (∀ (a : Fin 16) (s : State),
    s.idleCfg a (Fld.DRV_IDLE_CFG_T2 a) ≠ 0 ∧ (s.idle.get a).stage = (if s.idleCfg a (Fld.DRV_IDLE_CFG_T1 a) = 0
      then 0 else 1) ∧ (s.mrd.arr.get a).state ≠ .none →
    ∃ t, exec (.driveIdleT2Expiry a) s = .next t ∧
      (t.idle.get a).stage = 2 ∧ t.mrd = s.mrd ∧ t.port = s.port) ∧
  (∀ (b : Fin 48) (temp : BitVec 8) (cw : BitVec 8) (life : BitVec 8) (s : State),
    s.drvCfg b Fld.DRV_CFG_MI_EN = 1 ∧ (s.shelf.paddle.get b).gateAux = true ∧ s.owns = true →
    ∃ t, exec (.miPoll b true temp cw life) s = .next t ∧
      t.fld (Fld.DRV_MI_STAT_TEMP b) = temp.toNat ∧ t.fld (Fld.DRV_MI_STAT_CW b) = cw.toNat ∧ t.fld
        (Fld.DRV_MI_STAT_LIFE b) = life.toNat ∧
      t.fld (Fld.DRV_MI_STAT_VALID b) = 1 ∧ (t.bport b).pollFails = 0 ∧ (t.bport b).polledAt = s.now)

/-- DRV_GROUP_SET of a group without a READY or LADDER bay and without a witness, and a write of DRV_GRP_CFG, store the
mode (R273); DRV_CFG_SET stores the idle word of the array it names (R289). Lost presence leaves bay and paddle
EMPTY with INTENT clear (R283, R299). -/
def Obligations.BaySettingsAndRemoval : Prop :=
  (∀ (h : Hdr) (g : Nat) (mode : Nat) (sris : Bool) (s : State),
    s.takes h 0x0703 ((List.range 3).map fun i => (.bay, 3 * g + i)) = true ∧ g < 16 ∧ mode < 3 →
    (∀ i ∈ List.range 3, s.bay (3 * g + i) ≠ Bay.ready ∧ s.bay (3 * g + i) ≠ Bay.ladder) →
    ((List.range (s.fld Fld.AQD_PAIR_CFG_WITNESSES)).any fun i => s.fld (Fld.AQD_WITNESS_BAY i) / 3 == g) = false
      →
    ∃ t, exec (.drvGroupSet h g mode sris) s = .next t ∧
      t.answered h 0x0703 .success [] ∧ t.fld (Fld.DRV_GRP_CFG_MODE g) = mode ∧ t.port = s.port) ∧
  (∀ (g : Fin 16) (mode : Nat) (sris : Bool) (s : State),
    mode < 3 →
    ∃ t, exec (.drvGrpCfgWrite g mode sris) s = .next t ∧
      t.fld (Fld.DRV_GRP_CFG_MODE g) = mode ∧ t.port = s.port ∧ t.mrd = s.mrd) ∧
  (∀ (h : Hdr) (a : Nat) (v : Word32) (s : State),
    s.takes h 0x0704 [(.device, 0)] = true ∧ a < 16 →
    ∃ t, exec (.drvCfgSet h none none [(a, v)]) s = .next t ∧
      t.answered h 0x0704 .success [] ∧ t.reg (Reg.DRV_IDLE_CFG a) = (s.cfgWrite (Reg.DRV_IDLE_CFG a) v).reg
        (Reg.DRV_IDLE_CFG a) ∧
      t.port = s.port ∧ t.drives = s.drives) ∧
  (∀ (b : Fin 48) (s : State),
    s.pad b ≠ Pad.empty →
    ∃ t, exec (.presenceLost b) s = .next t ∧
      t.pad b = Pad.empty ∧ t.bay b = Bay.empty ∧ t.fld (Fld.PDL_STATE_PRESENT b) = 0 ∧ t.fld
        (Fld.PDL_STATE_INTENT b) = 0 ∧
      (t.shelf.paddle.get b).gateMain = false ∧ (t.shelf.paddle.get b).gateAux = false ∧ b.val ∉ t.shelf.queue)

/-- A stable presence makes an empty bay PRESENT (R299). Enable of a PRESENT bay with valid limits queues it with INTENT
set, disable of an ON bay turns it off, cycle queues it again (R293, R300). The oldest queued bay starts its
auxiliary ramp where MAX_RAMP and STAGGER allow (R294); the auxiliary rail's power-good starts the main ramp (R295).
A failed gate check and a stalled ramp damage-fault the bay (R296). A rail at its limit sets LIMIT, runs the fault
timer and drops power-good; leaving the limit stops it (R291, R297). The timer's expiry sends a retrying bay to
RETRY, a short latches a bay without retry (R292, R298); a retry rejoins the queue, 60 s of power-good clear the
fault count. BAY_POWER, PADDLE_CFG and PADDLE_QUERY act on every bay of their set (R310). -/
def Obligations.PaddlesFollowTheBayPowerStates : Prop :=
  (∀ (b : Fin 48) (s : State),
    s.pad b = Pad.empty →
    ∃ t, exec (.presenceStable b) s = .next t ∧
      t.pad b = Pad.present ∧ t.fld (Fld.PDL_STATE_PRESENT b) = 1 ∧ t.fld (Fld.DRV_STATE_STATE b) = 1 ∧ t.shelf
        = s.shelf) ∧
  (∀ (b : Fin 48) (s : State),
    s.pad b = Pad.present ∧ s.limitsValid b = true →
    ∃ t, exec (.pdlCmdEnable b) s = .next t ∧
      t.pad b = Pad.queued ∧ t.fld (Fld.PDL_STATE_INTENT b) = 1 ∧ t.shelf =
        { s.shelf with queue := s.shelf.queue ++ [b.val] }) ∧
  (∀ (b : Fin 48) (s : State),
    s.pad b ≠ Pad.empty ∧ s.pad b ≠ Pad.present →
    ∃ t, exec (.pdlCmdDisable b) s = .next t ∧
      t.pad b = Pad.present ∧ t.fld (Fld.PDL_STATE_INTENT b) = 0 ∧ t.fld (Fld.PDL_STATE_PG b) = 0 ∧
      (t.shelf.paddle.get b).gateMain = false ∧ (t.shelf.paddle.get b).auxOffDue = (s.shelf.paddle.get
        b).gateAux ∧ b.val ∉ t.shelf.queue) ∧
  (∀ (b : Fin 48) (s : State),
    s.pad b = Pad.on →
    ∃ t, exec (.pdlCmdCycle b) s = .next t ∧
      t.pad b = Pad.queued ∧ (t.shelf.paddle.get b).cycleOff = true ∧ (t.shelf.paddle.get b).gateMain = false ∧
        t.fld (Fld.PDL_STATE_PG b) = 0 ∧
      t.fld (Fld.PDL_STATE_INTENT b) = s.fld (Fld.PDL_STATE_INTENT b)) ∧
  (∀ (h : Hdr) (bays : Nat) (s : State),
    s.takes h 0x0710 ((bitSet 48 bays).map fun b => (.bay, b)) = true ∧ bays < 2 ^ 48 ∧ bays ≠ 0 →
    (∀ b ∈ bitSet 48 bays, s.pad b = Pad.present ∧ s.limitsValid b = true) →
    ∃ t, exec (.bayPower h bays .enable) s = .next t ∧
      (∀ b ∈ bitSet 48 bays, t.pad b = Pad.queued) ∧ t.shelf.queue = s.shelf.queue ++ bitSet 48 bays ∧
      t.answered h 0x0710 .success [(bitSet 48 bays).map fun _ => BitVec.ofNat 8 Pad.queued, beBytes 8 0]) ∧
  (∀ (b : Nat) (q : List Nat) (s : State),
    s.shelf.queue = b :: q ∧ s.ramping < s.fld Fld.PDL_GLB_MAX_RAMP ∧ s.isStandby = false →
    s.shelf.ramped = false ∨ s.shelf.lastRamp + s.fld Fld.PDL_GLB_STAGGER * 1000000 ≤ s.now →
    ∃ t, exec (.rampStart) s = .next t ∧
      t.pad b = Pad.rampAux ∧ (t.shelf.paddle.get b).gateAux = true ∧ t.shelf.queue = q ∧ t.shelf.lastRamp =
        s.now ∧
      Out.pin (.gateAux b) true ∈ t.out) ∧
  (∀ (b : Fin 48) (main : Bool) (s : State),
    (if main then (s.shelf.paddle.get b).gateMain else (s.shelf.paddle.get b).gateAux) = true →
    ∃ t, exec (.railFullEnhancement b main) s = .next t ∧
      (if main then (t.shelf.paddle.get b).enhMain else (t.shelf.paddle.get b).enhAux) = true ∧ t.regs = s.regs
        ∧ t.out = s.out) ∧
  (∀ (b : Fin 48) (s : State),
    (s.shelf.paddle.get b).faultTimer = false ∧ (s.shelf.paddle.get b).enhAux = true ∧ s.pad b = Pad.rampAux →
    ∃ t, exec (.railPowerGood b false) s = .next t ∧
      t.pad b = Pad.rampMain ∧ t.fld (Fld.PDL_STATE_PG_AUX b) = 1 ∧ (t.shelf.paddle.get b).gateMain = true ∧
      Out.pin (.gateMain b) true ∈ t.out ∧ t.port = s.port) ∧
  (∀ (b : Fin 48) (s : State),
    s.pad b = Pad.rampMain ∧ (s.shelf.paddle.get b).enhMain = true →
    ∃ t, exec (.gateCheckTimeout b true) s = .next t ∧
      t.pad b = Pad.fetFault ∧ t.fld (Fld.PDL_FAULT_GATE b) = 1 ∧ t.shelf.paddle.get b = default) ∧
  (∀ (b : Fin 48) (s : State),
    s.pad b = Pad.rampMain ∧ (s.shelf.paddle.get b).enhMain = false ∧ (s.shelf.paddle.get b).faultTimer = false →
    ∃ t, exec (.rampStallTimeout b true) s = .next t ∧
      t.pad b = Pad.fetFault ∧ t.fld (Fld.PDL_FAULT_RAMP b) = 1 ∧ t.shelf.paddle.get b = default) ∧
  (∀ (b : Fin 48) (s : State),
    s.powering b = true ∧ (s.shelf.paddle.get b).gateMain = true →
    ∃ t, exec (.currentLimitOnset b true) s = .next t ∧
      t.fld (Fld.PDL_STATE_LIMIT b) = 1 ∧ t.fld (Fld.PDL_STATE_PG b) = 0 ∧ (t.shelf.paddle.get b).faultTimer =
        true ∧ t.pad b = s.pad b) ∧
  (∀ (b : Fin 48) (s : State),
    ∃ t, exec (.currentLimitClear b) s = .next t ∧
      t.fld (Fld.PDL_STATE_LIMIT b) = 0 ∧ (t.shelf.paddle.get b).faultTimer = false ∧ t.pad b = s.pad b ∧ t.out
        = s.out) ∧
  (∀ (b : Fin 48) (s : State),
    s.powering b = true ∧ (s.shelf.paddle.get b).faultTimer = true ∧ s.fld (Fld.PDL_CFG0_RETRY b) ≠ 0 ∧ s.fld
      (Fld.PDL_CFG0_RETRY_MAX b) = 0 →
    ∃ t, exec (.faultTimerExpiry b) s = .next t ∧
      t.pad b = Pad.retry ∧ t.fld (Fld.PDL_FAULT_TIMER b) = 1 ∧ (t.shelf.paddle.get b).gateMain = false ∧
        (t.shelf.paddle.get b).retryTimer = true) ∧
  (∀ (b : Fin 48) (s : State),
    s.powering b = true ∧ (s.shelf.paddle.get b).gateMain = true ∧ s.fld (Fld.PDL_CFG0_RETRY b) = 0 →
    ∃ t, exec (.railShort b true) s = .next t ∧
      t.pad b = Pad.latched ∧ t.fld (Fld.PDL_FAULT_SHORT b) = 1 ∧ t.fld (Fld.PDL_FAULT_LATCH b) = 1 ∧
        t.shelf.paddle.get b = default) ∧
  (∀ (b : Fin 48) (s : State),
    s.pad b = Pad.retry ∧ (s.shelf.paddle.get b).retryTimer = true →
    ∃ t, exec (.paddleRetryExpiry b) s = .next t ∧
      t.pad b = Pad.queued ∧ t.shelf.queue = s.shelf.queue ++ [b.val] ∧ (t.shelf.paddle.get b).retryTimer =
        false ∧ t.out = s.out) ∧
  (∀ (b : Fin 48) (s : State),
    s.flag (Fld.PDL_STATE_PG b) = true ∧ (s.shelf.paddle.get b).pgSince + 60000000000 ≤ s.now →
    ∃ t, exec (.faultCountClear b) s = .next t ∧
      t.fld (Fld.PDL_STATE_FAULTS b) = 0 ∧ t.pad b = s.pad b ∧ t.shelf = s.shelf ∧ t.out = s.out) ∧
  (∀ (b : Fin 48) (s : State),
    (s.shelf.paddle.get b).auxOffDue = true →
    ∃ t, exec (.auxRailOff b) s = .next t ∧
      (t.shelf.paddle.get b).gateAux = false ∧ (t.shelf.paddle.get b).auxOffDue = false ∧ Out.pin (.gateAux b)
        false ∈ t.out ∧ t.regs = s.regs) ∧
  (∀ (b : Fin 48) (s : State),
    s.pad b = Pad.queued ∧ (s.shelf.paddle.get b).cycleOff = true →
    ∃ t, exec (.cycleOffExpiry b) s = .next t ∧
      t.pad b = Pad.queued ∧ t.shelf.queue = s.shelf.queue ++ [b.val] ∧ (t.shelf.paddle.get b).cycleOff = false
        ∧ t.out = s.out) ∧
  (∀ (h : Hdr) (bays : Nat) (v : Word32) (s : State),
    s.takes h 0x0711 ((bitSet 48 bays).map fun b => (.bay, b)) = true ∧ bays < 2 ^ 48 ∧ bays ≠ 0 →
    ∃ t, exec (.paddleCfg h bays (some v) none none) s = .next t ∧
      t.answered h 0x0711 .success [] ∧ t.shelf = s.shelf ∧
      (∀ b ∈ bitSet 48 bays, t.reg (Reg.PDL_CFG0 b) = (s.cfgWrite (Reg.PDL_CFG0 b) v).reg (Reg.PDL_CFG0 b))) ∧
  (∀ (h : Hdr) (bays : Nat) (s : State),
    s.takes h 0x0712 ((bitSet 48 bays).map fun b => (.bay, b)) = true ∧ bays < 2 ^ 48 ∧ bays ≠ 0 →
    ∃ t, exec (.paddleQuery h bays) s = .next t ∧
      (∃ l, t.answered h 0x0712 .success ((bitSet 48 bays).flatMap (fun b => beBytes 4 (s.reg (Reg.PDL_STATE
        b)).toNat) :: (bitSet 48 bays).flatMap (fun b => beBytes 4 (s.reg (Reg.PDL_FAULT b)).toNat) :: l)) ∧
      t.shelf = s.shelf ∧ t.mrd = s.mrd)

/-- A GOOD feed that is due conducts (R304); a reverse trip of a GOOD feed takes it to BLOCKED with its FETs off, and it
conducts again when it unblocks (R305). An enabled feed measured at a voltage takes the state of Table 13-4 (R306).
Health conditions set DEGRADED and OPEN (R307). Enables that leave a live feed are stored (R306). A drill with both
feeds GOOD and one idle starts, from its timer, its bit or its manifest, and a share of at least 20 percent passes
it (R308). FEED_CFG stores a threshold and FEED_QUERY changes nothing of the shelf (R310). -/
def Obligations.FeedsAndDrillsFollowTheWeirRules : Prop :=
  (∀ (f : Fin 2) (s : State),
    s.feed f = Feed.good ∧ (s.shelf.weir.get f).conducting = false →
    ∃ t, exec (.feedForwardTurnOn f) s = .next t ∧
      (t.shelf.weir.get f).conducting = true ∧ t.fld (Fld.WIR_STATE_CARRYING f) = 1 ∧ Out.pin (.weirGate f) true
        ∈ t.out ∧ t.feed f = Feed.good) ∧
  (∀ (f : Fin 2) (s : State),
    (s.shelf.weir.get f).conducting = true ∧ s.feed f = Feed.good →
    ∃ t, exec (.feedReverseTrip f) s = .next t ∧
      t.feed f = Feed.blocked ∧ (t.shelf.weir.get f).conducting = false ∧ t.fld (Fld.WIR_STATE_CARRYING f) = 0) ∧
  (∀ (f : Fin 2) (vin : Nat) (s : State),
    s.flag (Fld.feedEn f) = true →
    ∃ t, exec (.feedStateChange f vin) s = .next t ∧
      t.feed f = s.feedAt (s.feed f) vin ∧ t.fld (Fld.WIR_MEAS_VIN f) = min vin 4095) ∧
  (∀ (f : Fin 2) (vin : Nat) (vs : Nat) (s : State),
    s.feed f = Feed.blocked ∧ s.feedAt Feed.blocked vin = Feed.blocked ∧ vs + 3 < vin →
    ∃ t, exec (.feedUnblock f vin vs) s = .next t ∧
      t.feed f = Feed.good ∧ (t.shelf.weir.get f).conducting = true ∧ t.fld (Fld.WIR_STATE_CARRYING f) = 1) ∧
  (∀ (f : Fin 2) (s : State),
    (s.shelf.weir.get f).conducting = true →
    ∃ t, exec (.feedHealthDegraded f) s = .next t ∧
      t.fld (Fld.WIR_STATE_DEGRADED f) = 1 ∧ t.feed f = s.feed f ∧ t.shelf = s.shelf ∧ t.out = s.out) ∧
  (∀ (f : Fin 2) (s : State),
    s.feed f = Feed.good →
    ∃ t, exec (.feedHealthOpen f) s = .next t ∧
      t.fld (Fld.WIR_STATE_OPEN f) = 1 ∧ t.feed f = s.feed f ∧ t.shelf = s.shelf ∧ t.out = s.out) ∧
  (∀ (enA : Bool) (enB : Bool) (n : Nat) (s : State),
    (s.wirCtl enA enB n).isSome = true →
    ∃ t, exec (.wirCtlWrite enA enB n) s = .next t ∧
      t.fld Fld.WIR_CTL_EN_A = enA.toNat ∧ t.fld Fld.WIR_CTL_EN_B = enB.toNat ∧
      (enA = false → t.feed 0 = Feed.disabled) ∧ (enB = false → t.feed 1 = Feed.disabled)) ∧
  (∀ (s : State),
    s.fld Fld.WIR_CTL_DRILL_H ≠ 0 ∧ s.flag Fld.WIR_SHELF_DRILL_RUN = false ∧ s.drillMay = true →
    ∃ t, exec (.feedDrillTimer) s = .next t ∧
      t.fld Fld.WIR_SHELF_DRILL_RUN = 1 ∧ t.shelf = s.shelf ∧ t.feed 0 = s.feed 0 ∧ t.feed 1 = s.feed 1 ∧
      t.fld Fld.WIR_DRILL_FEED = (if (s.shelf.weir.get 0).conducting then 1 else 0)) ∧
  (∀ (s : State),
    s.flag Fld.WIR_SHELF_DRILL_RUN = false ∧ s.drillMay = true →
    ∃ t, exec (.wirDrillNow) s = .next t ∧
      t.fld Fld.WIR_SHELF_DRILL_RUN = 1 ∧ t.shelf = s.shelf ∧ t.fld Fld.WIR_DRILL_FEED = (if (s.shelf.weir.get
        0).conducting then 1 else 0)) ∧
  (∀ (h : Hdr) (s : State),
    s.takes h 0x0722 [(.feed, 0), (.feed, 1)] = true ∧ s.flag Fld.WIR_SHELF_DRILL_RUN = false ∧ s.drillMay = true
      →
    ∃ t, exec (.feedDrill h) s = .next t ∧
      t.executing h 0x0722 ∧ t.fld Fld.WIR_SHELF_DRILL_RUN = 1 ∧ t.shelf = s.shelf) ∧
  (∀ (share : Nat) (s : State),
    s.flag Fld.WIR_SHELF_DRILL_RUN = true ∧ 20 ≤ share →
    ∃ t, exec (.drillEnd share) s = .next t ∧
      t.fld Fld.WIR_SHELF_DRILL_RUN = 0 ∧ t.fld Fld.WIR_DRILL_RESULT = 1 ∧ t.shelf.lastDrill = some s.now ∧
        t.shelf.weir = s.shelf.weir) ∧
  (∀ (h : Hdr) (v : Nat) (s : State),
    s.takes h 0x0720 [(.feed, 0), (.feed, 1)] = true →
    ∃ t, exec (.feedCfg h none none none (some v) none none none) s = .next t ∧
      t.answered h 0x0720 .success [] ∧ t.fld Fld.WIR_CFG_UV = (s.cfgFld Fld.WIR_CFG_UV v).fld Fld.WIR_CFG_UV ∧
        t.shelf = s.shelf ∧
      t.fld Fld.WIR_CFG_OV = s.fld Fld.WIR_CFG_OV) ∧
  (∀ (h : Hdr) (s : State),
    s.takes h 0x0721 [(.feed, 0), (.feed, 1)] = true →
    ∃ t, exec (.feedQuery h) s = .next t ∧
      (∃ l, t.answered h 0x0721 .success ((beBytes 4 (s.reg (Reg.WIR_STATE 0)).toNat ++ beBytes 4 (s.reg
        (Reg.WIR_STATE 1)).toNat) :: l)) ∧
      t.shelf = s.shelf ∧ t.feed 0 = s.feed 0 ∧ t.feed 1 = s.feed 1)

/-- The heartbeat timer sends a HEARTBEAT with the next HSEQ (R316); a frame whose CRC, PAIR_ID or DEVICE does not match
is counted and discarded; an accepted HEARTBEAT shows its path and the partner's role, epoch and checkpoint; an
active that misses heartbeats declares its partner lost, and a lost path is reported (R317). A standby applies
prompt entries and acknowledges them; the active sends unacknowledged ones again and releases what an
acknowledgement covers (R318). BATCH_MS opens a window, whose WINDOW_REQ the standby answers with WINDOW_READY, on
which the entries that it lacks leave, key slots wrapped; the standby applies and acknowledges them, and the
window's end powers its receive path off (R319). The standby's health check is recorded and reported on request,
which answers PARTNER_HEALTH's manifest (R334). A lane that comes up or goes down shows in AQD_LINK_STAT (R315). -/
def Obligations.HeartbeatsAndCheckpointsBetweenPartners : Prop :=
  (∀ (s : State),
    s.rst.phase ≠ .t1 →
    ∃ t, exec (.heartbeatTimer) s = .next t ∧
      t.pair.hseq = (s.pair.hseq + 1) % 2 ^ 32 ∧ (false, t.beat) ∈ t.peerOut ∧
      t.regs = s.regs ∧ t.mrd = s.mrd ∧ t.out = s.out) ∧
  (∀ (f : PeerHdr) (b : Beat) (s : State),
    f.aqd = false ∧ s.frameOk f = true ∧ s.isActive = true ∧ s.fld Fld.AQD_PARTNER_STATE = 1 ∧ s.pair.lowering =
      false →
    ∃ t, exec (.heartbeatReceive f b) s = .next t ∧
      t.pair.pRole = b.role ∧ t.pair.pEpoch = b.epoch ∧ t.pair.pCkpt = b.ckptSeq ∧ t.fld Fld.AQD_PARTNER_HB_SB =
        1 ∧
      t.fld Fld.AQD_PARTNER_HEALTH = b.health % 4 ∧ t.mrd = s.mrd ∧ t.out = s.out) ∧
  (∀ (f : PeerHdr) (b : Beat) (s : State),
    f.aqd = false ∧ s.frameOk f = false →
    ∃ t, exec (.heartbeatReceive f b) s = .next t ∧
      t = s.count Fld.AQD_LINK_STAT_BAD_FRAMES 1) ∧
  (∀ (s : State),
    s.isActive = true ∧ s.partnerLost = false →
    ∃ t, exec (.partnerLost) s = .next t ∧
      t.fld Fld.AQD_PARTNER_STATE = 2 ∧ t.fld Fld.AQD_PARTNER_HB_SB = 0 ∧ t.fld Fld.AQD_PARTNER_HB_AQD = 0 ∧
      t.pair.window = none ∧ t.pair.resync = none ∧ t.pair.healthFor = none ∧ t.pair.relayFor = none) ∧
  (∀ (aqd : Bool) (s : State),
    ∃ t, exec (.heartbeatPathLost aqd) s = .next t ∧
      t.fld (if aqd then Fld.AQD_PARTNER_HB_AQD else Fld.AQD_PARTNER_HB_SB) = 0 ∧ t.pair = s.pair ∧ t.out =
        s.out) ∧
  (∀ (f : PeerHdr) (seq : Nat) (i : Nat) (a : Arr) (s : State),
    f.aqd = false ∧ s.frameOk f = true ∧ s.isStandby = true ∧ seq < 2 ^ 64 →
    ∃ t, exec (.promptReceive f [⟨seq, .arr i a, true⟩]) s = .next t ∧
      t.mrd.arr.get i = a ∧ t.ckpt = max s.ckpt seq ∧ (false, .promptAck t.ckpt) ∈ t.peerOut ∧ t.drives =
        s.drives) ∧
  (∀ (e : JEntry) (l : List JEntry) (s : State),
    s.isActive = true ∧ s.partnerAlive = true ∧ s.pair.prompts = e :: l →
    ∃ t, exec (.promptResendExpiry) s = .next t ∧
      (false, .prompt e.seq ((e :: l).take 16 |>.map fun x => x.change)) ∈ t.peerOut ∧ t.pair = s.pair ∧ t.mrd =
        s.mrd) ∧
  (∀ (f : PeerHdr) (seq : Nat) (s : State),
    f.aqd = false ∧ s.frameOk f = true ∧ s.isActive = true →
    ∃ t, exec (.promptAckReceive f seq) s = .next t ∧
      t.pair.prompts = (s.pair.prompts.filter fun e => decide (seq < e.seq)) ∧ t.pair.ackHi = max s.pair.ackHi
        seq ∧
      t.out = s.out ++ (s.pair.held.filter fun e => decide (e.1 ≤ seq)).map (fun e => e.2) ∧ t.mrd = s.mrd) ∧
  (∀ (s : State),
    s.isActive = true ∧ s.partnerAlive = true ∧ s.pair.window = none →
    (s.pair.kept.any fun e => decide (s.pair.ckptAcked < e.seq) && !e.change.prompts) = true →
    ∃ t, exec (.checkpointBatchExpiry) s = .next t ∧
      t.pair.window = some ⟨0, s.pair.ckptAcked + 1, s.store.seq, false⟩ ∧
      (false, .windowReq (s.pair.ckptAcked + 1) s.store.seq 0) ∈ t.peerOut ∧ t.mrd = s.mrd) ∧
  (∀ (f : PeerHdr) (first : Nat) (last : Nat) (k : Nat) (s : State),
    f.aqd = false ∧ s.frameOk f = true ∧ s.isStandby = true →
    ∃ t, exec (.windowReqReceive f first last k) s = .next t ∧
      t.pair.rxOpen = true ∧ (false, .windowReady s.ckpt) ∈ t.peerOut ∧ t.mrd = s.mrd ∧
      (k = 1 → t.fld Fld.AQD_PARTNER_SYNC = 2 ∧ t.pair.resync = some (0, 0))) ∧
  (∀ (f : PeerHdr) (held : Nat) (w : CkptWindow) (s : State),
    f.aqd = false ∧ s.frameOk f = true ∧ s.isActive = true ∧ s.pair.window = some w ∧ w.kind = 0 →
    ∃ t, exec (.windowReadyReceive f held) s = .next t ∧
      (true, .ckptEntries (min held s.pair.ckptAcked + 1) ((s.windowEntries (min held s.pair.ckptAcked)).map
        s.wrapEntry)) ∈ t.peerOut ∧
      t.pair.window = some
        { w with ready := true, last := ((s.windowEntries (min held s.pair.ckptAcked)).map s.wrapEntry).foldl (fun m e => max m e.seq) held }
        ∧
      t.regs = s.regs ∧ t.mrd = s.mrd) ∧
  (∀ (f : PeerHdr) (seq : Nat) (i : Nat) (a : Arr) (s : State),
    s.frameOk f = true ∧ s.isStandby = true ∧ s.pair.rxOpen = true ∧ seq < 2 ^ 64 →
    ∃ t, exec (.ckptReceive f [⟨seq, .arr i a, true⟩] none) s = .next t ∧
      t.mrd.arr.get i = a ∧ t.ckpt = max s.ckpt seq ∧ (false, .ckptAck t.ckpt 0) ∈ t.peerOut) ∧
  (∀ (f : PeerHdr) (seq : Nat) (off : Nat) (w : CkptWindow) (s : State),
    f.aqd = false ∧ s.frameOk f = true ∧ s.isActive = true ∧ s.pair.window = some w ∧ w.kind = 0 ∧ w.ready = true
      ∧ s.pair.resync = none →
    ∃ t, exec (.ckptAckReceive f seq off) s = .next t ∧
      t.pair.ckptAcked = max s.pair.ckptAcked (min seq w.last) ∧ t.pair.held = (s.pair.held.filter fun e =>
        decide (min seq w.last < e.1)) ∧
      t.mrd = s.mrd ∧ t.drives = s.drives) ∧
  (∀ (s : State),
    s.pair.rxOpen = true →
    ∃ t, exec (.windowCloseExpiry) s = .next t ∧
      t.pair.rxOpen = false ∧ t.pair.resync = none ∧ t.regs = s.regs ∧ t.mrd = s.mrd) ∧
  (∀ (failed : BitVec 6) (ppm : Nat) (s : State),
    s.isStandby = true ∧ s.pair.rxOpen = false ∧ s.pwr.mgmtWindow = false ∧ s.pair.tko = none →
    ∃ t, exec (.standbyHealthCheck failed ppm) s = .next t ∧
      t.pair.check = (if failed = 0 then 1 else 2, failed.toNat, ppm, s.now) ∧ t.regs = s.regs ∧ t.mrd = s.mrd) ∧
  (∀ (f : PeerHdr) (s : State),
    f.aqd = false ∧ s.frameOk f = true ∧ s.isStandby = true →
    ∃ t, exec (.healthReqReceive f) s = .next t ∧
      (false, .healthRpt s.pair.check.1 s.pair.check.2.1 s.pair.check.2.2.1 (if s.pair.check.1 = 0 then 0 else
        (s.now - s.pair.check.2.2.2) / 1000000000)) ∈ t.peerOut ∧
      t.regs = s.regs ∧ t.pair = s.pair ∧ t.mrd = s.mrd) ∧
  (∀ (f : PeerHdr) (r : Nat) (n : Nat) (ppm : Nat) (age : Nat) (x : Running) (s : State),
    f.aqd = false ∧ s.frameOk f = true ∧ s.isActive = true ∧ s.pair.healthFor.isSome = true →
    (s.findRunning fun y => y.opcode == 0x0805 && decide ((ObjKind.device, 0) ∈ y.objs)) = some x →
    s.mft.mboxDrop.contains (x.hdr.session, x.hdr.seq) = false →
    ∃ t, exec (.healthRptReceive f r n ppm age) s = .next t ∧
      t.pair.healthFor = none ∧ t.answered x.hdr 0x0805 .success [beBytes 1 r, beBytes 1 n, beBytes 2 ppm,
        beBytes 8 age]) ∧
  (∀ (h : Hdr) (s : State),
    s.takes h 0x0805 [(.device, 0)] = true ∧ s.partnerAlive = true →
    ∃ t, exec (.partnerHealth h) s = .next t ∧
      t.executing h 0x0805 ∧ t.pair.healthFor = some h ∧ (false, .healthReq) ∈ t.peerOut ∧ t.mrd = s.mrd) ∧
  (∀ (lane : Fin 2) (s : State),
    s.isSolo = false ∧ s.rst.portsUp = true ∧ s.rst.phase ≠ .standby →
    ∃ t, exec (.aqueductLaneUp lane) s = .next t ∧
      t.flag (if lane = 0 then Fld.AQD_LINK_STAT_UP0 else Fld.AQD_LINK_STAT_UP1) = true ∧ t.pair = s.pair ∧
        t.out = s.out) ∧
  (∀ (lane : Fin 2) (s : State),
    ∃ t, exec (.aqueductLaneDown lane) s = .next t ∧
      t.flag (if lane = 0 then Fld.AQD_LINK_STAT_UP0 else Fld.AQD_LINK_STAT_UP1) = false ∧ t.pair = s.pair ∧
        t.out = s.out)

/-- A holder's renewal raises RSEQ and issues one operation on every witness (R323); an operation that wins is recorded,
and one not complete within its time has failed (R322). An active that fences itself, for its timer once 300 ms have
passed since T_ok, is STANDBY and FENCED for the cause named (R324); the end of a planned drain releases every
record (R329). A standby that may claim, has waited and has seen no newer renewal begins a claim round on the
witnesses (R327); the first of two bollard reads is remembered and a recheck begins the bollard check anew (Table
14-6). PREPARE powers the standby, YIELD lets it claim without a wait (R329), and a standby that heard an ACTIVE
partner in its listen stays STANDBY in P4. TAKEOVER on the active starts the drain and sends PREPARE (R329). -/
def Obligations.LeaseRoundsClaimsAndTakeovers : Prop :=
  (∀ (s : State),
    s.isActive = true ∧ s.flag Fld.AQD_LEASE_STAT_HOLDER = true →
    ∃ t, exec (.renewalRoundStart) s = .next t ∧
      t.pair.rseq = s.pair.rseq + 1 ∧ t.pair.round.map (fun r => (r.kind, r.pending, r.won)) = some (.renew,
        s.witnesses, []) ∧
      (∀ w ∈ s.witnesses, Out.lease w 1 s.epoch (s.pair.rseq + 1) s.reqSeq ∈ t.out) ∧ t.regs = s.regs ∧ t.mrd =
        s.mrd) ∧
  (∀ (w : Fin 7) (r : Round) (s : State),
    s.pair.round = some r ∧ r.kind = .renew ∧ r.pending.contains w.val = true →
    ∃ t, exec (.leaseOperationComplete w 0) s = .next t ∧
      t.fld (Fld.AQD_WITNESS_STATE w) = 1 ∧ t.pair.records.get w = r.record ∧ t.mrd = s.mrd ∧ t.out = s.out) ∧
  (∀ (w : Fin 7) (r : Round) (s : State),
    s.pair.round = some r ∧ r.kind = .renew ∧ r.pending.contains w.val = true →
    ∃ t, exec (.leaseOperationTimeout w) s = .next t ∧
      t.fld (Fld.AQD_WITNESS_STATE w) = 3 ∧ t.pair.records = s.pair.records ∧ t.mrd = s.mrd ∧ t.out = s.out) ∧
  (∀ (c : Fin 3) (s : State),
    s.isActive = true ∧ (c ≠ 0 ∨ s.pair.tOk + 300000000 ≤ s.now) →
    ∃ t, exec (.selfFence c) s = .next t ∧
      t.role = 2 ∧ t.fld Fld.AQD_ROLE_FENCED = 1 ∧ t.fld Fld.AQD_ROLE_FENCE_CAUSE = c + 1 ∧ t.brg = default) ∧
  (∀ (s : State),
    s.isActive = true ∧ s.pair.draining = true ∧ s.witnesses ≠ [] →
    ∃ t, exec (.plannedDrainExpiry) s = .next t ∧
      t.pair.round.map (fun r => r.kind) = some .yield ∧ t.role = 2 ∧
      (∀ w ∈ s.witnesses, Out.lease w 2 s.epoch s.pair.rseq s.reqSeq ∈ t.out)) ∧
  (∀ (reads : List (Nat × LeaseRead)) (s : State),
    (s.pair.claim = .waiting ∨ s.pair.claim = .checking) ∧ s.leaseWaited = true ∧ s.mayClaim = true ∧ s.witnesses
      ≠ [] →
    (s.readRecords reads).2 = false ∧ (s.readRecords reads).1.pair.reqSeen ≤ (s.readRecords reads).1.ckpt →
    ∃ t, exec (.leaseWaitExpiry reads) s = .next t ∧
      t.pair.claim = .round ∧ t.pair.round.map (fun r => (r.kind, r.pending, r.record.state)) = some (.claim,
        s.witnesses, .held)) ∧
  (∀ (reads : List (Nat × LeaseRead)) (s : State),
    s.pair.claim = .backoff ∧ s.pair.round = none ∧ s.leaseWaited = true ∧ s.mayClaim = true ∧ s.witnesses ≠ [] →
    (s.readRecords reads).2 = false ∧ (s.readRecords reads).1.pair.reqSeen ≤ (s.readRecords reads).1.ckpt →
    ∃ t, exec (.claimBackoffExpiry reads) s = .next t ∧
      t.pair.claim = .round ∧ t.pair.round.map (fun r => (r.kind, r.pending, r.record.state)) = some (.claim,
        s.witnesses, .held)) ∧
  (∀ (s : State),
    s.isStandby = true ∧ s.pair.claim = .recheck ∧ s.partnerLost = true →
    ∃ t, exec (.bollardRecheckExpiry) s = .next t ∧
      t.pair.claim = .checking ∧ t.pair.tko.isSome = true ∧ t.pair.firstRead = none ∧ t.drives = s.drives ∧
      (s.rst.phase = .standby → t.rst.phase = .t5)) ∧
  (∀ (reads : List (Nat × LeaseRead)) (s : State),
    s.pair.claim = .checking ∧ s.mayClaim = true ∧ s.pair.firstRead = none →
    ∃ t, exec (.bollardCheckRead reads) s = .next t ∧
      t.pair.claim = .checking ∧ t.pair.firstRead = some (t.pair.obsEpoch, t.pair.obsRseq) ∧ t.mrd = s.mrd ∧
        t.out = s.out) ∧
  (∀ (s : State),
    s.pair.listening = true ∧ s.rst.phase = .t4 ∧ s.heldOff = false ∧ s.pair.heardSince = true ∧ s.pair.pRole = 1
      →
    ∃ t, exec (.pairListenExpiry) s = .next t ∧
      t.pair.listening = false ∧ t.rst.phase = .standby ∧ t.role = 2 ∧ t.cur = 4 ∧ t.out = s.out) ∧
  (∀ (f : PeerHdr) (epoch : Nat) (req : Nat) (s : State),
    f.aqd = false ∧ s.frameOk f = true ∧ s.isStandby = true ∧ s.rst.phase = .standby ∧ s.pair.claim = .none →
    ∃ t, exec (.yieldReceive f epoch req) s = .next t ∧
      t.pair.noWait = true ∧ t.pair.claim = .waiting ∧ t.rst.phase = .t5 ∧ t.pair.tko.isSome = true) ∧
  (∀ (f : PeerHdr) (s : State),
    f.aqd = false ∧ s.frameOk f = true ∧ s.isStandby = true ∧ s.rst.phase = .standby →
    ∃ t, exec (.prepareReceive f 1) s = .next t ∧
      t.pair.prepared = true ∧ t.rst.phase = .t5 ∧ t.mrd.arr = s.mrd.arr ∧ t.drives = s.drives) ∧
  (∀ (h : Hdr) (force : Bool) (s : State),
    s.takes h 0x0804 [(.device, 0)] = true ∧ s.isActive = true ∧ s.pair.draining = false →
    ∃ t, exec (.takeover h force) s = .next t ∧
      t.pair.draining = true ∧ t.answered h 0x0804 .success [] ∧ (false, .prepare 1) ∈ t.peerOut ∧ t.mrd = s.mrd)

/-- PAIR_SET leaves the pair's identity, enable and partner as given and PAIR_QUERY answers the registers of Table 14-8.
WITNESS_SET on three, five or seven fit bays of mode-1 groups names them in order and writes a record to each
(R321). CKPT_RESYNC on an active whose partner is heard starts a full resync (R320). PARTNER_RELAY of an inner
manifest waits for its receipt, whose parts are laid out until all of it is there and answered then (R336). A
lockkeeper checkpoint is recorded; a core failure and LKP_SWITCH let the spare take over (R332); a drill powers the
spare, ends with its result, and is answered (R333). -/
def Obligations.PairManifestsAndLockkeeperDrillsTakeEffect : Prop :=
  (∀ (h : Hdr) (en : Bool) (pid : Nat) (partner : Nat) (prefer : Bool) (s : State),
    s.takes h 0x0801 [(.device, 0)] = true ∧ s.pair.tko = none ∧ s.pair.draining = false →
    ∃ t, exec (.pairSet h en pid partner prefer) s = .next t ∧
      t.pairId = pid % 2 ^ 64 ∧ t.flag Fld.AQD_PAIR_CFG_PAIR_EN = en ∧ t.flag Fld.AQD_PAIR_CFG_PREFER = prefer ∧
      t.mrd.partner = partner ∧ t.answered h 0x0801 .success [] ∧ t.mrd.arr = s.mrd.arr) ∧
  (∀ (h : Hdr) (s : State),
    s.takes h 0x0802 [(.device, 0)] = true →
    ∃ t, exec (.pairQuery h) s = .next t ∧
      t.answered h 0x0802 .success [beBytes 4 (s.reg Reg.AQD_ROLE).toNat, beBytes 4 (s.reg
        Reg.AQD_PARTNER).toNat, beBytes 4 (s.reg Reg.AQD_LEASE_STAT).toNat, ((List.range 7).flatMap fun i =>
        beBytes 4 (s.reg (Reg.AQD_WITNESS i)).toNat), beBytes 4 (s.reg Reg.AQD_TKO_STAT).toNat] ∧
      t.mrd = s.mrd) ∧
  (∀ (h : Hdr) (bays : List Nat) (s : State),
    s.takes h 0x0803 (bays.map fun b => (.bay, b)) = true ∧ s.isStandby = false →
    (bays.length = 3 ∨ bays.length = 5 ∨ bays.length = 7) ∧ bays.Nodup ∧ (bays.all fun b => decide (b < 48) &&
      s.fld (Fld.DRV_GRP_CFG_MODE (b / 3)) == 1 && s.witnessOk b) = true →
    ∃ t, exec (.witnessSet h bays) s = .next t ∧
      t.answered h 0x0803 .success [] ∧ t.fld Fld.AQD_PAIR_CFG_WITNESSES = bays.length ∧ t.mrd = s.mrd ∧
      (∀ b ∈ bays, (t.drives.get b).medium.lease = some (s.leaseOf (if s.isActive then .held else .free) s.epoch
        s.pair.rseq s.reqSeq)) ∧
      (∀ i ∈ List.range 7, t.fld (Fld.AQD_WITNESS_BAY i) = bays.getD i 0x3F)) ∧
  (∀ (h : Hdr) (s : State),
    s.takes h 0x0806 [(.device, 0)] = true ∧ s.isActive = true ∧ s.partnerAlive = true →
    ∃ t, exec (.ckptResync h) s = .next t ∧
      t.answered h 0x0806 .success [] ∧ t.fld Fld.AQD_PARTNER_SYNC = 2 ∧ t.pair.resync.isSome = true ∧ t.mrd =
        s.mrd) ∧
  (∀ (h : Hdr) (inner : List Byte) (s : State),
    s.takes h 0x0807 [(.device, 0)] = true ∧ s.isActive = true ∧ s.partnerAlive = true →
    inner ≠ [] ∧ inner.length ≤ 65512 ∧ chanRefuses h.chan (beVal ((inner.drop 4).take 2)) = false →
    ∃ t, exec (.partnerRelay h inner) s = .next t ∧
      t.executing h 0x0807 ∧ t.pair.relayFor = some (h, inner) ∧ t.pair.window.isSome = true ∧ t.mrd = s.mrd) ∧
  (∀ (f : PeerHdr) (total : Nat) (off : Nat) (bytes : List Byte) (s : State),
    f.aqd = false ∧ s.frameOk f = true ∧ s.pair.relayFor.isSome = true ∧ max s.pair.relayTotal (off +
      bytes.length) < total →
    ∃ t, exec (.relayRcptReceive f total off bytes) s = .next t ∧
      t.pair.relayGot = layBytes s.pair.relayGot off bytes ∧ t.pair.relayTotal = max s.pair.relayTotal (off +
        bytes.length) ∧
      t.out = s.out ∧ t.mrd = s.mrd) ∧
  (∀ (f : PeerHdr) (total : Nat) (off : Nat) (bytes : List Byte) (x : Running) (s : State),
    f.aqd = false ∧ s.frameOk f = true ∧ s.pair.relayFor.isSome = true ∧ total ≤ max s.pair.relayTotal (off +
      bytes.length) →
    (s.findRunning fun r => r.opcode == 0x0807 && decide ((ObjKind.device, 0) ∈ r.objs)) = some x →
    s.mft.mboxDrop.contains (x.hdr.session, x.hdr.seq) = false →
    ∃ t, exec (.relayRcptReceive f total off bytes) s = .next t ∧
      t.answered x.hdr 0x0807 .success [(List.range total).map fun i => (layBytes s.pair.relayGot off bytes).get
        i] ∧
      t.pair.relayFor = none ∧ t.pair.relayTotal = 0) ∧
  (∀ (s : State),
    s.rst.phase = .serving ∧ s.cur ≤ 2 →
    ∃ t, exec (.lkpCheckpoint) s = .next t ∧
      t.pair.lkCkpt = s.now ∧ t.regs = s.regs ∧ t.out = s.out ∧ t.mrd = s.mrd) ∧
  (∀ (s : State),
    s.rst.phase = .serving ∧ s.cur ≤ 2 ∧ s.fld Fld.LKP_CORE_STAT_SPARE ≠ 2 ∧ (s.host.assoc.keysWhere fun _ a =>
      a.live && a.slot.isSome) = [] →
    ∃ t, exec (.lkpCoreSwitch) s = .next t ∧
      t.fld Fld.LKP_CORE_STAT_ACTIVE = 1 - s.fld Fld.LKP_CORE_STAT_ACTIVE ∧ t.fld Fld.LKP_CORE_STAT_SPARE = 2 ∧
      t.pair.drill = none ∧ t.pair.lkDown = false ∧ t.drives = s.drives) ∧
  (∀ (s : State),
    s.rst.phase = .serving ∧ s.cur ≤ 2 ∧ s.fld Fld.LKP_CORE_STAT_SPARE = 2 →
    ∃ t, exec (.lkpCoreSwitch) s = .next t ∧
      t.pair.lkDown = true ∧ t.regs = s.regs ∧ t.out = s.out) ∧
  (∀ (s : State),
    s.rst.phase = .serving ∧ s.pair.drill = none ∧ s.drillSkips = false →
    ∃ t, exec (.lkpDrillTimer) s = .next t ∧
      t.fld Fld.LKP_CORE_STAT_SPARE = 1 ∧ t.pair.drill = some ⟨none, s.now⟩ ∧ t.out = s.out ∧ t.mrd = s.mrd) ∧
  (∀ (s : State),
    s.rst.phase = .serving ∧ s.pair.drill = none ∧ s.drillSkips = false →
    ∃ t, exec (.lkpDrillNow) s = .next t ∧
      t.fld Fld.LKP_CORE_STAT_SPARE = 1 ∧ t.pair.drill = some ⟨none, s.now⟩ ∧ t.out = s.out ∧ t.mrd = s.mrd) ∧
  (∀ (h : Hdr) (s : State),
    s.takes h 0x0A30 [(.device, 0)] = true ∧ s.pair.drill = none ∧ s.drillSkips = false →
    ∃ t, exec (.lkpDrill h) s = .next t ∧
      t.executing h 0x0A30 ∧ t.fld Fld.LKP_CORE_STAT_SPARE = 1 ∧ t.pair.drill = some ⟨some h, s.now⟩ ∧ t.out =
        s.out) ∧
  (∀ (pass : Bool) (ms : Nat) (s : State),
    s.pair.drill.isSome = true →
    ∃ t, exec (.lkpDrillComplete pass ms) s = .next t ∧
      t.fld Fld.LKP_DRILL_STAT_RESULT = (if pass then 1 else 2) ∧ t.fld Fld.LKP_DRILL_STAT_DUR_MS = min 4095 ms
        ∧
      t.fld Fld.LKP_CORE_STAT_SPARE = 0 ∧ t.pair.drill = none ∧ t.pair.lastDrill = some s.now ∧ t.mrd = s.mrd) ∧
  (∀ (h : Hdr) (s : State),
    s.takes h 0x0A31 [(.device, 0)] = true ∧ s.fld Fld.LKP_CORE_STAT_SPARE = 0 ∧ (s.host.assoc.keysWhere fun _ a
      => a.live && a.slot.isSome) = [] →
    ∃ t, exec (.lkpSwitch h) s = .next t ∧
      t.answered h 0x0A31 .success [] ∧ t.fld Fld.LKP_CORE_STAT_SPARE = 2 ∧
      t.fld Fld.LKP_CORE_STAT_ACTIVE = 1 - s.fld Fld.LKP_CORE_STAT_ACTIVE ∧ t.drives = s.drives)

/-- A request for a state from 2 to 4 deeper than the current one, by POWER_STATE_SET or by a write of TWP_PWR_REQ,
starts its entry; one for P0 starts the exit (R342, R350). With no refuser left the quiesce step ends; one that
remains at the expiry is counted and named, and the device stays where it was (R343, R344). A commit cannot be
aborted and takes the contents of P3's and P4's domains; the entry's end is the state itself (R343, R351). A wake
source that the last entry found enabled for the state starts the exit and is noted, the wake timer as its own row
(R350, R352); the exit ends, where no request waits for it, in P0 with no transition (R350). The idle policy counts
quiet intervals below the P1 rate, and the tenth of them enters P1 where nothing refuses (R342). In P1 basins beyond
the load begin to park, an engine that has run down is PARKED with its bank in retention, and an idle tug group is
gated (R339). The management window opens on a standby in P4 and ends when closed or when PE_PERST_N is asserted
(R336). -/
def Obligations.PowerStateRequestsEntriesAndExits : Prop :=
  (∀ (h : Hdr) (target : Nat) (s : State),
    s.takes h 0x0701 [(.device, 0)] = true ∧ s.isStandby = false ∧ s.pwr.stage = .none ∧ s.pwr.waiting = [] →
    2 ≤ target ∧ target ≤ 4 ∧ s.cur < target →
    ∃ t, exec (.powerStateSet h target) s = .next t ∧
      t.pwr.stage = .freeze ∧ t.pwr.origin = some (.manifest h) ∧ t.fld Fld.TWP_PWR_STATE_TARGET = target ∧
      t.fld Fld.TWP_PWR_STATE_BUSY = 1 ∧ t.cur = s.cur ∧ t.mrd = s.mrd) ∧
  (∀ (target : Nat) (s : State),
    s.isStandby = false ∧ s.pwr.stage = .none ∧ s.pwr.waiting = [] ∧ 2 ≤ target ∧ target ≤ 4 ∧ s.cur < target →
    ∃ t, exec (.twpPwrReqGo target) s = .next t ∧
      t.pwr.stage = .freeze ∧ t.pwr.origin = some .register ∧ t.fld Fld.TWP_PWR_STATE_TARGET = target ∧
      t.fld Fld.TWP_PWR_STATE_BUSY = 1 ∧ t.cur = s.cur ∧ t.mrd = s.mrd) ∧
  (∀ (s : State),
    s.isStandby = false ∧ s.pwr.stage = .none ∧ s.pwr.waiting = [] ∧ s.cur ≠ 0 →
    ∃ t, exec (.twpPwrReqGo 0) s = .next t ∧
      t.pwr.stage = .exiting ∧ t.pwr.exitStart = s.now ∧ t.fld Fld.TWP_PWR_STATE_BUSY = 1 ∧ t.fld
        Fld.TWP_PWR_STATE_TARGET = 0) ∧
  (∀ (s : State),
    s.pwr.stage = .freeze ∧ s.refuser (s.fld Fld.TWP_PWR_STATE_TARGET) = none →
    ∃ t, exec (.quiesceClear) s = .next t ∧
      t.pwr.stage = .shutdown ∧ t.mrd = s.mrd ∧ t.cur = s.cur) ∧
  (∀ (o : PwrOrigin) (r : Nat × List Byte) (s : State),
    s.pwr.stage = .freeze ∧ s.pwr.origin = some o ∧ o ≠ .role ∧ s.pwr.waiting = [] →
    s.refuser (s.fld Fld.TWP_PWR_STATE_TARGET) = some r →
    ∃ t, exec (.quiesceExpiry) s = .next t ∧
      t.pwr.stage = .none ∧ t.cur = s.cur ∧ t.fld Fld.TWP_PWR_STATE_BUSY = 0 ∧
      t.fld Fld.TWP_REFUSE_NAME_LO_NAME = leVal (r.2.take 4) ∧ t.fld Fld.TWP_REFUSE_CNT_COUNT = min (s.fld
        Fld.TWP_REFUSE_CNT_COUNT + 1) (2 ^ Fld.TWP_REFUSE_CNT_COUNT.w - 1)) ∧
  (∀ (s : State),
    s.pwr.stage = .shutdown →
    ∃ t, exec (.powerEntryCommit) s = .next t ∧
      t.pwr.stage = .committed ∧ t.pwr.origin = none ∧
      (3 ≤ s.fld Fld.TWP_PWR_STATE_TARGET → t.res = [] ∧ t.cnl = default ∧ t.whf = default ∧ t.brg.berth = [])) ∧
  (∀ (s : State),
    s.pwr.stage = .committed ∧ s.pwr.heldWake = none ∧ s.pwr.waiting = [] →
    ∃ t, exec (.powerEntryComplete) s = .next t ∧
      t.cur = s.fld Fld.TWP_PWR_STATE_TARGET ∧ t.fld Fld.TWP_PWR_STATE_BUSY = 0 ∧ t.pwr.stage = .none ∧
      (s.fld Fld.TWP_PWR_STATE_TARGET = 4 ∧ s.isStandby = true → t.rst.phase = .standby) ∧ t.mrd = s.mrd ∧ t.out
        = s.out) ∧
  (∀ (row : Nat) (i : Nat) (s : State),
    s.isStandby = false ∧ s.pwr.stage = .none ∧ s.wakesFrom s.cur row i = true →
    ∃ t, exec (.wakeEvent row i) s = .next t ∧
      t.fld Fld.TWP_WAKE_STAT_SRC = 2 ^ row ∧ t.pwr.stage = .exiting ∧ t.fld Fld.TWP_PWR_STATE_TARGET = 0 ∧
        t.mrd = s.mrd) ∧
  (∀ (s : State),
    s.isStandby = false ∧ s.pwr.stage = .none ∧ s.pwr.wakeTimer ≠ 0 →
    (s.cur = 3 ∨ s.cur = 4) ∧ s.pwr.wakeEn.testBit 7 = true →
    ∃ t, exec (.wakeTimerExpiry) s = .next t ∧
      t.fld Fld.TWP_WAKE_STAT_SRC = 128 ∧ t.pwr.stage = .exiting ∧ t.fld Fld.TWP_PWR_STATE_TARGET = 0 ∧ t.mrd =
        s.mrd) ∧
  (∀ (rows : BitVec 11) (bad : Bool) (s : State),
    s.pwr.stage = .exiting ∧ s.heldOff = false ∧ s.rst.phase = .serving ∧ (s.cur = 4 → s.rst.railsUp = 3) →
    s.pwr.waiting = [] ∧ s.ept.tlps = [] ∧ (s.host.assoc.keysWhere fun _ a => a.live && a.slot.isSome) = [] →
    ∃ t, exec (.exitComplete rows bad) s = .next t ∧
      t.cur = 0 ∧ t.fld Fld.TWP_PWR_STATE_TARGET = 0 ∧ t.fld Fld.TWP_PWR_STATE_BUSY = 0 ∧
      t.pwr.stage = .none ∧ t.pwr.origin = none ∧ t.pwr.idleMs = 0 ∧ t.pwr.lowIntervals = 0) ∧
  (∀ (n : Nat) (s : State),
    s.rst.phase = .serving ∧ s.isStandby = false ∧ s.pwr.stage = .none ∧ s.cur = 0 →
    n < s.fld Fld.TWP_IDLE_CFG_P1_RATE * 100 ∧ s.pwr.lowIntervals < 9 →
    ∃ t, exec (.idlePolicyEval n) s = .next t ∧
      t.pwr.lowIntervals = s.pwr.lowIntervals + 1 ∧ t.pwr.driveOps = false ∧ t.regs = s.regs ∧ t.out = s.out) ∧
  (∀ (n : Nat) (s : State),
    s.rst.phase = .serving ∧ s.isStandby = false ∧ s.pwr.stage = .none ∧ s.cur = 0 ∧ s.pwr.waiting = [] →
    s.flag Fld.TWP_IDLE_CFG_P1_EN = true ∧ n < s.fld Fld.TWP_IDLE_CFG_P1_RATE * 100 ∧ 9 ≤ s.pwr.lowIntervals ∧
      s.refuser 1 = none →
    ∃ t, exec (.idlePolicyEval n) s = .next t ∧
      t.cur = 1 ∧ t.pwr.stage = .none ∧ t.out = s.out ∧ t.mrd = s.mrd) ∧
  (∀ (n : Nat) (s : State),
    s.cur = 1 ∧ s.pwr.stage = .none ∧ max (s.fld Fld.TWP_PARK_CFG_MIN_BASINS) (ceilDiv n (s.fld
      Fld.TWP_PARK_CFG_BASIN_KIOPS * 100000)) < ((List.range 16).filter s.basinRuns).length →
    ∃ t, exec (.parkDecision n) s = .next t ∧
      (∀ e ∈ List.range 256, (e / 16) ∈ ((List.range 16).filter s.basinRuns).drop (max (s.fld
        Fld.TWP_PARK_CFG_MIN_BASINS) (ceilDiv n (s.fld Fld.TWP_PARK_CFG_BASIN_KIOPS * 100000))) → s.engOpen e =
        true → (t.eng e).parking = true) ∧
      t.mrd = s.mrd ∧ t.regs = s.regs) ∧
  (∀ (e : Fin 256) (s : State),
    (s.eng e).parking = true ∧ s.engRuns e = true ∧ (s.eng e).tow = [] ∧ (s.eng e).transit = [] ∧ s.inflight e = 0
      →
    ∃ t, exec (.engineParked e) s = .next t ∧
      (t.eng e).state = .parked ∧ (t.eng e).parking = false ∧ t.fld (Fld.BRG_BANK_STAT_STATE e) = 1 ∧ t.host =
        s.host) ∧
  (∀ (g : Fin 8) (s : State),
    s.cur = 1 ∧ s.tugBusy g = false →
    ∃ t, exec (.tugGroupGate g) s = .next t ∧
      (t.fld Fld.TWP_DOMAIN_STAT_TUG_GATED).testBit g = true ∧ t.tug = s.tug ∧ t.out = s.out) ∧
  (∀ (h : Hdr) (s : State),
    s.takes h 0x0702 [(.device, 0)] = true →
    ∃ t, exec (.powerQuery h) s = .next t ∧
      t.answered h 0x0702 .success [beBytes 4 s.pwrWord, leBytes 4 (s.fld Fld.TWP_REFUSE_NAME_LO_NAME) ++
        leBytes 4 (s.fld Fld.TWP_REFUSE_NAME_HI_NAME), beBytes 4 (s.reg Reg.TWP_WAKE_STAT).toNat] ∧
      t.mrd = s.mrd ∧ t.pwr = s.pwr) ∧
  (∀ (s : State),
    s.rst.phase = .standby ∧ s.pwr.wakeEn.testBit 2 = true ∧ s.pwr.wakeEn.testBit 3 = true →
    ∃ t, exec (.managementWindowOpen) s = .next t ∧
      t.pwr.mgmtWindow = true ∧ t.ept.perst = false ∧ t.regs = s.regs) ∧
  (∀ (s : State),
    s.pwr.mgmtWindow = true →
    ∃ t, exec (.managementWindowClose) s = .next t ∧
      t.pwr.mgmtWindow = false ∧ t.ept.msix = [] ∧ t.ept.win = [] ∧ t.mrd = s.mrd) ∧
  (∀ (s : State),
    ∃ t, exec (.pePerstAssert) s = .next t ∧
      t.ept.perst = true ∧ t.pwr.mgmtWindow = false ∧ t.ept.msix = [] ∧ t.ept.copy = none ∧ t.mrd = s.mrd)

/-- A manifest header that arrives on the mailbox, on the management lane or over the relay, with the trailer of its
session where one is due, is executed and answered (R355, R354, R336, R360): shown on CAP_LIST, which answers the
capability words (R368). SESSION_OPEN under a stored key leaves an open session and answers its number; closing and
expiry close it (R359). A manifest past its class bound before its commit point is answered TIMEOUT and no longer
runs (R363). IDENTIFY, FAULT_QUERY, MOOR_QUERY and FW_QUERY answer what they name; TIME_SET moves the timestamp;
WARM_RESTART, UNMOOR and FW_ACTIVATE begin the restart's drain (R392, R387); EVENT_READ answers and clears entries;
a manifest key set or cleared stands so (R359); firmware stages, commits and activates; LANE_MARGIN of a running
link answers what was measured. -/
def Obligations.SessionAndDeviceManifestsTakeEffect : Prop :=
  (∀ (b : List Byte) (seq : Nat) (s : State),
    s.fld Fld.MFT_MBOX_CTL_LEN = 32 ∧ s.flag Fld.MFT_MBOX_STAT_BUSY = false ∧ (List.range 32).map (fun i =>
      s.mft.reqBuf.get i) = b →
    isHeader b 0x0101 seq 0 false = true ∧ s.takes ⟨.mailbox, 0, seq, 0, 0, none⟩ 0x0101 [] = true →
    s.flag Fld.MFT_MBOX_CFG_AUTH_REQ = false →
    ∃ t, exec (.mboxGo) s = .next t ∧
      t.answered ⟨.mailbox, 0, seq, 0, 0, none⟩ 0x0101 .success [capWords.flatMap (beBytes 4)] ∧ t.mrd = s.mrd) ∧
  (∀ (b : List Byte) (seq : Nat) (k : Nat) (v6 : Bool) (addr : Nat) (vlan : Option Nat) (port : Nat) (src : Nat) (s :
    State),
    k ≠ 0 ∧ isHeader b 0x0101 seq k true = true ∧ s.takes ⟨.mgmtPort, k, seq, srcKey v6 addr src, 128, none⟩
      0x0101 [] = true →
    ∃ t, exec (.manifestDatagram false v6 addr vlan port src (s.trailed k b)) s = .next t ∧
      t.answered ⟨.mgmtPort, k, seq, srcKey v6 addr src, 128, none⟩ 0x0101 .success [capWords.flatMap (beBytes
        4)] ∧ t.mrd = s.mrd) ∧
  (∀ (f : PeerHdr) (b : List Byte) (seq : Nat) (k : Nat) (s : State),
    f.aqd = false ∧ s.frameOk f = true ∧ s.agent = true ∧ k ≠ 0 ∧ isHeader b 0x0101 seq k true = true →
    s.takes ⟨.relay, k, seq, 0, 0, none⟩ 0x0101 [] = true →
    ∃ t, exec (.relayReceive f (s.trailed k b)) s = .next t ∧
      t.answered ⟨.relay, k, seq, 0, 0, none⟩ 0x0101 .success [capWords.flatMap (beBytes 4)] ∧ t.mrd = s.mrd) ∧
  (∀ (h : Hdr) (s : State),
    s.takes h 0x0101 [] = true →
    ∃ t, exec (.capList h) s = .next t ∧
      t.answered h 0x0101 .success [capWords.flatMap (beBytes 4)] ∧ t.mrd = s.mrd) ∧
  (∀ (h : Hdr) (k : Nat) (nonce : BitVec 128) (s : State),
    s.takes h 0x0102 [] = true ∧ k < 8 ∧ (s.mrd.mkeys.get k).isSome = true →
    s.openSessions.length < (if s.agent then 8 else 64) ∧ s.mft.sessions.wf = true →
    ∃ t, exec (.sessionOpen h k nonce) s = .next t ∧
      (∃ n nd, t.answered h 0x0102 .success [beBytes 4 n, beBytes 16 nd] ∧ (t.mft.sessions.get n).isOpen = true
        ∧ (t.mft.sessions.get n).key = k) ∧
      t.mrd = s.mrd) ∧
  (∀ (h : Hdr) (s : State),
    s.takes h 0x0103 [] = true ∧ h.session ≠ 0 →
    ∃ t, exec (.sessionClose h) s = .next t ∧
      t.answered h 0x0103 .success [] ∧ (t.mft.sessions.get h.session).isOpen = false ∧ t.mrd = s.mrd) ∧
  (∀ (k : Nat) (s : State),
    k ≠ 0 ∧ (s.mft.sessions.get k).isOpen = true ∧ (s.mft.sessions.get k).heard + s.fld Fld.MFT_SESS_CFG_IDLE_S *
      1000000000 ≤ s.now →
    ∃ t, exec (.sessionIdleExpiry k) s = .next t ∧
      (t.mft.sessions.get k).isOpen = false ∧ t.mft.running = s.mft.running ∧ t.out = s.out ∧ t.mrd = s.mrd) ∧
  (∀ (h : Hdr) (r : Running) (s : State),
    (s.findRunning fun r => decide (r.hdr = h)) = some r ∧ r.committed = false ∧ r.opcode ≠ 0x0807 ∧ r.opcode ≠
      0x0805 →
    s.pwr.waiting = [] ∧ s.mft.mboxDrop.contains (r.hdr.session, r.hdr.seq) = false →
    ∃ t, exec (.manifestTimeout h) s = .next t ∧
      t.answered r.hdr r.opcode .timeout [] ∧ t.mft.running = s.mft.running.erase r) ∧
  (∀ (h : Hdr) (s : State),
    s.takes h 0x0104 [(.device, 0)] = true →
    ∃ t, exec (.identify h) s = .next t ∧
      t.answered h 0x0104 .success [beBytes 8 Config.fusedSerial.toNat, beBytes 1 0xB0, beBytes 6
        (Config.fusedMac.toNat * 256), beBytes 4 s.fw.running, beBytes 4 (if s.fw.staged then s.fw.version else
        0), beBytes 1 (s.fld Fld.TWP_MOOR_STAT_SOURCE)] ∧
      t.mrd = s.mrd) ∧
  (∀ (h : Hdr) (ms : Nat) (s : State),
    s.takes h 0x0105 [(.device, 0)] = true →
    ∃ t, exec (.timeSet h ms) s = .next t ∧
      t.timeBase = (ms * 1000000 : Nat) - (s.now : Int) ∧ t.answered h 0x0105 .success [beBytes 8 s.stamp] ∧
        t.mrd = s.mrd) ∧
  (∀ (h : Hdr) (s : State),
    s.takes h 0x0106 [(.device, 0)] = true ∧ s.resetWidth < 2 →
    ∃ t, exec (.warmRestart h) s = .next t ∧
      t.rst.draining = true ∧ t.answered h 0x0106 .success [] ∧ t.mrd = s.mrd) ∧
  (∀ (h : Hdr) (clear : Bool) (s : State),
    s.takes h 0x0107 [(.device, 0)] = true →
    ∃ t, exec (.faultQuery h clear) s = .next t ∧
      t.answered h 0x0107 .success [beBytes 1 (bitsOf (s.reg Fld.TWP_FAULT_ACTIVE.addr).toNat 0 6)] ∧ t.mrd =
        s.mrd ∧
      (clear = false → t.reg Fld.TWP_FAULT_ACTIVE.addr = s.reg Fld.TWP_FAULT_ACTIVE.addr)) ∧
  (∀ (h : Hdr) (n : Nat) (clear : Bool) (s : State),
    s.takes h 0x0108 [(.device, 0)] = true ∧ n ≠ 0 ∧ (clear = true → n ≤ 24) →
    ∃ t, exec (.eventRead h n clear) s = .next t ∧
      t.answered h 0x0108 .success [(s.mft.events.take n).flatMap fun e => beBytes 32 (Config.eventBytes e.kind
        e.arg e.time).toNat] ∧
      t.mft.events = (if clear then s.mft.events.drop n else s.mft.events) ∧ t.mrd = s.mrd) ∧
  (∀ (h : Hdr) (k : Nat) (key : BitVec 256) (s : State),
    s.takes h 0x0620 [(.device, 0)] = true ∧ k < 8 ∧ s.imageRoom 1 = true →
    ∃ t, exec (.manifestKeySet h k key) s = .next t ∧
      t.mrd.mkeys.get k = some key ∧ t.answered h 0x0620 .success [] ∧ t.mrd.keys = s.mrd.keys) ∧
  (∀ (h : Hdr) (k : Nat) (s : State),
    s.takes h 0x0621 [(.device, 0)] = true ∧ k < 8 ∧ (s.mrd.mkeys.get k).isSome = true →
    ∃ t, exec (.manifestKeyClear h k) s = .next t ∧
      t.mrd.mkeys.get k = none ∧ t.answered h 0x0621 .success [] ∧ t.mrd.keys = s.mrd.keys) ∧
  (∀ (h : Hdr) (quad : Bool) (i : Nat) (lane : Nat) (tm : Nat) (v : Nat) (s : State),
    s.takes h 0x0A02 [if quad then (.port, 4 * i + lane) else (.bay, i)] = true ∧ i < (if quad then 32 else 48) ∧
      lane < 4 →
    (if quad then (List.range 4).any (fun l => s.flag (Fld.NET_PORT_STAT_LINK i l)) else s.bay i == Bay.init ||
      s.bay i == Bay.ready || s.bay i == Bay.ladder) = true →
    ∃ t, exec (.laneMargin h quad i lane tm v) s = .next t ∧
      t.answered h 0x0A02 .success [beBytes 2 tm, beBytes 2 v] ∧ t.mrd = s.mrd ∧ t.drives = s.drives) ∧
  (∀ (h : Hdr) (s : State),
    s.takes h 0x0B01 [(.device, 0)] = true →
    ∃ t, exec (.moorQuery h) s = .next t ∧
      t.answered h 0x0B01 .success [beBytes 8 s.store.slotA.seq ++ beBytes 1 s.store.slotA.valid.toNat, beBytes
        8 s.store.slotB.seq ++ beBytes 1 s.store.slotB.valid.toNat, beBytes 1 (s.fld Fld.TWP_MOOR_STAT_SOURCE /
        2)] ∧
      t.mrd = s.mrd) ∧
  (∀ (h : Hdr) (s : State),
    s.takes h 0x0B02 [(.device, 0)] = true ∧ s.isActive = false ∧ s.resetWidth < 2 →
    ∃ t, exec (.unmoor h 0x554E) s = .next t ∧
      t.store.unmoor = true ∧ t.store.slotA = default ∧ t.store.slotB = default ∧ t.rst.draining = true ∧
      t.answered h 0x0B02 .success []) ∧
  (∀ (h : Hdr) (off : Nat) (chunk : List Byte) (s : State),
    s.takes h 0x0C01 [(.device, 0)] = true ∧ chunk ≠ [] →
    ∃ t, exec (.fwStage h off chunk) s = .next t ∧
      t.fw.bytes = layBytes s.fw.bytes off chunk ∧ t.fw.staged = false ∧ t.answered h 0x0C01 .success [beBytes 4
        chunk.length]) ∧
  (∀ (h : Hdr) (n : Nat) (sha : BitVec 256) (s : State),
    s.takes h 0x0C02 [(.device, 0)] = true ∧ n ≠ 0 →
    ∃ t, exec (.fwCommit h n sha true) s = .next t ∧
      t.fw.staged = true ∧ t.fw.version = (Config.imageVersion sha).toNat ∧ t.answered h 0x0C02 .success [] ∧
        t.fw.bytes = s.fw.bytes) ∧
  (∀ (h : Hdr) (late : Bool) (s : State),
    s.takes h 0x0C03 [(.device, 0)] = true ∧ s.fw.staged = true ∧ s.resetWidth < 2 →
    ∃ t, exec (.fwActivate h late) s = .next t ∧
      t.answered h 0x0C03 .success [] ∧ t.fw.staged = true ∧
      (if late then t.fw.atTakeover = true ∧ t.rst = s.rst else t.rst.runStaged = true ∧ t.rst.draining = true)) ∧
  (∀ (h : Hdr) (s : State),
    s.takes h 0x0C04 [(.device, 0)] = true →
    ∃ t, exec (.fwQuery h) s = .next t ∧
      t.answered h 0x0C04 .success [beBytes 4 s.fw.running, beBytes 1 1, beBytes 4 (if s.fw.staged then
        s.fw.version else 0), beBytes 1 (if s.fw.staged then 2 else if s.fw.bytes = [] then 0 else 1)] ∧
      t.fw = s.fw ∧ t.mrd = s.mrd)

/-- SUBSYS_SET of an unused NQN stands, and SUBSYS_DELETE of a subsystem without namespaces removes it (R35, R459).
NS_CREATE on an array with room leaves the namespace as asked for, in as many extents as its size needs, and answers
them (R152, R459); NS_DELETE removes it at the commit point (R462); NS_ATTACH leaves the hosts attached or detached;
NS_QUERY answers its extents and hosts. HOST_SET creates or replaces a host entry and keeps its secrets, HOST_DELETE
removes it (R36, R91); AUTH_SECRET_SET and AUTH_SECRET_CLEAR set and clear its secrets (R40). Each is answered with
SUCCESS. -/
def Obligations.SubsystemNamespaceAndHostManifestsTakeEffect : Prop :=
  (∀ (h : Hdr) (i : Nat) (nqn : Nat) (s : State),
    s.takes h 0x0401 [(.device, 0)] = true ∧ i < 1024 ∧ nqn ≠ 0 →
    (s.mrd.subsys.find? fun e => e.1 != i && e.2.present && e.2.nqn == nqn).isNone = true ∧ s.imageRoom 1 = true →
    ∃ t, exec (.subsysSet h i nqn) s = .next t ∧
      t.mrd.subsys.get i = ⟨true, nqn⟩ ∧ t.answered h 0x0401 .success [] ∧ t.mrd.ns = s.mrd.ns) ∧
  (∀ (h : Hdr) (i : Nat) (s : State),
    s.takes h 0x0402 [(.device, 0)] = true ∧ i < 1024 ∧ (s.mrd.subsys.get i).present = true →
    (s.mrd.ns.any fun e => e.2.present && e.2.subsys == i) = false →
    ∃ t, exec (.subsysDelete h i) s = .next t ∧
      t.mrd.subsys.get i = default ∧ t.answered h 0x0402 .success [] ∧ t.mrd.ns = s.mrd.ns) ∧
  (∀ (h : Hdr) (nsid : Nat) (sub : Nat) (a : Nat) (size : Nat) (slot : Nat) (led : Bool) (s : State),
    s.takes h 0x0403 [(.nspace, nsid), (.array, a)] = true ∧ nsid ≠ 0 ∧ nsid ≤ 16384 ∧ (s.mrd.ns.get nsid).present
      = false →
    sub < 1024 ∧ (s.mrd.subsys.get sub).present = true ∧ a < 16 ∧ s.arrThere a = true →
    (s.mrd.arr.get a).state ≠ .creating ∧ (s.mrd.arr.get a).state ≠ .offline ∧ (s.mrd.arr.get a).state ≠ .salvaged
      →
    size ≠ 0 ∧ ceilDiv size (s.mrd.arr.get a).e ≤ (s.freeExtents a).length →
    s.imageRoom (1 + ceilDiv size (s.mrd.arr.get a).e) = true →
    ∃ t, exec (.nsCreate h nsid sub a size [0] [] 0 slot led) s = .next t ∧
      (t.mrd.ns.get nsid).present = true ∧ (t.mrd.ns.get nsid).subsys = sub ∧ (t.mrd.ns.get nsid).array = a ∧
        (t.mrd.ns.get nsid).size = size ∧
      (t.mrd.ns.get nsid).ledgered = led ∧ (t.mrd.ns.get nsid).lbafs = [0] ∧ (t.mrd.ns.get nsid).ext.length =
        ceilDiv size (s.mrd.arr.get a).e ∧
      t.answered h 0x0403 .success [(t.mrd.ns.get nsid).ext.flatMap (beBytes 4)]) ∧
  (∀ (h : Hdr) (nsid : Nat) (s : State),
    s.takes h 0x0404 [(.nspace, nsid)] = true ∧ nsid ≠ 0 ∧ nsid ≤ 16384 ∧ (s.mrd.ns.get nsid).present = true →
    s.imageRoom s.mrd.arr.length = true →
    ∃ t, exec (.nsDelete h nsid) s = .next t ∧
      t.mrd.ns.get nsid = default ∧ t.answered h 0x0404 .success [] ∧
      (∀ b, (t.drives.get b).medium.blocks = (s.drives.get b).medium.blocks ∧ (t.drives.get b).medium.ring =
        (s.drives.get b).medium.ring)) ∧
  (∀ (h : Hdr) (nsid : Nat) (k : Nat) (on : Bool) (s : State),
    s.takes h 0x0405 [(.nspace, nsid), (.host, k)] = true ∧ nsid ≠ 0 ∧ nsid ≤ 16384 ∧ (s.mrd.ns.get nsid).present
      = true →
    (s.mrd.hosts.get k).present = true ∧ s.imageRoom (1 + extRuns (s.mrd.ns.get nsid).ext) = true →
    ∃ t, exec (.nsAttach h nsid [k] on) s = .next t ∧
      (t.mrd.ns.get nsid).hosts.contains k = on ∧ t.answered h 0x0405 .success [] ∧ t.mrd.hosts = s.mrd.hosts) ∧
  (∀ (h : Hdr) (nsid : Nat) (s : State),
    s.takes h 0x0408 [(.nspace, nsid)] = true ∧ nsid ≠ 0 ∧ nsid ≤ 16384 ∧ (s.mrd.ns.get nsid).present = true →
    ∃ t, exec (.nsQuery h nsid) s = .next t ∧
      (∃ attributes, t.answered h 0x0408 .success [attributes, (s.mrd.ns.get nsid).ext.flatMap (beBytes 4),
        bitmapBytes 512 (s.mrd.ns.get nsid).hosts]) ∧
      t.mrd = s.mrd) ∧
  (∀ (h : Hdr) (i : Nat) (e : HostParams) (s : State),
    s.takes h 0x0406 [(.host, i)] = true ∧ i < 4096 ∧ e.nqn ≠ 0 ∧ s.absent e.sprayPorts = false →
    (e.reach.all fun r => decide (r < 1024)) = true ∧ (e.sprayPorts.all fun p => decide (p < 128)) = true ∧
      (e.meter.all fun m => decide (m + (if e.meterPerClass then 7 else 0) ≤ 8191)) = true →
    e.addrs.length ≤ 8 ∧ e.addrs.all prefixOk = true ∧ e.defPs ≤ 3 ∧ 0 < e.maxAssoc ∧ e.maxAssoc ≤ 8192 ∧ e.stairs
      ≤ 64 →
    (s.mrd.hosts.find? fun x => x.1 != i && x.2.present && x.2.p.nqn == e.nqn).isNone = true ∧ s.imageRoom 1 =
      true →
    ∃ t, exec (.hostSet h i e) s = .next t ∧
      t.mrd.hosts.get i = { s.mrd.hosts.get i with present := true, p := e } ∧ t.answered h 0x0406 .success [] ∧
        t.mrd.ns = s.mrd.ns) ∧
  (∀ (h : Hdr) (i : Nat) (s : State),
    s.takes h 0x0407 [(.host, i)] = true ∧ i < 4096 ∧ (s.mrd.hosts.get i).present = true →
    s.imageRoom (s.mrd.arr.length + s.mrd.keys.length + s.mrd.ns.length + (s.mrd.ns.map fun e => extRuns
      e.2.ext).sum) = true →
    ∃ t, exec (.hostDelete h i) s = .next t ∧
      t.mrd.hosts.get i = default ∧ t.host.log.get i = default ∧ t.answered h 0x0407 .success []) ∧
  (∀ (h : Hdr) (i : Nat) (hs : Nat) (cs : Nat) (hash : Nat) (s : State),
    s.takes h 0x0610 [(.host, i)] = true ∧ i < 4096 ∧ (s.mrd.hosts.get i).present = true ∧ hash ≠ 0 ∧ hash ≤ 3 ∧
      s.imageRoom 1 = true →
    ∃ t, exec (.authSecretSet h i hs cs hash) s = .next t ∧
      t.mrd.hosts.get i = { s.mrd.hosts.get i with hostSecret := hs, ctrlSecret := cs, hash := hash } ∧
        t.answered h 0x0610 .success []) ∧
  (∀ (h : Hdr) (i : Nat) (s : State),
    s.takes h 0x0611 [(.host, i)] = true ∧ i < 4096 ∧ (s.mrd.hosts.get i).present = true ∧ s.imageRoom 1 = true →
    ∃ t, exec (.authSecretClear h i) s = .next t ∧
      t.mrd.hosts.get i = { s.mrd.hosts.get i with hostSecret := 0, ctrlSecret := 0, hash := 0 } ∧ t.answered h
        0x0611 .success [])

/-- A stored TAL_SEL clears its counter and accumulator, one that Table 19-1 does not allow sets ERR and changes no
counter (R399, R400); a TAL_THR write of a WINDOW counter keeps its value and restarts accumulation (R402). TAL_CLR
clears one counter or all (R404). At a window's end the accumulator's total replaces the counter (R401). A dump tick
advances SEQ, latches the set and writes at the ring's place for that SEQ (R408, R409); a record written to the
reservoir lands whole (R408). TALLY_SELECT programs a counter as the register writes do, TALLY_READ answers the
set's values in ascending order (R403), TALLY_USER opens or closes the user page (R377), TALLY_DUMP_SET names the
counters dumped (R411). -/
def Obligations.TallySelectsClearsReadsAndDumps : Prop :=
  (∀ (n : Fin 4096) (v : Word32) (s : State),
    selectorOk v = true →
    ∃ t, exec (.talSelWrite n v) s = .next t ∧
      t.tal.cnt.get n = 0 ∧ t.tal.acc.get n = 0 ∧ t.tal.armed.get n = false ∧ t.out = s.out ∧
      t.fld (Fld.TAL_SEL_MODE n) = (if bitsOf v.toNat 24 2 = 3 then 0 else bitsOf v.toNat 24 2)) ∧
  (∀ (n : Fin 4096) (v : Word32) (s : State),
    selectorOk v = false →
    ∃ t, exec (.talSelWrite n v) s = .next t ∧
      t.fld (Fld.TAL_SEL_ERR n) = 1 ∧ t.fld Fld.TAL_STATUS_SEL_ERR = 1 ∧ t.tal = s.tal ∧ t.fld (Fld.TAL_SEL_MODE
        n) = s.fld (Fld.TAL_SEL_MODE n)) ∧
  (∀ (n : Fin 4096) (v : Word32) (s : State),
    s.fld (Fld.TAL_SEL_MODE n) = 2 →
    ∃ t, exec (.talThrWrite n v) s = .next t ∧
      t.fld (Fld.TAL_THR_VALUE n) = min v.toNat 10000000 ∧ t.tal.cnt = s.tal.cnt ∧ t.tal.acc.get n = 0 ∧
        t.tal.armed.get n = false) ∧
  (∀ (n : Fin 4096) (v : Word32) (s : State),
    s.fld (Fld.TAL_SEL_MODE n) ≠ 2 →
    ∃ t, exec (.talThrWrite n v) s = .next t ∧
      t.fld (Fld.TAL_THR_VALUE n) = v.toNat ∧ t.tal = s.tal) ∧
  (∀ (i : Nat) (all : Bool) (s : State),
    ∃ t, exec (.talClrGo i all) s = .next t ∧
      t.tal.cnt.get (i % 4096) = 0 ∧ t.tal.acc.get (i % 4096) = 0 ∧ t.mrd = s.mrd ∧ t.out = s.out ∧
      (all = true → t.tal.cnt = [] ∧ t.tal.acc = []) ∧
      (all = false → ∀ j, j ≠ i % 4096 → t.tal.cnt.get j = s.tal.cnt.get j)) ∧
  (∀ (n : Fin 4096) (s : State),
    s.fld (Fld.TAL_SEL_MODE n) = 2 ∧ s.flag (Fld.TAL_SEL_EN n) = true ∧ s.fld (Fld.TAL_THR_VALUE n) ≠ 0 →
    s.now % (s.fld (Fld.TAL_THR_VALUE n) * 1000) = 0 →
    ∃ t, exec (.tallyWindowEnd n) s = .next t ∧
      t.tal.acc.get n = 0 ∧ t.tal.armed.get n = true ∧ t.regs = s.regs ∧
      t.tal.cnt.get n = (if s.tal.armed.get n then s.tal.acc.get n else s.tal.cnt.get n)) ∧
  (∀ (s : State),
    s.flag Fld.TAL_DUMP_CFG_EN = true ∧ s.cur ≤ 2 ∧ s.rst.phase = .serving ∧ s.dumpSet ≠ [] ∧ s.tal.busy = false ∧
      s.dumpLands (s.fld Fld.TAL_DUMP_CFG_TARGET) = true →
    s.tal.s0 = 0 ∧ s.tal.seq + 1 < 2 ^ 64 →
    ∃ t, exec (.dumpTick) s = .next t ∧
      t.tal.seq = s.tal.seq + 1 ∧ t.tal.busy = true ∧ t.tal.time = s.stamp ∧ t.fld Fld.TAL_STATUS_DUMP_BUSY = 1
        ∧
      t.tal.at_ = s.fld Fld.TAL_DUMP_BASE_HI_ADDR * 2 ^ 32 + s.fld Fld.TAL_DUMP_BASE_LO_ADDR * 64 ∧ t.tal.s0 =
        s.tal.seq + 1 ∧
      t.tal.rec_.length = 64 + 64 * ceilDiv s.dumpSet.length 8 ∧ t.tal.cnt = s.tal.cnt ∧ t.res = s.res) ∧
  (∀ (s : State),
    s.tal.busy = true ∧ bitsOf s.tal.cfg.toNat Fld.TAL_DUMP_CFG_TARGET.lo Fld.TAL_DUMP_CFG_TARGET.w = 1 →
    ∃ t, exec (.dumpRecordWritten true) s = .next t ∧
      t.tal.busy = false ∧ (∀ k < s.tal.rec_.length, t.res.get (s.tal.at_ % 2 ^ 38 + k) = s.tal.rec_.getD k 0) ∧
        t.tal.cnt = s.tal.cnt) ∧
  (∀ (h : Hdr) (n : Nat) (sel : Word32) (thr : Word32) (s : State),
    s.takes h 0x0901 [(.device, 0)] = true ∧ n < 4096 ∧ selectorOk sel = true →
    ∃ t, exec (.tallySelect h n sel thr) s = .next t ∧
      t.answered h 0x0901 .success [] ∧ t.tal.cnt.get n = 0 ∧ t.tal.acc.get n = 0 ∧ t.mrd = s.mrd) ∧
  (∀ (h : Hdr) (set : List Nat) (s : State),
    s.takes h 0x0903 [(.device, 0)] = true ∧ set ≠ [] ∧ (set.all fun n => decide (n < 4096)) = true →
    4 + 8 * ((List.range 4096).filter fun n => set.contains n).length ≤ s.maxPlen h.chan h.port h.src →
    ∃ t, exec (.tallyRead h set) s = .next t ∧
      t.answered h 0x0903 .success [(((List.range 4096).filter fun n => set.contains n).map fun n =>
        s.tal.cnt.get n).flatMap (beBytes 8)] ∧
      t.tal.cnt = s.tal.cnt ∧ t.tal.time = s.stamp ∧ t.mrd = s.mrd) ∧
  (∀ (h : Hdr) (en : Bool) (s : State),
    s.takes h 0x0904 [(.device, 0)] = true →
    ∃ t, exec (.tallyUser h en) s = .next t ∧
      t.flag Fld.TAL_USER_EN_EN = en ∧ t.answered h 0x0904 .success [] ∧ t.tal = s.tal) ∧
  (∀ (h : Hdr) (set : List Nat) (period : Nat) (target : Nat) (slots : Nat) (s : State),
    s.takes h 0x0902 [(.device, 0)] = true ∧ set ≠ [] ∧ (set.all fun n => decide (n < 4096)) = true →
    target < 2 ∧ period ≠ 0 ∧ slots ≠ 0 →
    ∃ t, exec (.tallyDumpSet h set period target slots) s = .next t ∧
      t.answered h 0x0902 .success [] ∧ t.fld Fld.TAL_DUMP_CFG_TARGET = target ∧ t.tal = s.tal ∧
      (∀ n ∈ List.range 4096, (t.fld (Fld.TAL_DUMP_SET_BITS (n / 32))).testBit (n % 32) = set.contains n))

/-- A read through one window on the dock SRAM returns its bytes, one outside every window is counted and aborted; a
write through one window lands there (R373, R374). A write of a window's CTL whose base is aligned commits the
staged window (R374). COPY_GO with no copy running and a good window starts a copy, which reads from the host where
it runs that way; its end, or a completion timeout of such a read, leaves none running and a status (R376). A BAR2
access in P2 waits for the exit that it starts (R379). A pending vector that nothing masks is sent and no longer
pending (R375). A hot reset and a function level reset end copy, windows and vectors and are recorded, the hot one
with the link (R378); the link's training shows its speed, width and the function's bits, and its loss clears it
(R371, R375). -/
def Obligations.EndpointWindowsCopiesAndResets : Prop :=
  (∀ (off : Nat) (len : Nat) (i : Nat) (w : Window) (s : State),
    s.eptUp = true ∧ s.awake = true ∧ s.mgmtOnly = false ∧ s.partsOf off len = [(off, len, some (i, w))] →
    w.rd = true ∧ w.inSpace off = true ∧ w.space = 1 ∧ s.partBad (off, len, some (i, w)) = false →
    ∃ t, exec (.bar2Read off len) s = .next t ∧
      Out.windowData ((List.range len).map fun k => if s.dockOff (w.tgt + (off - w.base) + k) then 0 else
        s.brg.dock.get (w.tgt + (off - w.base) + k)) ∈ t.out ∧
      t.brg = s.brg ∧ t.res = s.res ∧ t.mrd = s.mrd) ∧
  (∀ (off : Nat) (len : Nat) (s : State),
    s.eptUp = true ∧ s.awake = true ∧ s.mgmtOnly = false ∧ len ≠ 0 ∧ s.winAt off = none →
    ∃ t, exec (.bar2Read off len) s = .next t ∧
      Out.completerAbort ∈ t.out ∧ t.fld Fld.EPT_ERR_STAT_WIN_MISS = min (s.fld Fld.EPT_ERR_STAT_WIN_MISS + 1)
        (2 ^ Fld.EPT_ERR_STAT_WIN_MISS.w - 1) ∧
      t.brg = s.brg ∧ t.res = s.res) ∧
  (∀ (off : Nat) (data : List Byte) (i : Nat) (w : Window) (s : State),
    s.eptUp = true ∧ s.awake = true ∧ s.mgmtOnly = false ∧ s.partsOf off data.length = [(off, data.length, some
      (i, w))] →
    w.wr = true ∧ w.inSpace off = true ∧ w.space = 1 ∧ s.dockOff (w.tgt + (off - w.base)) = false →
    ∃ t, exec (.bar2Write off data) s = .next t ∧
      (∀ k < data.length, t.brg.dock.get (w.tgt + (off - w.base) + k) = data.getD k 0) ∧ t.res = s.res ∧ t.regs
        = s.regs) ∧
  (∀ (off : Nat) (len : Nat) (s : State),
    s.eptUp = true ∧ s.isStandby = false ∧ s.pwr.stage = .none ∧ s.cur = 2 ∧ s.pwr.wakeEn.testBit 2 = true →
    ∃ t, exec (.bar2Read off len) s = .next t ∧
      t.ept.tlps = s.ept.tlps ++ [.bar2Read off len] ∧ t.pwr.stage = .exiting ∧ t.brg = s.brg ∧ t.res = s.res) ∧
  (∀ (i : Fin 64) (rd : Bool) (wr : Bool) (space : Nat) (z : Nat) (s : State),
    space < 3 ∧ 12 ≤ z ∧ z ≤ 32 ∧ s.fld (Fld.EPT_WIN_BASE_BASE i) * 4096 % 2 ^ z = 0 →
    ∃ t, exec (.eptWinCtlWrite i true rd wr space z) s = .next t ∧
      t.ept.win.get i = ⟨true, rd, wr && space != 2, space, z, s.fld (Fld.EPT_WIN_BASE_BASE i) * 4096, s.fld
        (Fld.EPT_WIN_TGT_HI_ADDR i) * 2 ^ 32 + s.fld (Fld.EPT_WIN_TGT_LO_ADDR i) * 4096⟩ ∧
      t.fld (Fld.EPT_WIN_CTL_VALID i) = 1 ∧ t.brg = s.brg ∧ t.out = s.out) ∧
  (∀ (dir : Bool) (vec : Nat) (w : Window) (s : State),
    s.ept.copy = none ∧ s.ept.win.get (s.fld Fld.EPT_COPY_WIN_WIN) = w ∧ w.valid = true ∧ (if dir then w.rd else
      w.wr) = true →
    (s.fld Fld.EPT_COPY_HOST_HI_ADDR * 2 ^ 32 + s.fld Fld.EPT_COPY_HOST_LO_ADDR) % 4 = 0 ∧ s.fld
      Fld.EPT_COPY_LEN_LEN % 4 = 0 →
    s.fld Fld.EPT_COPY_LEN_LEN ≠ 0 ∧ s.fld Fld.EPT_COPY_OFF_OFF * 4 + s.fld Fld.EPT_COPY_LEN_LEN ≤ 2 ^ w.sizeLog2
      →
    w.tgt + s.fld Fld.EPT_COPY_OFF_OFF * 4 + s.fld Fld.EPT_COPY_LEN_LEN ≤ spaceSize w.space →
    ∃ t, exec (.copyGo dir vec) s = .next t ∧
      t.ept.copy = some ⟨w, s.fld Fld.EPT_COPY_HOST_HI_ADDR * 2 ^ 32 + s.fld Fld.EPT_COPY_HOST_LO_ADDR, s.fld
        Fld.EPT_COPY_OFF_OFF * 4, s.fld Fld.EPT_COPY_LEN_LEN, dir, vec % 2048⟩ ∧
      t.fld Fld.EPT_COPY_STAT_BUSY = 1 ∧ t.fld Fld.EPT_COPY_STAT_STATUS = 0 ∧ t.brg = s.brg ∧
      t.out = (if dir then s.out else s.out ++ [.hostRead (s.fld Fld.EPT_COPY_HOST_HI_ADDR * 2 ^ 32 + s.fld
        Fld.EPT_COPY_HOST_LO_ADDR) (s.fld Fld.EPT_COPY_LEN_LEN) s.readLimit])) ∧
  (∀ (data : List Byte) (c : Copy) (s : State),
    s.ept.copy = some c ∧ c.toHost = false ∧ c.win.space = 1 ∧ s.dockOff (c.win.tgt + c.off) = false ∧ data.length
      = c.len →
    ∃ t, exec (.copyComplete data false) s = .next t ∧
      t.ept.copy = none ∧ t.fld Fld.EPT_COPY_STAT_STATUS = 1 ∧ t.fld Fld.EPT_COPY_STAT_BUSY = 0 ∧
      (∀ k < data.length, t.brg.dock.get (c.win.tgt + c.off + k) = data.getD k 0) ∧ t.res = s.res) ∧
  (∀ (c : Copy) (s : State),
    s.ept.copy = some c ∧ c.toHost = false →
    ∃ t, exec (.completionTimeout) s = .next t ∧
      t.ept.copy = none ∧ t.fld Fld.EPT_COPY_STAT_STATUS = 5 ∧ t.fld Fld.EPT_COPY_STAT_BUSY = 0 ∧ t.brg = s.brg
        ∧ t.res = s.res ∧
      t.fld Fld.EPT_ERR_STAT_CPL_TMO = min (s.fld Fld.EPT_ERR_STAT_CPL_TMO + 1) (2 ^ Fld.EPT_ERR_STAT_CPL_TMO.w
        - 1)) ∧
  (∀ (v : Fin 2048) (s : State),
    s.ept.pba.get v = true ∧ (s.ept.msix.get v).unmasked = true ∧ s.flag Fld.EPT_STATUS_FMASK = false →
    s.flag Fld.EPT_STATUS_MSIX_EN = true ∧ s.flag Fld.EPT_STATUS_BME = true ∧ s.flag Fld.EPT_STATUS_LINK = true →
    ∃ t, exec (.msixPendingSend v) s = .next t ∧
      t.ept.pba.get v = false ∧ Out.msix v (s.ept.msix.get v).addr (s.ept.msix.get v).data ∈ t.out ∧ t.regs =
        s.regs) ∧
  (∀ (s : State),
    ∃ t, exec (.hotReset) s = .next t ∧
      t.ept.copy = none ∧ t.ept.win = [] ∧ t.ept.msix = [] ∧ t.ept.pba = [] ∧ t.fld Fld.EPT_STATUS_LAST_RST = 2
        ∧
      t.fld Fld.EPT_STATUS_LINK = 0 ∧ t.ept.ready = false ∧ t.mrd = s.mrd ∧ t.res = s.res) ∧
  (∀ (s : State),
    ∃ t, exec (.flr) s = .next t ∧
      t.ept.copy = none ∧ t.ept.win = [] ∧ t.ept.msix = [] ∧ t.ept.pba = [] ∧ t.fld Fld.EPT_STATUS_LAST_RST = 3
        ∧
      t.fld Fld.EPT_STATUS_LINK = s.fld Fld.EPT_STATUS_LINK ∧ t.fld Fld.EPT_STATUS_BME = 0 ∧ t.mrd = s.mrd ∧
        t.res = s.res) ∧
  (∀ (sp : Nat) (wd : Nat) (bme : Bool) (mx : Bool) (fm : Bool) (tb : Bool) (s : State),
    s.eptPowered = true →
    ∃ t, exec (.endpointLinkUp sp wd bme mx fm tb) s = .next t ∧
      t.flag Fld.EPT_STATUS_LINK = true ∧ t.flag Fld.EPT_STATUS_BME = bme ∧ t.flag Fld.EPT_STATUS_MSIX_EN = mx ∧
        t.flag Fld.EPT_STATUS_FMASK = fm ∧
      t.flag Fld.EPT_STATUS_TEN_BIT = tb ∧ t.ept.ready = true ∧ t.ept.perst = false ∧ t.out = s.out) ∧
  (∀ (s : State),
    ∃ t, exec (.endpointLinkDown) s = .next t ∧
      t.fld Fld.EPT_STATUS_LINK = 0 ∧ t.fld Fld.EPT_STATUS_SPEED = 0 ∧ t.fld Fld.EPT_STATUS_WIDTH = 0 ∧ t.ept =
        s.ept ∧ t.out = s.out)

/-- POWER_ON leaves the registers at their power-on values and keeps the store and the drives (R390). The towpath's
release leads to T2; the moorings come from the slot in force with its journal, or from factory values where neither
slot is valid (R385, R386). The rails come up in order, each enabling the next, the last one with its clocks; a
timeout lowers the enables and counts the attempt, and a retry begins again (R445, R446). The canal die's start, the
reservoir's training and the lockkeeper's start each lead to the next phase, the last to service with READY set
(Table 18-2). Waiting changes are written to the journal (R383); compaction leaves a complete image in the slot not
in use and an empty journal, and one that a power loss cuts short leaves the slot in force and the journal (R384); a
falling supply stops writes (R448). Arrays that wait at the timeout are assembled (R389). -/
def Obligations.StartsRailsAndMoorings : Prop :=
  (∀ (s : State),
    ∃ t, exec (.powerOn) s = .next t ∧
      t.regs = [] ∧ t.rst = default ∧ t.host.assoc = [] ∧ t.host.queue = [] ∧ t.tug = default ∧ t.brg = default
        ∧ t.res = [] ∧
      t.drives = s.drives ∧ t.store.slotA = s.store.slotA ∧ t.store.slotB = s.store.slotB ∧ t.store.journal =
        s.store.journal ∧ t.fw = s.fw) ∧
  (∀ (s : State),
    s.rst.phase = .t1 →
    ∃ t, exec (.towpathResetRelease) s = .next t ∧
      t.rst.phase = .t2 ∧ t.regs = s.regs ∧ t.out = s.out) ∧
  (∀ (s : State),
    s.rst.phase = .t2 ∧ s.heldOff = false ∧ s.store.unmoor = false ∧ s.store.current = none →
    ∃ t, exec (.mooringsRestore) s = .next t ∧
      t.mrd = default ∧ t.fld Fld.TWP_MOOR_STAT_SOURCE = 3 ∧ t.store.written = true ∧ t.store.slotA.valid = true
        ∧
      (t.rst.phase = .t4 ∨ t.rst.phase = .t5)) ∧
  (∀ (b : Bool) (x : MoorSlot) (s : State),
    s.rst.phase = .t2 ∧ s.heldOff = false ∧ s.store.unmoor = false ∧ s.store.current = some (b, x) →
    ∃ t, exec (.mooringsRestore) s = .next t ∧
      t.mrd.hosts = s.store.image.tab.hosts ∧ t.mrd.arr = s.store.image.tab.arr ∧ t.mrd.ns =
        s.store.image.tab.ns ∧
      t.fld Fld.TWP_MOOR_STAT_SOURCE = b.toNat ∧ (t.rst.phase = .t4 ∨ t.rst.phase = .t5)) ∧
  (∀ (g : Fin 3) (s : State),
    s.rst.railsUp = g ∧ s.rst.railsOn = g + 1 ∧ g.val < 2 ∧ s.rst.railWait = false ∧ s.rst.tripped = false →
    ∃ t, exec (.pwrgdRise g) s = .next t ∧
      t.rst.railsUp = g + 1 ∧ t.rst.railsOn = g + 2 ∧ Out.pin (.railEnable (g + 1)) true ∈ t.out ∧ t.regs =
        s.regs) ∧
  (∀ (s : State),
    s.rst.railsUp = 2 ∧ s.rst.railsOn = 3 →
    ∃ t, exec (.pwrgdRise 2) s = .next t ∧
      t.rst.railsUp = 3 ∧ t.rst.retries = 0 ∧ t.rst.powerFault = false ∧ t.flag Fld.CLK_LOCK_CORE = true ∧
        t.flag Fld.CLK_LOCK_EPT = true ∧
      (s.rst.powerFault = true → Out.pin .powerFault false ∈ t.out) ∧ t.fld Fld.CLK_QUAD_LOCK_QUADS = 0xFFFFFFFF) ∧
  (∀ (g : Fin 3) (s : State),
    s.rst.railsUp = g ∧ s.rst.railsOn = g + 1 →
    ∃ t, exec (.pwrgdTimeout g) s = .next t ∧
      t.rst.railsUp = 0 ∧ t.rst.railsOn = 0 ∧ t.rst.retries = s.rst.retries + 1 ∧ t.rst.railWait = true ∧
        t.rst.powerFault = true) ∧
  (∀ (s : State),
    s.rst.railWait = true ∧ s.rst.retries < 3 ∧ s.rst.phase = .t5 ∧ s.rst.railsUp < 3 ∧ s.rst.railsOn =
      s.rst.railsUp ∧ s.rst.tripped = false →
    ∃ t, exec (.powerSequenceRetry) s = .next t ∧
      t.rst.railWait = false ∧ t.rst.railsOn = s.rst.railsUp + 1 ∧ Out.pin (.railEnable s.rst.railsUp) true ∈
        t.out ∧ t.regs = s.regs) ∧
  (∀ (s : State),
    s.rst.phase = .t5 ∧ s.rst.railsUp = 3 ∧ s.heldOff = false →
    ∃ t, exec (.canalDieUp) s = .next t ∧
      t.rst.phase = .t6 ∧ t.rst.portsUp = true ∧ t.cip.started = true ∧ t.mrd = s.mrd) ∧
  (∀ (s : State),
    s.rst.phase = .t6 ∧ s.heldOff = false →
    ∃ t, exec (.reservoirTrained) s = .next t ∧
      t.rst.phase = .t7 ∧ t.store.trained = true ∧ t.regs = s.regs ∧ t.out = s.out) ∧
  (∀ (s : State),
    s.rst.phase = .t7 ∧ s.heldOff = false →
    ∃ t, exec (.lockkeeperStarted) s = .next t ∧
      t.rst.phase = .serving ∧ t.rst.baysUp = true ∧ t.rst.wdogAt = s.now ∧ t.flag Fld.TWP_RST_CAUSE_READY =
        true ∧ t.mrd = s.mrd) ∧
  (∀ (s : State),
    s.rst.baysUp = true ∧ s.owns = true ∧ s.rst.assembleBy ≤ s.now →
    ∃ t, exec (.assembleTimeout) s = .next t ∧
      (∀ a ∈ List.range 16, (t.ary.get a).assembled = true ∨ (t.mrd.arr.get a).state = .none)) ∧
  (∀ (s : State),
    s.store.stopped = false ∧ s.store.waiting ≠ [] →
    ∃ t, exec (.moorJournalWrite true) s = .next t ∧
      t.store.journal = s.store.journal ++ s.store.waiting ∧ t.store.waiting = [] ∧ t.store.slotA =
        s.store.slotA ∧ t.mrd = s.mrd) ∧
  (∀ (s : State),
    s.store.stopped = false ∧ 75 ≤ s.fld Fld.TWP_MOOR_STAT_JOURNAL_PCT →
    ∃ t, exec (.journalCompaction 0) s = .next t ∧
      t.store.journal = [] ∧ t.store.waiting = [] ∧ t.mrd = s.mrd ∧ (t.store.slotA.seq = s.store.seq ∨
        t.store.slotB.seq = s.store.seq)) ∧
  (∀ (s : State),
    s.store.stopped = false ∧ 75 ≤ s.fld Fld.TWP_MOOR_STAT_JOURNAL_PCT →
    ∃ t, exec (.journalCompaction 2) s = .next t ∧
      t.store.journal = s.store.journal ∧ t.store.waiting = s.store.waiting ∧ t.store.current = s.store.current
        ∧ t.regs = s.regs ∧ t.mrd = s.mrd) ∧
  (∀ (s : State),
    ∃ t, exec (.vddTwpFall) s = .next t ∧
      t.store = { s.store with stopped := true } ∧ t.regs = s.regs ∧ t.mrd = s.mrd ∧ t.out = s.out)

/-- RESET_N holds every domain but the towpath in reset before T2 and is recorded; its release ends a trip and a
sequence given up (R391, R449). A warm restart's drain ends in a reset recorded as WARM (R392). The active core's
kick restarts the watchdog's period; an expiry after it with a cold spare switches cores, without one resets the
device as WATCHDOG where no wider reset runs (R393, R395). The end of a cause's hold starts the warm restart's drain
unless the condition has gone (R396). A supply that falls or a thermal trip takes the rails down and is signalled
(R447, R449). A lost core lock holds the device as RESET_N does; another PLL's loss clears its lock bit, and a lock
that returns sets it (R422). A frequency measurement begins with the write of its index and ends with the count of a
clock that runs (Table 20-6). -/
def Obligations.ResetsWatchdogFaultsAndClocks : Prop :=
  (∀ (s : State),
    s.rst.resetN = false ∧ s.rst.phase ≠ .t1 →
    ∃ t, exec (.resetNAssert) s = .next t ∧
      t.rst.resetN = true ∧ t.rst.phase = .t2 ∧ t.host.assoc = [] ∧ t.host.queue = [] ∧ t.res = [] ∧ t.drives =
        s.drives ∧
      (t.fld Fld.TWP_RST_CAUSE_LAST = 1 ∨ t.fld Fld.TWP_RST_CAUSE_LAST = 2)) ∧
  (∀ (s : State),
    s.rst.resetN = true →
    ∃ t, exec (.resetNRelease) s = .next t ∧
      t.rst.resetN = false ∧ t.rst.tripped = (s.rst.tripped && !s.cool) ∧ t.rst.retries = 0 ∧ t.rst.phase =
        s.rst.phase ∧ t.regs = s.regs) ∧
  (∀ (s : State),
    s.rst.draining = true ∧ (s.rst.drainBy ≤ s.now ∨ s.idleBerths = true) →
    ∃ t, exec (.warmRestartDrainEnd) s = .next t ∧
      t.rst.phase = .t2 ∧ t.rst.draining = false ∧ t.rst.kind = .warm ∧ t.fld Fld.TWP_RST_CAUSE_LAST = 3 ∧
        t.tug.qp = [] ∧ t.drives = s.drives) ∧
  (∀ (c : Fin 2) (s : State),
    s.fld Fld.LKP_CORE_STAT_ACTIVE = c ∧ s.rst.phase = .serving →
    ∃ t, exec (.watchdogKick c) s = .next t ∧
      t.rst.wdogAt = s.now ∧ t.rst.wdogPeriod = s.fld Fld.TWP_WDOG_CFG_PERIOD_MS ∧ t.regs = s.regs ∧ t.out =
        s.out) ∧
  (∀ (s : State),
    s.rst.phase = .serving ∧ s.rst.resetN = false ∧ s.cur < 3 ∧ s.fld Fld.LKP_CORE_STAT_SPARE = 2 →
    s.rst.wdogAt + s.rst.wdogPeriod * 1000000 ≤ s.now →
    ∃ t, exec (.watchdogExpiry) s = .next t ∧
      t.rst.phase = .t2 ∧ t.rst.kind = .watchdog ∧ t.fld Fld.TWP_RST_CAUSE_LAST = 4 ∧ t.drives = s.drives) ∧
  (∀ (s : State),
    s.rst.phase = .serving ∧ s.rst.resetN = false ∧ s.cur < 3 ∧ s.fld Fld.LKP_CORE_STAT_SPARE ≠ 2 →
    s.rst.wdogAt + s.rst.wdogPeriod * 1000000 ≤ s.now →
    ∃ t, exec (.watchdogExpiry) s = .next t ∧
      t.fld Fld.LKP_CORE_STAT_ACTIVE = 1 - s.fld Fld.LKP_CORE_STAT_ACTIVE ∧ t.fld Fld.LKP_CORE_STAT_SPARE = 2 ∧
        t.rst.wdogAt = s.now) ∧
  (∀ (s : State),
    s.resetWidth < 2 ∧ (s.rst.holds.any fun h => decide (h.2 ≤ s.now) && s.causeHolds h.1) = true →
    ∃ t, exec (.faultHoldExpiry) s = .next t ∧
      t.rst.draining = true ∧ t.rst.drainBy = s.now + s.fld Fld.TWP_START_CFG_DRAIN_MS * 1000000 ∧ t.rst.holds =
        [] ∧ t.mrd = s.mrd ∧ t.regs = s.regs) ∧
  (∀ (s : State),
    (s.rst.holds.any fun h => decide (h.2 ≤ s.now) && s.causeHolds h.1) = false →
    ∃ t, exec (.faultHoldExpiry) s = .next t ∧
      t.rst = { s.rst with holds := s.rst.holds.filter fun h => decide (s.now < h.2) } ∧ t.mrd = s.mrd ∧ t.regs
        = s.regs ∧ t.out = s.out) ∧
  (∀ (g : Fin 3) (s : State),
    g < s.rst.railsUp ∧ s.pwr.stage ≠ .committed →
    ∃ t, exec (.pwrgdFall g) s = .next t ∧
      t.rst.railsUp = 0 ∧ t.rst.railsOn = 0 ∧ t.rst.railWait = true ∧ t.rst.powerFault = true ∧ t.rst.phase =
        .t2 ∧ t.reg Reg.CLK_LOCK = 0) ∧
  (∀ (s : State),
    ∃ t, exec (.thermalTrip) s = .next t ∧
      t.rst.tripped = true ∧ t.rst.railsOn = 0 ∧ t.rst.powerFault = true ∧ t.rst.phase = .t2 ∧ t.flag
        Fld.TWP_RST_CAUSE_THERMAL = true) ∧
  (∀ (s : State),
    s.fld Fld.CLK_LOCK_CORE ≠ 0 →
    ∃ t, exec (.coreLossOfLock) s = .next t ∧
      t.rst.coreLost = true ∧ t.fld Fld.CLK_LOCK_CORE = 0 ∧ t.rst.phase = .t2 ∧ t.fld Fld.TWP_RST_CAUSE_LAST = 2) ∧
  (∀ (q : Fin 32) (s : State),
    ∃ t, exec (.pllLossOfLock (.quad q)) s = .next t ∧
      (t.fld Fld.CLK_QUAD_LOCK_QUADS).testBit q = false ∧ t.flag Fld.CLK_LOL_NET_LOL = true ∧ t.mrd = s.mrd) ∧
  (∀ (s : State),
    ∃ t, exec (.pllLossOfLock .endpoint) s = .next t ∧
      t.flag Fld.CLK_LOCK_EPT = false ∧ t.flag Fld.CLK_LOL_EPT_LOL = true ∧ t.flag Fld.EPT_STATUS_LINK = false ∧
        t.mrd = s.mrd) ∧
  (∀ (s : State),
    ∃ t, exec (.pllLockReturn .core) s = .next t ∧
      t.rst.coreLost = false ∧ t.flag Fld.CLK_LOCK_CORE = true ∧ t.mrd = s.mrd ∧ t.out = s.out) ∧
  (∀ (g : Fin 16) (s : State),
    ∃ t, exec (.pllLockReturn (.driveGroup g)) s = .next t ∧
      (t.fld Fld.CLK_LOCK_DRV).testBit g = true ∧ t.rst = s.rst ∧ t.mrd = s.mrd ∧ t.out = s.out) ∧
  (∀ (d : Nat) (i : Nat) (s : State),
    ∃ t, exec (.clkFreqIdxWrite d i) s = .next t ∧
      t.fld Fld.CLK_FREQ_IDX_DOMAIN = d % 16 ∧ t.fld Fld.CLK_FREQ_IDX_INST = i % 64 ∧ t.fld Fld.CLK_FREQ_BUSY =
        1 ∧ t.out = s.out) ∧
  (∀ (khz : Nat) (s : State),
    s.fld Fld.CLK_FREQ_BUSY = 1 →
    ∃ t, exec (.freqMeasurementEnd khz) s = .next t ∧
      t.fld Fld.CLK_FREQ_BUSY = 0 ∧ t.fld Fld.CLK_FREQ_KHZ = (if s.clockRuns (s.fld Fld.CLK_FREQ_IDX_DOMAIN)
        (s.fld Fld.CLK_FREQ_IDX_INST) then min khz (2 ^ 23 - 1) else 0) ∧
      t.mrd = s.mrd ∧ t.out = s.out)

/-- BAR0 reads of a whole register in a block that is on return its visible fields (R17); a read where the map assigns
no register returns 0 outside the windows of the register space (R18); a read of a domain that is off returns 0 and
is recorded (R420). A LO half read latches its HI half for that requester (R19, R421). A write of a plain
configuration block stores each writable field and clears the bits of write-one-to-clear fields written 1 (R17). A
BAR4 write sets an MSI-X entry (R375), BAR5 shows the counters while it is enabled (R377, R407), and an access that
is not one aligned unit is discarded and counted, or aborted (R372). -/
def Obligations.RegisterBusReadsAndWrites : Prop :=
  (∀ (a : Nat) (b : BlockDef) (r : RegDef) (s : State),
    s.serves .bar0 = true ∧ a % 4 = 0 ∧ findBlock a = some b ∧ findReg a = some r ∧ r.half = .whole →
    s.blkOff b.blk (b.inst a) = false ∧ s.mgmtOnly = false →
    ∃ t, exec (.registerRead .bar0 a false) s = .next t ∧
      Out.readData .bar0 (r.visible (s.view b a) % 2 ^ 32) ∈ t.out ∧ t.mrd = s.mrd ∧ t.ept = s.ept) ∧
  (∀ (a : Nat) (b : BlockDef) (s : State),
    s.serves .bar0 = true ∧ a % 4 = 0 ∧ findBlock a = some b ∧ s.blkOff b.blk (b.inst a) = true →
    ∃ t, exec (.registerRead .bar0 a false) s = .next t ∧
      Out.readData .bar0 0 ∈ t.out ∧ t.flag Fld.CLK_LOL_OFF_READ = true ∧ t.mrd = s.mrd) ∧
  (∀ (a : Nat) (b : BlockDef) (r : RegDef) (s : State),
    s.serves .bar0 = true ∧ a % 4 = 0 ∧ findBlock a = some b ∧ findReg a = some r ∧ r.half = .lo →
    s.blkOff b.blk (b.inst a) = false ∧ s.mgmtOnly = false →
    ∃ t, exec (.registerRead .bar0 a false) s = .next t ∧
      t.latched b .bar0 a = some (s.view b (a + 4)) ∧ Out.readData .bar0 (r.visible (s.view b a) % 2 ^ 32) ∈
        t.out) ∧
  (∀ (i : Nat) (s : State),
    s.serves .bar5 = true ∧ i < 4096 ∧ s.mgmtOnly = false ∧ s.blkOff .tal 0 = false ∧ s.flag Fld.TAL_USER_EN_EN =
      true →
    ∃ t, exec (.registerRead .bar5 (8 * i) true) s = .next t ∧
      Out.readData .bar5 (s.tal.cnt.get i % 2 ^ 64) ∈ t.out ∧ t.tal = s.tal ∧ t.regs = s.regs) ∧
  (∀ (who : Requester) (addr : Nat) (s : State),
    s.serves who = true ∧ (match who with | .core _ => false | _ => true) = true ∧ 4 < addr % 8 →
    ∃ t, exec (.registerRead who addr false) s = .next t ∧
      Out.completerAbort ∈ t.out ∧ t.regs = s.regs ∧ t.latch = s.latch) ∧
  (∀ (a : Nat) (v : Nat) (b : BlockDef) (r : RegDef) (s : State),
    s.serves .bar0 = true ∧ a % 4 = 0 ∧ findBlock a = some b ∧ findReg a = some r ∧ r.half = .whole ∧ r.writable =
      true →
    s.blkOff b.blk (b.inst a) = false ∧ s.mgmtOnly = false ∧ (b.blk = .glb ∨ b.blk = .ldg ∨ b.blk = .rsv ∨ b.blk =
      .aqd) →
    ∃ t, exec (.registerWrite .bar0 a v false) s = .next t ∧
      t.reg a = r.written (s.reg a) (BitVec.ofNat 32 v) ∧ t.mrd = s.mrd ∧ t.out = s.out ∧
      (∀ x, x ≠ a → t.reg x = s.reg x)) ∧
  (∀ (i : Nat) (v : Nat) (s : State),
    s.serves .bar4 = true ∧ i < 2048 ∧ v < 2 ^ 32 →
    ∃ t, exec (.registerWrite .bar4 (16 * i + 8) v false) s = .next t ∧
      (t.ept.msix.get i).data = v ∧ (t.ept.msix.get i).addr = (s.ept.msix.get i).addr ∧ t.regs = s.regs ∧ t.out
        = s.out) ∧
  (∀ (addr : Nat) (v : Nat) (s : State),
    s.serves .bar0 = true ∧ addr % 4 ≠ 0 →
    ∃ t, exec (.registerWrite .bar0 addr v false) s = .next t ∧
      t.fld Fld.EPT_ERR_STAT_DISCARDED = min (s.fld Fld.EPT_ERR_STAT_DISCARDED + 1) (2 ^
        Fld.EPT_ERR_STAT_DISCARDED.w - 1) ∧
      t.mrd = s.mrd ∧ t.ept = s.ept ∧ t.out = s.out)

/-- For every command and every state, exec answers a next state whose queue and device time are those of the state: no
command is refused, none faults, and only the idle step moves the device time. The queue is the model's own; that
only idle steps move time is the model's choice (log entry 3). -/
def Obligations.NoCommandTouchesTheQueueOrTheClock : Prop :=
  (∀ (c : Instr) (s : State),
    ∃ t, exec c s = .next t ∧ t.pending = s.pending ∧ t.now = s.now)

/-- For each of the parts fw, timeBase, drives, latch, loHeld, idle, away of the state, and every command whose list
Instr.mayChange (Sys2Proof/Parts.lean) does not name it: exec answers a next state with that part as before.
Instr.mayChange has one line for each of the 378 commands and names what each may change, whichever of its operands
and states. -/
def Obligations.TheWorkingRegistersStayOutOfOtherCommands : Prop :=
  (∀ (c : Instr) (s : State),
    Part.fw ∉ c.mayChange →
    ∃ t, exec c s = .next t ∧ t.fw = s.fw) ∧
  (∀ (c : Instr) (s : State),
    Part.timeBase ∉ c.mayChange →
    ∃ t, exec c s = .next t ∧ t.timeBase = s.timeBase) ∧
  (∀ (c : Instr) (s : State),
    Part.drives ∉ c.mayChange →
    ∃ t, exec c s = .next t ∧ t.drives = s.drives) ∧
  (∀ (c : Instr) (s : State),
    Part.latch ∉ c.mayChange →
    ∃ t, exec c s = .next t ∧ t.latch = s.latch) ∧
  (∀ (c : Instr) (s : State),
    Part.loHeld ∉ c.mayChange →
    ∃ t, exec c s = .next t ∧ t.loHeld = s.loHeld) ∧
  (∀ (c : Instr) (s : State),
    Part.idle ∉ c.mayChange →
    ∃ t, exec c s = .next t ∧ t.idle = s.idle) ∧
  (∀ (c : Instr) (s : State),
    Part.away ∉ c.mayChange →
    ∃ t, exec c s = .next t ∧ t.away = s.away)

/-- For each of the parts res, whf, cnl, slc, cip, net of the state, and every command whose list Instr.mayChange
(Sys2Proof/Parts.lean) does not name it: exec answers a next state with that part as before. Instr.mayChange has one
line for each of the 378 commands and names what each may change, whichever of its operands and states. -/
def Obligations.TheDataBlocksStayOutOfOtherCommands : Prop :=
  (∀ (c : Instr) (s : State),
    Part.res ∉ c.mayChange →
    ∃ t, exec c s = .next t ∧ t.res = s.res) ∧
  (∀ (c : Instr) (s : State),
    Part.whf ∉ c.mayChange →
    ∃ t, exec c s = .next t ∧ t.whf = s.whf) ∧
  (∀ (c : Instr) (s : State),
    Part.cnl ∉ c.mayChange →
    ∃ t, exec c s = .next t ∧ t.cnl = s.cnl) ∧
  (∀ (c : Instr) (s : State),
    Part.slc ∉ c.mayChange →
    ∃ t, exec c s = .next t ∧ t.slc = s.slc) ∧
  (∀ (c : Instr) (s : State),
    Part.cip ∉ c.mayChange →
    ∃ t, exec c s = .next t ∧ t.cip = s.cip) ∧
  (∀ (c : Instr) (s : State),
    Part.net ∉ c.mayChange →
    ∃ t, exec c s = .next t ∧ t.net = s.net)

/-- For each of the parts shelf, port, tal, rst, pwr, ept of the state, and every command whose list Instr.mayChange
(Sys2Proof/Parts.lean) does not name it: exec answers a next state with that part as before. Instr.mayChange has one
line for each of the 378 commands and names what each may change, whichever of its operands and states. -/
def Obligations.TheShelfAndPowerStayOutOfOtherCommands : Prop :=
  (∀ (c : Instr) (s : State),
    Part.shelf ∉ c.mayChange →
    ∃ t, exec c s = .next t ∧ t.shelf = s.shelf) ∧
  (∀ (c : Instr) (s : State),
    Part.port ∉ c.mayChange →
    ∃ t, exec c s = .next t ∧ t.port = s.port) ∧
  (∀ (c : Instr) (s : State),
    Part.tal ∉ c.mayChange →
    ∃ t, exec c s = .next t ∧ t.tal = s.tal) ∧
  (∀ (c : Instr) (s : State),
    Part.rst ∉ c.mayChange →
    ∃ t, exec c s = .next t ∧ t.rst = s.rst) ∧
  (∀ (c : Instr) (s : State),
    Part.pwr ∉ c.mayChange →
    ∃ t, exec c s = .next t ∧ t.pwr = s.pwr) ∧
  (∀ (c : Instr) (s : State),
    Part.ept ∉ c.mayChange →
    ∃ t, exec c s = .next t ∧ t.ept = s.ept)

/-- For each of the parts mft, pair, peerOut, out, free, regs of the state, and every command whose list Instr.mayChange
(Sys2Proof/Parts.lean) does not name it: exec answers a next state with that part as before. Instr.mayChange has one
line for each of the 378 commands and names what each may change, whichever of its operands and states. -/
def Obligations.TheManifestAndPairEnginesStayOutOfOtherCommands : Prop :=
  (∀ (c : Instr) (s : State),
    Part.mft ∉ c.mayChange →
    ∃ t, exec c s = .next t ∧ t.mft = s.mft) ∧
  (∀ (c : Instr) (s : State),
    Part.pair ∉ c.mayChange →
    ∃ t, exec c s = .next t ∧ t.pair = s.pair) ∧
  (∀ (c : Instr) (s : State),
    Part.peerOut ∉ c.mayChange →
    ∃ t, exec c s = .next t ∧ t.peerOut = s.peerOut) ∧
  (∀ (c : Instr) (s : State),
    Part.out ∉ c.mayChange →
    ∃ t, exec c s = .next t ∧ t.out = s.out) ∧
  (∀ (c : Instr) (s : State),
    Part.free ∉ c.mayChange →
    ∃ t, exec c s = .next t ∧ t.free = s.free) ∧
  (∀ (c : Instr) (s : State),
    Part.regs ∉ c.mayChange →
    ∃ t, exec c s = .next t ∧ t.regs = s.regs)

/-- For each of the parts mrd, store, ary, host, brg, tug of the state, and every command whose list Instr.mayChange
(Sys2Proof/Parts.lean) does not name it: exec answers a next state with that part as before. Instr.mayChange has one
line for each of the 378 commands and names what each may change, whichever of its operands and states. -/
def Obligations.TheConfigurationAndEnginesStayOutOfOtherCommands : Prop :=
  (∀ (c : Instr) (s : State),
    Part.mrd ∉ c.mayChange →
    ∃ t, exec c s = .next t ∧ t.mrd = s.mrd) ∧
  (∀ (c : Instr) (s : State),
    Part.store ∉ c.mayChange →
    ∃ t, exec c s = .next t ∧ t.store = s.store) ∧
  (∀ (c : Instr) (s : State),
    Part.ary ∉ c.mayChange →
    ∃ t, exec c s = .next t ∧ t.ary = s.ary) ∧
  (∀ (c : Instr) (s : State),
    Part.host ∉ c.mayChange →
    ∃ t, exec c s = .next t ∧ t.host = s.host) ∧
  (∀ (c : Instr) (s : State),
    Part.brg ∉ c.mayChange →
    ∃ t, exec c s = .next t ∧ t.brg = s.brg) ∧
  (∀ (c : Instr) (s : State),
    Part.tug ∉ c.mayChange →
    ∃ t, exec c s = .next t ∧ t.tug = s.tug)

/-- Each of 53 commands that act inside one block of Table 22-1 answers a next state in which every register outside
that block reads as before: queue-pair, bank, berth, canal, array, wharf, cipher, port, sluice, drive-port, paddle,
weir, lockkeeper, towpath, endpoint, clock, tally, stack and aqueduct commands, named in the Lean statement. -/
def Obligations.CommandsOfOneBlockLeaveOtherBlocksRegisters : Prop :=
  (∀ (entry : Fin 65536) (s : State),
    ∃ t, exec (.tugQptIdxWrite entry) s = .next t ∧
      (∀ x, blkAt x ≠ some .tug → t.reg x = s.reg x)) ∧
  (∀ (e : Fin 256) (req : Nat) (s : State),
    ∃ t, exec (.brgBankCtlWrite e req) s = .next t ∧
      (∀ x, blkAt x ≠ some .brg → t.reg x = s.reg x)) ∧
  (∀ (e : Fin 256) (s : State),
    ∃ t, exec (.bankReturnOn e) s = .next t ∧
      (∀ x, blkAt x ≠ some .brg → t.reg x = s.reg x)) ∧
  (∀ (berth : Nat) (s : State),
    ∃ t, exec (.brgBerthIdxWrite berth) s = .next t ∧
      (∀ x, blkAt x ≠ some .brg → t.reg x = s.reg x)) ∧
  (∀ (e : Fin 256) (s : State),
    ∃ t, exec (.engineParked e) s = .next t ∧
      (∀ x, blkAt x ≠ some .brg → t.reg x = s.reg x)) ∧
  (∀ (p : Fin 7) (v : Word32) (s : State),
    ∃ t, exec (.cnlPartCfgWrite p v) s = .next t ∧
      (∀ x, blkAt x ≠ some .cnl → t.reg x = s.reg x)) ∧
  (∀ (v : Word32) (s : State),
    ∃ t, exec (.cnlSpillCfgWrite v) s = .next t ∧
      (∀ x, blkAt x ≠ some .cnl → t.reg x = s.reg x)) ∧
  (∀ (att : Fin 128) (cls : Fin 8) (s : State),
    ∃ t, exec (.cnlAttIdxWrite att cls) s = .next t ∧
      (∀ x, blkAt x ≠ some .cnl → t.reg x = s.reg x)) ∧
  (∀ (a : Fin 16) (role : Nat) (s : State),
    ∃ t, exec (.aryRemIdxWrite a role) s = .next t ∧
      (∀ x, blkAt x ≠ some .ary → t.reg x = s.reg x)) ∧
  (∀ (s : State),
    ∃ t, exec (.maintRangeComplete) s = .next t ∧
      (∀ x, blkAt x ≠ some .whf → t.reg x = s.reg x)) ∧
  (∀ (s : State),
    ∃ t, exec (.wharfEnable) s = .next t ∧
      (∀ x, blkAt x ≠ some .whf → t.reg x = s.reg x)) ∧
  (∀ (s : State),
    ∃ t, exec (.wharfDisable) s = .next t ∧
      (∀ x, blkAt x ≠ some .whf → t.reg x = s.reg x)) ∧
  (∀ (en : Bool) (s : State),
    ∃ t, exec (.lighterEnWrite en) s = .next t ∧
      (∀ x, blkAt x ≠ some .whf → t.reg x = s.reg x)) ∧
  (∀ (slot : Nat) (s : State),
    ∃ t, exec (.cipSlotIdxWrite slot) s = .next t ∧
      (∀ x, blkAt x ≠ some .cip → t.reg x = s.reg x)) ∧
  (∀ (repetition : Bool) (proportion : Bool) (s : State),
    ∃ t, exec (.entropyWindow repetition proportion) s = .next t ∧
      (∀ x, blkAt x ≠ some .cip → t.reg x = s.reg x)) ∧
  (∀ (l : Fin 10) (s : State),
    ∃ t, exec (.drbgReseed l) s = .next t ∧
      (∀ x, blkAt x ≠ some .cip → t.reg x = s.reg x)) ∧
  (∀ (port : Fin 128) (cls : Option (Fin 8)) (s : State),
    ∃ t, exec (.pauseTimerExpiry port cls) s = .next t ∧
      (∀ x, blkAt x ≠ some .net → t.reg x = s.reg x)) ∧
  (∀ (port : Fin 128) (eee : Bool) (s : State),
    ∃ t, exec (.linkUp port eee) s = .next t ∧
      (∀ x, blkAt x ≠ some .net → t.reg x = s.reg x)) ∧
  (∀ (port : Fin 128) (rx : Bool) (s : State),
    ∃ t, exec (.lpiExit port rx) s = .next t ∧
      (∀ x, blkAt x ≠ some .net → t.reg x = s.reg x)) ∧
  (∀ (port : Fin 128) (mode : Nat) (strictN : Nat) (s : State),
    ∃ t, exec (.slcModeWrite port mode strictN) s = .next t ∧
      (∀ x, blkAt x ≠ some .slc → t.reg x = s.reg x)) ∧
  (∀ (bay : Fin 48) (s : State),
    ∃ t, exec (.driveShutdownComplete bay) s = .next t ∧
      (∀ x, blkAt x ≠ some .drv → t.reg x = s.reg x)) ∧
  (∀ (bay : Fin 48) (ok : Bool) (temp : BitVec 8) (cw : BitVec 8) (life : BitVec 8) (s : State),
    ∃ t, exec (.miPoll bay ok temp cw life) s = .next t ∧
      (∀ x, blkAt x ≠ some .drv → t.reg x = s.reg x)) ∧
  (∀ (g : Fin 16) (mode : Nat) (sris : Bool) (s : State),
    ∃ t, exec (.drvGrpCfgWrite g mode sris) s = .next t ∧
      (∀ x, blkAt x ≠ some .drv → t.reg x = s.reg x)) ∧
  (∀ (bay : Fin 48) (speed : Nat) (width : Nat) (s : State),
    ∃ t, exec (.driveLinkUp bay speed width) s = .next t ∧
      (∀ x, blkAt x ≠ some .drv → t.reg x = s.reg x)) ∧
  (∀ (bay : Fin 48) (s : State),
    ∃ t, exec (.drivePerstRelease bay) s = .next t ∧
      (∀ x, blkAt x ≠ some .drv → t.reg x = s.reg x)) ∧
  (∀ (bay : Fin 48) (main : Bool) (s : State),
    ∃ t, exec (.currentLimitOnset bay main) s = .next t ∧
      (∀ x, blkAt x ≠ some .pdl → t.reg x = s.reg x)) ∧
  (∀ (bay : Fin 48) (s : State),
    ∃ t, exec (.currentLimitClear bay) s = .next t ∧
      (∀ x, blkAt x ≠ some .pdl → t.reg x = s.reg x)) ∧
  (∀ (bay : Fin 48) (s : State),
    ∃ t, exec (.faultCountClear bay) s = .next t ∧
      (∀ x, blkAt x ≠ some .pdl → t.reg x = s.reg x)) ∧
  (∀ (bay : Fin 48) (s : State),
    ∃ t, exec (.paddleRetryExpiry bay) s = .next t ∧
      (∀ x, blkAt x ≠ some .pdl → t.reg x = s.reg x)) ∧
  (∀ (f : Fin 2) (s : State),
    ∃ t, exec (.feedForwardTurnOn f) s = .next t ∧
      (∀ x, blkAt x ≠ some .wir → t.reg x = s.reg x)) ∧
  (∀ (f : Fin 2) (s : State),
    ∃ t, exec (.feedHealthDegraded f) s = .next t ∧
      (∀ x, blkAt x ≠ some .wir → t.reg x = s.reg x)) ∧
  (∀ (f : Fin 2) (s : State),
    ∃ t, exec (.feedHealthOpen f) s = .next t ∧
      (∀ x, blkAt x ≠ some .wir → t.reg x = s.reg x)) ∧
  (∀ (s : State),
    ∃ t, exec (.feedDrillTimer) s = .next t ∧
      (∀ x, blkAt x ≠ some .wir → t.reg x = s.reg x)) ∧
  (∀ (s : State),
    ∃ t, exec (.wirDrillNow) s = .next t ∧
      (∀ x, blkAt x ≠ some .wir → t.reg x = s.reg x)) ∧
  (∀ (s : State),
    ∃ t, exec (.lkpDrillTimer) s = .next t ∧
      (∀ x, blkAt x ≠ some .lkp → t.reg x = s.reg x)) ∧
  (∀ (s : State),
    ∃ t, exec (.lkpDrillNow) s = .next t ∧
      (∀ x, blkAt x ≠ some .lkp → t.reg x = s.reg x)) ∧
  (∀ (g : Fin 8) (s : State),
    ∃ t, exec (.tugGroupGate g) s = .next t ∧
      (∀ x, blkAt x ≠ some .twp → t.reg x = s.reg x)) ∧
  (∀ (ok : Bool) (s : State),
    ∃ t, exec (.moorJournalWrite ok) s = .next t ∧
      (∀ x, blkAt x ≠ some .twp → t.reg x = s.reg x)) ∧
  (∀ (outcome : Fin 3) (s : State),
    ∃ t, exec (.journalCompaction outcome) s = .next t ∧
      (∀ x, blkAt x ≠ some .twp → t.reg x = s.reg x)) ∧
  (∀ (i : Fin 64) (valid : Bool) (rd : Bool) (wr : Bool) (space : Nat) (sizeLog2 : Nat) (s : State),
    ∃ t, exec (.eptWinCtlWrite i valid rd wr space sizeLog2) s = .next t ∧
      (∀ x, blkAt x ≠ some .ept → t.reg x = s.reg x)) ∧
  (∀ (speed : Nat) (width : Nat) (bme : Bool) (msixEn : Bool) (fmask : Bool) (tenBit : Bool) (s : State),
    ∃ t, exec (.endpointLinkUp speed width bme msixEn fmask tenBit) s = .next t ∧
      (∀ x, blkAt x ≠ some .ept → t.reg x = s.reg x)) ∧
  (∀ (s : State),
    ∃ t, exec (.endpointLinkDown) s = .next t ∧
      (∀ x, blkAt x ≠ some .ept → t.reg x = s.reg x)) ∧
  (∀ (domain : Nat) (inst : Nat) (s : State),
    ∃ t, exec (.clkFreqIdxWrite domain inst) s = .next t ∧
      (∀ x, blkAt x ≠ some .clk → t.reg x = s.reg x)) ∧
  (∀ (khz : Nat) (s : State),
    ∃ t, exec (.freqMeasurementEnd khz) s = .next t ∧
      (∀ x, blkAt x ≠ some .clk → t.reg x = s.reg x)) ∧
  (∀ (n : Fin 4096) (v : Word32) (s : State),
    ∃ t, exec (.talSelWrite n v) s = .next t ∧
      (∀ x, blkAt x ≠ some .tal → t.reg x = s.reg x)) ∧
  (∀ (n : Fin 4096) (v : Word32) (s : State),
    ∃ t, exec (.talThrWrite n v) s = .next t ∧
      (∀ x, blkAt x ≠ some .tal → t.reg x = s.reg x)) ∧
  (∀ (index : Nat) (all : Bool) (s : State),
    ∃ t, exec (.talClrGo index all) s = .next t ∧
      (∀ x, blkAt x ≠ some .tal → t.reg x = s.reg x)) ∧
  (∀ (s : State),
    ∃ t, exec (.dumpTick) s = .next t ∧
      (∀ x, blkAt x ≠ some .tal → t.reg x = s.reg x)) ∧
  (∀ (k : Fin 16) (req : Nat) (s : State),
    ∃ t, exec (.spbBankCtlWrite k req) s = .next t ∧
      (∀ x, blkAt x ≠ some .spb → t.reg x = s.reg x)) ∧
  (∀ (stack : Fin 4) (celsius : Int) (s : State),
    ∃ t, exec (.stackTempChange stack celsius) s = .next t ∧
      (∀ x, blkAt x ≠ some .rsv → t.reg x = s.reg x)) ∧
  (∀ (aqd : Bool) (s : State),
    ∃ t, exec (.heartbeatPathLost aqd) s = .next t ∧
      (∀ x, blkAt x ≠ some .aqd → t.reg x = s.reg x)) ∧
  (∀ (lane : Fin 2) (s : State),
    ∃ t, exec (.aqueductLaneDown lane) s = .next t ∧
      (∀ x, blkAt x ≠ some .aqd → t.reg x = s.reg x)) ∧
  (∀ (lane : Fin 2) (s : State),
    ∃ t, exec (.aqueductLaneUp lane) s = .next t ∧
      (∀ x, blkAt x ≠ some .aqd → t.reg x = s.reg x))

/-- After reset the reservoir, the latches, the held halves and the register store are in canonical form, device time
lies on the 40 ns grid, and the event log holds no more than 1,024 entries. -/
def Obligations.InvariantsHoldAtReset : Prop :=
  (State.reset.inv ∧ Tab.wfD regStart State.reset.regs = true ∧ State.reset.mft.events.length ≤ 1024)

/-- From every state in which the reservoir, the HI latches and the held LO halves are in canonical form (keys rise,
nothing listed that an unlisted key would read) and device time is a multiple of 40 ns (R419), every step, whatever
command is in front, answers a next state in which they are. Equal memories are therefore equal data. The canonical
form is the model's own. -/
def Obligations.EveryStepKeepsTheMemoryAndTheTimeGrid : Prop :=
  (∀ (s : State),
    Memory.wf s.res = true ∧ Tab.wf s.latch = true ∧ Tab.wf s.loHeld = true ∧ s.now % 40 = 0 →
    ∃ t, step s = .next t ∧ t.inv)

/-- From every state whose register store is in canonical form (offsets rise, no entry equals the register's start
value), every step answers a next state whose register store is. The canonical form is the model's own. -/
def Obligations.EveryStepKeepsTheRegisterStore : Prop :=
  (∀ (s : State),
    Tab.wfD regStart s.regs = true →
    ∃ t, step s = .next t ∧ Tab.wfD regStart t.regs = true)

/-- From every state whose event log holds at most 1,024 entries, every step answers a next state whose log holds at
most 1,024. That a full log drops its oldest entry is the model's choice (log entry 8). -/
def Obligations.TheEventLogNeverHoldsMoreThan1024Entries : Prop :=
  (∀ (s : State),
    s.mft.events.length ≤ 1024 →
    ∃ t, step s = .next t ∧ t.mft.events.length ≤ 1024)
end

