-- ==== Sys2Proof/Laws/Tab.lean ====
section
/-! SUPPORT. What reading and writing a sparse table does, and that every operation keeps the canonical form. -/

namespace Sys2Proof.Machine

section Read

variable {α : Type}

theorem Tab.getD_erase_ne (d : Nat → α) (t : Tab α) {j k : Nat} (h : j ≠ k) :
    Tab.getD d (Tab.erase t j) k = Tab.getD d t k := by
  induction t with
  | nil => rfl
  | cons e t ih =>
    obtain ⟨i, v⟩ := e
    simp only [Tab.erase] at ih ⊢
    by_cases hi : i = j
    · subst hi; simp [Tab.getD, ih, h]
    · simp [Tab.getD, hi, ih]

theorem Tab.getD_erase_eq (d : Nat → α) (t : Tab α) (k : Nat) : Tab.getD d (Tab.erase t k) k = d k := by
  induction t with
  | nil => rfl
  | cons e t ih =>
    obtain ⟨i, v⟩ := e
    simp only [Tab.erase] at ih ⊢
    by_cases hi : i = k
    · subst hi; simp [ih]
    · simp [Tab.getD, hi, ih]

theorem Tab.getD_insert (d : Nat → α) (t : Tab α) (j k : Nat) (v : α) :
    Tab.getD d (Tab.insert t j v) k = if j = k then v else Tab.getD d t k := by
  induction t with
  | nil => rfl
  | cons e t ih =>
    obtain ⟨i, w⟩ := e
    simp only [Tab.insert]
    split
    · simp [Tab.getD]
    · split
      · subst_vars; simp only [Tab.getD]; split <;> rfl
      · simp only [Tab.getD, ih]; split
        · subst_vars; split
          · omega
          · rfl
        · rfl

variable [DecidableEq α]

/-- A read after a write: the value written at its key, every other key as before. -/
theorem Tab.getD_setD (d : Nat → α) (t : Tab α) (j k : Nat) (v : α) :
    Tab.getD d (Tab.setD d t j v) k = if j = k then v else Tab.getD d t k := by
  unfold Tab.setD
  split
  · rename_i h
    by_cases hk : j = k
    · subst hk; simp [Tab.getD_erase_eq, h]
    · simp [Tab.getD_erase_ne d t hk, hk]
  · exact Tab.getD_insert d t j k v

variable [Inhabited α]

theorem Tab.get_set (t : Tab α) (j k : Nat) (v : α) :
    (t.set j v).get k = if j = k then v else t.get k := Tab.getD_setD _ t j k v

@[simp] theorem Tab.get_set_eq (t : Tab α) (k : Nat) (v : α) : (t.set k v).get k = v := by
  simp [Tab.get_set]

theorem Tab.get_set_ne (t : Tab α) {j k : Nat} (v : α) (h : j ≠ k) : (t.set j v).get k = t.get k := by
  simp [Tab.get_set, h]

theorem Tab.get_upd (t : Tab α) (j k : Nat) (f : α → α) :
    (t.upd j f).get k = if j = k then f (t.get k) else t.get k := by
  unfold Tab.upd; rw [Tab.get_set]; split
  · subst_vars; rfl
  · rfl

@[simp] theorem Tab.get_upd_eq (t : Tab α) (k : Nat) (f : α → α) : (t.upd k f).get k = f (t.get k) := by
  simp [Tab.get_upd]

theorem Tab.get_upd_ne (t : Tab α) {j k : Nat} (f : α → α) (h : j ≠ k) : (t.upd j f).get k = t.get k := by
  simp [Tab.get_upd, h]

omit [DecidableEq α] in
@[simp] theorem Tab.get_nil (k : Nat) : Tab.get ([] : Tab α) k = default := rfl

end Read

section Wf

variable {α : Type}

theorem Tab.risesFrom_le {b c : Nat} (h : b ≤ c) {t : Tab α} (ht : Tab.risesFrom c t = true) :
    Tab.risesFrom b t = true := by
  cases t with
  | nil => rfl
  | cons e t =>
    simp only [Tab.risesFrom, Bool.and_eq_true, decide_eq_true_eq] at ht ⊢
    exact ⟨by omega, ht.2⟩

theorem Tab.risesFrom_filter (p : Nat × α → Bool) {t : Tab α} :
    ∀ {b : Nat}, Tab.risesFrom b t = true → Tab.risesFrom b (t.filter p) = true := by
  induction t with
  | nil => intro b h; exact h
  | cons e t ih =>
    intro b h
    simp only [Tab.risesFrom, Bool.and_eq_true, decide_eq_true_eq] at h
    simp only [List.filter]
    split
    · simp only [Tab.risesFrom, Bool.and_eq_true, decide_eq_true_eq]
      exact ⟨h.1, ih h.2⟩
    · exact Tab.risesFrom_le (by omega) (ih h.2)

theorem Tab.risesFrom_insert (k : Nat) (v : α) {t : Tab α} :
    ∀ {b : Nat}, b ≤ k → Tab.risesFrom b t = true → Tab.risesFrom b (Tab.insert t k v) = true := by
  induction t with
  | nil => intro b hk _; simp [Tab.insert, Tab.risesFrom, hk]
  | cons e t ih =>
    intro b hk h
    obtain ⟨j, w⟩ := e
    simp only [Tab.risesFrom, Bool.and_eq_true, decide_eq_true_eq] at h
    simp only [Tab.insert]
    split
    · simp only [Tab.risesFrom, Bool.and_eq_true, decide_eq_true_eq]; exact ⟨hk, by omega, h.2⟩
    · split
      · simp only [Tab.risesFrom, Bool.and_eq_true, decide_eq_true_eq]; subst_vars; exact ⟨hk, h.2⟩
      · simp only [Tab.risesFrom, Bool.and_eq_true, decide_eq_true_eq]; exact ⟨h.1, ih (by omega) h.2⟩

theorem Tab.mem_insert {k : Nat} {v : α} {t : Tab α} {e : Nat × α} (h : e ∈ Tab.insert t k v) :
    e = (k, v) ∨ e ∈ t := by
  induction t with
  | nil => simp only [Tab.insert, List.mem_singleton] at h; exact .inl h
  | cons a t ih =>
    obtain ⟨j, w⟩ := a
    simp only [Tab.insert] at h
    split at h
    · rcases List.mem_cons.1 h with h | h
      · exact .inl h
      · exact .inr h
    · split at h
      · rcases List.mem_cons.1 h with h | h
        · exact .inl h
        · exact .inr (List.mem_cons_of_mem _ h)
      · rcases List.mem_cons.1 h with h | h
        · exact .inr (h ▸ List.mem_cons_self)
        · rcases ih h with h | h
          · exact .inl h
          · exact .inr (List.mem_cons_of_mem _ h)

variable [DecidableEq α]

theorem Tab.wfD_nil (d : Nat → α) : Tab.wfD d [] = true := rfl

/-- A table of which entries are dropped keeps the canonical form. -/
theorem Tab.wfD_filter (d : Nat → α) {t : Tab α} (p : Nat × α → Bool) (h : Tab.wfD d t = true) :
    Tab.wfD d (t.filter p) = true := by
  simp only [Tab.wfD, Bool.and_eq_true, List.all_eq_true] at h ⊢
  exact ⟨Tab.risesFrom_filter _ h.1, fun e he => h.2 e (List.mem_filter.1 he).1⟩

theorem Tab.wfD_erase (d : Nat → α) {t : Tab α} (k : Nat) (h : Tab.wfD d t = true) :
    Tab.wfD d (Tab.erase t k) = true := Tab.wfD_filter d _ h

/-- A write keeps the canonical form. -/
theorem Tab.wfD_setD (d : Nat → α) {t : Tab α} (k : Nat) (v : α) (h : Tab.wfD d t = true) :
    Tab.wfD d (Tab.setD d t k v) = true := by
  unfold Tab.setD
  split
  · exact Tab.wfD_erase d k h
  · rename_i hv
    simp only [Tab.wfD, Bool.and_eq_true, List.all_eq_true] at h ⊢
    refine ⟨Tab.risesFrom_insert k v (Nat.zero_le _) h.1, fun e he => ?_⟩
    rcases Tab.mem_insert he with rfl | he
    · simp [hv]
    · exact h.2 e he

variable [Inhabited α]

@[simp] theorem Tab.wf_nil : Tab.wf ([] : Tab α) = true := rfl

theorem Tab.wf_filter {t : Tab α} (p : Nat × α → Bool) (h : t.wf = true) : Tab.wf (t.filter p) = true :=
  Tab.wfD_filter _ p h

theorem Tab.wf_erase {t : Tab α} (k : Nat) (h : t.wf = true) : Tab.wf (Tab.erase t k) = true :=
  Tab.wfD_erase _ k h

theorem Tab.wf_set {t : Tab α} (k : Nat) (v : α) (h : t.wf = true) : (t.set k v).wf = true :=
  Tab.wfD_setD _ k v h

theorem Tab.wf_upd {t : Tab α} (k : Nat) (f : α → α) (h : t.wf = true) : (t.upd k f).wf = true :=
  Tab.wf_set k _ h

theorem Tab.wf_foldl_set {β : Type} (l : List β) (key : β → Nat) (val : Tab α → β → α) :
    ∀ {t : Tab α}, t.wf = true → (l.foldl (fun acc e => acc.set (key e) (val acc e)) t).wf = true := by
  induction l with
  | nil => intro t h; exact h
  | cons e l ih => intro t h; exact ih (Tab.wf_set _ _ h)

theorem Tab.wf_mapAll (t : Tab α) (f : Nat → α → α) : (t.mapAll f).wf = true := by
  unfold Tab.mapAll
  induction t with
  | nil => rfl
  | cons e t ih => exact Tab.wf_set _ _ ih

/-- Changing every listed entry by an `f` that keeps what an unlisted key reads as. -/
theorem Tab.get_mapAll (t : Tab α) (f : Nat → α → α) (k : Nat) (h : f k default = default) :
    (t.mapAll f).get k = f k (t.get k) := by
  unfold Tab.mapAll
  induction t with
  | nil => exact h.symm
  | cons e t ih =>
    obtain ⟨j, v⟩ := e
    simp only [List.foldr_cons, Tab.get_set, ih]
    simp only [Tab.get, Tab.getD]
    by_cases hj : j = k <;> simp [hj]

end Wf

end Sys2Proof.Machine
end

