-- ==== Sys2Proof/Laws/Bits.lean ====
section
/-! SUPPORT. Bits of a number, and reading a register or a field after one was written. -/

namespace Sys2Proof

theorem bitsOf_lt (v lo w : Nat) : bitsOf v lo w < 2 ^ w := Nat.mod_lt _ (Nat.two_pow_pos w)

theorem setBits_testBit (v lo w x i : Nat) :
    (setBits v lo w x).testBit i = if lo ≤ i ∧ i < lo + w then x.testBit (i - lo) else v.testBit i := by
  have h1 : v % 2 ^ lo < 2 ^ lo := Nat.mod_lt _ (Nat.two_pow_pos lo)
  have h2 : x % 2 ^ w < 2 ^ w := Nat.mod_lt _ (Nat.two_pow_pos w)
  have h3 : x % 2 ^ w * 2 ^ lo + v % 2 ^ lo < 2 ^ (lo + w) := by
    calc x % 2 ^ w * 2 ^ lo + v % 2 ^ lo < x % 2 ^ w * 2 ^ lo + 2 ^ lo := by omega
      _ = (x % 2 ^ w + 1) * 2 ^ lo := by rw [Nat.add_mul, Nat.one_mul]
      _ ≤ 2 ^ w * 2 ^ lo := Nat.mul_le_mul_right _ h2
      _ = 2 ^ (lo + w) := by rw [← Nat.pow_add, Nat.add_comm]
  unfold setBits
  rw [Nat.add_assoc, Nat.mul_comm (v / _), Nat.testBit_two_pow_mul_add _ h3]
  split
  · rename_i hi
    rw [Nat.mul_comm (x % _), Nat.testBit_two_pow_mul_add _ h1]
    split
    · have : ¬ (lo ≤ i ∧ i < lo + w) := by omega
      simp [this, Nat.testBit_mod_two_pow]; omega
    · have : lo ≤ i ∧ i < lo + w := by omega
      simp [this, Nat.testBit_mod_two_pow]; omega
  · have : ¬ (lo ≤ i ∧ i < lo + w) := by omega
    simp only [this, if_false, Nat.testBit_div_two_pow]
    congr 1; omega

theorem bitsOf_testBit (v lo w i : Nat) :
    (bitsOf v lo w).testBit i = (decide (i < w) && v.testBit (i + lo)) := by
  unfold bitsOf
  rw [Nat.testBit_mod_two_pow, Nat.testBit_div_two_pow]

/-- A field that has been written reads the low bits written. -/
theorem bitsOf_setBits_same (v lo w x : Nat) : bitsOf (setBits v lo w x) lo w = x % 2 ^ w := by
  apply Nat.eq_of_testBit_eq; intro i
  rw [bitsOf_testBit, setBits_testBit, Nat.testBit_mod_two_pow]
  by_cases h : i < w
  · have : lo ≤ i + lo ∧ i + lo < lo + w := by omega
    simp [h, this]
  · simp [h]

/-- A field beside the one written reads as before. -/
theorem bitsOf_setBits_apart (v lo w x lo' w' : Nat) (h : lo + w ≤ lo' ∨ lo' + w' ≤ lo) :
    bitsOf (setBits v lo w x) lo' w' = bitsOf v lo' w' := by
  apply Nat.eq_of_testBit_eq; intro i
  rw [bitsOf_testBit, setBits_testBit, bitsOf_testBit]
  by_cases hi : i < w'
  · have : ¬ (lo ≤ i + lo' ∧ i + lo' < lo + w) := by omega
    simp [hi, this]
  · simp [hi]

theorem setBits_lt (v lo w x n : Nat) (hv : v < 2 ^ n) (h : lo + w ≤ n) : setBits v lo w x < 2 ^ n := by
  apply Nat.lt_pow_two_of_testBit; intro i hi
  rw [setBits_testBit]
  have : ¬ (lo ≤ i ∧ i < lo + w) := by omega
  simp only [this, if_false]
  exact Nat.testBit_lt_two_pow (Nat.lt_of_lt_of_le hv (Nat.pow_le_pow_right (by decide) hi))

end Sys2Proof

namespace Sys2Proof.Machine

/-- Two fields that share no bit. -/
def Fld.apart (f g : Fld) : Bool :=
  f.addr != g.addr || decide (f.lo + f.w ≤ g.lo) || decide (g.lo + g.w ≤ f.lo)

theorem reg_setReg (s : State) (a b : Nat) (v : Word32) :
    (s.setReg a v).reg b = if a = b then v else s.reg b := by
  simp [State.reg, State.setReg, Tab.getD_setD]

@[simp] theorem reg_setReg_eq (s : State) (a : Nat) (v : Word32) : (s.setReg a v).reg a = v := by
  simp [reg_setReg]

theorem reg_setReg_ne (s : State) {a b : Nat} (v : Word32) (h : a ≠ b) : (s.setReg a v).reg b = s.reg b := by
  simp [reg_setReg, h]

theorem fld_lt (s : State) (f : Fld) : s.fld f < 2 ^ f.w := bitsOf_lt _ _ _

/-- A field that lies in 32 bits reads what was put into it. -/
theorem fld_setFld_same (s : State) (f : Fld) (v : Nat) (h : f.lo + f.w ≤ 32) :
    (s.setFld f v).fld f = v % 2 ^ f.w := by
  have : setBits (s.reg f.addr).toNat f.lo f.w v < 2 ^ 32 := setBits_lt _ _ _ _ _ (s.reg f.addr).isLt h
  simp only [State.fld, State.setFld, reg_setReg_eq, BitVec.toNat_ofNat, Nat.mod_eq_of_lt this,
    bitsOf_setBits_same]

/-- Writing one field leaves every field apart from it. -/
theorem fld_setFld_apart (s : State) (f g : Fld) (v : Nat) (hf : f.lo + f.w ≤ 32) (h : f.apart g = true) :
    (s.setFld f v).fld g = s.fld g := by
  have hlt : setBits (s.reg f.addr).toNat f.lo f.w v < 2 ^ 32 := setBits_lt _ _ _ _ _ (s.reg f.addr).isLt hf
  simp only [State.fld, State.setFld, reg_setReg]
  split
  · rename_i ha
    rw [← ha]
    simp only [Fld.apart, ha, bne_self_eq_false, Bool.false_or, Bool.or_eq_true, decide_eq_true_eq] at h
    rw [BitVec.toNat_ofNat, Nat.mod_eq_of_lt hlt]
    exact bitsOf_setBits_apart _ _ _ _ _ _ h
  · rfl

end Sys2Proof.Machine
end

