-- ==== Sys2Proof/Laws/State.lean ====
section
/-! SUPPORT. One lemma per field per update of the state, each true by unfolding, so that no later proof unfolds a record
update. (rfl) in parentheses keeps simp from proving them by definitional unfolding, which the kernel would repeat. -/

namespace Sys2Proof.Machine

variable (s : State)

@[simp] theorem emit_regs (o : Out) : (s.emit o).regs = s.regs := (rfl)
@[simp] theorem emit_latch (o : Out) : (s.emit o).latch = s.latch := (rfl)
@[simp] theorem emit_loHeld (o : Out) : (s.emit o).loHeld = s.loHeld := (rfl)
@[simp] theorem emit_mrd (o : Out) : (s.emit o).mrd = s.mrd := (rfl)
@[simp] theorem emit_store (o : Out) : (s.emit o).store = s.store := (rfl)
@[simp] theorem emit_fw (o : Out) : (s.emit o).fw = s.fw := (rfl)
@[simp] theorem emit_rst (o : Out) : (s.emit o).rst = s.rst := (rfl)
@[simp] theorem emit_pwr (o : Out) : (s.emit o).pwr = s.pwr := (rfl)
@[simp] theorem emit_mft (o : Out) : (s.emit o).mft = s.mft := (rfl)
@[simp] theorem emit_ept (o : Out) : (s.emit o).ept = s.ept := (rfl)
@[simp] theorem emit_shelf (o : Out) : (s.emit o).shelf = s.shelf := (rfl)
@[simp] theorem emit_host (o : Out) : (s.emit o).host = s.host := (rfl)
@[simp] theorem emit_brg (o : Out) : (s.emit o).brg = s.brg := (rfl)
@[simp] theorem emit_tug (o : Out) : (s.emit o).tug = s.tug := (rfl)
@[simp] theorem emit_tal (o : Out) : (s.emit o).tal = s.tal := (rfl)
@[simp] theorem emit_net (o : Out) : (s.emit o).net = s.net := (rfl)
@[simp] theorem emit_pair (o : Out) : (s.emit o).pair = s.pair := (rfl)
@[simp] theorem emit_peerOut (o : Out) : (s.emit o).peerOut = s.peerOut := (rfl)
@[simp] theorem emit_ary (o : Out) : (s.emit o).ary = s.ary := (rfl)
@[simp] theorem emit_cip (o : Out) : (s.emit o).cip = s.cip := (rfl)
@[simp] theorem emit_slc (o : Out) : (s.emit o).slc = s.slc := (rfl)
@[simp] theorem emit_cnl (o : Out) : (s.emit o).cnl = s.cnl := (rfl)
@[simp] theorem emit_whf (o : Out) : (s.emit o).whf = s.whf := (rfl)
@[simp] theorem emit_res (o : Out) : (s.emit o).res = s.res := (rfl)
@[simp] theorem emit_port (o : Out) : (s.emit o).port = s.port := (rfl)
@[simp] theorem emit_idle (o : Out) : (s.emit o).idle = s.idle := (rfl)
@[simp] theorem emit_drives (o : Out) : (s.emit o).drives = s.drives := (rfl)
@[simp] theorem emit_away (o : Out) : (s.emit o).away = s.away := (rfl)
@[simp] theorem emit_out (o : Out) : (s.emit o).out = s.out ++ [o] := (rfl)
@[simp] theorem emit_pending (o : Out) : (s.emit o).pending = s.pending := (rfl)
@[simp] theorem emit_now (o : Out) : (s.emit o).now = s.now := (rfl)
@[simp] theorem emit_timeBase (o : Out) : (s.emit o).timeBase = s.timeBase := (rfl)
@[simp] theorem emit_free (o : Out) : (s.emit o).free = s.free := (rfl)
@[simp] theorem emit_reg (o : Out) (x : Nat) : (s.emit o).reg x = s.reg x := (rfl)
@[simp] theorem emit_fld (o : Out) (x : Fld) : (s.emit o).fld x = s.fld x := (rfl)
@[simp] theorem emit_flag (o : Out) (x : Fld) : (s.emit o).flag x = s.flag x := (rfl)

@[simp] theorem tick_regs : (s.tick ).regs = s.regs := (rfl)
@[simp] theorem tick_latch : (s.tick ).latch = s.latch := (rfl)
@[simp] theorem tick_loHeld : (s.tick ).loHeld = s.loHeld := (rfl)
@[simp] theorem tick_mrd : (s.tick ).mrd = s.mrd := (rfl)
@[simp] theorem tick_store : (s.tick ).store = s.store := (rfl)
@[simp] theorem tick_fw : (s.tick ).fw = s.fw := (rfl)
@[simp] theorem tick_rst : (s.tick ).rst = s.rst := (rfl)
@[simp] theorem tick_pwr : (s.tick ).pwr = s.pwr := (rfl)
@[simp] theorem tick_mft : (s.tick ).mft = s.mft := (rfl)
@[simp] theorem tick_ept : (s.tick ).ept = s.ept := (rfl)
@[simp] theorem tick_shelf : (s.tick ).shelf = s.shelf := (rfl)
@[simp] theorem tick_host : (s.tick ).host = s.host := (rfl)
@[simp] theorem tick_brg : (s.tick ).brg = s.brg := (rfl)
@[simp] theorem tick_tug : (s.tick ).tug = s.tug := (rfl)
@[simp] theorem tick_tal : (s.tick ).tal = s.tal := (rfl)
@[simp] theorem tick_net : (s.tick ).net = s.net := (rfl)
@[simp] theorem tick_pair : (s.tick ).pair = s.pair := (rfl)
@[simp] theorem tick_peerOut : (s.tick ).peerOut = s.peerOut := (rfl)
@[simp] theorem tick_ary : (s.tick ).ary = s.ary := (rfl)
@[simp] theorem tick_cip : (s.tick ).cip = s.cip := (rfl)
@[simp] theorem tick_slc : (s.tick ).slc = s.slc := (rfl)
@[simp] theorem tick_cnl : (s.tick ).cnl = s.cnl := (rfl)
@[simp] theorem tick_whf : (s.tick ).whf = s.whf := (rfl)
@[simp] theorem tick_res : (s.tick ).res = s.res := (rfl)
@[simp] theorem tick_port : (s.tick ).port = s.port := (rfl)
@[simp] theorem tick_idle : (s.tick ).idle = s.idle := (rfl)
@[simp] theorem tick_drives : (s.tick ).drives = s.drives := (rfl)
@[simp] theorem tick_away : (s.tick ).away = s.away := (rfl)
@[simp] theorem tick_out : (s.tick ).out = s.out := (rfl)
@[simp] theorem tick_pending : (s.tick ).pending = s.pending := (rfl)
@[simp] theorem tick_now : (s.tick ).now = s.now := (rfl)
@[simp] theorem tick_timeBase : (s.tick ).timeBase = s.timeBase := (rfl)
@[simp] theorem tick_free : (s.tick ).free = s.free + 1 := (rfl)
@[simp] theorem tick_reg (x : Nat) : (s.tick ).reg x = s.reg x := (rfl)
@[simp] theorem tick_fld (x : Fld) : (s.tick ).fld x = s.fld x := (rfl)
@[simp] theorem tick_flag (x : Fld) : (s.tick ).flag x = s.flag x := (rfl)

@[simp] theorem setReg_latch (a : Nat) (v : Word32) : (s.setReg a v).latch = s.latch := (rfl)
@[simp] theorem setReg_loHeld (a : Nat) (v : Word32) : (s.setReg a v).loHeld = s.loHeld := (rfl)
@[simp] theorem setReg_mrd (a : Nat) (v : Word32) : (s.setReg a v).mrd = s.mrd := (rfl)
@[simp] theorem setReg_store (a : Nat) (v : Word32) : (s.setReg a v).store = s.store := (rfl)
@[simp] theorem setReg_fw (a : Nat) (v : Word32) : (s.setReg a v).fw = s.fw := (rfl)
@[simp] theorem setReg_rst (a : Nat) (v : Word32) : (s.setReg a v).rst = s.rst := (rfl)
@[simp] theorem setReg_pwr (a : Nat) (v : Word32) : (s.setReg a v).pwr = s.pwr := (rfl)
@[simp] theorem setReg_mft (a : Nat) (v : Word32) : (s.setReg a v).mft = s.mft := (rfl)
@[simp] theorem setReg_ept (a : Nat) (v : Word32) : (s.setReg a v).ept = s.ept := (rfl)
@[simp] theorem setReg_shelf (a : Nat) (v : Word32) : (s.setReg a v).shelf = s.shelf := (rfl)
@[simp] theorem setReg_host (a : Nat) (v : Word32) : (s.setReg a v).host = s.host := (rfl)
@[simp] theorem setReg_brg (a : Nat) (v : Word32) : (s.setReg a v).brg = s.brg := (rfl)
@[simp] theorem setReg_tug (a : Nat) (v : Word32) : (s.setReg a v).tug = s.tug := (rfl)
@[simp] theorem setReg_tal (a : Nat) (v : Word32) : (s.setReg a v).tal = s.tal := (rfl)
@[simp] theorem setReg_net (a : Nat) (v : Word32) : (s.setReg a v).net = s.net := (rfl)
@[simp] theorem setReg_pair (a : Nat) (v : Word32) : (s.setReg a v).pair = s.pair := (rfl)
@[simp] theorem setReg_peerOut (a : Nat) (v : Word32) : (s.setReg a v).peerOut = s.peerOut := (rfl)
@[simp] theorem setReg_ary (a : Nat) (v : Word32) : (s.setReg a v).ary = s.ary := (rfl)
@[simp] theorem setReg_cip (a : Nat) (v : Word32) : (s.setReg a v).cip = s.cip := (rfl)
@[simp] theorem setReg_slc (a : Nat) (v : Word32) : (s.setReg a v).slc = s.slc := (rfl)
@[simp] theorem setReg_cnl (a : Nat) (v : Word32) : (s.setReg a v).cnl = s.cnl := (rfl)
@[simp] theorem setReg_whf (a : Nat) (v : Word32) : (s.setReg a v).whf = s.whf := (rfl)
@[simp] theorem setReg_res (a : Nat) (v : Word32) : (s.setReg a v).res = s.res := (rfl)
@[simp] theorem setReg_port (a : Nat) (v : Word32) : (s.setReg a v).port = s.port := (rfl)
@[simp] theorem setReg_idle (a : Nat) (v : Word32) : (s.setReg a v).idle = s.idle := (rfl)
@[simp] theorem setReg_drives (a : Nat) (v : Word32) : (s.setReg a v).drives = s.drives := (rfl)
@[simp] theorem setReg_away (a : Nat) (v : Word32) : (s.setReg a v).away = s.away := (rfl)
@[simp] theorem setReg_out (a : Nat) (v : Word32) : (s.setReg a v).out = s.out := (rfl)
@[simp] theorem setReg_pending (a : Nat) (v : Word32) : (s.setReg a v).pending = s.pending := (rfl)
@[simp] theorem setReg_now (a : Nat) (v : Word32) : (s.setReg a v).now = s.now := (rfl)
@[simp] theorem setReg_timeBase (a : Nat) (v : Word32) : (s.setReg a v).timeBase = s.timeBase := (rfl)
@[simp] theorem setReg_free (a : Nat) (v : Word32) : (s.setReg a v).free = s.free := (rfl)

@[simp] theorem setFld_latch (f : Fld) (v : Nat) : (s.setFld f v).latch = s.latch := (rfl)
@[simp] theorem setFld_loHeld (f : Fld) (v : Nat) : (s.setFld f v).loHeld = s.loHeld := (rfl)
@[simp] theorem setFld_mrd (f : Fld) (v : Nat) : (s.setFld f v).mrd = s.mrd := (rfl)
@[simp] theorem setFld_store (f : Fld) (v : Nat) : (s.setFld f v).store = s.store := (rfl)
@[simp] theorem setFld_fw (f : Fld) (v : Nat) : (s.setFld f v).fw = s.fw := (rfl)
@[simp] theorem setFld_rst (f : Fld) (v : Nat) : (s.setFld f v).rst = s.rst := (rfl)
@[simp] theorem setFld_pwr (f : Fld) (v : Nat) : (s.setFld f v).pwr = s.pwr := (rfl)
@[simp] theorem setFld_mft (f : Fld) (v : Nat) : (s.setFld f v).mft = s.mft := (rfl)
@[simp] theorem setFld_ept (f : Fld) (v : Nat) : (s.setFld f v).ept = s.ept := (rfl)
@[simp] theorem setFld_shelf (f : Fld) (v : Nat) : (s.setFld f v).shelf = s.shelf := (rfl)
@[simp] theorem setFld_host (f : Fld) (v : Nat) : (s.setFld f v).host = s.host := (rfl)
@[simp] theorem setFld_brg (f : Fld) (v : Nat) : (s.setFld f v).brg = s.brg := (rfl)
@[simp] theorem setFld_tug (f : Fld) (v : Nat) : (s.setFld f v).tug = s.tug := (rfl)
@[simp] theorem setFld_tal (f : Fld) (v : Nat) : (s.setFld f v).tal = s.tal := (rfl)
@[simp] theorem setFld_net (f : Fld) (v : Nat) : (s.setFld f v).net = s.net := (rfl)
@[simp] theorem setFld_pair (f : Fld) (v : Nat) : (s.setFld f v).pair = s.pair := (rfl)
@[simp] theorem setFld_peerOut (f : Fld) (v : Nat) : (s.setFld f v).peerOut = s.peerOut := (rfl)
@[simp] theorem setFld_ary (f : Fld) (v : Nat) : (s.setFld f v).ary = s.ary := (rfl)
@[simp] theorem setFld_cip (f : Fld) (v : Nat) : (s.setFld f v).cip = s.cip := (rfl)
@[simp] theorem setFld_slc (f : Fld) (v : Nat) : (s.setFld f v).slc = s.slc := (rfl)
@[simp] theorem setFld_cnl (f : Fld) (v : Nat) : (s.setFld f v).cnl = s.cnl := (rfl)
@[simp] theorem setFld_whf (f : Fld) (v : Nat) : (s.setFld f v).whf = s.whf := (rfl)
@[simp] theorem setFld_res (f : Fld) (v : Nat) : (s.setFld f v).res = s.res := (rfl)
@[simp] theorem setFld_port (f : Fld) (v : Nat) : (s.setFld f v).port = s.port := (rfl)
@[simp] theorem setFld_idle (f : Fld) (v : Nat) : (s.setFld f v).idle = s.idle := (rfl)
@[simp] theorem setFld_drives (f : Fld) (v : Nat) : (s.setFld f v).drives = s.drives := (rfl)
@[simp] theorem setFld_away (f : Fld) (v : Nat) : (s.setFld f v).away = s.away := (rfl)
@[simp] theorem setFld_out (f : Fld) (v : Nat) : (s.setFld f v).out = s.out := (rfl)
@[simp] theorem setFld_pending (f : Fld) (v : Nat) : (s.setFld f v).pending = s.pending := (rfl)
@[simp] theorem setFld_now (f : Fld) (v : Nat) : (s.setFld f v).now = s.now := (rfl)
@[simp] theorem setFld_timeBase (f : Fld) (v : Nat) : (s.setFld f v).timeBase = s.timeBase := (rfl)
@[simp] theorem setFld_free (f : Fld) (v : Nat) : (s.setFld f v).free = s.free := (rfl)

@[simp] theorem setFlag_latch (f : Fld) (b : Bool) : (s.setFlag f b).latch = s.latch := (rfl)
@[simp] theorem setFlag_loHeld (f : Fld) (b : Bool) : (s.setFlag f b).loHeld = s.loHeld := (rfl)
@[simp] theorem setFlag_mrd (f : Fld) (b : Bool) : (s.setFlag f b).mrd = s.mrd := (rfl)
@[simp] theorem setFlag_store (f : Fld) (b : Bool) : (s.setFlag f b).store = s.store := (rfl)
@[simp] theorem setFlag_fw (f : Fld) (b : Bool) : (s.setFlag f b).fw = s.fw := (rfl)
@[simp] theorem setFlag_rst (f : Fld) (b : Bool) : (s.setFlag f b).rst = s.rst := (rfl)
@[simp] theorem setFlag_pwr (f : Fld) (b : Bool) : (s.setFlag f b).pwr = s.pwr := (rfl)
@[simp] theorem setFlag_mft (f : Fld) (b : Bool) : (s.setFlag f b).mft = s.mft := (rfl)
@[simp] theorem setFlag_ept (f : Fld) (b : Bool) : (s.setFlag f b).ept = s.ept := (rfl)
@[simp] theorem setFlag_shelf (f : Fld) (b : Bool) : (s.setFlag f b).shelf = s.shelf := (rfl)
@[simp] theorem setFlag_host (f : Fld) (b : Bool) : (s.setFlag f b).host = s.host := (rfl)
@[simp] theorem setFlag_brg (f : Fld) (b : Bool) : (s.setFlag f b).brg = s.brg := (rfl)
@[simp] theorem setFlag_tug (f : Fld) (b : Bool) : (s.setFlag f b).tug = s.tug := (rfl)
@[simp] theorem setFlag_tal (f : Fld) (b : Bool) : (s.setFlag f b).tal = s.tal := (rfl)
@[simp] theorem setFlag_net (f : Fld) (b : Bool) : (s.setFlag f b).net = s.net := (rfl)
@[simp] theorem setFlag_pair (f : Fld) (b : Bool) : (s.setFlag f b).pair = s.pair := (rfl)
@[simp] theorem setFlag_peerOut (f : Fld) (b : Bool) : (s.setFlag f b).peerOut = s.peerOut := (rfl)
@[simp] theorem setFlag_ary (f : Fld) (b : Bool) : (s.setFlag f b).ary = s.ary := (rfl)
@[simp] theorem setFlag_cip (f : Fld) (b : Bool) : (s.setFlag f b).cip = s.cip := (rfl)
@[simp] theorem setFlag_slc (f : Fld) (b : Bool) : (s.setFlag f b).slc = s.slc := (rfl)
@[simp] theorem setFlag_cnl (f : Fld) (b : Bool) : (s.setFlag f b).cnl = s.cnl := (rfl)
@[simp] theorem setFlag_whf (f : Fld) (b : Bool) : (s.setFlag f b).whf = s.whf := (rfl)
@[simp] theorem setFlag_res (f : Fld) (b : Bool) : (s.setFlag f b).res = s.res := (rfl)
@[simp] theorem setFlag_port (f : Fld) (b : Bool) : (s.setFlag f b).port = s.port := (rfl)
@[simp] theorem setFlag_idle (f : Fld) (b : Bool) : (s.setFlag f b).idle = s.idle := (rfl)
@[simp] theorem setFlag_drives (f : Fld) (b : Bool) : (s.setFlag f b).drives = s.drives := (rfl)
@[simp] theorem setFlag_away (f : Fld) (b : Bool) : (s.setFlag f b).away = s.away := (rfl)
@[simp] theorem setFlag_out (f : Fld) (b : Bool) : (s.setFlag f b).out = s.out := (rfl)
@[simp] theorem setFlag_pending (f : Fld) (b : Bool) : (s.setFlag f b).pending = s.pending := (rfl)
@[simp] theorem setFlag_now (f : Fld) (b : Bool) : (s.setFlag f b).now = s.now := (rfl)
@[simp] theorem setFlag_timeBase (f : Fld) (b : Bool) : (s.setFlag f b).timeBase = s.timeBase := (rfl)
@[simp] theorem setFlag_free (f : Fld) (b : Bool) : (s.setFlag f b).free = s.free := (rfl)

@[simp] theorem raise_latch (f : Fld) : (s.raise f).latch = s.latch := (rfl)
@[simp] theorem raise_loHeld (f : Fld) : (s.raise f).loHeld = s.loHeld := (rfl)
@[simp] theorem raise_mrd (f : Fld) : (s.raise f).mrd = s.mrd := (rfl)
@[simp] theorem raise_store (f : Fld) : (s.raise f).store = s.store := (rfl)
@[simp] theorem raise_fw (f : Fld) : (s.raise f).fw = s.fw := (rfl)
@[simp] theorem raise_rst (f : Fld) : (s.raise f).rst = s.rst := (rfl)
@[simp] theorem raise_pwr (f : Fld) : (s.raise f).pwr = s.pwr := (rfl)
@[simp] theorem raise_mft (f : Fld) : (s.raise f).mft = s.mft := (rfl)
@[simp] theorem raise_ept (f : Fld) : (s.raise f).ept = s.ept := (rfl)
@[simp] theorem raise_shelf (f : Fld) : (s.raise f).shelf = s.shelf := (rfl)
@[simp] theorem raise_host (f : Fld) : (s.raise f).host = s.host := (rfl)
@[simp] theorem raise_brg (f : Fld) : (s.raise f).brg = s.brg := (rfl)
@[simp] theorem raise_tug (f : Fld) : (s.raise f).tug = s.tug := (rfl)
@[simp] theorem raise_tal (f : Fld) : (s.raise f).tal = s.tal := (rfl)
@[simp] theorem raise_net (f : Fld) : (s.raise f).net = s.net := (rfl)
@[simp] theorem raise_pair (f : Fld) : (s.raise f).pair = s.pair := (rfl)
@[simp] theorem raise_peerOut (f : Fld) : (s.raise f).peerOut = s.peerOut := (rfl)
@[simp] theorem raise_ary (f : Fld) : (s.raise f).ary = s.ary := (rfl)
@[simp] theorem raise_cip (f : Fld) : (s.raise f).cip = s.cip := (rfl)
@[simp] theorem raise_slc (f : Fld) : (s.raise f).slc = s.slc := (rfl)
@[simp] theorem raise_cnl (f : Fld) : (s.raise f).cnl = s.cnl := (rfl)
@[simp] theorem raise_whf (f : Fld) : (s.raise f).whf = s.whf := (rfl)
@[simp] theorem raise_res (f : Fld) : (s.raise f).res = s.res := (rfl)
@[simp] theorem raise_port (f : Fld) : (s.raise f).port = s.port := (rfl)
@[simp] theorem raise_idle (f : Fld) : (s.raise f).idle = s.idle := (rfl)
@[simp] theorem raise_drives (f : Fld) : (s.raise f).drives = s.drives := (rfl)
@[simp] theorem raise_away (f : Fld) : (s.raise f).away = s.away := (rfl)
@[simp] theorem raise_out (f : Fld) : (s.raise f).out = s.out := (rfl)
@[simp] theorem raise_pending (f : Fld) : (s.raise f).pending = s.pending := (rfl)
@[simp] theorem raise_now (f : Fld) : (s.raise f).now = s.now := (rfl)
@[simp] theorem raise_timeBase (f : Fld) : (s.raise f).timeBase = s.timeBase := (rfl)
@[simp] theorem raise_free (f : Fld) : (s.raise f).free = s.free := (rfl)

@[simp] theorem count_latch (f : Fld) (n : Nat) : (s.count f n).latch = s.latch := (rfl)
@[simp] theorem count_loHeld (f : Fld) (n : Nat) : (s.count f n).loHeld = s.loHeld := (rfl)
@[simp] theorem count_mrd (f : Fld) (n : Nat) : (s.count f n).mrd = s.mrd := (rfl)
@[simp] theorem count_store (f : Fld) (n : Nat) : (s.count f n).store = s.store := (rfl)
@[simp] theorem count_fw (f : Fld) (n : Nat) : (s.count f n).fw = s.fw := (rfl)
@[simp] theorem count_rst (f : Fld) (n : Nat) : (s.count f n).rst = s.rst := (rfl)
@[simp] theorem count_pwr (f : Fld) (n : Nat) : (s.count f n).pwr = s.pwr := (rfl)
@[simp] theorem count_mft (f : Fld) (n : Nat) : (s.count f n).mft = s.mft := (rfl)
@[simp] theorem count_ept (f : Fld) (n : Nat) : (s.count f n).ept = s.ept := (rfl)
@[simp] theorem count_shelf (f : Fld) (n : Nat) : (s.count f n).shelf = s.shelf := (rfl)
@[simp] theorem count_host (f : Fld) (n : Nat) : (s.count f n).host = s.host := (rfl)
@[simp] theorem count_brg (f : Fld) (n : Nat) : (s.count f n).brg = s.brg := (rfl)
@[simp] theorem count_tug (f : Fld) (n : Nat) : (s.count f n).tug = s.tug := (rfl)
@[simp] theorem count_tal (f : Fld) (n : Nat) : (s.count f n).tal = s.tal := (rfl)
@[simp] theorem count_net (f : Fld) (n : Nat) : (s.count f n).net = s.net := (rfl)
@[simp] theorem count_pair (f : Fld) (n : Nat) : (s.count f n).pair = s.pair := (rfl)
@[simp] theorem count_peerOut (f : Fld) (n : Nat) : (s.count f n).peerOut = s.peerOut := (rfl)
@[simp] theorem count_ary (f : Fld) (n : Nat) : (s.count f n).ary = s.ary := (rfl)
@[simp] theorem count_cip (f : Fld) (n : Nat) : (s.count f n).cip = s.cip := (rfl)
@[simp] theorem count_slc (f : Fld) (n : Nat) : (s.count f n).slc = s.slc := (rfl)
@[simp] theorem count_cnl (f : Fld) (n : Nat) : (s.count f n).cnl = s.cnl := (rfl)
@[simp] theorem count_whf (f : Fld) (n : Nat) : (s.count f n).whf = s.whf := (rfl)
@[simp] theorem count_res (f : Fld) (n : Nat) : (s.count f n).res = s.res := (rfl)
@[simp] theorem count_port (f : Fld) (n : Nat) : (s.count f n).port = s.port := (rfl)
@[simp] theorem count_idle (f : Fld) (n : Nat) : (s.count f n).idle = s.idle := (rfl)
@[simp] theorem count_drives (f : Fld) (n : Nat) : (s.count f n).drives = s.drives := (rfl)
@[simp] theorem count_away (f : Fld) (n : Nat) : (s.count f n).away = s.away := (rfl)
@[simp] theorem count_out (f : Fld) (n : Nat) : (s.count f n).out = s.out := (rfl)
@[simp] theorem count_pending (f : Fld) (n : Nat) : (s.count f n).pending = s.pending := (rfl)
@[simp] theorem count_now (f : Fld) (n : Nat) : (s.count f n).now = s.now := (rfl)
@[simp] theorem count_timeBase (f : Fld) (n : Nat) : (s.count f n).timeBase = s.timeBase := (rfl)
@[simp] theorem count_free (f : Fld) (n : Nat) : (s.count f n).free = s.free := (rfl)

@[simp] theorem sendPeer_regs (q : Bool) (f : PeerFrame) : (s.sendPeer q f).regs = s.regs := (rfl)
@[simp] theorem sendPeer_latch (q : Bool) (f : PeerFrame) : (s.sendPeer q f).latch = s.latch := (rfl)
@[simp] theorem sendPeer_loHeld (q : Bool) (f : PeerFrame) : (s.sendPeer q f).loHeld = s.loHeld := (rfl)
@[simp] theorem sendPeer_mrd (q : Bool) (f : PeerFrame) : (s.sendPeer q f).mrd = s.mrd := (rfl)
@[simp] theorem sendPeer_store (q : Bool) (f : PeerFrame) : (s.sendPeer q f).store = s.store := (rfl)
@[simp] theorem sendPeer_fw (q : Bool) (f : PeerFrame) : (s.sendPeer q f).fw = s.fw := (rfl)
@[simp] theorem sendPeer_rst (q : Bool) (f : PeerFrame) : (s.sendPeer q f).rst = s.rst := (rfl)
@[simp] theorem sendPeer_pwr (q : Bool) (f : PeerFrame) : (s.sendPeer q f).pwr = s.pwr := (rfl)
@[simp] theorem sendPeer_mft (q : Bool) (f : PeerFrame) : (s.sendPeer q f).mft = s.mft := (rfl)
@[simp] theorem sendPeer_ept (q : Bool) (f : PeerFrame) : (s.sendPeer q f).ept = s.ept := (rfl)
@[simp] theorem sendPeer_shelf (q : Bool) (f : PeerFrame) : (s.sendPeer q f).shelf = s.shelf := (rfl)
@[simp] theorem sendPeer_host (q : Bool) (f : PeerFrame) : (s.sendPeer q f).host = s.host := (rfl)
@[simp] theorem sendPeer_brg (q : Bool) (f : PeerFrame) : (s.sendPeer q f).brg = s.brg := (rfl)
@[simp] theorem sendPeer_tug (q : Bool) (f : PeerFrame) : (s.sendPeer q f).tug = s.tug := (rfl)
@[simp] theorem sendPeer_tal (q : Bool) (f : PeerFrame) : (s.sendPeer q f).tal = s.tal := (rfl)
@[simp] theorem sendPeer_net (q : Bool) (f : PeerFrame) : (s.sendPeer q f).net = s.net := (rfl)
@[simp] theorem sendPeer_pair (q : Bool) (f : PeerFrame) : (s.sendPeer q f).pair = s.pair := (rfl)
@[simp] theorem sendPeer_peerOut (q : Bool) (f : PeerFrame) : (s.sendPeer q f).peerOut = s.peerOut ++ [(q, f)] := (rfl)
@[simp] theorem sendPeer_ary (q : Bool) (f : PeerFrame) : (s.sendPeer q f).ary = s.ary := (rfl)
@[simp] theorem sendPeer_cip (q : Bool) (f : PeerFrame) : (s.sendPeer q f).cip = s.cip := (rfl)
@[simp] theorem sendPeer_slc (q : Bool) (f : PeerFrame) : (s.sendPeer q f).slc = s.slc := (rfl)
@[simp] theorem sendPeer_cnl (q : Bool) (f : PeerFrame) : (s.sendPeer q f).cnl = s.cnl := (rfl)
@[simp] theorem sendPeer_whf (q : Bool) (f : PeerFrame) : (s.sendPeer q f).whf = s.whf := (rfl)
@[simp] theorem sendPeer_res (q : Bool) (f : PeerFrame) : (s.sendPeer q f).res = s.res := (rfl)
@[simp] theorem sendPeer_port (q : Bool) (f : PeerFrame) : (s.sendPeer q f).port = s.port := (rfl)
@[simp] theorem sendPeer_idle (q : Bool) (f : PeerFrame) : (s.sendPeer q f).idle = s.idle := (rfl)
@[simp] theorem sendPeer_drives (q : Bool) (f : PeerFrame) : (s.sendPeer q f).drives = s.drives := (rfl)
@[simp] theorem sendPeer_away (q : Bool) (f : PeerFrame) : (s.sendPeer q f).away = s.away := (rfl)
@[simp] theorem sendPeer_out (q : Bool) (f : PeerFrame) : (s.sendPeer q f).out = s.out := (rfl)
@[simp] theorem sendPeer_pending (q : Bool) (f : PeerFrame) : (s.sendPeer q f).pending = s.pending := (rfl)
@[simp] theorem sendPeer_now (q : Bool) (f : PeerFrame) : (s.sendPeer q f).now = s.now := (rfl)
@[simp] theorem sendPeer_timeBase (q : Bool) (f : PeerFrame) : (s.sendPeer q f).timeBase = s.timeBase := (rfl)
@[simp] theorem sendPeer_free (q : Bool) (f : PeerFrame) : (s.sendPeer q f).free = s.free := (rfl)
@[simp] theorem sendPeer_reg (q : Bool) (f : PeerFrame) (x : Nat) : (s.sendPeer q f).reg x = s.reg x := (rfl)
@[simp] theorem sendPeer_fld (q : Bool) (f : PeerFrame) (x : Fld) : (s.sendPeer q f).fld x = s.fld x := (rfl)
@[simp] theorem sendPeer_flag (q : Bool) (f : PeerFrame) (x : Fld) : (s.sendPeer q f).flag x = s.flag x := (rfl)

@[simp] theorem updShelf_regs (g : Shelf → Shelf) : (s.updShelf g).regs = s.regs := (rfl)
@[simp] theorem updShelf_latch (g : Shelf → Shelf) : (s.updShelf g).latch = s.latch := (rfl)
@[simp] theorem updShelf_loHeld (g : Shelf → Shelf) : (s.updShelf g).loHeld = s.loHeld := (rfl)
@[simp] theorem updShelf_mrd (g : Shelf → Shelf) : (s.updShelf g).mrd = s.mrd := (rfl)
@[simp] theorem updShelf_store (g : Shelf → Shelf) : (s.updShelf g).store = s.store := (rfl)
@[simp] theorem updShelf_fw (g : Shelf → Shelf) : (s.updShelf g).fw = s.fw := (rfl)
@[simp] theorem updShelf_rst (g : Shelf → Shelf) : (s.updShelf g).rst = s.rst := (rfl)
@[simp] theorem updShelf_pwr (g : Shelf → Shelf) : (s.updShelf g).pwr = s.pwr := (rfl)
@[simp] theorem updShelf_mft (g : Shelf → Shelf) : (s.updShelf g).mft = s.mft := (rfl)
@[simp] theorem updShelf_ept (g : Shelf → Shelf) : (s.updShelf g).ept = s.ept := (rfl)
@[simp] theorem updShelf_shelf (g : Shelf → Shelf) : (s.updShelf g).shelf = g s.shelf := (rfl)
@[simp] theorem updShelf_host (g : Shelf → Shelf) : (s.updShelf g).host = s.host := (rfl)
@[simp] theorem updShelf_brg (g : Shelf → Shelf) : (s.updShelf g).brg = s.brg := (rfl)
@[simp] theorem updShelf_tug (g : Shelf → Shelf) : (s.updShelf g).tug = s.tug := (rfl)
@[simp] theorem updShelf_tal (g : Shelf → Shelf) : (s.updShelf g).tal = s.tal := (rfl)
@[simp] theorem updShelf_net (g : Shelf → Shelf) : (s.updShelf g).net = s.net := (rfl)
@[simp] theorem updShelf_pair (g : Shelf → Shelf) : (s.updShelf g).pair = s.pair := (rfl)
@[simp] theorem updShelf_peerOut (g : Shelf → Shelf) : (s.updShelf g).peerOut = s.peerOut := (rfl)
@[simp] theorem updShelf_ary (g : Shelf → Shelf) : (s.updShelf g).ary = s.ary := (rfl)
@[simp] theorem updShelf_cip (g : Shelf → Shelf) : (s.updShelf g).cip = s.cip := (rfl)
@[simp] theorem updShelf_slc (g : Shelf → Shelf) : (s.updShelf g).slc = s.slc := (rfl)
@[simp] theorem updShelf_cnl (g : Shelf → Shelf) : (s.updShelf g).cnl = s.cnl := (rfl)
@[simp] theorem updShelf_whf (g : Shelf → Shelf) : (s.updShelf g).whf = s.whf := (rfl)
@[simp] theorem updShelf_res (g : Shelf → Shelf) : (s.updShelf g).res = s.res := (rfl)
@[simp] theorem updShelf_port (g : Shelf → Shelf) : (s.updShelf g).port = s.port := (rfl)
@[simp] theorem updShelf_idle (g : Shelf → Shelf) : (s.updShelf g).idle = s.idle := (rfl)
@[simp] theorem updShelf_drives (g : Shelf → Shelf) : (s.updShelf g).drives = s.drives := (rfl)
@[simp] theorem updShelf_away (g : Shelf → Shelf) : (s.updShelf g).away = s.away := (rfl)
@[simp] theorem updShelf_out (g : Shelf → Shelf) : (s.updShelf g).out = s.out := (rfl)
@[simp] theorem updShelf_pending (g : Shelf → Shelf) : (s.updShelf g).pending = s.pending := (rfl)
@[simp] theorem updShelf_now (g : Shelf → Shelf) : (s.updShelf g).now = s.now := (rfl)
@[simp] theorem updShelf_timeBase (g : Shelf → Shelf) : (s.updShelf g).timeBase = s.timeBase := (rfl)
@[simp] theorem updShelf_free (g : Shelf → Shelf) : (s.updShelf g).free = s.free := (rfl)
@[simp] theorem updShelf_reg (g : Shelf → Shelf) (x : Nat) : (s.updShelf g).reg x = s.reg x := (rfl)
@[simp] theorem updShelf_fld (g : Shelf → Shelf) (x : Fld) : (s.updShelf g).fld x = s.fld x := (rfl)
@[simp] theorem updShelf_flag (g : Shelf → Shelf) (x : Fld) : (s.updShelf g).flag x = s.flag x := (rfl)

@[simp] theorem updHost_regs (g : HostFace → HostFace) : (s.updHost g).regs = s.regs := (rfl)
@[simp] theorem updHost_latch (g : HostFace → HostFace) : (s.updHost g).latch = s.latch := (rfl)
@[simp] theorem updHost_loHeld (g : HostFace → HostFace) : (s.updHost g).loHeld = s.loHeld := (rfl)
@[simp] theorem updHost_mrd (g : HostFace → HostFace) : (s.updHost g).mrd = s.mrd := (rfl)
@[simp] theorem updHost_store (g : HostFace → HostFace) : (s.updHost g).store = s.store := (rfl)
@[simp] theorem updHost_fw (g : HostFace → HostFace) : (s.updHost g).fw = s.fw := (rfl)
@[simp] theorem updHost_rst (g : HostFace → HostFace) : (s.updHost g).rst = s.rst := (rfl)
@[simp] theorem updHost_pwr (g : HostFace → HostFace) : (s.updHost g).pwr = s.pwr := (rfl)
@[simp] theorem updHost_mft (g : HostFace → HostFace) : (s.updHost g).mft = s.mft := (rfl)
@[simp] theorem updHost_ept (g : HostFace → HostFace) : (s.updHost g).ept = s.ept := (rfl)
@[simp] theorem updHost_shelf (g : HostFace → HostFace) : (s.updHost g).shelf = s.shelf := (rfl)
@[simp] theorem updHost_host (g : HostFace → HostFace) : (s.updHost g).host = g s.host := (rfl)
@[simp] theorem updHost_brg (g : HostFace → HostFace) : (s.updHost g).brg = s.brg := (rfl)
@[simp] theorem updHost_tug (g : HostFace → HostFace) : (s.updHost g).tug = s.tug := (rfl)
@[simp] theorem updHost_tal (g : HostFace → HostFace) : (s.updHost g).tal = s.tal := (rfl)
@[simp] theorem updHost_net (g : HostFace → HostFace) : (s.updHost g).net = s.net := (rfl)
@[simp] theorem updHost_pair (g : HostFace → HostFace) : (s.updHost g).pair = s.pair := (rfl)
@[simp] theorem updHost_peerOut (g : HostFace → HostFace) : (s.updHost g).peerOut = s.peerOut := (rfl)
@[simp] theorem updHost_ary (g : HostFace → HostFace) : (s.updHost g).ary = s.ary := (rfl)
@[simp] theorem updHost_cip (g : HostFace → HostFace) : (s.updHost g).cip = s.cip := (rfl)
@[simp] theorem updHost_slc (g : HostFace → HostFace) : (s.updHost g).slc = s.slc := (rfl)
@[simp] theorem updHost_cnl (g : HostFace → HostFace) : (s.updHost g).cnl = s.cnl := (rfl)
@[simp] theorem updHost_whf (g : HostFace → HostFace) : (s.updHost g).whf = s.whf := (rfl)
@[simp] theorem updHost_res (g : HostFace → HostFace) : (s.updHost g).res = s.res := (rfl)
@[simp] theorem updHost_port (g : HostFace → HostFace) : (s.updHost g).port = s.port := (rfl)
@[simp] theorem updHost_idle (g : HostFace → HostFace) : (s.updHost g).idle = s.idle := (rfl)
@[simp] theorem updHost_drives (g : HostFace → HostFace) : (s.updHost g).drives = s.drives := (rfl)
@[simp] theorem updHost_away (g : HostFace → HostFace) : (s.updHost g).away = s.away := (rfl)
@[simp] theorem updHost_out (g : HostFace → HostFace) : (s.updHost g).out = s.out := (rfl)
@[simp] theorem updHost_pending (g : HostFace → HostFace) : (s.updHost g).pending = s.pending := (rfl)
@[simp] theorem updHost_now (g : HostFace → HostFace) : (s.updHost g).now = s.now := (rfl)
@[simp] theorem updHost_timeBase (g : HostFace → HostFace) : (s.updHost g).timeBase = s.timeBase := (rfl)
@[simp] theorem updHost_free (g : HostFace → HostFace) : (s.updHost g).free = s.free := (rfl)
@[simp] theorem updHost_reg (g : HostFace → HostFace) (x : Nat) : (s.updHost g).reg x = s.reg x := (rfl)
@[simp] theorem updHost_fld (g : HostFace → HostFace) (x : Fld) : (s.updHost g).fld x = s.fld x := (rfl)
@[simp] theorem updHost_flag (g : HostFace → HostFace) (x : Fld) : (s.updHost g).flag x = s.flag x := (rfl)

@[simp] theorem updBrg_regs (g : Barge → Barge) : (s.updBrg g).regs = s.regs := (rfl)
@[simp] theorem updBrg_latch (g : Barge → Barge) : (s.updBrg g).latch = s.latch := (rfl)
@[simp] theorem updBrg_loHeld (g : Barge → Barge) : (s.updBrg g).loHeld = s.loHeld := (rfl)
@[simp] theorem updBrg_mrd (g : Barge → Barge) : (s.updBrg g).mrd = s.mrd := (rfl)
@[simp] theorem updBrg_store (g : Barge → Barge) : (s.updBrg g).store = s.store := (rfl)
@[simp] theorem updBrg_fw (g : Barge → Barge) : (s.updBrg g).fw = s.fw := (rfl)
@[simp] theorem updBrg_rst (g : Barge → Barge) : (s.updBrg g).rst = s.rst := (rfl)
@[simp] theorem updBrg_pwr (g : Barge → Barge) : (s.updBrg g).pwr = s.pwr := (rfl)
@[simp] theorem updBrg_mft (g : Barge → Barge) : (s.updBrg g).mft = s.mft := (rfl)
@[simp] theorem updBrg_ept (g : Barge → Barge) : (s.updBrg g).ept = s.ept := (rfl)
@[simp] theorem updBrg_shelf (g : Barge → Barge) : (s.updBrg g).shelf = s.shelf := (rfl)
@[simp] theorem updBrg_host (g : Barge → Barge) : (s.updBrg g).host = s.host := (rfl)
@[simp] theorem updBrg_brg (g : Barge → Barge) : (s.updBrg g).brg = g s.brg := (rfl)
@[simp] theorem updBrg_tug (g : Barge → Barge) : (s.updBrg g).tug = s.tug := (rfl)
@[simp] theorem updBrg_tal (g : Barge → Barge) : (s.updBrg g).tal = s.tal := (rfl)
@[simp] theorem updBrg_net (g : Barge → Barge) : (s.updBrg g).net = s.net := (rfl)
@[simp] theorem updBrg_pair (g : Barge → Barge) : (s.updBrg g).pair = s.pair := (rfl)
@[simp] theorem updBrg_peerOut (g : Barge → Barge) : (s.updBrg g).peerOut = s.peerOut := (rfl)
@[simp] theorem updBrg_ary (g : Barge → Barge) : (s.updBrg g).ary = s.ary := (rfl)
@[simp] theorem updBrg_cip (g : Barge → Barge) : (s.updBrg g).cip = s.cip := (rfl)
@[simp] theorem updBrg_slc (g : Barge → Barge) : (s.updBrg g).slc = s.slc := (rfl)
@[simp] theorem updBrg_cnl (g : Barge → Barge) : (s.updBrg g).cnl = s.cnl := (rfl)
@[simp] theorem updBrg_whf (g : Barge → Barge) : (s.updBrg g).whf = s.whf := (rfl)
@[simp] theorem updBrg_res (g : Barge → Barge) : (s.updBrg g).res = s.res := (rfl)
@[simp] theorem updBrg_port (g : Barge → Barge) : (s.updBrg g).port = s.port := (rfl)
@[simp] theorem updBrg_idle (g : Barge → Barge) : (s.updBrg g).idle = s.idle := (rfl)
@[simp] theorem updBrg_drives (g : Barge → Barge) : (s.updBrg g).drives = s.drives := (rfl)
@[simp] theorem updBrg_away (g : Barge → Barge) : (s.updBrg g).away = s.away := (rfl)
@[simp] theorem updBrg_out (g : Barge → Barge) : (s.updBrg g).out = s.out := (rfl)
@[simp] theorem updBrg_pending (g : Barge → Barge) : (s.updBrg g).pending = s.pending := (rfl)
@[simp] theorem updBrg_now (g : Barge → Barge) : (s.updBrg g).now = s.now := (rfl)
@[simp] theorem updBrg_timeBase (g : Barge → Barge) : (s.updBrg g).timeBase = s.timeBase := (rfl)
@[simp] theorem updBrg_free (g : Barge → Barge) : (s.updBrg g).free = s.free := (rfl)
@[simp] theorem updBrg_reg (g : Barge → Barge) (x : Nat) : (s.updBrg g).reg x = s.reg x := (rfl)
@[simp] theorem updBrg_fld (g : Barge → Barge) (x : Fld) : (s.updBrg g).fld x = s.fld x := (rfl)
@[simp] theorem updBrg_flag (g : Barge → Barge) (x : Fld) : (s.updBrg g).flag x = s.flag x := (rfl)

@[simp] theorem updMft_regs (g : Mft → Mft) : (s.updMft g).regs = s.regs := (rfl)
@[simp] theorem updMft_latch (g : Mft → Mft) : (s.updMft g).latch = s.latch := (rfl)
@[simp] theorem updMft_loHeld (g : Mft → Mft) : (s.updMft g).loHeld = s.loHeld := (rfl)
@[simp] theorem updMft_mrd (g : Mft → Mft) : (s.updMft g).mrd = s.mrd := (rfl)
@[simp] theorem updMft_store (g : Mft → Mft) : (s.updMft g).store = s.store := (rfl)
@[simp] theorem updMft_fw (g : Mft → Mft) : (s.updMft g).fw = s.fw := (rfl)
@[simp] theorem updMft_rst (g : Mft → Mft) : (s.updMft g).rst = s.rst := (rfl)
@[simp] theorem updMft_pwr (g : Mft → Mft) : (s.updMft g).pwr = s.pwr := (rfl)
@[simp] theorem updMft_mft (g : Mft → Mft) : (s.updMft g).mft = g s.mft := (rfl)
@[simp] theorem updMft_ept (g : Mft → Mft) : (s.updMft g).ept = s.ept := (rfl)
@[simp] theorem updMft_shelf (g : Mft → Mft) : (s.updMft g).shelf = s.shelf := (rfl)
@[simp] theorem updMft_host (g : Mft → Mft) : (s.updMft g).host = s.host := (rfl)
@[simp] theorem updMft_brg (g : Mft → Mft) : (s.updMft g).brg = s.brg := (rfl)
@[simp] theorem updMft_tug (g : Mft → Mft) : (s.updMft g).tug = s.tug := (rfl)
@[simp] theorem updMft_tal (g : Mft → Mft) : (s.updMft g).tal = s.tal := (rfl)
@[simp] theorem updMft_net (g : Mft → Mft) : (s.updMft g).net = s.net := (rfl)
@[simp] theorem updMft_pair (g : Mft → Mft) : (s.updMft g).pair = s.pair := (rfl)
@[simp] theorem updMft_peerOut (g : Mft → Mft) : (s.updMft g).peerOut = s.peerOut := (rfl)
@[simp] theorem updMft_ary (g : Mft → Mft) : (s.updMft g).ary = s.ary := (rfl)
@[simp] theorem updMft_cip (g : Mft → Mft) : (s.updMft g).cip = s.cip := (rfl)
@[simp] theorem updMft_slc (g : Mft → Mft) : (s.updMft g).slc = s.slc := (rfl)
@[simp] theorem updMft_cnl (g : Mft → Mft) : (s.updMft g).cnl = s.cnl := (rfl)
@[simp] theorem updMft_whf (g : Mft → Mft) : (s.updMft g).whf = s.whf := (rfl)
@[simp] theorem updMft_res (g : Mft → Mft) : (s.updMft g).res = s.res := (rfl)
@[simp] theorem updMft_port (g : Mft → Mft) : (s.updMft g).port = s.port := (rfl)
@[simp] theorem updMft_idle (g : Mft → Mft) : (s.updMft g).idle = s.idle := (rfl)
@[simp] theorem updMft_drives (g : Mft → Mft) : (s.updMft g).drives = s.drives := (rfl)
@[simp] theorem updMft_away (g : Mft → Mft) : (s.updMft g).away = s.away := (rfl)
@[simp] theorem updMft_out (g : Mft → Mft) : (s.updMft g).out = s.out := (rfl)
@[simp] theorem updMft_pending (g : Mft → Mft) : (s.updMft g).pending = s.pending := (rfl)
@[simp] theorem updMft_now (g : Mft → Mft) : (s.updMft g).now = s.now := (rfl)
@[simp] theorem updMft_timeBase (g : Mft → Mft) : (s.updMft g).timeBase = s.timeBase := (rfl)
@[simp] theorem updMft_free (g : Mft → Mft) : (s.updMft g).free = s.free := (rfl)
@[simp] theorem updMft_reg (g : Mft → Mft) (x : Nat) : (s.updMft g).reg x = s.reg x := (rfl)
@[simp] theorem updMft_fld (g : Mft → Mft) (x : Fld) : (s.updMft g).fld x = s.fld x := (rfl)
@[simp] theorem updMft_flag (g : Mft → Mft) (x : Fld) : (s.updMft g).flag x = s.flag x := (rfl)

@[simp] theorem updEpt_regs (g : Ept → Ept) : (s.updEpt g).regs = s.regs := (rfl)
@[simp] theorem updEpt_latch (g : Ept → Ept) : (s.updEpt g).latch = s.latch := (rfl)
@[simp] theorem updEpt_loHeld (g : Ept → Ept) : (s.updEpt g).loHeld = s.loHeld := (rfl)
@[simp] theorem updEpt_mrd (g : Ept → Ept) : (s.updEpt g).mrd = s.mrd := (rfl)
@[simp] theorem updEpt_store (g : Ept → Ept) : (s.updEpt g).store = s.store := (rfl)
@[simp] theorem updEpt_fw (g : Ept → Ept) : (s.updEpt g).fw = s.fw := (rfl)
@[simp] theorem updEpt_rst (g : Ept → Ept) : (s.updEpt g).rst = s.rst := (rfl)
@[simp] theorem updEpt_pwr (g : Ept → Ept) : (s.updEpt g).pwr = s.pwr := (rfl)
@[simp] theorem updEpt_mft (g : Ept → Ept) : (s.updEpt g).mft = s.mft := (rfl)
@[simp] theorem updEpt_ept (g : Ept → Ept) : (s.updEpt g).ept = g s.ept := (rfl)
@[simp] theorem updEpt_shelf (g : Ept → Ept) : (s.updEpt g).shelf = s.shelf := (rfl)
@[simp] theorem updEpt_host (g : Ept → Ept) : (s.updEpt g).host = s.host := (rfl)
@[simp] theorem updEpt_brg (g : Ept → Ept) : (s.updEpt g).brg = s.brg := (rfl)
@[simp] theorem updEpt_tug (g : Ept → Ept) : (s.updEpt g).tug = s.tug := (rfl)
@[simp] theorem updEpt_tal (g : Ept → Ept) : (s.updEpt g).tal = s.tal := (rfl)
@[simp] theorem updEpt_net (g : Ept → Ept) : (s.updEpt g).net = s.net := (rfl)
@[simp] theorem updEpt_pair (g : Ept → Ept) : (s.updEpt g).pair = s.pair := (rfl)
@[simp] theorem updEpt_peerOut (g : Ept → Ept) : (s.updEpt g).peerOut = s.peerOut := (rfl)
@[simp] theorem updEpt_ary (g : Ept → Ept) : (s.updEpt g).ary = s.ary := (rfl)
@[simp] theorem updEpt_cip (g : Ept → Ept) : (s.updEpt g).cip = s.cip := (rfl)
@[simp] theorem updEpt_slc (g : Ept → Ept) : (s.updEpt g).slc = s.slc := (rfl)
@[simp] theorem updEpt_cnl (g : Ept → Ept) : (s.updEpt g).cnl = s.cnl := (rfl)
@[simp] theorem updEpt_whf (g : Ept → Ept) : (s.updEpt g).whf = s.whf := (rfl)
@[simp] theorem updEpt_res (g : Ept → Ept) : (s.updEpt g).res = s.res := (rfl)
@[simp] theorem updEpt_port (g : Ept → Ept) : (s.updEpt g).port = s.port := (rfl)
@[simp] theorem updEpt_idle (g : Ept → Ept) : (s.updEpt g).idle = s.idle := (rfl)
@[simp] theorem updEpt_drives (g : Ept → Ept) : (s.updEpt g).drives = s.drives := (rfl)
@[simp] theorem updEpt_away (g : Ept → Ept) : (s.updEpt g).away = s.away := (rfl)
@[simp] theorem updEpt_out (g : Ept → Ept) : (s.updEpt g).out = s.out := (rfl)
@[simp] theorem updEpt_pending (g : Ept → Ept) : (s.updEpt g).pending = s.pending := (rfl)
@[simp] theorem updEpt_now (g : Ept → Ept) : (s.updEpt g).now = s.now := (rfl)
@[simp] theorem updEpt_timeBase (g : Ept → Ept) : (s.updEpt g).timeBase = s.timeBase := (rfl)
@[simp] theorem updEpt_free (g : Ept → Ept) : (s.updEpt g).free = s.free := (rfl)
@[simp] theorem updEpt_reg (g : Ept → Ept) (x : Nat) : (s.updEpt g).reg x = s.reg x := (rfl)
@[simp] theorem updEpt_fld (g : Ept → Ept) (x : Fld) : (s.updEpt g).fld x = s.fld x := (rfl)
@[simp] theorem updEpt_flag (g : Ept → Ept) (x : Fld) : (s.updEpt g).flag x = s.flag x := (rfl)

@[simp] theorem updPwr_regs (g : Pwr → Pwr) : (s.updPwr g).regs = s.regs := (rfl)
@[simp] theorem updPwr_latch (g : Pwr → Pwr) : (s.updPwr g).latch = s.latch := (rfl)
@[simp] theorem updPwr_loHeld (g : Pwr → Pwr) : (s.updPwr g).loHeld = s.loHeld := (rfl)
@[simp] theorem updPwr_mrd (g : Pwr → Pwr) : (s.updPwr g).mrd = s.mrd := (rfl)
@[simp] theorem updPwr_store (g : Pwr → Pwr) : (s.updPwr g).store = s.store := (rfl)
@[simp] theorem updPwr_fw (g : Pwr → Pwr) : (s.updPwr g).fw = s.fw := (rfl)
@[simp] theorem updPwr_rst (g : Pwr → Pwr) : (s.updPwr g).rst = s.rst := (rfl)
@[simp] theorem updPwr_pwr (g : Pwr → Pwr) : (s.updPwr g).pwr = g s.pwr := (rfl)
@[simp] theorem updPwr_mft (g : Pwr → Pwr) : (s.updPwr g).mft = s.mft := (rfl)
@[simp] theorem updPwr_ept (g : Pwr → Pwr) : (s.updPwr g).ept = s.ept := (rfl)
@[simp] theorem updPwr_shelf (g : Pwr → Pwr) : (s.updPwr g).shelf = s.shelf := (rfl)
@[simp] theorem updPwr_host (g : Pwr → Pwr) : (s.updPwr g).host = s.host := (rfl)
@[simp] theorem updPwr_brg (g : Pwr → Pwr) : (s.updPwr g).brg = s.brg := (rfl)
@[simp] theorem updPwr_tug (g : Pwr → Pwr) : (s.updPwr g).tug = s.tug := (rfl)
@[simp] theorem updPwr_tal (g : Pwr → Pwr) : (s.updPwr g).tal = s.tal := (rfl)
@[simp] theorem updPwr_net (g : Pwr → Pwr) : (s.updPwr g).net = s.net := (rfl)
@[simp] theorem updPwr_pair (g : Pwr → Pwr) : (s.updPwr g).pair = s.pair := (rfl)
@[simp] theorem updPwr_peerOut (g : Pwr → Pwr) : (s.updPwr g).peerOut = s.peerOut := (rfl)
@[simp] theorem updPwr_ary (g : Pwr → Pwr) : (s.updPwr g).ary = s.ary := (rfl)
@[simp] theorem updPwr_cip (g : Pwr → Pwr) : (s.updPwr g).cip = s.cip := (rfl)
@[simp] theorem updPwr_slc (g : Pwr → Pwr) : (s.updPwr g).slc = s.slc := (rfl)
@[simp] theorem updPwr_cnl (g : Pwr → Pwr) : (s.updPwr g).cnl = s.cnl := (rfl)
@[simp] theorem updPwr_whf (g : Pwr → Pwr) : (s.updPwr g).whf = s.whf := (rfl)
@[simp] theorem updPwr_res (g : Pwr → Pwr) : (s.updPwr g).res = s.res := (rfl)
@[simp] theorem updPwr_port (g : Pwr → Pwr) : (s.updPwr g).port = s.port := (rfl)
@[simp] theorem updPwr_idle (g : Pwr → Pwr) : (s.updPwr g).idle = s.idle := (rfl)
@[simp] theorem updPwr_drives (g : Pwr → Pwr) : (s.updPwr g).drives = s.drives := (rfl)
@[simp] theorem updPwr_away (g : Pwr → Pwr) : (s.updPwr g).away = s.away := (rfl)
@[simp] theorem updPwr_out (g : Pwr → Pwr) : (s.updPwr g).out = s.out := (rfl)
@[simp] theorem updPwr_pending (g : Pwr → Pwr) : (s.updPwr g).pending = s.pending := (rfl)
@[simp] theorem updPwr_now (g : Pwr → Pwr) : (s.updPwr g).now = s.now := (rfl)
@[simp] theorem updPwr_timeBase (g : Pwr → Pwr) : (s.updPwr g).timeBase = s.timeBase := (rfl)
@[simp] theorem updPwr_free (g : Pwr → Pwr) : (s.updPwr g).free = s.free := (rfl)
@[simp] theorem updPwr_reg (g : Pwr → Pwr) (x : Nat) : (s.updPwr g).reg x = s.reg x := (rfl)
@[simp] theorem updPwr_fld (g : Pwr → Pwr) (x : Fld) : (s.updPwr g).fld x = s.fld x := (rfl)
@[simp] theorem updPwr_flag (g : Pwr → Pwr) (x : Fld) : (s.updPwr g).flag x = s.flag x := (rfl)

@[simp] theorem updRst_regs (g : Rst → Rst) : (s.updRst g).regs = s.regs := (rfl)
@[simp] theorem updRst_latch (g : Rst → Rst) : (s.updRst g).latch = s.latch := (rfl)
@[simp] theorem updRst_loHeld (g : Rst → Rst) : (s.updRst g).loHeld = s.loHeld := (rfl)
@[simp] theorem updRst_mrd (g : Rst → Rst) : (s.updRst g).mrd = s.mrd := (rfl)
@[simp] theorem updRst_store (g : Rst → Rst) : (s.updRst g).store = s.store := (rfl)
@[simp] theorem updRst_fw (g : Rst → Rst) : (s.updRst g).fw = s.fw := (rfl)
@[simp] theorem updRst_rst (g : Rst → Rst) : (s.updRst g).rst = g s.rst := (rfl)
@[simp] theorem updRst_pwr (g : Rst → Rst) : (s.updRst g).pwr = s.pwr := (rfl)
@[simp] theorem updRst_mft (g : Rst → Rst) : (s.updRst g).mft = s.mft := (rfl)
@[simp] theorem updRst_ept (g : Rst → Rst) : (s.updRst g).ept = s.ept := (rfl)
@[simp] theorem updRst_shelf (g : Rst → Rst) : (s.updRst g).shelf = s.shelf := (rfl)
@[simp] theorem updRst_host (g : Rst → Rst) : (s.updRst g).host = s.host := (rfl)
@[simp] theorem updRst_brg (g : Rst → Rst) : (s.updRst g).brg = s.brg := (rfl)
@[simp] theorem updRst_tug (g : Rst → Rst) : (s.updRst g).tug = s.tug := (rfl)
@[simp] theorem updRst_tal (g : Rst → Rst) : (s.updRst g).tal = s.tal := (rfl)
@[simp] theorem updRst_net (g : Rst → Rst) : (s.updRst g).net = s.net := (rfl)
@[simp] theorem updRst_pair (g : Rst → Rst) : (s.updRst g).pair = s.pair := (rfl)
@[simp] theorem updRst_peerOut (g : Rst → Rst) : (s.updRst g).peerOut = s.peerOut := (rfl)
@[simp] theorem updRst_ary (g : Rst → Rst) : (s.updRst g).ary = s.ary := (rfl)
@[simp] theorem updRst_cip (g : Rst → Rst) : (s.updRst g).cip = s.cip := (rfl)
@[simp] theorem updRst_slc (g : Rst → Rst) : (s.updRst g).slc = s.slc := (rfl)
@[simp] theorem updRst_cnl (g : Rst → Rst) : (s.updRst g).cnl = s.cnl := (rfl)
@[simp] theorem updRst_whf (g : Rst → Rst) : (s.updRst g).whf = s.whf := (rfl)
@[simp] theorem updRst_res (g : Rst → Rst) : (s.updRst g).res = s.res := (rfl)
@[simp] theorem updRst_port (g : Rst → Rst) : (s.updRst g).port = s.port := (rfl)
@[simp] theorem updRst_idle (g : Rst → Rst) : (s.updRst g).idle = s.idle := (rfl)
@[simp] theorem updRst_drives (g : Rst → Rst) : (s.updRst g).drives = s.drives := (rfl)
@[simp] theorem updRst_away (g : Rst → Rst) : (s.updRst g).away = s.away := (rfl)
@[simp] theorem updRst_out (g : Rst → Rst) : (s.updRst g).out = s.out := (rfl)
@[simp] theorem updRst_pending (g : Rst → Rst) : (s.updRst g).pending = s.pending := (rfl)
@[simp] theorem updRst_now (g : Rst → Rst) : (s.updRst g).now = s.now := (rfl)
@[simp] theorem updRst_timeBase (g : Rst → Rst) : (s.updRst g).timeBase = s.timeBase := (rfl)
@[simp] theorem updRst_free (g : Rst → Rst) : (s.updRst g).free = s.free := (rfl)
@[simp] theorem updRst_reg (g : Rst → Rst) (x : Nat) : (s.updRst g).reg x = s.reg x := (rfl)
@[simp] theorem updRst_fld (g : Rst → Rst) (x : Fld) : (s.updRst g).fld x = s.fld x := (rfl)
@[simp] theorem updRst_flag (g : Rst → Rst) (x : Fld) : (s.updRst g).flag x = s.flag x := (rfl)

@[simp] theorem updStore_regs (g : Store → Store) : (s.updStore g).regs = s.regs := (rfl)
@[simp] theorem updStore_latch (g : Store → Store) : (s.updStore g).latch = s.latch := (rfl)
@[simp] theorem updStore_loHeld (g : Store → Store) : (s.updStore g).loHeld = s.loHeld := (rfl)
@[simp] theorem updStore_mrd (g : Store → Store) : (s.updStore g).mrd = s.mrd := (rfl)
@[simp] theorem updStore_store (g : Store → Store) : (s.updStore g).store = g s.store := (rfl)
@[simp] theorem updStore_fw (g : Store → Store) : (s.updStore g).fw = s.fw := (rfl)
@[simp] theorem updStore_rst (g : Store → Store) : (s.updStore g).rst = s.rst := (rfl)
@[simp] theorem updStore_pwr (g : Store → Store) : (s.updStore g).pwr = s.pwr := (rfl)
@[simp] theorem updStore_mft (g : Store → Store) : (s.updStore g).mft = s.mft := (rfl)
@[simp] theorem updStore_ept (g : Store → Store) : (s.updStore g).ept = s.ept := (rfl)
@[simp] theorem updStore_shelf (g : Store → Store) : (s.updStore g).shelf = s.shelf := (rfl)
@[simp] theorem updStore_host (g : Store → Store) : (s.updStore g).host = s.host := (rfl)
@[simp] theorem updStore_brg (g : Store → Store) : (s.updStore g).brg = s.brg := (rfl)
@[simp] theorem updStore_tug (g : Store → Store) : (s.updStore g).tug = s.tug := (rfl)
@[simp] theorem updStore_tal (g : Store → Store) : (s.updStore g).tal = s.tal := (rfl)
@[simp] theorem updStore_net (g : Store → Store) : (s.updStore g).net = s.net := (rfl)
@[simp] theorem updStore_pair (g : Store → Store) : (s.updStore g).pair = s.pair := (rfl)
@[simp] theorem updStore_peerOut (g : Store → Store) : (s.updStore g).peerOut = s.peerOut := (rfl)
@[simp] theorem updStore_ary (g : Store → Store) : (s.updStore g).ary = s.ary := (rfl)
@[simp] theorem updStore_cip (g : Store → Store) : (s.updStore g).cip = s.cip := (rfl)
@[simp] theorem updStore_slc (g : Store → Store) : (s.updStore g).slc = s.slc := (rfl)
@[simp] theorem updStore_cnl (g : Store → Store) : (s.updStore g).cnl = s.cnl := (rfl)
@[simp] theorem updStore_whf (g : Store → Store) : (s.updStore g).whf = s.whf := (rfl)
@[simp] theorem updStore_res (g : Store → Store) : (s.updStore g).res = s.res := (rfl)
@[simp] theorem updStore_port (g : Store → Store) : (s.updStore g).port = s.port := (rfl)
@[simp] theorem updStore_idle (g : Store → Store) : (s.updStore g).idle = s.idle := (rfl)
@[simp] theorem updStore_drives (g : Store → Store) : (s.updStore g).drives = s.drives := (rfl)
@[simp] theorem updStore_away (g : Store → Store) : (s.updStore g).away = s.away := (rfl)
@[simp] theorem updStore_out (g : Store → Store) : (s.updStore g).out = s.out := (rfl)
@[simp] theorem updStore_pending (g : Store → Store) : (s.updStore g).pending = s.pending := (rfl)
@[simp] theorem updStore_now (g : Store → Store) : (s.updStore g).now = s.now := (rfl)
@[simp] theorem updStore_timeBase (g : Store → Store) : (s.updStore g).timeBase = s.timeBase := (rfl)
@[simp] theorem updStore_free (g : Store → Store) : (s.updStore g).free = s.free := (rfl)
@[simp] theorem updStore_reg (g : Store → Store) (x : Nat) : (s.updStore g).reg x = s.reg x := (rfl)
@[simp] theorem updStore_fld (g : Store → Store) (x : Fld) : (s.updStore g).fld x = s.fld x := (rfl)
@[simp] theorem updStore_flag (g : Store → Store) (x : Fld) : (s.updStore g).flag x = s.flag x := (rfl)

@[simp] theorem updMrd_regs (g : Moored → Moored) : (s.updMrd g).regs = s.regs := (rfl)
@[simp] theorem updMrd_latch (g : Moored → Moored) : (s.updMrd g).latch = s.latch := (rfl)
@[simp] theorem updMrd_loHeld (g : Moored → Moored) : (s.updMrd g).loHeld = s.loHeld := (rfl)
@[simp] theorem updMrd_mrd (g : Moored → Moored) : (s.updMrd g).mrd = g s.mrd := (rfl)
@[simp] theorem updMrd_store (g : Moored → Moored) : (s.updMrd g).store = s.store := (rfl)
@[simp] theorem updMrd_fw (g : Moored → Moored) : (s.updMrd g).fw = s.fw := (rfl)
@[simp] theorem updMrd_rst (g : Moored → Moored) : (s.updMrd g).rst = s.rst := (rfl)
@[simp] theorem updMrd_pwr (g : Moored → Moored) : (s.updMrd g).pwr = s.pwr := (rfl)
@[simp] theorem updMrd_mft (g : Moored → Moored) : (s.updMrd g).mft = s.mft := (rfl)
@[simp] theorem updMrd_ept (g : Moored → Moored) : (s.updMrd g).ept = s.ept := (rfl)
@[simp] theorem updMrd_shelf (g : Moored → Moored) : (s.updMrd g).shelf = s.shelf := (rfl)
@[simp] theorem updMrd_host (g : Moored → Moored) : (s.updMrd g).host = s.host := (rfl)
@[simp] theorem updMrd_brg (g : Moored → Moored) : (s.updMrd g).brg = s.brg := (rfl)
@[simp] theorem updMrd_tug (g : Moored → Moored) : (s.updMrd g).tug = s.tug := (rfl)
@[simp] theorem updMrd_tal (g : Moored → Moored) : (s.updMrd g).tal = s.tal := (rfl)
@[simp] theorem updMrd_net (g : Moored → Moored) : (s.updMrd g).net = s.net := (rfl)
@[simp] theorem updMrd_pair (g : Moored → Moored) : (s.updMrd g).pair = s.pair := (rfl)
@[simp] theorem updMrd_peerOut (g : Moored → Moored) : (s.updMrd g).peerOut = s.peerOut := (rfl)
@[simp] theorem updMrd_ary (g : Moored → Moored) : (s.updMrd g).ary = s.ary := (rfl)
@[simp] theorem updMrd_cip (g : Moored → Moored) : (s.updMrd g).cip = s.cip := (rfl)
@[simp] theorem updMrd_slc (g : Moored → Moored) : (s.updMrd g).slc = s.slc := (rfl)
@[simp] theorem updMrd_cnl (g : Moored → Moored) : (s.updMrd g).cnl = s.cnl := (rfl)
@[simp] theorem updMrd_whf (g : Moored → Moored) : (s.updMrd g).whf = s.whf := (rfl)
@[simp] theorem updMrd_res (g : Moored → Moored) : (s.updMrd g).res = s.res := (rfl)
@[simp] theorem updMrd_port (g : Moored → Moored) : (s.updMrd g).port = s.port := (rfl)
@[simp] theorem updMrd_idle (g : Moored → Moored) : (s.updMrd g).idle = s.idle := (rfl)
@[simp] theorem updMrd_drives (g : Moored → Moored) : (s.updMrd g).drives = s.drives := (rfl)
@[simp] theorem updMrd_away (g : Moored → Moored) : (s.updMrd g).away = s.away := (rfl)
@[simp] theorem updMrd_out (g : Moored → Moored) : (s.updMrd g).out = s.out := (rfl)
@[simp] theorem updMrd_pending (g : Moored → Moored) : (s.updMrd g).pending = s.pending := (rfl)
@[simp] theorem updMrd_now (g : Moored → Moored) : (s.updMrd g).now = s.now := (rfl)
@[simp] theorem updMrd_timeBase (g : Moored → Moored) : (s.updMrd g).timeBase = s.timeBase := (rfl)
@[simp] theorem updMrd_free (g : Moored → Moored) : (s.updMrd g).free = s.free := (rfl)
@[simp] theorem updMrd_reg (g : Moored → Moored) (x : Nat) : (s.updMrd g).reg x = s.reg x := (rfl)
@[simp] theorem updMrd_fld (g : Moored → Moored) (x : Fld) : (s.updMrd g).fld x = s.fld x := (rfl)
@[simp] theorem updMrd_flag (g : Moored → Moored) (x : Fld) : (s.updMrd g).flag x = s.flag x := (rfl)

@[simp] theorem updTug_regs (g : Tugs → Tugs) : (s.updTug g).regs = s.regs := (rfl)
@[simp] theorem updTug_latch (g : Tugs → Tugs) : (s.updTug g).latch = s.latch := (rfl)
@[simp] theorem updTug_loHeld (g : Tugs → Tugs) : (s.updTug g).loHeld = s.loHeld := (rfl)
@[simp] theorem updTug_mrd (g : Tugs → Tugs) : (s.updTug g).mrd = s.mrd := (rfl)
@[simp] theorem updTug_store (g : Tugs → Tugs) : (s.updTug g).store = s.store := (rfl)
@[simp] theorem updTug_fw (g : Tugs → Tugs) : (s.updTug g).fw = s.fw := (rfl)
@[simp] theorem updTug_rst (g : Tugs → Tugs) : (s.updTug g).rst = s.rst := (rfl)
@[simp] theorem updTug_pwr (g : Tugs → Tugs) : (s.updTug g).pwr = s.pwr := (rfl)
@[simp] theorem updTug_mft (g : Tugs → Tugs) : (s.updTug g).mft = s.mft := (rfl)
@[simp] theorem updTug_ept (g : Tugs → Tugs) : (s.updTug g).ept = s.ept := (rfl)
@[simp] theorem updTug_shelf (g : Tugs → Tugs) : (s.updTug g).shelf = s.shelf := (rfl)
@[simp] theorem updTug_host (g : Tugs → Tugs) : (s.updTug g).host = s.host := (rfl)
@[simp] theorem updTug_brg (g : Tugs → Tugs) : (s.updTug g).brg = s.brg := (rfl)
@[simp] theorem updTug_tug (g : Tugs → Tugs) : (s.updTug g).tug = g s.tug := (rfl)
@[simp] theorem updTug_tal (g : Tugs → Tugs) : (s.updTug g).tal = s.tal := (rfl)
@[simp] theorem updTug_net (g : Tugs → Tugs) : (s.updTug g).net = s.net := (rfl)
@[simp] theorem updTug_pair (g : Tugs → Tugs) : (s.updTug g).pair = s.pair := (rfl)
@[simp] theorem updTug_peerOut (g : Tugs → Tugs) : (s.updTug g).peerOut = s.peerOut := (rfl)
@[simp] theorem updTug_ary (g : Tugs → Tugs) : (s.updTug g).ary = s.ary := (rfl)
@[simp] theorem updTug_cip (g : Tugs → Tugs) : (s.updTug g).cip = s.cip := (rfl)
@[simp] theorem updTug_slc (g : Tugs → Tugs) : (s.updTug g).slc = s.slc := (rfl)
@[simp] theorem updTug_cnl (g : Tugs → Tugs) : (s.updTug g).cnl = s.cnl := (rfl)
@[simp] theorem updTug_whf (g : Tugs → Tugs) : (s.updTug g).whf = s.whf := (rfl)
@[simp] theorem updTug_res (g : Tugs → Tugs) : (s.updTug g).res = s.res := (rfl)
@[simp] theorem updTug_port (g : Tugs → Tugs) : (s.updTug g).port = s.port := (rfl)
@[simp] theorem updTug_idle (g : Tugs → Tugs) : (s.updTug g).idle = s.idle := (rfl)
@[simp] theorem updTug_drives (g : Tugs → Tugs) : (s.updTug g).drives = s.drives := (rfl)
@[simp] theorem updTug_away (g : Tugs → Tugs) : (s.updTug g).away = s.away := (rfl)
@[simp] theorem updTug_out (g : Tugs → Tugs) : (s.updTug g).out = s.out := (rfl)
@[simp] theorem updTug_pending (g : Tugs → Tugs) : (s.updTug g).pending = s.pending := (rfl)
@[simp] theorem updTug_now (g : Tugs → Tugs) : (s.updTug g).now = s.now := (rfl)
@[simp] theorem updTug_timeBase (g : Tugs → Tugs) : (s.updTug g).timeBase = s.timeBase := (rfl)
@[simp] theorem updTug_free (g : Tugs → Tugs) : (s.updTug g).free = s.free := (rfl)
@[simp] theorem updTug_reg (g : Tugs → Tugs) (x : Nat) : (s.updTug g).reg x = s.reg x := (rfl)
@[simp] theorem updTug_fld (g : Tugs → Tugs) (x : Fld) : (s.updTug g).fld x = s.fld x := (rfl)
@[simp] theorem updTug_flag (g : Tugs → Tugs) (x : Fld) : (s.updTug g).flag x = s.flag x := (rfl)

@[simp] theorem updPeer_regs (g : Pairing → Pairing) : (s.updPeer g).regs = s.regs := (rfl)
@[simp] theorem updPeer_latch (g : Pairing → Pairing) : (s.updPeer g).latch = s.latch := (rfl)
@[simp] theorem updPeer_loHeld (g : Pairing → Pairing) : (s.updPeer g).loHeld = s.loHeld := (rfl)
@[simp] theorem updPeer_mrd (g : Pairing → Pairing) : (s.updPeer g).mrd = s.mrd := (rfl)
@[simp] theorem updPeer_store (g : Pairing → Pairing) : (s.updPeer g).store = s.store := (rfl)
@[simp] theorem updPeer_fw (g : Pairing → Pairing) : (s.updPeer g).fw = s.fw := (rfl)
@[simp] theorem updPeer_rst (g : Pairing → Pairing) : (s.updPeer g).rst = s.rst := (rfl)
@[simp] theorem updPeer_pwr (g : Pairing → Pairing) : (s.updPeer g).pwr = s.pwr := (rfl)
@[simp] theorem updPeer_mft (g : Pairing → Pairing) : (s.updPeer g).mft = s.mft := (rfl)
@[simp] theorem updPeer_ept (g : Pairing → Pairing) : (s.updPeer g).ept = s.ept := (rfl)
@[simp] theorem updPeer_shelf (g : Pairing → Pairing) : (s.updPeer g).shelf = s.shelf := (rfl)
@[simp] theorem updPeer_host (g : Pairing → Pairing) : (s.updPeer g).host = s.host := (rfl)
@[simp] theorem updPeer_brg (g : Pairing → Pairing) : (s.updPeer g).brg = s.brg := (rfl)
@[simp] theorem updPeer_tug (g : Pairing → Pairing) : (s.updPeer g).tug = s.tug := (rfl)
@[simp] theorem updPeer_tal (g : Pairing → Pairing) : (s.updPeer g).tal = s.tal := (rfl)
@[simp] theorem updPeer_net (g : Pairing → Pairing) : (s.updPeer g).net = s.net := (rfl)
@[simp] theorem updPeer_pair (g : Pairing → Pairing) : (s.updPeer g).pair = g s.pair := (rfl)
@[simp] theorem updPeer_peerOut (g : Pairing → Pairing) : (s.updPeer g).peerOut = s.peerOut := (rfl)
@[simp] theorem updPeer_ary (g : Pairing → Pairing) : (s.updPeer g).ary = s.ary := (rfl)
@[simp] theorem updPeer_cip (g : Pairing → Pairing) : (s.updPeer g).cip = s.cip := (rfl)
@[simp] theorem updPeer_slc (g : Pairing → Pairing) : (s.updPeer g).slc = s.slc := (rfl)
@[simp] theorem updPeer_cnl (g : Pairing → Pairing) : (s.updPeer g).cnl = s.cnl := (rfl)
@[simp] theorem updPeer_whf (g : Pairing → Pairing) : (s.updPeer g).whf = s.whf := (rfl)
@[simp] theorem updPeer_res (g : Pairing → Pairing) : (s.updPeer g).res = s.res := (rfl)
@[simp] theorem updPeer_port (g : Pairing → Pairing) : (s.updPeer g).port = s.port := (rfl)
@[simp] theorem updPeer_idle (g : Pairing → Pairing) : (s.updPeer g).idle = s.idle := (rfl)
@[simp] theorem updPeer_drives (g : Pairing → Pairing) : (s.updPeer g).drives = s.drives := (rfl)
@[simp] theorem updPeer_away (g : Pairing → Pairing) : (s.updPeer g).away = s.away := (rfl)
@[simp] theorem updPeer_out (g : Pairing → Pairing) : (s.updPeer g).out = s.out := (rfl)
@[simp] theorem updPeer_pending (g : Pairing → Pairing) : (s.updPeer g).pending = s.pending := (rfl)
@[simp] theorem updPeer_now (g : Pairing → Pairing) : (s.updPeer g).now = s.now := (rfl)
@[simp] theorem updPeer_timeBase (g : Pairing → Pairing) : (s.updPeer g).timeBase = s.timeBase := (rfl)
@[simp] theorem updPeer_free (g : Pairing → Pairing) : (s.updPeer g).free = s.free := (rfl)
@[simp] theorem updPeer_reg (g : Pairing → Pairing) (x : Nat) : (s.updPeer g).reg x = s.reg x := (rfl)
@[simp] theorem updPeer_fld (g : Pairing → Pairing) (x : Fld) : (s.updPeer g).fld x = s.fld x := (rfl)
@[simp] theorem updPeer_flag (g : Pairing → Pairing) (x : Fld) : (s.updPeer g).flag x = s.flag x := (rfl)

@[simp] theorem updNet_regs (g : Net → Net) : (s.updNet g).regs = s.regs := (rfl)
@[simp] theorem updNet_latch (g : Net → Net) : (s.updNet g).latch = s.latch := (rfl)
@[simp] theorem updNet_loHeld (g : Net → Net) : (s.updNet g).loHeld = s.loHeld := (rfl)
@[simp] theorem updNet_mrd (g : Net → Net) : (s.updNet g).mrd = s.mrd := (rfl)
@[simp] theorem updNet_store (g : Net → Net) : (s.updNet g).store = s.store := (rfl)
@[simp] theorem updNet_fw (g : Net → Net) : (s.updNet g).fw = s.fw := (rfl)
@[simp] theorem updNet_rst (g : Net → Net) : (s.updNet g).rst = s.rst := (rfl)
@[simp] theorem updNet_pwr (g : Net → Net) : (s.updNet g).pwr = s.pwr := (rfl)
@[simp] theorem updNet_mft (g : Net → Net) : (s.updNet g).mft = s.mft := (rfl)
@[simp] theorem updNet_ept (g : Net → Net) : (s.updNet g).ept = s.ept := (rfl)
@[simp] theorem updNet_shelf (g : Net → Net) : (s.updNet g).shelf = s.shelf := (rfl)
@[simp] theorem updNet_host (g : Net → Net) : (s.updNet g).host = s.host := (rfl)
@[simp] theorem updNet_brg (g : Net → Net) : (s.updNet g).brg = s.brg := (rfl)
@[simp] theorem updNet_tug (g : Net → Net) : (s.updNet g).tug = s.tug := (rfl)
@[simp] theorem updNet_tal (g : Net → Net) : (s.updNet g).tal = s.tal := (rfl)
@[simp] theorem updNet_net (g : Net → Net) : (s.updNet g).net = g s.net := (rfl)
@[simp] theorem updNet_pair (g : Net → Net) : (s.updNet g).pair = s.pair := (rfl)
@[simp] theorem updNet_peerOut (g : Net → Net) : (s.updNet g).peerOut = s.peerOut := (rfl)
@[simp] theorem updNet_ary (g : Net → Net) : (s.updNet g).ary = s.ary := (rfl)
@[simp] theorem updNet_cip (g : Net → Net) : (s.updNet g).cip = s.cip := (rfl)
@[simp] theorem updNet_slc (g : Net → Net) : (s.updNet g).slc = s.slc := (rfl)
@[simp] theorem updNet_cnl (g : Net → Net) : (s.updNet g).cnl = s.cnl := (rfl)
@[simp] theorem updNet_whf (g : Net → Net) : (s.updNet g).whf = s.whf := (rfl)
@[simp] theorem updNet_res (g : Net → Net) : (s.updNet g).res = s.res := (rfl)
@[simp] theorem updNet_port (g : Net → Net) : (s.updNet g).port = s.port := (rfl)
@[simp] theorem updNet_idle (g : Net → Net) : (s.updNet g).idle = s.idle := (rfl)
@[simp] theorem updNet_drives (g : Net → Net) : (s.updNet g).drives = s.drives := (rfl)
@[simp] theorem updNet_away (g : Net → Net) : (s.updNet g).away = s.away := (rfl)
@[simp] theorem updNet_out (g : Net → Net) : (s.updNet g).out = s.out := (rfl)
@[simp] theorem updNet_pending (g : Net → Net) : (s.updNet g).pending = s.pending := (rfl)
@[simp] theorem updNet_now (g : Net → Net) : (s.updNet g).now = s.now := (rfl)
@[simp] theorem updNet_timeBase (g : Net → Net) : (s.updNet g).timeBase = s.timeBase := (rfl)
@[simp] theorem updNet_free (g : Net → Net) : (s.updNet g).free = s.free := (rfl)
@[simp] theorem updNet_reg (g : Net → Net) (x : Nat) : (s.updNet g).reg x = s.reg x := (rfl)
@[simp] theorem updNet_fld (g : Net → Net) (x : Fld) : (s.updNet g).fld x = s.fld x := (rfl)
@[simp] theorem updNet_flag (g : Net → Net) (x : Fld) : (s.updNet g).flag x = s.flag x := (rfl)

@[simp] theorem updTal_regs (g : Tally → Tally) : (s.updTal g).regs = s.regs := (rfl)
@[simp] theorem updTal_latch (g : Tally → Tally) : (s.updTal g).latch = s.latch := (rfl)
@[simp] theorem updTal_loHeld (g : Tally → Tally) : (s.updTal g).loHeld = s.loHeld := (rfl)
@[simp] theorem updTal_mrd (g : Tally → Tally) : (s.updTal g).mrd = s.mrd := (rfl)
@[simp] theorem updTal_store (g : Tally → Tally) : (s.updTal g).store = s.store := (rfl)
@[simp] theorem updTal_fw (g : Tally → Tally) : (s.updTal g).fw = s.fw := (rfl)
@[simp] theorem updTal_rst (g : Tally → Tally) : (s.updTal g).rst = s.rst := (rfl)
@[simp] theorem updTal_pwr (g : Tally → Tally) : (s.updTal g).pwr = s.pwr := (rfl)
@[simp] theorem updTal_mft (g : Tally → Tally) : (s.updTal g).mft = s.mft := (rfl)
@[simp] theorem updTal_ept (g : Tally → Tally) : (s.updTal g).ept = s.ept := (rfl)
@[simp] theorem updTal_shelf (g : Tally → Tally) : (s.updTal g).shelf = s.shelf := (rfl)
@[simp] theorem updTal_host (g : Tally → Tally) : (s.updTal g).host = s.host := (rfl)
@[simp] theorem updTal_brg (g : Tally → Tally) : (s.updTal g).brg = s.brg := (rfl)
@[simp] theorem updTal_tug (g : Tally → Tally) : (s.updTal g).tug = s.tug := (rfl)
@[simp] theorem updTal_tal (g : Tally → Tally) : (s.updTal g).tal = g s.tal := (rfl)
@[simp] theorem updTal_net (g : Tally → Tally) : (s.updTal g).net = s.net := (rfl)
@[simp] theorem updTal_pair (g : Tally → Tally) : (s.updTal g).pair = s.pair := (rfl)
@[simp] theorem updTal_peerOut (g : Tally → Tally) : (s.updTal g).peerOut = s.peerOut := (rfl)
@[simp] theorem updTal_ary (g : Tally → Tally) : (s.updTal g).ary = s.ary := (rfl)
@[simp] theorem updTal_cip (g : Tally → Tally) : (s.updTal g).cip = s.cip := (rfl)
@[simp] theorem updTal_slc (g : Tally → Tally) : (s.updTal g).slc = s.slc := (rfl)
@[simp] theorem updTal_cnl (g : Tally → Tally) : (s.updTal g).cnl = s.cnl := (rfl)
@[simp] theorem updTal_whf (g : Tally → Tally) : (s.updTal g).whf = s.whf := (rfl)
@[simp] theorem updTal_res (g : Tally → Tally) : (s.updTal g).res = s.res := (rfl)
@[simp] theorem updTal_port (g : Tally → Tally) : (s.updTal g).port = s.port := (rfl)
@[simp] theorem updTal_idle (g : Tally → Tally) : (s.updTal g).idle = s.idle := (rfl)
@[simp] theorem updTal_drives (g : Tally → Tally) : (s.updTal g).drives = s.drives := (rfl)
@[simp] theorem updTal_away (g : Tally → Tally) : (s.updTal g).away = s.away := (rfl)
@[simp] theorem updTal_out (g : Tally → Tally) : (s.updTal g).out = s.out := (rfl)
@[simp] theorem updTal_pending (g : Tally → Tally) : (s.updTal g).pending = s.pending := (rfl)
@[simp] theorem updTal_now (g : Tally → Tally) : (s.updTal g).now = s.now := (rfl)
@[simp] theorem updTal_timeBase (g : Tally → Tally) : (s.updTal g).timeBase = s.timeBase := (rfl)
@[simp] theorem updTal_free (g : Tally → Tally) : (s.updTal g).free = s.free := (rfl)
@[simp] theorem updTal_reg (g : Tally → Tally) (x : Nat) : (s.updTal g).reg x = s.reg x := (rfl)
@[simp] theorem updTal_fld (g : Tally → Tally) (x : Fld) : (s.updTal g).fld x = s.fld x := (rfl)
@[simp] theorem updTal_flag (g : Tally → Tally) (x : Fld) : (s.updTal g).flag x = s.flag x := (rfl)

@[simp] theorem updCip_regs (g : Cipher → Cipher) : (s.updCip g).regs = s.regs := (rfl)
@[simp] theorem updCip_latch (g : Cipher → Cipher) : (s.updCip g).latch = s.latch := (rfl)
@[simp] theorem updCip_loHeld (g : Cipher → Cipher) : (s.updCip g).loHeld = s.loHeld := (rfl)
@[simp] theorem updCip_mrd (g : Cipher → Cipher) : (s.updCip g).mrd = s.mrd := (rfl)
@[simp] theorem updCip_store (g : Cipher → Cipher) : (s.updCip g).store = s.store := (rfl)
@[simp] theorem updCip_fw (g : Cipher → Cipher) : (s.updCip g).fw = s.fw := (rfl)
@[simp] theorem updCip_rst (g : Cipher → Cipher) : (s.updCip g).rst = s.rst := (rfl)
@[simp] theorem updCip_pwr (g : Cipher → Cipher) : (s.updCip g).pwr = s.pwr := (rfl)
@[simp] theorem updCip_mft (g : Cipher → Cipher) : (s.updCip g).mft = s.mft := (rfl)
@[simp] theorem updCip_ept (g : Cipher → Cipher) : (s.updCip g).ept = s.ept := (rfl)
@[simp] theorem updCip_shelf (g : Cipher → Cipher) : (s.updCip g).shelf = s.shelf := (rfl)
@[simp] theorem updCip_host (g : Cipher → Cipher) : (s.updCip g).host = s.host := (rfl)
@[simp] theorem updCip_brg (g : Cipher → Cipher) : (s.updCip g).brg = s.brg := (rfl)
@[simp] theorem updCip_tug (g : Cipher → Cipher) : (s.updCip g).tug = s.tug := (rfl)
@[simp] theorem updCip_tal (g : Cipher → Cipher) : (s.updCip g).tal = s.tal := (rfl)
@[simp] theorem updCip_net (g : Cipher → Cipher) : (s.updCip g).net = s.net := (rfl)
@[simp] theorem updCip_pair (g : Cipher → Cipher) : (s.updCip g).pair = s.pair := (rfl)
@[simp] theorem updCip_peerOut (g : Cipher → Cipher) : (s.updCip g).peerOut = s.peerOut := (rfl)
@[simp] theorem updCip_ary (g : Cipher → Cipher) : (s.updCip g).ary = s.ary := (rfl)
@[simp] theorem updCip_cip (g : Cipher → Cipher) : (s.updCip g).cip = g s.cip := (rfl)
@[simp] theorem updCip_slc (g : Cipher → Cipher) : (s.updCip g).slc = s.slc := (rfl)
@[simp] theorem updCip_cnl (g : Cipher → Cipher) : (s.updCip g).cnl = s.cnl := (rfl)
@[simp] theorem updCip_whf (g : Cipher → Cipher) : (s.updCip g).whf = s.whf := (rfl)
@[simp] theorem updCip_res (g : Cipher → Cipher) : (s.updCip g).res = s.res := (rfl)
@[simp] theorem updCip_port (g : Cipher → Cipher) : (s.updCip g).port = s.port := (rfl)
@[simp] theorem updCip_idle (g : Cipher → Cipher) : (s.updCip g).idle = s.idle := (rfl)
@[simp] theorem updCip_drives (g : Cipher → Cipher) : (s.updCip g).drives = s.drives := (rfl)
@[simp] theorem updCip_away (g : Cipher → Cipher) : (s.updCip g).away = s.away := (rfl)
@[simp] theorem updCip_out (g : Cipher → Cipher) : (s.updCip g).out = s.out := (rfl)
@[simp] theorem updCip_pending (g : Cipher → Cipher) : (s.updCip g).pending = s.pending := (rfl)
@[simp] theorem updCip_now (g : Cipher → Cipher) : (s.updCip g).now = s.now := (rfl)
@[simp] theorem updCip_timeBase (g : Cipher → Cipher) : (s.updCip g).timeBase = s.timeBase := (rfl)
@[simp] theorem updCip_free (g : Cipher → Cipher) : (s.updCip g).free = s.free := (rfl)
@[simp] theorem updCip_reg (g : Cipher → Cipher) (x : Nat) : (s.updCip g).reg x = s.reg x := (rfl)
@[simp] theorem updCip_fld (g : Cipher → Cipher) (x : Fld) : (s.updCip g).fld x = s.fld x := (rfl)
@[simp] theorem updCip_flag (g : Cipher → Cipher) (x : Fld) : (s.updCip g).flag x = s.flag x := (rfl)

@[simp] theorem updPort_regs (b : Nat) (g : BayPort → BayPort) : (s.updPort b g).regs = s.regs := (rfl)
@[simp] theorem updPort_latch (b : Nat) (g : BayPort → BayPort) : (s.updPort b g).latch = s.latch := (rfl)
@[simp] theorem updPort_loHeld (b : Nat) (g : BayPort → BayPort) : (s.updPort b g).loHeld = s.loHeld := (rfl)
@[simp] theorem updPort_mrd (b : Nat) (g : BayPort → BayPort) : (s.updPort b g).mrd = s.mrd := (rfl)
@[simp] theorem updPort_store (b : Nat) (g : BayPort → BayPort) : (s.updPort b g).store = s.store := (rfl)
@[simp] theorem updPort_fw (b : Nat) (g : BayPort → BayPort) : (s.updPort b g).fw = s.fw := (rfl)
@[simp] theorem updPort_rst (b : Nat) (g : BayPort → BayPort) : (s.updPort b g).rst = s.rst := (rfl)
@[simp] theorem updPort_pwr (b : Nat) (g : BayPort → BayPort) : (s.updPort b g).pwr = s.pwr := (rfl)
@[simp] theorem updPort_mft (b : Nat) (g : BayPort → BayPort) : (s.updPort b g).mft = s.mft := (rfl)
@[simp] theorem updPort_ept (b : Nat) (g : BayPort → BayPort) : (s.updPort b g).ept = s.ept := (rfl)
@[simp] theorem updPort_shelf (b : Nat) (g : BayPort → BayPort) : (s.updPort b g).shelf = s.shelf := (rfl)
@[simp] theorem updPort_host (b : Nat) (g : BayPort → BayPort) : (s.updPort b g).host = s.host := (rfl)
@[simp] theorem updPort_brg (b : Nat) (g : BayPort → BayPort) : (s.updPort b g).brg = s.brg := (rfl)
@[simp] theorem updPort_tug (b : Nat) (g : BayPort → BayPort) : (s.updPort b g).tug = s.tug := (rfl)
@[simp] theorem updPort_tal (b : Nat) (g : BayPort → BayPort) : (s.updPort b g).tal = s.tal := (rfl)
@[simp] theorem updPort_net (b : Nat) (g : BayPort → BayPort) : (s.updPort b g).net = s.net := (rfl)
@[simp] theorem updPort_pair (b : Nat) (g : BayPort → BayPort) : (s.updPort b g).pair = s.pair := (rfl)
@[simp] theorem updPort_peerOut (b : Nat) (g : BayPort → BayPort) : (s.updPort b g).peerOut = s.peerOut := (rfl)
@[simp] theorem updPort_ary (b : Nat) (g : BayPort → BayPort) : (s.updPort b g).ary = s.ary := (rfl)
@[simp] theorem updPort_cip (b : Nat) (g : BayPort → BayPort) : (s.updPort b g).cip = s.cip := (rfl)
@[simp] theorem updPort_slc (b : Nat) (g : BayPort → BayPort) : (s.updPort b g).slc = s.slc := (rfl)
@[simp] theorem updPort_cnl (b : Nat) (g : BayPort → BayPort) : (s.updPort b g).cnl = s.cnl := (rfl)
@[simp] theorem updPort_whf (b : Nat) (g : BayPort → BayPort) : (s.updPort b g).whf = s.whf := (rfl)
@[simp] theorem updPort_res (b : Nat) (g : BayPort → BayPort) : (s.updPort b g).res = s.res := (rfl)
@[simp] theorem updPort_port (b : Nat) (g : BayPort → BayPort) : (s.updPort b g).port = s.port.upd b g := (rfl)
@[simp] theorem updPort_idle (b : Nat) (g : BayPort → BayPort) : (s.updPort b g).idle = s.idle := (rfl)
@[simp] theorem updPort_drives (b : Nat) (g : BayPort → BayPort) : (s.updPort b g).drives = s.drives := (rfl)
@[simp] theorem updPort_away (b : Nat) (g : BayPort → BayPort) : (s.updPort b g).away = s.away := (rfl)
@[simp] theorem updPort_out (b : Nat) (g : BayPort → BayPort) : (s.updPort b g).out = s.out := (rfl)
@[simp] theorem updPort_pending (b : Nat) (g : BayPort → BayPort) : (s.updPort b g).pending = s.pending := (rfl)
@[simp] theorem updPort_now (b : Nat) (g : BayPort → BayPort) : (s.updPort b g).now = s.now := (rfl)
@[simp] theorem updPort_timeBase (b : Nat) (g : BayPort → BayPort) : (s.updPort b g).timeBase = s.timeBase := (rfl)
@[simp] theorem updPort_free (b : Nat) (g : BayPort → BayPort) : (s.updPort b g).free = s.free := (rfl)
@[simp] theorem updPort_reg (b : Nat) (g : BayPort → BayPort) (x : Nat) : (s.updPort b g).reg x = s.reg x := (rfl)
@[simp] theorem updPort_fld (b : Nat) (g : BayPort → BayPort) (x : Fld) : (s.updPort b g).fld x = s.fld x := (rfl)
@[simp] theorem updPort_flag (b : Nat) (g : BayPort → BayPort) (x : Fld) : (s.updPort b g).flag x = s.flag x := (rfl)

@[simp] theorem updAry_regs (a : Nat) (g : ArrRun → ArrRun) : (s.updAry a g).regs = s.regs := (rfl)
@[simp] theorem updAry_latch (a : Nat) (g : ArrRun → ArrRun) : (s.updAry a g).latch = s.latch := (rfl)
@[simp] theorem updAry_loHeld (a : Nat) (g : ArrRun → ArrRun) : (s.updAry a g).loHeld = s.loHeld := (rfl)
@[simp] theorem updAry_mrd (a : Nat) (g : ArrRun → ArrRun) : (s.updAry a g).mrd = s.mrd := (rfl)
@[simp] theorem updAry_store (a : Nat) (g : ArrRun → ArrRun) : (s.updAry a g).store = s.store := (rfl)
@[simp] theorem updAry_fw (a : Nat) (g : ArrRun → ArrRun) : (s.updAry a g).fw = s.fw := (rfl)
@[simp] theorem updAry_rst (a : Nat) (g : ArrRun → ArrRun) : (s.updAry a g).rst = s.rst := (rfl)
@[simp] theorem updAry_pwr (a : Nat) (g : ArrRun → ArrRun) : (s.updAry a g).pwr = s.pwr := (rfl)
@[simp] theorem updAry_mft (a : Nat) (g : ArrRun → ArrRun) : (s.updAry a g).mft = s.mft := (rfl)
@[simp] theorem updAry_ept (a : Nat) (g : ArrRun → ArrRun) : (s.updAry a g).ept = s.ept := (rfl)
@[simp] theorem updAry_shelf (a : Nat) (g : ArrRun → ArrRun) : (s.updAry a g).shelf = s.shelf := (rfl)
@[simp] theorem updAry_host (a : Nat) (g : ArrRun → ArrRun) : (s.updAry a g).host = s.host := (rfl)
@[simp] theorem updAry_brg (a : Nat) (g : ArrRun → ArrRun) : (s.updAry a g).brg = s.brg := (rfl)
@[simp] theorem updAry_tug (a : Nat) (g : ArrRun → ArrRun) : (s.updAry a g).tug = s.tug := (rfl)
@[simp] theorem updAry_tal (a : Nat) (g : ArrRun → ArrRun) : (s.updAry a g).tal = s.tal := (rfl)
@[simp] theorem updAry_net (a : Nat) (g : ArrRun → ArrRun) : (s.updAry a g).net = s.net := (rfl)
@[simp] theorem updAry_pair (a : Nat) (g : ArrRun → ArrRun) : (s.updAry a g).pair = s.pair := (rfl)
@[simp] theorem updAry_peerOut (a : Nat) (g : ArrRun → ArrRun) : (s.updAry a g).peerOut = s.peerOut := (rfl)
@[simp] theorem updAry_ary (a : Nat) (g : ArrRun → ArrRun) : (s.updAry a g).ary = s.ary.upd a g := (rfl)
@[simp] theorem updAry_cip (a : Nat) (g : ArrRun → ArrRun) : (s.updAry a g).cip = s.cip := (rfl)
@[simp] theorem updAry_slc (a : Nat) (g : ArrRun → ArrRun) : (s.updAry a g).slc = s.slc := (rfl)
@[simp] theorem updAry_cnl (a : Nat) (g : ArrRun → ArrRun) : (s.updAry a g).cnl = s.cnl := (rfl)
@[simp] theorem updAry_whf (a : Nat) (g : ArrRun → ArrRun) : (s.updAry a g).whf = s.whf := (rfl)
@[simp] theorem updAry_res (a : Nat) (g : ArrRun → ArrRun) : (s.updAry a g).res = s.res := (rfl)
@[simp] theorem updAry_port (a : Nat) (g : ArrRun → ArrRun) : (s.updAry a g).port = s.port := (rfl)
@[simp] theorem updAry_idle (a : Nat) (g : ArrRun → ArrRun) : (s.updAry a g).idle = s.idle := (rfl)
@[simp] theorem updAry_drives (a : Nat) (g : ArrRun → ArrRun) : (s.updAry a g).drives = s.drives := (rfl)
@[simp] theorem updAry_away (a : Nat) (g : ArrRun → ArrRun) : (s.updAry a g).away = s.away := (rfl)
@[simp] theorem updAry_out (a : Nat) (g : ArrRun → ArrRun) : (s.updAry a g).out = s.out := (rfl)
@[simp] theorem updAry_pending (a : Nat) (g : ArrRun → ArrRun) : (s.updAry a g).pending = s.pending := (rfl)
@[simp] theorem updAry_now (a : Nat) (g : ArrRun → ArrRun) : (s.updAry a g).now = s.now := (rfl)
@[simp] theorem updAry_timeBase (a : Nat) (g : ArrRun → ArrRun) : (s.updAry a g).timeBase = s.timeBase := (rfl)
@[simp] theorem updAry_free (a : Nat) (g : ArrRun → ArrRun) : (s.updAry a g).free = s.free := (rfl)
@[simp] theorem updAry_reg (a : Nat) (g : ArrRun → ArrRun) (x : Nat) : (s.updAry a g).reg x = s.reg x := (rfl)
@[simp] theorem updAry_fld (a : Nat) (g : ArrRun → ArrRun) (x : Fld) : (s.updAry a g).fld x = s.fld x := (rfl)
@[simp] theorem updAry_flag (a : Nat) (g : ArrRun → ArrRun) (x : Fld) : (s.updAry a g).flag x = s.flag x := (rfl)

@[simp] theorem updEng_regs (e : Nat) (g : Engine → Engine) : (s.updEng e g).regs = s.regs := (rfl)
@[simp] theorem updEng_latch (e : Nat) (g : Engine → Engine) : (s.updEng e g).latch = s.latch := (rfl)
@[simp] theorem updEng_loHeld (e : Nat) (g : Engine → Engine) : (s.updEng e g).loHeld = s.loHeld := (rfl)
@[simp] theorem updEng_mrd (e : Nat) (g : Engine → Engine) : (s.updEng e g).mrd = s.mrd := (rfl)
@[simp] theorem updEng_store (e : Nat) (g : Engine → Engine) : (s.updEng e g).store = s.store := (rfl)
@[simp] theorem updEng_fw (e : Nat) (g : Engine → Engine) : (s.updEng e g).fw = s.fw := (rfl)
@[simp] theorem updEng_rst (e : Nat) (g : Engine → Engine) : (s.updEng e g).rst = s.rst := (rfl)
@[simp] theorem updEng_pwr (e : Nat) (g : Engine → Engine) : (s.updEng e g).pwr = s.pwr := (rfl)
@[simp] theorem updEng_mft (e : Nat) (g : Engine → Engine) : (s.updEng e g).mft = s.mft := (rfl)
@[simp] theorem updEng_ept (e : Nat) (g : Engine → Engine) : (s.updEng e g).ept = s.ept := (rfl)
@[simp] theorem updEng_shelf (e : Nat) (g : Engine → Engine) : (s.updEng e g).shelf = s.shelf := (rfl)
@[simp] theorem updEng_host (e : Nat) (g : Engine → Engine) : (s.updEng e g).host = s.host := (rfl)
@[simp] theorem updEng_tug (e : Nat) (g : Engine → Engine) : (s.updEng e g).tug = s.tug := (rfl)
@[simp] theorem updEng_tal (e : Nat) (g : Engine → Engine) : (s.updEng e g).tal = s.tal := (rfl)
@[simp] theorem updEng_net (e : Nat) (g : Engine → Engine) : (s.updEng e g).net = s.net := (rfl)
@[simp] theorem updEng_pair (e : Nat) (g : Engine → Engine) : (s.updEng e g).pair = s.pair := (rfl)
@[simp] theorem updEng_peerOut (e : Nat) (g : Engine → Engine) : (s.updEng e g).peerOut = s.peerOut := (rfl)
@[simp] theorem updEng_ary (e : Nat) (g : Engine → Engine) : (s.updEng e g).ary = s.ary := (rfl)
@[simp] theorem updEng_cip (e : Nat) (g : Engine → Engine) : (s.updEng e g).cip = s.cip := (rfl)
@[simp] theorem updEng_slc (e : Nat) (g : Engine → Engine) : (s.updEng e g).slc = s.slc := (rfl)
@[simp] theorem updEng_cnl (e : Nat) (g : Engine → Engine) : (s.updEng e g).cnl = s.cnl := (rfl)
@[simp] theorem updEng_whf (e : Nat) (g : Engine → Engine) : (s.updEng e g).whf = s.whf := (rfl)
@[simp] theorem updEng_res (e : Nat) (g : Engine → Engine) : (s.updEng e g).res = s.res := (rfl)
@[simp] theorem updEng_port (e : Nat) (g : Engine → Engine) : (s.updEng e g).port = s.port := (rfl)
@[simp] theorem updEng_idle (e : Nat) (g : Engine → Engine) : (s.updEng e g).idle = s.idle := (rfl)
@[simp] theorem updEng_drives (e : Nat) (g : Engine → Engine) : (s.updEng e g).drives = s.drives := (rfl)
@[simp] theorem updEng_away (e : Nat) (g : Engine → Engine) : (s.updEng e g).away = s.away := (rfl)
@[simp] theorem updEng_out (e : Nat) (g : Engine → Engine) : (s.updEng e g).out = s.out := (rfl)
@[simp] theorem updEng_pending (e : Nat) (g : Engine → Engine) : (s.updEng e g).pending = s.pending := (rfl)
@[simp] theorem updEng_now (e : Nat) (g : Engine → Engine) : (s.updEng e g).now = s.now := (rfl)
@[simp] theorem updEng_timeBase (e : Nat) (g : Engine → Engine) : (s.updEng e g).timeBase = s.timeBase := (rfl)
@[simp] theorem updEng_free (e : Nat) (g : Engine → Engine) : (s.updEng e g).free = s.free := (rfl)
@[simp] theorem updEng_reg (e : Nat) (g : Engine → Engine) (x : Nat) : (s.updEng e g).reg x = s.reg x := (rfl)
@[simp] theorem updEng_fld (e : Nat) (g : Engine → Engine) (x : Fld) : (s.updEng e g).fld x = s.fld x := (rfl)
@[simp] theorem updEng_flag (e : Nat) (g : Engine → Engine) (x : Fld) : (s.updEng e g).flag x = s.flag x := (rfl)

@[simp] theorem updBerth_regs (b : Nat) (g : Berth → Berth) : (s.updBerth b g).regs = s.regs := (rfl)
@[simp] theorem updBerth_latch (b : Nat) (g : Berth → Berth) : (s.updBerth b g).latch = s.latch := (rfl)
@[simp] theorem updBerth_loHeld (b : Nat) (g : Berth → Berth) : (s.updBerth b g).loHeld = s.loHeld := (rfl)
@[simp] theorem updBerth_mrd (b : Nat) (g : Berth → Berth) : (s.updBerth b g).mrd = s.mrd := (rfl)
@[simp] theorem updBerth_store (b : Nat) (g : Berth → Berth) : (s.updBerth b g).store = s.store := (rfl)
@[simp] theorem updBerth_fw (b : Nat) (g : Berth → Berth) : (s.updBerth b g).fw = s.fw := (rfl)
@[simp] theorem updBerth_rst (b : Nat) (g : Berth → Berth) : (s.updBerth b g).rst = s.rst := (rfl)
@[simp] theorem updBerth_pwr (b : Nat) (g : Berth → Berth) : (s.updBerth b g).pwr = s.pwr := (rfl)
@[simp] theorem updBerth_mft (b : Nat) (g : Berth → Berth) : (s.updBerth b g).mft = s.mft := (rfl)
@[simp] theorem updBerth_ept (b : Nat) (g : Berth → Berth) : (s.updBerth b g).ept = s.ept := (rfl)
@[simp] theorem updBerth_shelf (b : Nat) (g : Berth → Berth) : (s.updBerth b g).shelf = s.shelf := (rfl)
@[simp] theorem updBerth_host (b : Nat) (g : Berth → Berth) : (s.updBerth b g).host = s.host := (rfl)
@[simp] theorem updBerth_tug (b : Nat) (g : Berth → Berth) : (s.updBerth b g).tug = s.tug := (rfl)
@[simp] theorem updBerth_tal (b : Nat) (g : Berth → Berth) : (s.updBerth b g).tal = s.tal := (rfl)
@[simp] theorem updBerth_net (b : Nat) (g : Berth → Berth) : (s.updBerth b g).net = s.net := (rfl)
@[simp] theorem updBerth_pair (b : Nat) (g : Berth → Berth) : (s.updBerth b g).pair = s.pair := (rfl)
@[simp] theorem updBerth_peerOut (b : Nat) (g : Berth → Berth) : (s.updBerth b g).peerOut = s.peerOut := (rfl)
@[simp] theorem updBerth_ary (b : Nat) (g : Berth → Berth) : (s.updBerth b g).ary = s.ary := (rfl)
@[simp] theorem updBerth_cip (b : Nat) (g : Berth → Berth) : (s.updBerth b g).cip = s.cip := (rfl)
@[simp] theorem updBerth_slc (b : Nat) (g : Berth → Berth) : (s.updBerth b g).slc = s.slc := (rfl)
@[simp] theorem updBerth_cnl (b : Nat) (g : Berth → Berth) : (s.updBerth b g).cnl = s.cnl := (rfl)
@[simp] theorem updBerth_whf (b : Nat) (g : Berth → Berth) : (s.updBerth b g).whf = s.whf := (rfl)
@[simp] theorem updBerth_res (b : Nat) (g : Berth → Berth) : (s.updBerth b g).res = s.res := (rfl)
@[simp] theorem updBerth_port (b : Nat) (g : Berth → Berth) : (s.updBerth b g).port = s.port := (rfl)
@[simp] theorem updBerth_idle (b : Nat) (g : Berth → Berth) : (s.updBerth b g).idle = s.idle := (rfl)
@[simp] theorem updBerth_drives (b : Nat) (g : Berth → Berth) : (s.updBerth b g).drives = s.drives := (rfl)
@[simp] theorem updBerth_away (b : Nat) (g : Berth → Berth) : (s.updBerth b g).away = s.away := (rfl)
@[simp] theorem updBerth_out (b : Nat) (g : Berth → Berth) : (s.updBerth b g).out = s.out := (rfl)
@[simp] theorem updBerth_pending (b : Nat) (g : Berth → Berth) : (s.updBerth b g).pending = s.pending := (rfl)
@[simp] theorem updBerth_now (b : Nat) (g : Berth → Berth) : (s.updBerth b g).now = s.now := (rfl)
@[simp] theorem updBerth_timeBase (b : Nat) (g : Berth → Berth) : (s.updBerth b g).timeBase = s.timeBase := (rfl)
@[simp] theorem updBerth_free (b : Nat) (g : Berth → Berth) : (s.updBerth b g).free = s.free := (rfl)
@[simp] theorem updBerth_reg (b : Nat) (g : Berth → Berth) (x : Nat) : (s.updBerth b g).reg x = s.reg x := (rfl)
@[simp] theorem updBerth_fld (b : Nat) (g : Berth → Berth) (x : Fld) : (s.updBerth b g).fld x = s.fld x := (rfl)
@[simp] theorem updBerth_flag (b : Nat) (g : Berth → Berth) (x : Fld) : (s.updBerth b g).flag x = s.flag x := (rfl)

end Sys2Proof.Machine
end

