-- ==== Sys2Proof/Laws/Frames.lean ====
section
/-! SUPPORT. The fields that the shared operations over outputs, tallies, mooring and registers leave as they are. -/

namespace Sys2Proof.Machine

theorem foldl_keeps {σ β : Type} (P : σ → Prop) (f : σ → β → σ) (hf : ∀ t x, P t → P (f t x)) :
    ∀ (l : List β) (t : σ), P t → P (l.foldl f t)
  | [], _, h => h
  | x :: l, t, h => foldl_keeps P f hf l (f t x) (hf t x h)

theorem foldl_eq {σ β γ : Type} (g : σ → γ) (f : σ → β → σ) (hf : ∀ t x, g (f t x) = g t) (l : List β) (t : σ) :
    g (l.foldl f t) = g t :=
  foldl_keeps (fun u => g u = g t) f (fun u x h => (hf u x).trans h) l t rfl

variable (s : State)

@[simp] theorem msix_regs (v : Nat) : (s.msix v).regs = s.regs := by unfold State.msix; dsimp only; split <;> simp
@[simp] theorem msix_latch (v : Nat) : (s.msix v).latch = s.latch := by unfold State.msix; dsimp only; split <;> simp
@[simp] theorem msix_loHeld (v : Nat) : (s.msix v).loHeld = s.loHeld := by unfold State.msix; dsimp only; split <;> simp
@[simp] theorem msix_mrd (v : Nat) : (s.msix v).mrd = s.mrd := by unfold State.msix; dsimp only; split <;> simp
@[simp] theorem msix_store (v : Nat) : (s.msix v).store = s.store := by unfold State.msix; dsimp only; split <;> simp
@[simp] theorem msix_fw (v : Nat) : (s.msix v).fw = s.fw := by unfold State.msix; dsimp only; split <;> simp
@[simp] theorem msix_rst (v : Nat) : (s.msix v).rst = s.rst := by unfold State.msix; dsimp only; split <;> simp
@[simp] theorem msix_pwr (v : Nat) : (s.msix v).pwr = s.pwr := by unfold State.msix; dsimp only; split <;> simp
@[simp] theorem msix_mft (v : Nat) : (s.msix v).mft = s.mft := by unfold State.msix; dsimp only; split <;> simp
@[simp] theorem msix_shelf (v : Nat) : (s.msix v).shelf = s.shelf := by unfold State.msix; dsimp only; split <;> simp
@[simp] theorem msix_host (v : Nat) : (s.msix v).host = s.host := by unfold State.msix; dsimp only; split <;> simp
@[simp] theorem msix_brg (v : Nat) : (s.msix v).brg = s.brg := by unfold State.msix; dsimp only; split <;> simp
@[simp] theorem msix_tug (v : Nat) : (s.msix v).tug = s.tug := by unfold State.msix; dsimp only; split <;> simp
@[simp] theorem msix_tal (v : Nat) : (s.msix v).tal = s.tal := by unfold State.msix; dsimp only; split <;> simp
@[simp] theorem msix_net (v : Nat) : (s.msix v).net = s.net := by unfold State.msix; dsimp only; split <;> simp
@[simp] theorem msix_pair (v : Nat) : (s.msix v).pair = s.pair := by unfold State.msix; dsimp only; split <;> simp
@[simp] theorem msix_peerOut (v : Nat) : (s.msix v).peerOut = s.peerOut := by unfold State.msix; dsimp only; split <;> simp
@[simp] theorem msix_ary (v : Nat) : (s.msix v).ary = s.ary := by unfold State.msix; dsimp only; split <;> simp
@[simp] theorem msix_cip (v : Nat) : (s.msix v).cip = s.cip := by unfold State.msix; dsimp only; split <;> simp
@[simp] theorem msix_slc (v : Nat) : (s.msix v).slc = s.slc := by unfold State.msix; dsimp only; split <;> simp
@[simp] theorem msix_cnl (v : Nat) : (s.msix v).cnl = s.cnl := by unfold State.msix; dsimp only; split <;> simp
@[simp] theorem msix_whf (v : Nat) : (s.msix v).whf = s.whf := by unfold State.msix; dsimp only; split <;> simp
@[simp] theorem msix_res (v : Nat) : (s.msix v).res = s.res := by unfold State.msix; dsimp only; split <;> simp
@[simp] theorem msix_port (v : Nat) : (s.msix v).port = s.port := by unfold State.msix; dsimp only; split <;> simp
@[simp] theorem msix_idle (v : Nat) : (s.msix v).idle = s.idle := by unfold State.msix; dsimp only; split <;> simp
@[simp] theorem msix_drives (v : Nat) : (s.msix v).drives = s.drives := by unfold State.msix; dsimp only; split <;> simp
@[simp] theorem msix_away (v : Nat) : (s.msix v).away = s.away := by unfold State.msix; dsimp only; split <;> simp
@[simp] theorem msix_pending (v : Nat) : (s.msix v).pending = s.pending := by unfold State.msix; dsimp only; split <;> simp
@[simp] theorem msix_now (v : Nat) : (s.msix v).now = s.now := by unfold State.msix; dsimp only; split <;> simp
@[simp] theorem msix_timeBase (v : Nat) : (s.msix v).timeBase = s.timeBase := by unfold State.msix; dsimp only; split <;> simp
@[simp] theorem msix_free (v : Nat) : (s.msix v).free = s.free := by unfold State.msix; dsimp only; split <;> simp
@[simp] theorem msix_reg (v : Nat) (x : Nat) : (s.msix v).reg x = s.reg x := by rw [State.reg, msix_regs]; rfl
@[simp] theorem msix_fld (v : Nat) (x : Fld) : (s.msix v).fld x = s.fld x := by rw [State.fld, msix_reg]; rfl
@[simp] theorem msix_flag (v : Nat) (x : Fld) : (s.msix v).flag x = s.flag x := by rw [State.flag, msix_fld]; rfl

@[simp] theorem logEvent_regs (k n : Nat) : (s.logEvent k n).regs = s.regs := by simp [State.logEvent]
@[simp] theorem logEvent_latch (k n : Nat) : (s.logEvent k n).latch = s.latch := by simp [State.logEvent]
@[simp] theorem logEvent_loHeld (k n : Nat) : (s.logEvent k n).loHeld = s.loHeld := by simp [State.logEvent]
@[simp] theorem logEvent_mrd (k n : Nat) : (s.logEvent k n).mrd = s.mrd := by simp [State.logEvent]
@[simp] theorem logEvent_store (k n : Nat) : (s.logEvent k n).store = s.store := by simp [State.logEvent]
@[simp] theorem logEvent_fw (k n : Nat) : (s.logEvent k n).fw = s.fw := by simp [State.logEvent]
@[simp] theorem logEvent_rst (k n : Nat) : (s.logEvent k n).rst = s.rst := by simp [State.logEvent]
@[simp] theorem logEvent_pwr (k n : Nat) : (s.logEvent k n).pwr = s.pwr := by simp [State.logEvent]
@[simp] theorem logEvent_shelf (k n : Nat) : (s.logEvent k n).shelf = s.shelf := by simp [State.logEvent]
@[simp] theorem logEvent_host (k n : Nat) : (s.logEvent k n).host = s.host := by simp [State.logEvent]
@[simp] theorem logEvent_brg (k n : Nat) : (s.logEvent k n).brg = s.brg := by simp [State.logEvent]
@[simp] theorem logEvent_tug (k n : Nat) : (s.logEvent k n).tug = s.tug := by simp [State.logEvent]
@[simp] theorem logEvent_tal (k n : Nat) : (s.logEvent k n).tal = s.tal := by simp [State.logEvent]
@[simp] theorem logEvent_net (k n : Nat) : (s.logEvent k n).net = s.net := by simp [State.logEvent]
@[simp] theorem logEvent_pair (k n : Nat) : (s.logEvent k n).pair = s.pair := by simp [State.logEvent]
@[simp] theorem logEvent_peerOut (k n : Nat) : (s.logEvent k n).peerOut = s.peerOut := by simp [State.logEvent]
@[simp] theorem logEvent_ary (k n : Nat) : (s.logEvent k n).ary = s.ary := by simp [State.logEvent]
@[simp] theorem logEvent_cip (k n : Nat) : (s.logEvent k n).cip = s.cip := by simp [State.logEvent]
@[simp] theorem logEvent_slc (k n : Nat) : (s.logEvent k n).slc = s.slc := by simp [State.logEvent]
@[simp] theorem logEvent_cnl (k n : Nat) : (s.logEvent k n).cnl = s.cnl := by simp [State.logEvent]
@[simp] theorem logEvent_whf (k n : Nat) : (s.logEvent k n).whf = s.whf := by simp [State.logEvent]
@[simp] theorem logEvent_res (k n : Nat) : (s.logEvent k n).res = s.res := by simp [State.logEvent]
@[simp] theorem logEvent_port (k n : Nat) : (s.logEvent k n).port = s.port := by simp [State.logEvent]
@[simp] theorem logEvent_idle (k n : Nat) : (s.logEvent k n).idle = s.idle := by simp [State.logEvent]
@[simp] theorem logEvent_drives (k n : Nat) : (s.logEvent k n).drives = s.drives := by simp [State.logEvent]
@[simp] theorem logEvent_away (k n : Nat) : (s.logEvent k n).away = s.away := by simp [State.logEvent]
@[simp] theorem logEvent_pending (k n : Nat) : (s.logEvent k n).pending = s.pending := by simp [State.logEvent]
@[simp] theorem logEvent_now (k n : Nat) : (s.logEvent k n).now = s.now := by simp [State.logEvent]
@[simp] theorem logEvent_timeBase (k n : Nat) : (s.logEvent k n).timeBase = s.timeBase := by simp [State.logEvent]
@[simp] theorem logEvent_free (k n : Nat) : (s.logEvent k n).free = s.free := by simp [State.logEvent]
@[simp] theorem logEvent_reg (k n : Nat) (x : Nat) : (s.logEvent k n).reg x = s.reg x := by rw [State.reg, logEvent_regs]; rfl
@[simp] theorem logEvent_fld (k n : Nat) (x : Fld) : (s.logEvent k n).fld x = s.fld x := by rw [State.fld, logEvent_reg]; rfl
@[simp] theorem logEvent_flag (k n : Nat) (x : Fld) : (s.logEvent k n).flag x = s.flag x := by rw [State.flag, logEvent_fld]; rfl

@[simp] theorem tally_regs (c i n : Nat) : (s.tally c i n).regs = s.regs := by
  unfold State.tally; refine foldl_eq (fun u : State => u.regs) _ ?_ _ _; intro t x; rfl
@[simp] theorem tally_latch (c i n : Nat) : (s.tally c i n).latch = s.latch := by
  unfold State.tally; refine foldl_eq (fun u : State => u.latch) _ ?_ _ _; intro t x; rfl
@[simp] theorem tally_loHeld (c i n : Nat) : (s.tally c i n).loHeld = s.loHeld := by
  unfold State.tally; refine foldl_eq (fun u : State => u.loHeld) _ ?_ _ _; intro t x; rfl
@[simp] theorem tally_mrd (c i n : Nat) : (s.tally c i n).mrd = s.mrd := by
  unfold State.tally; refine foldl_eq (fun u : State => u.mrd) _ ?_ _ _; intro t x; rfl
@[simp] theorem tally_store (c i n : Nat) : (s.tally c i n).store = s.store := by
  unfold State.tally; refine foldl_eq (fun u : State => u.store) _ ?_ _ _; intro t x; rfl
@[simp] theorem tally_fw (c i n : Nat) : (s.tally c i n).fw = s.fw := by
  unfold State.tally; refine foldl_eq (fun u : State => u.fw) _ ?_ _ _; intro t x; rfl
@[simp] theorem tally_rst (c i n : Nat) : (s.tally c i n).rst = s.rst := by
  unfold State.tally; refine foldl_eq (fun u : State => u.rst) _ ?_ _ _; intro t x; rfl
@[simp] theorem tally_pwr (c i n : Nat) : (s.tally c i n).pwr = s.pwr := by
  unfold State.tally; refine foldl_eq (fun u : State => u.pwr) _ ?_ _ _; intro t x; rfl
@[simp] theorem tally_mft (c i n : Nat) : (s.tally c i n).mft = s.mft := by
  unfold State.tally; refine foldl_eq (fun u : State => u.mft) _ ?_ _ _; intro t x; rfl
@[simp] theorem tally_ept (c i n : Nat) : (s.tally c i n).ept = s.ept := by
  unfold State.tally; refine foldl_eq (fun u : State => u.ept) _ ?_ _ _; intro t x; rfl
@[simp] theorem tally_shelf (c i n : Nat) : (s.tally c i n).shelf = s.shelf := by
  unfold State.tally; refine foldl_eq (fun u : State => u.shelf) _ ?_ _ _; intro t x; rfl
@[simp] theorem tally_host (c i n : Nat) : (s.tally c i n).host = s.host := by
  unfold State.tally; refine foldl_eq (fun u : State => u.host) _ ?_ _ _; intro t x; rfl
@[simp] theorem tally_brg (c i n : Nat) : (s.tally c i n).brg = s.brg := by
  unfold State.tally; refine foldl_eq (fun u : State => u.brg) _ ?_ _ _; intro t x; rfl
@[simp] theorem tally_tug (c i n : Nat) : (s.tally c i n).tug = s.tug := by
  unfold State.tally; refine foldl_eq (fun u : State => u.tug) _ ?_ _ _; intro t x; rfl
@[simp] theorem tally_net (c i n : Nat) : (s.tally c i n).net = s.net := by
  unfold State.tally; refine foldl_eq (fun u : State => u.net) _ ?_ _ _; intro t x; rfl
@[simp] theorem tally_pair (c i n : Nat) : (s.tally c i n).pair = s.pair := by
  unfold State.tally; refine foldl_eq (fun u : State => u.pair) _ ?_ _ _; intro t x; rfl
@[simp] theorem tally_peerOut (c i n : Nat) : (s.tally c i n).peerOut = s.peerOut := by
  unfold State.tally; refine foldl_eq (fun u : State => u.peerOut) _ ?_ _ _; intro t x; rfl
@[simp] theorem tally_ary (c i n : Nat) : (s.tally c i n).ary = s.ary := by
  unfold State.tally; refine foldl_eq (fun u : State => u.ary) _ ?_ _ _; intro t x; rfl
@[simp] theorem tally_cip (c i n : Nat) : (s.tally c i n).cip = s.cip := by
  unfold State.tally; refine foldl_eq (fun u : State => u.cip) _ ?_ _ _; intro t x; rfl
@[simp] theorem tally_slc (c i n : Nat) : (s.tally c i n).slc = s.slc := by
  unfold State.tally; refine foldl_eq (fun u : State => u.slc) _ ?_ _ _; intro t x; rfl
@[simp] theorem tally_cnl (c i n : Nat) : (s.tally c i n).cnl = s.cnl := by
  unfold State.tally; refine foldl_eq (fun u : State => u.cnl) _ ?_ _ _; intro t x; rfl
@[simp] theorem tally_whf (c i n : Nat) : (s.tally c i n).whf = s.whf := by
  unfold State.tally; refine foldl_eq (fun u : State => u.whf) _ ?_ _ _; intro t x; rfl
@[simp] theorem tally_res (c i n : Nat) : (s.tally c i n).res = s.res := by
  unfold State.tally; refine foldl_eq (fun u : State => u.res) _ ?_ _ _; intro t x; rfl
@[simp] theorem tally_port (c i n : Nat) : (s.tally c i n).port = s.port := by
  unfold State.tally; refine foldl_eq (fun u : State => u.port) _ ?_ _ _; intro t x; rfl
@[simp] theorem tally_idle (c i n : Nat) : (s.tally c i n).idle = s.idle := by
  unfold State.tally; refine foldl_eq (fun u : State => u.idle) _ ?_ _ _; intro t x; rfl
@[simp] theorem tally_drives (c i n : Nat) : (s.tally c i n).drives = s.drives := by
  unfold State.tally; refine foldl_eq (fun u : State => u.drives) _ ?_ _ _; intro t x; rfl
@[simp] theorem tally_away (c i n : Nat) : (s.tally c i n).away = s.away := by
  unfold State.tally; refine foldl_eq (fun u : State => u.away) _ ?_ _ _; intro t x; rfl
@[simp] theorem tally_out (c i n : Nat) : (s.tally c i n).out = s.out := by
  unfold State.tally; refine foldl_eq (fun u : State => u.out) _ ?_ _ _; intro t x; rfl
@[simp] theorem tally_pending (c i n : Nat) : (s.tally c i n).pending = s.pending := by
  unfold State.tally; refine foldl_eq (fun u : State => u.pending) _ ?_ _ _; intro t x; rfl
@[simp] theorem tally_now (c i n : Nat) : (s.tally c i n).now = s.now := by
  unfold State.tally; refine foldl_eq (fun u : State => u.now) _ ?_ _ _; intro t x; rfl
@[simp] theorem tally_timeBase (c i n : Nat) : (s.tally c i n).timeBase = s.timeBase := by
  unfold State.tally; refine foldl_eq (fun u : State => u.timeBase) _ ?_ _ _; intro t x; rfl
@[simp] theorem tally_free (c i n : Nat) : (s.tally c i n).free = s.free := by
  unfold State.tally; refine foldl_eq (fun u : State => u.free) _ ?_ _ _; intro t x; rfl
@[simp] theorem tally_reg (c i n : Nat) (x : Nat) : (s.tally c i n).reg x = s.reg x := by rw [State.reg, tally_regs]; rfl
@[simp] theorem tally_fld (c i n : Nat) (x : Fld) : (s.tally c i n).fld x = s.fld x := by rw [State.fld, tally_reg]; rfl
@[simp] theorem tally_flag (c i n : Nat) (x : Fld) : (s.tally c i n).flag x = s.flag x := by rw [State.flag, tally_fld]; rfl

@[simp] theorem moorStat_latch : s.moorStat.latch = s.latch := by simp [State.moorStat]
@[simp] theorem moorStat_loHeld : s.moorStat.loHeld = s.loHeld := by simp [State.moorStat]
@[simp] theorem moorStat_mrd : s.moorStat.mrd = s.mrd := by simp [State.moorStat]
@[simp] theorem moorStat_store : s.moorStat.store = s.store := by simp [State.moorStat]
@[simp] theorem moorStat_fw : s.moorStat.fw = s.fw := by simp [State.moorStat]
@[simp] theorem moorStat_rst : s.moorStat.rst = s.rst := by simp [State.moorStat]
@[simp] theorem moorStat_pwr : s.moorStat.pwr = s.pwr := by simp [State.moorStat]
@[simp] theorem moorStat_mft : s.moorStat.mft = s.mft := by simp [State.moorStat]
@[simp] theorem moorStat_ept : s.moorStat.ept = s.ept := by simp [State.moorStat]
@[simp] theorem moorStat_shelf : s.moorStat.shelf = s.shelf := by simp [State.moorStat]
@[simp] theorem moorStat_host : s.moorStat.host = s.host := by simp [State.moorStat]
@[simp] theorem moorStat_brg : s.moorStat.brg = s.brg := by simp [State.moorStat]
@[simp] theorem moorStat_tug : s.moorStat.tug = s.tug := by simp [State.moorStat]
@[simp] theorem moorStat_tal : s.moorStat.tal = s.tal := by simp [State.moorStat]
@[simp] theorem moorStat_net : s.moorStat.net = s.net := by simp [State.moorStat]
@[simp] theorem moorStat_pair : s.moorStat.pair = s.pair := by simp [State.moorStat]
@[simp] theorem moorStat_peerOut : s.moorStat.peerOut = s.peerOut := by simp [State.moorStat]
@[simp] theorem moorStat_ary : s.moorStat.ary = s.ary := by simp [State.moorStat]
@[simp] theorem moorStat_cip : s.moorStat.cip = s.cip := by simp [State.moorStat]
@[simp] theorem moorStat_slc : s.moorStat.slc = s.slc := by simp [State.moorStat]
@[simp] theorem moorStat_cnl : s.moorStat.cnl = s.cnl := by simp [State.moorStat]
@[simp] theorem moorStat_whf : s.moorStat.whf = s.whf := by simp [State.moorStat]
@[simp] theorem moorStat_res : s.moorStat.res = s.res := by simp [State.moorStat]
@[simp] theorem moorStat_port : s.moorStat.port = s.port := by simp [State.moorStat]
@[simp] theorem moorStat_idle : s.moorStat.idle = s.idle := by simp [State.moorStat]
@[simp] theorem moorStat_drives : s.moorStat.drives = s.drives := by simp [State.moorStat]
@[simp] theorem moorStat_away : s.moorStat.away = s.away := by simp [State.moorStat]
@[simp] theorem moorStat_out : s.moorStat.out = s.out := by simp [State.moorStat]
@[simp] theorem moorStat_pending : s.moorStat.pending = s.pending := by simp [State.moorStat]
@[simp] theorem moorStat_now : s.moorStat.now = s.now := by simp [State.moorStat]
@[simp] theorem moorStat_timeBase : s.moorStat.timeBase = s.timeBase := by simp [State.moorStat]
@[simp] theorem moorStat_free : s.moorStat.free = s.free := by simp [State.moorStat]

@[simp] theorem journal_latch : s.journal.latch = s.latch := by
  unfold State.journal; split
  · simp
  · split <;> simp
@[simp] theorem journal_loHeld : s.journal.loHeld = s.loHeld := by
  unfold State.journal; split
  · simp
  · split <;> simp
@[simp] theorem journal_mrd : s.journal.mrd = s.mrd := by
  unfold State.journal; split
  · simp
  · split <;> simp
@[simp] theorem journal_fw : s.journal.fw = s.fw := by
  unfold State.journal; split
  · simp
  · split <;> simp
@[simp] theorem journal_rst : s.journal.rst = s.rst := by
  unfold State.journal; split
  · simp
  · split <;> simp
@[simp] theorem journal_pwr : s.journal.pwr = s.pwr := by
  unfold State.journal; split
  · simp
  · split <;> simp
@[simp] theorem journal_mft : s.journal.mft = s.mft := by
  unfold State.journal; split
  · simp
  · split <;> simp
@[simp] theorem journal_ept : s.journal.ept = s.ept := by
  unfold State.journal; split
  · simp
  · split <;> simp
@[simp] theorem journal_shelf : s.journal.shelf = s.shelf := by
  unfold State.journal; split
  · simp
  · split <;> simp
@[simp] theorem journal_host : s.journal.host = s.host := by
  unfold State.journal; split
  · simp
  · split <;> simp
@[simp] theorem journal_brg : s.journal.brg = s.brg := by
  unfold State.journal; split
  · simp
  · split <;> simp
@[simp] theorem journal_tug : s.journal.tug = s.tug := by
  unfold State.journal; split
  · simp
  · split <;> simp
@[simp] theorem journal_tal : s.journal.tal = s.tal := by
  unfold State.journal; split
  · simp
  · split <;> simp
@[simp] theorem journal_net : s.journal.net = s.net := by
  unfold State.journal; split
  · simp
  · split <;> simp
@[simp] theorem journal_pair : s.journal.pair = s.pair := by
  unfold State.journal; split
  · simp
  · split <;> simp
@[simp] theorem journal_peerOut : s.journal.peerOut = s.peerOut := by
  unfold State.journal; split
  · simp
  · split <;> simp
@[simp] theorem journal_ary : s.journal.ary = s.ary := by
  unfold State.journal; split
  · simp
  · split <;> simp
@[simp] theorem journal_cip : s.journal.cip = s.cip := by
  unfold State.journal; split
  · simp
  · split <;> simp
@[simp] theorem journal_slc : s.journal.slc = s.slc := by
  unfold State.journal; split
  · simp
  · split <;> simp
@[simp] theorem journal_cnl : s.journal.cnl = s.cnl := by
  unfold State.journal; split
  · simp
  · split <;> simp
@[simp] theorem journal_whf : s.journal.whf = s.whf := by
  unfold State.journal; split
  · simp
  · split <;> simp
@[simp] theorem journal_res : s.journal.res = s.res := by
  unfold State.journal; split
  · simp
  · split <;> simp
@[simp] theorem journal_port : s.journal.port = s.port := by
  unfold State.journal; split
  · simp
  · split <;> simp
@[simp] theorem journal_idle : s.journal.idle = s.idle := by
  unfold State.journal; split
  · simp
  · split <;> simp
@[simp] theorem journal_drives : s.journal.drives = s.drives := by
  unfold State.journal; split
  · simp
  · split <;> simp
@[simp] theorem journal_away : s.journal.away = s.away := by
  unfold State.journal; split
  · simp
  · split <;> simp
@[simp] theorem journal_out : s.journal.out = s.out := by
  unfold State.journal; split
  · simp
  · split <;> simp
@[simp] theorem journal_pending : s.journal.pending = s.pending := by
  unfold State.journal; split
  · simp
  · split <;> simp
@[simp] theorem journal_now : s.journal.now = s.now := by
  unfold State.journal; split
  · simp
  · split <;> simp
@[simp] theorem journal_timeBase : s.journal.timeBase = s.timeBase := by
  unfold State.journal; split
  · simp
  · split <;> simp
@[simp] theorem journal_free : s.journal.free = s.free := by
  unfold State.journal; split
  · simp
  · split <;> simp

@[simp] theorem sendPeers_regs (f : PeerFrame) : (s.sendPeers f).regs = s.regs := by unfold State.sendPeers; split <;> simp
@[simp] theorem sendPeers_latch (f : PeerFrame) : (s.sendPeers f).latch = s.latch := by unfold State.sendPeers; split <;> simp
@[simp] theorem sendPeers_loHeld (f : PeerFrame) : (s.sendPeers f).loHeld = s.loHeld := by unfold State.sendPeers; split <;> simp
@[simp] theorem sendPeers_mrd (f : PeerFrame) : (s.sendPeers f).mrd = s.mrd := by unfold State.sendPeers; split <;> simp
@[simp] theorem sendPeers_store (f : PeerFrame) : (s.sendPeers f).store = s.store := by unfold State.sendPeers; split <;> simp
@[simp] theorem sendPeers_fw (f : PeerFrame) : (s.sendPeers f).fw = s.fw := by unfold State.sendPeers; split <;> simp
@[simp] theorem sendPeers_rst (f : PeerFrame) : (s.sendPeers f).rst = s.rst := by unfold State.sendPeers; split <;> simp
@[simp] theorem sendPeers_pwr (f : PeerFrame) : (s.sendPeers f).pwr = s.pwr := by unfold State.sendPeers; split <;> simp
@[simp] theorem sendPeers_mft (f : PeerFrame) : (s.sendPeers f).mft = s.mft := by unfold State.sendPeers; split <;> simp
@[simp] theorem sendPeers_ept (f : PeerFrame) : (s.sendPeers f).ept = s.ept := by unfold State.sendPeers; split <;> simp
@[simp] theorem sendPeers_shelf (f : PeerFrame) : (s.sendPeers f).shelf = s.shelf := by unfold State.sendPeers; split <;> simp
@[simp] theorem sendPeers_host (f : PeerFrame) : (s.sendPeers f).host = s.host := by unfold State.sendPeers; split <;> simp
@[simp] theorem sendPeers_brg (f : PeerFrame) : (s.sendPeers f).brg = s.brg := by unfold State.sendPeers; split <;> simp
@[simp] theorem sendPeers_tug (f : PeerFrame) : (s.sendPeers f).tug = s.tug := by unfold State.sendPeers; split <;> simp
@[simp] theorem sendPeers_tal (f : PeerFrame) : (s.sendPeers f).tal = s.tal := by unfold State.sendPeers; split <;> simp
@[simp] theorem sendPeers_net (f : PeerFrame) : (s.sendPeers f).net = s.net := by unfold State.sendPeers; split <;> simp
@[simp] theorem sendPeers_pair (f : PeerFrame) : (s.sendPeers f).pair = s.pair := by unfold State.sendPeers; split <;> simp
@[simp] theorem sendPeers_ary (f : PeerFrame) : (s.sendPeers f).ary = s.ary := by unfold State.sendPeers; split <;> simp
@[simp] theorem sendPeers_cip (f : PeerFrame) : (s.sendPeers f).cip = s.cip := by unfold State.sendPeers; split <;> simp
@[simp] theorem sendPeers_slc (f : PeerFrame) : (s.sendPeers f).slc = s.slc := by unfold State.sendPeers; split <;> simp
@[simp] theorem sendPeers_cnl (f : PeerFrame) : (s.sendPeers f).cnl = s.cnl := by unfold State.sendPeers; split <;> simp
@[simp] theorem sendPeers_whf (f : PeerFrame) : (s.sendPeers f).whf = s.whf := by unfold State.sendPeers; split <;> simp
@[simp] theorem sendPeers_res (f : PeerFrame) : (s.sendPeers f).res = s.res := by unfold State.sendPeers; split <;> simp
@[simp] theorem sendPeers_port (f : PeerFrame) : (s.sendPeers f).port = s.port := by unfold State.sendPeers; split <;> simp
@[simp] theorem sendPeers_idle (f : PeerFrame) : (s.sendPeers f).idle = s.idle := by unfold State.sendPeers; split <;> simp
@[simp] theorem sendPeers_drives (f : PeerFrame) : (s.sendPeers f).drives = s.drives := by unfold State.sendPeers; split <;> simp
@[simp] theorem sendPeers_away (f : PeerFrame) : (s.sendPeers f).away = s.away := by unfold State.sendPeers; split <;> simp
@[simp] theorem sendPeers_out (f : PeerFrame) : (s.sendPeers f).out = s.out := by unfold State.sendPeers; split <;> simp
@[simp] theorem sendPeers_pending (f : PeerFrame) : (s.sendPeers f).pending = s.pending := by unfold State.sendPeers; split <;> simp
@[simp] theorem sendPeers_now (f : PeerFrame) : (s.sendPeers f).now = s.now := by unfold State.sendPeers; split <;> simp
@[simp] theorem sendPeers_timeBase (f : PeerFrame) : (s.sendPeers f).timeBase = s.timeBase := by unfold State.sendPeers; split <;> simp
@[simp] theorem sendPeers_free (f : PeerFrame) : (s.sendPeers f).free = s.free := by unfold State.sendPeers; split <;> simp
@[simp] theorem sendPeers_reg (f : PeerFrame) (x : Nat) : (s.sendPeers f).reg x = s.reg x := by rw [State.reg, sendPeers_regs]; rfl
@[simp] theorem sendPeers_fld (f : PeerFrame) (x : Fld) : (s.sendPeers f).fld x = s.fld x := by rw [State.fld, sendPeers_reg]; rfl
@[simp] theorem sendPeers_flag (f : PeerFrame) (x : Fld) : (s.sendPeers f).flag x = s.flag x := by rw [State.flag, sendPeers_fld]; rfl

@[simp] theorem shadow_regs (r : MoorRec) (p : Bool) : (s.shadow r p).regs = s.regs := by
  unfold State.shadow; split
  · simp
  · dsimp only; split <;> split <;> simp
@[simp] theorem shadow_latch (r : MoorRec) (p : Bool) : (s.shadow r p).latch = s.latch := by
  unfold State.shadow; split
  · simp
  · dsimp only; split <;> split <;> simp
@[simp] theorem shadow_loHeld (r : MoorRec) (p : Bool) : (s.shadow r p).loHeld = s.loHeld := by
  unfold State.shadow; split
  · simp
  · dsimp only; split <;> split <;> simp
@[simp] theorem shadow_mrd (r : MoorRec) (p : Bool) : (s.shadow r p).mrd = s.mrd := by
  unfold State.shadow; split
  · simp
  · dsimp only; split <;> split <;> simp
@[simp] theorem shadow_store (r : MoorRec) (p : Bool) : (s.shadow r p).store = s.store := by
  unfold State.shadow; split
  · simp
  · dsimp only; split <;> split <;> simp
@[simp] theorem shadow_fw (r : MoorRec) (p : Bool) : (s.shadow r p).fw = s.fw := by
  unfold State.shadow; split
  · simp
  · dsimp only; split <;> split <;> simp
@[simp] theorem shadow_rst (r : MoorRec) (p : Bool) : (s.shadow r p).rst = s.rst := by
  unfold State.shadow; split
  · simp
  · dsimp only; split <;> split <;> simp
@[simp] theorem shadow_pwr (r : MoorRec) (p : Bool) : (s.shadow r p).pwr = s.pwr := by
  unfold State.shadow; split
  · simp
  · dsimp only; split <;> split <;> simp
@[simp] theorem shadow_mft (r : MoorRec) (p : Bool) : (s.shadow r p).mft = s.mft := by
  unfold State.shadow; split
  · simp
  · dsimp only; split <;> split <;> simp
@[simp] theorem shadow_ept (r : MoorRec) (p : Bool) : (s.shadow r p).ept = s.ept := by
  unfold State.shadow; split
  · simp
  · dsimp only; split <;> split <;> simp
@[simp] theorem shadow_shelf (r : MoorRec) (p : Bool) : (s.shadow r p).shelf = s.shelf := by
  unfold State.shadow; split
  · simp
  · dsimp only; split <;> split <;> simp
@[simp] theorem shadow_host (r : MoorRec) (p : Bool) : (s.shadow r p).host = s.host := by
  unfold State.shadow; split
  · simp
  · dsimp only; split <;> split <;> simp
@[simp] theorem shadow_brg (r : MoorRec) (p : Bool) : (s.shadow r p).brg = s.brg := by
  unfold State.shadow; split
  · simp
  · dsimp only; split <;> split <;> simp
@[simp] theorem shadow_tug (r : MoorRec) (p : Bool) : (s.shadow r p).tug = s.tug := by
  unfold State.shadow; split
  · simp
  · dsimp only; split <;> split <;> simp
@[simp] theorem shadow_tal (r : MoorRec) (p : Bool) : (s.shadow r p).tal = s.tal := by
  unfold State.shadow; split
  · simp
  · dsimp only; split <;> split <;> simp
@[simp] theorem shadow_net (r : MoorRec) (p : Bool) : (s.shadow r p).net = s.net := by
  unfold State.shadow; split
  · simp
  · dsimp only; split <;> split <;> simp
@[simp] theorem shadow_ary (r : MoorRec) (p : Bool) : (s.shadow r p).ary = s.ary := by
  unfold State.shadow; split
  · simp
  · dsimp only; split <;> split <;> simp
@[simp] theorem shadow_cip (r : MoorRec) (p : Bool) : (s.shadow r p).cip = s.cip := by
  unfold State.shadow; split
  · simp
  · dsimp only; split <;> split <;> simp
@[simp] theorem shadow_slc (r : MoorRec) (p : Bool) : (s.shadow r p).slc = s.slc := by
  unfold State.shadow; split
  · simp
  · dsimp only; split <;> split <;> simp
@[simp] theorem shadow_cnl (r : MoorRec) (p : Bool) : (s.shadow r p).cnl = s.cnl := by
  unfold State.shadow; split
  · simp
  · dsimp only; split <;> split <;> simp
@[simp] theorem shadow_whf (r : MoorRec) (p : Bool) : (s.shadow r p).whf = s.whf := by
  unfold State.shadow; split
  · simp
  · dsimp only; split <;> split <;> simp
@[simp] theorem shadow_res (r : MoorRec) (p : Bool) : (s.shadow r p).res = s.res := by
  unfold State.shadow; split
  · simp
  · dsimp only; split <;> split <;> simp
@[simp] theorem shadow_port (r : MoorRec) (p : Bool) : (s.shadow r p).port = s.port := by
  unfold State.shadow; split
  · simp
  · dsimp only; split <;> split <;> simp
@[simp] theorem shadow_idle (r : MoorRec) (p : Bool) : (s.shadow r p).idle = s.idle := by
  unfold State.shadow; split
  · simp
  · dsimp only; split <;> split <;> simp
@[simp] theorem shadow_drives (r : MoorRec) (p : Bool) : (s.shadow r p).drives = s.drives := by
  unfold State.shadow; split
  · simp
  · dsimp only; split <;> split <;> simp
@[simp] theorem shadow_away (r : MoorRec) (p : Bool) : (s.shadow r p).away = s.away := by
  unfold State.shadow; split
  · simp
  · dsimp only; split <;> split <;> simp
@[simp] theorem shadow_out (r : MoorRec) (p : Bool) : (s.shadow r p).out = s.out := by
  unfold State.shadow; split
  · simp
  · dsimp only; split <;> split <;> simp
@[simp] theorem shadow_pending (r : MoorRec) (p : Bool) : (s.shadow r p).pending = s.pending := by
  unfold State.shadow; split
  · simp
  · dsimp only; split <;> split <;> simp
@[simp] theorem shadow_now (r : MoorRec) (p : Bool) : (s.shadow r p).now = s.now := by
  unfold State.shadow; split
  · simp
  · dsimp only; split <;> split <;> simp
@[simp] theorem shadow_timeBase (r : MoorRec) (p : Bool) : (s.shadow r p).timeBase = s.timeBase := by
  unfold State.shadow; split
  · simp
  · dsimp only; split <;> split <;> simp
@[simp] theorem shadow_free (r : MoorRec) (p : Bool) : (s.shadow r p).free = s.free := by
  unfold State.shadow; split
  · simp
  · dsimp only; split <;> split <;> simp
@[simp] theorem shadow_reg (r : MoorRec) (p : Bool) (x : Nat) : (s.shadow r p).reg x = s.reg x := by rw [State.reg, shadow_regs]; rfl
@[simp] theorem shadow_fld (r : MoorRec) (p : Bool) (x : Fld) : (s.shadow r p).fld x = s.fld x := by rw [State.fld, shadow_reg]; rfl
@[simp] theorem shadow_flag (r : MoorRec) (p : Bool) (x : Fld) : (s.shadow r p).flag x = s.flag x := by rw [State.flag, shadow_fld]; rfl

@[simp] theorem moorAs_latch (r : MoorRec) (p : Bool) : (s.moorAs r p).latch = s.latch := by simp [State.moorAs]
@[simp] theorem moorAs_loHeld (r : MoorRec) (p : Bool) : (s.moorAs r p).loHeld = s.loHeld := by simp [State.moorAs]
@[simp] theorem moorAs_fw (r : MoorRec) (p : Bool) : (s.moorAs r p).fw = s.fw := by simp [State.moorAs]
@[simp] theorem moorAs_rst (r : MoorRec) (p : Bool) : (s.moorAs r p).rst = s.rst := by simp [State.moorAs]
@[simp] theorem moorAs_pwr (r : MoorRec) (p : Bool) : (s.moorAs r p).pwr = s.pwr := by simp [State.moorAs]
@[simp] theorem moorAs_mft (r : MoorRec) (p : Bool) : (s.moorAs r p).mft = s.mft := by simp [State.moorAs]
@[simp] theorem moorAs_ept (r : MoorRec) (p : Bool) : (s.moorAs r p).ept = s.ept := by simp [State.moorAs]
@[simp] theorem moorAs_shelf (r : MoorRec) (p : Bool) : (s.moorAs r p).shelf = s.shelf := by simp [State.moorAs]
@[simp] theorem moorAs_host (r : MoorRec) (p : Bool) : (s.moorAs r p).host = s.host := by simp [State.moorAs]
@[simp] theorem moorAs_brg (r : MoorRec) (p : Bool) : (s.moorAs r p).brg = s.brg := by simp [State.moorAs]
@[simp] theorem moorAs_tug (r : MoorRec) (p : Bool) : (s.moorAs r p).tug = s.tug := by simp [State.moorAs]
@[simp] theorem moorAs_tal (r : MoorRec) (p : Bool) : (s.moorAs r p).tal = s.tal := by simp [State.moorAs]
@[simp] theorem moorAs_net (r : MoorRec) (p : Bool) : (s.moorAs r p).net = s.net := by simp [State.moorAs]
@[simp] theorem moorAs_ary (r : MoorRec) (p : Bool) : (s.moorAs r p).ary = s.ary := by simp [State.moorAs]
@[simp] theorem moorAs_cip (r : MoorRec) (p : Bool) : (s.moorAs r p).cip = s.cip := by simp [State.moorAs]
@[simp] theorem moorAs_slc (r : MoorRec) (p : Bool) : (s.moorAs r p).slc = s.slc := by simp [State.moorAs]
@[simp] theorem moorAs_cnl (r : MoorRec) (p : Bool) : (s.moorAs r p).cnl = s.cnl := by simp [State.moorAs]
@[simp] theorem moorAs_whf (r : MoorRec) (p : Bool) : (s.moorAs r p).whf = s.whf := by simp [State.moorAs]
@[simp] theorem moorAs_res (r : MoorRec) (p : Bool) : (s.moorAs r p).res = s.res := by simp [State.moorAs]
@[simp] theorem moorAs_port (r : MoorRec) (p : Bool) : (s.moorAs r p).port = s.port := by simp [State.moorAs]
@[simp] theorem moorAs_idle (r : MoorRec) (p : Bool) : (s.moorAs r p).idle = s.idle := by simp [State.moorAs]
@[simp] theorem moorAs_drives (r : MoorRec) (p : Bool) : (s.moorAs r p).drives = s.drives := by simp [State.moorAs]
@[simp] theorem moorAs_away (r : MoorRec) (p : Bool) : (s.moorAs r p).away = s.away := by simp [State.moorAs]
@[simp] theorem moorAs_out (r : MoorRec) (p : Bool) : (s.moorAs r p).out = s.out := by simp [State.moorAs]
@[simp] theorem moorAs_pending (r : MoorRec) (p : Bool) : (s.moorAs r p).pending = s.pending := by simp [State.moorAs]
@[simp] theorem moorAs_now (r : MoorRec) (p : Bool) : (s.moorAs r p).now = s.now := by simp [State.moorAs]
@[simp] theorem moorAs_timeBase (r : MoorRec) (p : Bool) : (s.moorAs r p).timeBase = s.timeBase := by simp [State.moorAs]
@[simp] theorem moorAs_free (r : MoorRec) (p : Bool) : (s.moorAs r p).free = s.free := by simp [State.moorAs]

@[simp] theorem moor_latch (r : MoorRec) : (s.moor r).latch = s.latch := by simp [State.moor]
@[simp] theorem moor_loHeld (r : MoorRec) : (s.moor r).loHeld = s.loHeld := by simp [State.moor]
@[simp] theorem moor_fw (r : MoorRec) : (s.moor r).fw = s.fw := by simp [State.moor]
@[simp] theorem moor_rst (r : MoorRec) : (s.moor r).rst = s.rst := by simp [State.moor]
@[simp] theorem moor_pwr (r : MoorRec) : (s.moor r).pwr = s.pwr := by simp [State.moor]
@[simp] theorem moor_mft (r : MoorRec) : (s.moor r).mft = s.mft := by simp [State.moor]
@[simp] theorem moor_ept (r : MoorRec) : (s.moor r).ept = s.ept := by simp [State.moor]
@[simp] theorem moor_shelf (r : MoorRec) : (s.moor r).shelf = s.shelf := by simp [State.moor]
@[simp] theorem moor_host (r : MoorRec) : (s.moor r).host = s.host := by simp [State.moor]
@[simp] theorem moor_brg (r : MoorRec) : (s.moor r).brg = s.brg := by simp [State.moor]
@[simp] theorem moor_tug (r : MoorRec) : (s.moor r).tug = s.tug := by simp [State.moor]
@[simp] theorem moor_tal (r : MoorRec) : (s.moor r).tal = s.tal := by simp [State.moor]
@[simp] theorem moor_net (r : MoorRec) : (s.moor r).net = s.net := by simp [State.moor]
@[simp] theorem moor_ary (r : MoorRec) : (s.moor r).ary = s.ary := by simp [State.moor]
@[simp] theorem moor_cip (r : MoorRec) : (s.moor r).cip = s.cip := by simp [State.moor]
@[simp] theorem moor_slc (r : MoorRec) : (s.moor r).slc = s.slc := by simp [State.moor]
@[simp] theorem moor_cnl (r : MoorRec) : (s.moor r).cnl = s.cnl := by simp [State.moor]
@[simp] theorem moor_whf (r : MoorRec) : (s.moor r).whf = s.whf := by simp [State.moor]
@[simp] theorem moor_res (r : MoorRec) : (s.moor r).res = s.res := by simp [State.moor]
@[simp] theorem moor_port (r : MoorRec) : (s.moor r).port = s.port := by simp [State.moor]
@[simp] theorem moor_idle (r : MoorRec) : (s.moor r).idle = s.idle := by simp [State.moor]
@[simp] theorem moor_drives (r : MoorRec) : (s.moor r).drives = s.drives := by simp [State.moor]
@[simp] theorem moor_away (r : MoorRec) : (s.moor r).away = s.away := by simp [State.moor]
@[simp] theorem moor_out (r : MoorRec) : (s.moor r).out = s.out := by simp [State.moor]
@[simp] theorem moor_pending (r : MoorRec) : (s.moor r).pending = s.pending := by simp [State.moor]
@[simp] theorem moor_now (r : MoorRec) : (s.moor r).now = s.now := by simp [State.moor]
@[simp] theorem moor_timeBase (r : MoorRec) : (s.moor r).timeBase = s.timeBase := by simp [State.moor]
@[simp] theorem moor_free (r : MoorRec) : (s.moor r).free = s.free := by simp [State.moor]

@[simp] theorem moorReg_regs (a : Nat) : (s.moorReg a).regs = s.regs := by
  unfold State.moorReg; split
  · simp
  · dsimp only; split <;> simp
@[simp] theorem moorReg_latch (a : Nat) : (s.moorReg a).latch = s.latch := by
  unfold State.moorReg; split
  · simp
  · dsimp only; split <;> simp
@[simp] theorem moorReg_loHeld (a : Nat) : (s.moorReg a).loHeld = s.loHeld := by
  unfold State.moorReg; split
  · simp
  · dsimp only; split <;> simp
@[simp] theorem moorReg_mrd (a : Nat) : (s.moorReg a).mrd = s.mrd := by
  unfold State.moorReg; split
  · simp
  · dsimp only; split <;> simp
@[simp] theorem moorReg_fw (a : Nat) : (s.moorReg a).fw = s.fw := by
  unfold State.moorReg; split
  · simp
  · dsimp only; split <;> simp
@[simp] theorem moorReg_rst (a : Nat) : (s.moorReg a).rst = s.rst := by
  unfold State.moorReg; split
  · simp
  · dsimp only; split <;> simp
@[simp] theorem moorReg_pwr (a : Nat) : (s.moorReg a).pwr = s.pwr := by
  unfold State.moorReg; split
  · simp
  · dsimp only; split <;> simp
@[simp] theorem moorReg_mft (a : Nat) : (s.moorReg a).mft = s.mft := by
  unfold State.moorReg; split
  · simp
  · dsimp only; split <;> simp
@[simp] theorem moorReg_ept (a : Nat) : (s.moorReg a).ept = s.ept := by
  unfold State.moorReg; split
  · simp
  · dsimp only; split <;> simp
@[simp] theorem moorReg_shelf (a : Nat) : (s.moorReg a).shelf = s.shelf := by
  unfold State.moorReg; split
  · simp
  · dsimp only; split <;> simp
@[simp] theorem moorReg_host (a : Nat) : (s.moorReg a).host = s.host := by
  unfold State.moorReg; split
  · simp
  · dsimp only; split <;> simp
@[simp] theorem moorReg_brg (a : Nat) : (s.moorReg a).brg = s.brg := by
  unfold State.moorReg; split
  · simp
  · dsimp only; split <;> simp
@[simp] theorem moorReg_tug (a : Nat) : (s.moorReg a).tug = s.tug := by
  unfold State.moorReg; split
  · simp
  · dsimp only; split <;> simp
@[simp] theorem moorReg_tal (a : Nat) : (s.moorReg a).tal = s.tal := by
  unfold State.moorReg; split
  · simp
  · dsimp only; split <;> simp
@[simp] theorem moorReg_net (a : Nat) : (s.moorReg a).net = s.net := by
  unfold State.moorReg; split
  · simp
  · dsimp only; split <;> simp
@[simp] theorem moorReg_ary (a : Nat) : (s.moorReg a).ary = s.ary := by
  unfold State.moorReg; split
  · simp
  · dsimp only; split <;> simp
@[simp] theorem moorReg_cip (a : Nat) : (s.moorReg a).cip = s.cip := by
  unfold State.moorReg; split
  · simp
  · dsimp only; split <;> simp
@[simp] theorem moorReg_slc (a : Nat) : (s.moorReg a).slc = s.slc := by
  unfold State.moorReg; split
  · simp
  · dsimp only; split <;> simp
@[simp] theorem moorReg_cnl (a : Nat) : (s.moorReg a).cnl = s.cnl := by
  unfold State.moorReg; split
  · simp
  · dsimp only; split <;> simp
@[simp] theorem moorReg_whf (a : Nat) : (s.moorReg a).whf = s.whf := by
  unfold State.moorReg; split
  · simp
  · dsimp only; split <;> simp
@[simp] theorem moorReg_res (a : Nat) : (s.moorReg a).res = s.res := by
  unfold State.moorReg; split
  · simp
  · dsimp only; split <;> simp
@[simp] theorem moorReg_port (a : Nat) : (s.moorReg a).port = s.port := by
  unfold State.moorReg; split
  · simp
  · dsimp only; split <;> simp
@[simp] theorem moorReg_idle (a : Nat) : (s.moorReg a).idle = s.idle := by
  unfold State.moorReg; split
  · simp
  · dsimp only; split <;> simp
@[simp] theorem moorReg_drives (a : Nat) : (s.moorReg a).drives = s.drives := by
  unfold State.moorReg; split
  · simp
  · dsimp only; split <;> simp
@[simp] theorem moorReg_away (a : Nat) : (s.moorReg a).away = s.away := by
  unfold State.moorReg; split
  · simp
  · dsimp only; split <;> simp
@[simp] theorem moorReg_out (a : Nat) : (s.moorReg a).out = s.out := by
  unfold State.moorReg; split
  · simp
  · dsimp only; split <;> simp
@[simp] theorem moorReg_pending (a : Nat) : (s.moorReg a).pending = s.pending := by
  unfold State.moorReg; split
  · simp
  · dsimp only; split <;> simp
@[simp] theorem moorReg_now (a : Nat) : (s.moorReg a).now = s.now := by
  unfold State.moorReg; split
  · simp
  · dsimp only; split <;> simp
@[simp] theorem moorReg_timeBase (a : Nat) : (s.moorReg a).timeBase = s.timeBase := by
  unfold State.moorReg; split
  · simp
  · dsimp only; split <;> simp
@[simp] theorem moorReg_free (a : Nat) : (s.moorReg a).free = s.free := by
  unfold State.moorReg; split
  · simp
  · dsimp only; split <;> simp
@[simp] theorem moorReg_reg (a : Nat) (x : Nat) : (s.moorReg a).reg x = s.reg x := by rw [State.reg, moorReg_regs]; rfl
@[simp] theorem moorReg_fld (a : Nat) (x : Fld) : (s.moorReg a).fld x = s.fld x := by rw [State.fld, moorReg_reg]; rfl
@[simp] theorem moorReg_flag (a : Nat) (x : Fld) : (s.moorReg a).flag x = s.flag x := by rw [State.flag, moorReg_fld]; rfl

@[simp] theorem moorFld_latch (f : Fld) (v : Nat) : (s.moorFld f v).latch = s.latch := by simp [State.moorFld]
@[simp] theorem moorFld_loHeld (f : Fld) (v : Nat) : (s.moorFld f v).loHeld = s.loHeld := by simp [State.moorFld]
@[simp] theorem moorFld_mrd (f : Fld) (v : Nat) : (s.moorFld f v).mrd = s.mrd := by simp [State.moorFld]
@[simp] theorem moorFld_fw (f : Fld) (v : Nat) : (s.moorFld f v).fw = s.fw := by simp [State.moorFld]
@[simp] theorem moorFld_rst (f : Fld) (v : Nat) : (s.moorFld f v).rst = s.rst := by simp [State.moorFld]
@[simp] theorem moorFld_pwr (f : Fld) (v : Nat) : (s.moorFld f v).pwr = s.pwr := by simp [State.moorFld]
@[simp] theorem moorFld_mft (f : Fld) (v : Nat) : (s.moorFld f v).mft = s.mft := by simp [State.moorFld]
@[simp] theorem moorFld_ept (f : Fld) (v : Nat) : (s.moorFld f v).ept = s.ept := by simp [State.moorFld]
@[simp] theorem moorFld_shelf (f : Fld) (v : Nat) : (s.moorFld f v).shelf = s.shelf := by simp [State.moorFld]
@[simp] theorem moorFld_host (f : Fld) (v : Nat) : (s.moorFld f v).host = s.host := by simp [State.moorFld]
@[simp] theorem moorFld_brg (f : Fld) (v : Nat) : (s.moorFld f v).brg = s.brg := by simp [State.moorFld]
@[simp] theorem moorFld_tug (f : Fld) (v : Nat) : (s.moorFld f v).tug = s.tug := by simp [State.moorFld]
@[simp] theorem moorFld_tal (f : Fld) (v : Nat) : (s.moorFld f v).tal = s.tal := by simp [State.moorFld]
@[simp] theorem moorFld_net (f : Fld) (v : Nat) : (s.moorFld f v).net = s.net := by simp [State.moorFld]
@[simp] theorem moorFld_ary (f : Fld) (v : Nat) : (s.moorFld f v).ary = s.ary := by simp [State.moorFld]
@[simp] theorem moorFld_cip (f : Fld) (v : Nat) : (s.moorFld f v).cip = s.cip := by simp [State.moorFld]
@[simp] theorem moorFld_slc (f : Fld) (v : Nat) : (s.moorFld f v).slc = s.slc := by simp [State.moorFld]
@[simp] theorem moorFld_cnl (f : Fld) (v : Nat) : (s.moorFld f v).cnl = s.cnl := by simp [State.moorFld]
@[simp] theorem moorFld_whf (f : Fld) (v : Nat) : (s.moorFld f v).whf = s.whf := by simp [State.moorFld]
@[simp] theorem moorFld_res (f : Fld) (v : Nat) : (s.moorFld f v).res = s.res := by simp [State.moorFld]
@[simp] theorem moorFld_port (f : Fld) (v : Nat) : (s.moorFld f v).port = s.port := by simp [State.moorFld]
@[simp] theorem moorFld_idle (f : Fld) (v : Nat) : (s.moorFld f v).idle = s.idle := by simp [State.moorFld]
@[simp] theorem moorFld_drives (f : Fld) (v : Nat) : (s.moorFld f v).drives = s.drives := by simp [State.moorFld]
@[simp] theorem moorFld_away (f : Fld) (v : Nat) : (s.moorFld f v).away = s.away := by simp [State.moorFld]
@[simp] theorem moorFld_out (f : Fld) (v : Nat) : (s.moorFld f v).out = s.out := by simp [State.moorFld]
@[simp] theorem moorFld_pending (f : Fld) (v : Nat) : (s.moorFld f v).pending = s.pending := by simp [State.moorFld]
@[simp] theorem moorFld_now (f : Fld) (v : Nat) : (s.moorFld f v).now = s.now := by simp [State.moorFld]
@[simp] theorem moorFld_timeBase (f : Fld) (v : Nat) : (s.moorFld f v).timeBase = s.timeBase := by simp [State.moorFld]
@[simp] theorem moorFld_free (f : Fld) (v : Nat) : (s.moorFld f v).free = s.free := by simp [State.moorFld]

@[simp] theorem cfgWrite_latch (a : Nat) (v : Word32) : (s.cfgWrite a v).latch = s.latch := by
  unfold State.cfgWrite; split
  · simp
  · dsimp only; split <;> simp
@[simp] theorem cfgWrite_loHeld (a : Nat) (v : Word32) : (s.cfgWrite a v).loHeld = s.loHeld := by
  unfold State.cfgWrite; split
  · simp
  · dsimp only; split <;> simp
@[simp] theorem cfgWrite_mrd (a : Nat) (v : Word32) : (s.cfgWrite a v).mrd = s.mrd := by
  unfold State.cfgWrite; split
  · simp
  · dsimp only; split <;> simp
@[simp] theorem cfgWrite_fw (a : Nat) (v : Word32) : (s.cfgWrite a v).fw = s.fw := by
  unfold State.cfgWrite; split
  · simp
  · dsimp only; split <;> simp
@[simp] theorem cfgWrite_rst (a : Nat) (v : Word32) : (s.cfgWrite a v).rst = s.rst := by
  unfold State.cfgWrite; split
  · simp
  · dsimp only; split <;> simp
@[simp] theorem cfgWrite_pwr (a : Nat) (v : Word32) : (s.cfgWrite a v).pwr = s.pwr := by
  unfold State.cfgWrite; split
  · simp
  · dsimp only; split <;> simp
@[simp] theorem cfgWrite_mft (a : Nat) (v : Word32) : (s.cfgWrite a v).mft = s.mft := by
  unfold State.cfgWrite; split
  · simp
  · dsimp only; split <;> simp
@[simp] theorem cfgWrite_ept (a : Nat) (v : Word32) : (s.cfgWrite a v).ept = s.ept := by
  unfold State.cfgWrite; split
  · simp
  · dsimp only; split <;> simp
@[simp] theorem cfgWrite_shelf (a : Nat) (v : Word32) : (s.cfgWrite a v).shelf = s.shelf := by
  unfold State.cfgWrite; split
  · simp
  · dsimp only; split <;> simp
@[simp] theorem cfgWrite_host (a : Nat) (v : Word32) : (s.cfgWrite a v).host = s.host := by
  unfold State.cfgWrite; split
  · simp
  · dsimp only; split <;> simp
@[simp] theorem cfgWrite_brg (a : Nat) (v : Word32) : (s.cfgWrite a v).brg = s.brg := by
  unfold State.cfgWrite; split
  · simp
  · dsimp only; split <;> simp
@[simp] theorem cfgWrite_tug (a : Nat) (v : Word32) : (s.cfgWrite a v).tug = s.tug := by
  unfold State.cfgWrite; split
  · simp
  · dsimp only; split <;> simp
@[simp] theorem cfgWrite_tal (a : Nat) (v : Word32) : (s.cfgWrite a v).tal = s.tal := by
  unfold State.cfgWrite; split
  · simp
  · dsimp only; split <;> simp
@[simp] theorem cfgWrite_net (a : Nat) (v : Word32) : (s.cfgWrite a v).net = s.net := by
  unfold State.cfgWrite; split
  · simp
  · dsimp only; split <;> simp
@[simp] theorem cfgWrite_ary (a : Nat) (v : Word32) : (s.cfgWrite a v).ary = s.ary := by
  unfold State.cfgWrite; split
  · simp
  · dsimp only; split <;> simp
@[simp] theorem cfgWrite_cip (a : Nat) (v : Word32) : (s.cfgWrite a v).cip = s.cip := by
  unfold State.cfgWrite; split
  · simp
  · dsimp only; split <;> simp
@[simp] theorem cfgWrite_slc (a : Nat) (v : Word32) : (s.cfgWrite a v).slc = s.slc := by
  unfold State.cfgWrite; split
  · simp
  · dsimp only; split <;> simp
@[simp] theorem cfgWrite_cnl (a : Nat) (v : Word32) : (s.cfgWrite a v).cnl = s.cnl := by
  unfold State.cfgWrite; split
  · simp
  · dsimp only; split <;> simp
@[simp] theorem cfgWrite_whf (a : Nat) (v : Word32) : (s.cfgWrite a v).whf = s.whf := by
  unfold State.cfgWrite; split
  · simp
  · dsimp only; split <;> simp
@[simp] theorem cfgWrite_res (a : Nat) (v : Word32) : (s.cfgWrite a v).res = s.res := by
  unfold State.cfgWrite; split
  · simp
  · dsimp only; split <;> simp
@[simp] theorem cfgWrite_port (a : Nat) (v : Word32) : (s.cfgWrite a v).port = s.port := by
  unfold State.cfgWrite; split
  · simp
  · dsimp only; split <;> simp
@[simp] theorem cfgWrite_idle (a : Nat) (v : Word32) : (s.cfgWrite a v).idle = s.idle := by
  unfold State.cfgWrite; split
  · simp
  · dsimp only; split <;> simp
@[simp] theorem cfgWrite_drives (a : Nat) (v : Word32) : (s.cfgWrite a v).drives = s.drives := by
  unfold State.cfgWrite; split
  · simp
  · dsimp only; split <;> simp
@[simp] theorem cfgWrite_away (a : Nat) (v : Word32) : (s.cfgWrite a v).away = s.away := by
  unfold State.cfgWrite; split
  · simp
  · dsimp only; split <;> simp
@[simp] theorem cfgWrite_out (a : Nat) (v : Word32) : (s.cfgWrite a v).out = s.out := by
  unfold State.cfgWrite; split
  · simp
  · dsimp only; split <;> simp
@[simp] theorem cfgWrite_pending (a : Nat) (v : Word32) : (s.cfgWrite a v).pending = s.pending := by
  unfold State.cfgWrite; split
  · simp
  · dsimp only; split <;> simp
@[simp] theorem cfgWrite_now (a : Nat) (v : Word32) : (s.cfgWrite a v).now = s.now := by
  unfold State.cfgWrite; split
  · simp
  · dsimp only; split <;> simp
@[simp] theorem cfgWrite_timeBase (a : Nat) (v : Word32) : (s.cfgWrite a v).timeBase = s.timeBase := by
  unfold State.cfgWrite; split
  · simp
  · dsimp only; split <;> simp
@[simp] theorem cfgWrite_free (a : Nat) (v : Word32) : (s.cfgWrite a v).free = s.free := by
  unfold State.cfgWrite; split
  · simp
  · dsimp only; split <;> simp

@[simp] theorem cfgFld_latch (f : Fld) (v : Nat) : (s.cfgFld f v).latch = s.latch := by simp [State.cfgFld]
@[simp] theorem cfgFld_loHeld (f : Fld) (v : Nat) : (s.cfgFld f v).loHeld = s.loHeld := by simp [State.cfgFld]
@[simp] theorem cfgFld_mrd (f : Fld) (v : Nat) : (s.cfgFld f v).mrd = s.mrd := by simp [State.cfgFld]
@[simp] theorem cfgFld_fw (f : Fld) (v : Nat) : (s.cfgFld f v).fw = s.fw := by simp [State.cfgFld]
@[simp] theorem cfgFld_rst (f : Fld) (v : Nat) : (s.cfgFld f v).rst = s.rst := by simp [State.cfgFld]
@[simp] theorem cfgFld_pwr (f : Fld) (v : Nat) : (s.cfgFld f v).pwr = s.pwr := by simp [State.cfgFld]
@[simp] theorem cfgFld_mft (f : Fld) (v : Nat) : (s.cfgFld f v).mft = s.mft := by simp [State.cfgFld]
@[simp] theorem cfgFld_ept (f : Fld) (v : Nat) : (s.cfgFld f v).ept = s.ept := by simp [State.cfgFld]
@[simp] theorem cfgFld_shelf (f : Fld) (v : Nat) : (s.cfgFld f v).shelf = s.shelf := by simp [State.cfgFld]
@[simp] theorem cfgFld_host (f : Fld) (v : Nat) : (s.cfgFld f v).host = s.host := by simp [State.cfgFld]
@[simp] theorem cfgFld_brg (f : Fld) (v : Nat) : (s.cfgFld f v).brg = s.brg := by simp [State.cfgFld]
@[simp] theorem cfgFld_tug (f : Fld) (v : Nat) : (s.cfgFld f v).tug = s.tug := by simp [State.cfgFld]
@[simp] theorem cfgFld_tal (f : Fld) (v : Nat) : (s.cfgFld f v).tal = s.tal := by simp [State.cfgFld]
@[simp] theorem cfgFld_net (f : Fld) (v : Nat) : (s.cfgFld f v).net = s.net := by simp [State.cfgFld]
@[simp] theorem cfgFld_ary (f : Fld) (v : Nat) : (s.cfgFld f v).ary = s.ary := by simp [State.cfgFld]
@[simp] theorem cfgFld_cip (f : Fld) (v : Nat) : (s.cfgFld f v).cip = s.cip := by simp [State.cfgFld]
@[simp] theorem cfgFld_slc (f : Fld) (v : Nat) : (s.cfgFld f v).slc = s.slc := by simp [State.cfgFld]
@[simp] theorem cfgFld_cnl (f : Fld) (v : Nat) : (s.cfgFld f v).cnl = s.cnl := by simp [State.cfgFld]
@[simp] theorem cfgFld_whf (f : Fld) (v : Nat) : (s.cfgFld f v).whf = s.whf := by simp [State.cfgFld]
@[simp] theorem cfgFld_res (f : Fld) (v : Nat) : (s.cfgFld f v).res = s.res := by simp [State.cfgFld]
@[simp] theorem cfgFld_port (f : Fld) (v : Nat) : (s.cfgFld f v).port = s.port := by simp [State.cfgFld]
@[simp] theorem cfgFld_idle (f : Fld) (v : Nat) : (s.cfgFld f v).idle = s.idle := by simp [State.cfgFld]
@[simp] theorem cfgFld_drives (f : Fld) (v : Nat) : (s.cfgFld f v).drives = s.drives := by simp [State.cfgFld]
@[simp] theorem cfgFld_away (f : Fld) (v : Nat) : (s.cfgFld f v).away = s.away := by simp [State.cfgFld]
@[simp] theorem cfgFld_out (f : Fld) (v : Nat) : (s.cfgFld f v).out = s.out := by simp [State.cfgFld]
@[simp] theorem cfgFld_pending (f : Fld) (v : Nat) : (s.cfgFld f v).pending = s.pending := by simp [State.cfgFld]
@[simp] theorem cfgFld_now (f : Fld) (v : Nat) : (s.cfgFld f v).now = s.now := by simp [State.cfgFld]
@[simp] theorem cfgFld_timeBase (f : Fld) (v : Nat) : (s.cfgFld f v).timeBase = s.timeBase := by simp [State.cfgFld]
@[simp] theorem cfgFld_free (f : Fld) (v : Nat) : (s.cfgFld f v).free = s.free := by simp [State.cfgFld]

end Sys2Proof.Machine
end

