-- ==== Sys2Proof/Laws/Answer.lean ====
section
/-! SUPPORT. The fields that recording, sending and answering a manifest leave as they are. -/

namespace Sys2Proof.Machine

variable (s : State)

@[simp] theorem record_regs (h : Hdr) (r : Receipt) : (s.record h r).regs = s.regs := by unfold State.record; split <;> simp
@[simp] theorem record_latch (h : Hdr) (r : Receipt) : (s.record h r).latch = s.latch := by unfold State.record; split <;> simp
@[simp] theorem record_loHeld (h : Hdr) (r : Receipt) : (s.record h r).loHeld = s.loHeld := by unfold State.record; split <;> simp
@[simp] theorem record_mrd (h : Hdr) (r : Receipt) : (s.record h r).mrd = s.mrd := by unfold State.record; split <;> simp
@[simp] theorem record_store (h : Hdr) (r : Receipt) : (s.record h r).store = s.store := by unfold State.record; split <;> simp
@[simp] theorem record_fw (h : Hdr) (r : Receipt) : (s.record h r).fw = s.fw := by unfold State.record; split <;> simp
@[simp] theorem record_rst (h : Hdr) (r : Receipt) : (s.record h r).rst = s.rst := by unfold State.record; split <;> simp
@[simp] theorem record_pwr (h : Hdr) (r : Receipt) : (s.record h r).pwr = s.pwr := by unfold State.record; split <;> simp
@[simp] theorem record_ept (h : Hdr) (r : Receipt) : (s.record h r).ept = s.ept := by unfold State.record; split <;> simp
@[simp] theorem record_shelf (h : Hdr) (r : Receipt) : (s.record h r).shelf = s.shelf := by unfold State.record; split <;> simp
@[simp] theorem record_host (h : Hdr) (r : Receipt) : (s.record h r).host = s.host := by unfold State.record; split <;> simp
@[simp] theorem record_brg (h : Hdr) (r : Receipt) : (s.record h r).brg = s.brg := by unfold State.record; split <;> simp
@[simp] theorem record_tug (h : Hdr) (r : Receipt) : (s.record h r).tug = s.tug := by unfold State.record; split <;> simp
@[simp] theorem record_tal (h : Hdr) (r : Receipt) : (s.record h r).tal = s.tal := by unfold State.record; split <;> simp
@[simp] theorem record_net (h : Hdr) (r : Receipt) : (s.record h r).net = s.net := by unfold State.record; split <;> simp
@[simp] theorem record_pair (h : Hdr) (r : Receipt) : (s.record h r).pair = s.pair := by unfold State.record; split <;> simp
@[simp] theorem record_peerOut (h : Hdr) (r : Receipt) : (s.record h r).peerOut = s.peerOut := by unfold State.record; split <;> simp
@[simp] theorem record_ary (h : Hdr) (r : Receipt) : (s.record h r).ary = s.ary := by unfold State.record; split <;> simp
@[simp] theorem record_cip (h : Hdr) (r : Receipt) : (s.record h r).cip = s.cip := by unfold State.record; split <;> simp
@[simp] theorem record_slc (h : Hdr) (r : Receipt) : (s.record h r).slc = s.slc := by unfold State.record; split <;> simp
@[simp] theorem record_cnl (h : Hdr) (r : Receipt) : (s.record h r).cnl = s.cnl := by unfold State.record; split <;> simp
@[simp] theorem record_whf (h : Hdr) (r : Receipt) : (s.record h r).whf = s.whf := by unfold State.record; split <;> simp
@[simp] theorem record_res (h : Hdr) (r : Receipt) : (s.record h r).res = s.res := by unfold State.record; split <;> simp
@[simp] theorem record_port (h : Hdr) (r : Receipt) : (s.record h r).port = s.port := by unfold State.record; split <;> simp
@[simp] theorem record_idle (h : Hdr) (r : Receipt) : (s.record h r).idle = s.idle := by unfold State.record; split <;> simp
@[simp] theorem record_drives (h : Hdr) (r : Receipt) : (s.record h r).drives = s.drives := by unfold State.record; split <;> simp
@[simp] theorem record_away (h : Hdr) (r : Receipt) : (s.record h r).away = s.away := by unfold State.record; split <;> simp
@[simp] theorem record_out (h : Hdr) (r : Receipt) : (s.record h r).out = s.out := by unfold State.record; split <;> simp
@[simp] theorem record_pending (h : Hdr) (r : Receipt) : (s.record h r).pending = s.pending := by unfold State.record; split <;> simp
@[simp] theorem record_now (h : Hdr) (r : Receipt) : (s.record h r).now = s.now := by unfold State.record; split <;> simp
@[simp] theorem record_timeBase (h : Hdr) (r : Receipt) : (s.record h r).timeBase = s.timeBase := by unfold State.record; split <;> simp
@[simp] theorem record_free (h : Hdr) (r : Receipt) : (s.record h r).free = s.free := by unfold State.record; split <;> simp
@[simp] theorem record_reg (h : Hdr) (r : Receipt) (x : Nat) : (s.record h r).reg x = s.reg x := by rw [State.reg, record_regs]; rfl
@[simp] theorem record_fld (h : Hdr) (r : Receipt) (x : Fld) : (s.record h r).fld x = s.fld x := by rw [State.fld, record_reg]; rfl
@[simp] theorem record_flag (h : Hdr) (r : Receipt) (x : Fld) : (s.record h r).flag x = s.flag x := by rw [State.flag, record_fld]; rfl

@[simp] theorem openWindow_latch (k : Nat) : (s.openWindow k).latch = s.latch := by unfold State.openWindow; split <;> simp
@[simp] theorem openWindow_loHeld (k : Nat) : (s.openWindow k).loHeld = s.loHeld := by unfold State.openWindow; split <;> simp
@[simp] theorem openWindow_mrd (k : Nat) : (s.openWindow k).mrd = s.mrd := by unfold State.openWindow; split <;> simp
@[simp] theorem openWindow_store (k : Nat) : (s.openWindow k).store = s.store := by unfold State.openWindow; split <;> simp
@[simp] theorem openWindow_fw (k : Nat) : (s.openWindow k).fw = s.fw := by unfold State.openWindow; split <;> simp
@[simp] theorem openWindow_rst (k : Nat) : (s.openWindow k).rst = s.rst := by unfold State.openWindow; split <;> simp
@[simp] theorem openWindow_pwr (k : Nat) : (s.openWindow k).pwr = s.pwr := by unfold State.openWindow; split <;> simp
@[simp] theorem openWindow_mft (k : Nat) : (s.openWindow k).mft = s.mft := by unfold State.openWindow; split <;> simp
@[simp] theorem openWindow_ept (k : Nat) : (s.openWindow k).ept = s.ept := by unfold State.openWindow; split <;> simp
@[simp] theorem openWindow_shelf (k : Nat) : (s.openWindow k).shelf = s.shelf := by unfold State.openWindow; split <;> simp
@[simp] theorem openWindow_host (k : Nat) : (s.openWindow k).host = s.host := by unfold State.openWindow; split <;> simp
@[simp] theorem openWindow_brg (k : Nat) : (s.openWindow k).brg = s.brg := by unfold State.openWindow; split <;> simp
@[simp] theorem openWindow_tug (k : Nat) : (s.openWindow k).tug = s.tug := by unfold State.openWindow; split <;> simp
@[simp] theorem openWindow_tal (k : Nat) : (s.openWindow k).tal = s.tal := by unfold State.openWindow; split <;> simp
@[simp] theorem openWindow_net (k : Nat) : (s.openWindow k).net = s.net := by unfold State.openWindow; split <;> simp
@[simp] theorem openWindow_ary (k : Nat) : (s.openWindow k).ary = s.ary := by unfold State.openWindow; split <;> simp
@[simp] theorem openWindow_cip (k : Nat) : (s.openWindow k).cip = s.cip := by unfold State.openWindow; split <;> simp
@[simp] theorem openWindow_slc (k : Nat) : (s.openWindow k).slc = s.slc := by unfold State.openWindow; split <;> simp
@[simp] theorem openWindow_cnl (k : Nat) : (s.openWindow k).cnl = s.cnl := by unfold State.openWindow; split <;> simp
@[simp] theorem openWindow_whf (k : Nat) : (s.openWindow k).whf = s.whf := by unfold State.openWindow; split <;> simp
@[simp] theorem openWindow_res (k : Nat) : (s.openWindow k).res = s.res := by unfold State.openWindow; split <;> simp
@[simp] theorem openWindow_port (k : Nat) : (s.openWindow k).port = s.port := by unfold State.openWindow; split <;> simp
@[simp] theorem openWindow_idle (k : Nat) : (s.openWindow k).idle = s.idle := by unfold State.openWindow; split <;> simp
@[simp] theorem openWindow_drives (k : Nat) : (s.openWindow k).drives = s.drives := by unfold State.openWindow; split <;> simp
@[simp] theorem openWindow_away (k : Nat) : (s.openWindow k).away = s.away := by unfold State.openWindow; split <;> simp
@[simp] theorem openWindow_out (k : Nat) : (s.openWindow k).out = s.out := by unfold State.openWindow; split <;> simp
@[simp] theorem openWindow_pending (k : Nat) : (s.openWindow k).pending = s.pending := by unfold State.openWindow; split <;> simp
@[simp] theorem openWindow_now (k : Nat) : (s.openWindow k).now = s.now := by unfold State.openWindow; split <;> simp
@[simp] theorem openWindow_timeBase (k : Nat) : (s.openWindow k).timeBase = s.timeBase := by unfold State.openWindow; split <;> simp
@[simp] theorem openWindow_free (k : Nat) : (s.openWindow k).free = s.free := by unfold State.openWindow; split <;> simp

@[simp] theorem sendReceipt_latch (h : Hdr) (r : Receipt) : (s.sendReceipt h r).latch = s.latch := by
  unfold State.sendReceipt; dsimp only; split
  · split
    · simp
    · split <;> simp
  · refine (foldl_eq (fun u : State => u.latch) _ ?_ _ _).trans (by simp)
    intro t x; rfl
  · simp
@[simp] theorem sendReceipt_loHeld (h : Hdr) (r : Receipt) : (s.sendReceipt h r).loHeld = s.loHeld := by
  unfold State.sendReceipt; dsimp only; split
  · split
    · simp
    · split <;> simp
  · refine (foldl_eq (fun u : State => u.loHeld) _ ?_ _ _).trans (by simp)
    intro t x; rfl
  · simp
@[simp] theorem sendReceipt_mrd (h : Hdr) (r : Receipt) : (s.sendReceipt h r).mrd = s.mrd := by
  unfold State.sendReceipt; dsimp only; split
  · split
    · simp
    · split <;> simp
  · refine (foldl_eq (fun u : State => u.mrd) _ ?_ _ _).trans (by simp)
    intro t x; rfl
  · simp
@[simp] theorem sendReceipt_fw (h : Hdr) (r : Receipt) : (s.sendReceipt h r).fw = s.fw := by
  unfold State.sendReceipt; dsimp only; split
  · split
    · simp
    · split <;> simp
  · refine (foldl_eq (fun u : State => u.fw) _ ?_ _ _).trans (by simp)
    intro t x; rfl
  · simp
@[simp] theorem sendReceipt_rst (h : Hdr) (r : Receipt) : (s.sendReceipt h r).rst = s.rst := by
  unfold State.sendReceipt; dsimp only; split
  · split
    · simp
    · split <;> simp
  · refine (foldl_eq (fun u : State => u.rst) _ ?_ _ _).trans (by simp)
    intro t x; rfl
  · simp
@[simp] theorem sendReceipt_pwr (h : Hdr) (r : Receipt) : (s.sendReceipt h r).pwr = s.pwr := by
  unfold State.sendReceipt; dsimp only; split
  · split
    · simp
    · split <;> simp
  · refine (foldl_eq (fun u : State => u.pwr) _ ?_ _ _).trans (by simp)
    intro t x; rfl
  · simp
@[simp] theorem sendReceipt_shelf (h : Hdr) (r : Receipt) : (s.sendReceipt h r).shelf = s.shelf := by
  unfold State.sendReceipt; dsimp only; split
  · split
    · simp
    · split <;> simp
  · refine (foldl_eq (fun u : State => u.shelf) _ ?_ _ _).trans (by simp)
    intro t x; rfl
  · simp
@[simp] theorem sendReceipt_host (h : Hdr) (r : Receipt) : (s.sendReceipt h r).host = s.host := by
  unfold State.sendReceipt; dsimp only; split
  · split
    · simp
    · split <;> simp
  · refine (foldl_eq (fun u : State => u.host) _ ?_ _ _).trans (by simp)
    intro t x; rfl
  · simp
@[simp] theorem sendReceipt_brg (h : Hdr) (r : Receipt) : (s.sendReceipt h r).brg = s.brg := by
  unfold State.sendReceipt; dsimp only; split
  · split
    · simp
    · split <;> simp
  · refine (foldl_eq (fun u : State => u.brg) _ ?_ _ _).trans (by simp)
    intro t x; rfl
  · simp
@[simp] theorem sendReceipt_tug (h : Hdr) (r : Receipt) : (s.sendReceipt h r).tug = s.tug := by
  unfold State.sendReceipt; dsimp only; split
  · split
    · simp
    · split <;> simp
  · refine (foldl_eq (fun u : State => u.tug) _ ?_ _ _).trans (by simp)
    intro t x; rfl
  · simp
@[simp] theorem sendReceipt_tal (h : Hdr) (r : Receipt) : (s.sendReceipt h r).tal = s.tal := by
  unfold State.sendReceipt; dsimp only; split
  · split
    · simp
    · split <;> simp
  · refine (foldl_eq (fun u : State => u.tal) _ ?_ _ _).trans (by simp)
    intro t x; rfl
  · simp
@[simp] theorem sendReceipt_net (h : Hdr) (r : Receipt) : (s.sendReceipt h r).net = s.net := by
  unfold State.sendReceipt; dsimp only; split
  · split
    · simp
    · split <;> simp
  · refine (foldl_eq (fun u : State => u.net) _ ?_ _ _).trans (by simp)
    intro t x; rfl
  · simp
@[simp] theorem sendReceipt_pair (h : Hdr) (r : Receipt) : (s.sendReceipt h r).pair = s.pair := by
  unfold State.sendReceipt; dsimp only; split
  · split
    · simp
    · split <;> simp
  · refine (foldl_eq (fun u : State => u.pair) _ ?_ _ _).trans (by simp)
    intro t x; rfl
  · simp
@[simp] theorem sendReceipt_ary (h : Hdr) (r : Receipt) : (s.sendReceipt h r).ary = s.ary := by
  unfold State.sendReceipt; dsimp only; split
  · split
    · simp
    · split <;> simp
  · refine (foldl_eq (fun u : State => u.ary) _ ?_ _ _).trans (by simp)
    intro t x; rfl
  · simp
@[simp] theorem sendReceipt_cip (h : Hdr) (r : Receipt) : (s.sendReceipt h r).cip = s.cip := by
  unfold State.sendReceipt; dsimp only; split
  · split
    · simp
    · split <;> simp
  · refine (foldl_eq (fun u : State => u.cip) _ ?_ _ _).trans (by simp)
    intro t x; rfl
  · simp
@[simp] theorem sendReceipt_slc (h : Hdr) (r : Receipt) : (s.sendReceipt h r).slc = s.slc := by
  unfold State.sendReceipt; dsimp only; split
  · split
    · simp
    · split <;> simp
  · refine (foldl_eq (fun u : State => u.slc) _ ?_ _ _).trans (by simp)
    intro t x; rfl
  · simp
@[simp] theorem sendReceipt_cnl (h : Hdr) (r : Receipt) : (s.sendReceipt h r).cnl = s.cnl := by
  unfold State.sendReceipt; dsimp only; split
  · split
    · simp
    · split <;> simp
  · refine (foldl_eq (fun u : State => u.cnl) _ ?_ _ _).trans (by simp)
    intro t x; rfl
  · simp
@[simp] theorem sendReceipt_whf (h : Hdr) (r : Receipt) : (s.sendReceipt h r).whf = s.whf := by
  unfold State.sendReceipt; dsimp only; split
  · split
    · simp
    · split <;> simp
  · refine (foldl_eq (fun u : State => u.whf) _ ?_ _ _).trans (by simp)
    intro t x; rfl
  · simp
@[simp] theorem sendReceipt_res (h : Hdr) (r : Receipt) : (s.sendReceipt h r).res = s.res := by
  unfold State.sendReceipt; dsimp only; split
  · split
    · simp
    · split <;> simp
  · refine (foldl_eq (fun u : State => u.res) _ ?_ _ _).trans (by simp)
    intro t x; rfl
  · simp
@[simp] theorem sendReceipt_port (h : Hdr) (r : Receipt) : (s.sendReceipt h r).port = s.port := by
  unfold State.sendReceipt; dsimp only; split
  · split
    · simp
    · split <;> simp
  · refine (foldl_eq (fun u : State => u.port) _ ?_ _ _).trans (by simp)
    intro t x; rfl
  · simp
@[simp] theorem sendReceipt_idle (h : Hdr) (r : Receipt) : (s.sendReceipt h r).idle = s.idle := by
  unfold State.sendReceipt; dsimp only; split
  · split
    · simp
    · split <;> simp
  · refine (foldl_eq (fun u : State => u.idle) _ ?_ _ _).trans (by simp)
    intro t x; rfl
  · simp
@[simp] theorem sendReceipt_drives (h : Hdr) (r : Receipt) : (s.sendReceipt h r).drives = s.drives := by
  unfold State.sendReceipt; dsimp only; split
  · split
    · simp
    · split <;> simp
  · refine (foldl_eq (fun u : State => u.drives) _ ?_ _ _).trans (by simp)
    intro t x; rfl
  · simp
@[simp] theorem sendReceipt_away (h : Hdr) (r : Receipt) : (s.sendReceipt h r).away = s.away := by
  unfold State.sendReceipt; dsimp only; split
  · split
    · simp
    · split <;> simp
  · refine (foldl_eq (fun u : State => u.away) _ ?_ _ _).trans (by simp)
    intro t x; rfl
  · simp
@[simp] theorem sendReceipt_pending (h : Hdr) (r : Receipt) : (s.sendReceipt h r).pending = s.pending := by
  unfold State.sendReceipt; dsimp only; split
  · split
    · simp
    · split <;> simp
  · refine (foldl_eq (fun u : State => u.pending) _ ?_ _ _).trans (by simp)
    intro t x; rfl
  · simp
@[simp] theorem sendReceipt_now (h : Hdr) (r : Receipt) : (s.sendReceipt h r).now = s.now := by
  unfold State.sendReceipt; dsimp only; split
  · split
    · simp
    · split <;> simp
  · refine (foldl_eq (fun u : State => u.now) _ ?_ _ _).trans (by simp)
    intro t x; rfl
  · simp
@[simp] theorem sendReceipt_timeBase (h : Hdr) (r : Receipt) : (s.sendReceipt h r).timeBase = s.timeBase := by
  unfold State.sendReceipt; dsimp only; split
  · split
    · simp
    · split <;> simp
  · refine (foldl_eq (fun u : State => u.timeBase) _ ?_ _ _).trans (by simp)
    intro t x; rfl
  · simp
@[simp] theorem sendReceipt_free (h : Hdr) (r : Receipt) : (s.sendReceipt h r).free = s.free := by
  unfold State.sendReceipt; dsimp only; split
  · split
    · simp
    · split <;> simp
  · refine (foldl_eq (fun u : State => u.free) _ ?_ _ _).trans (by simp)
    intro t x; rfl
  · simp

@[simp] theorem answerSince_latch (q : Nat) (h : Hdr) (op : Nat) (st : MStat) (ps : List (Nat × List Byte)) : (s.answerSince q h op st ps).latch = s.latch := by
  unfold State.answerSince; dsimp only; split <;> split <;> simp
@[simp] theorem answerSince_loHeld (q : Nat) (h : Hdr) (op : Nat) (st : MStat) (ps : List (Nat × List Byte)) : (s.answerSince q h op st ps).loHeld = s.loHeld := by
  unfold State.answerSince; dsimp only; split <;> split <;> simp
@[simp] theorem answerSince_mrd (q : Nat) (h : Hdr) (op : Nat) (st : MStat) (ps : List (Nat × List Byte)) : (s.answerSince q h op st ps).mrd = s.mrd := by
  unfold State.answerSince; dsimp only; split <;> split <;> simp
@[simp] theorem answerSince_fw (q : Nat) (h : Hdr) (op : Nat) (st : MStat) (ps : List (Nat × List Byte)) : (s.answerSince q h op st ps).fw = s.fw := by
  unfold State.answerSince; dsimp only; split <;> split <;> simp
@[simp] theorem answerSince_rst (q : Nat) (h : Hdr) (op : Nat) (st : MStat) (ps : List (Nat × List Byte)) : (s.answerSince q h op st ps).rst = s.rst := by
  unfold State.answerSince; dsimp only; split <;> split <;> simp
@[simp] theorem answerSince_pwr (q : Nat) (h : Hdr) (op : Nat) (st : MStat) (ps : List (Nat × List Byte)) : (s.answerSince q h op st ps).pwr = s.pwr := by
  unfold State.answerSince; dsimp only; split <;> split <;> simp
@[simp] theorem answerSince_shelf (q : Nat) (h : Hdr) (op : Nat) (st : MStat) (ps : List (Nat × List Byte)) : (s.answerSince q h op st ps).shelf = s.shelf := by
  unfold State.answerSince; dsimp only; split <;> split <;> simp
@[simp] theorem answerSince_host (q : Nat) (h : Hdr) (op : Nat) (st : MStat) (ps : List (Nat × List Byte)) : (s.answerSince q h op st ps).host = s.host := by
  unfold State.answerSince; dsimp only; split <;> split <;> simp
@[simp] theorem answerSince_brg (q : Nat) (h : Hdr) (op : Nat) (st : MStat) (ps : List (Nat × List Byte)) : (s.answerSince q h op st ps).brg = s.brg := by
  unfold State.answerSince; dsimp only; split <;> split <;> simp
@[simp] theorem answerSince_tug (q : Nat) (h : Hdr) (op : Nat) (st : MStat) (ps : List (Nat × List Byte)) : (s.answerSince q h op st ps).tug = s.tug := by
  unfold State.answerSince; dsimp only; split <;> split <;> simp
@[simp] theorem answerSince_tal (q : Nat) (h : Hdr) (op : Nat) (st : MStat) (ps : List (Nat × List Byte)) : (s.answerSince q h op st ps).tal = s.tal := by
  unfold State.answerSince; dsimp only; split <;> split <;> simp
@[simp] theorem answerSince_net (q : Nat) (h : Hdr) (op : Nat) (st : MStat) (ps : List (Nat × List Byte)) : (s.answerSince q h op st ps).net = s.net := by
  unfold State.answerSince; dsimp only; split <;> split <;> simp
@[simp] theorem answerSince_ary (q : Nat) (h : Hdr) (op : Nat) (st : MStat) (ps : List (Nat × List Byte)) : (s.answerSince q h op st ps).ary = s.ary := by
  unfold State.answerSince; dsimp only; split <;> split <;> simp
@[simp] theorem answerSince_cip (q : Nat) (h : Hdr) (op : Nat) (st : MStat) (ps : List (Nat × List Byte)) : (s.answerSince q h op st ps).cip = s.cip := by
  unfold State.answerSince; dsimp only; split <;> split <;> simp
@[simp] theorem answerSince_slc (q : Nat) (h : Hdr) (op : Nat) (st : MStat) (ps : List (Nat × List Byte)) : (s.answerSince q h op st ps).slc = s.slc := by
  unfold State.answerSince; dsimp only; split <;> split <;> simp
@[simp] theorem answerSince_cnl (q : Nat) (h : Hdr) (op : Nat) (st : MStat) (ps : List (Nat × List Byte)) : (s.answerSince q h op st ps).cnl = s.cnl := by
  unfold State.answerSince; dsimp only; split <;> split <;> simp
@[simp] theorem answerSince_whf (q : Nat) (h : Hdr) (op : Nat) (st : MStat) (ps : List (Nat × List Byte)) : (s.answerSince q h op st ps).whf = s.whf := by
  unfold State.answerSince; dsimp only; split <;> split <;> simp
@[simp] theorem answerSince_res (q : Nat) (h : Hdr) (op : Nat) (st : MStat) (ps : List (Nat × List Byte)) : (s.answerSince q h op st ps).res = s.res := by
  unfold State.answerSince; dsimp only; split <;> split <;> simp
@[simp] theorem answerSince_port (q : Nat) (h : Hdr) (op : Nat) (st : MStat) (ps : List (Nat × List Byte)) : (s.answerSince q h op st ps).port = s.port := by
  unfold State.answerSince; dsimp only; split <;> split <;> simp
@[simp] theorem answerSince_idle (q : Nat) (h : Hdr) (op : Nat) (st : MStat) (ps : List (Nat × List Byte)) : (s.answerSince q h op st ps).idle = s.idle := by
  unfold State.answerSince; dsimp only; split <;> split <;> simp
@[simp] theorem answerSince_drives (q : Nat) (h : Hdr) (op : Nat) (st : MStat) (ps : List (Nat × List Byte)) : (s.answerSince q h op st ps).drives = s.drives := by
  unfold State.answerSince; dsimp only; split <;> split <;> simp
@[simp] theorem answerSince_away (q : Nat) (h : Hdr) (op : Nat) (st : MStat) (ps : List (Nat × List Byte)) : (s.answerSince q h op st ps).away = s.away := by
  unfold State.answerSince; dsimp only; split <;> split <;> simp
@[simp] theorem answerSince_pending (q : Nat) (h : Hdr) (op : Nat) (st : MStat) (ps : List (Nat × List Byte)) : (s.answerSince q h op st ps).pending = s.pending := by
  unfold State.answerSince; dsimp only; split <;> split <;> simp
@[simp] theorem answerSince_now (q : Nat) (h : Hdr) (op : Nat) (st : MStat) (ps : List (Nat × List Byte)) : (s.answerSince q h op st ps).now = s.now := by
  unfold State.answerSince; dsimp only; split <;> split <;> simp
@[simp] theorem answerSince_timeBase (q : Nat) (h : Hdr) (op : Nat) (st : MStat) (ps : List (Nat × List Byte)) : (s.answerSince q h op st ps).timeBase = s.timeBase := by
  unfold State.answerSince; dsimp only; split <;> split <;> simp
@[simp] theorem answerSince_free (q : Nat) (h : Hdr) (op : Nat) (st : MStat) (ps : List (Nat × List Byte)) : (s.answerSince q h op st ps).free = s.free := by
  unfold State.answerSince; dsimp only; split <;> split <;> simp

@[simp] theorem answer_latch (h : Hdr) (op : Nat) (st : MStat) (ps : List (Nat × List Byte)) : (s.answer h op st ps).latch = s.latch := by simp [State.answer]
@[simp] theorem answer_loHeld (h : Hdr) (op : Nat) (st : MStat) (ps : List (Nat × List Byte)) : (s.answer h op st ps).loHeld = s.loHeld := by simp [State.answer]
@[simp] theorem answer_mrd (h : Hdr) (op : Nat) (st : MStat) (ps : List (Nat × List Byte)) : (s.answer h op st ps).mrd = s.mrd := by simp [State.answer]
@[simp] theorem answer_fw (h : Hdr) (op : Nat) (st : MStat) (ps : List (Nat × List Byte)) : (s.answer h op st ps).fw = s.fw := by simp [State.answer]
@[simp] theorem answer_rst (h : Hdr) (op : Nat) (st : MStat) (ps : List (Nat × List Byte)) : (s.answer h op st ps).rst = s.rst := by simp [State.answer]
@[simp] theorem answer_pwr (h : Hdr) (op : Nat) (st : MStat) (ps : List (Nat × List Byte)) : (s.answer h op st ps).pwr = s.pwr := by simp [State.answer]
@[simp] theorem answer_shelf (h : Hdr) (op : Nat) (st : MStat) (ps : List (Nat × List Byte)) : (s.answer h op st ps).shelf = s.shelf := by simp [State.answer]
@[simp] theorem answer_host (h : Hdr) (op : Nat) (st : MStat) (ps : List (Nat × List Byte)) : (s.answer h op st ps).host = s.host := by simp [State.answer]
@[simp] theorem answer_brg (h : Hdr) (op : Nat) (st : MStat) (ps : List (Nat × List Byte)) : (s.answer h op st ps).brg = s.brg := by simp [State.answer]
@[simp] theorem answer_tug (h : Hdr) (op : Nat) (st : MStat) (ps : List (Nat × List Byte)) : (s.answer h op st ps).tug = s.tug := by simp [State.answer]
@[simp] theorem answer_tal (h : Hdr) (op : Nat) (st : MStat) (ps : List (Nat × List Byte)) : (s.answer h op st ps).tal = s.tal := by simp [State.answer]
@[simp] theorem answer_net (h : Hdr) (op : Nat) (st : MStat) (ps : List (Nat × List Byte)) : (s.answer h op st ps).net = s.net := by simp [State.answer]
@[simp] theorem answer_ary (h : Hdr) (op : Nat) (st : MStat) (ps : List (Nat × List Byte)) : (s.answer h op st ps).ary = s.ary := by simp [State.answer]
@[simp] theorem answer_cip (h : Hdr) (op : Nat) (st : MStat) (ps : List (Nat × List Byte)) : (s.answer h op st ps).cip = s.cip := by simp [State.answer]
@[simp] theorem answer_slc (h : Hdr) (op : Nat) (st : MStat) (ps : List (Nat × List Byte)) : (s.answer h op st ps).slc = s.slc := by simp [State.answer]
@[simp] theorem answer_cnl (h : Hdr) (op : Nat) (st : MStat) (ps : List (Nat × List Byte)) : (s.answer h op st ps).cnl = s.cnl := by simp [State.answer]
@[simp] theorem answer_whf (h : Hdr) (op : Nat) (st : MStat) (ps : List (Nat × List Byte)) : (s.answer h op st ps).whf = s.whf := by simp [State.answer]
@[simp] theorem answer_res (h : Hdr) (op : Nat) (st : MStat) (ps : List (Nat × List Byte)) : (s.answer h op st ps).res = s.res := by simp [State.answer]
@[simp] theorem answer_port (h : Hdr) (op : Nat) (st : MStat) (ps : List (Nat × List Byte)) : (s.answer h op st ps).port = s.port := by simp [State.answer]
@[simp] theorem answer_idle (h : Hdr) (op : Nat) (st : MStat) (ps : List (Nat × List Byte)) : (s.answer h op st ps).idle = s.idle := by simp [State.answer]
@[simp] theorem answer_drives (h : Hdr) (op : Nat) (st : MStat) (ps : List (Nat × List Byte)) : (s.answer h op st ps).drives = s.drives := by simp [State.answer]
@[simp] theorem answer_away (h : Hdr) (op : Nat) (st : MStat) (ps : List (Nat × List Byte)) : (s.answer h op st ps).away = s.away := by simp [State.answer]
@[simp] theorem answer_pending (h : Hdr) (op : Nat) (st : MStat) (ps : List (Nat × List Byte)) : (s.answer h op st ps).pending = s.pending := by simp [State.answer]
@[simp] theorem answer_now (h : Hdr) (op : Nat) (st : MStat) (ps : List (Nat × List Byte)) : (s.answer h op st ps).now = s.now := by simp [State.answer]
@[simp] theorem answer_timeBase (h : Hdr) (op : Nat) (st : MStat) (ps : List (Nat × List Byte)) : (s.answer h op st ps).timeBase = s.timeBase := by simp [State.answer]
@[simp] theorem answer_free (h : Hdr) (op : Nat) (st : MStat) (ps : List (Nat × List Byte)) : (s.answer h op st ps).free = s.free := by simp [State.answer]

@[simp] theorem answerOnly_latch (h : Hdr) (op : Nat) (st : MStat) : (s.answerOnly h op st).latch = s.latch := by simp [State.answerOnly]
@[simp] theorem answerOnly_loHeld (h : Hdr) (op : Nat) (st : MStat) : (s.answerOnly h op st).loHeld = s.loHeld := by simp [State.answerOnly]
@[simp] theorem answerOnly_mrd (h : Hdr) (op : Nat) (st : MStat) : (s.answerOnly h op st).mrd = s.mrd := by simp [State.answerOnly]
@[simp] theorem answerOnly_fw (h : Hdr) (op : Nat) (st : MStat) : (s.answerOnly h op st).fw = s.fw := by simp [State.answerOnly]
@[simp] theorem answerOnly_rst (h : Hdr) (op : Nat) (st : MStat) : (s.answerOnly h op st).rst = s.rst := by simp [State.answerOnly]
@[simp] theorem answerOnly_pwr (h : Hdr) (op : Nat) (st : MStat) : (s.answerOnly h op st).pwr = s.pwr := by simp [State.answerOnly]
@[simp] theorem answerOnly_shelf (h : Hdr) (op : Nat) (st : MStat) : (s.answerOnly h op st).shelf = s.shelf := by simp [State.answerOnly]
@[simp] theorem answerOnly_host (h : Hdr) (op : Nat) (st : MStat) : (s.answerOnly h op st).host = s.host := by simp [State.answerOnly]
@[simp] theorem answerOnly_brg (h : Hdr) (op : Nat) (st : MStat) : (s.answerOnly h op st).brg = s.brg := by simp [State.answerOnly]
@[simp] theorem answerOnly_tug (h : Hdr) (op : Nat) (st : MStat) : (s.answerOnly h op st).tug = s.tug := by simp [State.answerOnly]
@[simp] theorem answerOnly_tal (h : Hdr) (op : Nat) (st : MStat) : (s.answerOnly h op st).tal = s.tal := by simp [State.answerOnly]
@[simp] theorem answerOnly_net (h : Hdr) (op : Nat) (st : MStat) : (s.answerOnly h op st).net = s.net := by simp [State.answerOnly]
@[simp] theorem answerOnly_pair (h : Hdr) (op : Nat) (st : MStat) : (s.answerOnly h op st).pair = s.pair := by simp [State.answerOnly]
@[simp] theorem answerOnly_ary (h : Hdr) (op : Nat) (st : MStat) : (s.answerOnly h op st).ary = s.ary := by simp [State.answerOnly]
@[simp] theorem answerOnly_cip (h : Hdr) (op : Nat) (st : MStat) : (s.answerOnly h op st).cip = s.cip := by simp [State.answerOnly]
@[simp] theorem answerOnly_slc (h : Hdr) (op : Nat) (st : MStat) : (s.answerOnly h op st).slc = s.slc := by simp [State.answerOnly]
@[simp] theorem answerOnly_cnl (h : Hdr) (op : Nat) (st : MStat) : (s.answerOnly h op st).cnl = s.cnl := by simp [State.answerOnly]
@[simp] theorem answerOnly_whf (h : Hdr) (op : Nat) (st : MStat) : (s.answerOnly h op st).whf = s.whf := by simp [State.answerOnly]
@[simp] theorem answerOnly_res (h : Hdr) (op : Nat) (st : MStat) : (s.answerOnly h op st).res = s.res := by simp [State.answerOnly]
@[simp] theorem answerOnly_port (h : Hdr) (op : Nat) (st : MStat) : (s.answerOnly h op st).port = s.port := by simp [State.answerOnly]
@[simp] theorem answerOnly_idle (h : Hdr) (op : Nat) (st : MStat) : (s.answerOnly h op st).idle = s.idle := by simp [State.answerOnly]
@[simp] theorem answerOnly_drives (h : Hdr) (op : Nat) (st : MStat) : (s.answerOnly h op st).drives = s.drives := by simp [State.answerOnly]
@[simp] theorem answerOnly_away (h : Hdr) (op : Nat) (st : MStat) : (s.answerOnly h op st).away = s.away := by simp [State.answerOnly]
@[simp] theorem answerOnly_pending (h : Hdr) (op : Nat) (st : MStat) : (s.answerOnly h op st).pending = s.pending := by simp [State.answerOnly]
@[simp] theorem answerOnly_now (h : Hdr) (op : Nat) (st : MStat) : (s.answerOnly h op st).now = s.now := by simp [State.answerOnly]
@[simp] theorem answerOnly_timeBase (h : Hdr) (op : Nat) (st : MStat) : (s.answerOnly h op st).timeBase = s.timeBase := by simp [State.answerOnly]
@[simp] theorem answerOnly_free (h : Hdr) (op : Nat) (st : MStat) : (s.answerOnly h op st).free = s.free := by simp [State.answerOnly]

@[simp] theorem finish_latch (r : Running) (st : MStat) (ps : List (List Byte)) : (s.finish r st ps).latch = s.latch := by simp [State.finish]
@[simp] theorem finish_loHeld (r : Running) (st : MStat) (ps : List (List Byte)) : (s.finish r st ps).loHeld = s.loHeld := by simp [State.finish]
@[simp] theorem finish_mrd (r : Running) (st : MStat) (ps : List (List Byte)) : (s.finish r st ps).mrd = s.mrd := by simp [State.finish]
@[simp] theorem finish_fw (r : Running) (st : MStat) (ps : List (List Byte)) : (s.finish r st ps).fw = s.fw := by simp [State.finish]
@[simp] theorem finish_rst (r : Running) (st : MStat) (ps : List (List Byte)) : (s.finish r st ps).rst = s.rst := by simp [State.finish]
@[simp] theorem finish_pwr (r : Running) (st : MStat) (ps : List (List Byte)) : (s.finish r st ps).pwr = s.pwr := by simp [State.finish]
@[simp] theorem finish_shelf (r : Running) (st : MStat) (ps : List (List Byte)) : (s.finish r st ps).shelf = s.shelf := by simp [State.finish]
@[simp] theorem finish_host (r : Running) (st : MStat) (ps : List (List Byte)) : (s.finish r st ps).host = s.host := by simp [State.finish]
@[simp] theorem finish_brg (r : Running) (st : MStat) (ps : List (List Byte)) : (s.finish r st ps).brg = s.brg := by simp [State.finish]
@[simp] theorem finish_tug (r : Running) (st : MStat) (ps : List (List Byte)) : (s.finish r st ps).tug = s.tug := by simp [State.finish]
@[simp] theorem finish_tal (r : Running) (st : MStat) (ps : List (List Byte)) : (s.finish r st ps).tal = s.tal := by simp [State.finish]
@[simp] theorem finish_net (r : Running) (st : MStat) (ps : List (List Byte)) : (s.finish r st ps).net = s.net := by simp [State.finish]
@[simp] theorem finish_ary (r : Running) (st : MStat) (ps : List (List Byte)) : (s.finish r st ps).ary = s.ary := by simp [State.finish]
@[simp] theorem finish_cip (r : Running) (st : MStat) (ps : List (List Byte)) : (s.finish r st ps).cip = s.cip := by simp [State.finish]
@[simp] theorem finish_slc (r : Running) (st : MStat) (ps : List (List Byte)) : (s.finish r st ps).slc = s.slc := by simp [State.finish]
@[simp] theorem finish_cnl (r : Running) (st : MStat) (ps : List (List Byte)) : (s.finish r st ps).cnl = s.cnl := by simp [State.finish]
@[simp] theorem finish_whf (r : Running) (st : MStat) (ps : List (List Byte)) : (s.finish r st ps).whf = s.whf := by simp [State.finish]
@[simp] theorem finish_res (r : Running) (st : MStat) (ps : List (List Byte)) : (s.finish r st ps).res = s.res := by simp [State.finish]
@[simp] theorem finish_port (r : Running) (st : MStat) (ps : List (List Byte)) : (s.finish r st ps).port = s.port := by simp [State.finish]
@[simp] theorem finish_idle (r : Running) (st : MStat) (ps : List (List Byte)) : (s.finish r st ps).idle = s.idle := by simp [State.finish]
@[simp] theorem finish_drives (r : Running) (st : MStat) (ps : List (List Byte)) : (s.finish r st ps).drives = s.drives := by simp [State.finish]
@[simp] theorem finish_away (r : Running) (st : MStat) (ps : List (List Byte)) : (s.finish r st ps).away = s.away := by simp [State.finish]
@[simp] theorem finish_pending (r : Running) (st : MStat) (ps : List (List Byte)) : (s.finish r st ps).pending = s.pending := by simp [State.finish]
@[simp] theorem finish_now (r : Running) (st : MStat) (ps : List (List Byte)) : (s.finish r st ps).now = s.now := by simp [State.finish]
@[simp] theorem finish_timeBase (r : Running) (st : MStat) (ps : List (List Byte)) : (s.finish r st ps).timeBase = s.timeBase := by simp [State.finish]
@[simp] theorem finish_free (r : Running) (st : MStat) (ps : List (List Byte)) : (s.finish r st ps).free = s.free := by simp [State.finish]

@[simp] theorem finishOn_latch (op : Nat) (o : ObjKind × Nat) (st : MStat) (ps : List (List Byte)) : (s.finishOn op o st ps).latch = s.latch := by unfold State.finishOn; split <;> simp
@[simp] theorem finishOn_loHeld (op : Nat) (o : ObjKind × Nat) (st : MStat) (ps : List (List Byte)) : (s.finishOn op o st ps).loHeld = s.loHeld := by unfold State.finishOn; split <;> simp
@[simp] theorem finishOn_mrd (op : Nat) (o : ObjKind × Nat) (st : MStat) (ps : List (List Byte)) : (s.finishOn op o st ps).mrd = s.mrd := by unfold State.finishOn; split <;> simp
@[simp] theorem finishOn_fw (op : Nat) (o : ObjKind × Nat) (st : MStat) (ps : List (List Byte)) : (s.finishOn op o st ps).fw = s.fw := by unfold State.finishOn; split <;> simp
@[simp] theorem finishOn_rst (op : Nat) (o : ObjKind × Nat) (st : MStat) (ps : List (List Byte)) : (s.finishOn op o st ps).rst = s.rst := by unfold State.finishOn; split <;> simp
@[simp] theorem finishOn_pwr (op : Nat) (o : ObjKind × Nat) (st : MStat) (ps : List (List Byte)) : (s.finishOn op o st ps).pwr = s.pwr := by unfold State.finishOn; split <;> simp
@[simp] theorem finishOn_shelf (op : Nat) (o : ObjKind × Nat) (st : MStat) (ps : List (List Byte)) : (s.finishOn op o st ps).shelf = s.shelf := by unfold State.finishOn; split <;> simp
@[simp] theorem finishOn_host (op : Nat) (o : ObjKind × Nat) (st : MStat) (ps : List (List Byte)) : (s.finishOn op o st ps).host = s.host := by unfold State.finishOn; split <;> simp
@[simp] theorem finishOn_brg (op : Nat) (o : ObjKind × Nat) (st : MStat) (ps : List (List Byte)) : (s.finishOn op o st ps).brg = s.brg := by unfold State.finishOn; split <;> simp
@[simp] theorem finishOn_tug (op : Nat) (o : ObjKind × Nat) (st : MStat) (ps : List (List Byte)) : (s.finishOn op o st ps).tug = s.tug := by unfold State.finishOn; split <;> simp
@[simp] theorem finishOn_tal (op : Nat) (o : ObjKind × Nat) (st : MStat) (ps : List (List Byte)) : (s.finishOn op o st ps).tal = s.tal := by unfold State.finishOn; split <;> simp
@[simp] theorem finishOn_net (op : Nat) (o : ObjKind × Nat) (st : MStat) (ps : List (List Byte)) : (s.finishOn op o st ps).net = s.net := by unfold State.finishOn; split <;> simp
@[simp] theorem finishOn_ary (op : Nat) (o : ObjKind × Nat) (st : MStat) (ps : List (List Byte)) : (s.finishOn op o st ps).ary = s.ary := by unfold State.finishOn; split <;> simp
@[simp] theorem finishOn_cip (op : Nat) (o : ObjKind × Nat) (st : MStat) (ps : List (List Byte)) : (s.finishOn op o st ps).cip = s.cip := by unfold State.finishOn; split <;> simp
@[simp] theorem finishOn_slc (op : Nat) (o : ObjKind × Nat) (st : MStat) (ps : List (List Byte)) : (s.finishOn op o st ps).slc = s.slc := by unfold State.finishOn; split <;> simp
@[simp] theorem finishOn_cnl (op : Nat) (o : ObjKind × Nat) (st : MStat) (ps : List (List Byte)) : (s.finishOn op o st ps).cnl = s.cnl := by unfold State.finishOn; split <;> simp
@[simp] theorem finishOn_whf (op : Nat) (o : ObjKind × Nat) (st : MStat) (ps : List (List Byte)) : (s.finishOn op o st ps).whf = s.whf := by unfold State.finishOn; split <;> simp
@[simp] theorem finishOn_res (op : Nat) (o : ObjKind × Nat) (st : MStat) (ps : List (List Byte)) : (s.finishOn op o st ps).res = s.res := by unfold State.finishOn; split <;> simp
@[simp] theorem finishOn_port (op : Nat) (o : ObjKind × Nat) (st : MStat) (ps : List (List Byte)) : (s.finishOn op o st ps).port = s.port := by unfold State.finishOn; split <;> simp
@[simp] theorem finishOn_idle (op : Nat) (o : ObjKind × Nat) (st : MStat) (ps : List (List Byte)) : (s.finishOn op o st ps).idle = s.idle := by unfold State.finishOn; split <;> simp
@[simp] theorem finishOn_drives (op : Nat) (o : ObjKind × Nat) (st : MStat) (ps : List (List Byte)) : (s.finishOn op o st ps).drives = s.drives := by unfold State.finishOn; split <;> simp
@[simp] theorem finishOn_away (op : Nat) (o : ObjKind × Nat) (st : MStat) (ps : List (List Byte)) : (s.finishOn op o st ps).away = s.away := by unfold State.finishOn; split <;> simp
@[simp] theorem finishOn_pending (op : Nat) (o : ObjKind × Nat) (st : MStat) (ps : List (List Byte)) : (s.finishOn op o st ps).pending = s.pending := by unfold State.finishOn; split <;> simp
@[simp] theorem finishOn_now (op : Nat) (o : ObjKind × Nat) (st : MStat) (ps : List (List Byte)) : (s.finishOn op o st ps).now = s.now := by unfold State.finishOn; split <;> simp
@[simp] theorem finishOn_timeBase (op : Nat) (o : ObjKind × Nat) (st : MStat) (ps : List (List Byte)) : (s.finishOn op o st ps).timeBase = s.timeBase := by unfold State.finishOn; split <;> simp
@[simp] theorem finishOn_free (op : Nat) (o : ObjKind × Nat) (st : MStat) (ps : List (List Byte)) : (s.finishOn op o st ps).free = s.free := by unfold State.finishOn; split <;> simp

end Sys2Proof.Machine
end

