-- ==== Sys2Proof/Laws/Manifest.lean ====
section
/-! SUPPORT. What taking a manifest up comes to, and that its receipt leaves or waits for the partner. -/

namespace Sys2Proof.Machine

/-- Admission changes nothing but the sessions when it lets a manifest execute. -/
theorem admitMan_taken {s : State} {h : Hdr} {op : Nat} (ha : (s.admitMan h op).2 = true) :
    ∃ l, (s.admitMan h op).1 = s.updMft fun m => { m with sessions := l } := by
  generalize hr : s.admitMan h op = r at ha ⊢
  unfold State.admitMan at hr
  dsimp only at hr
  repeat' split at hr
  all_goals subst hr
  all_goals first
    | exact Bool.noConfusion ha
    | exact ⟨s.mft.sessions, rfl⟩
    | exact ⟨s.mft.sessions.upd h.session fun ss => { ss with heard := s.now }, rfl⟩

/-- A manifest that is taken up runs its opcode's own checks and effects on a state that differs in its sessions alone. -/
theorem manifest_takes {s : State} {h : Hdr} {op : Nat} {objs : List (ObjKind × Nat)} (i : ManCmd)
    (body : State → MRes) (ht : s.takes h op objs = true) :
    ∃ l, s.manifest i h op objs body = (s.updMft fun m => { m with sessions := l }).runBody h op objs body := by
  simp only [State.takes, Bool.and_eq_true, Bool.not_eq_true', Bool.or_eq_true] at ht
  obtain ⟨⟨⟨⟨⟨h1, h2⟩, h3⟩, h4⟩, h5⟩, _⟩ := ht
  obtain ⟨l, hl⟩ := admitMan_taken h3
  refine ⟨l, ?_⟩
  unfold State.manifest
  have hag : ¬ (s.agent = true ∧ (!agentOps.contains op) = true) := by
    rintro ⟨ha, hb⟩
    rcases h2 with h2 | h2
    · rw [ha] at h2; cases h2
    · rw [h2] at hb; cases hb
  have hw : ¬ ((s.admitMan h op).1.lkAsleep = true ∨ ((s.admitMan h op).1.mustWait objs = true ∧
      (h.session ≠ 0 ∨ h.chan = Channel.mailbox))) := by
    rw [hl]
    rintro (ha | ⟨ha, hb⟩)
    · have : s.lkAsleep = true := ha
      simp [h4] at this
    · have hm : s.mustWait objs = true := ha
      simp only [hm, Bool.true_and, Bool.or_eq_false_iff, decide_eq_false_iff_not] at h5
      exact hb.elim h5.1 h5.2
  simp only [h1, hag, h3, hw, Bool.not_true, if_false, Bool.false_eq_true]
  rw [hl]

theorem takes_notDropped {s : State} {h : Hdr} {op : Nat} {objs : List (ObjKind × Nat)}
    (ht : s.takes h op objs = true) : s.mft.mboxDrop.contains (h.session, h.seq) = false := by
  simp only [State.takes, Bool.and_eq_true, Bool.not_eq_true'] at ht
  exact ht.2

/-- A receipt that is wanted leaves the device. -/
theorem sendReceipt_out (s : State) (h : Hdr) (r : Receipt)
    (hd : s.mft.mboxDrop.contains (h.session, h.seq) = false) : Out.receipt r ∈ (s.sendReceipt h r).out := by
  unfold State.sendReceipt
  dsimp only
  split
  · rw [journal_mft, hd]
    simp only [Bool.false_eq_true, if_false]
    split
    · unfold State.msix; dsimp only; split <;> simp
    · simp
  · refine foldl_keeps (fun u : State => Out.receipt r ∈ u.out) _ ?_ _ _ (by simp)
    intro t x ht; simpa using ht
  · simp

/-- A manifest's answer leaves the device or waits for the partner's acknowledgement (R319). -/
theorem answered_answerSince (t : State) (q : Nat) (h : Hdr) (op : Nat) (st : MStat) (ps : List (List Byte))
    (hd : t.mft.mboxDrop.contains (h.session, h.seq) = false) :
    (t.answerSince q h op st (params ps)).answered h op st ps := by
  unfold State.answerSince
  dsimp only
  have hr : ∀ u : State, u.mft.mboxDrop = t.mft.mboxDrop →
      (u.sendReceipt h (receiptOf h op st (params ps))).answered h op st ps := by
    intro u hu
    exact .inl (sendReceipt_out u h _ (by rw [hu]; exact hd))
  have hrec : (t.record h (receiptOf h op st (params ps))).mft.mboxDrop = t.mft.mboxDrop := by
    unfold State.record; split <;> rfl
  split
  · split
    · refine .inr ⟨t.store.seq, ?_⟩
      unfold State.openWindow
      split <;> simp [State.count]
    · exact hr _ (by simpa using hrec)
  · split
    · refine .inr ⟨t.store.seq, ?_⟩
      unfold State.openWindow
      split <;> simp [State.count]
    · exact hr _ hrec

/-- The registers that journalling and answering write. -/
def answerRegs : List Nat :=
  [Fld.TWP_MOOR_SEQ_LO_SEQ.addr, Fld.TWP_MOOR_SEQ_HI_SEQ.addr, Fld.TWP_MOOR_STAT_PENDING.addr, Reg.MFT_MBOX_STAT,
    Fld.AQD_LINK_STAT_WINDOWS.addr]

theorem setFld_reg_ne (s : State) (f : Fld) (v : Nat) {a : Nat} (h : f.addr ≠ a) : (s.setFld f v).reg a = s.reg a :=
  reg_setReg_ne s _ h

theorem moorStat_reg (s : State) {a : Nat} (h : Fld.TWP_MOOR_STAT_PENDING.addr ≠ a) : s.moorStat.reg a = s.reg a := by
  have h' : Fld.TWP_MOOR_STAT_JOURNAL_PCT.addr ≠ a := h
  unfold State.moorStat
  simp only [setFld_reg_ne _ _ _ h, setFld_reg_ne _ _ _ h']

theorem journal_reg (s : State) {a : Nat} (h : a ∉ answerRegs) : s.journal.reg a = s.reg a := by
  simp only [answerRegs, List.mem_cons, not_or] at h
  obtain ⟨h1, h2, h3, _, _⟩ := h
  unfold State.journal
  split
  · rfl
  · split
    · rfl
    · dsimp only
      rw [moorStat_reg _ (Ne.symm h3), setFld_reg_ne _ _ _ (Ne.symm h2), setFld_reg_ne _ _ _ (Ne.symm h1), updStore_reg]

theorem sendReceipt_reg (s : State) (h : Hdr) (r : Receipt) {a : Nat} (ha : a ∉ answerRegs) :
    (s.sendReceipt h r).reg a = s.reg a := by
  have hm : Reg.MFT_MBOX_STAT ≠ a := by
    simp only [answerRegs, List.mem_cons, not_or] at ha; exact Ne.symm ha.2.2.2.1
  have h1 : Fld.MFT_MBOX_STAT_RLEN.addr ≠ a := hm
  have h2 : Fld.MFT_MBOX_STAT_BUSY.addr ≠ a := hm
  have h3 : Fld.MFT_MBOX_STAT_DONE.addr ≠ a := hm
  unfold State.sendReceipt
  dsimp only
  split
  · split
    · rw [updMft_reg, journal_reg s ha]
    · split <;>
        simp only [msix_reg, emit_reg, State.raise, setFld_reg_ne _ _ _ h1, setFld_reg_ne _ _ _ h2, setFld_reg_ne _ _ _ h3,
          updMft_reg, journal_reg s ha]
  · refine (foldl_eq (fun u : State => u.reg a) _ (fun t x => ?_) _ _).trans ?_
    · exact sendPeer_reg _ _ _ _
    · rw [emit_reg, journal_reg s ha]
  · rw [emit_reg, journal_reg s ha]

/-- Answering a manifest leaves every other register. -/
theorem answerSince_reg (s : State) (q : Nat) (h : Hdr) (op : Nat) (st : MStat) (ps : List (Nat × List Byte))
    {a : Nat} (ha : a ∉ answerRegs) : (s.answerSince q h op st ps).reg a = s.reg a := by
  have hw : Fld.AQD_LINK_STAT_WINDOWS.addr ≠ a := by
    simp only [answerRegs, List.mem_cons, not_or] at ha; exact Ne.symm ha.2.2.2.2.1
  have ho : ∀ u : State, (u.openWindow 0).reg a = u.reg a := by
    intro u; unfold State.openWindow; split
    · rfl
    · dsimp only; rw [sendPeer_reg, State.count, setFld_reg_ne _ _ _ hw, updPeer_reg]
  unfold State.answerSince
  dsimp only
  split <;> split
  · rw [ho]; simp
  · rw [sendReceipt_reg _ _ _ ha]; simp
  · rw [ho]; simp
  · rw [sendReceipt_reg _ _ _ ha]; simp

theorem answerSince_fld (s : State) (q : Nat) (h : Hdr) (op : Nat) (st : MStat) (ps : List (Nat × List Byte))
    {f : Fld} (ha : f.addr ∉ answerRegs) : (s.answerSince q h op st ps).fld f = s.fld f := by
  rw [State.fld, answerSince_reg _ _ _ _ _ _ ha]; rfl

/-- A manifest that leaves the moored tables leaves its image in its slot. -/
theorem outgrows_same {s t : State} (hm : t.mrd = s.mrd) : s.outgrows t = false := by
  simp [State.outgrows, State.moorBytes, hm]

/-- An effect whose image keeps to its slot is made, whatever its size was (R382). -/
theorem outgrows_small {s t : State} (h : t.moorBytes ≤ 20 * 2 ^ 20) : s.outgrows t = false := by
  simp only [State.outgrows, Bool.and_eq_false_iff, decide_eq_false_iff_not]
  exact .inr (Nat.not_lt.mpr h)

/-- The common shape of an opcode's completion: a body that succeeds on the state as taken up, with what it establishes. -/
theorem manifest_ok {s : State} {h : Hdr} {op : Nat} {objs : List (ObjKind × Nat)} (i : ManCmd) {body : State → MRes}
    (ps : List (List Byte)) (P : State → Prop) (ht : s.takes h op objs = true)
    (hb : ∀ l, ∃ t, body (s.updMft fun m => { m with sessions := l }) = .ok t ps ∧
      t.mft.mboxDrop = s.mft.mboxDrop ∧ s.outgrows t = false ∧ ∀ q st ps, P (t.answerSince q h op st ps)) :
    (s.manifest i h op objs body).answered h op .success ps ∧ P (s.manifest i h op objs body) := by
  obtain ⟨l, hl⟩ := manifest_takes i body ht
  obtain ⟨t, ht', hd, ho, hP⟩ := hb l
  have ho' : (s.updMft fun m => { m with sessions := l }).outgrows t = false := ho
  rw [hl]
  simp only [State.runBody, ht', ho', Bool.false_eq_true, if_false]
  refine ⟨answered_answerSince t _ h op _ ps ?_, hP _ _ _⟩
  rw [hd]; exact takes_notDropped ht

/-- A body that fails: the failure is answered and nothing else has happened. -/
theorem manifest_fail {s : State} {h : Hdr} {op : Nat} {objs : List (ObjKind × Nat)} (i : ManCmd)
    {body : State → MRes} (st : MStat) (ps : List (List Byte)) (ht : s.takes h op objs = true)
    (hb : ∀ l, body (s.updMft fun m => { m with sessions := l }) = .fail st ps) :
    ∃ l q, s.manifest i h op objs body =
        (s.updMft fun m => { m with sessions := l }).answerSince q h op st (params ps) ∧
      (s.manifest i h op objs body).answered h op st ps := by
  obtain ⟨l, hl⟩ := manifest_takes i body ht
  refine ⟨l, s.store.seq, ?_, ?_⟩
  · rw [hl]; simp only [State.runBody, hb]; rfl
  · rw [hl]; simp only [State.runBody, hb]
    have hd := takes_notDropped ht
    exact answered_answerSince _ _ h op _ ps hd

end Sys2Proof.Machine
end

