-- ==== Sys2Proof/Tests/Slice0.lean ====
section
/-! SUPPORT. Small tests: ill-formed commands are refused by `Instr.wf`, worked values from outside the model, and for every
statement a state and operands that meet its hypotheses. -/

/- One theorem at a time: elaborated side by side, these tests hold more thread stacks than the check has memory for. -/
set_option Elab.async false

namespace Sys2Proof.Machine
open Sys2Proof

/-! States that the witnesses name. -/

/-- A device that serves, everything else as after reset. -/
def w0 : State := { State.reset with rst := { State.reset.rst with phase := .serving } }
/-- A manifest on the mailbox, outside a session. -/
def hM : Hdr := ⟨.mailbox, 0, 1, 0, 0, none⟩
/-- An OPTIMAL array of three members without a spare slot. -/
def wA : Arr :=
  { mode := .p, n := 3, k := 2, d := false, unit := 2, meta64 := false, pool := none, gen := 5, stripes := 1024, state := .optimal,
    roles := [⟨some 0, .online, .none, 0, 0⟩, ⟨some 3, .online, .none, 0, 0⟩, ⟨some 6, .online, .none, 0, 0⟩], subst := none,
    cursor := 0, scrubPos := 7, pairs := [⟨0, 1, .two, false, true, true⟩] }
/-- `s` with array 3 as given. -/
def withArr (s : State) (a : Arr) : State := { s with mrd := { s.mrd with arr := [(3, a)] } }
def wArr : State := withArr w0 wA
/-- `s` with a field set. -/
def withFld (s : State) (f : Fld) (v : Nat) : State := s.setFld f v
/-- `s` with READY, fitting drives of 10 million blocks in the bays. -/
def withDrives (s : State) (l : List Nat) : State :=
  l.foldl (fun s b =>
    let d : Drive := { id := { (default : DriveId) with lba4k := true, wzDealloc := true, capacity := 10000000 }, medium := default }
    { s.setFld (Fld.DRV_STATE_STATE b) 4 with drives := s.drives.set b d }) s
/-- Three READY members, a ledgered namespace 1 for host 7 on queue 5, block 5 in the gather buffer. -/
def wIo : State :=
  let s := withArr (withDrives w0 [0, 3, 6]) wA
  { s with
    mrd := { s.mrd with ns := [(1, { (default : Namespace) with present := true, subsys := 2, array := 3, size := 8192, lbafs := [0], ledgered := true, hosts := [7], ext := [0] })] }
    ary := [(3, { (default : ArrRun) with assembled := true, rnNext := 9, rnLimit := 2 ^ 40, gather := [(0, { (default : GatherStripe) with slots := [⟨5, 8, 77, 0, false, 7, 1⟩] })] })]
    host := { s.host with
      assoc := [(1, { (default : Assoc) with live := true, host := 7, subsys := 2, adminQ := 4 })]
      queue := [(4, { (default : Queue) with live := true, cntlid := 1, sqsize := 31, authOk := true }),
        (5, { (default : Queue) with live := true, cntlid := 1, qid := 1, sqsize := 31, authOk := true, home := some 0 })] } }
/-- An I/O command on queue 5. -/
def ioC (op slba nlb : Nat) (data : List Sector) : IoCmd :=
  { (default : IoCmd) with qref := 5, cid := 2, opcode := op, nsid := 1, slba := slba, nlb := nlb, data := data }
/-- `wIo` with a command standing in queue 5. -/
def wIoSq (c : IoCmd) : State := wIo.updQueue 5 fun x => { x with sq := [c] }
/-- An admin command on queue 4. -/
def wAdm : AdminCmd := { (default : AdminCmd) with qref := 4, cid := 2 }
/-- The admin queue of an association whose host must authenticate, at a point of its authentication. -/
def wAuth (a : AuthRun) : State :=
  let s := { wIo with mrd := { wIo.mrd with hosts := [(7, { (default : HostEntry) with present := true, p := { (default : HostParams) with policy := .required } })] } }
  s.updQueue 4 fun x => { x with authOk := false, authBy := some 2000000000, auth := a }
/-- A listed host 7 that may reach subsystem 2, and queue pair 9 in RTS from its address. -/
def wHost : State :=
  { w0 with
    mrd := { w0.mrd with
      hosts := [(7, { (default : HostEntry) with present := true, p := { (default : HostParams) with nqn := 50, reach := [2], maxAssoc := 4, addrs := [⟨false, 0, 0, none⟩] } })]
      subsys := [(2, { (default : Subsys) with present := true, nqn := 60 })] }
    tug := { w0.tug with qp := [(9, { (default : Qp) with state := .rts })] } }
/-- A packet for queue pair 9 that begins and ends a message. -/
def wPkt (op : PktOp) : Packet :=
  { (default : Packet) with qpn := 0x10009, psn := 5, op := op, first := true, last := true, final := true }
/-- Queue pair 9 in RTS, and windows 5 (DATA), 6 (BANK), 7 (STAIRS, with a record), 8 (bound DATA) of its host. -/
def wRts : State :=
  { w0 with
    mrd := { w0.mrd with hosts := [(7, { (default : HostEntry) with present := true, p := { (default : HostParams) with stairs := 4 } })] }
    brg := { w0.brg with dock := [(8192, 1), (8196, 1)] }
    tug := { w0.tug with
      qp := [(9, { (default : Qp) with state := .rts, host := 7, epsn := 5, cfg := { (default : QpCfg) with respRes := 1 } })]
      win := [(5, ⟨.valid, .data, 7, 4096, true, true, false, none, 0, 1, 4096, 0, 0, 0, []⟩),
        (6, ⟨.valid, .bank, 7, 4096, true, true, true, none, 0, 1, 0, 0, 0, 0, []⟩),
        (7, ⟨.valid, .stairs, 7, 4096, true, true, false, none, 0x3A, 1, 8192, 0, 0, 0, []⟩),
        (8, ⟨.valid, .data, 7, 65536, true, true, false, some (1, 100), 0x3B, 1, 8192, 0, 0, 0, []⟩)] } }
/-- A queue pair as given. -/
def wQp (i : Nat) (q : Qp) : State := { w0 with tug := { w0.tug with qp := [(i, q)] } }
/-- A sprayed queue pair in RTS with packets 3 to 5 unacknowledged. -/
def wSend : Qp :=
  { (default : Qp) with state := .rts, spray := true, npaths := 1, spsn := 6, acked := 2, cfg := { (default : QpCfg) with retryCnt := 7, rnrRetry := 7 }, sent := [{ (default : TxPkt) with psn := 3, span := 1 }, { (default : TxPkt) with psn := 4, span := 1 }, { (default : TxPkt) with psn := 5, span := 1 }] }
/-- A REQ and a SYN from a listed source. -/
def wReq : CmReq := { (default : CmReq) with dqpn := 77 }
def wSyn : TcpSeg := { (default : TcpSeg) with conn := 16383, dport := 4420, syn := true, seq := 2 ^ 32 - 1 }
/-- A DATA cell from source 99 for attachment 40. -/
def wCell : Cell := { (default : Cell) with src := 99, cls := 3, dst := ⟨40, 1, 0⟩ }
/-- The wharf ON with all ways for class 0 and line 512 in way 0, clean or dirty, and one line in the lighter. -/
def wWhf (dirty : Bool) : State :=
  let s := withFld (withFld (withFld w0 Fld.WHF_STATE_STATE 1) (Fld.WHF_CLASS_CFG_WAYS 0) 0xFFFF) (Fld.WHF_CLASS_CFG_WT 0) 0
  { s with whf := { s.whf with lines := [(setOf 512 * 16, ⟨true, 512, dirty, 0, false, 0xABC⟩)], lighter := [⟨true, 700, dirty, 0, false, 5⟩] } }
/-- Port 0 up, with one IPv4 address, and an ARP request for it. -/
def wNet : State :=
  let s := withFld w0 (Fld.NET_PORT_STAT_LINK 0 0) 1
  { s with mrd := { s.mrd with addr := [(3, some ⟨false, 5, 24, none, none, [0]⟩)] } }
def wArp : RxFrame := ⟨64, false, 0, 0, 0, 77, 2 ^ 48 - 1, [], 0x0806, .arp true 9 5⟩
/-- Bay 47 in a port state, its port's inner state as given. -/
def wBay (st : Nat) (p : BayPort) : State :=
  { withFld w0 (Fld.DRV_STATE_STATE 47) st with rst := { w0.rst with baysUp := true }, port := [(47, p)] }
/-- Bay 47 READY, a member write of berth 8200 on its drive. -/
def wOp : State :=
  { wBay 4 default with brg := { w0.brg with berth := [(8200, { (default : Berth) with state := .run, checkpoint := 5, ops := [⟨47, 5, true, false, true, false, 0, none⟩] })] } }
/-- Bay 47's paddle in a state, with valid limits. -/
def wPad (st : Nat) (p : Paddle) : State :=
  let s := withFld (withFld w0 (Fld.PDL_CFG1_ILIM_MAIN 47) 100) (Fld.PDL_SENSE_RS_MAIN 47) 20
  let s := withFld (withFld s (Fld.PDL_CFG1_ILIM_AUX 47) 100) (Fld.PDL_SENSE_RS_AUX 47) 20
  { withFld s (Fld.PDL_STATE_STATE 47) st with shelf := { w0.shelf with paddle := [(47, p)] } }
/-- Both feeds GOOD and enabled, feed 1 conducting. -/
def wFeeds : State :=
  let s := withFld (withFld w0 (Fld.WIR_STATE_STATE 0) 2) (Fld.WIR_STATE_STATE 1) 2
  let s := withFld (withFld s Fld.WIR_CTL_EN_A 1) Fld.WIR_CTL_EN_B 1
  { s with shelf := { s.shelf with weir := [(1, ⟨true⟩)] } }
/-- A device of a pair in a role, and a frame of its partner. -/
def wRole (r : Nat) : State := withFld w0 Fld.AQD_ROLE_ROLE r
def wLive : State := withFld (wRole 1) Fld.AQD_PARTNER_STATE 1
def wFrm : PeerHdr := ⟨false, true, 0, 0⟩
/-- `s` with its pairing state changed. -/
def withPair (s : State) (f : Pairing → Pairing) : State := s.updPeer f
/-- `s` with a manifest running on the device. -/
def wRun (op : Nat) (s : State) : State := s.updMft fun m => { m with running := [⟨hM, op, [(.device, 0)], true⟩] }
/-- A standby in P4. -/
def wStby : State := let s := wRole 2; { s with rst := { s.rst with phase := .standby } }
/-- Three witnesses in the bays 0, 3 and 6. -/
def wWit (s : State) : State := withFld s Fld.AQD_PAIR_CFG_WITNESSES 3
/-- A device that serves, in a power state with one bound for. -/
def wPwr (cur tgt : Nat) (p : Pwr) : State :=
  { withFld (withFld w0 Fld.TWP_PWR_STATE_CUR cur) Fld.TWP_PWR_STATE_TARGET tgt with pwr := p }
/-- Session 5 is open on a channel. -/
def withSess (s : State) (c : Channel) (src : Nat) : State :=
  s.updMft fun m => { m with sessions := m.sessions.set 5 { (default : Session) with isOpen := true, chan := c, src := src } }
/-- The header of a CAP_LIST manifest in a session. -/
def wHead (session : Nat) (auth : Bool) : List Byte :=
  beBytes 2 0x434D ++ [1, if auth then 2 else 0] ++ beBytes 2 0x0101 ++ beBytes 4 1 ++ beBytes 4 session ++ List.replicate 18 0
/-- Subsystem 2, host 7, an array with room, namespace 9 in subsystem 2. -/
def wMan : State :=
  let s := withArr (withDrives w0 [0, 3, 6]) wA
  { s with mrd := { s.mrd with
      subsys := [(2, ⟨true, 60⟩), (3, ⟨true, 61⟩)]
      hosts := [(7, { (default : HostEntry) with present := true, p := { (default : HostParams) with nqn := 50 } })]
      ns := [(9, { (default : Namespace) with present := true, subsys := 2, array := 3, size := 1024, hosts := [7], ext := [0] })] } }
/-- A VALID, readable and writable window 63 on the dock SRAM, the link up, the device serving. -/
def wWin : State :=
  let s := withFld w0 Fld.EPT_STATUS_LINK 1
  { s with ept := { s.ept with win := [(63, ⟨true, true, true, 1, 12, 4096, 8192⟩)] }, brg := { s.brg with dock := [(8192, 1), (8196, 7)] } }
/-- A copy from the host under way. -/
def wCopy : State := wWin.updEpt fun e => { e with copy := some ⟨⟨true, true, true, 1, 12, 4096, 8192⟩, 64, 8, 8, false, 2047⟩ }
/-- A device in a phase of its start, its rails up to `n`. -/
def wPhase (p : Phase) (n : Nat) : State := { w0 with rst := { w0.rst with phase := p, railsUp := n, railsOn := n } }

/-! Ill-formed commands, one for each check of WellFormed.lean. -/

theorem test_wf_good : Instr.wf (.keepAlive 65791 65535) = true := by decide +kernel
theorem test_wf_qref : Instr.wf (.keepAlive 65792 0) = false := by decide +kernel
theorem test_wf_qref_conn : Instr.wf (.keepAlive (2 ^ 31 + 16384) 0) = false := by decide +kernel
theorem test_wf_cid : Instr.wf (.keepAlive 5 65536) = false := by decide +kernel
theorem test_wf_controller : Instr.wf (.keepAliveTimeout 65536) = false := by decide +kernel
theorem test_wf_property : Instr.wf (.propertySet 5 1 0x14 (2 ^ 64)) = false := by decide +kernel
theorem test_wf_opcode : Instr.wf (.unsupportedOpcode 5 1 256) = false := by decide +kernel
theorem test_wf_admin : Instr.wf (.getLogPage { wAdm with cdw10 := 2 ^ 32 }) = false := by decide +kernel
theorem test_wf_io_blocks : Instr.wf (.read (ioC 2 0 65537 [])) = false := by decide +kernel
theorem test_wf_io_fuse : Instr.wf (.read { ioC 2 0 1 [] with fuse := 4 }) = false := by decide +kernel
theorem test_wf_io_frame : Instr.wf (.read { ioC 2 0 1 [] with frame := { (default : FrameInfo) with port := 128 } }) = false := by
  decide +kernel
theorem test_wf_fused : Instr.wf (.compareAndWrite (ioC 5 0 1 []) (ioC 1 0 65537 [])) = false := by decide +kernel
theorem test_wf_cm : Instr.wf (.cmReq { wReq with pmtu := 0 }) = false := by decide +kernel
theorem test_wf_packet_qpn : Instr.wf (.packetReceive { wPkt .send with qpn := 2 ^ 24 }) = false := by decide +kernel
theorem test_wf_packet_path : Instr.wf (.dockWrite { wPkt .send with path := 8 }) = false := by decide +kernel
theorem test_wf_psn : Instr.wf (.ackReceive 0 (2 ^ 24) []) = false := by decide +kernel
theorem test_wf_tcp : Instr.wf (.tcpSegmentReceive { wSyn with conn := 16384 }) = false := by decide +kernel
theorem test_wf_header : Instr.wf (.identify { hM with session := 2 ^ 32 }) = false := by decide +kernel
theorem test_wf_header_port : Instr.wf (.identify { hM with port := 128 }) = false := by decide +kernel
theorem test_wf_bank : Instr.wf (.brgBankCtlWrite 0 4) = false := by decide +kernel
theorem test_wf_berth : Instr.wf (.brgBerthIdxWrite (2 ^ 18)) = false := by decide +kernel
theorem test_wf_cell : Instr.wf (.cellEntry { wCell with cls := 8 } none [] none 0) = false := by decide +kernel
theorem test_wf_line : Instr.wf (.wharfFillComplete (2 ^ 31) none) = false := by decide +kernel
theorem test_wf_range : Instr.wf (.maintClean 0 65536) = false := by decide +kernel
theorem test_wf_slot : Instr.wf (.cipSlotIdxWrite 4096) = false := by decide +kernel
theorem test_wf_commit : Instr.wf (.keyCommit 4) = false := by decide +kernel
theorem test_wf_frame : Instr.wf (.frameReceive 0 { wArp with dmac := 2 ^ 48 }) = false := by decide +kernel
theorem test_wf_tag : Instr.wf (.frameReceive 0 { wArp with tags := [(0, 4096)] }) = false := by decide +kernel
theorem test_wf_sluice : Instr.wf (.slcModeWrite 0 2 0) = false := by decide +kernel
theorem test_wf_drive_link : Instr.wf (.driveLinkUp 0 5 1) = false := by decide +kernel
theorem test_wf_group : Instr.wf (.drvGrpCfgWrite 0 4 false) = false := by decide +kernel
theorem test_wf_power : Instr.wf (.twpPwrReqGo 8) = false := by decide +kernel
theorem test_wf_wake : Instr.wf (.wakeEvent 10 0) = false := by decide +kernel
theorem test_wf_bar2 : Instr.wf (.bar2Read (2 ^ 32) 4) = false := by decide +kernel
theorem test_wf_window : Instr.wf (.eptWinCtlWrite 0 true true true 4 12) = false := by decide +kernel
theorem test_wf_copy : Instr.wf (.copyGo true 2048) = false := by decide +kernel
theorem test_wf_pcie_link : Instr.wf (.endpointLinkUp 5 3 true true false false) = false := by decide +kernel
theorem test_wf_clock : Instr.wf (.clkFreqIdxWrite 16 0) = false := by decide +kernel
theorem test_wf_tally : Instr.wf (.talClrGo 4096 false) = false := by decide +kernel
theorem test_wf_small_bank : Instr.wf (.spbBankCtlWrite 0 4) = false := by decide +kernel
theorem test_wf_offset : Instr.wf (.registerRead .bar0 (2 ^ 26) false) = false := by decide +kernel
theorem test_wf_word : Instr.wf (.registerWrite .bar0 0 (2 ^ 32) false) = false := by decide +kernel

/-! Values from outside the model: the published check values of the two CRCs over the digits 1 to 9, and 2^7 times 2 modulo
0x11D. -/

theorem test_crc32c : crc32c [0x31, 0x32, 0x33, 0x34, 0x35, 0x36, 0x37, 0x38, 0x39] = 0xE3069283 := by decide +kernel
theorem test_crc16 : crc16 [0x31, 0x32, 0x33, 0x34, 0x35, 0x36, 0x37, 0x38, 0x39] = 0xD0DB := by decide +kernel
theorem test_gf_reduces : gfScale 2 (0x80 : BitVec 8) = 0x1D := by decide +kernel
theorem test_reset_idles : (match step State.reset with | .next t => t.now | _ => 0) = 40 := by decide +kernel
theorem test_step_takes_front :
    (match step { w0 with pending := [.faultHoldExpiry, .flr] } with | .next t => t.pending | _ => []) = [.flr] := by decide +kernel

/-! For every statement with hypotheses, a state and operands that meet them, clause by clause. -/

theorem firstFrom_all (n a : Nat) (hn : 0 < n) (p : Nat → Bool) (hp : ∀ i, p i = true) :
    firstFrom n a p = some (a % n) := by
  obtain ⟨m, rfl⟩ : ∃ m, n = m + 1 := ⟨n - 1, by omega⟩
  simp [firstFrom, List.range_succ_eq_map, hp]

/-- `wIo` with a read waiting in queue 5, engine 0 having taken its turn. -/
def wTurn : State := (wIoSq (ioC 2 5 1 [])).updEng 0 fun x => { x with turn := 5 + 1 }

theorem wTurn_berth : wTurn.pickBerth 0 = some (8192 + Config.freeNat 0 % 15872) := by
  have h0 : (fun i => (wTurn.berth (poolBase 0 + i)).state == BerthState.free) = fun _ => true := rfl
  have hf : wTurn.poolFree 0 = 15872 := by decide +kernel
  rw [State.pickBerth, show List.map (fun i => (0 + i) % 16) (List.range 16) = 0 :: (List.range 15).map (· + 1) by decide]
  rw [List.findSome?_cons, hf, h0, firstFrom_all _ _ (by decide) _ fun _ => rfl]
  rfl

theorem admits_turn : ((wTurn.admits 0 (ioC 2 5 1 [])).map Prod.fst) = some (8192 + Config.freeNat 0 % 15872) := by
  have hs : (wTurn.sluiceAdmit (wTurn.queueHost 5) (ioC 2 5 1 []).frame 1 (ioCost (ioC 2 5 1 []) 4096) 15872 0).isSome =
      true := by decide +kernel
  obtain ⟨u, hu⟩ := Option.isSome_iff_exists.mp hs
  have hn : (wTurn.mrd.ns.get (ioC 2 5 1 []).nsid).small = false := by decide +kernel
  have ht : (wTurn.eng 0).tow.length = 0 := by decide +kernel
  have hp : wTurn.poolFree 0 = 15872 := by decide +kernel
  have hk : (8192 + Config.freeNat 0 % 15872 - 8192) / 15872 = 0 := by omega
  rw [State.admits]
  simp only [Nat.zero_div, wTurn_berth, hk, hp, ht, hn, Bool.false_eq_true, if_false]
  rw [show wTurn.sluiceAdmit (wTurn.queueHost (ioC 2 5 1 []).qref) (ioC 2 5 1 []).frame (ioC 2 5 1 []).nsid
    (ioCost (ioC 2 5 1 []) 4096) 15872 0 = some u from hu]
  rfl

theorem witness_AnEmptyQueueLetsTimePass :
    (fun (s : State) => s.pending = [] ∧ s.startWaiting.isSome = true)
      (w0.updMft fun m => { m with waiting := [⟨.capList, hM, []⟩] }) ∧
    (fun (s : State) => s.pending = [] ∧ s.startWaiting = none ∧ (∀ e ∈ s.host.assoc, e.2.slot = none))
      w0 ∧
    (fun (s : State) => s.pending = [] ∧ s.startWaiting = none)
      w0 := by
  and_intros <;> decide +kernel

theorem witness_ARefusalIsCountedNamedAndAnswered :
    (fun (r : Nat × List Byte) => r.2.length = 8)
      ((1, nameOf (ascii ['L', 'E', 'A', 'S', 'E']))) ∧
    (fun (s : State) (h : Hdr) => (∃ m ∈ s.mft.running, m.opcode = 0x0701 ∧ m.hdr = h) ∧ s.mft.mboxDrop.contains
      (h.session, h.seq) = false)
      (wRun 0x0701 w0) hM ∧
    (fun (h : Hdr) (r : Nat × List Byte) (s : State) => s.pwr.stage = .freeze ∧ s.pwr.origin = some (.manifest h)
      ∧ s.pwr.waiting = [] ∧ (∃ m ∈ s.mft.running, m.opcode = 0x0701 ∧ m.hdr = h) ∧ s.mft.mboxDrop.contains
      (h.session, h.seq) = false ∧ s.refuser (s.fld Fld.TWP_PWR_STATE_TARGET) = some r ∧ r.2.length = 8)
      hM ((1, nameOf (ascii ['L', 'E', 'A', 'S', 'E']))) (wRun 0x0701 (withFld (wPwr 0 3 { (default : Pwr) with stage := .freeze, origin := some (.manifest hM) }) Fld.AQD_ROLE_ROLE 1)) := by
  and_intros <;> decide +kernel

theorem witness_ReservedBitsAndUnassignedOffsetsReadZero :
    (fun (r : RegDef) (i : Nat) => r.fields.all (fun f => decide (i < f.lo ∨ f.lo + f.w ≤ i)) = true)
      (((findReg 0x610000).getD default)) 27 ∧
    (fun (a : Nat) (b : BlockDef) (r : RegDef) (s : State) => s.serves .bar0 = true ∧ a % 4 = 0 ∧ findBlock a =
      some b ∧ findReg a = some r ∧ s.blkOff b.blk (b.inst a) = false ∧ s.mgmtOnly = false)
      0x610000 (((findBlock 0x610000).getD default)) (((findReg 0x610000).getD default)) (withFld (withFld w0 Fld.EPT_STATUS_LINK 1) Fld.TWP_RST_CAUSE_READY 1) ∧
    (fun (a : Nat) (s : State) => s.serves .bar0 = true ∧ a % 4 = 0 ∧ findReg a = none ∧ ¬(0x100 ≤ a ∧ a < 0x1000)
      ∧ ¬(0x510000 ≤ a ∧ a < 0x530000) ∧ ¬(0xA00000 ≤ a ∧ a < 0xC00000) ∧ (findBlock a).all (fun b => !s.blkOff
      b.blk (b.inst a)) = true)
      0x0F000000 (withFld w0 Fld.EPT_STATUS_LINK 1) ∧
    (fun (a : Nat) (s : State) => s.serves .bar0 = true ∧ a % 4 = 0 ∧ findReg a = none ∧ ¬(0x510000 ≤ a ∧ a <
      0x520000) ∧ (findBlock a).all (fun b => !s.blkOff b.blk (b.inst a)) = true)
      0x0F000000 (withFld w0 Fld.EPT_STATUS_LINK 1) := by
  and_intros <;> decide +kernel

theorem witness_AnEngineTakesTheHeadOrAnAgedTail :
    (fun (e : Fin 256) (b : Nat) (s : State) => s.engRuns e = true ∧ s.tailAged e = true ∧ (s.eng e).tow.getLast?
      = some b ∧ s.inflight e + (s.groupOn (s.eng e).tow b).length ≤ 1024 ∧ s.berths (fun x => x.orphan) = [])
      0 8200 (withFld { w0 with now := 1000080, brg := { w0.brg with eng := [(0, { (default : Engine) with tow := [8201, 8200] })], berth := [(8200, { (default : Berth) with state := .queued, admitTime := 39 }), (8201, { (default : Berth) with state := .queued })] } } Fld.BRG_TOW_TIME_AGE_US 1000) ∧
    (fun (e : Fin 256) (b : Nat) (s : State) => s.engRuns e = true ∧ s.tailAged e = false ∧ (s.eng e).tow.head? =
      some b ∧ s.inflight e + (s.groupOn (s.eng e).tow b).length ≤ 1024 ∧ s.berths (fun x => x.orphan) = [])
      0 8201 (withFld { w0 with now := 1000000, brg := { w0.brg with eng := [(0, { (default : Engine) with tow := [8201, 8200] })], berth := [(8200, { (default : Berth) with state := .queued }), (8201, { (default : Berth) with state := .queued })] } } Fld.BRG_TOW_TIME_AGE_US 1000) ∧
    (fun (s : State) => s.fld Fld.BRG_TOW_TIME_AGE_US = 0)
      (withFld w0 Fld.BRG_TOW_TIME_AGE_US 0) := by
  and_intros <;> decide +kernel

theorem witness_ADisabledChannelIgnoresItsManifests :
    (fun (s : State) => s.flag Fld.MFT_MBOX_STAT_BUSY = false ∧ s.manUp .mailbox = true ∧ s.chanOn .mailbox =
      false)
      (withFld w0 Fld.MFT_CHAN_CFG_MBOX_EN 0) ∧
    (fun (inband : Bool) (port : Nat) (s : State) => port < 128 ∧ s.manUp (if inband then .inband else .mgmtPort)
      = true ∧ s.chanOn (if inband then .inband else .mgmtPort) = false)
      true 127 (withFld (withFld w0 Fld.MFT_CHAN_CFG_INBAND_EN 0) Fld.MFT_CHAN_CFG_MGMT_EN 0) ∧
    (fun (h : Hdr) (s : State) => s.manUp h.chan = true ∧ s.chanOn h.chan = false)
      { hM with chan := .mgmtPort } (withFld w0 Fld.MFT_CHAN_CFG_MGMT_EN 0) := by
  and_intros <;> decide +kernel

theorem witness_ParityIsAFieldOfBytes :
    (fun (n : Nat) (k : Nat) => k < n)
      2 1 := by
  decide +kernel

theorem witness_LostDataUnitsAreRecovered :
    (fun (n : Nat) (ds : List (BitVec (8 * n))) (p : Nat) (lost : List Nat) (lostP : List Nat) => ds.length ≤ 32 ∧
      p ≤ 3 ∧ lost.Nodup ∧ lostP.Nodup ∧ (∀ i ∈ lost, i < ds.length) ∧ (∀ o ∈ lostP, o < p) ∧ lost.length +
      lostP.length ≤ p)
      1 [5, 6, 7] 3 [0, 2] [0] := by
  decide +kernel

theorem witness_FieldsActAsTheirAccessTypesSay :
    (fun (r : RegDef) (f : FieldDef) => r.apart = true ∧ f ∈ r.fields)
      (((findReg 0x610000).getD default)) (((((findReg 0x610000).getD default).fields).headD default)) ∧
    (fun (r : RegDef) (f : FieldDef) => r.apart = true ∧ f ∈ r.fields)
      (((findReg 0x610000).getD default)) (((((findReg 0x610000).getD default).fields).headD default)) := by
  and_intros <;> decide +kernel

theorem witness_ArrayManifestsTakeEffect :
    (fun (h : Hdr) (a : Nat) (m : Mode) (bays : List Nat) (unit : Nat) (d : Bool) (pool : Nat) (s : State) =>
      s.takes h 0x0301 ((.array, a) :: bays.map fun b => (.bay, b)) = true ∧ a < 16 ∧ (s.mrd.arr.get a).state =
      .none ∧ bays ≠ [] ∧ bays.Nodup ∧ (∀ b ∈ bays, b < 48) ∧ (∀ b ∈ bays, s.bayArray b = none ∧ s.bayPool b =
      none ∧ s.driveReady b = true ∧ s.driveFits b (bays.head?.map fun b => (s.drives.get b).id.meta64) = true) ∧
      m.allowed bays.length d = true ∧ unit ≤ 4 ∧ (pool < 4 ∨ pool = 7) ∧ stripesOf ((bays.map fun b =>
      (s.drives.get b).id.capacity).min?.getD 0) (4 * 2 ^ unit) ≠ 0)
      hM 3 .p [0, 3, 6] 2 false 7 (withDrives w0 [0, 3, 6]) ∧
    (fun (h : Hdr) (a : Nat) (s : State) => s.takes h 0x0302 [(.array, a)] = true ∧ a < 16 ∧ (s.mrd.arr.get
      a).state ≠ .none ∧ (s.mrd.ns.any fun e => e.2.present && e.2.array == a) = false)
      hM 3 wArr ∧
    (fun (h : Hdr) (a : Nat) (s : State) => s.takes h 0x0303 [(.array, a)] = true ∧ a < 16 ∧ (s.mrd.arr.get
      a).state ≠ .none)
      hM 3 wArr ∧
    (fun (h : Hdr) (p : Nat) (bays : Nat) (s : State) => s.takes h 0x0304 ((bitSet 48 bays).map fun b => (.bay,
      b)) = true ∧ p < 4 ∧ bays < 2 ^ 48 ∧ bays ≠ 0 ∧ (∀ b ∈ bitSet 48 bays, s.bayArray b = none ∧ (s.bayPool b =
      none ∨ s.bayPool b = some p)) ∧ (∀ e ∈ s.mrd.arr, e.2.state ≠ .degraded ∧ e.2.state ≠ .rebuilding) ∧
      s.imageRoom 1 = true)
      hM 1 (2 ^ 40 + 2 ^ 5) (withDrives w0 [5]) ∧
    (fun (h : Hdr) (a : Nat) (role : Nat) (force : Bool) (s : State) => s.takes h 0x0305 [(.array, a)] = true ∧ a
      < 16 ∧ role < (s.mrd.arr.get a).n ∧ ((s.mrd.arr.get a).role role).state = .online ∧ (s.mrd.arr.get
      a).serving = true ∧ (force = true ∨ (s.mrd.arr.get a).fatal role = false) ∧ s.imageRoom 3 = true)
      hM 3 2 false wArr ∧
    (fun (h : Hdr) (a : Nat) (role : Nat) (bay : Nat) (s : State) => s.takes h 0x0306 [(.array, a), (.bay, bay)] =
      true ∧ a < 16 ∧ role < (s.mrd.arr.get a).n ∧ role < (s.mrd.arr.get a).roles.length ∧ bay < 48 ∧
      ((s.mrd.arr.get a).role role).state = .missing ∧ (s.mrd.arr.get a).serving = true ∧ (((s.mrd.arr.get a).role
      role).bay = some bay ∨ (s.bayArray bay = none ∧ s.bayPool bay = none)) ∧ s.driveReady bay = true ∧
      s.driveFits bay (some (s.mrd.arr.get a).meta64) = true ∧ s.imageRoom 1 = true ∧ dataBase + (s.mrd.arr.get
      a).stripes * (s.mrd.arr.get a).u ≤ (s.drives.get bay).id.capacity)
      hM 3 2 47 (withArr (withDrives w0 [0, 3, 47]) { wA with state := .degraded, roles := [⟨some 0, .online, .none, 0, 0⟩, ⟨some 3, .online, .none, 0, 0⟩, ⟨some 6, .missing, .none, 0, 0⟩] }) ∧
    (fun (h : Hdr) (a : Nat) (start : Option Nat) (s : State) => s.takes h 0x0307 [(.array, a)] = true ∧ a < 16 ∧
      (s.mrd.arr.get a).serving = true ∧ (∀ x, start = some x → x < (s.mrd.arr.get a).stripes) ∧ s.imageRoom 1 =
      true)
      hM 3 (some 1023) wArr ∧
    (fun (h : Hdr) (a : Nat) (s : State) => s.takes h 0x0308 [(.array, a)] = true ∧ a < 16 ∧ (s.mrd.arr.get
      a).state ≠ .none ∧ s.imageRoom 1 = true)
      hM 3 wArr ∧
    (fun (h : Hdr) (a : Nat) (s : State) => s.takes h 0x0309 [(.array, a)] = true ∧ a < 16 ∧ (s.mrd.arr.get
      a).state ≠ .none)
      hM 3 ({ wArr with ary := [(3, { (default : ArrRun) with mismatches := [9, 1] })] }) ∧
    (fun (h : Hdr) (a : Nat) (s : State) => s.takes h 0x030A [(.array, a)] = true ∧ a < 16 ∧ (s.mrd.arr.get
      a).state = .offline ∧ s.imageRoom (1 + s.mrd.ns.length + (s.mrd.ns.map fun e => extRuns e.2.ext).sum) =
      true)
      hM 3 (withArr w0 { wA with state := .offline }) := by
  and_intros <;> decide +kernel

theorem witness_ArrayOpcodesCheckTheirArray :
    (fun (h : Hdr) (a : Nat) (s : State) => s.takes h 0x0302 [(.array, a)] = true ∧ (16 ≤ a ∨ (s.mrd.arr.get
      a).state = .none))
      hM 16 w0 ∧
    (fun (h : Hdr) (a : Nat) (s : State) => s.takes h 0x0303 [(.array, a)] = true ∧ (16 ≤ a ∨ (s.mrd.arr.get
      a).state = .none))
      hM 15 w0 ∧
    (fun (h : Hdr) (a : Nat) (s : State) => s.takes h 0x0305 [(.array, a)] = true ∧ (16 ≤ a ∨ (s.mrd.arr.get
      a).state = .none))
      hM 15 w0 ∧
    (fun (h : Hdr) (a : Nat) (bay : Nat) (s : State) => s.takes h 0x0306 [(.array, a), (.bay, bay)] = true ∧ (16 ≤
      a ∨ (s.mrd.arr.get a).state = .none))
      hM 16 47 w0 ∧
    (fun (h : Hdr) (a : Nat) (s : State) => s.takes h 0x0307 [(.array, a)] = true ∧ (16 ≤ a ∨ (s.mrd.arr.get
      a).state = .none))
      hM 15 w0 ∧
    (fun (h : Hdr) (a : Nat) (s : State) => s.takes h 0x0308 [(.array, a)] = true ∧ (16 ≤ a ∨ (s.mrd.arr.get
      a).state = .none))
      hM 15 w0 ∧
    (fun (h : Hdr) (a : Nat) (s : State) => s.takes h 0x0309 [(.array, a)] = true ∧ (16 ≤ a ∨ (s.mrd.arr.get
      a).state = .none))
      hM 15 w0 ∧
    (fun (h : Hdr) (a : Nat) (s : State) => s.takes h 0x030A [(.array, a)] = true ∧ (16 ≤ a ∨ (s.mrd.arr.get
      a).state = .none))
      hM 15 w0 := by
  and_intros <;> decide +kernel

theorem witness_ArrayEventsAdvanceTheArray :
    (fun (a : Fin 16) (role : Fin 32) (s : State) => ((s.mrd.arr.get a).role role).state = .online ∧
      (s.mrd.arr.get a).serving = true)
      3 2 wArr ∧
    (fun (a : Fin 16) (s : State) => (s.mrd.arr.get a).state = .creating ∧ (∀ b ∈ (s.mrd.arr.get
      a).roles.filterMap (fun (r : Role) => r.bay), s.driveFits b (some (s.mrd.arr.get a).meta64) = true))
      3 (withArr (withDrives w0 [0, 3, 6]) { wA with state := .creating }) ∧
    (fun (a : Fin 16) (s : State) => (s.mrd.arr.get a).state = .rebuilding ∧ s.flag (Fld.ARY_REBUILD_CFG_HOLD a) =
      false ∧ s.arrPrompt a = false ∧ ((s.ary.get a).locks.any fun l => l.1 == (s.mrd.arr.get a).cursor && l.2 !=
      .rebuild) = false ∧ (∀ off < (s.mrd.arr.get a).u, s.unreadable (s.mrd.arr.get a) (s.mrd.arr.get a).cursor
      off ((s.mrd.arr.get a).unitRoles (s.mrd.arr.get a).cursor) = [] ∧ (s.stripeData (s.mrd.arr.get a)
      (s.mrd.arr.get a).cursor off).isSome = true))
      3 (withArr (withDrives w0 [0, 3, 6, 9]) { wA with state := .rebuilding, roles := [⟨some 0, .online, .none, 0, 0⟩, ⟨some 3, .online, .none, 0, 0⟩, ⟨some 6, .rebuilding, .bay 9, 1024, 0⟩] }) ∧
    (fun (a : Fin 16) (s : State) => (s.mrd.arr.get a).state = .optimal ∧ s.flag (Fld.ARY_SCRUB_CFG_EN a) = true ∧
      (s.ary.get a).scrubbing = false)
      3 (withFld wArr (Fld.ARY_SCRUB_CFG_EN 3) 1) ∧
    (fun (a : Fin 16) (s : State) => (s.mrd.arr.get a).state = .optimal ∧ s.flag (Fld.ARY_SCRUB_CFG_EN a) = true ∧
      (s.ary.get a).scrubbing = true ∧ s.fld Fld.TWP_PWR_STATE_CUR < 2 ∧ ((s.ary.get a).locks.any fun l => l.1 ==
      (s.mrd.arr.get a).scrubPos && l.2 != .scrub) = false ∧ (s.mrd.arr.get a).beyond (s.mrd.arr.get a).scrubPos
      [] = false ∧ (∀ off < (s.mrd.arr.get a).u, s.unreadable (s.mrd.arr.get a) (s.mrd.arr.get a).scrubPos off
      ((s.mrd.arr.get a).unitRoles (s.mrd.arr.get a).scrubPos) = [] ∧ (s.stripeData (s.mrd.arr.get a)
      (s.mrd.arr.get a).scrubPos off).isSome = true))
      3 (withFld { withArr (withDrives w0 [0, 3, 6]) wA with ary := [(3, { (default : ArrRun) with scrubbing := true })] } (Fld.ARY_SCRUB_CFG_EN 3) 1) ∧
    (fun (a : Fin 16) (role : Fin 32) (s : State) => ((s.mrd.arr.get a).role role).rem < 2 ^ 64)
      3 2 (withArr w0 { wA with state := .rebuilding, roles := [⟨some 0, .online, .none, 0, 0⟩, ⟨some 3, .online, .none, 0, 0⟩, ⟨some 6, .rebuilding, .bay 9, 2 ^ 40, 0⟩] }) ∧
    (fun (a : Fin 16) (left : List (Fin 48 × Medium)) (s : State) => s.rst.baysUp = true ∧ s.owns = true ∧
      ((s.mrd.arr.get a).bays.all s.baySettled) = true ∧ (s.ary.get a).assembled = false ∧ (s.mrd.arr.get a).state
      = .optimal ∧ (∀ x < (s.mrd.arr.get a).n, ((s.mrd.arr.get a).role x).state = .online ∧ (((s.mrd.arr.get
      a).role x).bay.any fun b => (s.takeLeft left).labelled (s.mrd.arr.get a) a x b) = true))
      3 [] ({ withArr (withDrives w0 [0]) { wA with roles := [⟨some 0, .online, .none, 0, 0⟩], n := 1 } with rst := { w0.rst with baysUp := true }, drives := [(0, { (default : Drive) with medium := { (default : Medium) with labelB := some (wA.label 3 0) } })] }) := by
  and_intros <;> decide +kernel

theorem witness_LedgerAndDestageCommandsAdvanceThePair :
    (fun (a : Fin 16) (p : Fin 17) (s : State) => (s.mrd.arr.get a).serving = true ∧ (s.pair.pairTables.any fun e
      => e.1 == a.val) = false ∧ ((s.mrd.arr.get a).pair p).state = .two ∧ ((s.mrd.arr.get a).pair p).liveA = true
      ∧ ((s.mrd.arr.get a).pair p).liveB = true ∧ (s.pairRun a p).waiting ≠ [] ∧ (s.pairRun a p).mayIssue (s.fld
      Fld.LDG_CFG_SEG_INFLIGHT) = true ∧ (s.ringRoom a ((s.mrd.arr.get a).pair p).roleA (segBlocks ((s.pairRun a
      p).waiting.take 62))).isSome = true ∧ (s.ringRoom a ((s.mrd.arr.get a).pair p).roleB (segBlocks ((s.pairRun
      a p).waiting.take 62))).isSome = true)
      3 0 ({ wArr with ary := [(3, { (default : ArrRun) with pairs := [(0, { (default : PairRun) with waiting := [mark 4 0 1] })] })] }) ∧
    (fun (a : Fin 16) (p : Fin 17) (sseq : Nat) (copyA : Bool) (s : State) => (s.mrd.arr.get a).serving = true ∧
      (s.ary.get a).assembled = true ∧ ((s.pairRun a p).segs.any fun g => g.sseq == sseq && (if copyA then g.toA
      && !g.onA else g.toB && !g.onB)) = true)
      3 0 1 true ({ wArr with ary := [(3, { (default : ArrRun) with assembled := true, pairs := [(0, { (default : PairRun) with segs := [⟨1, 8, 5, 0, [mark 4 0 1], true, true, false, false, 7, 9, false, 0, 0⟩] })] })] }) ∧
    (fun (a : Fin 16) (stripe : Nat) (s : State) => ((s.ary.get a).gather.get stripe).slots ≠ [] ∧ ((s.ary.get
      a).gather.get stripe).due = none ∧ s.fld Fld.LDG_GATHER_CFG_AGE_MS * 1000000 ≤ s.now - ((s.ary.get
      a).gather.get stripe).since)
      15 8 ({ withFld w0 Fld.LDG_GATHER_CFG_AGE_MS 1 with now := 1000000, ary := [(15, { (default : ArrRun) with gather := [(8, { (default : GatherStripe) with slots := [⟨0, 1, 0, 0, false, 0, 1⟩] })] })] }) ∧
    (fun (a : Fin 16) (stripe : Nat) (s : State) => (s.mrd.arr.get a).serving = true ∧ ((s.ary.get a).gather.get
      stripe).due.isSome = true ∧ ((s.ary.get a).gather.get stripe).running = [] ∧ ((s.ary.get a).gather.get
      stripe).slots ≠ [] ∧ s.stripeHolder a stripe = none ∧ (((s.ary.get a).gather.get stripe).due = some .bypass
      ∨ (s.destageFirst a stripe = true ∧ s.destages a < s.fld Fld.LDG_GATHER_CFG_DESTAGE_MAX)) ∧ (s.reconRecs a
      stripe (((s.ary.get a).gather.get stripe).slots.map fun g => g.blk) (maxRn ((s.ary.get a).gather.get
      stripe).slots)).isSome = true)
      3 8 ({ wArr with ary := [(3, { (default : ArrRun) with gather := [(8, { (default : GatherStripe) with slots := [⟨0, 1, 0, 0, false, 0, 1⟩], due := some .bypass })] })] }) ∧
    (fun (a : Fin 16) (stripe : Nat) (s : State) => (s.mrd.arr.get a).serving = true ∧ ((s.ary.get a).gather.get
      stripe).at_ = .writing ∧ ((s.mrd.arr.get a).mode.mirror = true ∨ (∀ off < (s.mrd.arr.get a).u, (s.stripeData
      (s.mrd.arr.get a) stripe off).isSome = true)))
      3 8 ({ withArr (withDrives w0 [0, 3, 6]) wA with ary := [(3, { (default : ArrRun) with gather := [(8, { (default : GatherStripe) with at_ := .writing, running := [⟨0, 1, 0, 0, false, 0, 1⟩] })] })] }) ∧
    (fun (a : Fin 16) (p : Fin 17) (s : State) => (s.mrd.arr.get a).serving = true ∧ ((s.mrd.arr.get a).pair
      p).state = .repairing ∧ (∀ g ∈ (s.pairRun a p).segs, g.durable = true ∧ (if ((s.mrd.arr.get a).pair p).liveA
      then g.onB else g.onA) = true))
      3 0 (withArr w0 { wA with pairs := [⟨0, 1, .repairing, false, false, true⟩] }) ∧
    (fun (a : Fin 16) (s : State) => (s.ary.get a).replaying = true ∧ (s.mrd.arr.get a).serving = true ∧ (∀ x <
      (s.mrd.arr.get a).n, ((s.mrd.arr.get a).pairs.any fun q => q.holds x) = true → (s.ringOf a x).isSome =
      true))
      3 ({ withArr (withDrives w0 [0, 3, 6]) wA with ary := [(3, { (default : ArrRun) with replaying := true })], drives := [(0, { (default : Drive) with medium := { (default : Medium) with hdr0 := some ⟨3, 0, [], 1, 5, 0, 2 ^ 40, []⟩ } }), (3, { (default : Drive) with medium := { (default : Medium) with hdr1 := some ⟨3, 1, [], 2, 5, 0, 2 ^ 41, []⟩ } })] }) := by
  and_intros <;> decide +kernel

theorem witness_ReadAndCheckCommandsComplete :
    (fun (c : IoCmd) (s : State) => s.ioTaken { c with opcode := 2 } = true ∧ (s.mrd.ns.get c.nsid).plain = true ∧
      (∀ i < c.nlb, s.gatheredOk (s.mrd.ns.get c.nsid) (c.slba + i) = true))
      (ioC 2 5 1 []) wIo ∧
    (fun (c : IoCmd) (s : State) => s.ioTaken { c with opcode := 0 } = true)
      (ioC 0 0 0 []) wIo ∧
    (fun (c : IoCmd) (s : State) => s.ioTaken { c with opcode := 5 } = true ∧ (s.mrd.ns.get c.nsid).plain = true ∧
      (∀ i < c.nlb, s.gatheredOk (s.mrd.ns.get c.nsid) (c.slba + i) = true))
      (ioC 5 5 1 [{ (default : Sector) with data := 77 }]) wIo ∧
    (fun (c : IoCmd) (s : State) => s.ioTaken { c with opcode := 0x0C } = true ∧ (s.mrd.ns.get c.nsid).plain =
      true ∧ (∀ i < c.nlb, s.gatheredOk (s.mrd.ns.get c.nsid) (c.slba + i) = true) ∧ (∀ i < c.nlb, s.parityOk
      (s.mrd.arr.get (s.mrd.ns.get c.nsid).array) ((s.mrd.arr.get (s.mrd.ns.get c.nsid).array).place
      ((s.mrd.arr.get (s.mrd.ns.get c.nsid).array).mapped (s.mrd.ns.get c.nsid).ext (c.slba + i))).1
      ((s.mrd.arr.get (s.mrd.ns.get c.nsid).array).place ((s.mrd.arr.get (s.mrd.ns.get c.nsid).array).mapped
      (s.mrd.ns.get c.nsid).ext (c.slba + i))).2.2 = true) ∧ (s.cmdOps (s.mrd.ns.get c.nsid) 0
      { c with opcode := 0x0C }).all (fun o => s.bayTakes o.bay && !(s.media o.bay o.blk).bad) = true)
      (ioC 0x0C 5 1 []) wIo ∧
    (fun (q : Nat) (cid : Nat) (op : Nat) (s : State) => s.ioAdmits
      { (default : IoCmd) with qref := q, cid := cid, opcode := op } = true ∧ ioSupported op = false)
      5 9 0xFF wIo ∧
    (fun (q : Nat) (k : Nat) (cid : Nat) (op : Nat) (s : State) => s.adminTaken
      { (default : AdminCmd) with qref := q, cid := cid, opcode := op } k = true ∧ adminSupported op = false ∧
      (s.host.queue.get q).qid = 0 ∧ (s.host.queue.get q).live = true)
      4 1 9 0x19 wIo := by
  and_intros <;> decide +kernel

theorem witness_WriteCommandsReachTheLedger :
    (fun (c : IoCmd) (s : State) => s.ioTaken { c with opcode := 1 } = true ∧ (s.mrd.ns.get c.nsid).plain = true ∧
      c.nlb = 1 ∧ s.ledgerRoom (s.mrd.ns.get c.nsid) c.slba = true)
      (ioC 1 8191 1 [{ (default : Sector) with data := 5 }]) wIo ∧
    (fun (c : IoCmd) (s : State) => s.ioTaken { c with opcode := 8 } = true ∧ (s.mrd.ns.get c.nsid).plain = true ∧
      c.nlb = 1 ∧ s.ledgerRoom (s.mrd.ns.get c.nsid) c.slba = true)
      (ioC 8 0 1 []) wIo ∧
    (fun (c : IoCmd) (b : Nat) (s : State) => s.ioTaken { c with opcode := 9 } = true ∧ (s.mrd.ns.get
      c.nsid).plain = true ∧ c.deac = true ∧ c.ranges = [(b, 1)] ∧ s.ledgerRoom (s.mrd.ns.get c.nsid) b = true)
      { ioC 9 0 0 [] with deac := true, ranges := [(5, 1)] } 5 wIo ∧
    (fun (c : IoCmd) (s : State) => s.ioTaken { c with opcode := 9 } = true ∧ c.deac = false)
      { ioC 9 0 0 [] with ranges := [(5, 1)] } wIo ∧
    (fun (a : IoCmd) (b : IoCmd) (s : State) => s.quiet = true ∧ s.queueOpen a = true ∧ s.queueOpen b = true ∧
      s.unmetered a = true ∧ s.unmetered b = true ∧ (s.claim a).isNone = true ∧ 2 ≤ (s.host.queue.get
      a.qref).sqsize ∧ (s.ioCheck (s.capsuleOf { a with fuse := 1 })).isNone = true ∧ (s.ioCheck (s.capsuleOf
      { b with fuse := 2 })).isNone = true ∧ a.opcode = 5 ∧ b.opcode = 1 ∧ b.qref = a.qref ∧ b.cid ≠ a.cid ∧
      b.nsid = a.nsid ∧ (s.mrd.ns.get a.nsid).plain = true ∧ a.nlb = 1 ∧ b.nlb = 1 ∧ s.gatheredOk (s.mrd.ns.get
      a.nsid) a.slba = true ∧ (s.gathered (s.mrd.ns.get a.nsid) a.slba).map (fun g => g.data) = (a.data.head?.map
      fun x => x.data) ∧ a.data.length = 1 ∧ s.ledgerRoom (s.mrd.ns.get b.nsid) b.slba = true)
      (ioC 5 5 1 [{ (default : Sector) with data := 77 }]) ({ ioC 1 5 1 [{ (default : Sector) with data := 78 }] with cid := 3 }) wIo := by
  and_intros <;> decide +kernel

theorem witness_ReservationCommandsChangeTheReservation :
    (fun (c : IoCmd) (s : State) => s.ioTaken { c with opcode := 0x0D } = true ∧ c.resv.action = 0 ∧ (s.mrd.ns.get
      c.nsid).resv.registered (s.queueHost c.qref) = false)
      ({ ioC 0x0D 0 0 [] with resv := { (default : Resv) with nrkey := 99 } }) wIo ∧
    (fun (c : IoCmd) (s : State) => s.ioTaken { c with opcode := 0x0E } = true)
      (ioC 0x0E 0 0 []) wIo ∧
    (fun (c : IoCmd) (s : State) => s.ioTaken { c with opcode := 0x11 } = true ∧ c.resv.action = 0 ∧ 1 ≤
      c.resv.rtype ∧ c.resv.rtype ≤ 6 ∧ ((s.mrd.ns.get c.nsid).resv.regs.find? fun e => e.1 == s.queueHost c.qref)
      = some (s.queueHost c.qref, c.resv.crkey) ∧ (s.mrd.ns.get c.nsid).resv.rtype = 0)
      ({ ioC 0x11 0 0 [] with resv := { (default : Resv) with crkey := 99, rtype := 6 } }) ({ wIo with mrd := { wIo.mrd with ns := wIo.mrd.ns.upd 1 fun n => { n with resv := { (default : ResvState) with regs := [(7, 99)] } } } }) ∧
    (fun (c : IoCmd) (s : State) => s.ioTaken { c with opcode := 0x15 } = true ∧ c.resv.action = 0 ∧ c.resv.rtype
      = (s.mrd.ns.get c.nsid).resv.rtype ∧ c.resv.rtype ≠ 0 ∧ ((s.mrd.ns.get c.nsid).resv.regs.find? fun e => e.1
      == s.queueHost c.qref) = some (s.queueHost c.qref, c.resv.crkey) ∧ (s.mrd.ns.get c.nsid).resv.holds
      (s.queueHost c.qref) = true)
      ({ ioC 0x15 0 0 [] with resv := { (default : Resv) with crkey := 99, rtype := 3 } }) ({ wIo with mrd := { wIo.mrd with ns := wIo.mrd.ns.upd 1 fun n => { n with resv := { (default : ResvState) with regs := [(7, 99)], holder := some 7, rtype := 3 } } } }) := by
  and_intros <;> decide +kernel

theorem witness_AdmissionAndTowingMoveCommands :
    (fun (c : IoCmd) (s : State) => (s.host.queue.get c.qref).live = true ∧ (s.host.queue.get c.qref).qid ≠ 0 ∧
      (s.host.queue.get c.qref).authOk = true ∧ (s.host.queue.get c.qref).disconnect = none ∧ (s.host.queue.get
      c.qref).sq.length + (s.host.queue.get c.qref).cids.length ≤ (s.host.queue.get c.qref).sqsize ∧
      ((s.host.queue.get c.qref).home = none ∨ (((s.host.queue.get c.qref).sq ++ [c]).head?.all fun x => x.fuse ==
      0) = true))
      (ioC 2 5 1 []) wIo ∧
    (fun (c : IoCmd) (d : IoCmd) (e : Nat) (s : State) => (s.host.queue.get c.qref).live = true ∧
      (s.host.queue.get c.qref).qid ≠ 0 ∧ (s.host.queue.get c.qref).authOk = true ∧ (s.host.queue.get
      c.qref).disconnect = none ∧ 1 + (s.host.queue.get c.qref).cids.length ≤ (s.host.queue.get c.qref).sqsize ∧
      (s.host.queue.get c.qref).sq = [d] ∧ d.fuse = 1 ∧ c.fuse ≠ 2 ∧ (s.host.queue.get c.qref).home = some e ∧
      s.engOpen e = true ∧ (s.eng e).tow.length + (s.eng e).transit.length < 64 ∧ s.ioHeld d = false ∧ (s.admits e
      d).isSome = true)
      (ioC 2 5 1 []) { ioC 5 5 1 [] with cid := 9, fuse := 1 } 0 (wIoSq { ioC 5 5 1 [] with cid := 9, fuse := 1 }) ∧
    (fun (e : Fin 256) (v : Nat) (s : State) => s.engOpen e = true ∧ (s.eng e).transit = [] ∧ s.engIdle e = true ∧
      s.flag (Fld.BRG_TOW_CTL_TOW_EN e) = true ∧ s.inflight e < 1024 ∧ (s.updEng e fun x =>
      { x with idleSince := some (x.idleSince.getD s.now) }).pickVictim (e / 16) e = some v ∧ (s.eng v).state =
      .run ∧ v ≠ e ∧ (∀ x ∈ (s.eng v).tow, (s.berth x).token = 0))
      0 15 ({ w0 with brg := { w0.brg with eng := [(15, { (default : Engine) with tow := [8200, 8201, 8202, 8203, 8204, 8205, 8206, 8207, 8208] })] } }) ∧
    (fun (e : Fin 256) (b : Nat) (l : List Nat) (s : State) => (s.eng e).transit = b :: l ∧ s.engRuns e = true ∧
      s.inflight e < 1024)
      255 8200 [8201] ({ w0 with brg := { w0.brg with eng := [(255, { (default : Engine) with transit := [8200, 8201] })], berth := [(8200, { (default : Berth) with state := .queued }), (8201, { (default : Berth) with state := .queued })] } }) ∧
    (fun (e : Fin 256) (b : Nat) (l : List Nat) (s : State) => s.engRuns e = true ∧ (s.eng e).tow = b :: l ∧ s.fld
      Fld.BRG_TOW_TIME_AGE_US = 0 ∧ (s.berth b).token = 0 ∧ s.inflight e < 1024 ∧ (s.berths fun x => x.orphan &&
      x.state != .free) = [])
      0 8200 [8201] (withFld { w0 with brg := { w0.brg with eng := [(0, { (default : Engine) with tow := [8200, 8201] })], berth := [(8200, { (default : Berth) with state := .queued }), (8201, { (default : Berth) with state := .queued })] } } Fld.BRG_TOW_TIME_AGE_US 0) ∧
    (fun (b : Fin 262144) (s : State) => (s.berth b).state = .run ∧ (s.berth b).orphan = false ∧ (s.berth b).admin
      = false ∧ s.engRuns (s.berth b).owner = true ∧ (s.berth b).failed = false ∧ (s.berth b).checkpoint ≤ 1 ∧
      (s.berth b).fusedFirst = false ∧ (s.berth b).fusedSecond = false ∧ (s.berth b).cmd.commit = none ∧ s.ioCheck
      (s.berth b).cmd = none ∧ ((s.berth b).ops.all fun o => o.heldBack.isNone) = true ∧ (s.berth b).heldData =
      none)
      8200 ({ wIo with brg := { wIo.brg with berth := [(8200, { (default : Berth) with state := .run, checkpoint := 1, cmd := ioC 2 5 1 [] })] } }) ∧
    (fun (b : Fin 262144) (p : ReadPkt) (s : State) => (s.berth b).state = .wait ∧ (s.berth b).waits = .data ∧
      (s.berth b).fetched = false ∧ (s.berth b).orphan = false ∧ (s.berth b).heldData = none ∧ (s.berth b).pieces
      = [] ∧ isTcp (s.berth b).cmd.qref = false ∧ p.idx = 0 ∧ p.ce = false ∧ p.payload.length = (s.berth
      b).cmd.nlb * blkBytes (s.berth b).cmd (s.berth b).ns)
      262143 ⟨0, List.replicate 512 7, false, 0⟩ ({ w0 with brg := { w0.brg with berth := [(262143, { (default : Berth) with state := .wait, waits := .data, checkpoint := 3, cmd := { ioC 1 0 1 [] with qref := 9 }, ns := { (default : Namespace) with lbaf := 1 } })] } }) ∧
    (fun (b : Fin 262144) (p : ReadPkt) (s : State) => (s.berth b).state = .wait ∧ (s.berth b).fetched = false ∧
      (s.berth b).heldData = none ∧ (s.berth b).pieces = [] ∧ isTcp (s.berth b).cmd.qref = false ∧ p.ce = false ∧
      p.payload.length < (s.berth b).cmd.nlb * blkBytes (s.berth b).cmd (s.berth b).ns)
      262143 ⟨1, [1, 2], false, 0⟩ ({ w0 with brg := { w0.brg with berth := [(262143, { (default : Berth) with state := .wait, waits := .data, checkpoint := 3, cmd := { ioC 1 0 1 [] with qref := 9 } })] } }) ∧
    (fun (b : Fin 262144) (s : State) => (s.berth b).state = .done ∧ (s.berth b).posted = false ∧ ((s.berth
      b).ops.all fun o => o.finished) = true ∧ (s.berth b).cmd.commit = none ∧ (s.host.queue.get (s.berth
      b).cmd.qref).live = true ∧ (s.host.queue.get (s.berth b).cmd.qref).cntlid = (s.berth b).cntlid ∧
      (s.host.queue.get (s.berth b).cmd.qref).disconnect = none)
      8200 ({ wIo with brg := { wIo.brg with berth := [(8200, { (default : Berth) with state := .done, cntlid := 1, cmd := ioC 2 5 1 [], sqhd := 3 })] } }) := by
  and_intros <;> decide +kernel

theorem witness_AdmissionAndTowingMoveCommands_1 :
    ∃ (e : Fin 256) (q : Nat) (b : Nat) (c : IoCmd) (s : State), s.engOpen e = true ∧ s.nextQueue e = some q ∧
      (s.eng e).tow.length + (s.eng e).transit.length < 64 ∧ (s.host.queue.get q).commits = [] ∧ (s.host.queue.get
      q).sq = [c] ∧ c.qref = q ∧ c.fuse = 0 ∧ c.commit = none ∧ s.ioHeld c = false ∧ c.cid ∉ (s.host.queue.get
      q).cids ∧ c.cid ∉ (s.host.queue.get q).aborted ∧ s.claim c = none ∧ ((s.updEng e fun x =>
      { x with turn := q + 1 }).admits e c |>.map Prod.fst) = some b :=
  ⟨0, 5, 8192 + Config.freeNat 0 % 15872, ioC 2 5 1 [], wIoSq (ioC 2 5 1 []), by refine ⟨?_, ?_, ?_, ?_, ?_, ?_, ?_, ?_, ?_, ?_, ?_, ?_, admits_turn⟩ <;> decide +kernel⟩

theorem witness_EngineFaultsBanksAndSnapshots :
    (fun (e : Fin 256) (cause : Fin 4) (s : State) => cause ≠ 3 ∧ s.fenceable e = true ∧ ((List.range 256).any fun
      x => x != e.val && s.engRuns x) = true)
      255 2 w0 ∧
    (fun (e : Fin 256) (s : State) => s.fld (Fld.BRG_BANK_STAT_CE e) < 2 ^ (Fld.BRG_BANK_STAT_CE e).w - 1)
      255 w0 ∧
    (fun (e : Fin 256) (s : State) => s.engRuns e = true ∧ (s.berths fun b => b.flies e && b.state == .run) ≠ [] ∧
      ((List.range 256).any fun x => x != e.val && s.engRuns x) = true)
      0 ({ w0 with brg := { w0.brg with berth := [(8200, { (default : Berth) with state := .run, owner := 0 })] } }) ∧
    (fun (h : Hdr) (basin : Nat) (s : State) => s.takes h 0x0A01 [(.device, basin)] = true ∧ basin < 16 ∧
      (s.brg.resets.any fun r => r.basin == basin) = false ∧ ((List.range 256).any fun x => x / 16 != basin &&
      s.engRuns x) = true)
      hM 15 w0 ∧
    (fun (b : Fin 16) (r : BasinReset) (s : State) => s.brg.resets = [r] ∧ r.basin = b.val ∧ s.basinClear b = true
      ∧ (∀ i ∈ List.range 16, (s.eng (16 * b.val + i)).state = .fenced ∨ (s.eng (16 * b.val + i)).state =
      .resetting))
      1 ⟨1, 0, hM⟩ ({ w0 with brg := { w0.brg with resets := [⟨1, 0, hM⟩], eng := (List.range 16).map fun i => (16 + i, { (default : Engine) with state := .resetting }) } }) ∧
    (fun (e : Fin 256) (req : Nat) (s : State) => (req = 1 ∨ req = 2) ∧ s.engRuns e = false)
      7 2 ({ w0 with brg := { w0.brg with eng := [(7, { (default : Engine) with state := .fenced, bank := [(1, 1)] })] } }) ∧
    (fun (e : Fin 256) (s : State) => s.fld (Fld.BRG_BANK_CTL_REQ e) = 0 ∧ (s.eng e).state ≠ .parked ∧ (s.eng
      e).state ≠ .off)
      7 (withFld { w0 with brg := { w0.brg with eng := [(7, { (default : Engine) with state := .fenced })] } } (Fld.BRG_BANK_STAT_STATE 7) 2) ∧
    (fun (berth : Nat) => berth < 2 ^ 18)
      262143 ∧
    (fun (b : Nat) (s : State) => s.brg.snap = some b)
      8200 ({ w0 with brg := { w0.brg with snap := some 8200, berth := [(8200, { (default : Berth) with state := .held })] } }) ∧
    (fun (b : Fin 16) (s : State) => s.pwr.basinReturning = some b.val ∧ s.pwr.basinHeld = false ∧ (∀ i ∈
      List.range 16, (s.eng (16 * b.val + i)).state = .parked))
      15 ({ w0 with pwr := { w0.pwr with basinReturning := some 15 }, brg := { w0.brg with eng := (List.range 16).map fun i => (240 + i, { (default : Engine) with state := .parked }) } }) := by
  and_intros <;> decide +kernel

theorem witness_ConnectAndQueueEndsChangeAssociations :
    (fun (q : Nat) (nqn : Nat) (sub : Nat) (sqsize : Nat) (cattr : Nat) (hn : Nat) (un : Nat) (s : State) => q <
      65536 ∧ (s.qp q).state = .rts ∧ (s.host.queue.get q).live = false ∧ s.isStandby = false ∧ s.pair.tko = none
      ∧ s.hostOf nqn = some hn ∧ s.subsysOf sub = some un ∧ sub ≠ discoveryNqn ∧ s.listed (s.srcOf q).2 = true ∧
      un ∈ (s.mrd.hosts.get hn).p.reach ∧ 1 ≤ sqsize ∧ sqsize ≤ 31 ∧ cattr.testBit 2 = false ∧ (s.assocs fun _ =>
      true).length < 8192 ∧ (s.assocs fun a => a.host == hn).length < (s.mrd.hosts.get hn).p.maxAssoc ∧
      (s.homeEngine 0).isSome = true ∧ ((List.range 8192).any fun i => decide (s.host.assoc.get (i + 1) =
      default)) = true)
      9 50 60 31 0 7 2 wHost ∧
    (fun (q : Nat) (cid : Nat) (k : Nat) (s : State) => s.adminOf q = some k ∧ cid ∉ (s.host.queue.get q).cids ∧
      (s.host.queue.get q).cids.length ≤ (s.host.queue.get q).sqsize)
      4 1 1 wIo ∧
    (fun (q : Nat) (cid : Nat) (k : Nat) (v : Nat) (s : State) => s.adminOf q = some k ∧ cid ∉ (s.host.queue.get
      q).cids ∧ (s.host.queue.get q).cids.length ≤ (s.host.queue.get q).sqsize ∧ (v.testBit 0 = true ∨
      (s.host.assoc.get k).ready = false))
      4 1 1 0x460001 wIo ∧
    (fun (q : Nat) (s : State) => (s.host.queue.get q).live = true ∧ (s.host.queue.get q).qid ≠ 0 ∧ (s.berths fun
      b => b.cmd.qref == q && b.state != .free) = [])
      5 wIo ∧
    (fun (q : Nat) (s : State) => (s.host.queue.get q).live = true ∧ (s.host.queue.get q).qid = 0)
      4 (wIo.updQp 4 fun x => { x with state := .rts }) ∧
    (fun (q : Nat) (hashes : List Nat) (groups : List Nat) (g : Nat) (s : State) => (s.host.queue.get q).live =
      true ∧ (s.mrd.hosts.get (s.queueHost q)).p.policy ≠ .none ∧ (s.host.queue.get q).auth.step = .idle ∧
      (s.mrd.hosts.get (s.queueHost q)).hash ∈ hashes ∧ (groups.find? fun x => [0, 1, 2, 3, 4, 5].contains x) =
      some g)
      4 [9, 0] [77, 5] 5 (wAuth default) ∧
    (fun (q : Nat) (s : State) => (s.host.queue.get q).live = true ∧ (s.mrd.hosts.get (s.queueHost q)).p.policy ≠
      .none ∧ (s.host.queue.get q).auth.step = .challenged ∧ (s.host.queue.get q).auth.hostChallenge = none)
      4 (wAuth ⟨.challenged, 0, 5, 1234, none⟩) ∧
    (fun (q : Nat) (s : State) => (s.host.queue.get q).live = true ∧ (s.mrd.hosts.get (s.queueHost q)).p.policy ≠
      .none ∧ (s.host.queue.get q).auth.step = .waitHost)
      4 (wAuth ⟨.waitHost, 0, 5, 1234, some 8⟩) ∧
    (fun (q : Nat) (s : State) => (s.host.queue.get q).live = true ∧ (s.host.queue.get q).auth.step = .challenged)
      4 (wAuth ⟨.challenged, 0, 5, 1234, none⟩) ∧
    (fun (q : Nat) (s : State) => (s.host.queue.get q).live = true ∧ (s.host.queue.get q).auth.step = .success ∧
      (s.host.queue.get q).auth.hostChallenge = none)
      4 (wAuth ⟨.success, 0, 5, 1234, none⟩) ∧
    (fun (q : Nat) (c : Nat) (s : State) => (s.host.queue.get q).live = true ∧ (s.host.queue.get q).auth.step =
      .success ∧ (s.host.queue.get q).auth.hostChallenge = some c)
      4 8 (wAuth ⟨.success, 0, 5, 1234, some 8⟩) ∧
    (fun (q : Nat) (s : State) => (s.host.queue.get q).live = true ∧ (s.host.queue.get q).authBy.isSome = true ∧
      (s.host.queue.get q).authOk = false ∧ q < 65536 ∧ (s.qp q).state = .rts)
      5 ((wIo.updQueue 5 fun x => { x with authOk := false, authBy := some 2000000000 }).updQp 5 fun x => { x with state := .rts }) ∧
    (fun (q : Nat) (cid : Nat) (k : Nat) (s : State) => s.adminOf q = some k ∧ cid ∉ (s.host.queue.get q).cids ∧
      (s.host.queue.get q).cids.length ≤ (s.host.queue.get q).sqsize)
      4 1 1 { wIo with now := 400 } ∧
    (fun (k : Nat) (s : State) => (s.host.assoc.get k).live = true ∧ (s.host.assoc.get k).katoMs ≠ 0)
      1 (wIo.updAssoc 1 fun a => { a with katoMs := 100 }) := by
  and_intros <;> decide +kernel

theorem witness_ConnectAndQueueEndsChangeAssociations_1 :
    ∃ (q : Nat) (w : Nat) (s : State), (s.host.queue.get q).live = true ∧ (s.mrd.hosts.get (s.queueHost
      q)).p.policy ≠ .none ∧ (s.host.queue.get q).auth.step = .challenged ∧ w ≠ Config.chapResponse
      (s.mrd.hosts.get (s.queueHost q)).hostSecret (s.host.queue.get q).auth.hash (s.host.queue.get q).auth.group
      (s.host.queue.get q).auth.challenge ∧ q < 65536 ∧ (s.qp q).state = .rts :=
  ⟨4, Config.chapResponse 0 0 5 1234 + 1, (wAuth ⟨.challenged, 0, 5, 1234, none⟩).updQp 4 fun x => { x with state := .rts }, by and_intros <;> first | decide +kernel | exact Nat.succ_ne_self _⟩

theorem witness_AdminCommandsCompleteOrWait :
    (fun (c : AdminCmd) (k : Nat) (s : State) => s.adminTaken c k = true ∧ bitsOf c.cdw10 0 8 = 0 ∧ s.sees
      (s.host.assoc.get k) c.nsid = true)
      { wAdm with nsid := 1 } 1 wIo ∧
    (fun (c : AdminCmd) (k : Nat) (s : State) => s.adminTaken c k = true ∧ bitsOf c.cdw10 0 8 = 3 ∧
      (s.host.assoc.get k).discovery = false)
      { wAdm with cdw10 := 3 } 1 wIo ∧
    (fun (c : AdminCmd) (k : Nat) (s : State) => s.adminTaken c k = true ∧ bitsOf c.cdw10 0 8 = 0x0B)
      { wAdm with cdw10 := 0x0B, cdw11 := 0x100 } 1 wIo ∧
    (fun (c : AdminCmd) (k : Nat) (s : State) => s.adminTaken c k = true ∧ bitsOf c.cdw10 0 8 = 0x0B ∧ bitsOf
      c.cdw10 8 3 = 0)
      { wAdm with cdw10 := 0x0B } 1 wIo ∧
    (fun (c : AdminCmd) (k : Nat) (q : Nat) (s : State) => s.adminTaken c k = true ∧ bitsOf c.cdw10 0 16 ≠ 0 ∧ q ≠
      c.qref ∧ ((s.queuesOf k).find? fun x => (s.host.queue.get x).qid == bitsOf c.cdw10 0 16) = some q ∧
      ((s.host.queue.get q).sq.any fun x => x.cid == bitsOf c.cdw10 16 16) = true)
      { wAdm with cdw10 := 0x20001 } 1 5 (wIoSq (ioC 2 5 1 [])) ∧
    (fun (c : AdminCmd) (k : Nat) (s : State) => s.adminTaken c k = true ∧ s.sees (s.host.assoc.get k) c.nsid =
      true ∧ bitsOf c.cdw10 9 3 ≤ 1 ∧ bitsOf c.cdw10 5 3 = 0 ∧ bitsOf c.cdw10 0 4 = 0 ∧ 0 ∈ (s.mrd.ns.get
      c.nsid).lbafs ∧ (s.mrd.ns.get c.nsid).writeProtect = false ∧ (s.mrd.arr.get (s.mrd.ns.get
      c.nsid).array).state ≠ .offline ∧ (s.mrd.arr.get (s.mrd.ns.get c.nsid).array).state ≠ .salvaged ∧
      (s.mrd.ns.get c.nsid).cipher = .none ∧ (s.mrd.ns.get c.nsid).resv.conflict (s.host.assoc.get k).host 0x80 =
      false)
      { wAdm with nsid := 1, cdw10 := 0 } 1 wIo ∧
    (fun (q : Nat) (cid : Nat) (k : Nat) (s : State) => s.adminOf q = some k ∧ cid ∉ (s.host.queue.get q).cids ∧
      (s.host.queue.get q).cids.length ≤ (s.host.queue.get q).sqsize ∧ (s.host.assoc.get k).aers.length < 16)
      4 1 1 wIo ∧
    (fun (kelvin : Nat) (s : State) => (∀ k ∈ s.assocs fun a => !a.discovery, (s.host.assoc.get k).tempUnder <
      kelvin ∧ kelvin < (s.host.assoc.get k).tempOver))
      300 (wIo.updAssoc 1 fun a => { a with tempOver := 301, aec := 0xFF }) := by
  and_intros <;> decide +kernel

theorem witness_PacketsOfReliableConnectionsArePlaced :
    (fun (p : Packet) (i : Nat) (s : State) => s.nextOn p i = true ∧ p.op = .send ∧ p.imm = none ∧ p.capsule =
      none ∧ p.payload = [])
      (wPkt .send) 9 wRts ∧
    (fun (p : Packet) (i : Nat) (s : State) => s.nextOn p i = true ∧ p.op = .write ∧ p.len ≠ 0 ∧ p.imm = none ∧
      p.payload.length ≤ p.len ∧ s.winOk i p.rkey p.va p.len .write = true ∧ (s.win (p.rkey % 4096)).kind = .data)
      { wPkt .write with rkey := 0x1005, va := 64, len := 2, payload := [7, 8] } 9 wRts ∧
    (fun (p : Packet) (i : Nat) (s : State) => s.nextOn p i = true ∧ p.op = .read ∧ s.winOk i p.rkey p.va p.len
      .read = true ∧ 0 < (s.qp i).cfg.respRes)
      { wPkt .read with rkey := 0x1005, va := 64, len := 2 } 9 wRts ∧
    (fun (p : Packet) (i : Nat) (s : State) => s.nextOn p i = true ∧ (p.op = .fetchAdd ∨ p.op = .compareSwap) ∧
      s.winOk i p.rkey p.va 8 p.op = true ∧ p.va % 8 = 0 ∧ (s.win (p.rkey % 4096)).base % 8 = 0 ∧ 0 < (s.qp
      i).cfg.respRes)
      { wPkt .compareSwap with rkey := 0x1006, va := 8, operand := 5 } 9 wRts ∧
    (fun (p : Packet) (i : Nat) (s : State) => s.nextOn p i = true ∧ p.op = .write ∧ p.len = 0 ∧ p.imm = none ∧
      p.payload = [] ∧ (s.win (p.rkey % 4096)).state ≠ .revoking)
      (wPkt .write) 9 wRts ∧
    (fun (p : Packet) (i : Nat) (v : Nat) (s : State) => s.nextOn p i = true ∧ p.op = .write ∧ p.len = 0 ∧ p.imm =
      some v ∧ p.payload = [] ∧ s.stair i v = none ∧ (s.win (p.rkey % 4096)).kind = .stairs ∧ (s.win (p.rkey %
      4096)).state = .valid ∧ (s.win (p.rkey % 4096)).gen = p.rkey / 4096 ∧ (s.win (p.rkey % 4096)).host = (s.qp
      i).host ∧ (s.win (p.rkey % 4096)).tag = bitsOf v 24 8 ∧ (s.win (p.rkey % 4096)).bind = none ∧ (s.install i
      (p.rkey % 4096) (bitsOf v 12 12 * 64)).2 = 0)
      { wPkt .write with rkey := 0x1007, imm := some 0x3A000000 } 9 0x3A000000 wRts ∧
    (fun (p : Packet) (i : Nat) (v : Nat) (nsid : Nat) (slba : Nat) (s : State) => s.nextOn p i = true ∧ p.op =
      .write ∧ p.len = 0 ∧ p.imm = some v ∧ p.payload = [] ∧ s.stair i v = none ∧ (s.win (p.rkey % 4096)).kind =
      .data ∧ (s.win (p.rkey % 4096)).state = .valid ∧ (s.win (p.rkey % 4096)).gen = p.rkey / 4096 ∧ (s.win
      (p.rkey % 4096)).host = (s.qp i).host ∧ (s.win (p.rkey % 4096)).tag = bitsOf v 24 8 ∧ (s.win (p.rkey %
      4096)).bind = some (nsid, slba) ∧ (s.win (p.rkey % 4096)).wr = true ∧ p.va < (s.win (p.rkey % 4096)).size ∧
      bitsOf v 0 12 ≠ 0 ∧ (p.va / 2 ^ 24 * 4096 + bitsOf v 12 12 + bitsOf v 0 12) * 4096 ≤ (s.win (p.rkey %
      4096)).size ∧ (s.mrd.ns.get nsid).small = false)
      { wPkt .write with rkey := 0x1008, imm := some 0x3B001002, va := 0 } 9 0x3B001002 1 100 wRts := by
  and_intros <;> decide +kernel

theorem witness_AcknowledgementsAndTimersActOnTheSender :
    (fun (qp : Fin 65536) (s : State) => (s.qp qp).state = .rts ∧ (s.qp qp).spray = true ∧ (s.qp qp).above ≠ [])
      65535 (wQp 65535 { wSend with above := [7] }) ∧
    (fun (qp : Fin 65536) (s : State) => (s.qp qp).state = .rts ∧ (s.qp qp).sinceAck ≠ 0)
      65535 (wQp 65535 { wSend with sinceAck := 3 }) ∧
    (fun (qp : Fin 65536) (s : State) => (s.qp qp).state = .rts)
      0 (wQp 0 wSend) ∧
    (fun (qp : Fin 65536) (s : State) => (s.qp qp).state = .rts ∧ (s.qp qp).sendQ = [])
      0 (wQp 0 wSend) ∧
    (fun (qp : Fin 65536) (base : Nat) (got : List Nat) (x : TxPkt) (s : State) => (s.qp qp).state = .rts ∧ (s.qp
      qp).spray = true ∧ x ∈ (s.qp qp).sent ∧ seqBefore x.psn base = false ∧ seqDist x.psn base < 256 ∧ x.psn ∉
      got)
      0 3 [4] { (default : TxPkt) with psn := 3, span := 1 } (wQp 0 wSend) ∧
    (fun (qp : Fin 65536) (s : State) => (s.qp qp).state = .rts)
      0 (wQp 0 wSend) ∧
    (fun (qp : Fin 65536) (s : State) => (s.qp qp).state = .rts ∧ (s.qp qp).sent ≠ [] ∧ (s.qp qp).retries < (s.qp
      qp).cfg.retryCnt)
      0 (wQp 0 wSend) ∧
    (fun (qp : Fin 65536) (x : TxPkt) (s : State) => (s.qp qp).state = .rts ∧ (s.qp qp).sent.head? = some x ∧
      (s.qp qp).rnr < (s.qp qp).cfg.rnrRetry)
      0 { (default : TxPkt) with psn := 3, span := 1 } (wQp 0 wSend) ∧
    (fun (qp : Fin 65536) (path : Fin 8) (x : TxPkt) (s : State) => (s.qp qp).state = .rts ∧ (s.qp qp).spray =
      true ∧ path.val < (s.qp qp).npaths ∧ ((s.qp qp).paths.get path).down = true ∧ ((s.qp qp).sent.filter fun x
      => !x.sacked).head? = some x)
      0 1 { (default : TxPkt) with psn := 3, span := 1 } (wQp 0 { wSend with npaths := 2, paths := [(1, ⟨0, 9, true⟩)] }) ∧
    (fun (qp : Fin 65536) (s : State) => (s.qp qp).state = .rts ∧ (s.qp qp).lastCut = none ∧ s.flag
      Fld.TUG_RC_CFG2_RC_EN = true ∧ s.fld Fld.TUG_RC_CFG0_CUT ≠ 0)
      0 (wQp 0 { wSend with rate := 400000000, line := 400000000 }) ∧
    (fun (s : State) => s.tug.qp.wf = true ∧ s.flag Fld.TUG_RC_CFG2_RC_EN = true)
      (wQp 65535 { wSend with rate := 1000, line := 400000000, mem := 400000000 }) ∧
    (fun (qp : Fin 65536) (key : Nat) (k : Nat) (r : Nat) (x : Stair) (s : State) => s.stair qp key = some x ∧
      x.issued = [k] ∧ x.firm = false ∧ x.rearm = true ∧ x.held = false ∧ x.running = some r ∧ x.steps[r]? = none
      ∧ (x.steps[k]?.any fun y => y.op != 4 && !y.signal) = true)
      9 4 1 2 ⟨9, 4, true, [default, default], some 2, [1], false, none, false⟩ ({ wQp 9 wSend with tug := { (wQp 9 wSend).tug with stairs := [(qpGroup 9, [⟨9, 4, true, [default, default], some 2, [1], false, none, false⟩])] } }) ∧
    (fun (qp : Fin 65536) (key : Nat) (k : Nat) (x : Stair) (s : State) => s.stair qp key = some x ∧ k ∈ x.issued
      ∧ x.firm = false ∧ (x.steps[k]?.any fun y => y.op != 4) = true)
      9 4 1 ⟨9, 4, true, [default, default], some 2, [1], false, none, false⟩ ({ wQp 9 wSend with tug := { (wQp 9 wSend).tug with stairs := [(qpGroup 9, [⟨9, 4, true, [default, default], some 2, [1], false, none, false⟩])] } }) ∧
    (fun (w : Fin 4096) (s : State) => (s.win w).state = .revoking)
      4095 ({ w0 with tug := { w0.tug with win := [(4095, { (default : DockWin) with state := .revoking, size := 4096, accepted := [(9, 1)] })] } }) ∧
    (fun (h : Hdr) (host : Nat) (kind : Nat) (size : Nat) (perms : Nat) (tag : Nat) (s : State) => s.takes h
      0x0410 [(.host, host)] = true ∧ host < 4096 ∧ (s.mrd.hosts.get host).present = true ∧ kind ≤ 2 ∧ perms ≤ 7 ∧
      tag < 256 ∧ size ≠ 0 ∧ size % 4096 = 0 ∧ size ≤ (if kind = 0 then 2 ^ 30 else if kind = 1 then 2 ^ 22 else 2
      ^ 16) ∧ s.winRanges (kind == 0) = [] ∧ ((List.range 4096).any fun w => (s.win w).state == .dead) = true)
      hM 7 2 65536 3 255 wHost ∧
    (fun (h : Hdr) (rkey : Nat) (s : State) => s.takes h 0x0411 [(.dock, rkey % 4096)] = true ∧ (s.win (rkey %
      4096)).state = .valid ∧ (s.win (rkey % 4096)).gen = rkey / 4096 ∧ (s.win (rkey % 4096)).accepted = [])
      hM 0x1005 wRts := by
  and_intros <;> decide +kernel

theorem witness_ConnectionsOpenAndEnd :
    (fun (r : CmReq) (s : State) => s.listed r.src = true ∧ ((List.range 256).any fun p => (s.qp (65536 +
      p)).state == .free) = true)
      wReq wHost ∧
    (fun (p : Fin 256) (s : State) => (s.qp (65536 + p.val)).state = .probation)
      255 (wQp (65536 + 255) { (default : Qp) with state := .probation }) ∧
    (fun (qp : Fin 65536) (s : State) => (s.qp qp).state = .rts)
      65535 (wQp 65535 { (default : Qp) with state := .rts }) ∧
    (fun (qp : Fin 65792) (s : State) => (s.qp qp).state = .draining ∧ (s.qp qp).flushed = true)
      65791 (wQp 65791 { (default : Qp) with state := .draining, flushed := true }) ∧
    (fun (qp : Fin 65792) (s : State) => (s.qp qp).state = .draining ∧ (s.qp qp).drep = false ∧ (s.qp qp).dreqs <
      3)
      0 (wQp 0 { (default : Qp) with state := .draining, dreqs := 2 }) ∧
    (fun (p : Fin 256) (s : State) => (s.qp (65536 + p.val)).state = .probation)
      0 (wQp 65536 { (default : Qp) with state := .probation }) ∧
    (fun (qp : Fin 65536) (s : State) => (s.qp qp).state = .error)
      0 (wQp 0 { (default : Qp) with state := .error }) ∧
    (fun (t' : Fin 64) (s : State) => s.tugFenced t' = false ∧ ((List.range 8).any fun k => 8 * (t'.val / 8) + k
      != t'.val && !s.tugFenced (8 * (t'.val / 8) + k)) = true)
      63 w0 ∧
    (fun (x : TcpSeg) (s : State) => x.syn = true ∧ (x.dport = 4420 ∨ (x.dport = 8009 ∧ s.mrd.disc.get x.port ≤
      1)) ∧ s.listed x.src = true ∧ x.conn < 16384 ∧ (s.conn x.conn).isOpen = false)
      wSyn wHost ∧
    (fun (c : Fin 16384) (s : State) => (s.conn c).isOpen = true ∧ (s.conn c).closing = false ∧ (s.conn c).ready =
      false)
      16383 ({ w0 with tug := { w0.tug with conn := [(16383, { (default : Conn) with isOpen := true })] } }) ∧
    (fun (b : Fin 262144) (s : State) => (s.berth b).state = .wait ∧ (s.berth b).waits = .data ∧ (s.berth
      b).orphan = false ∧ isTcp (s.berth b).cmd.qref = true)
      262143 ({ w0 with brg := { w0.brg with berth := [(262143, { (default : Berth) with state := .wait, waits := .data, checkpoint := 3, cmd := { (default : IoCmd) with qref := 2 ^ 31 } })] } }) ∧
    (fun (b : Fin 262144) (s : State) => (s.berth b).state = .wait ∧ (s.berth b).waits = .data ∧ (s.berth
      b).orphan = false ∧ isTcp (s.berth b).cmd.qref = true ∧ (s.berth b).mate = none)
      262143 ({ w0 with brg := { w0.brg with berth := [(262143, { (default : Berth) with state := .wait, waits := .data, checkpoint := 3, cmd := { (default : IoCmd) with qref := 2 ^ 31 } })] } }) ∧
    (fun (c : Fin 16384) (s : State) => (s.conn c).isOpen = true)
      0 ({ w0 with tug := { w0.tug with conn := [(0, { (default : Conn) with isOpen := true })] } }) ∧
    (fun (c : Fin 16384) (s : State) => (s.conn c).isOpen = true ∧ (s.conn c).sndUna ≠ (s.conn c).sndNxt ∧ (s.conn
      c).retx < (s.conn c).cfg.maxRetx ∧ (s.conn c).segs = [])
      0 ({ w0 with tug := { w0.tug with conn := [(0, { (default : Conn) with isOpen := true, sndNxt := 5, cfg := ⟨64, 0, 8⟩ })] } }) ∧
    (fun (c : Fin 16384) (g : TxSeg) (l : List TxSeg) (s : State) => (s.conn c).isOpen = true ∧ (s.conn c).sndUna
      ≠ (s.conn c).sndNxt ∧ (s.conn c).retx < (s.conn c).cfg.maxRetx ∧ (s.conn c).segs = g :: l ∧ g.sacked = false
      ∧ g.len ≤ (s.conn c).mss)
      0 ⟨0, 5, true, false, false⟩ [] ({ w0 with tug := { w0.tug with conn := [(0, { (default : Conn) with isOpen := true, sndNxt := 5, cfg := ⟨64, 0, 8⟩, mss := 1400, segs := [⟨0, 5, true, false, false⟩] })] } }) ∧
    (fun (c : Fin 16384) (s : State) => (s.conn c).isOpen = true ∧ (s.conn c).delack ≠ 0)
      0 ({ w0 with tug := { w0.tug with conn := [(0, { (default : Conn) with isOpen := true, delack := 1, rcvNxt := 5 })] } }) := by
  and_intros <;> decide +kernel

theorem witness_CellsMoveThroughTheCanal :
    (fun (d : CellDst) (cls : Fin 7) (w : CellDemand) (s : State) => s.canalClamped = false ∧ s.clampedAt w.src =
      false ∧ w.par = none ∧ s.refuses d cls w = false ∧ (s.cnl.credits.get (queueKey d cls * 128 + w.src)).length
      < s.fld Fld.CNL_CREDIT_MAX)
      ⟨40, 1, 0⟩ 3 ⟨99, 0, [], none, none⟩ w0 ∧
    (fun (c : Cell) (n : Nat) (l : List Nat) (s : State) => c.cls < 7 ∧ c.repl = none ∧ c.pctx = none ∧ c.dst.dest
      ≠ 127 ∧ s.clampedAt c.src = false ∧ s.cnl.credits.get (queueKey c.dst (sentClass c) * 128 + c.src) = n :: l)
      wCell 0 [] ({ w0 with cnl := { w0.cnl with credits := [(queueKey ⟨40, 1, 0⟩ 3 * 128 + 99, [0])] } }) ∧
    (fun (c : Cell) (s : State) => c.cls = 7 ∧ c.pctx = none ∧ s.clampedAt c.src = false)
      { wCell with cls := 7, dst := ⟨40, 1, 0⟩ } w0 ∧
    (fun (att : Fin 100) (d : CellDst) (k : Nat) (i : Nat) (s : State) => s.canalClamped = false ∧ (s.choose
      att).map Prod.snd = some k ∧ (s.cnl.queue k).head? = some i ∧ (queueAtt k < 32 → s.laneUp k = true) ∧
      (s.cnl.slots.get i).copies = [d] ∧ queueKey d (s.cnl.slots.get i).cell.cls = k)
      31 ⟨31, 9, 5⟩ (queueKey ⟨31, 9, 5⟩ 2) 7 (withFld { w0 with cnl := { w0.cnl with slots := [(7, ⟨{ wCell with cls := 2, dst := ⟨31, 9, 5⟩ }, [⟨31, 9, 5⟩], 0, 100⟩)], queues := [(queueKey ⟨31, 9, 5⟩ 2, [7, 9])], picked := [(31, [9])] } } (Fld.NET_PORT_STAT_LINK 31 1) 1) ∧
    (fun (att : Fin 100) (k : Nat) (i : Nat) (s : State) => s.canalClamped = false ∧ 32 ≤ att.val ∧ s.turnOf att 0
      = some k ∧ queueAtt k = att.val ∧ (s.cnl.queue k).head? = some i)
      40 (queueKey ⟨40, 1, 5⟩ 0) 7 ({ w0 with cnl := { w0.cnl with slots := [(7, ⟨{ wCell with cls := 0 }, [⟨40, 1, 5⟩], 0, 100⟩)], queues := [(queueKey ⟨40, 1, 5⟩ 0, [7]), (queueKey ⟨40, 1, 5⟩ 3, [9])] } }) ∧
    (fun (d : CellDst) (cls : Fin 7) (i : Nat) (s : State) => (s.cnl.queue (queueKey d cls)).find? (fun i =>
      !inPound i) = some i ∧ ((s.cnl.queue (queueKey d cls)).filter inPound).length < s.fld Fld.CNL_SPILL_CFG_QMIN
      / 2 ∧ s.partRoom cls 1 = true)
      ⟨40, 1, 0⟩ 6 786432 (withFld { w0 with cnl := { w0.cnl with slots := [(786432, ⟨{ wCell with cls := 6 }, [⟨40, 1, 0⟩], 0, 100⟩)], queues := [(queueKey ⟨40, 1, 0⟩ 6, [786432])] } } Fld.CNL_SPILL_CFG_QMIN 16) ∧
    (fun (i : Nat) (s : State) => s.cnl.slots.keys.contains i = true ∧ (s.cnl.slots.get i).cell.cls ≠ 0 ∧
      (s.cnl.slots.get i).cell.pctx = none ∧ s.aged (s.cnl.slots.get i).entered (s.cnl.slots.get i).limit = true)
      7 ({ w0 with now := 1000, cnl := { w0.cnl with slots := [(7, ⟨wCell, [⟨40, 1, 0⟩], 0, 1⟩)], queues := [(queueKey ⟨40, 1, 0⟩ 3, [7])] } }) ∧
    (fun (i : Nat) (s : State) => s.cnl.slots.keys.contains i = true ∧ (s.cnl.slots.get i).cell.cls = 0 ∧ s.aged
      (s.cnl.slots.get i).entered (s.cnl.slots.get i).limit = true)
      7 ({ w0 with now := 1000, cnl := { w0.cnl with slots := [(7, ⟨{ wCell with cls := 0 }, [⟨40, 1, 0⟩], 0, 1⟩)] } }) ∧
    (fun (n : Notice) (l : List Notice) (s : State) => s.cnl.notices = n :: l ∧ n.cls ∉ [1, 2, 5] ∧ n.ref.owner ≠
      .transport ∧ (s.cnl.cancels.any fun c => c.ref.same n.ref) = false)
      (⟨⟨none, ⟨40, 1, 3⟩, .other⟩, 3, false, 99⟩) [] ({ w0 with cnl := { w0.cnl with notices := [⟨⟨none, ⟨40, 1, 3⟩, .other⟩, 3, false, 99⟩] } }) ∧
    (fun (n : Notice) (s : State) => (s.cnl.cancels.find? fun c => !s.cnl.notices.any fun m => m.ref.same c.ref) =
      some n ∧ n.ref.flow = none ∧ n.ref.owner = .other)
      (⟨⟨none, ⟨40, 1, 3⟩, .other⟩, 3, false, 99⟩) ({ w0 with cnl := { w0.cnl with cancels := [⟨⟨none, ⟨40, 1, 3⟩, .other⟩, 3, false, 99⟩] } }) ∧
    (fun (p : Fin 7) (v : Word32) (s : State) => ((List.range 7).map (s.cfgWrite (Reg.CNL_PART_CFG p)
      v).partReserve).sum ≤ poundSlots ∧ (∀ q ∈ List.range 7, (s.cfgWrite (Reg.CNL_PART_CFG p) v).partReserve q ≤
      (s.cfgWrite (Reg.CNL_PART_CFG p) v).partCap q))
      6 0x00200001 w0 ∧
    (fun (s : State) => s.cnl.spilled = 0)
      w0 := by
  and_intros <;> decide +kernel

theorem witness_WharfAccessesAndMaintenance :
    (fun (r : WharfReq) (k : Nat) (s : State) => s.whfState = 1 ∧ s.lineFree (lineOf r.addr) = true ∧
      (s.whf.waits.any fun w => w.line == lineOf r.addr) = false ∧ s.whf.find (lineOf r.addr) = some k ∧
      (s.whf.lines.get k).bad = false ∧ r.write = none)
      ⟨0, 0x10000, none, none⟩ (setOf 512 * 16) (wWhf false) ∧
    (fun (r : WharfReq) (b : List Byte) (k : Nat) (s : State) => s.whfState = 1 ∧ s.lineFree (lineOf r.addr) =
      true ∧ (s.whf.waits.any fun w => w.line == lineOf r.addr) = false ∧ s.whf.find (lineOf r.addr) = some k ∧
      (s.whf.lines.get k).bad = false ∧ r.write = some b ∧ s.through r.cls = false ∧ s.through (s.whf.lines.get
      k).cls = false)
      ⟨0, 0x10040, some [1, 2], none⟩ [1, 2] (setOf 512 * 16) (wWhf false) ∧
    (fun (l : Nat) (f : Flight) (s : State) => (s.whf.flights.find? fun f => f.fill && f.line == l) = some f ∧
      s.whfState = 1 ∧ (s.whf.flights.any fun g => !g.fill && g.line == l) = false ∧ f.alloc = true ∧ s.ways f.cls
      ≠ 0 ∧ s.ways f.cls < 2 ^ 16 ∧ s.whf.find l = none ∧ (s.whf.waits.any fun w => w.line == l) = false)
      512 ⟨512, true, true, 0, 0, false⟩ ({ wWhf false with whf := { w0.whf with flights := [⟨512, true, true, 0, 0, false⟩] } }) ∧
    (fun (l : Nat) (f : Flight) (s : State) => (s.whf.flights.find? fun f => !f.fill && f.line == l) = some f ∧
      (s.whf.waits.any fun w => w.line == l) = false)
      512 ⟨512, false, false, 0, 0x1234, false⟩ ({ wWhf false with whf := { w0.whf with flights := [⟨512, false, false, 0, 0x1234, false⟩] } }) ∧
    (fun (l : Nat) (k : Nat) (s : State) => s.flag Fld.WHF_MAINT_STAT_BUSY = false ∧ l < 2 ^ 31 ∧ s.lineFree l =
      true ∧ (s.whf.waits.any fun w => w.line == l) = false ∧ s.whf.find l = some k ∧ (s.whf.lines.get k).dirty =
      true)
      512 (setOf 512 * 16) (wWhf true) ∧
    (fun (l : Nat) (k : Nat) (s : State) => s.flag Fld.WHF_MAINT_STAT_BUSY = false ∧ l < 2 ^ 31 ∧ s.lineFree l =
      true ∧ (s.whf.waits.any fun w => w.line == l) = false ∧ s.whf.find l = some k)
      512 (setOf 512 * 16) (wWhf true) ∧
    (fun (l : Nat) (k : Nat) (s : State) => s.flag Fld.WHF_MAINT_STAT_BUSY = false ∧ l < 2 ^ 31 ∧ s.lineFree l =
      true ∧ (s.whf.waits.any fun w => w.line == l) = false ∧ s.whf.find l = some k)
      512 (setOf 512 * 16) (wWhf false) ∧
    (fun (m : Nat × Nat) (s : State) => s.whf.maint = some m ∧ s.whf.waits = [] ∧ (s.whf.flights.any fun f =>
      f.maint) = false)
      ((0, 3)) ({ withFld w0 Fld.WHF_MAINT_STAT_BUSY 1 with whf := { w0.whf with maint := some (0, 3) } }) ∧
    (fun (s : State) => s.whfState = 1)
      (wWhf true) ∧
    (fun (s : State) => (s.whfState = 2 ∨ s.whfState = 3))
      (withFld (wWhf true) Fld.WHF_STATE_STATE 3) ∧
    (fun (s : State) => s.whfState = 2 ∧ s.whf.waits = [])
      (withFld (wWhf true) Fld.WHF_STATE_STATE 2) ∧
    (fun (s : State) => s.whfState = 0 ∧ s.whf.waits = [])
      (withFld (wWhf true) Fld.WHF_STATE_STATE 0) ∧
    (fun (h : Hdr) (s : State) => s.takes h 0x0A20 [(.device, 0)] = true ∧ (s.whfState = 1 ∨ s.whfState = 2) ∧
      s.assocs (fun _ => true) = [] ∧ (∀ e ∈ s.mrd.arr, e.2.state ≠ .creating ∧ e.2.state ≠ .rebuilding) ∧ (∀ e ∈
      s.ary, e.2.scrubbing = false ∧ e.2.gather = []))
      hM (wWhf true) := by
  and_intros <;> decide +kernel

theorem witness_KeySlotsSerialsAndEntropy :
    (fun (slot : Nat) => slot < 4096)
      4095 ∧
    (fun (mode : Nat) (k : Nat) (s : State) => (mode = 1 ∨ mode = 2) ∧ k = s.fld Fld.CIP_SLOT_IDX_SLOT ∧
      (s.cip.slot.get k).retired = false ∧ (s.cip.slot.get k).zeroising = false ∧ (mode = 1 →
      s.cip.stageKey.extractLsb' 0 256 ≠ s.cip.stageKey.extractLsb' 256 256))
      2 0 ({ w0 with cip := { w0.cip with stageKey := 77, stageBase := 5 } }) ∧
    (fun (k : Nat) (s : State) => k = s.fld Fld.CIP_SLOT_IDX_SLOT)
      0 ({ w0 with mrd := { w0.mrd with keys := [(0, ⟨1, ⟨5, 6⟩, ⟨7, 8⟩, true⟩)] } }) ∧
    (fun (k : Nat) (s : State) => k = s.fld Fld.CIP_SLOT_IDX_SLOT)
      0 w0 ∧
    (fun (h : Hdr) (k : Nat) (mode : Nat) (key : BitVec 512) (s : State) => s.takes h 0x0601 [(.keySlot, k)] =
      true ∧ k < 4096 ∧ (mode = 1 ∨ mode = 2) ∧ s.imageRoom 1 = true ∧ (s.cip.slot.get k).retired = false ∧
      (s.cip.slot.get k).zeroising = false ∧ key.extractLsb' 0 256 ≠ key.extractLsb' 256 256)
      hM 4095 1 9 w0 ∧
    (fun (h : Hdr) (k : Nat) (s : State) => s.takes h 0x0602 [(.keySlot, k)] = true ∧ k < 4096 ∧ s.bankBound k
      true = false ∧ s.bankBound k false = false)
      hM 4095 ({ w0 with mrd := { w0.mrd with keys := [(4095, ⟨1, ⟨5, 6⟩, ⟨7, 8⟩, true⟩)] } }) ∧
    (fun (h : Hdr) (k : Nat) (s : State) => s.takes h 0x0603 [(.keySlot, k)] = true ∧ k < 4096)
      hM 4095 w0 ∧
    (fun (h : Hdr) (k : Nat) (s : State) => s.takes h 0x0604 [(.keySlot, k)] = true ∧ k < 4096)
      hM 0 w0 ∧
    (fun (h : Hdr) (s : State) => s.takes h 0x0605 [(.device, 0)] = true)
      hM w0 ∧
    (fun (l : Fin 10) (b : Fin 262144) (blk : Nat) (s : State) => s.laneFenced l = false ∧ s.cip.started = true ∧
      (s.berth b).state ≠ .free ∧ 3 ≤ (s.berth b).checkpoint ∧ (s.berth b).lane = l.val ∧ (s.cip.lane.get
      l).cache.contains ((s.berth b).keySlot, (s.berth b).bank) = true ∧ (s.berth b).ns.cipher = .sealed ∧
      (s.cip.lane.get l).occupied < 256 ∧ ((s.cip.lane.get l).hold.find? fun h => h.berth == b.val && h.blk == blk
      && h.reading) = none)
      9 262143 3 ({ w0 with cip := { w0.cip with started := true, lane := [(9, { (default : Lane) with cache := [(4095, true)] })] }, brg := { w0.brg with berth := [(262143, { (default : Berth) with state := .run, checkpoint := 6, lane := 9, keySlot := 4095, bank := true, ns := { (default : Namespace) with cipher := .sealed } })] } }) ∧
    (fun (l : Fin 10) (b : Fin 262144) (s : State) => s.laneFenced l = false ∧ s.cip.started = true ∧ (s.berth
      b).state ≠ .free ∧ 3 ≤ (s.berth b).checkpoint ∧ (s.berth b).lane = l.val ∧ (s.cip.lane.get l).cache.contains
      ((s.berth b).keySlot, (s.berth b).bank) = false)
      9 262143 ({ w0 with cip := { w0.cip with started := true }, brg := { w0.brg with berth := [(262143, { (default : Berth) with state := .run, checkpoint := 6, lane := 9, keySlot := 4095, bank := true })] } }) ∧
    (fun (l : Fin 10) (s : State) => s.laneFenced l = false)
      0 ({ w0 with cip := { w0.cip with lane := [(0, { (default : Lane) with cache := [(7, false)], loading := [(4095, true)] })] } }) ∧
    (fun (s : State) => 512 ≤ s.cip.samples)
      ({ w0 with cip := { w0.cip with samples := 512 } }) ∧
    (fun (l : Fin 10) (s : State) => s.laneFenced l = false ∧ ((List.range 10).any fun m => m != l.val &&
      !s.laneFenced m) = true)
      9 w0 ∧
    (fun (l : Fin 10) (s : State) => s.fld (Fld.CIP_LANE_STAT_CE l) < 2 ^ (Fld.CIP_LANE_STAT_CE l).w - 1)
      9 w0 := by
  and_intros <;> decide +kernel

theorem witness_BanksAndReservoirStacks :
    (fun (k : Fin 16) (req : Nat) (s : State) => req < 3 ∧ (req = 0 ∨ s.bankRefused k = false))
      15 2 w0 ∧
    (fun (k : Fin 16) (unit : Nat) => 8 ≤ k.val ∧ unit < 65536)
      15 3 ∧
    (fun (c : Int) => -128 ≤ c ∧ c < 125)
      86 := by
  and_intros <;> decide +kernel

theorem witness_PortsLinksAndFrames :
    (fun (p : Fin 129) (f : RxFrame) (sender : Nat) (target : Nat) (s : State) => s.pwrDepth < 2 ∧ (p.val = 128 ∨
      s.flag (Fld.NET_PORT_STAT_LINK (quadOf p) (laneOf p)) = true) ∧ f.errored = false ∧ f.uncorrected = 0 ∧ 64 ≤
      f.len ∧ f.len ≤ s.mtuOf p + 18 + 4 * min 1 f.tags.length ∧ s.macOk p f = true ∧ f.etype ≠ 0x8808 ∧ f.etype ≠
      0x88B5 ∧ s.vlanOk p f = true ∧ s.aclOk p f = true ∧ f.body = .arp true sender target ∧ (p.val = 128 ∨ s.flag
      (Fld.SLC_PORT_CFG_CTRL_EN p) = false) ∧ ((s.liveAddrs p).any fun x => !x.v6 && x.addr == target) = true)
      0 wArp 9 5 wNet ∧
    (fun (p : Fin 128) (c : Fin 8) (s : State) => s.pauseOn p = false ∧ (s.fld (Fld.NET_PORT_STAT_XOFF_TX (quadOf
      p) (laneOf p))).testBit c = true ∧ s.fld (Fld.NET_PFC_THR_XON (quadOf p) (laneOf p) c) ≤ s.thrOcc p c)
      127 7 (withFld (withFld w0 (Fld.NET_PORT_STAT_XOFF_TX 31 3) 0x80) (Fld.NET_PFC_THR_XON 31 3 7) 0) ∧
    (fun (q : Fin 32) (v : Word32) (s : State) => (s.cfgWrite (Reg.NET_QUAD_CFG q) v).thrSum q ≤ 1024)
      31 1 w0 ∧
    (fun (p : Fin 128) (s : State) => s.portHere p = true ∧ s.flag (Fld.NET_PORT_CFG_EN (quadOf p) (laneOf p)) =
      true ∧ s.rst.portsUp = true ∧ s.flag (Fld.NET_PORT_STAT_LINK (quadOf p) (laneOf p)) = false)
      0 ({ withFld w0 (Fld.NET_PORT_CFG_EN 0 0) 1 with rst := { w0.rst with portsUp := true } }) ∧
    (fun (p : Fin 128) (s : State) => s.flag (Fld.NET_PORT_STAT_LINK (quadOf p) (laneOf p)) = true)
      0 wNet ∧
    (fun (p : Nat) (a : Nat) (n : Neighbour) (s : State) => (s.net.neigh.find? fun n => n.port == p && n.addr == a
      && n.confirmed.isNone) = some n ∧ n.asked < 3)
      128 9 ⟨128, false, 9, 2, none⟩ ({ w0 with net := { w0.net with neigh := [⟨128, false, 9, 2, none⟩] } }) ∧
    (fun (p : Nat) (a : Nat) (n : Neighbour) (s : State) => (s.net.neigh.find? fun n => n.port == p && n.addr == a
      && n.confirmed.isSome) = some n)
      128 9 ⟨128, false, 9, 0, some 7⟩ ({ w0 with net := { w0.net with neigh := [⟨128, false, 9, 0, some 7⟩] } }) ∧
    (fun (p : Fin 128) (rx : Bool) (s : State) => s.eeeOn p = true ∧ s.flag (if rx then Fld.NET_PORT_STAT_LPI_RX
      (quadOf p) (laneOf p) else Fld.NET_PORT_STAT_LPI_TX (quadOf p) (laneOf p)) = false)
      0 false ({ wNet with net := { wNet.net with eee := [(0, 10)] } }) := by
  and_intros <;> decide +kernel

theorem witness_PortAndAddressManifestsTakeEffect :
    (fun (h : Hdr) (q : Nat) (m : Nat) (s : State) => s.takes h 0x0201 ((List.range 4).map fun l => (.port, 4 * q
      + l)) = true ∧ q < 32 ∧ m ≤ 2 ∧ (s.cfgWrite (Reg.NET_QUAD_CFG q) (BitVec.ofNat 32 (setBits (s.reg
      (Reg.NET_QUAD_CFG q)).toNat 0 2 m))).thrSum q ≤ 1024)
      hM 31 2 w0 ∧
    (fun (h : Hdr) (p : Nat) (w : Nat) (s : State) => s.takes h 0x0202 [(.port, p)] = true ∧ p < 128 ∧ s.portHere
      p = true ∧ w < 4 ∧ s.thrSum (quadOf p) ≤ 1024)
      hM 124 3 w0 ∧
    (fun (h : Hdr) (p : Nat) (s : State) => s.takes h 0x0205 [] = true ∧ p < 128 ∧ s.portHere p = true)
      hM 124 w0 ∧
    (fun (h : Hdr) (ports : List Nat) (policy : Nat) (s : State) => s.takes h 0x0206 (ports.map fun p => (.port,
      p)) = true ∧ ports ≠ [] ∧ (∀ p ∈ ports, p < 128 ∧ s.portHere p = true) ∧ policy ≤ 2 ∧ s.imageRoom
      ports.length = true)
      hM [0, 124] 2 w0 ∧
    (fun (h : Hdr) (p : Nat) (i : Nat) (r : AclRule) (s : State) => s.takes h 0x0501 [(.port, p)] = true ∧ p < 128
      ∧ i < 16 ∧ s.portHere p = true ∧ r.action ≤ 2 ∧ r.kind ≤ 3 ∧ (r.kind = 2 → r.len ≤ 32) ∧ (r.kind = 3 → r.len
      ≤ 128) ∧ s.imageRoom 1 = true)
      hM 124 15 ⟨2, 3, 128, 0, 0, 0xFFFF, 7⟩ w0 ∧
    (fun (h : Hdr) (p : Nat) (s : State) => s.takes h 0x0502 [] = true ∧ p < 128 ∧ s.portHere p = true)
      hM 124 w0 ∧
    (fun (h : Hdr) (e : Nat) (p : Prefix) (s : State) => s.takes h 0x0510 [] = true ∧ e < 16 ∧ p.len ≤ (if p.v6
      then 128 else 32) ∧ s.imageRoom 1 = true)
      hM 15 ⟨true, 5, 128, none⟩ w0 ∧
    (fun (h : Hdr) (e : Nat) (a : AddrParams) (s : State) => s.takes h 0x0203 (a.ports.map fun p => (.port, p)) =
      true ∧ e < 1024 ∧ a.v6 = false ∧ a.len ≤ 32 ∧ (∀ p ∈ a.ports, p ≤ 128 ∧ s.portEntries p e < (if p = 128 then
      1 else 16)) ∧ a.ports ≠ [] ∧ s.absent a.ports = false ∧ (∀ v ∈ a.vlan, v ≤ 4094) ∧ s.imageRoom 1 = true)
      hM 1023 ⟨false, 5, 24, none, none, [0, 128]⟩ w0 ∧
    (fun (h : Hdr) (e : Nat) (s : State) => s.takes h 0x0204 [] = true ∧ e < 1024 ∧ (s.mrd.addr.get e).isSome =
      true)
      hM 1023 ({ w0 with mrd := { w0.mrd with addr := [(1023, some ⟨false, 5, 24, none, none, [0]⟩)] } }) ∧
    (fun (e : Fin 1024) (a : AddrParams) (s : State) => (s.net.dad.find? fun d => d.1 == e.val) = some (e.val, a))
      1023 ⟨true, 5, 64, none, none, [0]⟩ ({ w0 with net := { w0.net with dad := [(1023, ⟨true, 5, 64, none, none, [0]⟩)] } }) := by
  and_intros <;> decide +kernel

theorem witness_SluiceChoicesAndSettings :
    (fun (p : Fin 128) (heads : List (Option Nat)) (n : Nat) (s : State) => s.fld (Fld.SLC_PORT_CFG_MODE p) = 0 ∧
      s.fld (Fld.SLC_PORT_CFG_STRICT_N p) ≠ 0 ∧ heads.getD 7 none = some n ∧ s.classPaused p 7 = false ∧ s.linked
      p = true ∧ shaperOpen (s.slc.port.get p) (s.fld (Fld.SLC_PORT_TB_RATE_RATE p)) (s.fld
      (Fld.SLC_PORT_TB_BURST_BURST p)) s.now = true ∧ shaperOpen (s.slc.cmax.get (8 * p + 7)) (s.fld
      (Fld.SLC_CMAX_RATE_RATE (8 * p + 7))) (s.fld (Fld.SLC_CMAX_BURST_BURST (8 * p + 7))) s.now = true)
      127 [some 64, none, none, none, none, none, none, some 1500] 1500 (withFld (withFld (withFld w0 (Fld.SLC_PORT_CFG_MODE 127) 0) (Fld.SLC_PORT_CFG_STRICT_N 127) 1) (Fld.NET_PORT_STAT_LINK 31 3) 1) ∧
    (fun (g : Fin 8) (p : Fin 128) (c : Fin 8) (host : Nat) (len : Nat) (s : State) => s.subNodes p c host = [] ∧
      s.egressLen p len ≤ 256 ∧ s.cnl.credits.get (netOut p c * 128 + attGroup g) ≠ [])
      7 127 7 9 200 ({ w0 with cnl := { w0.cnl with credits := [(netOut 127 7 * 128 + attGroup 7, [0])] } }) ∧
    (fun (mode : Nat) (n : Nat) => mode < 2 ∧ n < 4)
      1 3 ∧
    (fun (h : Hdr) (p : Nat) (mode : Nat) (s : State) => s.takes h 0x0210 [(.port, p)] = true ∧ p < 128 ∧ mode < 2
      ∧ s.portHere p = true)
      hM 127 1 w0 ∧
    (fun (h : Hdr) (m : Nat) (s : State) => s.takes h 0x0211 [(.device, 0)] = true ∧ m < 8192)
      hM 8191 w0 ∧
    (fun (h : Hdr) (s : State) => s.takes h 0x0212 [(.device, 0)] = true)
      hM w0 ∧
    (fun (h : Hdr) (m : Nat) (v : Word32) (s : State) => s.takes h 0x0420 [(.device, 0)] = true ∧ m < 8192 ∧
      (v.getLsbD 31 = true → s.portHere (bitsOf v.toNat 0 7) = true))
      hM 8191 0x80000001 (withFld w0 (Fld.NET_QUAD_CFG_MODE 0) 2) ∧
    (fun (h : Hdr) (nsid : Nat) (s : State) => s.takes h 0x0421 [(.nspace, nsid)] = true ∧ 1 ≤ nsid ∧ nsid ≤ 16384
      ∧ (s.mrd.ns.get nsid).present = true)
      hM 16384 ({ w0 with mrd := { w0.mrd with ns := [(16384, { (default : Namespace) with present := true })] } }) := by
  and_intros <;> decide +kernel

theorem witness_BayPortsTrainInitialiseAndClimbTheLadder :
    (fun (b : Fin 48) (s : State) => (s.bport b).perstDue = true ∧ s.bay b ≠ Bay.empty ∧ s.bay b ≠ Bay.ladder ∧
      s.rst.baysUp = true ∧ s.fld (Fld.DRV_GRP_CFG_MODE (b / 3)) ≠ 2)
      47 (wBay 1 { (default : BayPort) with perstDue := true }) ∧
    (fun (b : Fin 48) (speed : Nat) (width : Nat) (s : State) => s.linkServes b speed width = true ∧ speed < 8 ∧
      s.bay b = Bay.training ∧ (s.bport b).pulse = false)
      47 5 4 (wBay 2 default) ∧
    (fun (b : Fin 48) (s : State) => s.bay b = Bay.training ∧ (s.bport b).pulse = false ∧ (s.bport b).windows = 0)
      47 (wBay 2 default) ∧
    (fun (b : Fin 48) (id : DriveId) (content : Option Medium) (s : State) => s.bay b = Bay.init ∧ (s.driveFound b
      id content).failedCheck b id = 0)
      47 { (default : DriveId) with lba4k := true, wzDealloc := true, ioqGrant := 8, mdtsKib := 256, serial := 5 } none (wBay 3 default) ∧
    (fun (b : Fin 48) (s : State) => s.bay b = Bay.init)
      0 (withFld w0 (Fld.DRV_STATE_STATE 0) 3) ∧
    (fun (b : Fin 48) (a : Word64) (tag : Option Word32) (s : State) => s.driveSpace b a.toNat = true ∧ (tag.any
      fun x => s.cnl.lost.contains (b.val, x.toNat)) = false)
      47 0 (some 7) (wBay 4 default) ∧
    (fun (b : Fin 48) (a : Word64) (x : Word32) (s : State) => s.driveSpace b a.toNat = true ∧ s.cnl.lost.contains
      (b.val, x.toNat) = true)
      47 0 7 ({ wBay 4 default with cnl := { w0.cnl with lost := [(47, 7)] } }) ∧
    (fun (b : Fin 48) (a : Word64) (s : State) => s.driveSpace b a.toNat = true)
      47 0x800000 (wBay 4 default) ∧
    (fun (b : Fin 48) (x : Fin 262144) (i : Nat) (o : PlanOp) (s : State) => (s.berth x).ops[i]? = some o ∧ o.bay
      = b.val ∧ o.onDrive = true ∧ (s.berth x).state = .run ∧ (s.berth x).orphan = false)
      47 8200 0 ⟨47, 5, true, false, true, false, 0, none⟩ wOp ∧
    (fun (b : Fin 48) (x : Fin 262144) (i : Nat) (o : PlanOp) (s : State) => (s.berth x).ops[i]? = some o ∧ o.bay
      = b.val ∧ o.onDrive = true ∧ (s.bport b).timedOut.contains (x.val, i) = false ∧ s.bay b = Bay.ready)
      47 8200 0 ⟨47, 5, true, false, true, false, 0, none⟩ wOp ∧
    (fun (b : Fin 48) (s : State) => s.bay b = Bay.ready ∧ s.lkUp = true)
      47 wOp ∧
    (fun (b : Fin 48) (s : State) => s.bay b = Bay.ladder ∧ s.fld (Fld.DRV_STATE_RUNG b) = 1)
      47 (withFld (wBay 5 default) (Fld.DRV_STATE_RUNG 47) 1) ∧
    (fun (b : Fin 48) (s : State) => s.bay b = Bay.ladder ∧ s.fld (Fld.DRV_STATE_RUNG b) = 2 ∧ s.lkUp = true)
      47 (withFld (wBay 5 default) (Fld.DRV_STATE_RUNG 47) 2) ∧
    (fun (b : Fin 48) (s : State) => s.bay b = Bay.ladder ∧ (s.bport b).step = .ready ∧ s.lkUp = true)
      47 (wBay 5 { (default : BayPort) with step := .ready }) ∧
    (fun (b : Fin 48) (s : State) => s.bay b = Bay.ladder ∧ (s.bport b).step = .ready ∧ s.lkUp = true)
      47 (wBay 5 { (default : BayPort) with step := .ready, released := true }) ∧
    (fun (b : Fin 48) (trains : Bool) (s : State) => s.bay b = Bay.ladder ∧ (s.bport b).step = .pulse ∧ s.lkUp =
      true ∧ (trains = true ∨ (s.bport b).mayCycle = false ∨ (s.bport b).cycled = true))
      47 false (wBay 5 { (default : BayPort) with step := .pulse }) ∧
    (fun (b : Fin 48) (s : State) => s.bay b = Bay.ladder ∧ s.fld (Fld.DRV_STATE_RUNG b) = 3)
      47 (withFld (wBay 5 default) (Fld.DRV_STATE_RUNG 47) 3) ∧
    (fun (b : Fin 48) (s : State) => (s.bport b).shutdown = true)
      47 (wBay 4 { (default : BayPort) with shutdown := true, released := true }) ∧
    (fun (a : Fin 16) (s : State) => s.idleCfg a (Fld.DRV_IDLE_CFG_T1 a) ≠ 0 ∧ (s.idle.get a).stage = 0 ∧
      (s.mrd.arr.get a).state ≠ .none)
      3 (withFld wArr (Fld.DRV_IDLE_CFG_T1 3) 5) ∧
    (fun (a : Fin 16) (s : State) => s.idleCfg a (Fld.DRV_IDLE_CFG_T2 a) ≠ 0 ∧ (s.idle.get a).stage = (if
      s.idleCfg a (Fld.DRV_IDLE_CFG_T1 a) = 0 then 0 else 1) ∧ (s.mrd.arr.get a).state ≠ .none)
      3 { withFld wArr (Fld.DRV_IDLE_CFG_T2 3) 5 with idle := [(3, ⟨1, some 0x10012001⟩)] } ∧
    (fun (b : Fin 48) (s : State) => s.drvCfg b Fld.DRV_CFG_MI_EN = 1 ∧ (s.shelf.paddle.get b).gateAux = true ∧
      s.owns = true)
      47 ({ withFld w0 Fld.DRV_CFG_MI_EN 1 with shelf := { w0.shelf with paddle := [(47, { (default : Paddle) with gateAux := true })] } }) := by
  and_intros <;> decide +kernel

theorem witness_BaySettingsAndRemoval :
    (fun (h : Hdr) (g : Nat) (mode : Nat) (s : State) => s.takes h 0x0703 ((List.range 3).map fun i => (.bay, 3 *
      g + i)) = true ∧ g < 16 ∧ mode < 3 ∧ (∀ i ∈ List.range 3, s.bay (3 * g + i) ≠ Bay.ready ∧ s.bay (3 * g + i)
      ≠ Bay.ladder) ∧ ((List.range (s.fld Fld.AQD_PAIR_CFG_WITNESSES)).any fun i => s.fld (Fld.AQD_WITNESS_BAY i)
      / 3 == g) = false)
      hM 15 2 w0 ∧
    (fun (mode : Nat) => mode < 3)
      1 ∧
    (fun (h : Hdr) (a : Nat) (s : State) => s.takes h 0x0704 [(.device, 0)] = true ∧ a < 16)
      hM 15 w0 ∧
    (fun (b : Fin 48) (s : State) => s.pad b ≠ Pad.empty)
      47 (withFld (wBay 4 default) (Fld.PDL_STATE_STATE 47) 5) := by
  and_intros <;> decide +kernel

theorem witness_PaddlesFollowTheBayPowerStates :
    (fun (b : Fin 48) (s : State) => s.pad b = Pad.empty)
      47 w0 ∧
    (fun (b : Fin 48) (s : State) => s.pad b = Pad.present ∧ s.limitsValid b = true)
      47 (wPad 1 default) ∧
    (fun (b : Fin 48) (s : State) => s.pad b ≠ Pad.empty ∧ s.pad b ≠ Pad.present)
      47 (wPad 5 { (default : Paddle) with gateAux := true, gateMain := true }) ∧
    (fun (b : Fin 48) (s : State) => s.pad b = Pad.on)
      47 (wPad 5 { (default : Paddle) with gateAux := true, gateMain := true }) ∧
    (fun (h : Hdr) (bays : Nat) (s : State) => s.takes h 0x0710 ((bitSet 48 bays).map fun b => (.bay, b)) = true ∧
      bays < 2 ^ 48 ∧ bays ≠ 0 ∧ (∀ b ∈ bitSet 48 bays, s.pad b = Pad.present ∧ s.limitsValid b = true))
      hM (2 ^ 47) (wPad 1 default) ∧
    (fun (b : Nat) (q : List Nat) (s : State) => s.shelf.queue = b :: q ∧ s.ramping < s.fld Fld.PDL_GLB_MAX_RAMP ∧
      s.isStandby = false ∧ (s.shelf.ramped = false ∨ s.shelf.lastRamp + s.fld Fld.PDL_GLB_STAGGER * 1000000 ≤
      s.now))
      47 [3] ({ withFld (wPad 2 { (default : Paddle) with auxOffDue := true }) Fld.PDL_GLB_MAX_RAMP 4 with shelf := { (wPad 2 default).shelf with queue := [47, 3] } }) ∧
    (fun (b : Fin 48) (main : Bool) (s : State) => (if main then (s.shelf.paddle.get b).gateMain else
      (s.shelf.paddle.get b).gateAux) = true)
      47 true (wPad 4 { (default : Paddle) with gateAux := true, gateMain := true }) ∧
    (fun (b : Fin 48) (s : State) => (s.shelf.paddle.get b).faultTimer = false ∧ (s.shelf.paddle.get b).enhAux =
      true ∧ s.pad b = Pad.rampAux)
      47 (wPad 3 { (default : Paddle) with gateAux := true, enhAux := true }) ∧
    (fun (b : Fin 48) (s : State) => s.pad b = Pad.rampMain ∧ (s.shelf.paddle.get b).enhMain = true)
      47 (wPad 4 { (default : Paddle) with gateAux := true, gateMain := true, enhMain := true }) ∧
    (fun (b : Fin 48) (s : State) => s.pad b = Pad.rampMain ∧ (s.shelf.paddle.get b).enhMain = false ∧
      (s.shelf.paddle.get b).faultTimer = false)
      47 (wPad 4 { (default : Paddle) with gateAux := true, gateMain := true }) ∧
    (fun (b : Fin 48) (s : State) => s.powering b = true ∧ (s.shelf.paddle.get b).gateMain = true)
      47 (wPad 5 { (default : Paddle) with gateAux := true, gateMain := true }) ∧
    (fun (b : Fin 48) (s : State) => s.powering b = true ∧ (s.shelf.paddle.get b).faultTimer = true ∧ s.fld
      (Fld.PDL_CFG0_RETRY b) ≠ 0 ∧ s.fld (Fld.PDL_CFG0_RETRY_MAX b) = 0)
      47 (withFld (withFld (wPad 5 { (default : Paddle) with gateMain := true, faultTimer := true }) (Fld.PDL_CFG0_RETRY 47) 1) (Fld.PDL_CFG0_RETRY_MAX 47) 0) ∧
    (fun (b : Fin 48) (s : State) => s.powering b = true ∧ (s.shelf.paddle.get b).gateMain = true ∧ s.fld
      (Fld.PDL_CFG0_RETRY b) = 0)
      47 (withFld (wPad 5 { (default : Paddle) with gateMain := true }) (Fld.PDL_CFG0_RETRY 47) 0) ∧
    (fun (b : Fin 48) (s : State) => s.pad b = Pad.retry ∧ (s.shelf.paddle.get b).retryTimer = true)
      47 (wPad 6 { (default : Paddle) with retryTimer := true }) ∧
    (fun (b : Fin 48) (s : State) => s.flag (Fld.PDL_STATE_PG b) = true ∧ (s.shelf.paddle.get b).pgSince +
      60000000000 ≤ s.now)
      47 ({ withFld (withFld (wPad 5 { (default : Paddle) with pgSince := 40 }) (Fld.PDL_STATE_PG 47) 1) (Fld.PDL_STATE_FAULTS 47) 3 with now := 60000000040 }) ∧
    (fun (b : Fin 48) (s : State) => (s.shelf.paddle.get b).auxOffDue = true)
      47 (wPad 1 { (default : Paddle) with gateAux := true, auxOffDue := true }) ∧
    (fun (b : Fin 48) (s : State) => s.pad b = Pad.queued ∧ (s.shelf.paddle.get b).cycleOff = true)
      47 (wPad 2 { (default : Paddle) with cycleOff := true }) ∧
    (fun (h : Hdr) (bays : Nat) (s : State) => s.takes h 0x0711 ((bitSet 48 bays).map fun b => (.bay, b)) = true ∧
      bays < 2 ^ 48 ∧ bays ≠ 0)
      hM (2 ^ 47 + 1) w0 ∧
    (fun (h : Hdr) (bays : Nat) (s : State) => s.takes h 0x0712 ((bitSet 48 bays).map fun b => (.bay, b)) = true ∧
      bays < 2 ^ 48 ∧ bays ≠ 0)
      hM (2 ^ 47 + 1) w0 := by
  and_intros <;> decide +kernel

theorem witness_FeedsAndDrillsFollowTheWeirRules :
    (fun (f : Fin 2) (s : State) => s.feed f = Feed.good ∧ (s.shelf.weir.get f).conducting = false)
      1 (withFld w0 (Fld.WIR_STATE_STATE 1) 2) ∧
    (fun (f : Fin 2) (s : State) => (s.shelf.weir.get f).conducting = true ∧ s.feed f = Feed.good)
      1 wFeeds ∧
    (fun (f : Fin 2) (s : State) => s.flag (Fld.feedEn f) = true)
      0 wFeeds ∧
    (fun (f : Fin 2) (vin : Nat) (vs : Nat) (s : State) => s.feed f = Feed.blocked ∧ s.feedAt Feed.blocked vin =
      Feed.blocked ∧ vs + 3 < vin)
      1 1204 1200 (withFld (withFld (withFld w0 (Fld.WIR_STATE_STATE 1) 4) Fld.WIR_CFG_UV 100) Fld.WIR_CFG_OV 140) ∧
    (fun (f : Fin 2) (s : State) => (s.shelf.weir.get f).conducting = true)
      1 wFeeds ∧
    (fun (f : Fin 2) (s : State) => s.feed f = Feed.good)
      0 wFeeds ∧
    (fun (enA : Bool) (enB : Bool) (n : Nat) (s : State) => (s.wirCtl enA enB n).isSome = true)
      false true 24 wFeeds ∧
    (fun (s : State) => s.fld Fld.WIR_CTL_DRILL_H ≠ 0 ∧ s.flag Fld.WIR_SHELF_DRILL_RUN = false ∧ s.drillMay =
      true)
      (withFld wFeeds Fld.WIR_CTL_DRILL_H 24) ∧
    (fun (s : State) => s.flag Fld.WIR_SHELF_DRILL_RUN = false ∧ s.drillMay = true)
      wFeeds ∧
    (fun (h : Hdr) (s : State) => s.takes h 0x0722 [(.feed, 0), (.feed, 1)] = true ∧ s.flag
      Fld.WIR_SHELF_DRILL_RUN = false ∧ s.drillMay = true)
      hM wFeeds ∧
    (fun (share : Nat) (s : State) => s.flag Fld.WIR_SHELF_DRILL_RUN = true ∧ 20 ≤ share)
      20 (withFld wFeeds Fld.WIR_SHELF_DRILL_RUN 1) ∧
    (fun (h : Hdr) (s : State) => s.takes h 0x0720 [(.feed, 0), (.feed, 1)] = true)
      hM wFeeds ∧
    (fun (h : Hdr) (s : State) => s.takes h 0x0721 [(.feed, 0), (.feed, 1)] = true)
      hM wFeeds := by
  and_intros <;> decide +kernel

theorem witness_HeartbeatsAndCheckpointsBetweenPartners :
    (fun (s : State) => s.rst.phase ≠ .t1)
      (wRole 1) ∧
    (fun (f : PeerHdr) (s : State) => f.aqd = false ∧ s.frameOk f = true ∧ s.isActive = true ∧ s.fld
      Fld.AQD_PARTNER_STATE = 1 ∧ s.pair.lowering = false)
      wFrm wLive ∧
    (fun (f : PeerHdr) (s : State) => f.aqd = false ∧ s.frameOk f = false)
      ⟨false, false, 0, 0⟩ wLive ∧
    (fun (s : State) => s.isActive = true ∧ s.partnerLost = false)
      wLive ∧
    (fun (f : PeerHdr) (seq : Nat) (s : State) => f.aqd = false ∧ s.frameOk f = true ∧ s.isStandby = true ∧ seq <
      2 ^ 64)
      wFrm (2 ^ 64 - 1) wStby ∧
    (fun (e : JEntry) (l : List JEntry) (s : State) => s.isActive = true ∧ s.partnerAlive = true ∧ s.pair.prompts
      = e :: l)
      ⟨4, .arr 3 wA, true⟩ [] (withPair wLive fun p => { p with prompts := [⟨4, .arr 3 wA, true⟩] }) ∧
    (fun (f : PeerHdr) (s : State) => f.aqd = false ∧ s.frameOk f = true ∧ s.isActive = true)
      wFrm (withPair wLive fun p => { p with prompts := [⟨4, .arr 3 wA, true⟩, ⟨5, .arr 3 wA, true⟩], held := [(4, .response 5 1 0 St.ok)] }) ∧
    (fun (s : State) => s.isActive = true ∧ s.partnerAlive = true ∧ s.pair.window = none ∧ (s.pair.kept.any fun e
      => decide (s.pair.ckptAcked < e.seq) && !e.change.prompts) = true)
      (withPair wLive fun p => { p with kept := [⟨4, .pool 3 [5], true⟩] }) ∧
    (fun (f : PeerHdr) (s : State) => f.aqd = false ∧ s.frameOk f = true ∧ s.isStandby = true)
      wFrm wStby ∧
    (fun (f : PeerHdr) (w : CkptWindow) (s : State) => f.aqd = false ∧ s.frameOk f = true ∧ s.isActive = true ∧
      s.pair.window = some w ∧ w.kind = 0)
      wFrm ⟨0, 4, 9, false⟩ (withPair wLive fun p => { p with window := some ⟨0, 4, 9, false⟩, kept := [⟨4, .arr 3 wA, true⟩] }) ∧
    (fun (f : PeerHdr) (seq : Nat) (s : State) => s.frameOk f = true ∧ s.isStandby = true ∧ s.pair.rxOpen = true ∧
      seq < 2 ^ 64)
      ⟨true, true, 0, 0⟩ 9 (withPair wStby fun p => { p with rxOpen := true }) ∧
    (fun (f : PeerHdr) (w : CkptWindow) (s : State) => f.aqd = false ∧ s.frameOk f = true ∧ s.isActive = true ∧
      s.pair.window = some w ∧ w.kind = 0 ∧ w.ready = true ∧ s.pair.resync = none)
      wFrm ⟨0, 4, 9, true⟩ (withPair wLive fun p => { p with window := some ⟨0, 4, 9, true⟩, held := [(9, .response 5 1 0 St.ok)] }) ∧
    (fun (s : State) => s.pair.rxOpen = true)
      (withPair wStby fun p => { p with rxOpen := true }) ∧
    (fun (s : State) => s.isStandby = true ∧ s.pair.rxOpen = false ∧ s.pwr.mgmtWindow = false ∧ s.pair.tko = none)
      wStby ∧
    (fun (f : PeerHdr) (s : State) => f.aqd = false ∧ s.frameOk f = true ∧ s.isStandby = true)
      wFrm (withPair wStby fun p => { p with check := (2, 33, 12, 0) }) ∧
    (fun (f : PeerHdr) (x : Running) (s : State) => f.aqd = false ∧ s.frameOk f = true ∧ s.isActive = true ∧
      s.pair.healthFor.isSome = true ∧ (s.findRunning fun y => y.opcode == 0x0805 && decide ((ObjKind.device, 0) ∈
      y.objs)) = some x ∧ s.mft.mboxDrop.contains (x.hdr.session, x.hdr.seq) = false)
      wFrm ⟨hM, 0x0805, [(.device, 0)], true⟩ (wRun 0x0805 (withPair wLive fun p => { p with healthFor := some hM })) ∧
    (fun (h : Hdr) (s : State) => s.takes h 0x0805 [(.device, 0)] = true ∧ s.partnerAlive = true)
      hM wLive ∧
    (fun (s : State) => s.isSolo = false ∧ s.rst.portsUp = true ∧ s.rst.phase ≠ .standby)
      (let s := wRole 1; { s with rst := { s.rst with portsUp := true } }) := by
  and_intros <;> decide +kernel

theorem witness_LeaseRoundsClaimsAndTakeovers :
    (fun (s : State) => s.isActive = true ∧ s.flag Fld.AQD_LEASE_STAT_HOLDER = true)
      (withFld (wWit (wRole 1)) Fld.AQD_LEASE_STAT_HOLDER 1) ∧
    (fun (w : Fin 7) (r : Round) (s : State) => s.pair.round = some r ∧ r.kind = .renew ∧ r.pending.contains w.val
      = true)
      6 (⟨.renew, ⟨.held, 0, 0, 0, 4, 0⟩, 0, [6], []⟩) (withPair (wWit (wRole 1)) fun p => { p with round := some ⟨.renew, ⟨.held, 0, 0, 0, 4, 0⟩, 0, [6], []⟩ }) ∧
    (fun (w : Fin 7) (r : Round) (s : State) => s.pair.round = some r ∧ r.kind = .renew ∧ r.pending.contains w.val
      = true)
      0 (⟨.renew, ⟨.held, 0, 0, 0, 4, 0⟩, 0, [6, 0], []⟩) (withPair (wWit (wRole 1)) fun p => { p with round := some ⟨.renew, ⟨.held, 0, 0, 0, 4, 0⟩, 0, [6, 0], []⟩ }) ∧
    (fun (c : Fin 3) (s : State) => s.isActive = true ∧ (c ≠ 0 ∨ s.pair.tOk + 300000000 ≤ s.now))
      0 { wRole 1 with now := 300000000 } ∧
    (fun (s : State) => s.isActive = true ∧ s.pair.draining = true ∧ s.witnesses ≠ [])
      (withPair (wWit (wRole 1)) fun p => { p with draining := true }) ∧
    (fun (reads : List (Nat × LeaseRead)) (s : State) => (s.pair.claim = .waiting ∨ s.pair.claim = .checking) ∧
      s.leaseWaited = true ∧ s.mayClaim = true ∧ s.witnesses ≠ [] ∧ (s.readRecords reads).2 = false ∧
      (s.readRecords reads).1.pair.reqSeen ≤ (s.readRecords reads).1.ckpt)
      [(0, ⟨1, 5, 1, 1, 0⟩)] ({ withPair (withFld (wWit (wRole 2)) Fld.AQD_PARTNER_STATE 2) (fun p => { p with claim := .waiting, obsEpoch := 1, obsRseq := 1 }) with now := 500000000 }) ∧
    (fun (reads : List (Nat × LeaseRead)) (s : State) => s.pair.claim = .backoff ∧ s.pair.round = none ∧
      s.leaseWaited = true ∧ s.mayClaim = true ∧ s.witnesses ≠ [] ∧ (s.readRecords reads).2 = false ∧
      (s.readRecords reads).1.pair.reqSeen ≤ (s.readRecords reads).1.ckpt)
      [] (withPair (withFld (wWit (wRole 2)) Fld.AQD_PARTNER_STATE 2) fun p => { p with claim := .backoff }) ∧
    (fun (s : State) => s.isStandby = true ∧ s.pair.claim = .recheck ∧ s.partnerLost = true)
      (withPair (withFld wStby Fld.AQD_PARTNER_STATE 2) fun p => { p with claim := .recheck }) ∧
    (fun (s : State) => s.pair.claim = .checking ∧ s.mayClaim = true ∧ s.pair.firstRead = none)
      (withPair (withFld (wWit (wRole 2)) Fld.AQD_PARTNER_STATE 2) fun p => { p with claim := .checking }) ∧
    (fun (s : State) => s.pair.listening = true ∧ s.rst.phase = .t4 ∧ s.heldOff = false ∧ s.pair.heardSince = true
      ∧ s.pair.pRole = 1)
      (let s := withPair (wRole 2) (fun p => { p with listening := true, heardSince := true, pRole := 1 }); { s with rst := { s.rst with phase := .t4 } }) ∧
    (fun (f : PeerHdr) (s : State) => f.aqd = false ∧ s.frameOk f = true ∧ s.isStandby = true ∧ s.rst.phase =
      .standby ∧ s.pair.claim = .none)
      wFrm wStby ∧
    (fun (f : PeerHdr) (s : State) => f.aqd = false ∧ s.frameOk f = true ∧ s.isStandby = true ∧ s.rst.phase =
      .standby)
      wFrm wStby ∧
    (fun (h : Hdr) (s : State) => s.takes h 0x0804 [(.device, 0)] = true ∧ s.isActive = true ∧ s.pair.draining =
      false)
      hM wLive := by
  and_intros <;> decide +kernel

theorem witness_PairManifestsAndLockkeeperDrillsTakeEffect :
    (fun (h : Hdr) (s : State) => s.takes h 0x0801 [(.device, 0)] = true ∧ s.pair.tko = none ∧ s.pair.draining =
      false)
      hM wLive ∧
    (fun (h : Hdr) (s : State) => s.takes h 0x0802 [(.device, 0)] = true)
      hM wLive ∧
    (fun (h : Hdr) (bays : List Nat) (s : State) => s.takes h 0x0803 (bays.map fun b => (.bay, b)) = true ∧
      s.isStandby = false ∧ (bays.length = 3 ∨ bays.length = 5 ∨ bays.length = 7) ∧ bays.Nodup ∧ (bays.all fun b
      => decide (b < 48) && s.fld (Fld.DRV_GRP_CFG_MODE (b / 3)) == 1 && s.witnessOk b) = true)
      hM [47, 0, 3] (let s := withDrives (wRole 1) [0, 3, 47]; let s := withFld (withFld (withFld s (Fld.DRV_GRP_CFG_MODE 0) 1) (Fld.DRV_GRP_CFG_MODE 1) 1) (Fld.DRV_GRP_CFG_MODE 15) 1; { s with drives := s.drives.mapAll fun _ d => { d with id := { d.id with ioqGrant := 4, mdtsKib := 128, fusedCw := true } } }) ∧
    (fun (h : Hdr) (s : State) => s.takes h 0x0806 [(.device, 0)] = true ∧ s.isActive = true ∧ s.partnerAlive =
      true)
      hM wLive ∧
    (fun (h : Hdr) (inner : List Byte) (s : State) => s.takes h 0x0807 [(.device, 0)] = true ∧ s.isActive = true ∧
      s.partnerAlive = true ∧ inner ≠ [] ∧ inner.length ≤ 65512 ∧ chanRefuses h.chan (beVal ((inner.drop 4).take
      2)) = false)
      hM [0x43, 0x4D, 1, 1, 1, 2] wLive ∧
    (fun (f : PeerHdr) (total : Nat) (off : Nat) (bytes : List Byte) (s : State) => f.aqd = false ∧ s.frameOk f =
      true ∧ s.pair.relayFor.isSome = true ∧ max s.pair.relayTotal (off + bytes.length) < total)
      wFrm 6 2 [8, 9] (withPair wLive fun p => { p with relayFor := some (hM, [1]) }) ∧
    (fun (f : PeerHdr) (total : Nat) (off : Nat) (bytes : List Byte) (x : Running) (s : State) => f.aqd = false ∧
      s.frameOk f = true ∧ s.pair.relayFor.isSome = true ∧ total ≤ max s.pair.relayTotal (off + bytes.length) ∧
      (s.findRunning fun r => r.opcode == 0x0807 && decide ((ObjKind.device, 0) ∈ r.objs)) = some x ∧
      s.mft.mboxDrop.contains (x.hdr.session, x.hdr.seq) = false)
      wFrm 4 2 [8, 9] ⟨hM, 0x0807, [(.device, 0)], true⟩ (wRun 0x0807 (withPair wLive fun p => { p with relayFor := some (hM, [1]), relayGot := [(0, 5), (1, 6)] })) ∧
    (fun (s : State) => s.rst.phase = .serving ∧ s.cur ≤ 2)
      { w0 with now := 400 } ∧
    (fun (s : State) => s.rst.phase = .serving ∧ s.cur ≤ 2 ∧ s.fld Fld.LKP_CORE_STAT_SPARE ≠ 2 ∧
      (s.host.assoc.keysWhere fun _ a => a.live && a.slot.isSome) = [])
      w0 ∧
    (fun (s : State) => s.rst.phase = .serving ∧ s.cur ≤ 2 ∧ s.fld Fld.LKP_CORE_STAT_SPARE = 2)
      (withFld w0 Fld.LKP_CORE_STAT_SPARE 2) ∧
    (fun (s : State) => s.rst.phase = .serving ∧ s.pair.drill = none ∧ s.drillSkips = false)
      w0 ∧
    (fun (s : State) => s.rst.phase = .serving ∧ s.pair.drill = none ∧ s.drillSkips = false)
      w0 ∧
    (fun (h : Hdr) (s : State) => s.takes h 0x0A30 [(.device, 0)] = true ∧ s.pair.drill = none ∧ s.drillSkips =
      false)
      hM w0 ∧
    (fun (s : State) => s.pair.drill.isSome = true)
      (withPair w0 fun p => { p with drill := some ⟨none, 0⟩ }) ∧
    (fun (h : Hdr) (s : State) => s.takes h 0x0A31 [(.device, 0)] = true ∧ s.fld Fld.LKP_CORE_STAT_SPARE = 0 ∧
      (s.host.assoc.keysWhere fun _ a => a.live && a.slot.isSome) = [])
      hM w0 := by
  and_intros <;> decide +kernel

theorem witness_PowerStateRequestsEntriesAndExits :
    (fun (h : Hdr) (target : Nat) (s : State) => s.takes h 0x0701 [(.device, 0)] = true ∧ s.isStandby = false ∧
      s.pwr.stage = .none ∧ s.pwr.waiting = [] ∧ 2 ≤ target ∧ target ≤ 4 ∧ s.cur < target)
      hM 4 w0 ∧
    (fun (target : Nat) (s : State) => s.isStandby = false ∧ s.pwr.stage = .none ∧ s.pwr.waiting = [] ∧ 2 ≤ target
      ∧ target ≤ 4 ∧ s.cur < target)
      2 w0 ∧
    (fun (s : State) => s.isStandby = false ∧ s.pwr.stage = .none ∧ s.pwr.waiting = [] ∧ s.cur ≠ 0)
      (wPwr 3 3 default) ∧
    (fun (s : State) => s.pwr.stage = .freeze ∧ s.refuser (s.fld Fld.TWP_PWR_STATE_TARGET) = none)
      (withFld (withFld (wPwr 0 3 { (default : Pwr) with stage := .freeze, origin := some .register }) (Fld.DRV_STATE_STATE 0) 4) (Fld.DRV_STATE_STATE 47) 4) ∧
    (fun (o : PwrOrigin) (r : Nat × List Byte) (s : State) => s.pwr.stage = .freeze ∧ s.pwr.origin = some o ∧ o ≠
      .role ∧ s.pwr.waiting = [] ∧ s.refuser (s.fld Fld.TWP_PWR_STATE_TARGET) = some r)
      .register ((1, nameOf (ascii ['L', 'E', 'A', 'S', 'E']))) (withFld (wPwr 0 3 { (default : Pwr) with stage := .freeze, origin := some .register }) Fld.AQD_ROLE_ROLE 1) ∧
    (fun (s : State) => s.pwr.stage = .shutdown)
      (wPwr 0 4 { (default : Pwr) with stage := .shutdown, origin := some .register }) ∧
    (fun (s : State) => s.pwr.stage = .committed ∧ s.pwr.heldWake = none ∧ s.pwr.waiting = [])
      (wPwr 0 4 { (default : Pwr) with stage := .committed }) ∧
    (fun (row : Nat) (i : Nat) (s : State) => s.isStandby = false ∧ s.pwr.stage = .none ∧ s.wakesFrom s.cur row i
      = true)
      9 0 (wPwr 2 2 { (default : Pwr) with wakeEn := 1023 }) ∧
    (fun (s : State) => s.isStandby = false ∧ s.pwr.stage = .none ∧ s.pwr.wakeTimer ≠ 0 ∧ (s.cur = 3 ∨ s.cur = 4)
      ∧ s.pwr.wakeEn.testBit 7 = true)
      (wPwr 4 4 { (default : Pwr) with wakeEn := 128, wakeTimer := 1 }) ∧
    (fun (s : State) => s.pwr.stage = .exiting ∧ s.heldOff = false ∧ s.rst.phase = .serving ∧ (s.cur = 4 →
      s.rst.railsUp = 3) ∧ s.pwr.waiting = [] ∧ s.ept.tlps = [] ∧ (s.host.assoc.keysWhere fun _ a => a.live &&
      a.slot.isSome) = [])
      (wPwr 3 0 { (default : Pwr) with stage := .exiting }) ∧
    (fun (n : Nat) (s : State) => s.rst.phase = .serving ∧ s.isStandby = false ∧ s.pwr.stage = .none ∧ s.cur = 0 ∧
      n < s.fld Fld.TWP_IDLE_CFG_P1_RATE * 100 ∧ s.pwr.lowIntervals < 9)
      0 (withFld w0 Fld.TWP_IDLE_CFG_P1_EN 1) ∧
    (fun (n : Nat) (s : State) => s.rst.phase = .serving ∧ s.isStandby = false ∧ s.pwr.stage = .none ∧ s.cur = 0 ∧
      s.pwr.waiting = [] ∧ s.flag Fld.TWP_IDLE_CFG_P1_EN = true ∧ n < s.fld Fld.TWP_IDLE_CFG_P1_RATE * 100 ∧ 9 ≤
      s.pwr.lowIntervals ∧ s.refuser 1 = none)
      0 ({ withFld w0 Fld.TWP_IDLE_CFG_P1_EN 1 with pwr := { (default : Pwr) with lowIntervals := 9 } }) ∧
    (fun (n : Nat) (s : State) => s.cur = 1 ∧ s.pwr.stage = .none ∧ max (s.fld Fld.TWP_PARK_CFG_MIN_BASINS)
      (ceilDiv n (s.fld Fld.TWP_PARK_CFG_BASIN_KIOPS * 100000)) < ((List.range 16).filter s.basinRuns).length)
      1 (wPwr 1 1 default) ∧
    (fun (e : Fin 256) (s : State) => (s.eng e).parking = true ∧ s.engRuns e = true ∧ (s.eng e).tow = [] ∧ (s.eng
      e).transit = [] ∧ s.inflight e = 0)
      255 (w0.updEng 255 fun x => { x with parking := true }) ∧
    (fun (g : Fin 8) (s : State) => s.cur = 1 ∧ s.tugBusy g = false)
      7 (wPwr 1 1 default) ∧
    (fun (h : Hdr) (s : State) => s.takes h 0x0702 [(.device, 0)] = true)
      hM w0 ∧
    (fun (s : State) => s.rst.phase = .standby ∧ s.pwr.wakeEn.testBit 2 = true ∧ s.pwr.wakeEn.testBit 3 = true)
      ({ wStby with pwr := { (default : Pwr) with wakeEn := 12 } }) ∧
    (fun (s : State) => s.pwr.mgmtWindow = true)
      ({ wStby with pwr := { (default : Pwr) with mgmtWindow := true } }) := by
  and_intros <;> decide +kernel

theorem witness_SessionAndDeviceManifestsTakeEffect :
    (fun (b : List Byte) (seq : Nat) (s : State) => s.fld Fld.MFT_MBOX_CTL_LEN = 32 ∧ s.flag
      Fld.MFT_MBOX_STAT_BUSY = false ∧ (List.range 32).map (fun i => s.mft.reqBuf.get i) = b ∧ isHeader b 0x0101
      seq 0 false = true ∧ s.takes ⟨.mailbox, 0, seq, 0, 0, none⟩ 0x0101 [] = true ∧ s.flag
      Fld.MFT_MBOX_CFG_AUTH_REQ = false)
      (wHead 0 false) 1 (let s := withFld w0 Fld.MFT_MBOX_CTL_LEN 32; s.updMft fun m => { m with reqBuf := layBytes [] 0 (wHead 0 false) }) ∧
    (fun (b : List Byte) (seq : Nat) (k : Nat) (v6 : Bool) (addr : Nat) (src : Nat) (s : State) => k ≠ 0 ∧
      isHeader b 0x0101 seq k true = true ∧ s.takes ⟨.mgmtPort, k, seq, srcKey v6 addr src, 128, none⟩ 0x0101 [] =
      true)
      (wHead 5 true) 1 5 true (2 ^ 128 - 1) 65535 (withSess w0 .mgmtPort (srcKey true (2 ^ 128 - 1) 65535)) ∧
    (fun (f : PeerHdr) (b : List Byte) (seq : Nat) (k : Nat) (s : State) => f.aqd = false ∧ s.frameOk f = true ∧
      s.agent = true ∧ k ≠ 0 ∧ isHeader b 0x0101 seq k true = true ∧ s.takes ⟨.relay, k, seq, 0, 0, none⟩ 0x0101
      [] = true)
      wFrm (wHead 5 true) 1 5 (withSess wStby .relay 0) ∧
    (fun (h : Hdr) (s : State) => s.takes h 0x0101 [] = true)
      hM w0 ∧
    (fun (h : Hdr) (k : Nat) (s : State) => s.takes h 0x0102 [] = true ∧ k < 8 ∧ (s.mrd.mkeys.get k).isSome = true
      ∧ s.openSessions.length < (if s.agent then 8 else 64) ∧ s.mft.sessions.wf = true)
      hM 7 ({ w0 with mrd := { w0.mrd with mkeys := [(7, some 5)] } }) ∧
    (fun (h : Hdr) (s : State) => s.takes h 0x0103 [] = true ∧ h.session ≠ 0)
      ⟨.mailbox, 5, 1, 0, 0, none⟩ (withSess w0 .mailbox 0) ∧
    (fun (k : Nat) (s : State) => k ≠ 0 ∧ (s.mft.sessions.get k).isOpen = true ∧ (s.mft.sessions.get k).heard +
      s.fld Fld.MFT_SESS_CFG_IDLE_S * 1000000000 ≤ s.now)
      5 { withSess w0 .mailbox 0 with now := 10 ^ 14 } ∧
    (fun (h : Hdr) (r : Running) (s : State) => (s.findRunning fun r => decide (r.hdr = h)) = some r ∧ r.committed
      = false ∧ r.opcode ≠ 0x0807 ∧ r.opcode ≠ 0x0805 ∧ s.pwr.waiting = [] ∧ s.mft.mboxDrop.contains
      (r.hdr.session, r.hdr.seq) = false)
      hM ⟨hM, 0x0722, [(.feed, 0)], false⟩ (w0.updMft fun m => { m with running := [⟨hM, 0x0722, [(.feed, 0)], false⟩] }) ∧
    (fun (h : Hdr) (s : State) => s.takes h 0x0104 [(.device, 0)] = true)
      hM w0 ∧
    (fun (h : Hdr) (s : State) => s.takes h 0x0105 [(.device, 0)] = true)
      hM { w0 with now := 400 } ∧
    (fun (h : Hdr) (s : State) => s.takes h 0x0106 [(.device, 0)] = true ∧ s.resetWidth < 2)
      hM w0 ∧
    (fun (h : Hdr) (s : State) => s.takes h 0x0107 [(.device, 0)] = true)
      hM (withFld w0 Fld.TWP_FAULT_ACTIVE 1) ∧
    (fun (h : Hdr) (n : Nat) (clear : Bool) (s : State) => s.takes h 0x0108 [(.device, 0)] = true ∧ n ≠ 0 ∧ (clear
      = true → n ≤ 24))
      hM 24 true (w0.updMft fun m => { m with events := [⟨1, 2, 3⟩] }) ∧
    (fun (h : Hdr) (k : Nat) (s : State) => s.takes h 0x0620 [(.device, 0)] = true ∧ k < 8 ∧ s.imageRoom 1 = true)
      hM 7 w0 ∧
    (fun (h : Hdr) (k : Nat) (s : State) => s.takes h 0x0621 [(.device, 0)] = true ∧ k < 8 ∧ (s.mrd.mkeys.get
      k).isSome = true)
      hM 0 ({ w0 with mrd := { w0.mrd with mkeys := [(0, some 5)] } }) ∧
    (fun (h : Hdr) (quad : Bool) (i : Nat) (lane : Nat) (s : State) => s.takes h 0x0A02 [if quad then (.port, 4 *
      i + lane) else (.bay, i)] = true ∧ i < (if quad then 32 else 48) ∧ lane < 4 ∧ (if quad then (List.range
      4).any (fun l => s.flag (Fld.NET_PORT_STAT_LINK i l)) else s.bay i == Bay.init || s.bay i == Bay.ready ||
      s.bay i == Bay.ladder) = true)
      hM false 47 3 (withDrives w0 [47]) ∧
    (fun (h : Hdr) (s : State) => s.takes h 0x0B01 [(.device, 0)] = true)
      hM w0 ∧
    (fun (h : Hdr) (s : State) => s.takes h 0x0B02 [(.device, 0)] = true ∧ s.isActive = false ∧ s.resetWidth < 2)
      hM w0 ∧
    (fun (h : Hdr) (chunk : List Byte) (s : State) => s.takes h 0x0C01 [(.device, 0)] = true ∧ chunk ≠ [])
      hM [7, 8] w0 ∧
    (fun (h : Hdr) (n : Nat) (s : State) => s.takes h 0x0C02 [(.device, 0)] = true ∧ n ≠ 0)
      hM 1 w0 ∧
    (fun (h : Hdr) (s : State) => s.takes h 0x0C03 [(.device, 0)] = true ∧ s.fw.staged = true ∧ s.resetWidth < 2)
      hM ({ w0 with fw := { w0.fw with staged := true } }) ∧
    (fun (h : Hdr) (s : State) => s.takes h 0x0C04 [(.device, 0)] = true)
      hM w0 := by
  and_intros <;> decide +kernel

theorem witness_SubsystemNamespaceAndHostManifestsTakeEffect :
    (fun (h : Hdr) (i : Nat) (nqn : Nat) (s : State) => s.takes h 0x0401 [(.device, 0)] = true ∧ i < 1024 ∧ nqn ≠
      0 ∧ (s.mrd.subsys.find? fun e => e.1 != i && e.2.present && e.2.nqn == nqn).isNone = true ∧ s.imageRoom 1 =
      true)
      hM 1023 70 wMan ∧
    (fun (h : Hdr) (i : Nat) (s : State) => s.takes h 0x0402 [(.device, 0)] = true ∧ i < 1024 ∧ (s.mrd.subsys.get
      i).present = true ∧ (s.mrd.ns.any fun e => e.2.present && e.2.subsys == i) = false)
      hM 3 wMan ∧
    (fun (h : Hdr) (nsid : Nat) (sub : Nat) (a : Nat) (size : Nat) (s : State) => s.takes h 0x0403 [(.nspace,
      nsid), (.array, a)] = true ∧ nsid ≠ 0 ∧ nsid ≤ 16384 ∧ (s.mrd.ns.get nsid).present = false ∧ sub < 1024 ∧
      (s.mrd.subsys.get sub).present = true ∧ a < 16 ∧ s.arrThere a = true ∧ (s.mrd.arr.get a).state ≠ .creating ∧
      (s.mrd.arr.get a).state ≠ .offline ∧ (s.mrd.arr.get a).state ≠ .salvaged ∧ size ≠ 0 ∧ ceilDiv size
      (s.mrd.arr.get a).e ≤ (s.freeExtents a).length ∧ s.imageRoom (1 + ceilDiv size (s.mrd.arr.get a).e) = true)
      hM 16384 2 3 8 wMan ∧
    (fun (h : Hdr) (nsid : Nat) (s : State) => s.takes h 0x0404 [(.nspace, nsid)] = true ∧ nsid ≠ 0 ∧ nsid ≤ 16384
      ∧ (s.mrd.ns.get nsid).present = true ∧ s.imageRoom s.mrd.arr.length = true)
      hM 9 wMan ∧
    (fun (h : Hdr) (nsid : Nat) (k : Nat) (s : State) => s.takes h 0x0405 [(.nspace, nsid), (.host, k)] = true ∧
      nsid ≠ 0 ∧ nsid ≤ 16384 ∧ (s.mrd.ns.get nsid).present = true ∧ (s.mrd.hosts.get k).present = true ∧
      s.imageRoom (1 + extRuns (s.mrd.ns.get nsid).ext) = true)
      hM 9 7 wMan ∧
    (fun (h : Hdr) (nsid : Nat) (s : State) => s.takes h 0x0408 [(.nspace, nsid)] = true ∧ nsid ≠ 0 ∧ nsid ≤ 16384
      ∧ (s.mrd.ns.get nsid).present = true)
      hM 9 wMan ∧
    (fun (h : Hdr) (i : Nat) (e : HostParams) (s : State) => s.takes h 0x0406 [(.host, i)] = true ∧ i < 4096 ∧
      e.nqn ≠ 0 ∧ s.absent e.sprayPorts = false ∧ (e.reach.all fun r => decide (r < 1024)) = true ∧
      (e.sprayPorts.all fun p => decide (p < 128)) = true ∧ (e.meter.all fun m => decide (m + (if e.meterPerClass
      then 7 else 0) ≤ 8191)) = true ∧ e.addrs.length ≤ 8 ∧ e.addrs.all prefixOk = true ∧ e.defPs ≤ 3 ∧ 0 <
      e.maxAssoc ∧ e.maxAssoc ≤ 8192 ∧ e.stairs ≤ 64 ∧ (s.mrd.hosts.find? fun x => x.1 != i && x.2.present &&
      x.2.p.nqn == e.nqn).isNone = true ∧ s.imageRoom 1 = true)
      hM 4095 { (default : HostParams) with nqn := 51, maxAssoc := 1 } wMan ∧
    (fun (h : Hdr) (i : Nat) (s : State) => s.takes h 0x0407 [(.host, i)] = true ∧ i < 4096 ∧ (s.mrd.hosts.get
      i).present = true ∧ s.imageRoom (s.mrd.arr.length + s.mrd.keys.length + s.mrd.ns.length + (s.mrd.ns.map fun
      e => extRuns e.2.ext).sum) = true)
      hM 7 wMan ∧
    (fun (h : Hdr) (i : Nat) (hash : Nat) (s : State) => s.takes h 0x0610 [(.host, i)] = true ∧ i < 4096 ∧
      (s.mrd.hosts.get i).present = true ∧ hash ≠ 0 ∧ hash ≤ 3 ∧ s.imageRoom 1 = true)
      hM 7 3 wMan ∧
    (fun (h : Hdr) (i : Nat) (s : State) => s.takes h 0x0611 [(.host, i)] = true ∧ i < 4096 ∧ (s.mrd.hosts.get
      i).present = true ∧ s.imageRoom 1 = true)
      hM 7 wMan := by
  and_intros <;> decide +kernel

theorem witness_TallySelectsClearsReadsAndDumps :
    (fun (v : Word32) => selectorOk v = true)
      0x80000010 ∧
    (fun (v : Word32) => selectorOk v = false)
      0x800001FF ∧
    (fun (n : Fin 4096) (s : State) => s.fld (Fld.TAL_SEL_MODE n) = 2)
      0 (withFld (w0.updTal fun t => { t with cnt := [(0, 7)], acc := [(0, 3)] }) (Fld.TAL_SEL_MODE 0) 2) ∧
    (fun (n : Fin 4096) (s : State) => s.fld (Fld.TAL_SEL_MODE n) ≠ 2)
      4095 w0 ∧
    (fun (n : Fin 4096) (s : State) => s.fld (Fld.TAL_SEL_MODE n) = 2 ∧ s.flag (Fld.TAL_SEL_EN n) = true ∧ s.fld
      (Fld.TAL_THR_VALUE n) ≠ 0 ∧ s.now % (s.fld (Fld.TAL_THR_VALUE n) * 1000) = 0)
      9 (withFld (withFld (withFld ({ w0 with now := 10000 }.updTal fun t => { t with acc := [(9, 3)], armed := [(9, true)] }) (Fld.TAL_SEL_MODE 9) 2) (Fld.TAL_SEL_EN 9) 1) (Fld.TAL_THR_VALUE 9) 5) ∧
    (fun (s : State) => s.flag Fld.TAL_DUMP_CFG_EN = true ∧ s.cur ≤ 2 ∧ s.rst.phase = .serving ∧ s.dumpSet ≠ [] ∧
      s.tal.busy = false ∧ s.dumpLands (s.fld Fld.TAL_DUMP_CFG_TARGET) = true ∧ s.tal.s0 = 0 ∧ s.tal.seq + 1 < 2 ^
      64)
      (withFld (withFld (withFld (withFld (withFld w0 Fld.TAL_DUMP_CFG_EN 1) Fld.TAL_DUMP_CFG_TARGET 1) (Fld.TAL_DUMP_SET_BITS 127) 0x80000001) Fld.TAL_DUMP_SLOTS_SLOTS 4) Fld.TAL_DUMP_BASE_LO_ADDR 1) ∧
    (fun (s : State) => s.tal.busy = true ∧ bitsOf s.tal.cfg.toNat Fld.TAL_DUMP_CFG_TARGET.lo
      Fld.TAL_DUMP_CFG_TARGET.w = 1)
      (w0.updTal fun t => { t with busy := true, at_ := 4096, rec_ := [5, 6, 7], cfg := BitVec.ofNat 32 (2 ^ Fld.TAL_DUMP_CFG_TARGET.lo) }) ∧
    (fun (h : Hdr) (n : Nat) (sel : Word32) (s : State) => s.takes h 0x0901 [(.device, 0)] = true ∧ n < 4096 ∧
      selectorOk sel = true)
      hM 4095 0x80000010 w0 ∧
    (fun (h : Hdr) (set : List Nat) (s : State) => s.takes h 0x0903 [(.device, 0)] = true ∧ set ≠ [] ∧ (set.all
      fun n => decide (n < 4096)) = true ∧ 4 + 8 * ((List.range 4096).filter fun n => set.contains n).length ≤
      s.maxPlen h.chan h.port h.src)
      hM [4095, 3] (w0.updTal fun t => { t with cnt := [(3, 9)] }) ∧
    (fun (h : Hdr) (s : State) => s.takes h 0x0904 [(.device, 0)] = true)
      hM w0 ∧
    (fun (h : Hdr) (set : List Nat) (period : Nat) (target : Nat) (slots : Nat) (s : State) => s.takes h 0x0902
      [(.device, 0)] = true ∧ set ≠ [] ∧ (set.all fun n => decide (n < 4096)) = true ∧ target < 2 ∧ period ≠ 0 ∧
      slots ≠ 0)
      hM [31, 4095] 1 1 8 w0 := by
  and_intros <;> decide +kernel

theorem witness_EndpointWindowsCopiesAndResets :
    (fun (off : Nat) (len : Nat) (i : Nat) (w : Window) (s : State) => s.eptUp = true ∧ s.awake = true ∧
      s.mgmtOnly = false ∧ s.partsOf off len = [(off, len, some (i, w))] ∧ w.rd = true ∧ w.inSpace off = true ∧
      w.space = 1 ∧ s.partBad (off, len, some (i, w)) = false)
      4096 8 63 ⟨true, true, true, 1, 12, 4096, 8192⟩ wWin ∧
    (fun (off : Nat) (len : Nat) (s : State) => s.eptUp = true ∧ s.awake = true ∧ s.mgmtOnly = false ∧ len ≠ 0 ∧
      s.winAt off = none)
      0 4 wWin ∧
    (fun (off : Nat) (data : List Byte) (i : Nat) (w : Window) (s : State) => s.eptUp = true ∧ s.awake = true ∧
      s.mgmtOnly = false ∧ s.partsOf off data.length = [(off, data.length, some (i, w))] ∧ w.wr = true ∧ w.inSpace
      off = true ∧ w.space = 1 ∧ s.dockOff (w.tgt + (off - w.base)) = false)
      4100 [9, 8, 7, 6] 63 ⟨true, true, true, 1, 12, 4096, 8192⟩ wWin ∧
    (fun (s : State) => s.eptUp = true ∧ s.isStandby = false ∧ s.pwr.stage = .none ∧ s.cur = 2 ∧
      s.pwr.wakeEn.testBit 2 = true)
      (withFld { wWin with pwr := { (default : Pwr) with wakeEn := 4 } } Fld.TWP_PWR_STATE_CUR 2) ∧
    (fun (i : Fin 64) (space : Nat) (z : Nat) (s : State) => space < 3 ∧ 12 ≤ z ∧ z ≤ 32 ∧ s.fld
      (Fld.EPT_WIN_BASE_BASE i) * 4096 % 2 ^ z = 0)
      63 0 13 (withFld w0 (Fld.EPT_WIN_BASE_BASE 63) 2) ∧
    (fun (dir : Bool) (w : Window) (s : State) => s.ept.copy = none ∧ s.ept.win.get (s.fld Fld.EPT_COPY_WIN_WIN) =
      w ∧ w.valid = true ∧ (if dir then w.rd else w.wr) = true ∧ (s.fld Fld.EPT_COPY_HOST_HI_ADDR * 2 ^ 32 + s.fld
      Fld.EPT_COPY_HOST_LO_ADDR) % 4 = 0 ∧ s.fld Fld.EPT_COPY_LEN_LEN % 4 = 0 ∧ s.fld Fld.EPT_COPY_LEN_LEN ≠ 0 ∧
      s.fld Fld.EPT_COPY_OFF_OFF * 4 + s.fld Fld.EPT_COPY_LEN_LEN ≤ 2 ^ w.sizeLog2 ∧ w.tgt + s.fld
      Fld.EPT_COPY_OFF_OFF * 4 + s.fld Fld.EPT_COPY_LEN_LEN ≤ spaceSize w.space)
      false ⟨true, true, true, 1, 12, 4096, 8192⟩ (withFld (withFld wWin Fld.EPT_COPY_WIN_WIN 63) Fld.EPT_COPY_LEN_LEN 8) ∧
    (fun (data : List Byte) (c : Copy) (s : State) => s.ept.copy = some c ∧ c.toHost = false ∧ c.win.space = 1 ∧
      s.dockOff (c.win.tgt + c.off) = false ∧ data.length = c.len)
      [1, 2, 3, 4, 5, 6, 7, 8] (⟨⟨true, true, true, 1, 12, 4096, 8192⟩, 64, 8, 8, false, 2047⟩) wCopy ∧
    (fun (c : Copy) (s : State) => s.ept.copy = some c ∧ c.toHost = false)
      (⟨⟨true, true, true, 1, 12, 4096, 8192⟩, 64, 8, 8, false, 2047⟩) wCopy ∧
    (fun (v : Fin 2048) (s : State) => s.ept.pba.get v = true ∧ (s.ept.msix.get v).unmasked = true ∧ s.flag
      Fld.EPT_STATUS_FMASK = false ∧ s.flag Fld.EPT_STATUS_MSIX_EN = true ∧ s.flag Fld.EPT_STATUS_BME = true ∧
      s.flag Fld.EPT_STATUS_LINK = true)
      2047 (let s := withFld (withFld (withFld w0 Fld.EPT_STATUS_MSIX_EN 1) Fld.EPT_STATUS_BME 1) Fld.EPT_STATUS_LINK 1; s.updEpt fun e => { e with msix := [(2047, ⟨64, 5, true⟩)], pba := [(2047, true)] }) ∧
    (fun (s : State) => s.eptPowered = true)
      (wPhase .serving 3) := by
  and_intros <;> decide +kernel

theorem witness_StartsRailsAndMoorings :
    (fun (s : State) => s.rst.phase = .t1)
      (wPhase .t1 0) ∧
    (fun (s : State) => s.rst.phase = .t2 ∧ s.heldOff = false ∧ s.store.unmoor = false ∧ s.store.current = none)
      (wPhase .t2 0) ∧
    (fun (b : Bool) (x : MoorSlot) (s : State) => s.rst.phase = .t2 ∧ s.heldOff = false ∧ s.store.unmoor = false ∧
      s.store.current = some (b, x))
      true { (default : MoorSlot) with valid := true, seq := 4 } (let s := wPhase .t2 0; { s with store := { s.store with slotB := { (default : MoorSlot) with valid := true, seq := 4 }, journal := [⟨5, .host 3 { (default : HostEntry) with present := true }, true⟩] } }) ∧
    (fun (g : Fin 3) (s : State) => s.rst.railsUp = g ∧ s.rst.railsOn = g + 1 ∧ g.val < 2 ∧ s.rst.railWait = false
      ∧ s.rst.tripped = false)
      1 (let s := wPhase .t5 1; { s with rst := { s.rst with railsOn := 2 } }) ∧
    (fun (s : State) => s.rst.railsUp = 2 ∧ s.rst.railsOn = 3)
      (let s := wPhase .t5 2; { s with rst := { s.rst with railsOn := 3, powerFault := true } }) ∧
    (fun (g : Fin 3) (s : State) => s.rst.railsUp = g ∧ s.rst.railsOn = g + 1)
      2 (let s := wPhase .t5 2; { s with rst := { s.rst with railsOn := 3 } }) ∧
    (fun (s : State) => s.rst.railWait = true ∧ s.rst.retries < 3 ∧ s.rst.phase = .t5 ∧ s.rst.railsUp < 3 ∧
      s.rst.railsOn = s.rst.railsUp ∧ s.rst.tripped = false)
      (let s := wPhase .t5 0; { s with rst := { s.rst with railWait := true, retries := 2 } }) ∧
    (fun (s : State) => s.rst.phase = .t5 ∧ s.rst.railsUp = 3 ∧ s.heldOff = false)
      (wPhase .t5 3) ∧
    (fun (s : State) => s.rst.phase = .t6 ∧ s.heldOff = false)
      (wPhase .t6 3) ∧
    (fun (s : State) => s.rst.phase = .t7 ∧ s.heldOff = false)
      (wPhase .t7 3) ∧
    (fun (s : State) => s.rst.baysUp = true ∧ s.owns = true ∧ s.rst.assembleBy ≤ s.now)
      (let s := wArr; { s with rst := { s.rst with baysUp := true } }) ∧
    (fun (s : State) => s.store.stopped = false ∧ s.store.waiting ≠ [])
      ({ w0 with store := { w0.store with seq := 4, waiting := [⟨4, .partner 5, true⟩] } }) ∧
    (fun (s : State) => s.store.stopped = false ∧ 75 ≤ s.fld Fld.TWP_MOOR_STAT_JOURNAL_PCT)
      (withFld w0 Fld.TWP_MOOR_STAT_JOURNAL_PCT 75) ∧
    (fun (s : State) => s.store.stopped = false ∧ 75 ≤ s.fld Fld.TWP_MOOR_STAT_JOURNAL_PCT)
      ({ withFld w0 Fld.TWP_MOOR_STAT_JOURNAL_PCT 75 with store := { w0.store with slotA := { (default : MoorSlot) with valid := true, seq := 4 }, journal := [⟨5, .partner 5, true⟩] } }) := by
  and_intros <;> decide +kernel

theorem witness_ResetsWatchdogFaultsAndClocks :
    (fun (s : State) => s.rst.resetN = false ∧ s.rst.phase ≠ .t1)
      wIo ∧
    (fun (s : State) => s.rst.resetN = true)
      ({ w0 with rst := { w0.rst with resetN := true, tripped := true } }) ∧
    (fun (s : State) => s.rst.draining = true ∧ (s.rst.drainBy ≤ s.now ∨ s.idleBerths = true))
      ({ w0 with rst := { w0.rst with draining := true } }) ∧
    (fun (c : Fin 2) (s : State) => s.fld Fld.LKP_CORE_STAT_ACTIVE = c ∧ s.rst.phase = .serving)
      0 { w0 with now := 400 } ∧
    (fun (s : State) => s.rst.phase = .serving ∧ s.rst.resetN = false ∧ s.cur < 3 ∧ s.fld Fld.LKP_CORE_STAT_SPARE
      = 2 ∧ s.rst.wdogAt + s.rst.wdogPeriod * 1000000 ≤ s.now)
      (withFld w0 Fld.LKP_CORE_STAT_SPARE 2) ∧
    (fun (s : State) => s.rst.phase = .serving ∧ s.rst.resetN = false ∧ s.cur < 3 ∧ s.fld Fld.LKP_CORE_STAT_SPARE
      ≠ 2 ∧ s.rst.wdogAt + s.rst.wdogPeriod * 1000000 ≤ s.now)
      w0 ∧
    (fun (s : State) => s.resetWidth < 2 ∧ (s.rst.holds.any fun h => decide (h.2 ≤ s.now) && s.causeHolds h.1) =
      true)
      ({ w0 with now := 9, rst := { w0.rst with holds := [(.wharfUe, 9), (.engines, 10)] }, whf := { w0.whf with ueDirty := true } }) ∧
    (fun (s : State) => (s.rst.holds.any fun h => decide (h.2 ≤ s.now) && s.causeHolds h.1) = false)
      ({ w0 with now := 9, rst := { w0.rst with holds := [(.wharfUe, 9), (.engines, 10)] } }) ∧
    (fun (g : Fin 3) (s : State) => g < s.rst.railsUp ∧ s.pwr.stage ≠ .committed)
      2 (wPhase .serving 3) ∧
    (fun (s : State) => s.fld Fld.CLK_LOCK_CORE ≠ 0)
      (withFld w0 Fld.CLK_LOCK_CORE 1) ∧
    (fun (s : State) => s.fld Fld.CLK_FREQ_BUSY = 1)
      (withFld w0 Fld.CLK_FREQ_BUSY 1) := by
  and_intros <;> decide +kernel

theorem witness_RegisterBusReadsAndWrites :
    (fun (a : Nat) (b : BlockDef) (r : RegDef) (s : State) => s.serves .bar0 = true ∧ a % 4 = 0 ∧ findBlock a =
      some b ∧ findReg a = some r ∧ r.half = .whole ∧ s.blkOff b.blk (b.inst a) = false ∧ s.mgmtOnly = false)
      0x610000 (((findBlock 0x610000).getD default)) (((findReg 0x610000).getD default)) (withFld (withFld w0 Fld.EPT_STATUS_LINK 1) Fld.TWP_RST_CAUSE_READY 1) ∧
    (fun (a : Nat) (b : BlockDef) (s : State) => s.serves .bar0 = true ∧ a % 4 = 0 ∧ findBlock a = some b ∧
      s.blkOff b.blk (b.inst a) = true)
      0x610000 (((findBlock 0x610000).getD default)) (withFld w0 Fld.EPT_STATUS_LINK 1) ∧
    (fun (a : Nat) (b : BlockDef) (r : RegDef) (s : State) => s.serves .bar0 = true ∧ a % 4 = 0 ∧ findBlock a =
      some b ∧ findReg a = some r ∧ r.half = .lo ∧ s.blkOff b.blk (b.inst a) = false ∧ s.mgmtOnly = false)
      0x600000 (((findBlock 0x600000).getD default)) (((findReg 0x600000).getD default)) ((withFld (withFld w0 Fld.EPT_STATUS_LINK 1) Fld.TWP_RST_CAUSE_READY 1).updTal fun t => { t with cnt := [(0, 2 ^ 64 - 1)] }) ∧
    (fun (i : Nat) (s : State) => s.serves .bar5 = true ∧ i < 4096 ∧ s.mgmtOnly = false ∧ s.blkOff .tal 0 = false
      ∧ s.flag Fld.TAL_USER_EN_EN = true)
      0 ((withFld (withFld (withFld w0 Fld.EPT_STATUS_LINK 1) Fld.TWP_RST_CAUSE_READY 1) Fld.TAL_USER_EN_EN 1).updTal fun t => { t with cnt := [(0, 5)] }) ∧
    (fun (who : Requester) (addr : Nat) (s : State) => s.serves who = true ∧
      (match who with | .core _ => false | _ => true) = true ∧ 4 < addr % 8)
      .bar0 6 (withFld w0 Fld.EPT_STATUS_LINK 1) ∧
    (fun (a : Nat) (b : BlockDef) (r : RegDef) (s : State) => s.serves .bar0 = true ∧ a % 4 = 0 ∧ findBlock a =
      some b ∧ findReg a = some r ∧ r.half = .whole ∧ r.writable = true ∧ s.blkOff b.blk (b.inst a) = false ∧
      s.mgmtOnly = false ∧ (b.blk = .glb ∨ b.blk = .ldg ∨ b.blk = .rsv ∨ b.blk = .aqd))
      Fld.LDG_CFG_RING_LIMIT_MIB.addr (((findBlock Fld.LDG_CFG_RING_LIMIT_MIB.addr).getD default)) (((findReg Fld.LDG_CFG_RING_LIMIT_MIB.addr).getD default)) (withFld (withFld w0 Fld.EPT_STATUS_LINK 1) Fld.TWP_RST_CAUSE_READY 1) ∧
    (fun (i : Nat) (v : Nat) (s : State) => s.serves .bar4 = true ∧ i < 2048 ∧ v < 2 ^ 32)
      2047 77 (withFld w0 Fld.EPT_STATUS_LINK 1) ∧
    (fun (addr : Nat) (s : State) => s.serves .bar0 = true ∧ addr % 4 ≠ 0)
      6 (withFld w0 Fld.EPT_STATUS_LINK 1) := by
  and_intros <;> decide +kernel

theorem witness_TheWorkingRegistersStayOutOfOtherCommands :
    (fun (c : Instr) => Part.fw ∉ c.mayChange)
      .flr ∧
    (fun (c : Instr) => Part.timeBase ∉ c.mayChange)
      .flr ∧
    (fun (c : Instr) => Part.drives ∉ c.mayChange)
      .flr ∧
    (fun (c : Instr) => Part.latch ∉ c.mayChange)
      .flr ∧
    (fun (c : Instr) => Part.loHeld ∉ c.mayChange)
      .flr ∧
    (fun (c : Instr) => Part.idle ∉ c.mayChange)
      .flr ∧
    (fun (c : Instr) => Part.away ∉ c.mayChange)
      .flr := by
  and_intros <;> decide +kernel

theorem witness_TheDataBlocksStayOutOfOtherCommands :
    (fun (c : Instr) => Part.res ∉ c.mayChange)
      .flr ∧
    (fun (c : Instr) => Part.whf ∉ c.mayChange)
      .flr ∧
    (fun (c : Instr) => Part.cnl ∉ c.mayChange)
      .flr ∧
    (fun (c : Instr) => Part.slc ∉ c.mayChange)
      .flr ∧
    (fun (c : Instr) => Part.cip ∉ c.mayChange)
      .flr ∧
    (fun (c : Instr) => Part.net ∉ c.mayChange)
      .flr := by
  and_intros <;> decide +kernel

theorem witness_TheShelfAndPowerStayOutOfOtherCommands :
    (fun (c : Instr) => Part.shelf ∉ c.mayChange)
      .flr ∧
    (fun (c : Instr) => Part.port ∉ c.mayChange)
      .flr ∧
    (fun (c : Instr) => Part.tal ∉ c.mayChange)
      .flr ∧
    (fun (c : Instr) => Part.rst ∉ c.mayChange)
      .flr ∧
    (fun (c : Instr) => Part.pwr ∉ c.mayChange)
      .flr ∧
    (fun (c : Instr) => Part.ept ∉ c.mayChange)
      .vddTwpFall := by
  and_intros <;> decide +kernel

theorem witness_TheManifestAndPairEnginesStayOutOfOtherCommands :
    (fun (c : Instr) => Part.mft ∉ c.mayChange)
      .vddTwpFall ∧
    (fun (c : Instr) => Part.pair ∉ c.mayChange)
      .flr ∧
    (fun (c : Instr) => Part.peerOut ∉ c.mayChange)
      .flr ∧
    (fun (c : Instr) => Part.out ∉ c.mayChange)
      .vddTwpFall ∧
    (fun (c : Instr) => Part.free ∉ c.mayChange)
      .vddTwpFall ∧
    (fun (c : Instr) => Part.regs ∉ c.mayChange)
      .vddTwpFall := by
  and_intros <;> decide +kernel

theorem witness_TheConfigurationAndEnginesStayOutOfOtherCommands :
    (fun (c : Instr) => Part.mrd ∉ c.mayChange)
      .flr ∧
    (fun (c : Instr) => Part.store ∉ c.mayChange)
      .flr ∧
    (fun (c : Instr) => Part.ary ∉ c.mayChange)
      .flr ∧
    (fun (c : Instr) => Part.host ∉ c.mayChange)
      .flr ∧
    (fun (c : Instr) => Part.brg ∉ c.mayChange)
      .flr ∧
    (fun (c : Instr) => Part.tug ∉ c.mayChange)
      .flr := by
  and_intros <;> decide +kernel

theorem witness_EveryStepKeepsTheMemoryAndTheTimeGrid :
    (fun (s : State) => Memory.wf s.res = true ∧ Tab.wf s.latch = true ∧ Tab.wf s.loHeld = true ∧ s.now % 40 = 0)
      w0 := by
  decide +kernel

theorem witness_EveryStepKeepsTheRegisterStore :
    (fun (s : State) => Tab.wfD regStart s.regs = true)
      w0 := by
  decide +kernel

theorem witness_TheEventLogNeverHoldsMoreThan1024Entries :
    (fun (s : State) => s.mft.events.length ≤ 1024)
      w0 := by
  decide +kernel

end Sys2Proof.Machine
end

/-! What writes and reads make of the fields of a register (00_scope.md, Table 0-4). -/

namespace Sys2Proof.Machine

/-! ## Fields of a register -/

/-- Two fields of a register share no bit. -/
abbrev FieldDef.beside (f g : FieldDef) : Prop := f.lo + f.w ≤ g.lo ∨ g.lo + g.w ≤ f.lo

/-- What `RegDef.apart` says of the list of fields. -/
theorem RegDef.apart_iff {r : RegDef} : r.apart = true ↔
    (∀ f ∈ r.fields, f.lo + f.w ≤ 32 ∧ 0 < f.w) ∧ r.fields.Pairwise FieldDef.beside := by
  simp [RegDef.apart]

theorem FieldDef.of_lt (f : FieldDef) (x : Word32) : f.of x < 2 ^ f.w := bitsOf_lt _ _ _

/-- A field beside the one written reads as before. -/
theorem FieldDef.of_put_beside {f g : FieldDef} (h : f.beside g) (hf : f.lo + f.w ≤ 32) (x : Word32) (v : Nat) :
    g.of (f.put x v) = g.of x := by
  have hlt : setBits x.toNat f.lo f.w v < 2 ^ 32 := setBits_lt _ _ _ _ _ x.isLt hf
  simp only [FieldDef.of, FieldDef.put, BitVec.toNat_ofNat, Nat.mod_eq_of_lt hlt, bitsOf_setBits_apart _ _ _ _ _ _ h]

/-- A field that lies in 32 bits reads the low bits put into it. -/
theorem FieldDef.of_put_same {f : FieldDef} (hf : f.lo + f.w ≤ 32) (x : Word32) (v : Nat) :
    f.of (f.put x v) = v % 2 ^ f.w := by
  have hlt : setBits x.toNat f.lo f.w v < 2 ^ 32 := setBits_lt _ _ _ _ _ x.isLt hf
  simp only [FieldDef.of, FieldDef.put, BitVec.toNat_ofNat, Nat.mod_eq_of_lt hlt, bitsOf_setBits_same]

section Pass

variable {step : Word32 → FieldDef → Word32} {f : FieldDef}

theorem FieldDef.of_foldl_beside {l : List FieldDef} (h : ∀ k ∈ l, ∀ x, f.of (step x k) = f.of x) (x : Word32) :
    f.of (l.foldl step x) = f.of x := by
  induction l generalizing x with
  | nil => rfl
  | cons k l ih =>
    rw [List.foldl_cons, ih fun j hj => h j (List.mem_cons_of_mem _ hj)]
    exact h k List.mem_cons_self x

/-- A pass over fields that share no bit, each step of which leaves the fields beside its own, changes a field as that
field's own step does. -/
theorem FieldDef.of_foldl {l : List FieldDef} {val : Nat → Nat} (hl : l.Pairwise FieldDef.beside) (hf : f ∈ l)
    (hstep : ∀ k ∈ l, k.beside f → ∀ x, f.of (step x k) = f.of x) (hown : ∀ x, f.of (step x f) = val (f.of x))
    (x : Word32) : f.of (l.foldl step x) = val (f.of x) := by
  obtain ⟨l₁, l₂, rfl⟩ := List.append_of_mem hf
  obtain ⟨-, h₂, h₁⟩ := List.pairwise_append.1 hl
  have before : f.of (l₁.foldl step x) = f.of x :=
    FieldDef.of_foldl_beside (fun k hk => hstep k (by simp [hk]) (h₁ k hk f List.mem_cons_self)) x
  have after : ∀ y, f.of (l₂.foldl step y) = f.of y :=
    FieldDef.of_foldl_beside fun k hk => hstep k (by simp [hk]) ((List.pairwise_cons.1 h₂).1 k hk).symm
  rw [List.foldl_append, List.foldl_cons, after, hown, before]

end Pass

/-- What a write of `v` makes of a field's value `x` (R17). -/
def FieldDef.taken (f : FieldDef) (x v : Nat) : Nat :=
  match f.access with
  | .rw => f.store v % 2 ^ f.w
  | .w1c => (BitVec.ofNat 32 x &&& ~~~ BitVec.ofNat 32 v).toNat
  | _ => x

/-- The bits of a field that are not written 1 stay within the field. -/
theorem FieldDef.cleared_lt (f : FieldDef) (hf : f.lo + f.w ≤ 32) (x v : Word32) :
    (BitVec.ofNat 32 (f.of x) &&& ~~~ BitVec.ofNat 32 (f.of v)).toNat < 2 ^ f.w := by
  have hx := f.of_lt x
  have h32 : 2 ^ f.w ≤ 2 ^ 32 := Nat.pow_le_pow_right (by decide) (by omega)
  rw [BitVec.toNat_and, BitVec.toNat_ofNat, Nat.mod_eq_of_lt (by omega)]
  exact Nat.lt_of_le_of_lt Nat.and_le_left hx

/-- A field after its register was written. -/
theorem RegDef.of_written {r : RegDef} {f : FieldDef} (hr : r.apart = true) (hf : f ∈ r.fields) (x v : Word32) :
    f.of (r.written x v) = f.taken (f.of x) (f.of v) := by
  obtain ⟨h32, hl⟩ := RegDef.apart_iff.1 hr
  refine FieldDef.of_foldl (val := fun n => f.taken n (f.of v)) hl hf (fun k hk hkf y => ?_) (fun y => ?_) x
  · split
    · exact FieldDef.of_put_beside hkf (h32 k hk).1 _ _
    · exact FieldDef.of_put_beside hkf (h32 k hk).1 _ _
    · rfl
  · have hin := (h32 f hf).1
    unfold FieldDef.taken
    cases f.access <;> dsimp only
    case rw => exact FieldDef.of_put_same hin _ _
    case w1c => rw [FieldDef.of_put_same hin, Nat.mod_eq_of_lt (f.cleared_lt hin y v)]

/-- A field after its register was read: RC fields are clear. -/
theorem RegDef.of_afterRead {r : RegDef} {f : FieldDef} (hr : r.apart = true) (hf : f ∈ r.fields) (x : Word32) :
    f.of (r.afterRead x) = if f.access = .rc then 0 else f.of x := by
  obtain ⟨h32, hl⟩ := RegDef.apart_iff.1 hr
  refine FieldDef.of_foldl (val := fun n => if f.access = .rc then 0 else n) hl hf (fun k hk hkf y => ?_)
    (fun y => ?_) x
  · split
    · exact FieldDef.of_put_beside hkf (h32 k hk).1 _ _
    · rfl
  · split
    · rw [FieldDef.of_put_same (h32 f hf).1, Nat.zero_mod]
    · rfl

/-- The field shows bit `i` of its register on a read (R17). -/
def FieldDef.showsBit (f : FieldDef) (i : Nat) : Bool :=
  !decide (f.access = .wo ∨ f.access = .wok) && decide (f.lo ≤ i ∧ i < f.lo + f.w)

/-- A bit shows as it is where a field shows it, and else reads 0 (R17, R18). -/
theorem RegDef.visible_testBit (r : RegDef) (v i : Nat) :
    (r.visible v).testBit i = (r.fields.any (·.showsBit i) && v.testBit i) := by
  have pass : ∀ (l : List FieldDef) (x : Nat),
      (l.foldl (fun x f => if f.access = .wo ∨ f.access = .wok then x else setBits x f.lo f.w (bitsOf v f.lo f.w))
        x).testBit i = if l.any (·.showsBit i) then v.testBit i else x.testBit i := by
    intro l
    induction l with
    | nil => intro x; rfl
    | cons f l ih =>
      intro x
      rw [List.foldl_cons, ih, List.any_cons]
      by_cases hl : l.any (·.showsBit i) = true
      · simp [hl]
      · by_cases hw : f.access = .wo ∨ f.access = .wok
        · simp [hw, FieldDef.showsBit]
        · by_cases hi : f.lo ≤ i ∧ i < f.lo + f.w
          · have hd : i - f.lo < f.w ∧ i - f.lo + f.lo = i := by omega
            simp [hw, hi, FieldDef.showsBit, setBits_testBit, bitsOf_testBit, hd]
          · simp [hw, hi, FieldDef.showsBit, setBits_testBit]
  have h := pass r.fields 0
  rw [Nat.zero_testBit] at h
  exact h.trans (by cases r.fields.any (·.showsBit i) <;> simp)

/-- A bit of no field reads 0 (R18). -/
theorem RegDef.visible_reserved {r : RegDef} {i : Nat}
    (h : r.fields.all (fun f => decide (i < f.lo ∨ f.lo + f.w ≤ i)) = true) (v : Nat) :
    (r.visible v).testBit i = false := by
  have hnone : r.fields.any (·.showsBit i) = false := by
    rw [List.any_eq_false]
    intro f hf
    have := of_decide_eq_true (List.all_eq_true.1 h f hf)
    simp only [FieldDef.showsBit, Bool.and_eq_true, decide_eq_true_eq]
    omega
  rw [RegDef.visible_testBit, hnone, Bool.false_and]

/-- Of fields that share no bit, one alone can show a given bit. -/
theorem RegDef.any_showsBit {r : RegDef} {f : FieldDef} (hr : r.apart = true) (hf : f ∈ r.fields) {i : Nat}
    (hi : f.lo ≤ i ∧ i < f.lo + f.w) : r.fields.any (·.showsBit i) = f.showsBit i := by
  rw [Bool.eq_iff_iff, List.any_eq_true]
  refine ⟨fun ⟨g, hg, hs⟩ => ?_, fun hs => ⟨f, hf, hs⟩⟩
  have hgi : g.lo ≤ i ∧ i < g.lo + g.w := by
    simp only [FieldDef.showsBit, Bool.and_eq_true, decide_eq_true_eq] at hs
    exact hs.2
  have symm : Std.Symm FieldDef.beside := ⟨fun _ _ => Or.symm⟩
  by_cases hgf : g = f
  · exact hgf ▸ hs
  · have : g.beside f := (RegDef.apart_iff.1 hr).2.forall hg hf hgf
    omega

/-- What a read shows of a field (R17). -/
theorem RegDef.bitsOf_visible {r : RegDef} {f : FieldDef} (hr : r.apart = true) (hf : f ∈ r.fields) (v : Nat) :
    bitsOf (r.visible v) f.lo f.w = if f.access = .wo ∨ f.access = .wok then 0 else bitsOf v f.lo f.w := by
  apply Nat.eq_of_testBit_eq
  intro i
  rw [bitsOf_testBit]
  by_cases hi : i < f.w
  · have hin : f.lo ≤ i + f.lo ∧ i + f.lo < f.lo + f.w := by omega
    rw [RegDef.visible_testBit, RegDef.any_showsBit hr hf hin]
    split <;> simp [FieldDef.showsBit, bitsOf_testBit, *]
  · split <;> simp [bitsOf_testBit, hi]

/-- Every register of the map has its fields apart. -/
theorem blockMap_apart : ∀ b ∈ blockMap, ∀ r ∈ b.regs, r.apart = true := by decide +kernel

/-- Settles O13: a pass over a register's fields changes each as its access type says. -/
theorem fieldsActAsTheirAccessTypesSay : Obligations.FieldsActAsTheirAccessTypesSay := by
  refine ⟨blockMap_apart, ?_, ?_⟩
  · rintro r f x v ⟨hr, hf⟩
    rw [RegDef.of_written hr hf]
    refine ⟨?_, ?_, ?_⟩
    · rintro (h | h) <;> simp [FieldDef.taken, h]
    · intro h; simp [FieldDef.taken, h]
    · intro h; simp [FieldDef.taken, h]
  · rintro r f x ⟨hr, hf⟩
    exact ⟨RegDef.bitsOf_visible hr hf _, RegDef.of_afterRead hr hf x⟩

end Sys2Proof.Machine

/-! The register bus: accesses served at once, one bus word, the endpoint's spaces (R17 to R21, R372 to R377). -/

namespace Sys2Proof.Machine

/-! ## Accesses that are served at once -/

/-- A host's request is no wake event on a device that is awake (R345, R350). -/
theorem wakeUp_host_of_awake {s : State} (h : s.awake = true) : s.wakeUp 2 0 = s := by
  simp only [State.awake, Bool.and_eq_true, beq_iff_eq, decide_eq_true_eq] at h
  obtain ⟨hstage, hcur⟩ := h
  have hno : s.wakesFrom s.cur 2 0 = false := by
    have h2 : s.cur ≠ 2 ∧ s.cur ≠ 3 := by omega
    simp [State.wakesFrom, h2]
  simp [State.wakeUp, hstage, hno]

/-- A host's request to a device that is awake and whose link is up is served as it arrives (R379). -/
theorem tlp_of_awake {s : State} (hup : s.eptUp = true) (h : s.awake = true) (x : Tlp) : s.tlp x = s.serveTlp x := by
  have hw := wakeUp_host_of_awake h
  simp only [State.awake, Bool.and_eq_true, beq_iff_eq, decide_eq_true_eq] at h
  obtain ⟨hstage, hcur⟩ := h
  have hd : ¬ (s.pwrDepth = 2 ∨ s.pwrDepth = 3) := by
    have : s.fld Fld.TWP_PWR_STATE_CUR ≤ 1 := hcur
    simp only [State.pwrDepth, hstage, reduceCtorEq, if_false]
    omega
  simp [State.tlp, hup, hw, hd]

theorem serves_canAccess {s : State} {who : Requester} (h : s.serves who = true) : s.canAccess who = true :=
  (Bool.and_eq_true_iff.1 h).1

/-- A read that is served at once. -/
theorem exec_registerRead {s : State} {who : Requester} (h : s.serves who = true) (addr : Nat) (eight : Bool) :
    exec (.registerRead who addr eight) s = s.registerRead who addr eight := by
  obtain ⟨hup, hawake⟩ := Bool.and_eq_true_iff.1 h
  cases who
  case core c => rfl
  all_goals exact tlp_of_awake hup hawake _

/-- A write that is served at once. -/
theorem exec_registerWrite {s : State} {who : Requester} (h : s.serves who = true) (addr v : Nat) (eight : Bool) :
    exec (.registerWrite who addr v eight) s = s.registerWrite who addr v eight := by
  obtain ⟨hup, hawake⟩ := Bool.and_eq_true_iff.1 h
  cases who
  case core c => rfl
  all_goals exact tlp_of_awake hup hawake _

/-- A read of one aligned word of BAR0 is one bus read, whose data leave last (R372). -/
theorem registerRead_bar0 {s : State} {a : Nat} (h : s.serves .bar0 = true) (ha : a % 4 = 0) :
    s.registerRead .bar0 a false =
      .next ((s.busRead .bar0 a).1.emit (.readData .bar0 ((s.busRead .bar0 a).2 % 2 ^ 32))) := by
  have hunit : ¬ 8 < a % 8 + 4 := by omega
  have hword : a / 4 * 4 = a := by omega
  simp [State.registerRead, serves_canAccess h, hunit, hword, ha, State.wordRead]

/-- A write of one aligned word of BAR0 is one bus write (R372). -/
theorem registerWrite_bar0 {s : State} {a : Nat} (h : s.serves .bar0 = true) (ha : a % 4 = 0) (v : Nat) :
    s.registerWrite .bar0 a v false = s.busWrite .bar0 a (BitVec.ofNat 32 v) := by
  have hv : BitVec.ofNat 32 (v % 2 ^ 32) = BitVec.ofNat 32 v := by simp [← BitVec.toNat_inj]
  simp only [State.registerWrite, serves_canAccess h, ha, State.wordWrite, hv]
  simp

/-! ## Reads and writes of one bus word -/

section Bus

variable {s : State} {who : Requester} {a : Nat} {b : BlockDef} {r : RegDef}

/-- A domain that is off reads 0 and the access is recorded (R420). -/
theorem busRead_off (hb : findBlock a = some b) (hoff : s.blkOff b.blk (b.inst a) = true) :
    s.busRead who a = (s.raise Fld.CLK_LOL_OFF_READ, 0) := by
  simp [State.busRead, hb, hoff]

/-- A read of a register whose block is on. -/
theorem busRead_reg (hb : findBlock a = some b) (hr : findReg a = some r) (hon : s.blkOff b.blk (b.inst a) = false)
    (hm : s.mgmtOnly = false) : s.busRead who a = s.readReg who b r a := by
  simp [State.busRead, hb, hr, hon, hm]

/-- A read where no register is changes nothing and shows a window or 0 (R18). -/
theorem busRead_unassigned (hr : findReg a = none)
    (hon : (findBlock a).all (fun b => !s.blkOff b.blk (b.inst a)) = true) :
    s.busRead who a = (s, 0) ∨ s.busRead who a = (s, s.windowWord a) := by
  unfold State.busRead
  cases hb : findBlock a with
  | none => exact .inl rfl
  | some b =>
    have hoff : s.blkOff b.blk (b.inst a) = false := by simpa [hb] using hon
    cases hm : s.mgmtOnly && !servedStandby b.blk
    · exact .inr (by simp only [hoff, hm, hr, Bool.false_eq_true, if_false])
    · exact .inl (by simp only [hoff, hm, Bool.false_eq_true, if_false, if_true])

/-- Outside its windows BAR0 shows 0 where no register is (R18). -/
theorem windowWord_outside (hcap : ¬(0x100 ≤ a ∧ a < 0x1000)) (hmft : ¬(0x510000 ≤ a ∧ a < 0x530000))
    (hpound : ¬(0xA00000 ≤ a ∧ a < 0xC00000)) : s.windowWord a = 0 := by
  have hreq : ¬(0x510000 ≤ a ∧ a < 0x520000) := by omega
  have hrcpt : ¬(0x520000 ≤ a ∧ a < 0x530000) := by omega
  simp [State.windowWord, hcap, hreq, hrcpt, hpound]

/-- A write where neither a register nor the request buffer is changes nothing (R18). -/
theorem busWrite_unassigned (hr : findReg a = none) (hbuf : ¬(0x510000 ≤ a ∧ a < 0x520000))
    (hon : (findBlock a).all (fun b => !s.blkOff b.blk (b.inst a)) = true) (v : Word32) :
    s.busWrite who a v = .next s := by
  unfold State.busWrite
  cases hb : findBlock a with
  | none => rfl
  | some b =>
    have hoff : s.blkOff b.blk (b.inst a) = false := by simpa [hb] using hon
    cases hm : s.mgmtOnly && !servedStandby b.blk <;> simp [hoff, hr, hbuf]

/-- A write of a whole register that takes writes, in a block that is on. -/
theorem busWrite_reg (hb : findBlock a = some b) (hr : findReg a = some r) (hw : r.half = .whole)
    (hwr : r.writable = true) (hon : s.blkOff b.blk (b.inst a) = false) (hm : s.mgmtOnly = false) (v : Word32) :
    s.busWrite who a v = s.writeReg who b a v := by
  simp [State.busWrite, hb, hr, hw, hwr, hon, hm]

/-- A read of a register sends nothing and leaves the moored tables and the endpoint. -/
theorem readReg_frame : (s.readReg who b r a).1.out = s.out ∧ (s.readReg who b r a).1.mrd = s.mrd ∧
    (s.readReg who b r a).1.ept = s.ept := by
  unfold State.readReg
  dsimp only
  split <;> split <;> simp [State.setLatch]

/-- Whichever half it is of, a register reads as the visible fields of some value. -/
theorem readReg_visible : ∃ v, (s.readReg who b r a).2 = r.visible v := by
  unfold State.readReg
  cases r.half <;> exact ⟨_, rfl⟩

theorem readReg_whole (hw : r.half = .whole) : (s.readReg who b r a).2 = r.visible (s.view b a) := by
  simp [State.readReg, hw]

theorem readReg_lo (hl : r.half = .lo) : (s.readReg who b r a).2 = r.visible (s.view b a) := by
  simp [State.readReg, hl]

/-- A read of LO latches HI for its requester (R19, R421). -/
theorem readReg_latched (hl : r.half = .lo) :
    (s.readReg who b r a).1.latched b who a = some (s.view b (a + 4)) := by
  simp [State.readReg, hl, State.latched, State.setLatch]

end Bus

/-- Settles O7: only fields show (`visible_reserved`), and no register is found at an unassigned offset. -/
theorem reservedBitsAndUnassignedOffsetsReadZero : Obligations.ReservedBitsAndUnassignedOffsetsReadZero := by
  refine ⟨fun r v i h => RegDef.visible_reserved h v, ?_, ?_, ?_⟩
  · rintro a b r s ⟨hs, ha, hb, hr⟩ ⟨hon, hm⟩
    obtain ⟨v, hv⟩ := readReg_visible (s := s) (who := .bar0) (a := a) (b := b) (r := r)
    refine ⟨_, (exec_registerRead hs a false).trans (registerRead_bar0 hs ha), r.visible v % 2 ^ 32, ?_,
      fun i hi => ?_⟩
    · rw [busRead_reg hb hr hon hm, hv, emit_out, readReg_frame.1]
      simp
    · rw [Nat.testBit_mod_two_pow, RegDef.visible_reserved hi, Bool.and_false]
  · rintro a s ⟨hs, ha, hr⟩ ⟨hcap, hmft, hpound⟩ hon
    have hread : s.busRead .bar0 a = (s, 0) := by
      have := busRead_unassigned (who := .bar0) hr hon
      rwa [windowWord_outside hcap hmft hpound, or_self] at this
    exact ⟨_, (exec_registerRead hs a false).trans (registerRead_bar0 hs ha), by rw [hread]; rfl⟩
  · rintro a v s ⟨hs, ha, hr⟩ hbuf hon
    exact ⟨s, ((exec_registerWrite hs a v false).trans (registerWrite_bar0 hs ha v)).trans
      (busWrite_unassigned hr hbuf hon _), rfl⟩

/-! ## The other spaces of the endpoint -/

/-- A read that crosses its 8-byte unit is aborted (R372). -/
theorem registerRead_crossing {s : State} {who : Requester} {addr : Nat} (h : s.serves who = true)
    (hwho : ∀ c, who ≠ .core c) (ha : 4 < addr % 8) :
    s.registerRead who addr false = .next (s.emit .completerAbort) := by
  have hunit : 8 < addr % 8 + 4 := by omega
  cases who
  case core c => exact absurd rfl (hwho c)
  all_goals simp [State.registerRead, serves_canAccess h, hunit]

/-- A counter field advanced (R17). -/
theorem fld_count (s : State) {f : Fld} (hf : f.lo + f.w ≤ 32) (n : Nat) :
    (s.count f n).fld f = min (s.fld f + n) (2 ^ f.w - 1) := by
  have : 0 < 2 ^ f.w := Nat.two_pow_pos _
  rw [State.count, fld_setFld_same _ _ _ hf, Nat.mod_eq_of_lt (by omega)]

/-- A host's write that is not one aligned word is discarded and counted (R372). -/
theorem registerWrite_unaligned {s : State} {addr : Nat} (h : s.serves .bar0 = true) (ha : addr % 4 ≠ 0) (v : Nat) :
    s.registerWrite .bar0 addr v false = .next (s.count Fld.EPT_ERR_STAT_DISCARDED 1) := by
  simp [State.registerWrite, serves_canAccess h, ha]

/-- A write of the data word of MSI-X entry `i` (R375). -/
theorem registerWrite_msixData {s : State} {i v : Nat} (h : s.serves .bar4 = true) (hi : i < 2048) (hv : v < 2 ^ 32) :
    s.registerWrite .bar4 (16 * i + 8) v false =
      .next (s.updEpt fun e => { e with msix := e.msix.upd i fun m => { m with data := v } }) := by
  have halign : (16 * i + 8) % 4 = 0 := by omega
  have htable : 16 * i + 8 < 0x8000 := by omega
  have hentry : (16 * i + 8) / 16 = i := by omega
  have hdata : (16 * i + 8) % 16 = 8 := by omega
  have hval : v % 4294967296 = v := Nat.mod_eq_of_lt hv
  simp [State.registerWrite, serves_canAccess h, halign, State.wordWrite, State.bar4Write, htable, hentry, hdata, hval]

section UserPage

variable {s : State} {i : Nat}

/-- While the page is enabled its first 4,096 values are the counters (R377, R407). -/
theorem userWord_counter (hi : i < 4096) (hen : s.flag Fld.TAL_USER_EN_EN = true) :
    s.userWord (8 * i) = s.tal.cnt.get i := by
  have hpage : 8 * i < 0x8000 := by omega
  simp [State.userWord, hpage, hen]

/-- The low word of a value of the page; its high word is latched (R377, R421). -/
theorem bar5Read_lo {b : BlockDef} (hb : findBlock 0x600000 = some b) (hm : s.mgmtOnly = false)
    (hon : s.blkOff .tal 0 = false) : s.bar5Read (8 * i) =
      (s.setLatch b .bar5 (8 * i) (s.userWord (8 * i) / 2 ^ 32), s.userWord (8 * i) % 2 ^ 32) := by
  have hunit : 8 * i / 8 * 8 = 8 * i := by omega
  have hlo : 8 * i % 8 = 0 := by omega
  simp only [State.bar5Read, hb, hm, hon, hunit, hlo]
  simp

/-- The high word of a value of the page, latched before (R377, R421). -/
theorem bar5Read_hi {b : BlockDef} {v : Nat} (hb : findBlock 0x600000 = some b) (hm : s.mgmtOnly = false)
    (hon : s.blkOff .tal 0 = false) (hen : s.flag Fld.TAL_USER_EN_EN = true)
    (hl : s.latched b .bar5 (8 * i) = some v) : s.bar5Read (8 * i + 4) = (s, v) := by
  have hunit : (8 * i + 4) / 8 * 8 = 8 * i := by omega
  have hhi : (8 * i + 4) % 8 ≠ 0 := by omega
  simp only [State.bar5Read, hb, hm, hon, hunit, hhi, hen, hl]
  simp

/-- A read of a whole counter by a program on the user tally page (R377, R407). -/
theorem registerRead_bar5 (h : s.serves .bar5 = true) (hi : i < 4096) (hm : s.mgmtOnly = false)
    (hon : s.blkOff .tal 0 = false) (hen : s.flag Fld.TAL_USER_EN_EN = true) :
    ∃ b, s.registerRead .bar5 (8 * i) true =
      .next ((s.setLatch b .bar5 (8 * i) (s.tal.cnt.get i / 2 ^ 32)).emit
        (.readData .bar5 (s.tal.cnt.get i % 2 ^ 64))) := by
  obtain ⟨b, hb⟩ : ∃ b, findBlock 0x600000 = some b := ⟨_, rfl⟩
  refine ⟨b, ?_⟩
  have hlo := bar5Read_lo (i := i) hb hm hon
  rw [userWord_counter hi hen] at hlo
  generalize ht : s.setLatch b .bar5 (8 * i) (s.tal.cnt.get i / 2 ^ 32) = t at hlo ⊢
  have hhi : t.bar5Read (8 * i + 4) = (t, s.tal.cnt.get i / 2 ^ 32) := by
    subst ht
    refine bar5Read_hi hb hm hon hen ?_
    simp [State.latched, State.setLatch]
  have hunit : 8 * i / 4 * 4 = 8 * i := by omega
  have halign : 8 * i % 4 = 0 := by omega
  simp only [State.registerRead, serves_canAccess h, State.wordRead, hunit, halign, hlo, hhi]
  simp [Nat.mod_add_div]

end UserPage

/-- A configuration write of a register stores what its access types make of the value and leaves the others (R17). -/
theorem cfgWrite_reg {s : State} {a : Nat} {r : RegDef} (hr : findReg a = some r) (v : Word32) (x : Nat) :
    (s.cfgWrite a v).reg x = if a = x then r.written (s.reg a) v else s.reg x := by
  unfold State.cfgWrite
  rw [hr]
  dsimp only
  split <;> simp [reg_setReg]

/-- A block whose registers have no effects of their own takes a write as configuration. -/
theorem writeReg_plain {s : State} {who : Requester} {b : BlockDef}
    (hb : b.blk = .glb ∨ b.blk = .ldg ∨ b.blk = .rsv ∨ b.blk = .aqd) (a : Nat) (v : Word32) :
    s.writeReg who b a v = .next (s.cfgWrite a v) := by
  rcases hb with hb | hb | hb | hb <;> simp [State.writeReg, hb]

/-- Settles O49, one lemma of the register bus for each clause. -/
theorem registerBusReadsAndWrites : Obligations.RegisterBusReadsAndWrites := by
  refine ⟨?_, ?_, ?_, ?_, ?_, ?_, ?_, ?_⟩
  · rintro a b r s ⟨hs, ha, hb, hr, hw⟩ ⟨hon, hm⟩
    refine ⟨_, (exec_registerRead hs a false).trans (registerRead_bar0 hs ha), ?_⟩
    rw [busRead_reg hb hr hon hm, readReg_whole hw]
    simp [readReg_frame]
  · rintro a b s ⟨hs, ha, hb, hoff⟩
    refine ⟨_, (exec_registerRead hs a false).trans (registerRead_bar0 hs ha), ?_⟩
    rw [busRead_off hb hoff]
    refine ⟨by simp, ?_, by simp⟩
    rw [emit_flag, State.flag, State.raise, fld_setFld_same _ _ _ (by decide)]
    rfl
  · rintro a b r s ⟨hs, ha, hb, hr, hl⟩ ⟨hon, hm⟩
    refine ⟨_, (exec_registerRead hs a false).trans (registerRead_bar0 hs ha), ?_⟩
    rw [busRead_reg hb hr hon hm, readReg_lo hl]
    exact ⟨readReg_latched hl, by simp⟩
  · rintro i s ⟨hs, hi, hm, hon, hen⟩
    obtain ⟨b, hread⟩ := registerRead_bar5 hs hi hm hon hen
    exact ⟨_, (exec_registerRead hs _ true).trans hread, by simp, rfl, rfl⟩
  · rintro who addr s ⟨hs, hwho, ha⟩
    have hhost : ∀ c, who ≠ .core c := by rintro c rfl; cases hwho
    exact ⟨_, (exec_registerRead hs addr false).trans (registerRead_crossing hs hhost ha), by simp, rfl, rfl⟩
  · rintro a v b r s ⟨hs, ha, hb, hr, hw, hwr⟩ ⟨hon, hm, hplain⟩
    refine ⟨_, ((exec_registerWrite hs a v false).trans (registerWrite_bar0 hs ha v)).trans
      ((busWrite_reg hb hr hw hwr hon hm _).trans (writeReg_plain hplain a _)), ?_, by simp, by simp, fun x hx => ?_⟩
    · rw [cfgWrite_reg hr, if_pos rfl]
    · rw [cfgWrite_reg hr, if_neg (Ne.symm hx)]
  · rintro i v s ⟨hs, hi, hv⟩
    exact ⟨_, (exec_registerWrite hs _ v false).trans (registerWrite_msixData hs hi hv), by simp, by simp, rfl, rfl⟩
  · rintro addr v s ⟨hs, ha⟩
    exact ⟨_, (exec_registerWrite hs addr v false).trans (registerWrite_unaligned hs ha v), fld_count s (by decide) 1,
      by simp⟩

end Sys2Proof.Machine

/-! Which registers a command writes: those of its own block (Table 22-1). -/

namespace Sys2Proof.Machine

/-! ## Where the registers of a block lie (Table 22-1) -/

theorem blockMap_rises : blockMap.Pairwise fun b c => b.last < c.base := by decide +kernel

/-- An offset in the range of a block of the map lies in that block. -/
theorem findBlock_of_mem {b : BlockDef} {a : Nat} (hb : b ∈ blockMap) (ha : b.base ≤ a ∧ a ≤ b.last) :
    findBlock a = some b := by
  obtain ⟨l₁, l₂, hl⟩ := List.append_of_mem hb
  refine List.find?_eq_some_iff_append.2 ⟨by simp [ha], l₁, l₂, hl, fun c hc => ?_⟩
  have hrise := blockMap_rises
  rw [hl] at hrise
  have hlast : c.last < b.base := (List.pairwise_append.1 hrise).2.2 c hc b List.mem_cons_self
  have hout : ¬ a ≤ c.last := by omega
  simp [hout]

theorem blkAt_of_row {k : Blk} {b : BlockDef} {a : Nat} (hb : blockMap.find? (·.blk == k) = some b)
    (ha : b.base ≤ a ∧ a ≤ b.last) : blkAt a = some k := by
  have hk : b.blk = k := by simpa using List.find?_some hb
  rw [blkAt, findBlock_of_mem (List.mem_of_find?_eq_some hb) ha, Option.map_some, hk]

section Blocks

variable {a : Nat}

theorem blkAt_pdl (h : 0x200000 ≤ a ∧ a ≤ 0x27FFFF) : blkAt a = some .pdl := blkAt_of_row (k := .pdl) rfl h
theorem blkAt_wir (h : 0x280000 ≤ a ∧ a ≤ 0x2FFFFF) : blkAt a = some .wir := blkAt_of_row (k := .wir) rfl h
theorem blkAt_ept (h : 0x400000 ≤ a ∧ a ≤ 0x4FFFFF) : blkAt a = some .ept := blkAt_of_row (k := .ept) rfl h
theorem blkAt_tal (h : 0x600000 ≤ a ∧ a ≤ 0x7FFFFF) : blkAt a = some .tal := blkAt_of_row (k := .tal) rfl h
theorem blkAt_cnl (h : 0x800000 ≤ a ∧ a ≤ 0xBFFFFF) : blkAt a = some .cnl := blkAt_of_row (k := .cnl) rfl h
theorem blkAt_slc (h : 0xE00000 ≤ a ∧ a ≤ 0xFFFFFF) : blkAt a = some .slc := blkAt_of_row (k := .slc) rfl h
theorem blkAt_brg (h : 0x1000000 ≤ a ∧ a ≤ 0x1FFFFFF) : blkAt a = some .brg := blkAt_of_row (k := .brg) rfl h
theorem blkAt_tug (h : 0x2000000 ≤ a ∧ a ≤ 0x27FFFFF) : blkAt a = some .tug := blkAt_of_row (k := .tug) rfl h
theorem blkAt_net (h : 0x2800000 ≤ a ∧ a ≤ 0x2BFFFFF) : blkAt a = some .net := blkAt_of_row (k := .net) rfl h
theorem blkAt_drv (h : 0x2C00000 ≤ a ∧ a ≤ 0x2FFFFFF) : blkAt a = some .drv := blkAt_of_row (k := .drv) rfl h
theorem blkAt_ary (h : 0x3000000 ≤ a ∧ a ≤ 0x33FFFFF) : blkAt a = some .ary := blkAt_of_row (k := .ary) rfl h
theorem blkAt_spb (h : 0x3500000 ≤ a ∧ a ≤ 0x35FFFFF) : blkAt a = some .spb := blkAt_of_row (k := .spb) rfl h
theorem blkAt_rsv (h : 0x3600000 ≤ a ∧ a ≤ 0x37FFFFF) : blkAt a = some .rsv := blkAt_of_row (k := .rsv) rfl h

end Blocks

section Arrays

variable {i n : Nat}

theorem blkAt_PDL_STATE (h : i < 48) : blkAt (Reg.PDL_STATE i) = some .pdl :=
  blkAt_pdl (by simp only [Reg.PDL_STATE]; omega)
theorem blkAt_PDL_CNT (h : i < 48) : blkAt (Reg.PDL_CNT i) = some .pdl :=
  blkAt_pdl (by simp only [Reg.PDL_CNT]; omega)
theorem blkAt_WIR_STATE (h : i < 2) : blkAt (Reg.WIR_STATE i) = some .wir :=
  blkAt_wir (by simp only [Reg.WIR_STATE]; omega)
theorem blkAt_EPT_WIN_CTL (h : i < 64) : blkAt (Reg.EPT_WIN_CTL i) = some .ept :=
  blkAt_ept (by simp only [Reg.EPT_WIN_CTL]; omega)
theorem blkAt_TAL_SEL (h : i < 4096) : blkAt (Reg.TAL_SEL i) = some .tal :=
  blkAt_tal (by simp only [Reg.TAL_SEL]; omega)
theorem blkAt_TAL_THR (h : i < 4096) : blkAt (Reg.TAL_THR i) = some .tal :=
  blkAt_tal (by simp only [Reg.TAL_THR]; omega)
theorem blkAt_CNL_PART_CFG (h : i < 7) : blkAt (Reg.CNL_PART_CFG i) = some .cnl :=
  blkAt_cnl (by simp only [Reg.CNL_PART_CFG]; omega)
theorem blkAt_SLC_PORT_CFG (h : i < 128) : blkAt (Reg.SLC_PORT_CFG i) = some .slc :=
  blkAt_slc (by simp only [Reg.SLC_PORT_CFG]; omega)
theorem blkAt_BRG_STATUS (h : i < 256) : blkAt (Reg.BRG_STATUS i) = some .brg :=
  blkAt_brg (by simp only [Reg.BRG_STATUS]; omega)
theorem blkAt_BRG_BANK_CTL (h : i < 256) : blkAt (Reg.BRG_BANK_CTL i) = some .brg :=
  blkAt_brg (by simp only [Reg.BRG_BANK_CTL]; omega)
theorem blkAt_BRG_BANK_STAT (h : i < 256) : blkAt (Reg.BRG_BANK_STAT i) = some .brg :=
  blkAt_brg (by simp only [Reg.BRG_BANK_STAT]; omega)
theorem blkAt_TUG_QPT_DATA (h : i < 32) : blkAt (Reg.TUG_QPT_DATA i) = some .tug :=
  blkAt_tug (by simp only [Reg.TUG_QPT_DATA]; omega)
theorem blkAt_NET_QUAD_STAT (h : i < 32) : blkAt (Reg.NET_QUAD_STAT i) = some .net :=
  blkAt_net (by simp only [Reg.NET_QUAD_STAT]; omega)
theorem blkAt_NET_PORT_STAT (h : i < 128) : blkAt (Reg.NET_PORT_STAT (quadOf i) (laneOf i)) = some .net :=
  blkAt_net (by simp only [Reg.NET_PORT_STAT, quadOf, laneOf]; omega)
theorem blkAt_NET_CNT_LO (h : i < 128) (hn : n < 32) : blkAt (Reg.NET_CNT_LO (quadOf i) (laneOf i) n) = some .net :=
  blkAt_net (by simp only [Reg.NET_CNT_LO, quadOf, laneOf]; omega)
theorem blkAt_NET_CNT_HI (h : i < 128) (hn : n < 32) : blkAt (Reg.NET_CNT_HI (quadOf i) (laneOf i) n) = some .net :=
  blkAt_net (by simp only [Reg.NET_CNT_HI, quadOf, laneOf]; omega)
theorem blkAt_DRV_STATE (h : i < 48) : blkAt (Reg.DRV_STATE i) = some .drv :=
  blkAt_drv (by simp only [Reg.DRV_STATE]; omega)
theorem blkAt_DRV_QUEUES (h : i < 48) : blkAt (Reg.DRV_QUEUES i) = some .drv :=
  blkAt_drv (by simp only [Reg.DRV_QUEUES]; omega)
theorem blkAt_DRV_MI_STAT (h : i < 48) : blkAt (Reg.DRV_MI_STAT i) = some .drv :=
  blkAt_drv (by simp only [Reg.DRV_MI_STAT]; omega)
theorem blkAt_DRV_GRP_CFG (h : i < 16) : blkAt (Reg.DRV_GRP_CFG i) = some .drv :=
  blkAt_drv (by simp only [Reg.DRV_GRP_CFG]; omega)
theorem blkAt_DRV_GRP_STAT (h : i < 16) : blkAt (Reg.DRV_GRP_STAT i) = some .drv :=
  blkAt_drv (by simp only [Reg.DRV_GRP_STAT]; omega)
theorem blkAt_ARY_REM_IDX (h : i < 16) : blkAt (Reg.ARY_REM_IDX i) = some .ary :=
  blkAt_ary (by simp only [Reg.ARY_REM_IDX]; omega)
theorem blkAt_ARY_REM_LO (h : i < 16) : blkAt (Reg.ARY_REM_LO i) = some .ary :=
  blkAt_ary (by simp only [Reg.ARY_REM_LO]; omega)
theorem blkAt_ARY_REM_HI (h : i < 16) : blkAt (Reg.ARY_REM_HI i) = some .ary :=
  blkAt_ary (by simp only [Reg.ARY_REM_HI]; omega)
theorem blkAt_SPB_BANK_CTL (h : i < 16) : blkAt (Reg.SPB_BANK_CTL i) = some .spb :=
  blkAt_spb (by simp only [Reg.SPB_BANK_CTL]; omega)
theorem blkAt_SPB_BANK_STAT (h : i < 16) : blkAt (Reg.SPB_BANK_STAT i) = some .spb :=
  blkAt_spb (by simp only [Reg.SPB_BANK_STAT]; omega)
theorem blkAt_RSV_STACK_STAT (h : i < 4) : blkAt (Reg.RSV_STACK_STAT i) = some .rsv :=
  blkAt_rsv (by simp only [Reg.RSV_STACK_STAT]; omega)

end Arrays

/-! ## Operations that write registers of one block alone -/

/-- Every register outside block `k` reads in `t` as in `s`. -/
def State.OnlyIn (s : State) (k : Blk) (t : State) : Prop := ∀ x, blkAt x ≠ some k → t.reg x = s.reg x

/-- The command answers a next state, in which every register outside block `k` reads as in `s`. -/
def Result.OnlyIn (r : Result) (s : State) (k : Blk) : Prop := ∃ t, r = .next t ∧ s.OnlyIn k t

theorem State.OnlyIn.next {s t : State} {k : Blk} (h : s.OnlyIn k t) : Result.OnlyIn (.next t) s k := ⟨t, rfl, h⟩

theorem State.onlyIn_self (s : State) (k : Blk) : s.OnlyIn k s := fun _ _ => rfl

theorem Result.onlyIn_self (s : State) (k : Blk) : Result.OnlyIn (.next s) s k := (s.onlyIn_self k).next

theorem Result.OnlyIn.ite {r r' : Result} {s : State} {k : Blk} {c : Prop} [Decidable c] (hr : Result.OnlyIn r s k)
    (hr' : Result.OnlyIn r' s k) : Result.OnlyIn (if c then r else r') s k := by
  split
  · exact hr
  · exact hr'

namespace State.OnlyIn

variable {s t u : State} {k : Blk} {a : Nat} {f : Fld}

theorem sameRegs (h : s.OnlyIn k t) (hu : u.regs = t.regs) : s.OnlyIn k u := fun x hx => by
  rw [State.reg, hu]; exact h x hx

theorem setReg (h : s.OnlyIn k t) (ha : blkAt a = some k) (v : Word32) : s.OnlyIn k (t.setReg a v) := fun x hx => by
  rw [reg_setReg_ne t v (by rintro rfl; exact hx ha)]; exact h x hx

theorem ite {c : Prop} [Decidable c] (ht : s.OnlyIn k t) (hu : s.OnlyIn k u) : s.OnlyIn k (if c then t else u) := by
  split
  · exact ht
  · exact hu

theorem setFld (h : s.OnlyIn k t) (hf : blkAt f.addr = some k) (v : Nat) : s.OnlyIn k (t.setFld f v) := h.setReg hf _

theorem setFlag (h : s.OnlyIn k t) (hf : blkAt f.addr = some k) (b : Bool) : s.OnlyIn k (t.setFlag f b) := h.setFld hf _

theorem raise (h : s.OnlyIn k t) (hf : blkAt f.addr = some k) : s.OnlyIn k (t.raise f) := h.setFld hf _

theorem count (h : s.OnlyIn k t) (hf : blkAt f.addr = some k) (n : Nat) : s.OnlyIn k (t.count f n) := h.setFld hf _

theorem moorReg (h : s.OnlyIn k t) (a : Nat) : s.OnlyIn k (t.moorReg a) := h.sameRegs (moorReg_regs t a)

theorem cfgWrite (h : s.OnlyIn k t) (ha : blkAt a = some k) (v : Word32) : s.OnlyIn k (t.cfgWrite a v) := by
  unfold State.cfgWrite
  split
  · exact h
  · dsimp only
    split
    · exact (h.setReg ha _).moorReg a
    · exact h.setReg ha _

theorem cfgFld (h : s.OnlyIn k t) (hf : blkAt f.addr = some k) (v : Nat) : s.OnlyIn k (t.cfgFld f v) := h.cfgWrite hf _

theorem emit (h : s.OnlyIn k t) (o : Out) : s.OnlyIn k (t.emit o) := h.sameRegs (emit_regs t o)

end State.OnlyIn

/-! ## The commands of each block -/

section Tug

theorem execTugQptIdxWrite_onlyIn (entry : Fin 65536) (s : State) :
    Result.OnlyIn (execTugQptIdxWrite entry s) s .tug := by
  refine State.OnlyIn.next (List.foldlRecOn _ _ (List.foldlRecOn _ _ ?_ ?_) ?_)
  · exact (s.onlyIn_self .tug).setFld (by decide) _
  · intro t ht n hn
    exact ht.setReg (blkAt_TUG_QPT_DATA (Nat.lt_trans (List.mem_range.1 hn) (by decide))) _
  · intro t ht n hn
    have := List.mem_range.1 hn
    exact (ht.setReg (blkAt_TUG_QPT_DATA (by omega)) _).sameRegs (tick_regs _)

end Tug

section Brg

theorem execBrgBankCtlWrite_onlyIn (e : Fin 256) (req : Nat) (s : State) :
    Result.OnlyIn (execBrgBankCtlWrite e req s) s .brg := by
  have h := (s.onlyIn_self .brg).cfgFld (f := Fld.BRG_BANK_CTL_REQ e) (blkAt_BRG_BANK_CTL e.isLt) req
  have hstat := blkAt_BRG_BANK_STAT e.isLt
  unfold execBrgBankCtlWrite
  dsimp only
  split
  · exact h.next
  · split
    · exact (h.raise hstat).next
    · split
      · exact ((h.sameRegs (updEng_regs _ _ _)).setFld hstat _).next
      · exact (h.setFld hstat _).next

theorem execBankReturnOn_onlyIn (e : Fin 256) (s : State) : Result.OnlyIn (execBankReturnOn e s) s .brg := by
  unfold execBankReturnOn
  split
  · exact ((s.onlyIn_self .brg).setFld (blkAt_BRG_BANK_STAT e.isLt) 0).next
  · exact Result.onlyIn_self s .brg

theorem execBrgBerthIdxWrite_onlyIn (berth : Nat) (s : State) : Result.OnlyIn (execBrgBerthIdxWrite berth s) s .brg :=
  ((((s.onlyIn_self .brg).setFld (by decide) _).raise (by decide)).sameRegs (updBrg_regs _ _)).next

theorem execEngineParked_onlyIn (e : Fin 256) (s : State) : Result.OnlyIn (execEngineParked e s) s .brg := by
  unfold execEngineParked
  split
  · exact ((((s.onlyIn_self .brg).sameRegs (updEng_regs _ _ _)).setFld (blkAt_BRG_BANK_STAT e.isLt) 1).setFld
      (blkAt_BRG_STATUS e.isLt) 1).next
  · exact Result.onlyIn_self s .brg

end Brg

section Cnl

variable {s t : State}

@[simp] theorem updCnl_regs (g : Canal → Canal) : (t.updCnl g).regs = t.regs := (rfl)

/-- Settling the spill may give CNL_SPILL_CFG the size that waited (R138). -/
theorem State.OnlyIn.settleSpill (h : s.OnlyIn .cnl t) : s.OnlyIn .cnl t.settleSpill := by
  have hfold : ∀ (g : State → Nat → Canal → Canal),
      s.OnlyIn .cnl ([1, 2, 3, 5, 6].foldl (fun u p => u.updCnl (g u p)) t) := fun g =>
    foldl_keeps (s.OnlyIn .cnl) _ (fun u p hu => hu.sameRegs (updCnl_regs _)) _ t h
  unfold State.settleSpill
  dsimp only
  split
  · split
    · exact (((hfold _).sameRegs (updCnl_regs _)).cfgFld (by decide) _).sameRegs (updCnl_regs _)
    · exact (hfold _).sameRegs (updCnl_regs _)
  · exact (hfold _).sameRegs (updCnl_regs _)

theorem execCnlPartCfgWrite_onlyIn (p : Fin 7) (v : Word32) (s : State) :
    Result.OnlyIn (execCnlPartCfgWrite p v s) s .cnl := by
  have h := (s.onlyIn_self .cnl).cfgWrite (blkAt_CNL_PART_CFG p.isLt) v
  exact ((h.sameRegs (updCnl_regs _)).settleSpill.ite ((s.onlyIn_self .cnl).raise (by decide))).next

theorem execCnlSpillCfgWrite_onlyIn (v : Word32) (s : State) : Result.OnlyIn (execCnlSpillCfgWrite v s) s .cnl := by
  have h := (s.onlyIn_self .cnl).cfgWrite (a := Reg.CNL_SPILL_CFG) (by decide) v
  unfold execCnlSpillCfgWrite
  dsimp only
  split
  · exact (h.sameRegs (updCnl_regs _)).settleSpill.next
  · exact (((h.setFld (by decide) _).moorReg _).sameRegs (updCnl_regs _)).settleSpill.next

theorem execCnlAttIdxWrite_onlyIn (att : Fin 128) (cls : Fin 8) (s : State) :
    Result.OnlyIn (execCnlAttIdxWrite att cls s) s .cnl :=
  (((((((s.onlyIn_self .cnl).setFld (by decide) _).setFld (by decide) _).setFld (by decide) _).setFld
    (by decide) _).setFlag (by decide) _).setFlag (by decide) _).next

end Cnl

section Ary

theorem execAryRemIdxWrite_onlyIn (a : Fin 16) (role : Nat) (s : State) :
    Result.OnlyIn (execAryRemIdxWrite a role s) s .ary :=
  ((((s.onlyIn_self .ary).setFld (blkAt_ARY_REM_IDX a.isLt) _).setFld (blkAt_ARY_REM_LO a.isLt) _).setFld
    (blkAt_ARY_REM_HI a.isLt) _).next

end Ary

section Whf

@[simp] theorem updWhf_regs (t : State) (g : Wharf → Wharf) : (t.updWhf g).regs = t.regs := (rfl)

theorem writeback_regs (t : State) (x : WLine) (m : Bool) : (t.writeback x m).regs = t.regs :=
  (updWhf_regs _ _).trans (tally_regs _ _ _ _)

theorem emptyLighter_regs (t : State) : t.emptyLighter.regs = t.regs :=
  (foldl_eq State.regs _ (fun u x => writeback_regs u x false) _ _).trans (updWhf_regs _ _)

theorem execMaintRangeComplete_onlyIn (s : State) : Result.OnlyIn (execMaintRangeComplete s) s .whf := by
  unfold execMaintRangeComplete
  dsimp only
  split
  · exact Result.onlyIn_self s .whf
  · split
    · exact Result.onlyIn_self s .whf
    · exact (((((s.onlyIn_self .whf).setFld (by decide) _).raise (by decide)).setFld (by decide) _).sameRegs
        (updWhf_regs _ _)).next

theorem execWharfEnable_onlyIn (s : State) : Result.OnlyIn (execWharfEnable s) s .whf := by
  have h := (s.onlyIn_self .whf).cfgFld (f := Fld.WHF_CTL_EN) (by decide) 1
  unfold execWharfEnable
  dsimp only
  split
  · exact ((((h.setFld (by decide) _).setFld (by decide) _).setFld (by decide) _).sameRegs (updWhf_regs _ _)).next
  · exact h.next

theorem execWharfDisable_onlyIn (s : State) : Result.OnlyIn (execWharfDisable s) s .whf := by
  have h := (s.onlyIn_self .whf).cfgFld (f := Fld.WHF_CTL_EN) (by decide) 0
  unfold execWharfDisable
  dsimp only
  split
  · exact (((h.setFld (by decide) _).setFld (by decide) _).sameRegs (updWhf_regs _ _)).next
  · exact h.next

theorem execLighterEnWrite_onlyIn (en : Bool) (s : State) : Result.OnlyIn (execLighterEnWrite en s) s .whf := by
  have h := (s.onlyIn_self .whf).cfgFld (f := Fld.WHF_CTL_LIGHTER_EN) (by decide) en.toNat
  exact (h.ite (h.sameRegs (emptyLighter_regs _))).next

end Whf

section Cip

theorem execCipSlotIdxWrite_onlyIn (slot : Nat) (s : State) : Result.OnlyIn (execCipSlotIdxWrite slot s) s .cip :=
  (((s.onlyIn_self .cip).setFld (by decide) _).sameRegs (updCip_regs _ _)).next

theorem execEntropyWindow_onlyIn (repetition proportion : Bool) (s : State) :
    Result.OnlyIn (execEntropyWindow repetition proportion s) s .cip := by
  have hrep := (s.onlyIn_self .cip).ite (c := repetition) ((s.onlyIn_self .cip).count (f := Fld.CIP_ENT_STAT_RCT_FAIL)
    (by decide) 1)
  have h := hrep.ite (c := proportion) (hrep.count (f := Fld.CIP_ENT_STAT_APT_FAIL) (by decide) 1)
  unfold execEntropyWindow
  dsimp only
  split
  · exact (h.sameRegs (updCip_regs _ _)).next
  · exact h.next

theorem execDrbgReseed_onlyIn (l : Fin 10) (s : State) : Result.OnlyIn (execDrbgReseed l s) s .cip := by
  have h : ∀ g, s.OnlyIn .cip (s.updCip g) := fun g => (s.onlyIn_self .cip).sameRegs (updCip_regs _ g)
  unfold execDrbgReseed
  dsimp only
  split
  · exact ((h _).setFld (by decide) _).next
  · split
    · exact (((h _).raise (by decide)).emit _).next
    · exact (h _).next

end Cip

section Net

variable {s t : State} {p : Nat}

/-- A port's counter is two registers of its quad (Table 11-5). -/
theorem State.OnlyIn.netCount (h : s.OnlyIn .net t) (hp : p < 128) {n : Nat} (hn : n < 32) (amount : Nat) :
    s.OnlyIn .net (t.netCount p n amount) := by
  have hport : p ≠ 128 := by omega
  unfold State.netCount
  simp only [if_neg hport]
  have hset : ∀ v w, s.OnlyIn .net ((t.setFld (Fld.NET_CNT_LO_COUNT (quadOf p) (laneOf p) n) v).setFld
      (Fld.NET_CNT_HI_COUNT (quadOf p) (laneOf p) n) w) := fun v w =>
    (h.setFld (blkAt_NET_CNT_LO hp hn) v).setFld (blkAt_NET_CNT_HI hp hn) w
  split
  · exact (hset _ _).sameRegs (tally_regs _ _ _ _)
  · exact hset _ _

theorem State.OnlyIn.sendNet (h : s.OnlyIn .net t) (hp : p < 128) (vlan : Option Nat) (o : NetOut) :
    s.OnlyIn .net (t.sendNet p vlan o) := by
  unfold State.sendNet State.sentFrame
  exact ((h.emit _).netCount hp (by decide) _).netCount hp (by decide) _

theorem State.OnlyIn.announce (h : s.OnlyIn .net t) (hp : p < 128) : s.OnlyIn .net (t.announce p) :=
  foldl_keeps (s.OnlyIn .net) _ (fun _ _ hu => hu.sendNet hp _ _) _ t h

theorem execPauseTimerExpiry_onlyIn (port : Fin 128) (cls : Option (Fin 8)) (s : State) :
    Result.OnlyIn (execPauseTimerExpiry port cls s) s .net := by
  have hstat := blkAt_NET_PORT_STAT port.isLt
  cases cls with
  | none => exact ((s.onlyIn_self .net).setFld hstat 0).next
  | some c =>
    exact (((s.onlyIn_self .net).setFld hstat _).ite (s.onlyIn_self .net)).next

theorem execLinkUp_onlyIn (port : Fin 128) (eee : Bool) (s : State) :
    Result.OnlyIn (execLinkUp port eee s) s .net := by
  have hquad : blkAt (Fld.NET_QUAD_STAT_TRAINING (quadOf port)).addr = some .net :=
    blkAt_NET_QUAD_STAT (by have := port.isLt; simp only [quadOf]; omega)
  have hup : ∀ g, s.OnlyIn .net ((s.raise (Fld.NET_PORT_STAT_LINK (quadOf port) (laneOf port))).updNet g) := fun g =>
    ((s.onlyIn_self .net).raise (blkAt_NET_PORT_STAT port.isLt)).sameRegs (updNet_regs _ g)
  unfold execLinkUp
  dsimp only
  split
  · have hdue := fun g (c : Prop) [Decidable c] => (hup g).ite (c := c) ((hup g).setFld hquad 0)
    exact ((hdue _ _).ite ((hdue _ _).announce port.isLt)).next
  · exact Result.onlyIn_self s .net

theorem execLpiExit_onlyIn (port : Fin 128) (rx : Bool) (s : State) :
    Result.OnlyIn (execLpiExit port rx s) s .net := by
  cases rx <;> exact ((s.onlyIn_self .net).setFld (blkAt_NET_PORT_STAT port.isLt) 0).next

end Net

section Slc

theorem execSlcModeWrite_onlyIn (port : Fin 128) (mode strictN : Nat) (s : State) :
    Result.OnlyIn (execSlcModeWrite port mode strictN s) s .slc :=
  ((((s.onlyIn_self .slc).cfgFld (blkAt_SLC_PORT_CFG port.isLt) _).cfgFld (blkAt_SLC_PORT_CFG port.isLt) _).sameRegs
    (u := State.slcMode _ _) (rfl)).next

end Slc

section Drv

variable {s t : State} {b g : Nat}

theorem State.OnlyIn.mux (h : s.OnlyIn .drv t) (hg : g < 16) (on : Bool) : s.OnlyIn .drv (t.mux g on) :=
  h.ite ((h.setFlag (blkAt_DRV_GRP_STAT hg) on).emit _)

theorem State.OnlyIn.perst (h : s.OnlyIn .drv t) (b : Nat) (on : Bool) : s.OnlyIn .drv (t.perst b on) :=
  (h.sameRegs (updPort_regs _ _ _)).emit _

theorem State.OnlyIn.bayDown (h : s.OnlyIn .drv t) (hb : b < 48) : s.OnlyIn .drv (t.bayDown b) :=
  (h.setReg (blkAt_DRV_STATE hb) _).setReg (blkAt_DRV_QUEUES hb) _

theorem State.OnlyIn.setBay (h : s.OnlyIn .drv t) (hb : b < 48) (st : Nat) : s.OnlyIn .drv (t.setBay b st) :=
  h.setFld (blkAt_DRV_STATE hb) st

/-- Training selects the bay's group and releases its reset (R273, R274). -/
theorem State.OnlyIn.train (h : s.OnlyIn .drv t) (hb : b < 48) : s.OnlyIn .drv (t.train b) := by
  have hmux := h.mux (g := b / 3) (by omega) true
  exact (((hmux.ite h).sameRegs (updPort_regs _ _ _)).perst b false).emit _

theorem State.OnlyIn.toTraining (h : s.OnlyIn .drv t) (hb : b < 48) : s.OnlyIn .drv (t.toTraining b) :=
  (((h.bayDown hb).sameRegs (updPort_regs _ _ _)).train hb).setBay hb _

theorem State.OnlyIn.startInit (h : s.OnlyIn .drv t) (b : Nat) : s.OnlyIn .drv (t.startInit b) :=
  (h.sameRegs (updPort_regs _ _ _)).emit _

theorem State.OnlyIn.groupWrite (h : s.OnlyIn .drv t) (hg : g < 16) (v : Word32) :
    s.OnlyIn .drv (t.groupWrite g v) := by
  have hcfg := h.cfgWrite (blkAt_DRV_GRP_CFG hg) v
  exact hcfg.ite (hcfg.mux hg false)

theorem execDriveShutdownComplete_onlyIn (bay : Fin 48) (s : State) :
    Result.OnlyIn (execDriveShutdownComplete bay s) s .drv := by
  unfold execDriveShutdownComplete
  split
  · exact (((((s.onlyIn_self .drv).perst bay true).bayDown bay.isLt).setBay bay.isLt _).sameRegs
      (updPort_regs _ _ _)).next
  · exact Result.onlyIn_self s .drv

theorem execMiPoll_onlyIn (bay : Fin 48) (ok : Bool) (temp cw life : BitVec 8) (s : State) :
    Result.OnlyIn (execMiPoll bay ok temp cw life s) s .drv := by
  have h : ∀ g, s.OnlyIn .drv (s.updPort bay g) := fun g => (s.onlyIn_self .drv).sameRegs (updPort_regs _ _ g)
  have hstat := blkAt_DRV_MI_STAT bay.isLt
  unfold execMiPoll
  dsimp only
  split
  · exact Result.onlyIn_self s .drv
  · split
    · have hread := fun g a b c => ((((h g).setFld (f := Fld.DRV_MI_STAT_TEMP bay) hstat a).setFld
        (f := Fld.DRV_MI_STAT_CW bay) hstat b).setFld (f := Fld.DRV_MI_STAT_LIFE bay) hstat c).raise
        (f := Fld.DRV_MI_STAT_VALID bay) hstat
      exact ((hread _ _ _ _).ite ((hread _ _ _ _).emit _)).next
    · exact (((h _).setFld hstat 0).ite (h _)).next

theorem execDrvGrpCfgWrite_onlyIn (g : Fin 16) (mode : Nat) (sris : Bool) (s : State) :
    Result.OnlyIn (execDrvGrpCfgWrite g mode sris s) s .drv :=
  ((s.onlyIn_self .drv).groupWrite g.isLt _).next

theorem execDriveLinkUp_onlyIn (bay : Fin 48) (speed width : Nat) (s : State) :
    Result.OnlyIn (execDriveLinkUp bay speed width s) s .drv := by
  have hup := (((s.onlyIn_self .drv).setFld (f := Fld.DRV_STATE_SPEED bay) (blkAt_DRV_STATE bay.isLt) speed).setFld
    (f := Fld.DRV_STATE_WIDTH bay) (blkAt_DRV_STATE bay.isLt) width).startInit bay
  unfold execDriveLinkUp
  dsimp only
  split
  · exact Result.onlyIn_self s .drv
  · split
    · exact (hup.setBay bay.isLt _).next
    · split
      · exact (hup.sameRegs (updPort_regs _ _ _)).next
      · exact Result.onlyIn_self s .drv

theorem execDrivePerstRelease_onlyIn (bay : Fin 48) (s : State) :
    Result.OnlyIn (execDrivePerstRelease bay s) s .drv := by
  unfold execDrivePerstRelease
  split
  · exact Result.onlyIn_self s .drv
  · split
    · exact (((s.onlyIn_self .drv).train bay.isLt).sameRegs (updPort_regs _ _ _)).next
    · exact ((s.onlyIn_self .drv).toTraining bay.isLt).next

end Drv

section Pdl

variable {s t : State} {b : Nat}

@[simp] theorem updPad_regs (t : State) (b : Nat) (g : Paddle → Paddle) : (t.updPad b g).regs = t.regs := updShelf_regs _ _

theorem State.OnlyIn.dropPg (h : s.OnlyIn .pdl t) (hb : b < 48) : s.OnlyIn .pdl (t.dropPg b) :=
  (((h.sameRegs (updPort_regs _ _ _)).setFld (blkAt_PDL_STATE hb) _).setFld (blkAt_PDL_STATE hb) _).setFld
    (blkAt_PDL_STATE hb) _

theorem State.OnlyIn.enqueueBay (h : s.OnlyIn .pdl t) (hb : b < 48) : s.OnlyIn .pdl (t.enqueueBay b) :=
  (h.sameRegs (updShelf_regs _ _)).setFld (blkAt_PDL_STATE hb) _

theorem execCurrentLimitOnset_onlyIn (bay : Fin 48) (main : Bool) (s : State) :
    Result.OnlyIn (execCurrentLimitOnset bay main s) s .pdl := by
  exact Result.OnlyIn.ite ((((s.onlyIn_self .pdl).sameRegs (updPad_regs _ _ _)).dropPg bay.isLt).raise
    (blkAt_PDL_STATE bay.isLt)).next (Result.onlyIn_self s .pdl)

theorem execCurrentLimitClear_onlyIn (bay : Fin 48) (s : State) : Result.OnlyIn (execCurrentLimitClear bay s) s .pdl :=
  (((s.onlyIn_self .pdl).sameRegs (updPad_regs _ _ _)).setFld (blkAt_PDL_STATE bay.isLt) 0).next

theorem execFaultCountClear_onlyIn (bay : Fin 48) (s : State) : Result.OnlyIn (execFaultCountClear bay s) s .pdl := by
  unfold execFaultCountClear
  split
  · exact ((s.onlyIn_self .pdl).setFld (blkAt_PDL_STATE bay.isLt) 0).next
  · exact Result.onlyIn_self s .pdl

theorem execPaddleRetryExpiry_onlyIn (bay : Fin 48) (s : State) :
    Result.OnlyIn (execPaddleRetryExpiry bay s) s .pdl := by
  unfold execPaddleRetryExpiry
  split
  · exact ((((s.onlyIn_self .pdl).sameRegs (updPad_regs _ _ _)).count (blkAt_PDL_CNT bay.isLt) 1).enqueueBay
      bay.isLt).next
  · exact Result.onlyIn_self s .pdl

end Pdl

section Wir

theorem drillStart_onlyIn (s : State) : s.OnlyIn .wir s.drillStart := by
  have h := s.onlyIn_self .wir
  exact ((h.raise (by decide)).setFld (by decide) _).ite (h.setFld (by decide) 3)

theorem execFeedForwardTurnOn_onlyIn (f : Fin 2) (s : State) : Result.OnlyIn (execFeedForwardTurnOn f s) s .wir := by
  unfold execFeedForwardTurnOn
  split
  · exact ((((s.onlyIn_self .wir).sameRegs (updShelf_regs _ _)).setFlag (blkAt_WIR_STATE f.isLt) _).emit _).next
  · exact Result.onlyIn_self s .wir

theorem execFeedHealthDegraded_onlyIn (f : Fin 2) (s : State) : Result.OnlyIn (execFeedHealthDegraded f s) s .wir := by
  unfold execFeedHealthDegraded
  split
  · exact ((s.onlyIn_self .wir).raise (blkAt_WIR_STATE f.isLt)).next
  · exact Result.onlyIn_self s .wir

theorem execFeedHealthOpen_onlyIn (f : Fin 2) (s : State) : Result.OnlyIn (execFeedHealthOpen f s) s .wir := by
  unfold execFeedHealthOpen
  split
  · exact ((s.onlyIn_self .wir).raise (blkAt_WIR_STATE f.isLt)).next
  · exact Result.onlyIn_self s .wir

theorem execFeedDrillTimer_onlyIn (s : State) : Result.OnlyIn (execFeedDrillTimer s) s .wir := by
  unfold execFeedDrillTimer
  split
  · exact Result.onlyIn_self s .wir
  · exact (drillStart_onlyIn s).next

theorem execWirDrillNow_onlyIn (s : State) : Result.OnlyIn (execWirDrillNow s) s .wir := by
  unfold execWirDrillNow
  split
  · exact Result.onlyIn_self s .wir
  · exact (drillStart_onlyIn s).next

end Wir

section Lkp

theorem drillDue_onlyIn (s : State) : s.OnlyIn .lkp s.drillDue := by
  have h := s.onlyIn_self .lkp
  exact h.ite ((h.setFld (by decide) 4).ite ((h.setFld (by decide) 1).sameRegs (updPeer_regs _ _)))

theorem execLkpDrillTimer_onlyIn (s : State) : Result.OnlyIn (execLkpDrillTimer s) s .lkp := (drillDue_onlyIn s).next

theorem execLkpDrillNow_onlyIn (s : State) : Result.OnlyIn (execLkpDrillNow s) s .lkp := (drillDue_onlyIn s).next

end Lkp

section Twp

variable {s t : State}

theorem State.OnlyIn.moorStat (h : s.OnlyIn .twp t) : s.OnlyIn .twp t.moorStat :=
  (h.setFld (by decide) _).setFld (by decide) _

theorem State.OnlyIn.journal (h : s.OnlyIn .twp t) : s.OnlyIn .twp t.journal := by
  unfold State.journal
  split
  · exact h
  · split
    · exact h
    · exact (((h.sameRegs (updStore_regs _ _)).setFld (by decide) _).setFld (by decide) _).moorStat

theorem State.OnlyIn.faultSet (h : s.OnlyIn .twp t) (c : FaultCause) : s.OnlyIn .twp (t.faultSet c) :=
  ((((h.setReg (by decide) _).raise (by decide)).emit _).sameRegs (logEvent_regs _ _ _)).sameRegs (msix_regs _ _)

/-- MOORING is no cause of a restart (Table 18-5). -/
theorem globalFault_mooring (t : State) : t.globalFault .mooring = t.faultSet .mooring := rfl

theorem State.OnlyIn.storeFailed (h : s.OnlyIn .twp t) : s.OnlyIn .twp t.storeFailed := by
  rw [State.storeFailed, globalFault_mooring]
  exact (h.raise (by decide)).faultSet .mooring

theorem execTugGroupGate_onlyIn (g : Fin 8) (s : State) : Result.OnlyIn (execTugGroupGate g s) s .twp := by
  unfold execTugGroupGate
  split
  · exact ((s.onlyIn_self .twp).setFld (by decide) _).next
  · exact Result.onlyIn_self s .twp

theorem execMoorJournalWrite_onlyIn (ok : Bool) (s : State) : Result.OnlyIn (execMoorJournalWrite ok s) s .twp := by
  unfold execMoorJournalWrite
  split
  · exact (s.onlyIn_self .twp).journal.next
  · split
    · exact Result.onlyIn_self s .twp
    · exact (s.onlyIn_self .twp).storeFailed.next

theorem execJournalCompaction_onlyIn (outcome : Fin 3) (s : State) :
    Result.OnlyIn (execJournalCompaction outcome s) s .twp := by
  unfold execJournalCompaction
  dsimp only
  split
  · exact Result.onlyIn_self s .twp
  · split
    · have h := (s.onlyIn_self .twp).sameRegs (updStore_regs s Store.spoil)
      exact (h.storeFailed.ite h).next
    · exact ((s.onlyIn_self .twp).journal.sameRegs (updStore_regs _ _)).moorStat.next

end Twp

section Ept

theorem execEptWinCtlWrite_onlyIn (i : Fin 64) (valid rd wr : Bool) (space sizeLog2 : Nat) (s : State) :
    Result.OnlyIn (execEptWinCtlWrite i valid rd wr space sizeLog2 s) s .ept := by
  have hctl := blkAt_EPT_WIN_CTL i.isLt
  have h := fun a b c d e => (((((s.onlyIn_self .ept).setFlag (f := Fld.EPT_WIN_CTL_VALID i) hctl a).setFlag
    (f := Fld.EPT_WIN_CTL_RD i) hctl b).setFlag (f := Fld.EPT_WIN_CTL_WR i) hctl c).setFld
    (f := Fld.EPT_WIN_CTL_SPACE i) hctl d).setFld (f := Fld.EPT_WIN_CTL_SIZE_LOG2 i) hctl e
  exact (((h _ _ _ _ _).raise hctl |>.ite (h _ _ _ _ _)).sameRegs (updEpt_regs _ _)).next

theorem execEndpointLinkUp_onlyIn (speed width : Nat) (bme msixEn fmask tenBit : Bool) (s : State) :
    Result.OnlyIn (execEndpointLinkUp speed width bme msixEn fmask tenBit s) s .ept := by
  unfold execEndpointLinkUp
  split
  · exact ((((((((s.onlyIn_self .ept).raise (by decide)).setFld (by decide) _).setFld (by decide) _).setFlag
      (by decide) _).setFlag (by decide) _).setFlag (by decide) _).setFlag (by decide) _ |>.sameRegs
      (updEpt_regs _ _)).next
  · exact Result.onlyIn_self s .ept

theorem execEndpointLinkDown_onlyIn (s : State) : Result.OnlyIn (execEndpointLinkDown s) s .ept :=
  ((((s.onlyIn_self .ept).setFld (by decide) _).setFld (by decide) _).setFld (by decide) _).next

end Ept

section Clk

theorem execClkFreqIdxWrite_onlyIn (domain inst : Nat) (s : State) :
    Result.OnlyIn (execClkFreqIdxWrite domain inst s) s .clk :=
  (((s.onlyIn_self .clk).cfgWrite (by decide) _).raise (by decide)).next

theorem execFreqMeasurementEnd_onlyIn (khz : Nat) (s : State) :
    Result.OnlyIn (execFreqMeasurementEnd khz s) s .clk := by
  unfold execFreqMeasurementEnd
  dsimp only
  split
  · exact Result.onlyIn_self s .clk
  · exact (((s.onlyIn_self .clk).setFld (by decide) _).setFld (by decide) 0).next

end Clk

section Tal

theorem execTalSelWrite_onlyIn (n : Fin 4096) (v : Word32) (s : State) :
    Result.OnlyIn (execTalSelWrite n v s) s .tal := by
  have hsel := blkAt_TAL_SEL n.isLt
  have h := s.onlyIn_self .tal
  exact ((((h.cfgWrite hsel _).sameRegs (updTal_regs _ _)).sameRegs (updTal_regs _ _)).ite
    ((h.raise hsel).raise (by decide))).next

theorem execTalThrWrite_onlyIn (n : Fin 4096) (v : Word32) (s : State) :
    Result.OnlyIn (execTalThrWrite n v s) s .tal := by
  have hthr := fun v => (s.onlyIn_self .tal).cfgWrite (blkAt_TAL_THR n.isLt) v
  exact (((hthr _).sameRegs (updTal_regs _ _)).ite (hthr v)).next

theorem execTalClrGo_onlyIn (index : Nat) (all : Bool) (s : State) :
    Result.OnlyIn (execTalClrGo index all s) s .tal := by
  have h := ((s.onlyIn_self .tal).setFld (f := Fld.TAL_CLR_INDEX) (by decide) index).setFlag (f := Fld.TAL_CLR_ALL)
    (by decide) all
  exact ((h.sameRegs (updTal_regs _ _)).ite (h.sameRegs (updTal_regs _ _))).next

theorem execDumpTick_onlyIn (s : State) : Result.OnlyIn (execDumpTick s) s .tal := by
  have hseq : ∀ a b g, s.OnlyIn .tal
      (((s.setFld Fld.TAL_DUMP_SEQ_LO_SEQ a).setFld Fld.TAL_DUMP_SEQ_HI_SEQ b).updTal g) := fun a b g =>
    (((s.onlyIn_self .tal).setFld (by decide) a).setFld (by decide) b).sameRegs (updTal_regs _ g)
  unfold execDumpTick
  dsimp only
  split
  · exact Result.onlyIn_self s .tal
  · split
    · exact ((hseq _ _ _).raise (by decide)).next
    · have hlatch := fun a b g l => (hseq a b g).sameRegs (u := (State.latchTally _ l).1) (updTal_regs _ _)
      split
      · exact (((hlatch _ _ _ _).count (by decide) 1).sameRegs (updTal_regs _ _)).next
      · exact (((hlatch _ _ _ _).sameRegs (updTal_regs _ _)).raise (by decide)).next

end Tal

section Spb

theorem execSpbBankCtlWrite_onlyIn (k : Fin 16) (req : Nat) (s : State) :
    Result.OnlyIn (execSpbBankCtlWrite k req s) s .spb := by
  have hstat := blkAt_SPB_BANK_STAT k.isLt
  have h := fun r => ((s.onlyIn_self .spb).setFld (f := Fld.SPB_BANK_CTL_REQ k) (blkAt_SPB_BANK_CTL k.isLt) r).setFld
    (f := Fld.SPB_BANK_STAT_STATE k) hstat r
  unfold execSpbBankCtlWrite
  dsimp only
  generalize (if req % 4 = 3 then 0 else req % 4) = r
  refine Result.OnlyIn.ite ((s.onlyIn_self .spb).raise hstat).next ?_
  split
  · exact ((h r).sameRegs (updBrg_regs _ _)).next
  · split
    · exact ((h r).sameRegs (updTug_regs _ _)).next
    · exact (h r).next

end Spb

section Rsv

theorem execStackTempChange_onlyIn (stack : Fin 4) (celsius : Int) (s : State) :
    Result.OnlyIn (execStackTempChange stack celsius s) s .rsv := by
  have hstat := blkAt_RSV_STACK_STAT stack.isLt
  have htemp := fun c => (s.onlyIn_self .rsv).setFld (f := Fld.RSV_STACK_STAT_TEMP stack) hstat c
  have h := fun c => ((htemp c).raise (f := Fld.RSV_STACK_STAT_REFRESH_X2 stack) hstat).ite (c := 85 < celsius)
    (((htemp c).setFld (f := Fld.RSV_STACK_STAT_REFRESH_X2 stack) hstat 0).ite (c := celsius < 80) (htemp c))
  exact Result.OnlyIn.ite (((h _).raise hstat).emit _).next (h _).next

end Rsv

section Aqd

theorem execHeartbeatPathLost_onlyIn (aqd : Bool) (s : State) :
    Result.OnlyIn (execHeartbeatPathLost aqd s) s .aqd := by
  cases aqd <;> exact ((s.onlyIn_self .aqd).setFld (by decide) 0).next

theorem blkAt_laneUp (lane : Fin 2) :
    blkAt (if lane = 0 then Fld.AQD_LINK_STAT_UP0 else Fld.AQD_LINK_STAT_UP1).addr = some .aqd := by
  split <;> decide

theorem execAqueductLaneDown_onlyIn (lane : Fin 2) (s : State) :
    Result.OnlyIn (execAqueductLaneDown lane s) s .aqd := by
  have h := (s.onlyIn_self .aqd).setFld (blkAt_laneUp lane) 0
  exact (h.ite (h.setFld (by decide) 0)).next

theorem execAqueductLaneUp_onlyIn (lane : Fin 2) (s : State) : Result.OnlyIn (execAqueductLaneUp lane s) s .aqd := by
  unfold execAqueductLaneUp
  split
  · exact ((s.onlyIn_self .aqd).raise (blkAt_laneUp lane)).next
  · exact Result.onlyIn_self s .aqd

end Aqd


/-- Settles O56: each command's own lemma, block by block. -/
theorem commandsOfOneBlockLeaveOtherBlocksRegisters : Obligations.CommandsOfOneBlockLeaveOtherBlocksRegisters :=
  ⟨execTugQptIdxWrite_onlyIn, execBrgBankCtlWrite_onlyIn, execBankReturnOn_onlyIn, execBrgBerthIdxWrite_onlyIn,
    execEngineParked_onlyIn, execCnlPartCfgWrite_onlyIn, execCnlSpillCfgWrite_onlyIn, execCnlAttIdxWrite_onlyIn,
    execAryRemIdxWrite_onlyIn, execMaintRangeComplete_onlyIn, execWharfEnable_onlyIn, execWharfDisable_onlyIn,
    execLighterEnWrite_onlyIn, execCipSlotIdxWrite_onlyIn, execEntropyWindow_onlyIn, execDrbgReseed_onlyIn,
    execPauseTimerExpiry_onlyIn, execLinkUp_onlyIn, execLpiExit_onlyIn, execSlcModeWrite_onlyIn,
    execDriveShutdownComplete_onlyIn, execMiPoll_onlyIn, execDrvGrpCfgWrite_onlyIn, execDriveLinkUp_onlyIn,
    execDrivePerstRelease_onlyIn, execCurrentLimitOnset_onlyIn, execCurrentLimitClear_onlyIn,
    execFaultCountClear_onlyIn, execPaddleRetryExpiry_onlyIn, execFeedForwardTurnOn_onlyIn,
    execFeedHealthDegraded_onlyIn, execFeedHealthOpen_onlyIn, execFeedDrillTimer_onlyIn, execWirDrillNow_onlyIn,
    execLkpDrillTimer_onlyIn, execLkpDrillNow_onlyIn, execTugGroupGate_onlyIn, execMoorJournalWrite_onlyIn,
    execJournalCompaction_onlyIn, execEptWinCtlWrite_onlyIn, execEndpointLinkUp_onlyIn,
    execEndpointLinkDown_onlyIn, execClkFreqIdxWrite_onlyIn, execFreqMeasurementEnd_onlyIn, execTalSelWrite_onlyIn,
    execTalThrWrite_onlyIn, execTalClrGo_onlyIn, execDumpTick_onlyIn, execSpbBankCtlWrite_onlyIn,
    execStackTempChange_onlyIn, execHeartbeatPathLost_onlyIn, execAqueductLaneDown_onlyIn,
    execAqueductLaneUp_onlyIn⟩

end Sys2Proof.Machine

/-! The state after reset. -/

namespace Sys2Proof.Machine

/-- Settles O3: no register is listed, so each reads its start value, and the tables are literals. -/
theorem resetHoldsTheStartValues : Obligations.ResetHoldsTheStartValues := by
  refine ⟨fun _ => rfl, ⟨rfl, ?_, rfl, rfl, rfl⟩, ⟨rfl, rfl, rfl, rfl, rfl⟩, rfl, rfl, rfl, rfl, rfl⟩
  decide +kernel

end Sys2Proof.Machine

/-! The arithmetic of the redundant units and the recovery of what a stripe has lost (R28, R130, R134, R159). -/

namespace Sys2Proof.Machine

/-! ## Bytes side by side in a word -/

/-- The number whose `n` bytes are each `b`. -/
theorem repNat_succ (n b : Nat) : (2 ^ (8 * (n + 1)) - 1) / 255 * b = 2 ^ 8 * ((2 ^ (8 * n) - 1) / 255 * b) + b := by
  have hr : ∃ r, 2 ^ (8 * n) = 255 * r + 1 := by
    induction n with
    | zero => exact ⟨0, rfl⟩
    | succ n ih => obtain ⟨r, hr⟩ := ih; exact ⟨256 * r + 1, by rw [Nat.mul_succ, Nat.pow_add, hr]; omega⟩
  obtain ⟨r, hr⟩ := hr
  have hn : (2 ^ (8 * n) - 1) / 255 = r := by omega
  have hs : (2 ^ (8 * (n + 1)) - 1) / 255 = 256 * r + 1 := by rw [Nat.mul_succ, Nat.pow_add, hr]; omega
  rw [hn, hs]; ring

theorem repNat_testBit {b : Nat} (hb : b < 2 ^ 8) (n i : Nat) :
    ((2 ^ (8 * n) - 1) / 255 * b).testBit i = (decide (i < 8 * n) && b.testBit (i % 8)) := by
  induction n generalizing i with
  | zero => simp
  | succ n ih =>
    rw [repNat_succ, Nat.testBit_two_pow_mul_add _ hb, ih]
    split
    · rename_i h; simp [Nat.mod_eq_of_lt h]; omega
    · rename_i h
      have hm : (i - 8) % 8 = i % 8 := by omega
      simp only [hm]; congr 1; simp; omega

theorem gfRep_getLsbD {b : Nat} (hb : b < 2 ^ 8) {n i : Nat} (hi : i < 8 * n) :
    (gfRep (8 * n) b).getLsbD i = b.testBit (i % 8) := by
  simp only [gfRep, BitVec.getLsbD_ofNat, repNat_testBit hb, hi, decide_true, Bool.true_and]

/-- A number with bits at the low ends of its bytes alone, times a byte: that byte wherever there is such a bit. -/
theorem mul_byte_testBit {c : Nat} (hc : c < 2 ^ 8) (a i : Nat) (ha : ∀ j, j % 8 ≠ 0 → a.testBit j = false) :
    (a * c).testBit i = (a.testBit (8 * (i / 8)) && c.testBit (i % 8)) := by
  induction a using Nat.strong_induction_on generalizing i with
  | _ a ih =>
  have hlow : a % 2 ^ 8 = (a.testBit 0).toNat := by
    apply Nat.eq_of_testBit_eq
    intro j
    rw [Nat.testBit_mod_two_pow]
    cases j with
    | zero => cases a.testBit 0 <;> rfl
    | succ j =>
      have hr : (a.testBit 0).toNat.testBit (j + 1) = false := by
        cases a.testBit 0 <;> simp [Nat.testBit_succ]
      have hl : j + 1 < 8 → a.testBit (j + 1) = false := fun h => ha _ (by omega)
      rw [hr, Bool.and_eq_false_iff, decide_eq_false_iff_not]
      exact or_iff_not_imp_left.2 fun h => hl (by omega)
  have hhigh : ∀ j, (a / 2 ^ 8).testBit j = a.testBit (8 + j) := fun j => by
    rw [Nat.testBit_div_two_pow, Nat.add_comm]
  have hsplit : a * c = 2 ^ 8 * (a / 2 ^ 8 * c) + (a.testBit 0).toNat * c := by
    have := Nat.div_add_mod a (2 ^ 8)
    rw [hlow] at this
    conv_lhs => rw [← this]
    ring
  have hlt : (a.testBit 0).toNat * c < 2 ^ 8 := by cases a.testBit 0 <;> simp; exact hc
  rw [hsplit, Nat.testBit_two_pow_mul_add _ hlt]
  split
  · rename_i h
    rw [Nat.div_eq_of_lt h, Nat.mod_eq_of_lt h]
    cases a.testBit 0 <;> simp
  · rename_i h
    by_cases h0 : a = 0
    · simp [h0]
    · rw [ih _ (Nat.div_lt_self (Nat.pos_of_ne_zero h0) (by decide)) _
        (fun j hj => by rw [hhigh]; exact ha _ (by omega)), hhigh]
      congr 2 <;> omega

/-! ## Doubling (R130) -/

theorem gfDouble_getLsbD {n : Nat} (x : BitVec (8 * n)) {i : Nat} (hi : i < 8 * n) :
    (gfDouble x).getLsbD i = ((decide (i % 8 ≠ 0) && x.getLsbD (i - 1)) ^^
      (x.getLsbD (8 * (i / 8) + 7) && Nat.testBit 0x1D (i % 8))) := by
  have hm : Nat.testBit 0xFE (i % 8) = decide (i % 8 ≠ 0) :=
    (by decide : ∀ j < 8, Nat.testBit 0xFE j = decide (j ≠ 0)) _ (Nat.mod_lt _ (by decide))
  have hlow : ∀ j, ((x >>> 7) &&& gfRep (8 * n) 1).toNat.testBit j =
      (x.getLsbD (7 + j) && decide (j % 8 = 0)) := fun j => by
    rw [BitVec.testBit_toNat, BitVec.getLsbD_and, BitVec.getLsbD_ushiftRight]
    by_cases hj : j < 8 * n
    · rw [gfRep_getLsbD (by decide) hj, (by decide : ∀ k < 8, Nat.testBit 1 k = decide (k = 0)) _ (Nat.mod_lt _ (by decide))]
    · rw [BitVec.getLsbD_of_ge x (7 + j) (by omega)]; rfl
  have h1d : (BitVec.ofNat (8 * n) 0x1D).toNat = 0x1D := by
    rw [BitVec.toNat_ofNat]
    exact Nat.mod_eq_of_lt (Nat.lt_of_lt_of_le (by decide : 29 < 2 ^ 8) (Nat.pow_le_pow_right (by decide) (by omega)))
  simp only [gfDouble, BitVec.getLsbD_xor, BitVec.getLsbD_and, BitVec.getLsbD_shiftLeft, gfRep_getLsbD (by decide : 0xFE < 2 ^ 8) hi, hm]
  congr 1
  · by_cases h : i % 8 = 0
    · simp [h]
    · have h0 : i ≠ 0 := by omega
      simp [h, hi, h0]
  · rw [← BitVec.testBit_toNat, BitVec.toNat_mul, h1d, Nat.testBit_mod_two_pow, mul_byte_testBit (by decide)]
    · rw [hlow]
      have : 8 * (i / 8) % 8 = 0 := by omega
      simp [hi, this, Nat.add_comm]
    · intro j hj; rw [hlow]; simp [hj]

@[simp] theorem gfDouble_xor {n : Nat} (x y : BitVec (8 * n)) : gfDouble (x ^^^ y) = gfDouble x ^^^ gfDouble y := by
  apply BitVec.eq_of_getLsbD_eq
  intro i hi
  simp only [BitVec.getLsbD_xor, gfDouble_getLsbD _ hi]
  simp only [Bool.and_xor_distrib_left, Bool.and_xor_distrib_right, Bool.xor_assoc, Bool.xor_left_comm]

theorem gfDouble_zero {n : Nat} : gfDouble 0#(8 * n) = 0#(8 * n) := by
  have := gfDouble_xor 0#(8 * n) 0#(8 * n); simpa using this

/-- Byte `k` of a word. -/
def byteOf {n : Nat} (k : Nat) (x : BitVec (8 * n)) : BitVec (8 * 1) := x.extractLsb' (8 * k) 8

theorem byteOf_gfDouble {n k : Nat} (hk : k < n) (x : BitVec (8 * n)) :
    byteOf k (gfDouble x) = gfDouble (byteOf k x) := by
  apply BitVec.eq_of_getLsbD_eq
  intro i hi
  rw [gfDouble_getLsbD _ hi]
  simp only [byteOf, BitVec.getLsbD_extractLsb']
  rw [gfDouble_getLsbD _ (by omega)]
  have h7 : 8 * ((8 * k + i) / 8) = 8 * k := by omega
  have hm : (8 * k + i) % 8 = i := by omega
  have h0 : 8 * (i / 8) = 0 := by omega
  simp only [h7, hm, h0]
  by_cases hz : i = 0
  · simp [hz]
  · have : 8 * k + i - 1 = 8 * k + (i - 1) := by omega
    have hi' : i < 8 := hi
    have hi'' : i - 1 < 8 := by omega
    simp [this, hi', hi'', hz, Nat.mod_eq_of_lt hi']

/-- Words with equal bytes are equal. -/
theorem eq_of_byteOf_eq {n : Nat} {x y : BitVec (8 * n)} (h : ∀ k < n, byteOf k x = byteOf k y) : x = y := by
  apply BitVec.eq_of_getLsbD_eq
  intro i hi
  have := congrArg (BitVec.getLsbD · (i % 8)) (h (i / 8) (by omega))
  simp only [byteOf, BitVec.getLsbD_extractLsb', Nat.mod_lt i (by decide : 0 < 8), decide_true, Bool.true_and,
    Nat.div_add_mod] at this
  exact this

/-! ## Scaling by a byte (R130) -/

/-- One bit of the coefficient in `gfScale`. -/
def gfStep {w : Nat} (c : BitVec 8) (p : BitVec w × BitVec w) (i : Nat) : BitVec w × BitVec w :=
  (if c.toNat.testBit i then p.1 ^^^ p.2 else p.1, gfDouble p.2)

theorem gfScale_eq {w : Nat} (c : BitVec 8) (x : BitVec w) :
    gfScale c x = ((List.range 8).foldl (gfStep c) (0, x)).1 := rfl

/-- A map that keeps sums and doubles commutes with scaling. -/
theorem map_gfScale {v w : Nat} {f : BitVec v → BitVec w} (hx : ∀ x y, f (x ^^^ y) = f x ^^^ f y)
    (hd : ∀ x, f (gfDouble x) = gfDouble (f x)) (c : BitVec 8) (x : BitVec v) : f (gfScale c x) = gfScale c (f x) := by
  have h0 : f 0 = 0 := by have := hx 0 0; simpa using this
  have hfold : ∀ (l : List Nat) (p : BitVec v × BitVec v),
      f ((l.foldl (gfStep c) p).1) = (l.foldl (gfStep c) (f p.1, f p.2)).1 := by
    intro l
    induction l with
    | nil => intro p; rfl
    | cons i l ih =>
      intro p
      rw [List.foldl_cons, List.foldl_cons, ih]
      simp only [gfStep, hd, apply_ite f, hx]
  rw [gfScale_eq, hfold, h0, gfScale_eq]

/-- A sum of coefficients scales to the sum. -/
theorem xor_gfScale {n : Nat} (c d : BitVec 8) (x : BitVec (8 * n)) :
    gfScale (c ^^^ d) x = gfScale c x ^^^ gfScale d x := by
  have hfold : ∀ (l : List Nat) (p q x : BitVec (8 * n)), (l.foldl (gfStep (c ^^^ d)) (p ^^^ q, x)).1 =
      (l.foldl (gfStep c) (p, x)).1 ^^^ (l.foldl (gfStep d) (q, x)).1 := by
    intro l
    induction l with
    | nil => intro p q x; rfl
    | cons i l ih =>
      intro p q x
      have hstep : gfStep (c ^^^ d) (p ^^^ q, x) i = ((gfStep c (p, x) i).1 ^^^ (gfStep d (q, x) i).1, gfDouble x) := by
        simp only [gfStep, BitVec.toNat_xor, Nat.testBit_xor, Prod.mk.injEq, and_true]
        cases c.toNat.testBit i <;> cases d.toNat.testBit i
        · rfl
        · exact BitVec.xor_assoc p q x
        · simp; ac_rfl
        · have : p ^^^ x ^^^ (q ^^^ x) = p ^^^ q ^^^ (x ^^^ x) := by ac_rfl
          simp [this]
      rw [List.foldl_cons, hstep, ih]; rfl
  simpa [gfScale_eq] using hfold (List.range 8) 0 0 x

theorem gfScale_xor {n : Nat} (c : BitVec 8) (x y : BitVec (8 * n)) :
    gfScale c (x ^^^ y) = gfScale c x ^^^ gfScale c y := by
  have hfold : ∀ (l : List Nat) (p q : BitVec (8 * n) × BitVec (8 * n)),
      (l.foldl (gfStep c) (p.1 ^^^ q.1, p.2 ^^^ q.2)).1 =
        (l.foldl (gfStep c) p).1 ^^^ (l.foldl (gfStep c) q).1 := by
    intro l
    induction l with
    | nil => intro p q; rfl
    | cons i l ih =>
      intro p q
      have hstep : gfStep c (p.1 ^^^ q.1, p.2 ^^^ q.2) i =
          ((gfStep c p i).1 ^^^ (gfStep c q i).1, (gfStep c p i).2 ^^^ (gfStep c q i).2) := by
        simp only [gfStep, gfDouble_xor, Prod.mk.injEq, and_true]
        split
        · ac_rfl
        · rfl
      rw [List.foldl_cons, hstep, ih]; rfl
  simpa [gfScale_eq] using hfold (List.range 8) (0, x) (0, y)

@[simp] theorem gfScale_zero {n : Nat} (c : BitVec 8) : gfScale c 0#(8 * n) = 0#(8 * n) := by
  have := gfScale_xor c (0 : BitVec (8 * n)) 0; simpa using this

@[simp] theorem zero_gfScale {n : Nat} (x : BitVec (8 * n)) : gfScale 0#8 x = 0#(8 * n) := by
  have := xor_gfScale 0 0 x; simpa using this

@[simp] theorem one_gfScale {n : Nat} (x : BitVec (8 * n)) : gfScale 1#8 x = x := by
  simp [gfScale_eq, gfStep, List.range, List.range.loop, Nat.testBit_succ]

theorem gfScale_one (c : BitVec 8) : gfScale c (1 : BitVec 8) = c := by
  decide +revert +kernel

/-- Scaling a unit scales each of its bytes. -/
theorem byteOf_gfScale {n k : Nat} (hk : k < n) (c : BitVec 8) (x : BitVec (8 * n)) :
    byteOf k (gfScale c x) = gfScale c (byteOf k x) :=
  map_gfScale (fun _ _ => BitVec.extractLsb'_xor) (byteOf_gfDouble hk) c x

/-- Doubling eight times is scaling by the rest of the polynomial 0x11D. -/
theorem gfDouble_eight {n : Nat} (x : BitVec (8 * n)) : gfDouble^[8] x = gfScale 0x1D x := by
  apply eq_of_byteOf_eq
  intro k hk
  rw [byteOf_gfScale hk]
  have hit : ∀ (j : Nat) (y : BitVec (8 * n)), byteOf k (gfDouble^[j] y) = gfDouble^[j] (byteOf k y) := by
    intro j; induction j with
    | zero => intro y; rfl
    | succ j ih => intro y; rw [Function.iterate_succ_apply, ih, byteOf_gfDouble hk, ← Function.iterate_succ_apply]
  rw [hit]
  generalize byteOf k x = y
  exact (by decide +kernel : ∀ y : BitVec 8, gfDouble^[8] y = gfScale 0x1D y) y

/-! ## The bytes as a field (R130) -/

/-- What holds of the single bits and of sums holds of every byte. -/
theorem byte_xor_induction {P : BitVec 8 → Prop} (h0 : P 0) (hx : ∀ c d, P c → P d → P (c ^^^ d))
    (hb : ∀ i < 8, P (1 <<< i)) (c : BitVec 8) : P c := by
  have hbit : ∀ i < 8, P (c &&& 1 <<< i) := fun i hi => by
    have : c &&& 1 <<< i = 0 ∨ c &&& 1 <<< i = 1 <<< i :=
      (by decide +kernel : ∀ (c : BitVec 8), ∀ i < 8, c &&& 1 <<< i = 0 ∨ c &&& 1 <<< i = 1 <<< i) c i hi
    rcases this with h | h
    · rw [h]; exact h0
    · rw [h]; exact hb i hi
  have hsum : (List.range 8).foldl (fun p i => p ^^^ (c &&& 1 <<< i)) 0 = c :=
    (by decide +kernel : ∀ c : BitVec 8, (List.range 8).foldl (fun p i => p ^^^ (c &&& 1 <<< i)) 0 = c) c
  rw [← hsum]
  refine List.foldlRecOn _ _ h0 fun p hp i hi => hx _ _ hp (hbit i (List.mem_range.1 hi))

theorem bit_gfScale {n : Nat} (x : BitVec (8 * n)) : ∀ i < 8, gfScale (1 <<< i) x = gfDouble^[i] x := by
  intro i hi
  interval_cases i <;> simp [gfScale_eq, gfStep, List.range, List.range.loop, Nat.testBit_succ]

theorem gfScale_gfDouble {n : Nat} (c : BitVec 8) (x : BitVec (8 * n)) :
    gfScale (gfDouble c) x = gfDouble (gfScale c x) := by
  induction c using byte_xor_induction with
  | h0 => 
    show gfScale (gfDouble 0#(8 * 1)) x = gfDouble (gfScale 0#8 x)
    rw [gfDouble_zero, zero_gfScale, gfDouble_zero]
  | hx c d hc hd => rw [gfDouble_xor (n := 1), xor_gfScale, hc, hd, xor_gfScale, gfDouble_xor]
  | hb i hi => 
    rw [bit_gfScale x i hi]
    by_cases h7 : i = 7
    · subst h7
      exact (congrArg (gfScale · x) (by decide : gfDouble (1 <<< 7 : BitVec 8) = 0x1D)).trans (gfDouble_eight x).symm
    · rw [(by decide : ∀ i < 7, gfDouble (1 <<< i : BitVec 8) = 1 <<< (i + 1)) i (by omega), bit_gfScale x _ (by omega),
        Function.iterate_succ_apply']

theorem gfScale_gfScale {n : Nat} (c d : BitVec 8) (x : BitVec (8 * n)) :
    gfScale c (gfScale d x) = gfScale (gfScale c d) x :=
  (map_gfScale (f := (gfScale · x)) (fun c d => xor_gfScale c d x) (fun c => gfScale_gfDouble c x) c d).symm

theorem gfScale_comm (c d : BitVec 8) : gfScale c d = gfScale d c := by
  have := map_gfScale (f := gfScale d) (gfScale_xor (n := 1) d) (fun x => by
    have := map_gfScale (f := gfDouble) (gfDouble_xor (n := 1)) (fun _ => rfl) d x
    exact this.symm) c (1 : BitVec 8)
  rw [gfScale_one, gfScale_one] at this
  exact this.symm

theorem gfPow_mul (g : BitVec 8) (a b : Nat) : gfPow g (a + b) = gfScale (gfPow g a) (gfPow g b) := by
  induction a with
  | zero => rw [Nat.zero_add]; exact (one_gfScale (n := 1) _).symm
  | succ a ih => 
    rw [Nat.succ_add]
    show gfScale g _ = gfScale (gfScale g _) _
    rw [ih]; exact gfScale_gfScale (n := 1) _ _ _

/-- `a` to the power 2 ^ (k + 1) - 1, by squaring. -/
def gfOnes (a : BitVec 8) : Nat → BitVec 8
  | 0 => a
  | k + 1 => gfScale (gfScale (gfOnes a k) (gfOnes a k)) a

theorem gfPow_one (a : BitVec 8) : gfPow a 1 = a := gfScale_one a

theorem gfOnes_eq_gfPow (a : BitVec 8) (k : Nat) : gfOnes a k = gfPow a (2 ^ (k + 1) - 1) := by
  induction k with
  | zero => exact (gfPow_one a).symm
  | succ k ih =>
    have hk : 2 ^ (k + 1 + 1) - 1 = (2 ^ (k + 1) - 1) + (2 ^ (k + 1) - 1) + 1 := by
      have := Nat.one_le_two_pow (n := k + 1)
      omega
    rw [gfOnes, ih, hk, gfPow_mul, gfPow_mul, gfPow_one]

theorem gfInv_gfScale {a : BitVec 8} (ha : a ≠ 0) : gfScale (gfInv a) a = 1 := by
  have hinv : gfInv a = gfScale (gfOnes a 6) (gfOnes a 6) := by rw [gfOnes_eq_gfPow, ← gfPow_mul]; rfl
  rw [hinv]
  exact (by decide +kernel : ∀ a : BitVec 8, a ≠ 0 → gfScale (gfScale (gfOnes a 6) (gfOnes a 6)) a = 1) a ha

theorem eq_zero_of_gfScale_eq_zero {n : Nat} {c : BitVec 8} (hc : c ≠ 0) {x : BitVec (8 * n)}
    (h : gfScale c x = 0#(8 * n)) : x = 0#(8 * n) := by
  have := gfScale_gfScale (gfInv c) c x
  rw [h, gfScale_zero, gfInv_gfScale hc] at this
  exact (this.trans (one_gfScale x)).symm

/-! ## Solving for lost units (R28, R159) -/

/-- The sum of units scaled by the coefficients of a row. -/
def gfDot {w : Nat} (row : List (BitVec 8)) (xs : List (BitVec w)) : BitVec w :=
  (row.zip xs).foldl (fun a p => a ^^^ gfScale p.1 p.2) 0

theorem foldl_xor_init {α : Type} {w : Nat} (g : α → BitVec w) (l : List α) (a : BitVec w) :
    l.foldl (fun a p => a ^^^ g p) a = a ^^^ l.foldl (fun a p => a ^^^ g p) 0 := by
  induction l generalizing a with
  | nil => simp
  | cons p l ih => rw [List.foldl_cons, List.foldl_cons, ih, ih (0 ^^^ g p)]; simp [BitVec.xor_assoc]

@[simp] theorem gfDot_nil {w : Nat} (row : List (BitVec 8)) : gfDot row ([] : List (BitVec w)) = 0 := by simp [gfDot]

@[simp] theorem gfDot_cons {w : Nat} (c : BitVec 8) (row : List (BitVec 8)) (x : BitVec w) (xs : List (BitVec w)) :
    gfDot (c :: row) (x :: xs) = gfScale c x ^^^ gfDot row xs := by
  rw [gfDot, List.zip_cons_cons, List.foldl_cons, foldl_xor_init (fun p : BitVec 8 × BitVec w => gfScale p.1 p.2)]
  simp [gfDot]

theorem gfDot_scale {n : Nat} (c : BitVec 8) (row : List (BitVec 8)) (xs : List (BitVec (8 * n))) :
    gfDot (row.map (gfScale c)) xs = gfScale c (gfDot row xs) := by
  induction row generalizing xs with
  | nil => simp [gfDot]
  | cons d row ih =>
    cases xs with
    | nil => simp
    | cons x xs => rw [List.map_cons, gfDot_cons, gfDot_cons, ih, gfScale_xor, gfScale_gfScale]

theorem gfDot_add {n : Nat} (c : BitVec 8) : ∀ (r r' : List (BitVec 8)) (xs : List (BitVec (8 * n))),
    r.length = r'.length → gfDot ((r.zip r').map fun p => p.1 ^^^ gfScale c p.2) xs = gfDot r xs ^^^ gfScale c (gfDot r' xs)
  | [], [], xs, _ => by simp [gfDot]
  | a :: r, b :: r', [], _ => by simp
  | a :: r, b :: r', x :: xs, h => by
    rw [List.zip_cons_cons, List.map_cons, gfDot_cons, gfDot_cons, gfDot_cons, gfDot_add c r r' xs (by simpa using h),
      gfScale_xor, gfScale_gfScale, xor_gfScale]
    ac_rfl

theorem takeFirst_some {α : Type} {p : α → Bool} {l : List α} {a : α} {rest : List α}
    (h : takeFirst p l = some (a, rest)) : p a = true ∧ l.Perm (a :: rest) := by
  induction l generalizing rest with
  | nil => cases h
  | cons b l ih =>
    rw [takeFirst] at h
    split at h
    · cases h; exact ⟨‹_›, .refl _⟩
    · obtain ⟨⟨b', r⟩, hr, hq⟩ := Option.map_eq_some_iff.1 h
      cases hq
      obtain ⟨hp, hl⟩ := ih hr
      exact ⟨hp, (hl.cons b).trans (.swap _ _ _)⟩

theorem takeFirst_none {α : Type} {p : α → Bool} {l : List α} (h : takeFirst p l = none) : ∀ a ∈ l, p a = false := by
  induction l with
  | nil => simp
  | cons b l ih =>
    rw [takeFirst] at h
    split at h
    · cases h
    · simp_all

/-- The equation that is left of `f` once the unknown that `row` and `sum` give is eliminated. -/
def gfLess {w : Nat} (row : List (BitVec 8)) (sum : BitVec w) (f : List (BitVec 8) × BitVec w) :
    List (BitVec 8) × BitVec w :=
  ((f.1.tail.zip row).map fun p => p.1 ^^^ gfScale (f.1.headD 0) p.2, f.2 ^^^ gfScale (f.1.headD 0) sum)

theorem gfSolve_succ {w : Nat} {t : Nat} {eqs rest : List (List (BitVec 8) × BitVec w)} {c : BitVec 8}
    {r : List (BitVec 8)} {y : BitVec w} (h : takeFirst (fun e => decide (e.1.headD 0 ≠ 0)) eqs = some ((c :: r, y), rest)) :
    gfSolve (t + 1) eqs =
      (gfSolve t (rest.map (gfLess (r.map (gfScale (gfInv c))) (gfScale (gfInv c) y)))).map fun xs =>
        (gfScale (gfInv c) y ^^^ gfDot (r.map (gfScale (gfInv c))) xs) :: xs := by
  rw [gfSolve, h]
  simp only [List.headD_cons, List.tail_cons, gfDot]
  congr 1
  funext xs
  rw [foldl_xor_init (fun p : BitVec 8 × BitVec w => gfScale p.1 p.2)]

/-- A value of the unknowns that meets the equations. -/
def Solves {w : Nat} (xs : List (BitVec w)) (eqs : List (List (BitVec 8) × BitVec w)) : Prop :=
  ∀ e ∈ eqs, e.1.length = xs.length ∧ gfDot e.1 xs = e.2

section Eliminate

variable {n : Nat} {x : BitVec (8 * n)} {xs : List (BitVec (8 * n))} {c : BitVec 8} {r : List (BitVec 8)}
  {y : BitVec (8 * n)}

/-- An equation with a coefficient that is not 0 gives its unknown. -/
theorem unknown_of_gfDot (hc : c ≠ 0) :
    gfDot (c :: r) (x :: xs) = y ↔ x = gfScale (gfInv c) y ^^^ gfDot (r.map (gfScale (gfInv c))) xs := by
  have hone : ∀ z : BitVec (8 * n), gfScale (gfInv c) (gfScale c z) = z := fun z => by
    rw [gfScale_gfScale, gfInv_gfScale hc]; exact one_gfScale z
  have hone' : ∀ z : BitVec (8 * n), gfScale c (gfScale (gfInv c) z) = z := fun z => by
    rw [gfScale_gfScale, gfScale_comm, gfInv_gfScale hc]; exact one_gfScale z
  have hcancel : ∀ a b d : BitVec (8 * n), a ^^^ b = d ↔ a = d ^^^ b := fun a b d =>
    ⟨fun h => by rw [← h, BitVec.xor_assoc, BitVec.xor_self, BitVec.xor_zero],
      fun h => by rw [h, BitVec.xor_assoc, BitVec.xor_self, BitVec.xor_zero]⟩
  rw [gfDot_cons, gfDot_scale, ← gfScale_xor, hcancel]
  exact ⟨fun h => by rw [← h, hone], fun h => by rw [h, hone']⟩

/-- Elimination keeps what an equation says, once the unknown has its value. -/
theorem gfDot_gfLess {z : BitVec (8 * n)} {row : List (BitVec 8)} (hx : x = y ^^^ gfDot row xs)
    {d : BitVec 8} {f : List (BitVec 8)} (hf : f.length = row.length) :
    gfDot (gfLess row y (d :: f, z)).1 xs = (gfLess row y (d :: f, z)).2 ↔ gfDot (d :: f) (x :: xs) = z := by
  simp only [gfLess, List.headD_cons, List.tail_cons, gfDot_add d f row xs hf, gfDot_cons, hx, gfScale_xor]
  constructor <;> intro h
  · have : z = (z ^^^ gfScale d y) ^^^ gfScale d y := by
      rw [BitVec.xor_assoc, BitVec.xor_self, BitVec.xor_zero]
    rw [this, ← h]; ac_rfl
  · rw [← h]
    have : gfScale d y ^^^ gfScale d (gfDot row xs) ^^^ gfDot f xs ^^^ gfScale d y =
        gfDot f xs ^^^ gfScale d (gfDot row xs) ^^^ (gfScale d y ^^^ gfScale d y) := by ac_rfl
    rw [this, BitVec.xor_self, BitVec.xor_zero]

end Eliminate

/-- Units meet the equations exactly when the first has the value that one of them gives it, and the others meet what
elimination leaves. -/
theorem solves_cons_iff {n : Nat} {x : BitVec (8 * n)} {xs : List (BitVec (8 * n))} {c : BitVec 8}
    {r : List (BitVec 8)} {y : BitVec (8 * n)} {eqs rest : List (List (BitVec 8) × BitVec (8 * n))} (hc : c ≠ 0)
    (hp : eqs.Perm ((c :: r, y) :: rest)) (hr : r.length = xs.length)
    (hl : ∀ e ∈ rest, e.1.length = xs.length + 1) :
    Solves (x :: xs) eqs ↔ x = gfScale (gfInv c) y ^^^ gfDot (r.map (gfScale (gfInv c))) xs ∧
      Solves xs (rest.map (gfLess (r.map (gfScale (gfInv c))) (gfScale (gfInv c) y))) := by
  have hmem : Solves (x :: xs) eqs ↔ Solves (x :: xs) ((c :: r, y) :: rest) :=
    forall_congr' fun e => by rw [hp.mem_iff]
  rw [hmem, Solves, List.forall_mem_cons]
  simp only [List.length_cons, hr, true_and, unknown_of_gfDot hc, Solves, List.forall_mem_map]
  refine and_congr_right fun hx => forall₂_congr fun e he => ?_
  obtain ⟨f, z⟩ := e
  have hf := hl _ he
  cases f with
  | nil => cases hf
  | cons d f =>
    have hf' : f.length = xs.length := by simpa using hf
    rw [gfDot_gfLess hx (by rw [List.length_map, hf', hr])]
    simp [gfLess, hf', hr]

/-- The solution found is the one there is. -/
theorem gfSolve_eq_of_solves {n : Nat} {t : Nat} {eqs : List (List (BitVec 8) × BitVec (8 * n))}
    {xs ys : List (BitVec (8 * n))} (ht : xs.length = t) (hx : Solves xs eqs) (hy : gfSolve t eqs = some ys) : ys = xs := by
  induction t generalizing eqs xs ys with
  | zero => cases hy; exact (List.length_eq_zero_iff.1 ht).symm
  | succ t ih =>
    cases hf : takeFirst (fun e => decide (e.1.headD 0 ≠ 0)) eqs with
    | none => rw [gfSolve, hf] at hy; cases hy
    | some p =>
      obtain ⟨⟨row, y⟩, rest⟩ := p
      obtain ⟨hc, hp⟩ := takeFirst_some hf
      cases row with
      | nil => simp at hc
      | cons c r =>
        cases xs with
        | nil => cases ht
        | cons x xs =>
          have hlen : ∀ e ∈ (c :: r, y) :: rest, e.1.length = xs.length + 1 := fun e he => (hx e (hp.mem_iff.2 he)).1
          rw [gfSolve_succ hf] at hy
          obtain ⟨zs, hz, rfl⟩ := Option.map_eq_some_iff.1 hy
          obtain ⟨hx0, hx1⟩ := (solves_cons_iff (by simpa using hc) hp (by simpa using hlen _ List.mem_cons_self)
            (fun e he => hlen e (List.mem_cons_of_mem _ he))).1 hx
          rw [ih (by simpa using ht) hx1 hz, ← hx0]

/-- Rows of coefficients that no bytes but zeroes sum to 0 under. -/
def Independent (t : Nat) (rows : List (List (BitVec 8))) : Prop :=
  ∀ v : List (BitVec (8 * 1)), v.length = t → (∀ r ∈ rows, gfDot r v = 0#(8 * 1)) → ∀ x ∈ v, x = 0#(8 * 1)

theorem gfDot_replicate_zero {n : Nat} (r : List (BitVec 8)) (t : Nat) :
    gfDot r (List.replicate t 0#(8 * n)) = 0#(8 * n) := by
  induction r generalizing t with
  | nil => simp [gfDot]
  | cons c r ih => cases t with
    | zero => simp
    | succ t => rw [List.replicate_succ, gfDot_cons, ih]; simp

/-- Independent equations are solved. -/
theorem gfSolve_isSome {n : Nat} {t : Nat} {eqs : List (List (BitVec 8) × BitVec (8 * n))}
    (hl : ∀ e ∈ eqs, e.1.length = t) (hi : Independent t (eqs.map Prod.fst)) : (gfSolve t eqs).isSome = true := by
  induction t generalizing eqs with
  | zero => rfl
  | succ t ih =>
    cases hf : takeFirst (fun e => decide (e.1.headD 0 ≠ 0)) eqs with
    | none =>
      exfalso
      have hzero := hi (1#(8 * 1) :: List.replicate t 0#(8 * 1)) (by simp) (fun r hr => by
        obtain ⟨e, he, rfl⟩ := List.mem_map.1 hr
        have h0 : e.1.headD 0 = 0 := by simpa using takeFirst_none hf e he
        obtain ⟨row, y⟩ := e
        cases row with
        | nil => simp [gfDot]
        | cons c row =>
          rw [gfDot_cons, gfDot_replicate_zero, BitVec.xor_zero]
          have : c = 0#8 := h0
          rw [this, zero_gfScale]) _ List.mem_cons_self
      exact absurd hzero (by decide)
    | some p =>
      obtain ⟨⟨row, y⟩, rest⟩ := p
      obtain ⟨hc, hp⟩ := takeFirst_some hf
      have hlen : ∀ e ∈ (row, y) :: rest, e.1.length = t + 1 := fun e he => hl e (hp.mem_iff.2 he)
      cases row with
      | nil => simp at hc
      | cons c r =>
        have hc0 : c ≠ 0 := by simpa using hc
        have hr : r.length = t := by simpa using hlen _ List.mem_cons_self
        rw [gfSolve_succ hf, Option.isSome_map]
        refine ih (fun e he => ?_) fun v hv hrows => ?_
        · obtain ⟨f, hf, rfl⟩ := List.mem_map.1 he
          have := hlen f (List.mem_cons_of_mem _ hf)
          simp [gfLess, this, hr]
        · obtain ⟨u, hsolve⟩ : ∃ u, Solves (u :: v) (eqs.map fun e => (e.1, 0#(8 * 1))) :=
            ⟨_, (solves_cons_iff (y := 0#(8 * 1)) hc0 (hp.map fun e => (e.1, 0#(8 * 1))) (hr.trans hv.symm) (fun e he => by
              obtain ⟨f, hf, rfl⟩ := List.mem_map.1 he
              rw [hv]; exact hlen f (List.mem_cons_of_mem _ hf))).2 ⟨rfl, fun e he => by
                simp only [List.map_map, List.mem_map, Function.comp_apply] at he
                obtain ⟨f, hf, rfl⟩ := he
                refine ⟨?_, ?_⟩
                · have := hlen f (List.mem_cons_of_mem _ hf)
                  simp [gfLess, this, hr, hv]
                · rw [show (gfLess (r.map (gfScale (gfInv c))) (gfScale (gfInv c) 0#(8 * 1)) (f.1, 0#(8 * 1))).2 = 0#(8 * 1) by
                    simp only [gfLess, gfScale_zero, BitVec.xor_zero]]
                  exact hrows _ (by simp only [List.map_map, List.mem_map]; exact ⟨f, hf, rfl⟩)⟩⟩
          intro x hx
          refine hi (u :: v) (by rw [List.length_cons, hv]) (fun row hrow => ?_) x (List.mem_cons_of_mem _ hx)
          obtain ⟨e, he, rfl⟩ := List.mem_map.1 hrow
          exact (hsolve (e.1, 0#(8 * 1)) (List.mem_map.2 ⟨e, he, rfl⟩)).2

/-! ## The coefficients of P, Q and R (Table 5-5) -/

theorem gfPow_unit (i : Nat) : gfPow 1 i = 1 := by
  induction i with
  | zero => rfl
  | succ i ih => rw [gfPow, ih]; exact one_gfScale (n := 1) 1

theorem parityCoef_p (i : Nat) : parityCoef 0 i = 1 := gfPow_unit i

theorem gfPow_four (i : Nat) : gfPow 4 i = gfScale (gfPow 2 i) (gfPow 2 i) := by
  induction i with
  | zero => rfl
  | succ i ih =>
    rw [gfPow, ih, gfPow, (by decide : (4 : BitVec 8) = gfScale 2 2)]
    generalize gfPow 2 i = g
    have h1 : gfScale (gfScale 2 2) (gfScale g g) = gfScale 2 (gfScale 2 (gfScale g g)) :=
      (gfScale_gfScale (n := 1) 2 2 _).symm
    have h2 : gfScale (gfScale 2 g) (gfScale 2 g) = gfScale 2 (gfScale g (gfScale 2 g)) :=
      (gfScale_gfScale (n := 1) 2 g _).symm
    rw [h1, h2, gfScale_comm 2 g, gfScale_gfScale (n := 1) g g 2, gfScale_comm _ 2]

theorem parityCoef_q (i : Nat) : parityCoef 1 i = gfPow 2 i := rfl
theorem parityCoef_r (i : Nat) : parityCoef 2 i = gfScale (gfPow 2 i) (gfPow 2 i) := gfPow_four i

theorem gfPow_two_ne_zero {i : Nat} (hi : i < 32) : gfPow 2 i ≠ 0#8 :=
  (by decide +kernel : ∀ i < 32, gfPow 2 i ≠ 0#8) i hi

theorem gfPow_two_ne {i j : Nat} (hi : i < 32) (hj : j < 32) (h : i ≠ j) : gfPow 2 i ≠ gfPow 2 j :=
  (by decide +kernel : ∀ i < 32, ∀ j < 32, i ≠ j → gfPow 2 i ≠ gfPow 2 j) i hi j hj h

theorem gfScale_swap {n : Nat} (c d : BitVec 8) (x : BitVec (8 * n)) :
    gfScale c (gfScale d x) = gfScale d (gfScale c x) := by
  rw [gfScale_gfScale, gfScale_comm c d, ← gfScale_gfScale]

section Independence

variable {a b c : BitVec 8} {x y z : BitVec (8 * 1)}

theorem xor_ne_zero_of_ne (h : a ≠ b) : a ^^^ b ≠ 0#8 := fun h' => h (BitVec.xor_eq_zero_iff.1 h')

/-- Two unknowns whose sum, and whose sum under two different coefficients, is 0. -/
theorem two_unknowns (hab : a ≠ b) (h0 : x ^^^ y = 0#(8 * 1)) (h1 : gfScale a x ^^^ gfScale b y = 0#(8 * 1)) :
    x = 0#(8 * 1) ∧ y = 0#(8 * 1) := by
  have hxy : x = y := BitVec.xor_eq_zero_iff.1 h0
  subst hxy
  rw [← xor_gfScale] at h1
  have := eq_zero_of_gfScale_eq_zero (xor_ne_zero_of_ne hab) h1
  exact ⟨this, this⟩

/-- Three unknowns whose sums under the powers 0, 1 and 2 of three different coefficients are 0: the third is eliminated
from the first two. -/
theorem three_unknowns (hab : a ≠ b) (hac : a ≠ c) (hbc : b ≠ c) (h0 : x ^^^ y ^^^ z = 0#(8 * 1))
    (h1 : gfScale a x ^^^ gfScale b y ^^^ gfScale c z = 0#(8 * 1))
    (h2 : gfScale a (gfScale a x) ^^^ gfScale b (gfScale b y) ^^^ gfScale c (gfScale c z) = 0#(8 * 1)) :
    x = 0#(8 * 1) ∧ y = 0#(8 * 1) ∧ z = 0#(8 * 1) := by
  have hz : z = x ^^^ y := (BitVec.xor_eq_zero_iff.1 h0).symm
  subst hz
  have hone : gfScale (a ^^^ c) x ^^^ gfScale (b ^^^ c) y = 0#(8 * 1) := by
    rw [xor_gfScale, xor_gfScale, ← h1, gfScale_xor]; ac_rfl
  have htwo : gfScale a (gfScale (a ^^^ c) x) ^^^ gfScale b (gfScale (b ^^^ c) y) = 0#(8 * 1) := by
    have hcancel : ∀ p q r s t : BitVec (8 * 1), p ^^^ q ^^^ (r ^^^ s) = p ^^^ r ^^^ t ^^^ (q ^^^ s ^^^ t) :=
      fun p q r s t => by
        rw [← BitVec.xor_zero (x := p ^^^ q ^^^ (r ^^^ s)), ← BitVec.xor_self (x := t)]; ac_rfl
    rw [xor_gfScale, xor_gfScale, gfScale_xor, gfScale_xor, hcancel _ _ _ _ (gfScale c (gfScale c (x ^^^ y))), h2,
      gfScale_swap a c, gfScale_swap b c, ← gfScale_xor, ← gfScale_xor, h1, gfScale_zero, BitVec.xor_zero]
  obtain ⟨hx, hy⟩ := two_unknowns hab hone htwo
  have hx0 := eq_zero_of_gfScale_eq_zero (xor_ne_zero_of_ne hac) hx
  have hy0 := eq_zero_of_gfScale_eq_zero (xor_ne_zero_of_ne hbc) hy
  simp [hx0, hy0]

theorem square_ne (hab : a ≠ b) : gfScale a a ≠ gfScale b b := fun h => by
  have hz : gfScale (a ^^^ b) (a ^^^ b) = 0#8 := by
    have hx : gfScale (a ^^^ b) (a ^^^ b) = gfScale a (a ^^^ b) ^^^ gfScale b (a ^^^ b) := xor_gfScale (n := 1) a b _
    have ha : gfScale a (a ^^^ b) = gfScale a a ^^^ gfScale a b := gfScale_xor (n := 1) a a b
    have hb : gfScale b (a ^^^ b) = gfScale a b ^^^ gfScale b b :=
      (gfScale_xor (n := 1) b a b).trans (by rw [gfScale_comm b a])
    rw [hx, ha, hb, h, BitVec.xor_comm (gfScale a b), BitVec.xor_self]
  have hne := xor_ne_zero_of_ne hab
  exact hne (eq_zero_of_gfScale_eq_zero (n := 1) hne hz)

end Independence

section Rows

variable {i j k : Nat} {x y z : BitVec (8 * 1)}

theorem parityCoef_ne_zero {o : Nat} (ho : o < 3) (hi : i < 32) : parityCoef o i ≠ 0#8 := by
  have h2 := gfPow_two_ne_zero hi
  match o, ho with
  | 0, _ => rw [parityCoef_p]; decide
  | 1, _ => exact h2
  | 2, _ => rw [parityCoef_r]; exact fun h => h2 (eq_zero_of_gfScale_eq_zero (n := 1) h2 h)

/-- Scaling by the coefficient of R is scaling twice by that of Q. -/
theorem parityCoef_r_gfScale (i : Nat) (x : BitVec (8 * 1)) :
    gfScale (parityCoef 2 i) x = gfScale (gfPow 2 i) (gfScale (gfPow 2 i) x) := by
  rw [parityCoef_r, ← gfScale_gfScale]

theorem parityCoef_p_gfScale (i : Nat) (x : BitVec (8 * 1)) : gfScale (parityCoef 0 i) x = x := by
  rw [parityCoef_p]; exact one_gfScale x

/-- Two of P, Q and R give two units. -/
theorem two_rows {o o' : Nat} (ho : o < o') (ho' : o' < 3) (hi : i < 32) (hj : j < 32) (hij : i ≠ j)
    (h : gfScale (parityCoef o i) x ^^^ gfScale (parityCoef o j) y = 0#(8 * 1))
    (h' : gfScale (parityCoef o' i) x ^^^ gfScale (parityCoef o' j) y = 0#(8 * 1)) : x = 0#(8 * 1) ∧ y = 0#(8 * 1) := by
  have hne := gfPow_two_ne hi hj hij
  obtain ⟨rfl, rfl⟩ | ⟨rfl, rfl⟩ | ⟨rfl, rfl⟩ : o = 0 ∧ o' = 1 ∨ o = 0 ∧ o' = 2 ∨ o = 1 ∧ o' = 2 := by omega
  · rw [parityCoef_p_gfScale, parityCoef_p_gfScale] at h
    exact two_unknowns hne h h'
  · rw [parityCoef_p_gfScale, parityCoef_p_gfScale] at h
    rw [parityCoef_r, parityCoef_r] at h'
    exact two_unknowns (square_ne hne) h h'
  · rw [parityCoef_r_gfScale, parityCoef_r_gfScale] at h'
    obtain ⟨hx, hy⟩ := two_unknowns hne h h'
    exact ⟨eq_zero_of_gfScale_eq_zero (gfPow_two_ne_zero hi) hx, eq_zero_of_gfScale_eq_zero (gfPow_two_ne_zero hj) hy⟩

/-- P, Q and R give three units. -/
theorem three_rows (hi : i < 32) (hj : j < 32) (hk : k < 32) (hij : i ≠ j) (hik : i ≠ k) (hjk : j ≠ k)
    (h : ∀ o < 3, gfScale (parityCoef o i) x ^^^ gfScale (parityCoef o j) y ^^^ gfScale (parityCoef o k) z = 0#(8 * 1)) :
    x = 0#(8 * 1) ∧ y = 0#(8 * 1) ∧ z = 0#(8 * 1) := by
  have h0 := h 0 (by decide)
  have h2 := h 2 (by decide)
  simp only [parityCoef_p_gfScale] at h0
  simp only [parityCoef_r_gfScale] at h2
  exact three_unknowns (gfPow_two_ne hi hj hij) (gfPow_two_ne hi hk hik) (gfPow_two_ne hj hk hjk) h0 (h 1 (by decide)) h2

end Rows

/-- As many of the rows of P, Q and R as there are different data units are independent. -/
theorem independent_parityCoef {os is : List Nat} (hos : os.Pairwise (· < ·)) (ho : ∀ o ∈ os, o < 3) (hnd : is.Nodup)
    (hlt : ∀ i ∈ is, i < 32) (hlen : os.length = is.length) :
    Independent is.length (os.map fun o => is.map (parityCoef o)) := by
  intro v hv hrow
  have hrow' : ∀ o ∈ os, gfDot (is.map (parityCoef o)) v = 0#(8 * 1) := fun o ho =>
    hrow _ (List.mem_map.2 ⟨o, ho, rfl⟩)
  match os, is, v, hlen, hv with
  | [], [], [], _, _ => exact fun _ h => nomatch h
  | [o], [i], [x], _, _ =>
    have hx : gfScale (parityCoef o i) x = 0#(8 * 1) := by simpa using hrow' o (by simp)
    simpa using eq_zero_of_gfScale_eq_zero (parityCoef_ne_zero (ho o (by simp)) (hlt i (by simp))) hx
  | [o, o'], [i, j], [x, y], _, _ =>
    have hx : ∀ q ∈ [o, o'], gfScale (parityCoef q i) x ^^^ gfScale (parityCoef q j) y = 0#(8 * 1) := fun q hq => by
      simpa using hrow' q hq
    have := two_rows (by simpa using hos) (ho o' (by simp)) (hlt i (by simp)) (hlt j (by simp)) (by simpa using hnd)
      (hx o (by simp)) (hx o' (by simp))
    simpa using this
  | [p, q, r], [i, j, k], [x, y, z], _, _ =>
    have hpqr : p = 0 ∧ q = 1 ∧ r = 2 := by
      have := ho r (by simp)
      simp at hos
      omega
    have hx : ∀ o < 3, gfScale (parityCoef o i) x ^^^ gfScale (parityCoef o j) y ^^^ gfScale (parityCoef o k) z = 0#(8 * 1) :=
      fun o ho => by
        have hm : o ∈ [p, q, r] := by simp; omega
        simpa [BitVec.xor_assoc] using hrow' o hm
    simp at hnd
    have := three_rows (hlt i (by simp)) (hlt j (by simp)) (hlt k (by simp)) (by tauto) (by tauto) (by tauto) hx
    simpa using this
  | p :: q :: r :: o :: _, _, _, _, _ =>
    have := ho o (by simp)
    simp at hos
    omega

/-! ## Solving a stripe -/

/-- The units of a stripe with their places. -/
def placed {α : Type} (l : List α) : List (Nat × α) := (List.range l.length).zip l

/-- Of `l`, what is not lost, with the places of all. -/
def holed {α : Type} (lost : List Nat) (p : Nat × α) : Nat × Option α :=
  (p.1, if lost.contains p.1 then none else some p.2)

theorem zip_map_zip {α β γ : Type} (f : α × β → γ) (l : List α) (l' : List β) :
    l.zip ((l.zip l').map f) = (l.zip l').map fun p => (p.1, f p) := by
  induction l generalizing l' with
  | nil => rfl
  | cons a l ih => cases l' with
    | nil => rfl
    | cons b l' => simp [ih]

theorem length_without {α : Type} (l : List α) (lost : List Nat) : (without l lost).length = l.length := by
  simp [without]

theorem placed_without {α : Type} (l : List α) (lost : List Nat) :
    placed (without l lost) = (placed l).map (holed lost) := by
  rw [placed, length_without]
  exact zip_map_zip _ _ _

theorem placed_fst {α : Type} (l : List α) : (placed l).map Prod.fst = List.range l.length := by
  simp [placed, List.map_fst_zip]

theorem placed_snd {α : Type} (l : List α) : (placed l).map Prod.snd = l := by
  simp [placed, List.map_snd_zip]

/-- The units lost, with their places, in order. -/
def missing {α : Type} (lost : List Nat) (l : List (Nat × α)) : List (Nat × α) := l.filter fun p => lost.contains p.1

theorem filter_isNone_holed {α : Type} (lost : List Nat) (l : List (Nat × α)) :
    (((l.map (holed lost)).filter fun p => p.2.isNone).map Prod.fst) = (missing lost l).map Prod.fst := by
  induction l with
  | nil => rfl
  | cons p l ih => by_cases h : p.1 ∈ lost <;> simp_all [missing, holed]

/-- A unit that is known adds its share to a redundant unit's sum. -/
def addKnown {w : Nat} (c : Nat → BitVec 8) (a : BitVec w) (q : Nat × Option (BitVec w)) : BitVec w :=
  match q.2 with
  | some d => a ^^^ gfScale (c q.1) d
  | none => a

/-- What is left of a sum when the known units are added to it once more: the share of the lost ones. -/
theorem foldl_addKnown {n : Nat} (c : Nat → BitVec 8) (lost : List Nat) (l : List (Nat × BitVec (8 * n)))
    (v : BitVec (8 * n)) :
    (l.map (holed lost)).foldl (addKnown c) (l.foldl (fun a p => a ^^^ gfScale (c p.1) p.2) v) =
      v ^^^ gfDot (((missing lost l).map Prod.fst).map c) ((missing lost l).map Prod.snd) := by
  induction l generalizing v with
  | nil => simp [missing]
  | cons p l ih =>
    by_cases h : p.1 ∈ lost
    · have hm : missing lost (p :: l) = p :: missing lost l := by simp [missing, h]
      have hh : ∀ a : BitVec (8 * n), addKnown c a (holed lost p) = a := by simp [addKnown, holed, h]
      simp only [List.map_cons, List.foldl_cons, hm, hh, ih, gfDot_cons, BitVec.xor_assoc]
    · have hm : missing lost (p :: l) = missing lost l := by simp [missing, h]
      have hh : ∀ a, addKnown c a (holed lost p) = a ^^^ gfScale (c p.1) p.2 := by simp [addKnown, holed, h]
      have hswap : l.foldl (fun a p => a ^^^ gfScale (c p.1) p.2) (v ^^^ gfScale (c p.1) p.2) ^^^ gfScale (c p.1) p.2 =
          l.foldl (fun a p => a ^^^ gfScale (c p.1) p.2) v := by
        have hxx : gfScale (c p.1) p.2 ^^^ gfScale (c p.1) p.2 = 0#(8 * n) := BitVec.xor_self
        rw [foldl_xor_init (fun p : Nat × BitVec (8 * n) => gfScale (c p.1) p.2),
          foldl_xor_init (fun p : Nat × BitVec (8 * n) => gfScale (c p.1) p.2) _ v, BitVec.xor_assoc, BitVec.xor_assoc,
          BitVec.xor_comm (gfScale (c p.1) p.2), BitVec.xor_assoc, hxx, BitVec.xor_zero]
      simp only [List.map_cons, List.foldl_cons, hm, hh, hswap, ih]

/-- The redundant units that remain, in order. -/
def remaining (p : Nat) (lostP : List Nat) : List Nat := (List.range p).filter fun o => !lostP.contains o

/-- What redundant unit `o` says of the lost units: their coefficients and their share of the sum. -/
def lostEquation {w : Nat} (m : List (Nat × BitVec w)) (o : Nat) : List (BitVec 8) × BitVec w :=
  ((m.map Prod.fst).map (parityCoef o), gfDot ((m.map Prod.fst).map (parityCoef o)) (m.map Prod.snd))

theorem filterMap_not_lost {α β : Type} (q : α → Bool) (f : α → β) (l : List α) :
    l.filterMap (fun a => if q a then none else some (f a)) = (l.filter fun a => !q a).map f := by
  induction l with
  | nil => rfl
  | cons a l ih => cases h : q a <;> simp [h, ih]

theorem placed_parity {w : Nat} (ds : List (BitVec w)) (p : Nat) :
    placed ((List.range p).map fun o => parityOf o ds) = (List.range p).map fun o => (o, parityOf o ds) := by
  rw [placed, List.length_map, List.length_range]
  simpa using List.zip_map' (f := id) (g := fun o => parityOf o ds) (l := List.range p)

/-- The equations of the redundant units that remain. -/
theorem filterMap_equations {n : Nat} (ds : List (BitVec (8 * n))) (p : Nat) (lost lostP : List Nat) :
    (placed (without ((List.range p).map fun o => parityOf o ds) lostP)).filterMap (fun q => q.2.map fun v =>
      (((missing lost (placed ds)).map Prod.fst).map (parityCoef q.1),
        ((placed ds).map (holed lost)).foldl (addKnown (parityCoef q.1)) v)) =
      (remaining p lostP).map (lostEquation (missing lost (placed ds))) := by
  rw [placed_without, placed_parity, List.map_map, List.filterMap_map, remaining, ← filterMap_not_lost]
  congr 1
  funext o
  have hsum : ((placed ds).map (holed lost)).foldl (addKnown (parityCoef o)) (parityOf o ds) = _ :=
    foldl_addKnown (parityCoef o) lost (placed ds) 0#(8 * n)
  by_cases h : o ∈ lostP <;> simp [holed, h, lostEquation, hsum]

/-- A unit that is known, or its value in `l`. -/
def unitOr {w : Nat} (l : List (Nat × BitVec w)) (q : Nat × Option (BitVec w)) : BitVec w :=
  match q.2 with
  | some d => d
  | none => (l.find? fun r => r.1 == q.1).elim 0 Prod.snd
theorem gfRecover_eq {w : Nat} (ds ps : List (Option (BitVec w))) :
    gfRecover ds ps =
      (gfSolve (((placed ds).filter fun q => q.2.isNone).map Prod.fst).length
        (((placed ps).filterMap fun q => q.2.map fun v =>
          ((((placed ds).filter fun q => q.2.isNone).map Prod.fst).map (parityCoef q.1),
            (placed ds).foldl (addKnown (parityCoef q.1)) v)).take
          (((placed ds).filter fun q => q.2.isNone).map Prod.fst).length)).map
        fun xs => (placed ds).map (unitOr ((((placed ds).filter fun q => q.2.isNone).map Prod.fst).zip xs)) := by
  unfold gfRecover
  dsimp only
  congr 1

/-- Solving a stripe, in terms of the units lost. -/
theorem gfRecover_without {n : Nat} (ds : List (BitVec (8 * n))) (p : Nat) (lost lostP : List Nat) :
    gfRecover (without ds lost) (without ((List.range p).map fun o => parityOf o ds) lostP) =
      (gfSolve (missing lost (placed ds)).length
        (((remaining p lostP).take (missing lost (placed ds)).length).map (lostEquation (missing lost (placed ds))))).map
        fun xs => (placed ds).map fun q => if lost.contains q.1
          then ((((missing lost (placed ds)).map Prod.fst).zip xs).find? fun r => r.1 == q.1).elim 0 Prod.snd
          else q.2 := by
  have hlost : ((placed (without ds lost)).filter fun q => q.2.isNone).map Prod.fst =
      (missing lost (placed ds)).map Prod.fst := by rw [placed_without, filter_isNone_holed]
  have heqs := filterMap_equations ds p lost lostP
  rw [← placed_without] at heqs
  have hunits : ∀ xs : List (BitVec (8 * n)),
      (placed (without ds lost)).map (unitOr (((missing lost (placed ds)).map Prod.fst).zip xs)) =
      (placed ds).map fun q => if lost.contains q.1
        then ((((missing lost (placed ds)).map Prod.fst).zip xs).find? fun r => r.1 == q.1).elim 0 Prod.snd
        else q.2 := fun xs => by
    rw [placed_without, List.map_map]
    refine List.map_congr_left fun q _ => ?_
    by_cases h : q.1 ∈ lost <;> simp [holed, unitOr, h]
  rw [gfRecover_eq, hlost, heqs, List.length_map, List.map_take]
  simp only [hunits]

/-! ## The units lost and their equations -/

section Stripe

variable {n : Nat} {ds : List (BitVec (8 * n))} {lost lostP : List Nat} {p : Nat}

theorem missing_fst (lost : List Nat) {α : Type} (l : List α) :
    (missing lost (placed l)).map Prod.fst = (List.range l.length).filter fun i => lost.contains i := by
  rw [← placed_fst, List.filter_map]; rfl

theorem length_missing {α : Type} {l : List α} (hnd : lost.Nodup) (hlt : ∀ i ∈ lost, i < l.length) :
    (missing lost (placed l)).length = lost.length := by
  rw [← List.length_map (f := Prod.fst), missing_fst]
  refine List.Perm.length_eq ((List.perm_ext_iff_of_nodup (List.nodup_range.filter _) hnd).2 fun i => ?_)
  simpa using hlt i

theorem length_remaining (hnd : lostP.Nodup) (hlt : ∀ o ∈ lostP, o < p) :
    (remaining p lostP).length + lostP.length = p := by
  have hin : ((List.range p).filter fun o => lostP.contains o).length = lostP.length :=
    List.Perm.length_eq ((List.perm_ext_iff_of_nodup (List.nodup_range.filter _) hnd).2 fun o => by simpa using hlt o)
  have := List.length_eq_length_filter_add (l := List.range p) fun o => lostP.contains o
  rw [List.length_range, hin] at this
  rw [remaining]
  omega

/-- The redundant units used are enough to solve for the units lost. -/
theorem independent_remaining (hd : ds.length ≤ 32) (hp : p ≤ 3) {t : Nat}
    (ht : (missing lost (placed ds)).length = t) (hrem : t ≤ (remaining p lostP).length) :
    Independent t ((((remaining p lostP).take t).map (lostEquation (missing lost (placed ds)))).map Prod.fst) := by
  have hsorted : (remaining p lostP).Pairwise (· < ·) := List.pairwise_lt_range.filter _
  rw [List.map_map, ← ht, ← List.length_map (f := Prod.fst)]
  refine independent_parityCoef (hsorted.sublist (List.take_sublist _ _)) (fun o ho => ?_) ?_ (fun i hi => ?_) ?_
  · have := List.mem_of_mem_take ho
    simp only [remaining, List.mem_filter, List.mem_range] at this
    omega
  · rw [missing_fst]; exact List.nodup_range.filter _
  · rw [missing_fst] at hi
    simp only [List.mem_filter, List.mem_range] at hi
    omega
  · simp only [List.length_take, List.length_map]
    omega

theorem solves_lostEquation (m : List (Nat × BitVec (8 * n))) (os : List Nat) :
    Solves (m.map Prod.snd) (os.map (lostEquation m)) := by
  simp [Solves, lostEquation]

/-- A unit is found by its place. -/
theorem find?_placed {α : Type} {l : List (Nat × α)} (hnd : (l.map Prod.fst).Nodup) {q : Nat × α} (hq : q ∈ l) :
    l.find? (fun r => r.1 == q.1) = some q := by
  induction l with
  | nil => cases hq
  | cons r l ih =>
    rw [List.map_cons, List.nodup_cons] at hnd
    rcases List.mem_cons.1 hq with rfl | hq
    · simp
    · have hne : r.1 ≠ q.1 := fun h => hnd.1 (h ▸ List.mem_map_of_mem hq)
      rw [List.find?_cons_of_neg (by simpa using hne), ih hnd.2 hq]

/-- The lost units' values put in their places give the stripe. -/
theorem placed_fill {α : Type} (z : α) (l : List α) (lost : List Nat) :
    ((placed l).map fun q => if lost.contains q.1
      then ((((missing lost (placed l)).map Prod.fst).zip ((missing lost (placed l)).map Prod.snd)).find?
        fun r => r.1 == q.1).elim z Prod.snd
      else q.2) = l := by
  refine Eq.trans (List.map_congr_left (g := Prod.snd) fun q hq => ?_) (placed_snd l)
  have hnd : ((missing lost (placed l)).map Prod.fst).Nodup := by rw [missing_fst]; exact List.nodup_range.filter _
  have hz : ((missing lost (placed l)).map Prod.fst).zip ((missing lost (placed l)).map Prod.snd) =
      missing lost (placed l) := by rw [List.zip_map']; exact List.map_id _
  split
  · rename_i h
    rw [hz, find?_placed hnd (List.mem_filter.2 ⟨hq, h⟩)]; rfl
  · rfl

end Stripe

/-- Settles O12: the rows of P, Q and R that remain are independent, so elimination solves them; and what was lost solves
them. -/
theorem lostDataUnitsAreRecovered : Obligations.LostDataUnitsAreRecovered := by
  intro n ds p lost lostP ⟨hd, hp, hnd, hndP, hlt, hltP⟩ hle
  have ht := length_missing hnd hlt
  have hrem := length_remaining hndP hltP
  rw [gfRecover_without, ht]
  have hsome := gfSolve_isSome (t := lost.length)
    (eqs := ((remaining p lostP).take lost.length).map (lostEquation (missing lost (placed ds))))
    (fun e he => by obtain ⟨o, _, rfl⟩ := List.mem_map.1 he; simpa [lostEquation] using ht)
    (independent_remaining hd hp ht (by omega))
  obtain ⟨ys, hys⟩ := Option.isSome_iff_exists.1 hsome
  have hval := gfSolve_eq_of_solves (by rw [List.length_map, ht]) (solves_lostEquation _ _) hys
  rw [hys, Option.map_some, hval, placed_fill]

end Sys2Proof.Machine

/-! An I/O command on a quiet device, from its capsule to its completion: what each step leaves, and the reading and checking
commands. -/

namespace Sys2Proof.Machine

/-! ## The entries of a table in canonical form -/

section Entries

variable {α : Type}

theorem Tab.getD_of_mem {d : Nat → α} {t : Tab α} {b : Nat} (h : Tab.risesFrom b t = true) {e : Nat × α} (he : e ∈ t) :
    Tab.getD d t e.1 = e.2 ∧ b ≤ e.1 := by
  induction t generalizing b with
  | nil => cases he
  | cons x t ih =>
    obtain ⟨j, v⟩ := x
    simp only [Tab.risesFrom, Bool.and_eq_true, decide_eq_true_eq] at h
    rcases List.mem_cons.1 he with rfl | he
    · exact ⟨by simp [Tab.getD], h.1⟩
    · obtain ⟨hv, hb⟩ := ih h.2 he
      exact ⟨by rw [Tab.getD, if_neg (by omega), hv], by omega⟩

theorem Tab.nodup_keys {t : Tab α} {b : Nat} (h : Tab.risesFrom b t = true) : (t.map Prod.fst).Nodup := by
  induction t generalizing b with
  | nil => exact List.nodup_nil
  | cons x t ih =>
    obtain ⟨j, v⟩ := x
    simp only [Tab.risesFrom, Bool.and_eq_true, decide_eq_true_eq] at h
    refine List.nodup_cons.2 ⟨fun hj => ?_, ih h.2⟩
    obtain ⟨e, he, rfl⟩ := List.mem_map.1 hj
    have := (Tab.getD_of_mem (d := fun _ => e.2) h.2 he).2
    omega

theorem Tab.mem_of_get_ne [Inhabited α] {t : Tab α} {k : Nat} (h : t.get k ≠ default) : (k, t.get k) ∈ t := by
  induction t with
  | nil => exact absurd rfl h
  | cons x t ih =>
    obtain ⟨j, v⟩ := x
    by_cases hj : j = k
    · subst hj
      have : Tab.get ((j, v) :: t) j = v := by simp [Tab.get, Tab.getD]
      rw [this]; exact List.mem_cons_self
    · have : Tab.get ((j, v) :: t) k = Tab.get t k := by simp [Tab.get, Tab.getD, hj]
      rw [this] at h ⊢
      exact List.mem_cons_of_mem _ (ih h)

variable [Inhabited α] [DecidableEq α] {t : Tab α}

theorem Tab.get_of_mem (h : t.wf = true) {e : Nat × α} (he : e ∈ t) : t.get e.1 = e.2 := by
  simp only [Tab.wf, Tab.wfD, Bool.and_eq_true] at h
  exact (Tab.getD_of_mem h.1 he).1

theorem Tab.mem_keysWhere (h : t.wf = true) {p : Nat → α → Bool} {k : Nat} :
    k ∈ t.keysWhere p ↔ t.get k ≠ default ∧ p k (t.get k) = true := by
  simp only [Tab.keysWhere, List.mem_map, List.mem_filter]
  constructor
  · rintro ⟨e, ⟨he, hp⟩, rfl⟩
    have hv := Tab.get_of_mem h he
    simp only [Tab.wf, Tab.wfD, Bool.and_eq_true, List.all_eq_true] at h
    have := h.2 e he
    rw [hv]
    exact ⟨by simpa using this, hp⟩
  · rintro ⟨hd, hp⟩
    exact ⟨_, ⟨Tab.mem_of_get_ne hd, hp⟩, rfl⟩

theorem Tab.nodup_keysWhere (h : t.wf = true) (p : Nat → α → Bool) : (t.keysWhere p).Nodup := by
  simp only [Tab.wf, Tab.wfD, Bool.and_eq_true] at h
  exact (Tab.nodup_keys h.1).sublist (List.filter_sublist.map _)

omit [DecidableEq α] in
/-- A condition on entries that the default meets, and every entry, holds of what any key reads as. -/
theorem Tab.get_of_all {p : α → Prop} (hd : p default) (h : ∀ e ∈ t, p e.2) (k : Nat) : p (t.get k) := by
  by_cases hk : t.get k = default
  · rw [hk]; exact hd
  · exact h _ (Tab.mem_of_get_ne hk)

end Entries

/-! ## The berths -/

section Berths

variable {s : State}

theorem mem_berths (h : Tab.wf s.brg.berth = true) {p : Berth → Bool} {b : Nat} :
    b ∈ s.berths p ↔ s.berth b ≠ default ∧ p (s.berth b) = true := Tab.mem_keysWhere h

theorem keysWhere_berth_eq_nil (h : Tab.wf s.brg.berth = true) {p : Nat → Berth → Bool}
    (hp : ∀ b, s.berth b ≠ default → p b (s.berth b) = false) : s.brg.berth.keysWhere p = [] :=
  List.eq_nil_iff_forall_not_mem.2 fun b hb => by
    obtain ⟨hd, hb⟩ := (Tab.mem_keysWhere h).1 hb
    rw [show s.brg.berth.get b = s.berth b from rfl, hp b hd] at hb
    cases hb

theorem berths_eq_nil (h : Tab.wf s.brg.berth = true) {p : Berth → Bool}
    (hp : ∀ b, s.berth b ≠ default → p (s.berth b) = false) : s.berths p = [] := keysWhere_berth_eq_nil h hp

/-- The one berth that meets a condition. -/
theorem head?_berths (h : Tab.wf s.brg.berth = true) {p : Berth → Bool} {b : Nat} (hd : s.berth b ≠ default)
    (hb : p (s.berth b) = true) (ho : ∀ x, s.berth x ≠ default → x ≠ b → p (s.berth x) = false) :
    (s.berths p).head? = some b := by
  have hmem : b ∈ s.berths p := (mem_berths h).2 ⟨hd, hb⟩
  cases hl : s.berths p with
  | nil => rw [hl] at hmem; cases hmem
  | cons x l =>
    have hx : x ∈ s.berths p := by rw [hl]; exact List.mem_cons_self
    obtain ⟨hxd, hxp⟩ := (mem_berths h).1 hx
    by_cases hxb : x = b
    · rw [hxb]; rfl
    · rw [ho x hxd hxb] at hxp; cases hxp

/-- Where at most the berths of `l` are in use, no more of them meet a condition. -/
theorem length_berths_le (h : Tab.wf s.brg.berth = true) {l : List Nat} (hl : ∀ b, s.berth b ≠ default → b ∈ l)
    (p : Berth → Bool) : (s.berths p).length ≤ l.length :=
  (Tab.nodup_keysWhere h _).length_le_of_subset fun b hb => hl b ((mem_berths h).1 hb).1

end Berths

/-! ## What passes without a trace

Counting, crossing the canal and handing a message to a transport leave everything that a command's run turns on as it
is. -/

/-- Registers of drives, lanes, ledger and roles stand at these offsets; port counters and clock gates do not. -/
def Steady (a : Nat) : Prop := a % 0x200 ≤ 4

/-- `t` is `s` after operations that concern no command's run: what has left the device has grown. -/
structure Calm (s t : State) : Prop where
  brg : t.brg = s.brg
  host : t.host = s.host
  ary : t.ary = s.ary
  drives : t.drives = s.drives
  mrd : t.mrd = s.mrd
  pair : t.pair = s.pair
  reg : ∀ a, Steady a → t.reg a = s.reg a
  out : s.out <+: t.out

namespace Calm

variable {s t u : State}

theorem refl (s : State) : Calm s s := ⟨rfl, rfl, rfl, rfl, rfl, rfl, fun _ _ => rfl, List.prefix_refl _⟩

theorem trans (h : Calm s t) (h' : Calm t u) : Calm s u :=
  ⟨h'.brg.trans h.brg, h'.host.trans h.host, h'.ary.trans h.ary, h'.drives.trans h.drives, h'.mrd.trans h.mrd,
    h'.pair.trans h.pair, fun a ha => (h'.reg a ha).trans (h.reg a ha), h.out.trans h'.out⟩

theorem fld (h : Calm s t) {f : Fld} (hf : Steady f.addr) : t.fld f = s.fld f := by rw [State.fld, h.reg _ hf]; rfl

theorem foldl {β : Type} (f : State → β → State) (hf : ∀ t x, Calm t (f t x)) (l : List β) (s : State) :
    Calm s (l.foldl f s) :=
  foldl_keeps (Calm s) f (fun t x h => h.trans (hf t x)) l s (refl s)

theorem ite (p : Prop) [Decidable p] (h : Calm s t) (h' : Calm s u) : Calm s (if p then t else u) := by
  split
  · exact h
  · exact h'

theorem emit (s : State) (o : Out) : Calm s (s.emit o) :=
  ⟨rfl, rfl, rfl, rfl, rfl, rfl, fun _ _ => rfl, List.prefix_append _ _⟩

theorem tick (s : State) : Calm s s.tick := ⟨rfl, rfl, rfl, rfl, rfl, rfl, fun _ _ => rfl, List.prefix_refl _⟩

theorem updTug (s : State) (f : Tugs → Tugs) : Calm s (s.updTug f) :=
  ⟨rfl, rfl, rfl, rfl, rfl, rfl, fun _ _ => rfl, List.prefix_refl _⟩

theorem updSlc (s : State) (f : Sluice → Sluice) : Calm s (s.updSlc f) :=
  ⟨rfl, rfl, rfl, rfl, rfl, rfl, fun _ _ => rfl, List.prefix_refl _⟩

theorem updCnl (s : State) (f : Canal → Canal) : Calm s (s.updCnl f) :=
  ⟨rfl, rfl, rfl, rfl, rfl, rfl, fun _ _ => rfl, List.prefix_refl _⟩

theorem updPwr (s : State) (f : Pwr → Pwr) : Calm s (s.updPwr f) :=
  ⟨rfl, rfl, rfl, rfl, rfl, rfl, fun _ _ => rfl, List.prefix_refl _⟩

theorem tally (s : State) (c i n : Nat) : Calm s (s.tally c i n) :=
  ⟨by simp, by simp, by simp, by simp, by simp, by simp, by simp, by simp⟩

theorem setFld (s : State) {f : Fld} (hf : ¬ Steady f.addr) (v : Nat) : Calm s (s.setFld f v) :=
  ⟨rfl, rfl, rfl, rfl, rfl, rfl, fun _ ha => setFld_reg_ne _ _ _ fun h => hf (by rwa [h]), List.prefix_refl _⟩

theorem hop (s : State) (a b n : Nat) : Calm s (s.hop a b n) := by
  have haddr : ¬ Steady Fld.TWP_DOMAIN_STAT_TUG_GATED.addr := by unfold Steady; decide
  exact ((tally s 0x080 a n).trans (tally _ 0x081 b n)).trans (ite _ (setFld _ haddr _) (refl _))

theorem netCount (s : State) (p k : Nat) : Calm s (s.netCount p 15 k) := by
  have haddr : ∀ a, a = Reg.NET_MCNT_LO 15 ∨ a = Reg.NET_CNT_LO (quadOf p) (laneOf p) 15 ∨ a = Reg.NET_MCNT_HI 15 ∨
      a = Reg.NET_CNT_HI (quadOf p) (laneOf p) 15 → ¬ Steady a := by
    simp only [Steady, Reg.NET_MCNT_LO, Reg.NET_MCNT_HI, Reg.NET_CNT_LO, Reg.NET_CNT_HI]
    omega
  have hlo : ¬ Steady (if p = 128 then Fld.NET_MCNT_LO_COUNT 15 else Fld.NET_CNT_LO_COUNT (quadOf p) (laneOf p) 15).addr :=
    haddr _ (by split <;> simp [Fld.NET_MCNT_LO_COUNT, Fld.NET_CNT_LO_COUNT])
  have hhi : ¬ Steady (if p = 128 then Fld.NET_MCNT_HI_COUNT 15 else Fld.NET_CNT_HI_COUNT (quadOf p) (laneOf p) 15).addr :=
    haddr _ (by split <;> simp [Fld.NET_MCNT_HI_COUNT, Fld.NET_CNT_HI_COUNT])
  exact ((setFld s hlo _).trans (setFld _ hhi _)).trans (tally _ _ _ _)

theorem emitPkt (s : State) (i : Nat) (p : TxPkt) (r : Bool) : Calm s (s.emitPkt i p r) :=
  (ite (r = true) (netCount s _ _) (refl s)).trans (emit _ _)

theorem pump (s : State) (i : Nat) : Calm s (s.pump i) :=
  (updTug _ _).trans (ite _ (refl _) ((foldl _ (fun t p => emitPkt t i p false) _ _).trans (tally _ _ _ _)))

theorem sendOn (s : State) (i n : Nat) (f : Bool) (v : Option Nat) (r : Option ReadTag) : Calm s (s.sendOn i n f v r) :=
  ite _ ((updTug _ _).trans (pump _ _)) (refl _)

theorem emitSeg (s : State) (c : Nat) (g : TxSeg) : Calm s (s.emitSeg c g) := by
  have hgone := (emit s (.tcp c (.segment g.seq g.len g.again ((s.conn c).cwr && !g.again)))).trans
    (tally _ (if g.again then 0x042 else 0x041) (connGroup c) 1)
  exact (hgone.trans (ite (g.again = true) (netCount _ _ _) (refl _))).trans (ite _ (updTug _ _) (refl _))

theorem stream (s : State) (c n : Nat) : Calm s (s.stream c n) :=
  (updTug _ _).trans ((updTug _ _).trans (foldl _ (fun t g => emitSeg t c g) _ _))

theorem sendPdu (s : State) (c n : Nat) : Calm s (s.sendPdu c n) :=
  ite _ ((emit _ _).trans (stream _ _ _)) (refl _)

theorem sendResp (s : State) (q : Nat) (v : Option Nat) : Calm s (s.sendResp q v) :=
  ite _ (sendPdu _ _ _) (sendOn _ _ _ _ _ _)

theorem sendBytes (s : State) (q n : Nat) : Calm s (s.sendBytes q n) :=
  ite _ (sendPdu _ _ _) (sendOn _ _ _ _ _ _)

theorem sendData (s : State) (q cid : Nat) (l : List Sector) (n : Nat) : Calm s (s.sendData q cid l n) :=
  (emit _ _).trans (sendBytes _ _ _)

theorem sendFetch (s : State) (b q cid n : Nat) : Calm s (s.sendFetch b q cid n) :=
  (emit _ _).trans (ite _ (sendPdu _ _ _) (sendOn _ _ _ _ _ _))

theorem tallyEng (s : State) (c e n : Nat) : Calm s (s.tallyEng c e n) :=
  ((tally _ _ _ _).trans (tally _ _ _ _)).trans (tally _ _ _ _)

theorem tallyIo (s : State) (c : IoCmd) (n : Namespace) (st : Status) : Calm s (s.tallyIo c n st) :=
  ((tally s 0x110 c.nsid 1).trans (ite _ (tally _ _ _ _) (refl _))).trans
    (ite _ (ite _ (tally _ _ _ _) (ite _ (tally _ _ _ _) (refl _))) (refl _))

theorem hopIn (s : State) (p : Bound) (a : Nat) : Calm s (s.hopIn p a) :=
  ite _ (hop _ _ _ _) ((hop _ _ _ _).trans (hop _ _ _ _))

theorem hopOut (s : State) (p : Bound) (l : List Nat) : Calm s (s.hopOut p l) :=
  ((ite (p.lane = 255) (refl s) (hop _ _ _ _)).trans (tally _ _ _ _)).trans (foldl _ (fun t _ => tally t _ _ _) l _)

theorem nsbDebit (s : State) (i n : Nat) : Calm s (s.nsbDebit i n) := ite _ (refl _) (updSlc _ _)

/-- What the sluice lets through costs the sluice's own buckets. -/
theorem sluiceAdmit {h : Nat} {f : FrameInfo} {n free depth : Nat} {cost : Nat × Nat}
    (ha : s.sluiceAdmit h f n cost free depth = some t) : Calm s t := by
  have hdebit : ∀ v : State, Calm s v → Calm s ((v.nsbDebit (2 * (n - 1)) cost.1).nsbDebit (2 * (n - 1) + 1) cost.2) :=
    fun v hv => hv.trans ((nsbDebit _ _ _).trans (nsbDebit _ _ _))
  rw [State.sluiceAdmit, Option.ite_none_right_eq_some, Option.some.injEq] at ha
  rw [← ha.2]
  refine hdebit _ ?_
  split
  · exact (updSlc _ _).trans ((tally _ _ _ _).trans (tally _ _ _ _))
  · exact refl _

end Calm

/-! ## Admission on a quiet device -/

/-- What commands leave alone from their capsule to their completion: tables, pairing, steady registers, and what has left
the device. -/
structure Near (s t : State) : Prop where
  mrd : t.mrd = s.mrd
  pair : t.pair = s.pair
  reg : ∀ a, Steady a → t.reg a = s.reg a
  out : s.out <+: t.out

theorem Calm.near {s t : State} (h : Calm s t) : Near s t := ⟨h.mrd, h.pair, h.reg, h.out⟩

theorem Near.trans {s t u : State} (h : Near s t) (h' : Near t u) : Near s u :=
  ⟨h'.mrd.trans h.mrd, h'.pair.trans h.pair, fun a ha => (h'.reg a ha).trans (h.reg a ha), h.out.trans h'.out⟩

theorem Near.fld {s t : State} (h : Near s t) {f : Fld} (hf : Steady f.addr) : t.fld f = s.fld f := by
  rw [State.fld, h.reg _ hf]; rfl

/-- A capsule with or without the data it came with. -/
theorem capsuleOf_eq (s : State) (c : IoCmd) : ∃ l, s.capsuleOf c = { c with data := l } := by
  unfold State.capsuleOf
  split
  · exact ⟨c.data, rfl⟩
  · exact ⟨[], rfl⟩

/-- The berth of a command that has just been admitted. -/
def freshBerth (e k qid host order time retries : Nat) (c : IoCmd) : Berth :=
  { (default : Berth) with
    state := .queued, owner := e, home := e, cntlid := k, qid := qid, host := host, cmd := c
    ownData := c.commit.isSome || !c.data.isEmpty, checkpoint := 1, lane := 255, order := order, admitTime := time
    retries := retries }

theorem Tab.wf_empty {α : Type} [Inhabited α] [DecidableEq α] {t : Tab α} (h : t.isEmpty = true) : t = [] ∧ t.wf = true := by
  cases t with
  | nil => exact ⟨rfl, rfl⟩
  | cons e t => cases h

section Pick

variable {s : State}

theorem poolUsed_le (h : Tab.wf s.brg.berth = true) {l : List Nat} (hl : ∀ b, s.berth b ≠ default → b ∈ l) (p : Nat) :
    s.poolUsed p ≤ l.length :=
  (Tab.nodup_keysWhere h _).length_le_of_subset fun b hb => hl b ((Tab.mem_keysWhere h).1 hb).1

theorem firstFrom_isSome {n a i : Nat} {p : Nat → Bool} (hi : i < n) (hp : p ((a + i) % n) = true) :
    (firstFrom n a p).isSome = true := by
  rw [firstFrom, List.find?_isSome]
  exact ⟨_, List.mem_map.2 ⟨i, List.mem_range.2 hi, rfl⟩, hp⟩

/-- With at most one berth in use an engine finds a free one in its own pool. -/
theorem pickBerth_of_few (h : Tab.wf s.brg.berth = true) (y : Nat) (hy : ∀ b, s.berth b ≠ default → b = y) (k : Nat) :
    ∃ b, s.pickBerth k = some b ∧ (s.berth b).state = .free := by
  have hfree : ∀ b, b ≠ y → (s.berth b).state = .free := fun b hb => by
    by_cases hd : s.berth b = default
    · rw [hd]; rfl
    · exact absurd (hy b hd) hb
  have hpool : ∀ p, s.poolFree p ≠ 0 := fun p => by
    have := poolUsed_le h (l := [y]) (fun b hb => List.mem_singleton.2 (hy b hb)) p
    simp only [List.length_singleton] at this
    unfold State.poolFree
    omega
  have hfound : ∀ p, (firstFrom 15872 s.freeVal fun i => (s.berth (poolBase p + i)).state == .free).isSome = true := fun p => by
    by_cases hq : poolBase p + (s.freeVal + 0) % 15872 = y
    · refine firstFrom_isSome (i := 1) (by decide) ?_
      rw [beq_iff_eq]
      exact hfree _ (by omega)
    · refine firstFrom_isSome (i := 0) (by decide) ?_
      rw [beq_iff_eq]
      exact hfree _ hq
  unfold State.pickBerth
  rw [show List.range 16 = 0 :: (List.range 15).map (· + 1) from rfl, List.map_cons, List.findSome?_cons]
  obtain ⟨i, hi⟩ := Option.isSome_iff_exists.1 (hfound ((k + 0) % 16))
  rw [if_neg (hpool _), hi]
  exact ⟨_, rfl, by simpa using List.find?_some hi⟩

end Pick

/-- The queue of a command, open on its home engine `e`. -/
structure OpenQueue (s : State) (c : IoCmd) (e : Nat) : Prop where
  live : (s.host.queue.get c.qref).live = true
  qid : (s.host.queue.get c.qref).qid ≠ 0
  disconnect : (s.host.queue.get c.qref).disconnect = none
  authOk : (s.host.queue.get c.qref).authOk = true
  sq : (s.host.queue.get c.qref).sq = []
  commits : (s.host.queue.get c.qref).commits = []
  cids : (s.host.queue.get c.qref).cids = []
  aborted : (s.host.queue.get c.qref).aborted = []
  commit : c.commit = none
  held : s.ioHeld c = false
  home : (s.host.queue.get c.qref).home = some e
  lt : e < 256
  isOpen : s.engOpen e = true

theorem exists_openQueue {s : State} {c : IoCmd} (h : s.queueOpen c = true) : ∃ e, OpenQueue s c e := by
  simp only [State.queueOpen, Bool.and_eq_true, bne_iff_ne, List.isEmpty_iff, Option.isNone_iff_eq_none,
    Bool.not_eq_true', Option.any_eq_true, decide_eq_true_eq] at h
  obtain ⟨⟨⟨⟨⟨⟨⟨⟨⟨⟨hlive, hqid⟩, hdis⟩, hauth⟩, hsq⟩, hcom⟩, hcid⟩, habo⟩, hc⟩, hheld⟩, e, hhome, hlt, hopen⟩ := h
  exact ⟨e, hlive, hqid, hdis, hauth, hsq, hcom, hcid, habo, hc, hheld, hhome, hlt, hopen⟩

/-- Nothing is under way. -/
structure Quiet (s : State) : Prop where
  berth : s.brg.berth = []
  tow : ∀ e, (s.eng e).tow = []
  transit : ∀ e, (s.eng e).transit = []
  locks : s.host.locks = []
  dying : s.host.dying = []

theorem quiet_of {s : State} (h : s.quiet = true) : Quiet s := by
  simp only [State.quiet, Bool.and_eq_true, List.isEmpty_iff, List.all_eq_true] at h
  obtain ⟨⟨⟨hb, he⟩, hl⟩, hd⟩ := h
  have heng := fun e => Tab.get_of_all (t := s.brg.eng) (p := fun x => x.tow = [] ∧ x.transit = []) ⟨rfl, rfl⟩ he e
  exact ⟨hb, fun e => (heng e).1, fun e => (heng e).2, hl, hd⟩

theorem berth_of_empty {s : State} (h : s.brg.berth = []) (b : Nat) : s.berth b = default := by
  rw [State.berth, h]; rfl

/-- The sluice's verdict does not turn on the queues' storage. -/
theorem sluiceAdmit_updHost_isSome (s : State) (g : HostFace → HostFace) (h : Nat) (f : FrameInfo) (n free depth : Nat)
    (cost : Nat × Nat) :
    ((s.updHost g).sluiceAdmit h f n cost free depth).isSome = (s.sluiceAdmit h f n cost free depth).isSome := by
  rw [Bool.eq_iff_iff, State.sluiceAdmit, State.sluiceAdmit, Option.isSome_ite, Option.isSome_ite]
  rfl

/-! ### Where the device stands while commands run -/

/-- What commands change while they run: the berths, the tow lines, the host face, the arrays' live sides and the
drives. -/
structure Scene where
  berth : Nat → Berth
  tow : Nat → List Nat
  host : HostFace
  ary : Tab ArrRun
  drives : Tab Drive

/-- Another berth in the place of `b`. -/
def Scene.put (c : Scene) (b : Nat) (e : Berth) : Scene := { c with berth := Function.update c.berth b e }

/-- `t`, which commands have reached from `s`, is as the scene says. -/
structure Stands (s : State) (c : Scene) (t : State) : Prop extends Near s t where
  wf : Tab.wf t.brg.berth = true
  berth : ∀ b, t.berth b = c.berth b
  tow : ∀ e, (t.eng e).tow = c.tow e
  runs : ∀ e, t.engRuns e = s.engRuns e
  host : t.host = c.host
  ary : t.ary = c.ary
  drives : t.drives = c.drives

section Scene

variable {s t u : State} {c : Scene} {b x : Nat} {e : Berth}

@[simp] theorem put_berth_same : (c.put b e).berth b = e := Function.update_self ..
theorem put_berth_ne (h : x ≠ b) : (c.put b e).berth x = c.berth x := Function.update_of_ne h ..
@[simp] theorem put_tow : (c.put b e).tow = c.tow := rfl
@[simp] theorem put_host : (c.put b e).host = c.host := rfl
@[simp] theorem put_ary : (c.put b e).ary = c.ary := rfl
@[simp] theorem put_drives : (c.put b e).drives = c.drives := rfl
@[simp] theorem put_put {e' : Berth} : (c.put b e).put b e' = c.put b e' := by simp [Scene.put]

theorem Stands.calm (h : Stands s c t) (h' : Calm t u) : Stands s c u where
  toNear := h.toNear.trans h'.near
  wf := by rw [h'.brg]; exact h.wf
  berth b := by rw [State.berth, h'.brg]; exact h.berth b
  tow e := by rw [State.eng, h'.brg]; exact h.tow e
  runs e := by rw [State.engRuns, State.eng, h'.brg]; exact h.runs e
  host := h'.host.trans h.host
  ary := h'.ary.trans h.ary
  drives := h'.drives.trans h.drives

/-- A berth changed. -/
theorem Stands.updBerth (h : Stands s c t) (b : Nat) (f : Berth → Berth) :
    Stands s (c.put b (f (c.berth b))) (t.updBerth b f) where
  toNear := ⟨h.mrd, h.pair, h.reg, h.out⟩
  wf := Tab.wf_upd _ _ h.wf
  berth x := by
    by_cases hx : x = b
    · subst hx; rw [put_berth_same, ← h.berth]; exact Tab.get_upd_eq _ _ _
    · rw [put_berth_ne hx, ← h.berth]; exact Tab.get_upd_ne _ _ (Ne.symm hx)
  tow := h.tow
  runs := h.runs
  host := h.host
  ary := h.ary
  drives := h.drives

theorem Stands.updHost (h : Stands s c t) (f : HostFace → HostFace) :
    Stands s { c with host := f c.host } (t.updHost f) where
  toNear := ⟨h.mrd, h.pair, h.reg, h.out⟩
  wf := h.wf
  berth := h.berth
  tow := h.tow
  runs := h.runs
  host := by rw [← h.host]; rfl
  ary := h.ary
  drives := h.drives

theorem Stands.updAry (h : Stands s c t) (i : Nat) (f : ArrRun → ArrRun) :
    Stands s { c with ary := c.ary.upd i f } (t.updAry i f) where
  toNear := ⟨h.mrd, h.pair, h.reg, h.out⟩
  wf := h.wf
  berth := h.berth
  tow := h.tow
  runs := h.runs
  host := h.host
  ary := by rw [← h.ary]; rfl
  drives := h.drives

theorem Stands.updBerth_to (h : Stands s c t) {f : Berth → Berth} (he : f (c.berth b) = e) :
    Stands s (c.put b e) (t.updBerth b f) := he ▸ h.updBerth b f

/-- A berth that is changed into what it was. -/
theorem Stands.updBerth_id (h : Stands s c t) {f : Berth → Berth} (hf : f (c.berth b) = c.berth b) :
    Stands s c (t.updBerth b f) := by
  have := h.updBerth b f
  rwa [hf, Scene.put, Function.update_eq_self] at this

end Scene

/-- One command on its berth, and no tow line with an entry. -/
def lone (b : Nat) (B : Berth) (h : HostFace) (A : Tab ArrRun) (D : Tab Drive) : Scene :=
  ⟨Function.update (fun _ => default) b B, fun _ => [], h, A, D⟩

/-- One command on its berth, alone on the tow line of engine `e`. -/
def lined (b e : Nat) (B : Berth) (h : HostFace) (A : Tab ArrRun) (D : Tab Drive) : Scene :=
  ⟨Function.update (fun _ => default) b B, Function.update (fun _ => []) e [b], h, A, D⟩

section Lone

variable {b e : Nat} {B : Berth} {h : HostFace} {A : Tab ArrRun} {D : Tab Drive}

@[simp] theorem lone_berth_same : (lone b B h A D).berth b = B := by simp [lone]
theorem lone_berth_ne (x : Nat) (hx : x ≠ b) : (lone b B h A D).berth x = default := by simp [lone, hx]
@[simp] theorem lone_host : (lone b B h A D).host = h := rfl
@[simp] theorem lone_ary : (lone b B h A D).ary = A := rfl
@[simp] theorem lone_drives : (lone b B h A D).drives = D := rfl
@[simp] theorem lone_put {B' : Berth} : (lone b B h A D).put b B' = lone b B' h A D := by simp [lone, Scene.put]
@[simp] theorem lined_berth_same : (lined b e B h A D).berth b = B := by simp [lined]
theorem lined_berth_ne (x : Nat) (hx : x ≠ b) : (lined b e B h A D).berth x = default := by simp [lined, hx]

/-- The line's only entry leaves it. -/
theorem lined_taken {B' : Berth} :
    { (lined b e B h A D).put b B' with tow := fun x => ((lined b e B h A D).tow x).erase b } = lone b B' h A D := by
  have htow : (fun x => ((lined b e B h A D).tow x).erase b) = fun _ => ([] : List Nat) := by
    funext x
    by_cases hx : x = e <;> simp [lined, hx]
  rw [htow]
  simp [lined, lone, Scene.put]

end Lone

/-- A queue of the host face changed. -/
def HostFace.updQueue (h : HostFace) (q : Nat) (f : Queue → Queue) : HostFace := { h with queue := h.queue.upd q f }

@[simp] theorem updQueue_get_same (h : HostFace) (q : Nat) (f : Queue → Queue) :
    (h.updQueue q f).queue.get q = f (h.queue.get q) := Tab.get_upd_eq h.queue q f

theorem updQueue_get_ne (h : HostFace) {q x : Nat} (f : Queue → Queue) (hx : x ≠ q) :
    (h.updQueue q f).queue.get x = h.queue.get x := Tab.get_upd_ne h.queue f (Ne.symm hx)

section Arrival

variable {s t u : State} {c : IoCmd} {sc : Scene} {b e : Nat}

theorem Stands.self (h : Tab.wf s.brg.berth = true) :
    Stands s ⟨s.berth, fun e => (s.eng e).tow, s.host, s.ary, s.drives⟩ s where
  toNear := (Calm.refl s).near
  wf := h
  berth _ := rfl
  tow _ := rfl
  runs _ := rfl
  host := rfl
  ary := rfl
  drives := rfl

theorem queue_updQueue_same (s : State) (q : Nat) (f : Queue → Queue) :
    (s.updQueue q f).host.queue.get q = f (s.host.queue.get q) := Tab.get_upd_eq s.host.queue q f

theorem queue_updQueue_ne (s : State) {q x : Nat} (f : Queue → Queue) (h : x ≠ q) :
    (s.updQueue q f).host.queue.get x = s.host.queue.get x := Tab.get_upd_ne s.host.queue f (Ne.symm h)

/-- Data makes no difference to a command's way to its berth. -/
theorem OpenQueue.withData (h : OpenQueue s c e) (l : List Sector) : OpenQueue s { c with data := l } e :=
  ⟨h.live, h.qid, h.disconnect, h.authOk, h.sq, h.commits, h.cids, h.aborted, h.commit, h.held, h.home, h.lt, h.isOpen⟩

theorem queue_queueUp (s : State) (c : IoCmd) :
    (s.queueUp c).host.queue.get c.qref =
      { s.host.queue.get c.qref with sq := (s.host.queue.get c.qref).sq ++ [c] } := queue_updQueue_same _ _ _

/-- A lone command waits at the head of its queue. -/
theorem capsule_of_openQueue (h : OpenQueue s c e) (hf : c.fuse = 0) : s.capsule c = s.queueUp c := by
  have hroom : ¬ (s.host.queue.get c.qref).sqsize + 1 ≤ 0 := by omega
  have hlone : (s.queueUp c).settleLone c.qref = s.queueUp c := by
    unfold State.settleLone
    simp only [queue_queueUp, h.sq, h.home, List.nil_append, hf]
    simp
  simp [State.capsule, h.live, h.qid, h.disconnect, h.sq, h.cids, h.authOk, hlone]

theorem Stands.updQueue (h : Stands s sc t) (q : Nat) (f : Queue → Queue) :
    Stands s { sc with host := sc.host.updQueue q f } (t.updQueue q f) :=
  h.updHost fun x => x.updQueue q f

/-- A berth set by a change of the barge that leaves the engines. -/
theorem Stands.setBerth (h : Stands s sc t) {b : Nat} {B : Berth} {f : Barge → Barge} (he : ∀ g, (f g).eng = g.eng)
    (hb : (f t.brg).berth = t.brg.berth.set b B) : Stands s (sc.put b B) (t.updBrg f) where
  toNear := ⟨h.mrd, h.pair, h.reg, h.out⟩
  wf := by
    show Tab.wf (f t.brg).berth = true
    rw [hb]; exact Tab.wf_set _ _ h.wf
  berth x := by
    show (f t.brg).berth.get x = _
    rw [hb]
    by_cases hx : x = b
    · subst hx; rw [put_berth_same]; exact Tab.get_set_eq _ _ _
    · rw [put_berth_ne hx, ← h.berth]; exact Tab.get_set_ne _ _ (Ne.symm hx)
  tow x := (congrArg (fun y : Tab Engine => (y.get x).tow) (he t.brg)).trans (h.tow x)
  runs x := (congrArg (fun y : Tab Engine => (y.get x).state == .run) (he t.brg)).trans (h.runs x)
  host := h.host
  ary := h.ary
  drives := h.drives

/-- A fresh berth in the place of a free one. -/
theorem Stands.fillBerth (h : Stands s sc t) (b e : Nat) (c : IoCmd) (hc : c.commit = none) :
    ∃ qid host order time retries,
      Stands s { sc.put b (freshBerth e (sc.host.queue.get c.qref).cntlid qid host order time retries c) with
          host := sc.host.updQueue c.qref fun x => { x with cids := x.cids ++ [c.cid] } }
        (t.fillBerth b e c) := by
  refine ⟨(t.host.queue.get c.qref).qid, t.queueHost c.qref, t.brg.admitted, t.stamp, t.fld Fld.CNL_AGE_CFG_RETRY, ?_⟩
  have hset := h.setBerth (b := b) (B := freshBerth e (t.host.queue.get c.qref).cntlid (t.host.queue.get c.qref).qid
      (t.queueHost c.qref) t.brg.admitted t.stamp (t.fld Fld.CNL_AGE_CFG_RETRY) c)
    (f := fun g => { g with
      admitted := g.admitted + 1
      berth := g.berth.set b (freshBerth e (t.host.queue.get c.qref).cntlid (t.host.queue.get c.qref).qid
        (t.queueHost c.qref) g.admitted t.stamp (t.fld Fld.CNL_AGE_CFG_RETRY) c) }) (fun _ => rfl) rfl
  have hcross := hset.calm (Calm.hop _ (attGroup (refGroup c.qref)) (attEngine e) 1)
  have hid := (hcross.updQueue c.qref fun y => { y with cids := y.cids ++ [c.cid] }).calm
    (Calm.tallyEng _ 0x060 e 1)
  rw [show (sc.host.queue.get c.qref).cntlid = (t.host.queue.get c.qref).cntlid by rw [h.host]]
  unfold State.fillBerth
  dsimp only
  rw [if_neg (by simp [hc])]
  exact hid

/-- A command pushed at the head of a tow line. -/
theorem Stands.pushTow (h : Stands s sc t) (e b : Nat) :
    Stands s { sc with tow := Function.update sc.tow e (b :: sc.tow e) } (t.pushTow e b) where
  toNear := ⟨h.mrd, h.pair, h.reg, h.out⟩
  wf := h.wf
  berth := h.berth
  tow x := by
    show ((t.brg.eng.upd e fun y => { y with tow := b :: y.tow }).get x).tow = Function.update sc.tow e (b :: sc.tow e) x
    by_cases hx : x = e
    · subst hx
      rw [Function.update_self, ← h.tow, Tab.get_upd_eq]; rfl
    · rw [Function.update_of_ne hx, ← h.tow, Tab.get_upd_ne _ _ (Ne.symm hx)]; rfl
  runs x := by
    rw [← h.runs x]
    show (((t.brg.eng.upd e fun y => { y with tow := b :: y.tow }).get x).state == .run) = t.engRuns x
    by_cases hx : x = e
    · subst hx
      rw [Tab.get_upd_eq]; rfl
    · rw [Tab.get_upd_ne _ _ (Ne.symm hx)]; rfl
  host := h.host
  ary := h.ary
  drives := h.drives

/-- No tow line is deep: no parked basin is called. -/
theorem basinTrigger_of_short (h : ∀ e, (s.eng e).tow.length < 48) : s.basinTrigger = s := by
  have : s.towDeep = false := by
    unfold State.towDeep
    rw [List.any_eq_false]
    intro e _
    have := h e
    simp only [Bool.and_eq_true, decide_eq_true_eq, not_and]
    omega
  rw [State.basinTrigger, this]; rfl

end Arrival

/-- A queue whose head has been admitted. -/
def Queue.took (u : Queue) (c : IoCmd) : Queue :=
  { u with sq := [], sqhd := (u.sqhd + 1) % (u.sqsize + 1), cids := [c.cid] }

/-- The host face once the head of an empty queue has been admitted. -/
structure TookHost (s : State) (c : IoCmd) (h : HostFace) : Prop where
  rest : h = { s.host with queue := h.queue }
  queue : h.queue.get c.qref = (s.host.queue.get c.qref).took c
  other : ∀ x, x ≠ c.qref → h.queue.get x = s.host.queue.get x

theorem TookHost.queueHost {s t : State} {c : IoCmd} (h : TookHost s c t.host) (q : Nat) :
    t.queueHost q = s.queueHost q := by
  have hq : (t.host.queue.get q).cntlid = (s.host.queue.get q).cntlid := by
    by_cases hx : q = c.qref
    · subst hx; rw [h.queue]; rfl
    · rw [h.other q hx]
  rw [State.queueHost, State.queueHost, hq, h.rest]

theorem TookHost.queueSubsys {s t : State} {c : IoCmd} (h : TookHost s c t.host) (q : Nat) :
    t.queueSubsys q = s.queueSubsys q := by
  have hq : (t.host.queue.get q).cntlid = (s.host.queue.get q).cntlid := by
    by_cases hx : q = c.qref
    · subst hx; rw [h.queue]; rfl
    · rw [h.other q hx]
  rw [State.queueSubsys, State.queueSubsys, hq, h.rest]

/-- No mark of the host's log is the command's to claim. -/
theorem claim_eq_none_iff (s : State) (c : IoCmd) :
    s.claim c = none ↔
      ((s.host.log.get (s.queueHost c.qref)).marks.filter fun n => c.opcode == 0 && c.nsid == 0xFFFFFFFF || n == c.nsid) = [] := by
  unfold State.claim
  dsimp only
  split <;> rename_i h
  · exact iff_of_true rfl h
  · exact iff_of_false (fun h => nomatch h) h

section Admission

variable {s : State} {c : IoCmd} {e : Nat}

/-- On a quiet device the pool and the sluice let the command at the head of an open queue through. -/
theorem admits_of_quiet (hq : Quiet s) (hs : s.sluicePasses c = true) :
    ∃ b v, (s.queueUp c).admits e c = some (b, v) ∧ Calm (s.queueUp c) v := by
  have hwf : Tab.wf s.brg.berth = true := by rw [hq.berth]; rfl
  obtain ⟨b, hb, -⟩ := pickBerth_of_few (s := s.queueUp c) hwf 0 (fun x hx => absurd (berth_of_empty hq.berth x) hx) (e / 16)
  have hfree : (s.queueUp c).poolFree ((b - 8192) / 15872) = 15872 := by
    have : (s.queueUp c).brg.berth = [] := hq.berth
    simp [State.poolFree, State.poolUsed, this, Tab.keysWhere]
  have hhost : (s.queueUp c).queueHost c.qref = s.queueHost c.qref := by
    rw [State.queueHost, queue_queueUp]; rfl
  have htow : ((s.queueUp c).eng e).tow = [] := hq.tow e
  obtain ⟨w, hw⟩ := Option.isSome_iff_exists.1 ((sluiceAdmit_updHost_isSome s
    (fun h => { h with queue := h.queue.upd c.qref fun e => { e with sq := e.sq ++ [c] } }) ..).trans hs)
  refine ⟨b, w.tick, ?_, (Calm.sluiceAdmit hw).trans (Calm.tick w)⟩
  unfold State.admits
  simp only [hb, hfree, hhost, htow, List.length_nil]
  rw [show (s.queueUp c).mrd = s.mrd from rfl]
  exact congrArg (Option.map fun t : State => (b, t.tick)) hw

/-- On a quiet device the command at the head of an open queue takes a berth and stands alone on its engine's tow line
(R99, R100). -/
theorem admitNow_of_quiet (hq : Quiet s) (ho : OpenQueue s c e) (hf : c.fuse = 0) (hs : s.sluicePasses c = true)
    (hc : s.claim c = none) :
    ∃ b qid host order time retries h, TookHost s c h ∧
      Stands s (lined b e (freshBerth e (s.host.queue.get c.qref).cntlid qid host order time retries c) h s.ary s.drives)
        ((s.queueUp c).admitNow c.qref) := by
  have hwf : Tab.wf s.brg.berth = true := by rw [hq.berth]; rfl
  have hstart : Stands s ⟨fun _ => default, fun _ => [], s.host, s.ary, s.drives⟩ s := by
    have := Stands.self hwf
    rwa [show s.berth = fun _ => default from funext (berth_of_empty hq.berth),
      show (fun e => (s.eng e).tow) = fun _ => [] from funext hq.tow] at this
  obtain ⟨b, v, hv, hcalm⟩ := admits_of_quiet (e := e) hq hs
  have hup : Stands s _ (s.queueUp c) := hstart.updQueue c.qref fun u => { u with sq := u.sq ++ [c] }
  have hpop : Stands s _ (v.popSq c.qref 1) := (hup.calm hcalm).updQueue c.qref fun u => { u with sq := u.sq.drop 1 }
  have hhead : Stands s _ ((v.popSq c.qref 1).advanceHead c.qref) :=
    hpop.updQueue c.qref fun u => { u with sqhd := (u.sqhd + 1) % (u.sqsize + 1) }
  obtain ⟨qid, host, order, time, retries, hfill⟩ := hhead.fillBerth b e c ho.commit
  have hpush := hfill.pushTow e b
  have htook : TookHost s c ((((v.popSq c.qref 1).advanceHead c.qref).fillBerth b e c)).host := by
    rw [hfill.host]
    refine ⟨rfl, ?_, fun x hx => ?_⟩
    · simp only [updQueue_get_same, ho.sq, ho.cids]
      rfl
    · simp only [updQueue_get_ne _ _ hx]
  have hclaim : (((v.popSq c.qref 1).advanceHead c.qref).fillBerth b e c).claim c = none := by
    rw [claim_eq_none_iff] at hc ⊢
    rwa [htook.queueHost, htook.rest]
  have hadmit : (s.queueUp c).admitFrom e c.qref =
      (((v.popSq c.qref 1).advanceHead c.qref).fillBerth b e c).pushTow e b := by
    have hheld : (s.queueUp c).ioHeld c = false := ho.held
    have htow : ((s.queueUp c).eng e).tow = [] := hq.tow e
    have htransit : ((s.queueUp c).eng e).transit = [] := hq.transit e
    unfold State.admitFrom
    simp only [queue_queueUp, ho.commits, ho.sq, hheld, htow, htransit, hf, List.nil_append]
    simp [State.admitOne, hv, queue_queueUp, ho.cids, ho.aborted, hclaim]
  refine ⟨b, qid, host, order, time, retries, _, htook, ?_⟩
  have hopen : (s.queueUp c).engOpen e = true := ho.isOpen
  have hnow : (s.queueUp c).admitNow c.qref = (((v.popSq c.qref 1).advanceHead c.qref).fillBerth b e c).pushTow e b := by
    unfold State.admitNow
    rw [queue_queueUp, ho.home]
    simp only [hopen, if_true, hadmit]
    refine basinTrigger_of_short fun x => ?_
    rw [hpush.tow]
    dsimp only [put_tow]
    by_cases hx : x = e
    · subst hx; simp
    · rw [Function.update_of_ne hx]; simp
  rw [hnow, hfill.host]
  simpa only [lined, Scene.put, updQueue_get_same] using hpush

end Admission

/-! ## The run of a command, step by step -/

/-- `t` is where the command of berth `b` stands `k` steps after `s`. -/
def Goes (b : Nat) (d : List Sector) (k : Nat) (s t : State) : Prop := ∀ n, s.runOn b d (k + n) = t.runOn b d n

section Goes

variable {b : Nat} {d : List Sector} {j k : Nat} {s t u : State}

theorem Goes.trans (h : Goes b d j s t) (h' : Goes b d k t u) : Goes b d (j + k) s u := fun n => by
  rw [Nat.add_assoc, h, h']

/-- One step that changes the berth. -/
theorem goes_of_progress (hf : (s.berth b).state ≠ .free) (hp : s.progress b d = t) (hc : t.berth b ≠ s.berth b) :
    Goes b d 1 s t := fun n => by
  rw [Nat.add_comm, State.runOn]
  simp only [hp, if_neg hf, if_neg hc]

theorem runOn_of_free (hf : (s.berth b).state = .free) (n : Nat) : s.runOn b d n = s := by
  cases n with
  | zero => rfl
  | succ n => rw [State.runOn]; simp only [hf, if_true]

theorem runOn_of_stuck (hs : s.progress b d = s) (n : Nat) : s.runOn b d n = s := by
  cases n with
  | zero => rfl
  | succ n =>
    rw [State.runOn]
    simp only [hs, if_true, ite_self]

end Goes

/-! ### The engine takes the command -/

section Take

variable {s t : State} {sc : Scene} {b e : Nat}

/-- A berth removed from every line, its group left as it is. -/
def State.offLine (s : State) (b : Nat) : State :=
  s.updBrg fun g => { g with eng := g.eng.mapAll fun _ e => { e with tow := e.tow.erase b, transit := e.transit.erase b } }

/-- A berth's group, which shrinks with it. -/
def State.shrink (s : State) (k : Nat) : State :=
  (s.berths fun x => x.token == k && x.state == .queued).foldl (fun t x =>
    t.updBerth x fun y => { y with tokenLen := (s.berths fun x => x.token == k && x.state == .queued).length }) s

theorem untow_eq (s : State) (b : Nat) :
    s.untow b = if (s.berth b).token = 0 then (s.offLine b).updBerth b fun x => { x with token := 0, tokenLen := 0 }
      else ((s.offLine b).updBerth b fun x => { x with token := 0, tokenLen := 0 }).shrink (s.berth b).token := rfl

theorem eng_offLine (s : State) (b x : Nat) : (s.offLine b).eng x =
    { s.eng x with tow := (s.eng x).tow.erase b, transit := (s.eng x).transit.erase b } :=
  Tab.get_mapAll s.brg.eng (fun _ e => { e with tow := e.tow.erase b, transit := e.transit.erase b }) x rfl

theorem Stands.offLine (h : Stands s sc t) (b : Nat) :
    Stands s { sc with tow := fun x => (sc.tow x).erase b } (t.offLine b) where
  toNear := ⟨h.mrd, h.pair, h.reg, h.out⟩
  wf := h.wf
  berth := h.berth
  tow x := by
    rw [eng_offLine]
    exact congrArg (List.erase · b) (h.tow x)
  runs x := by
    rw [← h.runs, State.engRuns, eng_offLine]; rfl
  host := h.host
  ary := h.ary
  drives := h.drives

/-- A command that belongs to no group is taken from its line (R103). -/
theorem Stands.runBerth (h : Stands s sc t) (hk : (sc.berth b).token = 0) (e : Nat) :
    Stands s { sc.put b { sc.berth b with token := 0, tokenLen := 0, state := .run, owner := e } with
      tow := fun x => (sc.tow x).erase b } (t.runBerth e b) := by
  rw [State.runBerth, untow_eq, h.berth, if_pos hk]
  have := ((h.offLine b).updBerth b fun x => { x with token := 0, tokenLen := 0 }).updBerth b
    fun x => { x with state := .run, owner := e }
  simpa only [Scene.put, Function.update_self, Function.update_idem] using this

/-- The engine whose line holds a queued command takes it. -/
theorem progress_of_queued (h : Stands s sc t) (hq : (sc.berth b).state = .queued) (he : e < 256) (hin : b ∈ sc.tow e)
    (hout : ∀ x, x ≠ e → b ∉ sc.tow x) (hr : s.engRuns e = true) {l : List Nat} (hl : ∀ x, sc.berth x ≠ default → x ∈ l)
    (hfew : l.length < 1024) (d : List Sector) : t.progress b d = t.runBerth e b := by
  have hsome : ((List.range 256).find? fun x => (t.eng x).tow.contains b).isSome = true := by
    rw [List.find?_isSome]
    exact ⟨e, List.mem_range.2 he, by rw [h.tow]; simpa using hin⟩
  obtain ⟨x, hx⟩ := Option.isSome_iff_exists.1 hsome
  have hxe : x = e := by
    by_contra hne
    have := List.find?_some hx
    rw [h.tow] at this
    exact hout x hne (by simpa using this)
  have hfly : t.inflight e < 1024 :=
    Nat.lt_of_le_of_lt (length_berths_le h.wf (fun y hy => hl y (by rwa [← h.berth])) _) hfew
  rw [State.progress, h.berth, hq]
  simp only [hx, hxe, h.runs, hr, hfly, true_and, if_true]

/-! ### A step -/

theorem progress_of_run (h : Stands s sc t) (hr : (sc.berth b).state = .run) (ho : (sc.berth b).orphan = false)
    (he : s.engRuns (sc.berth b).owner = true) (d : List Sector) : t.progress b d = t.runStep b := by
  rw [State.progress, h.berth, hr]
  simp [h.runs, he, ho]

theorem foldl_of_fixed {σ β : Type} {f : σ → β → σ} {t : σ} {l : List β} (h : ∀ p ∈ l, f t p = t) : l.foldl f t = t := by
  induction l with
  | nil => rfl
  | cons p l ih =>
    rw [List.foldl_cons, h p List.mem_cons_self]
    exact ih fun q hq => h q (List.mem_cons_of_mem _ hq)

/-- Nothing has been held for a berth that an engine owns. -/
theorem takeHeld_of_none (t : State) (b : Nat) (hops : ∀ o ∈ (t.berth b).ops, o.heldBack = none)
    (hdata : (t.berth b).heldData = none) : t.takeHeld b = t := by
  unfold State.takeHeld
  rw [foldl_of_fixed fun p hp => by rw [hops _ (List.fst_mem_of_mem_zipIdx hp)]]
  simp only [hdata]

/-- A command that stands alone and has not failed: its step is the one its checkpoint names (Table 4-5). -/
structure Berth.Plain (e : Berth) : Prop where
  run : e.state = .run
  orphan : e.orphan = false
  failed : e.failed = false
  first : e.fusedFirst = false
  second : e.fusedSecond = false
  restarted : e.restarted = false
  mate : e.mate = none
  commit : e.cmd.commit = none
  heldData : e.heldData = none
  ops : ∀ o ∈ e.ops, o.heldBack = none

end Take

/-- The step that a berth's checkpoint names. -/
def State.atCheckpoint (s : State) (b : Nat) : State :=
  let e := s.berth b
  match e.checkpoint with
  | 0 | 1 => (s.checkStep b).getD (s.updBerth b fun x => { x with checkpoint := 2 })
  | 2 => (s.checkStep b).getD (s.plan b)
  | 3 => s.interlockStep b fun s =>
      if e.cmd.opcode = 1 ∨ e.cmd.opcode = 5 then s.fetchStep b else s.workStep b
  | 4 | 6 | 7 => s.workStep b
  | _ => s

theorem step1_eq (s : State) (b : Nat) : s.step1 b =
    let s := s.updBerth b fun x => { x with restarted := false }
    let e := s.berth b
    if e.failed then s.finishBerth b e.status
    else if e.fusedSecond && !((e.mate.map fun m => (s.berth m).compared).getD true) then s.waitFor b .mate
    else if e.fusedFirst && e.compared then s.waitFor b .mate
    else if s.commitBehind e then s.waitFor b .commit
    else s.atCheckpoint b := rfl

/-- The host face that a run keeps: whose queues they are, no interlock, no namespace on its way out. -/
structure Faces (s : State) (h : HostFace) : Prop where
  assoc : h.assoc = s.host.assoc
  cntlid : ∀ q, (h.queue.get q).cntlid = (s.host.queue.get q).cntlid
  live : ∀ q, (h.queue.get q).live = (s.host.queue.get q).live
  locks : h.locks = []
  dying : h.dying = []
  lostBlks : h.lostBlks = s.host.lostBlks

theorem TookHost.faces {s : State} {c : IoCmd} {h : HostFace} (ht : TookHost s c h) (hq : Quiet s) : Faces s h where
  assoc := by rw [ht.rest]
  cntlid q := by
    by_cases hx : q = c.qref
    · subst hx; rw [ht.queue]; rfl
    · rw [ht.other q hx]
  live q := by
    by_cases hx : q = c.qref
    · subst hx; rw [ht.queue]; rfl
    · rw [ht.other q hx]
  locks := by rw [ht.rest]; exact hq.locks
  dying := by rw [ht.rest]; exact hq.dying
  lostBlks := by rw [ht.rest]

theorem Faces.queueHost {s t : State} (h : Faces s t.host) (q : Nat) : t.queueHost q = s.queueHost q := by
  rw [State.queueHost, h.cntlid, h.assoc]; rfl

theorem Faces.queueSubsys {s t : State} (h : Faces s t.host) (q : Nat) : t.queueSubsys q = s.queueSubsys q := by
  rw [State.queueSubsys, h.cntlid, h.assoc]; rfl

theorem Near.ioCheck {s t : State} (h : Near s t) (hf : Faces s t.host) (c : IoCmd) : t.ioCheck c = s.ioCheck c := by
  have hlane : t.lanesUp = s.lanesUp := by
    unfold State.lanesUp State.laneFenced
    rw [h.fld (by unfold Steady; decide)]
  unfold State.ioCheck
  rw [h.mrd, hf.queueHost, hf.queueSubsys, hlane]

section Steps

variable {s t : State} {sc : Scene} {b : Nat} {d : List Sector}

/-- A plain berth's step is the one its checkpoint names. -/
theorem exists_progress_eq_atCheckpoint (h : Stands s sc t) (hp : (sc.berth b).Plain)
    (he : s.engRuns (sc.berth b).owner = true) :
    ∃ u, Stands s sc u ∧ t.progress b d = u.atCheckpoint b := by
  have hu := h.updBerth_id (b := b) (f := fun x => { x with restarted := false }) (by
    have := hp.restarted
    generalize sc.berth b = B at this ⊢
    cases B
    cases this
    rfl)
  refine ⟨_, hu, ?_⟩
  have hheld := takeHeld_of_none t b (by rw [h.berth]; exact hp.ops) (by rw [h.berth]; exact hp.heldData)
  rw [progress_of_run h hp.run hp.orphan he, State.runStep, hheld, if_pos (by rw [h.berth]; exact hp.run), step1_eq]
  simp [hu.berth, hp.failed, hp.first, hp.second, State.commitBehind, hp.commit]

theorem checkStep_of_first (t : State) (b : Nat) (hf : (t.berth b).fusedFirst = false) :
    t.checkStep b = (t.ioCheck (t.berth b).cmd).map fun x => t.finishBerth b x.2 := by
  simp [State.checkStep, hf]

/-- PARSED: the checks of Table 2-10 pass. -/
theorem progress_parsed (h : Stands s sc t) (hp : (sc.berth b).Plain) (he : s.engRuns (sc.berth b).owner = true)
    (hf : Faces s sc.host) (hcp : (sc.berth b).checkpoint = 1) (hc : s.ioCheck (sc.berth b).cmd = none) :
    Stands s (sc.put b { sc.berth b with checkpoint := 2 }) (t.progress b d) := by
  obtain ⟨u, hu, heq⟩ := exists_progress_eq_atCheckpoint (d := d) h hp he
  have hcheck : u.checkStep b = none := by
    rw [checkStep_of_first u b (by rw [hu.berth]; exact hp.first), hu.toNear.ioCheck (hu.host ▸ hf), hu.berth, hc]; rfl
  rw [heq, State.atCheckpoint]
  simp only [hu.berth, hcp, hcheck, Option.getD_none]
  exact hu.updBerth_to rfl

/-- PLANNED. -/
theorem progress_checked (h : Stands s sc t) (hp : (sc.berth b).Plain) (he : s.engRuns (sc.berth b).owner = true)
    (hf : Faces s sc.host) (hcp : (sc.berth b).checkpoint = 2) (hc : s.ioCheck (sc.berth b).cmd = none) :
    ∃ u, Stands s sc u ∧ t.progress b d = u.plan b := by
  obtain ⟨u, hu, heq⟩ := exists_progress_eq_atCheckpoint (d := d) h hp he
  have hcheck : u.checkStep b = none := by
    rw [checkStep_of_first u b (by rw [hu.berth]; exact hp.first), hu.toNear.ioCheck (hu.host ▸ hf), hu.berth, hc]; rfl
  refine ⟨u, hu, ?_⟩
  rw [heq, State.atCheckpoint]
  simp only [hu.berth, hcp, hcheck, Option.getD_none]

end Steps

/-! ### The plan -/

/-- A berth once its plan is made (R111, PLANNED). -/
def Berth.planned (x : Berth) (n : Namespace) (bank : Bool) (lane ser rn rnN turn : Nat) (ops : List PlanOp) : Berth :=
  { x with
    checkpoint := 3, ns := n, keySlot := n.keySlot, bank := bank, lane := lane, serial := ser, rn := rn, rnN := rnN
    ops := ops, fetched := x.ownData, issued := false, merged := none, placed := false, ledger := false, turn := turn }

/-- Another turn among the reads of the array, where the namespace exists. -/
def turned (n : Namespace) (A : Tab ArrRun) : Tab ArrRun :=
  if n.present then A.upd n.array fun a => { a with readTurn := a.readTurn + 1 } else A

section Plan

variable {s t : State} {sc : Scene} {b : Nat}

/-- A command that changes no data takes neither serials nor record numbers. -/
theorem bind_of_reading (s : State) (c : IoCmd) (hc : changesData c = false) :
    (s.bind c).1 = s.tick ∧ (s.bind c).2.1.ser = 0 ∧ (s.bind c).2.1.rn = 0 ∧ (s.bind c).2.2 = 0 ∧
      (s.bind c).2.1.turn = (s.ary.get (s.mrd.ns.get c.nsid).array).readTurn := by
  simp [State.bind, hc]

theorem Stands.turned (h : Stands s sc t) (n : Namespace) :
    Stands s { sc with ary := turned n sc.ary }
      (if n.present then t.updAry n.array fun a => { a with readTurn := a.readTurn + 1 } else t) := by
  unfold Machine.turned
  split
  · exact h.updAry _ _
  · exact h

/-- The plan of a command that changes no data. -/
theorem Stands.plan_of_reading (h : Stands s sc t) (hc : changesData (sc.berth b).cmd = false) :
    ∃ bank lane, Stands s
      ({ sc with ary := Machine.turned (s.mrd.ns.get (sc.berth b).cmd.nsid) sc.ary }.put b
        ((sc.berth b).planned (s.mrd.ns.get (sc.berth b).cmd.nsid) bank lane 0 0 0
          (sc.ary.get (s.mrd.ns.get (sc.berth b).cmd.nsid).array).readTurn
          (t.cmdOps (s.mrd.ns.get (sc.berth b).cmd.nsid)
            (sc.ary.get (s.mrd.ns.get (sc.berth b).cmd.nsid).array).readTurn (sc.berth b).cmd)))
      (t.plan b) := by
  obtain ⟨h1, hser, hrn, hrnN, hturn⟩ := bind_of_reading t (sc.berth b).cmd hc
  rw [h.mrd, h.ary] at hturn
  have hgo := ((h.calm (Calm.tick t)).turned (s.mrd.ns.get (sc.berth b).cmd.nsid))
  unfold State.plan
  simp only [h.berth, h.mrd, h1, hser, hrn, hrnN, hturn]
  exact ⟨_, _, hgo.updBerth_to rfl⟩

end Plan

/-! ### Interlocks and the host's data -/

/-- A command whose data the host has sent, or that brought it. -/
def Berth.supplied (x : Berth) (d : List Sector) : Berth :=
  { x with state := .run, waits := .nothing, checkpoint := 4, fetched := true, cmd := { x.cmd with data := d } }

section Interlock

variable {s t : State} {sc sc' : Scene} {b : Nat} {d : List Sector}

theorem goes_of_stands (h : Stands s sc t) (h' : Stands s sc' (t.progress b d)) (hf : (sc.berth b).state ≠ .free)
    (hne : sc'.berth b ≠ sc.berth b) : Goes b d 1 t (t.progress b d) :=
  goes_of_progress (by rwa [h.berth]) rfl (by rwa [h.berth, h'.berth])

theorem askBlks_nil (hl : t.host.locks = []) : t.askBlks b [] = t := by
  have hsame : { t.host with locks := [] } = t.host := by rw [← hl]
  unfold State.askBlks
  simp only [State.updHost, hl, List.filter_nil, List.append_nil, List.map_nil]
  rw [hsame]

/-- With no other command about, every block is free. -/
theorem blksFree_of_alone (h : Stands s sc t) (ha : ∀ x, x ≠ b → sc.berth x = default) (hl : sc.host.locks = [])
    (hs : (sc.berth b).fusedSecond = false) : t.blksFree b = true := by
  have hname : t.lockName b = b := by simp [State.lockName, h.berth, hs]
  have hline : ∀ k, t.lineBefore b (t.berth b) k = false := fun k => by simp [State.lineBefore, h.host, hl]
  have hrmw : ∀ k, t.earlierRmw b (t.berth b) k = false := fun k => by
    unfold State.earlierRmw
    rw [keysWhere_berth_eq_nil h.wf fun x hx => ?_]
    · rfl
    · have : x = b := by
        by_contra hne
        exact hx (by rw [h.berth, ha x hne])
      simp [this]
  unfold State.blksFree
  simp [hname, hline, hrmw]

theorem interlockStep_of_alone (h : Stands s sc t) (ha : ∀ x, x ≠ b → sc.berth x = default) (hl : sc.host.locks = [])
    (hs : (sc.berth b).fusedSecond = false) (hn : (sc.berth b).locks = []) (k : State → State) : t.interlockStep b k = k t := by
  unfold State.interlockStep
  simp only [blksFree_of_alone h ha hl hs, if_true, h.berth, hs, hn]
  rw [if_neg (by decide), askBlks_nil (by rw [h.host, hl])]

/-- What PLANNED leads to where no interlock stands in the way: FETCHED for a command that wants the host's data, else the
work. -/
theorem progress_planned (h : Stands s sc t) (hp : (sc.berth b).Plain) (he : s.engRuns (sc.berth b).owner = true)
    (ha : ∀ x, x ≠ b → sc.berth x = default) (hl : sc.host.locks = []) (hn : (sc.berth b).locks = [])
    (hcp : (sc.berth b).checkpoint = 3) :
    ∃ v, Stands s sc v ∧ t.progress b d =
      if (sc.berth b).cmd.opcode = 1 ∨ (sc.berth b).cmd.opcode = 5 then v.fetchStep b else v.workStep b := by
  obtain ⟨v, hv, heq⟩ := exists_progress_eq_atCheckpoint (d := d) h hp he
  refine ⟨v, hv, ?_⟩
  rw [heq, State.atCheckpoint]
  simp only [hv.berth, hcp, interlockStep_of_alone hv ha hl hp.second hn]

theorem Stands.fetchStep_of_fetched (h : Stands s sc t) (hf : (sc.berth b).fetched = true) :
    Stands s (sc.put b { sc.berth b with checkpoint := 4 }) (t.fetchStep b) := by
  have heq : t.fetchStep b = t.updBerth b fun x => { x with checkpoint := 4 } := by simp [State.fetchStep, h.berth, hf]
  rw [heq]
  exact h.updBerth_to rfl

theorem Stands.fetchStep_of_not_fetched (h : Stands s sc t) (hf : (sc.berth b).fetched = false) :
    Stands s (sc.put b { sc.berth b with state := .wait, waits := .data }) (t.fetchStep b) := by
  have heq : t.fetchStep b = (t.sendFetch b (sc.berth b).cmd.qref (sc.berth b).cmd.cid
      ((sc.berth b).cmd.nlb * blkBytes (sc.berth b).cmd (sc.berth b).ns)).waitFor b .data := by
    simp [State.fetchStep, h.berth, hf]
  rw [heq]
  exact (h.calm (Calm.sendFetch _ _ _ _ _)).updBerth_to rfl

/-- The host's data comes for a berth that waits for it. -/
theorem Stands.progress_of_data (h : Stands s sc t) (hs : (sc.berth b).state = .wait) (hw : (sc.berth b).waits = .data)
    (ho : (sc.berth b).orphan = false) :
    Stands s (sc.put b { sc.berth b with
      state := .run, waits := .nothing, fetched := true, cmd := { (sc.berth b).cmd with data := d } }) (t.progress b d) := by
  have hp : t.progress b d = t.hostData b d := by
    rw [State.progress, h.berth, hs]
    simp only [hw]
  rw [hp, State.hostData, h.berth, ho]
  simp only [Bool.false_eq_true, if_false, hs, hw, and_self, if_true]
  exact h.updBerth_to rfl

theorem exists_progress_eq_workStep (h : Stands s sc t) (hp : (sc.berth b).Plain)
    (he : s.engRuns (sc.berth b).owner = true) (hcp : (sc.berth b).checkpoint = 4 ∨ (sc.berth b).checkpoint = 6) :
    ∃ v, Stands s sc v ∧ t.progress b d = v.workStep b := by
  obtain ⟨v, hv, heq⟩ := exists_progress_eq_atCheckpoint (d := d) h hp he
  refine ⟨v, hv, ?_⟩
  rw [heq, State.atCheckpoint]
  rcases hcp with hcp | hcp <;> simp only [hv.berth, hcp]

/-- A berth with its data at hand takes the step to FETCHED. -/
theorem reaches_work_of_fetched (h : Stands s sc t) (hp : (sc.berth b).Plain) (he : s.engRuns (sc.berth b).owner = true)
    (ha : ∀ x, x ≠ b → sc.berth x = default) (hl : sc.host.locks = []) (hn : (sc.berth b).locks = [])
    (hcp : (sc.berth b).checkpoint = 3) (hop : (sc.berth b).cmd.opcode = 1 ∨ (sc.berth b).cmd.opcode = 5)
    (hf : (sc.berth b).fetched = true) :
    ∃ u v, Goes b d 1 t u ∧ Stands s (sc.put b { sc.berth b with checkpoint := 4 }) u ∧
      Stands s (sc.put b { sc.berth b with checkpoint := 4 }) v ∧ u.progress b d = v.workStep b := by
  obtain ⟨v, hv, hstep⟩ := progress_planned (d := d) h hp he ha hl hn hcp
  rw [if_pos hop] at hstep
  have hu := hv.fetchStep_of_fetched hf
  rw [← hstep] at hu
  have hgo := goes_of_stands h hu (by rw [hp.run]; decide) (fun heq => by
    rw [put_berth_same] at heq
    have := congrArg Berth.checkpoint heq
    rw [hcp] at this
    cases this)
  obtain ⟨w, hw, hwork⟩ := exists_progress_eq_workStep (d := d) (b := b) hu
    (by rw [put_berth_same]; exact ⟨hp.run, hp.orphan, hp.failed, hp.first, hp.second, hp.restarted, hp.mate, hp.commit, hp.heldData, hp.ops⟩)
    (by rw [put_berth_same]; exact he) (by rw [put_berth_same]; exact .inl rfl)
  exact ⟨_, w, hgo, hu, hw, hwork⟩

/-- A berth past its plan that takes no block's interlock: its data is fetched where its command wants some (Table 4-5),
then it works. -/
theorem reaches_work (h : Stands s sc t) (hp : (sc.berth b).Plain) (he : s.engRuns (sc.berth b).owner = true)
    (ha : ∀ x, x ≠ b → sc.berth x = default) (hl : sc.host.locks = []) (hn : (sc.berth b).locks = [])
    (hcp : (sc.berth b).checkpoint = 3) (hw : (sc.berth b).waits = .nothing) :
    ∃ k ≤ 3, ∃ u v B, Goes b d k t u ∧ Stands s (sc.put b B) u ∧ Stands s (sc.put b B) v ∧ u.progress b d = v.workStep b ∧
      B = if (sc.berth b).cmd.opcode = 1 ∨ (sc.berth b).cmd.opcode = 5 then
        (sc.berth b).supplied (if (sc.berth b).fetched then (sc.berth b).cmd.data else d) else sc.berth b := by
  by_cases hop : (sc.berth b).cmd.opcode = 1 ∨ (sc.berth b).cmd.opcode = 5
  · rw [if_pos hop]
    cases hf : (sc.berth b).fetched with
    | true =>
      obtain ⟨u, v, hgo, hu, hv, hwork⟩ := reaches_work_of_fetched (d := d) h hp he ha hl hn hcp hop hf
      refine ⟨1, by omega, u, v, _, hgo, hu, hv, hwork, ?_⟩
      have hrun := hp.run
      generalize sc.berth b = B at hf hw hrun ⊢
      cases B
      cases hf
      cases hw
      cases hrun
      rfl
    | false =>
      obtain ⟨v, hv, hstep⟩ := progress_planned (d := d) h hp he ha hl hn hcp
      rw [if_pos hop] at hstep
      have hu := hv.fetchStep_of_not_fetched hf
      rw [← hstep] at hu
      have hgo := goes_of_stands h hu (by rw [hp.run]; decide) (fun heq => by
        rw [put_berth_same] at heq
        have := congrArg Berth.state heq
        rw [hp.run] at this
        cases this)
      have hdata := hu.progress_of_data (d := d) (b := b) (by rw [put_berth_same]) (by rw [put_berth_same])
        (by rw [put_berth_same]; exact hp.orphan)
      have hgo' := goes_of_stands hu hdata (by rw [put_berth_same]; exact fun h => nomatch h) (fun heq => by
        rw [put_berth_same, put_berth_same] at heq
        have := congrArg Berth.state heq
        cases this)
      rw [put_berth_same, put_put] at hdata
      obtain ⟨u', v', hgo'', hu', hv', hwork⟩ := reaches_work_of_fetched (d := d) (b := b) hdata
        (by rw [put_berth_same]; exact ⟨rfl, hp.orphan, hp.failed, hp.first, hp.second, hp.restarted, hp.mate, hp.commit, hp.heldData, hp.ops⟩)
        (by rw [put_berth_same]; exact he) (fun x hx => by rw [put_berth_ne hx]; exact ha x hx) hl
        (by rw [put_berth_same]; exact hn) (by rw [put_berth_same]; exact hcp) (by rw [put_berth_same]; exact hop)
        (by rw [put_berth_same])
      rw [put_berth_same, put_put] at hu' hv'
      exact ⟨3, by omega, u', v', _, (hgo.trans hgo').trans hgo'', hu', hv', hwork, rfl⟩
  · rw [if_neg hop]
    obtain ⟨v, hv, hstep⟩ := progress_planned (d := d) h hp he ha hl hn hcp
    rw [if_neg hop] at hstep
    have hid : sc.put b (sc.berth b) = sc := by simp [Scene.put]
    exact ⟨0, by omega, t, v, _, fun n => by rw [Nat.zero_add], by rwa [hid], by rwa [hid], hstep, rfl⟩

end Interlock

/-! ### One command from its admission to its plan -/

/-- The berth of a command that has passed its checks. -/
def checkedBerth (e k qid host order time retries : Nat) (c : IoCmd) : Berth :=
  { freshBerth e k qid host order time retries c with state := .run, checkpoint := 2 }

section Lone

variable {s t u : State} {b e : Nat} {B : Berth} {h : HostFace} {A : Tab ArrRun} {D : Tab Drive} {d : List Sector} {c : IoCmd}

theorem plain_freshBerth {k qid host order time retries cp : Nat} (hc : c.commit = none) :
    Berth.Plain { freshBerth e k qid host order time retries c with state := .run, checkpoint := cp } :=
  ⟨rfl, rfl, rfl, rfl, rfl, rfl, rfl, hc, rfl, fun _ h => nomatch h⟩

/-- A command that its engine's line holds alone is taken. -/
theorem reaches_run {k qid host order time retries : Nat}
    (hs : Stands s (lined b e (freshBerth e k qid host order time retries c) h A D) t) (he : e < 256)
    (hr : s.engRuns e = true) :
    Goes b d 1 t (t.progress b d) ∧
      Stands s (lone b { freshBerth e k qid host order time retries c with state := .run, checkpoint := 1 } h A D)
        (t.progress b d) := by
  have htake := progress_of_queued (b := b) hs (by rw [lined_berth_same]; rfl) he (by simp [lined])
    (fun x hx => by simp [lined, hx]) hr (l := [b])
    (fun x hx => by
      by_contra hne
      exact hx (lined_berth_ne x (by simpa using hne))) (by simp) d
  have hrun : Stands s (lone b { freshBerth e k qid host order time retries c with state := .run, checkpoint := 1 } h A D)
      (t.progress b d) := by
    have := hs.runBerth (b := b) (by rw [lined_berth_same]; rfl) e
    rw [← htake] at this
    simp only [lined_berth_same, lined_taken] at this
    exact this
  refine ⟨goes_of_stands hs hrun (by rw [lined_berth_same]; exact fun h => nomatch h) fun heq => ?_, hrun⟩
  rw [lone_berth_same, lined_berth_same] at heq
  have := congrArg Berth.state heq
  cases this

/-- A command that its engine's line holds alone passes the checks, and is planned. -/
theorem reaches_plan {k qid host order time retries : Nat}
    (hs : Stands s (lined b e (freshBerth e k qid host order time retries c) h A D) t)
    (he : e < 256) (hr : s.engRuns e = true) (hf : Faces s h) (hc : c.commit = none) (hk : s.ioCheck c = none) :
    ∃ u v, Goes b d 2 t u ∧ Stands s (lone b (checkedBerth e k qid host order time retries c) h A D) u ∧
      Stands s (lone b (checkedBerth e k qid host order time retries c) h A D) v ∧ u.progress b d = v.plan b := by
  obtain ⟨hgo, hrun⟩ := reaches_run (d := d) hs he hr
  have hcheck := progress_parsed (d := d) (b := b) hrun (by rw [lone_berth_same]; exact plain_freshBerth hc)
    (by rw [lone_berth_same]; exact hr) hf (by rw [lone_berth_same]) (by rw [lone_berth_same]; exact hk)
  rw [lone_berth_same, lone_put] at hcheck
  have hgo' := goes_of_stands hrun hcheck (by rw [lone_berth_same]; exact fun h => nomatch h) (fun heq => by
    rw [lone_berth_same, lone_berth_same] at heq
    have := congrArg Berth.checkpoint heq
    cases this)
  obtain ⟨v, hv, hplan⟩ := progress_checked (d := d) (b := b) hcheck (by rw [lone_berth_same]; exact plain_freshBerth hc)
    (by rw [lone_berth_same]; exact hr) hf (by rw [lone_berth_same]) (by rw [lone_berth_same]; exact hk)
  exact ⟨_, v, hgo.trans hgo', hcheck, hv, hplan⟩

end Lone

/-! ## Completions -/

/-- What the end of a command leaves alone: arrays, namespaces and hosts as moored, drives and gather buffers; more may
have left the device. -/
structure Kept (s t : State) : Prop where
  arr : t.mrd.arr = s.mrd.arr
  ns : t.mrd.ns = s.mrd.ns
  hosts : t.mrd.hosts = s.mrd.hosts
  drives : t.drives = s.drives
  gather : ∀ i, (t.ary.get i).gather = (s.ary.get i).gather
  out : s.out <+: t.out

/-- The same, with the berths and the host face. -/
structure Still (s t : State) : Prop extends Kept s t where
  brg : t.brg = s.brg
  host : t.host = s.host

theorem Kept.refl (s : State) : Kept s s := ⟨rfl, rfl, rfl, rfl, fun _ => rfl, List.prefix_refl _⟩

theorem Kept.trans {s t u : State} (h : Kept s t) (h' : Kept t u) : Kept s u :=
  ⟨h'.arr.trans h.arr, h'.ns.trans h.ns, h'.hosts.trans h.hosts, h'.drives.trans h.drives,
    fun i => (h'.gather i).trans (h.gather i), h.out.trans h'.out⟩

theorem Still.refl (s : State) : Still s s := ⟨Kept.refl s, rfl, rfl⟩

theorem Still.trans {s t u : State} (h : Still s t) (h' : Still t u) : Still s u :=
  ⟨h.toKept.trans h'.toKept, h'.brg.trans h.brg, h'.host.trans h.host⟩

theorem Calm.still {s t : State} (h : Calm s t) : Still s t :=
  ⟨⟨by rw [h.mrd], by rw [h.mrd], by rw [h.mrd], h.drives, fun i => by rw [h.ary], h.out⟩, h.brg, h.host⟩

section Keys

theorem still_updCip (s : State) (f : Cipher → Cipher) : Still s (s.updCip f) :=
  ⟨⟨rfl, rfl, rfl, rfl, fun _ => rfl, List.prefix_refl _⟩, rfl, rfl⟩

theorem still_forgetKey (s : State) (k : Nat) (b : Bool) : Still s (s.forgetKey k b) := still_updCip _ _
theorem still_updSlot (s : State) (k : Nat) (f : SlotRun → SlotRun) : Still s (s.updSlot k f) := still_updCip _ _

theorem still_moorKey (s : State) (k : Nat) (e : KeySlot) : Still s (s.moor (.key k e)) := by
  have hmrd : (s.moor (.key k e)).mrd = { s.mrd with keys := s.mrd.keys.set k e } := by
    simp [State.moor, State.moorAs, MoorRec.toTables]
  exact ⟨⟨by rw [hmrd], by rw [hmrd], by rw [hmrd], by simp, by simp, by simp⟩, by simp, by simp⟩

theorem out_journal_prefix (s : State) : s.out <+: s.journal.out := by simp

theorem out_msix_prefix (s : State) (v : Nat) : s.out <+: (s.msix v).out := by
  unfold State.msix
  dsimp only
  split <;> simp

theorem out_sendReceipt_prefix (s : State) (h : Hdr) (r : Receipt) : s.out <+: (s.sendReceipt h r).out := by
  unfold State.sendReceipt
  dsimp only
  split
  · split
    · simp
    · split
      · exact List.IsPrefix.trans (by simp) (out_msix_prefix _ _)
      · simp
  · refine foldl_keeps (fun u : State => s.out <+: u.out) _ ?_ _ _ (by simp)
    intro t x ht; simpa using ht
  · simp

theorem out_answerSince_prefix (s : State) (q : Nat) (h : Hdr) (op : Nat) (st : MStat) (ps : List (Nat × List Byte)) :
    s.out <+: (s.answerSince q h op st ps).out := by
  unfold State.answerSince
  dsimp only
  split <;> split
  · simp
  · exact List.IsPrefix.trans (by simp) (out_sendReceipt_prefix _ _ _)
  · simp
  · exact List.IsPrefix.trans (by simp) (out_sendReceipt_prefix _ _ _)

theorem still_finish (s : State) (r : Running) (st : MStat) (ps : List (List Byte)) : Still s (s.finish r st ps) :=
  ⟨⟨by simp, by simp, by simp, by simp, by simp, out_answerSince_prefix (s.updMft _) _ _ _ _ _⟩, by simp, by simp⟩

/-- A key bank that is given up concerns its slot and the manifest that waits for it (R220, R221). -/
theorem still_settleSlot (s : State) (k : Nat) : Still s (s.settleSlot k) := by
  unfold State.settleSlot
  dsimp only
  split
  · split
    · exact Still.refl s
    · have hgone := (((still_moorKey s k default).trans (still_forgetKey _ k true)).trans (still_forgetKey _ k false)).trans
        (still_updSlot _ k fun r => { r with retired := false, zeroising := false })
      split
      · exact hgone.trans (still_finish _ _ _ _)
      · exact hgone
  · split
    · split
      · exact Still.refl s
      · exact ((still_moorKey s k _).trans (still_forgetKey _ _ _)).trans (still_updSlot _ _ _)
    · exact Still.refl s

theorem still_settleSlots (s : State) : Still s s.settleSlots :=
  foldl_keeps (Still s) _ (fun t k h => h.trans (still_settleSlot t k)) _ s (Still.refl s)

end Keys

/-- The gather buffers are the same. -/
def SameGather (A A' : Tab ArrRun) : Prop := ∀ i, (A'.get i).gather = (A.get i).gather

theorem sameGather_upd {A : Tab ArrRun} (i : Nat) (f : ArrRun → ArrRun) (hf : ∀ r, (f r).gather = r.gather) :
    SameGather A (A.upd i f) := fun j => by
  rw [Tab.get_upd]
  split
  · exact hf _
  · rfl

/-- A berth whose completion has been formed (R48, Table 4-3). -/
def Berth.completed (x : Berth) (st : Status) (hd : Nat) : Berth :=
  { x with
    state := .done, waits := .nothing, checkpoint := 8, status := st, sqhd := hd
    ops := x.ops.map fun o => if o.onDrive then o else { o with finished := true } }

section Done

variable {s t : State} {sc : Scene} {b : Nat}

/-- A stripe's interlock released: with no berth held, its line is all that changes. -/
theorem Stands.unlockStripe (h : Stands s sc t) (hh : ∀ x, (sc.berth x).state ≠ .held) (i st : Nat) (o : Holder) :
    ∃ A, SameGather sc.ary A ∧ Stands s { sc with ary := A } (t.unlockStripe i st o) := by
  have hline := h.updAry i fun r => { r with locks := r.locks.filter fun l => l.1 != st || (l.2 != o && t.wantsStripe i st l.2) }
  have hsame := sameGather_upd (A := sc.ary) i
    (fun r => { r with locks := r.locks.filter fun l => l.1 != st || (l.2 != o && t.wantsStripe i st l.2) }) fun _ => rfl
  refine ⟨_, hsame, ?_⟩
  unfold State.unlockStripe
  dsimp only
  split
  · refine hline.updBerth_id (f := fun e => if e.state = .held then { e with state := .run } else e) ?_
    exact if_neg (hh _)
  · exact hline

theorem Stands.releaseLocks (h : Stands s sc t) (hh : ∀ x, (sc.berth x).state ≠ .held) (b : Nat) :
    ∃ A, SameGather sc.ary A ∧
      Stands s { sc with host := { sc.host with locks := sc.host.locks.filter fun l => l.2.2 != b }, ary := A }
        (t.releaseLocks b) := by
  have hstart := h.updHost fun x => { x with locks := x.locks.filter fun l => l.2.2 != b }
  unfold State.releaseLocks
  dsimp only
  refine foldl_keeps (fun u => ∃ A, SameGather sc.ary A ∧ Stands s
    { sc with host := { sc.host with locks := sc.host.locks.filter fun l => l.2.2 != b }, ary := A } u) _ ?_ _ _
    ⟨_, fun _ => rfl, hstart⟩
  rintro u l ⟨A, hA, hu⟩
  obtain ⟨A', hA', hu'⟩ := hu.unlockStripe hh _ l.1 l.2
  exact ⟨A', fun i => (hA' i).trans (hA i), hu'⟩

theorem wakeHeld_of_none (hw : Tab.wf t.brg.berth = true) (hh : ∀ x, (t.berth x).state ≠ .held) : t.wakeHeld = t := by
  unfold State.wakeHeld
  rw [berths_eq_nil hw fun x _ => by simp [hh x]]
  rfl

/-- No berth in WAIT need go on. -/
theorem wakeMates_of_none (hw : Tab.wf t.brg.berth = true)
    (hm : ∀ x, (t.berth x).state = .wait → (t.berth x).waits ≠ .commit ∧ ((t.berth x).waits = .mate → (t.berth x).fusedSecond = false)) :
    t.wakeMates = t := by
  unfold State.wakeMates
  refine foldl_of_fixed fun x hx => ?_
  obtain ⟨-, hx⟩ := (mem_berths hw).1 hx
  simp only [Bool.and_eq_true, Bool.or_eq_true, beq_iff_eq] at hx
  obtain ⟨hstate, hwaits⟩ := hx
  obtain ⟨hcommit, hsecond⟩ := hm x hstate
  have hmate := hwaits.resolve_right hcommit
  simp [hmate, hsecond hmate]

/-- No berth is held, and none waits that need not. -/
structure Scene.Settled (sc : Scene) : Prop where
  held : ∀ x, (sc.berth x).state ≠ .held
  waits : ∀ x, (sc.berth x).state = .wait →
    (sc.berth x).waits ≠ .commit ∧ ((sc.berth x).waits = .mate → (sc.berth x).fusedSecond = false)

theorem Scene.Settled.put (h : sc.Settled) {B : Berth} (hB : B.state ≠ .held) (hW : B.state ≠ .wait) : (sc.put b B).Settled where
  held x := by
    by_cases hx : x = b
    · subst hx; rwa [put_berth_same]
    · rw [put_berth_ne hx]; exact h.held x
  waits x := by
    by_cases hx : x = b
    · subst hx; rw [put_berth_same]; exact fun hw => absurd hw hW
    · rw [put_berth_ne hx]; exact h.waits x

/-- A completion formed for a command that an engine runs. -/
theorem Stands.formDone (h : Stands s sc t) (hq : (sc.berth b).state ≠ .queued) (hs : sc.Settled) {m : Nat}
    (hm : (if (sc.berth b).fusedSecond then (sc.berth b).mate.getD b else b) = m) (st : Status) :
    ∃ A hd, SameGather sc.ary A ∧
      Stands s ({ sc with host := { sc.host with locks := sc.host.locks.filter fun l => l.2.2 != m }, ary := A }.put b
        ((sc.berth b).completed st hd)) (t.formDone b st) := by
  have hput : Stands s (sc.put b ((sc.berth b).completed st (t.host.queue.get (sc.berth b).cmd.qref).sqhd))
      (t.updBerth b fun x => { x with
        state := .done, waits := .nothing, checkpoint := 8, status := st
        sqhd := (t.host.queue.get (sc.berth b).cmd.qref).sqhd
        ops := x.ops.map fun o => if o.onDrive then o else { o with finished := true } }) := h.updBerth_to rfl
  have hset := hs.put (b := b) (B := (sc.berth b).completed st (t.host.queue.get (sc.berth b).cmd.qref).sqhd)
    (fun h => nomatch h) (fun h => nomatch h)
  obtain ⟨A, hA, hrel⟩ := hput.releaseLocks hset.held m
  refine ⟨A, (t.host.queue.get (sc.berth b).cmd.qref).sqhd, hA, ?_⟩
  have hname : (t.updBerth b fun x => { x with
      state := .done, waits := .nothing, checkpoint := 8, status := st
      sqhd := (t.host.queue.get (sc.berth b).cmd.qref).sqhd
      ops := x.ops.map fun o => if o.onDrive then o else { o with finished := true } }).lockName b = m := by
    rw [State.lockName, hput.berth, put_berth_same]
    exact hm
  unfold State.formDone
  simp only [h.berth, hq, if_false]
  rw [hname, wakeHeld_of_none hrel.wf (fun x => by rw [hrel.berth]; exact hset.held x),
    wakeMates_of_none hrel.wf (fun x => by rw [hrel.berth]; exact hset.waits x)]
  exact hrel

end Done

/-! ### The tug accepts the completion -/

section Post

variable {s t u : State} {sc : Scene} {b : Nat}

theorem settleDying_of_none (h : t.host.dying = []) : t.settleDying = t := by
  unfold State.settleDying
  rw [h]
  rfl

theorem settleQueue_of_none {q : Nat} (h : (t.host.queue.get q).disconnect = none) : t.settleQueue q = t := by
  unfold State.settleQueue
  simp only [h]

/-- With no orphan about, nothing is adopted. -/
theorem adopt_of_none (hw : Tab.wf t.brg.berth = true) (ho : ∀ x, (t.berth x).orphan = false) : t.adopt = t := by
  have hnone : t.berths (fun b => b.orphan && b.state != .free) = [] := berths_eq_nil hw fun x _ => by simp [ho x]
  have hchoose : t.chooseRescuers = t := by
    unfold State.chooseRescuers
    dsimp only
    rw [hnone]
    rfl
  unfold State.adopt
  dsimp only
  rw [hchoose, hnone]
  rfl

/-- What the posting of berth `b` leaves: the other berths, the queues, and `b` free or posted. -/
structure Posted (b : Nat) (t u : State) : Prop extends Kept t u where
  wf : Tab.wf u.brg.berth = true
  other : ∀ x, x ≠ b → u.berth x = t.berth x
  here : u.berth b = default ∨ (u.berth b).state = .done ∧ (u.berth b).posted = true
  orphan : ∀ x, (u.berth x).orphan = false
  dying : u.host.dying = []
  live : ∀ q, (u.host.queue.get q).live = (t.host.queue.get q).live
  cntlid : ∀ q, (u.host.queue.get q).cntlid = (t.host.queue.get q).cntlid
  disconnect : ∀ q, (u.host.queue.get q).disconnect = (t.host.queue.get q).disconnect
  sqhd : ∀ q, (u.host.queue.get q).sqhd = (t.host.queue.get q).sqhd

theorem kept_settleAssoc (t : State) (c : Nat) :
    Kept t (t.settleAssoc c) ∧ (t.settleAssoc c).brg = t.brg ∧ (t.settleAssoc c).host.queue = t.host.queue ∧
      (t.settleAssoc c).host.dying = t.host.dying := by
  unfold State.settleAssoc
  split
  · exact ⟨Kept.refl t, rfl, rfl, rfl⟩
  · exact ⟨⟨rfl, rfl, rfl, rfl, fun _ => rfl, List.prefix_refl _⟩, rfl, rfl, rfl⟩

theorem Stands.kept (h : Stands s sc t) (hd : sc.drives = s.drives) (hA : SameGather s.ary sc.ary) : Kept s t :=
  ⟨by rw [h.mrd], by rw [h.mrd], by rw [h.mrd], h.drives.trans hd, fun i => by rw [h.ary]; exact hA i, h.out⟩

/-- A berth released with its completion posted. -/
theorem Stands.releaseBerth (h : Stands s sc t) (hset : sc.Settled) (ho : ∀ x, (sc.berth x).orphan = false)
    (hdy : sc.host.dying = []) (hd : sc.drives = s.drives) (hA : SameGather s.ary sc.ary)
    (hother : ∀ x, x ≠ b → sc.berth x = s.berth x) (hb : (sc.berth b).state = .done ∧ (sc.berth b).posted = true)
    (hq : ∀ q, (sc.host.queue.get q).live = (s.host.queue.get q).live ∧
      (sc.host.queue.get q).cntlid = (s.host.queue.get q).cntlid ∧
      (sc.host.queue.get q).disconnect = (s.host.queue.get q).disconnect ∧
      (sc.host.queue.get q).sqhd = (s.host.queue.get q).sqhd) :
    Posted b s (t.releaseBerth b) := by
  unfold State.releaseBerth
  dsimp only
  split
  · obtain ⟨A, hA', hrel⟩ := h.releaseLocks hset.held b
    have hset' : ∀ x, ((sc.put b default).berth x).state ≠ .held := (hset.put (by decide) (by decide)).held
    have hfree := hrel.setBerth (b := b) (B := default) (f := fun g => { g with berth := g.berth.set b default }) (fun _ => rfl) rfl
    rw [wakeHeld_of_none hfree.wf fun x => by rw [hfree.berth]; exact hset' x]
    have hslots := still_settleSlots ((t.releaseLocks b).updBrg fun g => { g with berth := g.berth.set b default })
    have hdying : ((t.releaseLocks b).updBrg fun g => { g with berth := g.berth.set b default }).settleSlots.host.dying = [] := by
      rw [hslots.host, hfree.host]; exact hdy
    rw [settleDying_of_none hdying]
    obtain ⟨hk, hbrg, hqueue, hdy'⟩ := kept_settleAssoc
      ((t.releaseLocks b).updBrg fun g => { g with berth := g.berth.set b default }).settleSlots (t.berth b).cntlid
    have hberth : ∀ x, ((((t.releaseLocks b).updBrg fun g => { g with berth := g.berth.set b default }).settleSlots).settleAssoc
        (t.berth b).cntlid).berth x = (sc.put b default).berth x := fun x => by
      rw [State.berth, hbrg, hslots.brg]; exact hfree.berth x
    exact
      { toKept := ((hfree.kept hd fun i => (hA' i).trans (hA i)).trans hslots.toKept).trans hk
        wf := by rw [hbrg, hslots.brg]; exact hfree.wf
        other := fun x hx => by rw [hberth, put_berth_ne hx]; exact hother x hx
        here := .inl (by rw [hberth, put_berth_same])
        orphan := fun x => by
          rw [hberth]
          by_cases hx : x = b
          · subst hx; rw [put_berth_same]; rfl
          · rw [put_berth_ne hx]; exact ho x
        dying := by rw [hdy']; exact hdying
        live := fun q => by rw [hqueue, hslots.host, hfree.host]; exact (hq q).1
        cntlid := fun q => by rw [hqueue, hslots.host, hfree.host]; exact (hq q).2.1
        disconnect := fun q => by rw [hqueue, hslots.host, hfree.host]; exact (hq q).2.2.1
        sqhd := fun q => by rw [hqueue, hslots.host, hfree.host]; exact (hq q).2.2.2 }
  · exact
      { toKept := h.kept hd hA
        wf := h.wf
        other := fun x hx => (h.berth x).trans (hother x hx)
        here := .inr (by rw [h.berth]; exact hb)
        orphan := fun x => by rw [h.berth]; exact ho x
        dying := by rw [h.host]; exact hdy
        live := fun q => by rw [h.host]; exact (hq q).1
        cntlid := fun q => by rw [h.host]; exact (hq q).2.1
        disconnect := fun q => by rw [h.host]; exact (hq q).2.2.1
        sqhd := fun q => by rw [h.host]; exact (hq q).2.2.2 }

/-- A command that may be posted: its completion is formed and waits for nothing. -/
structure Berth.Ends (x : Berth) (q cid : Nat) (st : Status) : Prop where
  state : x.state = .done
  posted : x.posted = false
  prompt : x.prompt = 0
  commit : x.cmd.commit = none
  status : x.status = st
  qref : x.cmd.qref = q
  cid : x.cmd.cid = cid

theorem postBerth_eq (t : State) (b : Nat) {st : Status} {q cid : Nat} (he : (t.berth b).Ends q cid st)
    (hl : (t.host.queue.get q).live = true) (hc : (t.host.queue.get q).cntlid = (t.berth b).cntlid) :
    t.postBerth b = ((((((((((t.updBerth b fun x => { x with posted := true }).emit (.response q cid (t.berth b).sqhd st)).sendResp
      q (t.berth b).cmd.inval).updQueue q fun y => { y with cids := y.cids.erase cid }).hop
      (attEngine (t.berth b).owner) (attGroup (refGroup q)) 1).tally 0x061 (t.berth b).owner 1).tally 0x061
      (256 + (t.berth b).owner / 16) 1).tally 0x061 0x1FF 1).tallyIo (t.berth b).cmd (t.berth b).ns st).releaseBerth b).settleQueue
      q := by
  unfold State.postBerth
  simp only [he.qref, he.cid, he.status, he.prompt, he.commit, hl, hc, and_self, if_true, State.emitAfter, ne_eq,
    not_true_eq_false, false_and, if_false]

/-- The completion leaves the device (R48, R111). -/
theorem posted_of_ends (hw : Tab.wf t.brg.berth = true) {st : Status} {q cid : Nat} (he : (t.berth b).Ends q cid st)
    (hset : Scene.Settled ⟨t.berth, fun e => (t.eng e).tow, t.host, t.ary, t.drives⟩)
    (ho : ∀ x, (t.berth x).orphan = false) (hdy : t.host.dying = [])
    (hl : (t.host.queue.get q).live = true) (hc : (t.host.queue.get q).cntlid = (t.berth b).cntlid)
    (hd : (t.host.queue.get q).disconnect = none) (d : List Sector) :
    Posted b t (t.progress b d) ∧ ∃ hd, Out.response q cid hd st ∈ (t.progress b d).out := by
  have hpost := (Stands.self hw).updBerth_to (b := b) (f := fun x => { x with posted := true }) rfl
  have hv := hpost.calm (Calm.emit _ (.response q cid (t.berth b).sqhd st))
  have hsent := ((Stands.self hv.wf).calm (Calm.sendResp _ q (t.berth b).cmd.inval)).updQueue q
    fun y => { y with cids := y.cids.erase cid }
  have hall := ((((hsent.calm (Calm.hop _ (attEngine (t.berth b).owner) (attGroup (refGroup q)) 1)).calm
    (Calm.tally _ 0x061 (t.berth b).owner 1)).calm (Calm.tally _ 0x061 (256 + (t.berth b).owner / 16) 1)).calm
    (Calm.tally _ 0x061 0x1FF 1)).calm (Calm.tallyIo _ (t.berth b).cmd (t.berth b).ns st)
  have hbv : ∀ x, x ≠ b → ((t.updBerth b fun x => { x with posted := true }).emit
      (.response q cid (t.berth b).sqhd st)).berth x = t.berth x := fun x hx => by rw [hv.berth, put_berth_ne hx]
  have hbb := (hv.berth b).trans put_berth_same
  have hsetv : Scene.Settled ⟨((t.updBerth b fun x => { x with posted := true }).emit
      (.response q cid (t.berth b).sqhd st)).berth, fun e => (t.eng e).tow, t.host, t.ary, t.drives⟩ := by
    rw [funext hv.berth]
    exact hset.put (b := b) (fun h => BerthState.noConfusion (he.state.symm.trans h)) (fun h => BerthState.noConfusion (he.state.symm.trans h))
  have hrel := hall.releaseBerth (b := b) ⟨hsetv.held, hsetv.waits⟩ (fun x => by
      show (((t.updBerth b fun x => { x with posted := true }).emit (.response q cid (t.berth b).sqhd st)).berth x).orphan = false
      by_cases hx : x = b
      · subst hx; rw [hbb]; exact ho x
      · rw [hbv x hx]; exact ho x) hdy rfl (fun _ => rfl) (fun _ _ => rfl) (by
      show (((t.updBerth b fun x => { x with posted := true }).emit (.response q cid (t.berth b).sqhd st)).berth b).state = .done ∧
        (((t.updBerth b fun x => { x with posted := true }).emit (.response q cid (t.berth b).sqhd st)).berth b).posted = true
      rw [hbb]
      exact ⟨he.state, rfl⟩) (fun x => by
      show ((t.host.updQueue q fun y => { y with cids := y.cids.erase cid }).queue.get x).live = (t.host.queue.get x).live ∧
        ((t.host.updQueue q fun y => { y with cids := y.cids.erase cid }).queue.get x).cntlid = (t.host.queue.get x).cntlid ∧
        ((t.host.updQueue q fun y => { y with cids := y.cids.erase cid }).queue.get x).disconnect = (t.host.queue.get x).disconnect ∧
        ((t.host.updQueue q fun y => { y with cids := y.cids.erase cid }).queue.get x).sqhd = (t.host.queue.get x).sqhd
      by_cases hx : x = q
      · subst hx; simp
      · simp only [updQueue_get_ne _ _ hx, and_self])
  have hprog : t.progress b d = (t.postBerth b).adopt := by
    rw [State.progress, he.state]
    simp [he.posted]
  rw [hprog, postBerth_eq t b he hl hc, settleQueue_of_none ((hrel.disconnect q).trans hd), adopt_of_none hrel.wf hrel.orphan]
  have hkept : Kept t ((t.updBerth b fun x => { x with posted := true }).emit (.response q cid (t.berth b).sqhd st)) :=
    ⟨rfl, rfl, rfl, rfl, fun _ => rfl, List.prefix_append _ _⟩
  exact ⟨{ hrel with toKept := hkept.trans hrel.toKept, other := fun x hx => (hrel.other x hx).trans (hbv x hx) },
    (t.berth b).sqhd, hrel.out.subset (List.mem_append_right _ (List.mem_singleton_self _))⟩

end Post

/-! ### From the last step to the end -/

section Ending

variable {s t u v w : State} {b k : Nat} {B B' : Berth} {h h' : HostFace} {A A' : Tab ArrRun} {D D' : Tab Drive}
  {d : List Sector} {st : Status} {q cid : Nat}

/-- A command of its own that is about to complete. -/
structure Berth.Own (x : Berth) (q cid cntlid : Nat) : Prop where
  run : x.state = .run
  orphan : x.orphan = false
  second : x.fusedSecond = false
  mate : x.mate = none
  posted : x.posted = false
  prompt : x.prompt = 0
  commit : x.cmd.commit = none
  qref : x.cmd.qref = q
  cid : x.cmd.cid = cid
  cntlid : x.cntlid = cntlid

theorem lone_settled (hh : B.state ≠ .held) (hw : B.state ≠ .wait) : (lone b B h A D).Settled where
  held x := by
    by_cases hx : x = b
    · subst hx; rwa [lone_berth_same]
    · rw [lone_berth_ne x hx]; decide
  waits x := by
    by_cases hx : x = b
    · subst hx; rw [lone_berth_same]; exact fun hs => absurd hs hw
    · rw [lone_berth_ne x hx]; exact fun hs => absurd hs (by decide)

/-- A berth that has been posted is at its end. -/
theorem runOn_of_posted (hp : Posted b s t) (n : Nat) : t.runOn b d n = t := by
  rcases hp.here with hb | ⟨hdone, hposted⟩
  · exact runOn_of_free (by rw [hb]; rfl) n
  · exact runOn_of_stuck (by rw [State.progress, hdone]; simp [hposted]) n

/-- From a scene to the one of another state that left drives and gather buffers alone. -/
theorem Stands.kept_of {sc sc' : Scene} (h : Stands s sc v) (h' : Stands s sc' w) (ho : v.out <+: w.out)
    (hd : sc'.drives = sc.drives) (hA : SameGather sc.ary sc'.ary) : Kept v w :=
  ⟨by rw [h.mrd, h'.mrd], by rw [h.mrd, h'.mrd], by rw [h.mrd, h'.mrd], by rw [h.drives, h'.drives, hd],
    fun i => by rw [h.ary, h'.ary, hA i], ho⟩

/-- The end of a command: its completion is formed and leaves. -/
theorem ends_of_finishBerth (hv : Stands s (lone b B' h A D) v) (hB : B'.Own q cid (s.host.queue.get q).cntlid)
    (hf : Faces s h) (hl : (s.host.queue.get q).live = true) (hd : (h.queue.get q).disconnect = none) :
    Kept v ((v.finishBerth b st).progress b d) ∧
      (∃ hd, Out.response q cid hd st ∈ ((v.finishBerth b st).progress b d).out) ∧
      Posted b (v.finishBerth b st) ((v.finishBerth b st).progress b d) ∧ ((v.finishBerth b st).berth b).Ends q cid st ∧
      (v.finishBerth b st).host.queue = h.queue := by
  have hset := lone_settled (b := b) (h := h) (A := A) (D := D) (B := B') (by rw [hB.run]; decide) (by rw [hB.run]; decide)
  obtain ⟨A', n, hA, hdone⟩ := (Stands.self hv.wf).formDone (b := b) (m := b) (by
      show (v.berth b).state ≠ _
      rw [hv.berth, lone_berth_same, hB.run]; decide) ⟨by rw [funext hv.berth]; exact hset.held, by rw [funext hv.berth]; exact hset.waits⟩
    (by
      show (if (v.berth b).fusedSecond then _ else b) = b
      rw [hv.berth, lone_berth_same, hB.second]; rfl) st
  have hfin : v.finishBerth b st = v.formDone b st := by
    unfold State.finishBerth
    simp only [hv.berth, lone_berth_same, hB.mate]
  rw [hfin]
  have hbb : (v.formDone b st).berth b = B'.completed st n := by
    rw [hdone.berth, put_berth_same]
    show (v.berth b).completed st n = _
    rw [hv.berth, lone_berth_same]
  have hbo : ∀ x, x ≠ b → (v.formDone b st).berth x = default := fun x hx => by
    rw [hdone.berth, put_berth_ne hx]
    show v.berth x = default
    rw [hv.berth, lone_berth_ne x hx]
  have hqueue : (v.formDone b st).host.queue = h.queue := by
    rw [hdone.host]
    show v.host.queue = _
    rw [hv.host]; rfl
  have hends : ((v.formDone b st).berth b).Ends q cid st := by
    rw [hbb]
    exact ⟨rfl, hB.posted, hB.prompt, hB.commit, rfl, hB.qref, hB.cid⟩
  have hsettled : Scene.Settled ⟨(v.formDone b st).berth, fun e => ((v.formDone b st).eng e).tow, (v.formDone b st).host,
      (v.formDone b st).ary, (v.formDone b st).drives⟩ := by
    have hfun : (v.formDone b st).berth = (lone b (B'.completed st n) h A D).berth := by
      funext x
      by_cases hx : x = b
      · subst hx; rw [hbb, lone_berth_same]
      · rw [hbo x hx, lone_berth_ne x hx]
    have := lone_settled (b := b) (B := B'.completed st n) (h := h) (A := A) (D := D) (fun h => nomatch h) (fun h => nomatch h)
    rw [hfun]
    exact ⟨this.held, this.waits⟩
  obtain ⟨hpost, hout⟩ := posted_of_ends hdone.wf hends hsettled (fun x => by
      by_cases hx : x = b
      · subst hx; rw [hbb]; exact hB.orphan
      · rw [hbo x hx]; rfl)
    (by rw [hdone.host]; show v.host.dying = []; rw [hv.host]; exact hf.dying)
    (by rw [hqueue, hf.live]; exact hl) (by rw [hqueue, hf.cntlid, hbb]; exact hB.cntlid.symm) (by rw [hqueue]; exact hd) d
  have hk : Kept v (v.formDone b st) := hdone.kept rfl hA
  exact ⟨hk.trans hpost.toKept, hout, hpost, hends, hqueue⟩

/-- A command comes to its end. -/
theorem runOn_of_finish {x : State} (hgo : Goes b d k t x) (hk : k + 2 ≤ 64) (hx : (x.berth b).state ≠ .free ∧ (x.berth b).state ≠ .done)
    (hp : x.progress b d = v.finishBerth b st) (hv : Stands s (lone b B' h A D) v)
    (hB : B'.Own q cid (s.host.queue.get q).cntlid) (hf : Faces s h) (hl : (s.host.queue.get q).live = true)
    (hd : (h.queue.get q).disconnect = none) :
    ∃ hd, Kept v (t.runOn b d 64) ∧ Out.response q cid hd st ∈ (t.runOn b d 64).out ∧
      ∀ q, ((t.runOn b d 64).host.queue.get q).sqhd = (h.queue.get q).sqhd := by
  obtain ⟨hkept, ⟨n, hout⟩, hpost, hends, hqueue⟩ := ends_of_finishBerth (st := st) (d := d) hv hB hf hl hd
  have hgo1 : Goes b d 1 x (v.finishBerth b st) := goes_of_progress hx.1 hp fun heq => hx.2 (by rw [← heq, hends.state])
  have hgo2 : Goes b d 1 (v.finishBerth b st) ((v.finishBerth b st).progress b d) :=
    goes_of_progress (by rw [hends.state]; decide) rfl fun heq => by
      rcases hpost.here with hb | ⟨-, hb⟩
      · have := hends.state
        rw [← heq, hb] at this
        cases this
      · rw [heq, hends.posted] at hb
        cases hb
  have hrun := ((hgo.trans hgo1).trans hgo2) (62 - k)
  rw [runOn_of_posted hpost, show k + 1 + 1 + (62 - k) = 64 by omega] at hrun
  rw [hrun]
  exact ⟨n, hkept, hout, fun q => by rw [hpost.sqhd, hqueue]⟩

end Ending

/-! ## An I/O row on a quiet device -/

section Row

variable {s t : State} {c : IoCmd} {e : Nat}

/-- The data that a capsule brings is the command's, or none. -/
theorem capsuleOf_data (s : State) (c : IoCmd) :
    ∃ l, s.capsuleOf c = { c with data := l } ∧ (l = c.data ∨ l = []) := by
  unfold State.capsuleOf
  split
  · exact ⟨c.data, rfl, .inl rfl⟩
  · exact ⟨[], rfl, .inr rfl⟩

/-- What an admitted command starts from: its engine's line holds it alone. -/
structure Started (s : State) (c c' : IoCmd) (b e qid host order time retries : Nat) (h : HostFace) (t : State) : Prop where
  quiet : Quiet s
  queue : OpenQueue s c' e
  took : TookHost s c' h
  stands : Stands s (lined b e (freshBerth e (s.host.queue.get c.qref).cntlid qid host order time retries c') h s.ary s.drives) t
  row : s.ioRow c = t.runOn b c.data ioFuel

theorem head_berthOf {b : Nat} {B : Berth} {h : HostFace} {A : Tab ArrRun} {D : Tab Drive} {q cid : Nat}
    (hs : Stands s (lined b e B h A D) t) (hB : B ≠ default)
    (hb : (B.cmd.qref == q && B.cmd.cid == cid && B.cmd.commit.isNone && !B.admin && B.state != .done) = true) :
    t.berthOf q cid = some b := by
  refine head?_berths hs.wf (by rwa [hs.berth, lined_berth_same]) (by rwa [hs.berth, lined_berth_same]) fun x hx hne => ?_
  rw [hs.berth, lined_berth_ne x hne] at hx
  exact absurd rfl hx

/-- The row of a command that is admitted as it arrives. -/
theorem exists_started (ha : s.ioAdmits c = true) :
    ∃ l b e qid host order time retries h t, (l = c.data ∨ l = []) ∧ s.capsuleOf c = { c with data := l } ∧
      Started s c { c with data := l } b e qid host order time retries h t := by
  simp only [State.ioAdmits, Bool.and_eq_true, beq_iff_eq, Option.isNone_iff_eq_none] at ha
  obtain ⟨⟨⟨⟨hquiet, hopen⟩, hfuse⟩, hpass⟩, hclaim⟩ := ha
  obtain ⟨l, hcap, hl⟩ := capsuleOf_data s c
  obtain ⟨e, hqueue⟩ := exists_openQueue hopen
  have hqueue' := hqueue.withData l
  obtain ⟨b, qid, host, order, time, retries, h, htook, hstands⟩ :=
    admitNow_of_quiet (quiet_of hquiet) hqueue' hfuse hpass hclaim
  refine ⟨l, b, e, qid, host, order, time, retries, h, _, hl, hcap, quiet_of hquiet, hqueue', htook, hstands, ?_⟩
  have hsq : ((s.queueUp { c with data := l }).host.queue.get c.qref).sq = [{ c with data := l }] := by
    rw [show c.qref = ({ c with data := l } : IoCmd).qref from rfl, queue_queueUp, hqueue'.sq]; rfl
  have hberth : ((s.queueUp { c with data := l }).admitNow c.qref).berthOf c.qref c.cid = some b := by
    refine head_berthOf hstands (fun h => ?_) ?_
    · have := congrArg Berth.state h
      cases this
    · simp [freshBerth, hqueue.commit, show (default : Berth).admin = false from rfl]
  unfold State.ioRow
  simp only [hcap, capsule_of_openQueue hqueue' hfuse, hsq, hberth, ne_eq, not_true_eq_false, if_false]

end Row

/-! ### From the plan to the work -/

/-- A berth at its work: bound, planned, with its data. -/
structure Working (s : State) (c : IoCmd) (ops : List PlanOp) (rn rnN : Nat) (x : Berth) : Prop where
  plain : x.Plain
  own : x.Own c.qref c.cid (s.host.queue.get c.qref).cntlid
  cmd : ∃ l, x.cmd = { c with data := l } ∧ (c.opcode = 1 ∨ c.opcode = 5 → l = c.data)
  ns : x.ns = s.mrd.ns.get c.nsid
  ops : x.ops = ops
  rn : x.rn = rn
  rnN : x.rnN = rnN
  merged : x.merged = none
  placed : x.placed = false
  checkpoint : x.checkpoint = 3 ∨ x.checkpoint = 4
  runs : s.engRuns x.owner = true

section Work

variable {s t u : State} {c : IoCmd} {b e : Nat} {B : Berth} {h : HostFace} {A : Tab ArrRun} {D : Tab Drive}
  {qid host order time retries : Nat} {l : List Sector}

/-- A planned command goes on to its work, with the host's data where it wants some. -/
theorem exists_working {n : Namespace} {bank : Bool} {lane ser rn rnN turn : Nat} {ops : List PlanOp} {x : Berth}
    (hn : n = s.mrd.ns.get c.nsid) (hl : l = c.data ∨ l = []) (hc : c.commit = none) (hr : s.engRuns e = true)
    (hh : h.locks = [])
    (hx : x = (checkedBerth e (s.host.queue.get c.qref).cntlid qid host order time retries { c with data := l }).planned
      n bank lane ser rn rnN turn ops)
    (hops : ∀ o ∈ ops, o.heldBack = none) (hlocks : x.locks = []) (hs : Stands s (lone b x h A D) t) :
    ∃ k ≤ 3, ∃ u v B, Goes b c.data k t u ∧ Stands s (lone b B h A D) u ∧ Stands s (lone b B h A D) v ∧
      u.progress b c.data = v.workStep b ∧ Working s c ops rn rnN B := by
  have hplain : x.Plain := by
    subst hx
    exact ⟨rfl, rfl, rfl, rfl, rfl, rfl, rfl, hc, rfl, hops⟩
  obtain ⟨k, hk, u, v, B, hgo, hu, hv, hwork, hB⟩ := reaches_work (d := c.data) (b := b) hs (by rwa [lone_berth_same])
    (by rw [lone_berth_same, hx]; exact hr) lone_berth_ne hh (by rwa [lone_berth_same]) (by rw [lone_berth_same, hx]; rfl)
    (by rw [lone_berth_same, hx]; rfl)
  rw [lone_put] at hu hv
  refine ⟨k, hk, u, v, B, hgo, hu, hv, hwork, ?_⟩
  rw [lone_berth_same] at hB
  by_cases hop : c.opcode = 1 ∨ c.opcode = 5
  · rw [if_pos (by rw [hx]; exact hop)] at hB
    have hdata : (if x.fetched then x.cmd.data else c.data) = c.data := by
      subst hx
      rcases hl with rfl | rfl
      · exact ite_self _
      · simp [Berth.planned, checkedBerth, freshBerth, hc]
    rw [hdata] at hB
    subst hB hx
    exact ⟨⟨rfl, rfl, rfl, rfl, rfl, rfl, rfl, hc, rfl, hops⟩, ⟨rfl, rfl, rfl, rfl, rfl, rfl, hc, rfl, rfl, rfl⟩,
      ⟨_, rfl, fun _ => rfl⟩, hn, rfl, rfl, rfl, rfl, rfl, .inr rfl, hr⟩
  · rw [if_neg (by rw [hx]; exact hop)] at hB
    subst hB hx
    exact ⟨hplain, ⟨rfl, rfl, rfl, rfl, rfl, rfl, hc, rfl, rfl, rfl⟩, ⟨_, rfl, fun h => absurd h hop⟩,
      hn, rfl, rfl, rfl, rfl, rfl, .inl rfl, hr⟩

end Work

/-- A command of the row at its work: how it came there from its admission, and where the device stands. -/
structure AtWork (s : State) (c : IoCmd) (ops : List PlanOp) (rn rnN b k : Nat) (h : HostFace) (A : Tab ArrRun)
    (D : Tab Drive) (t u v : State) (B : Berth) : Prop where
  row : s.ioRow c = t.runOn b c.data 64
  goes : Goes b c.data k t u
  few : k ≤ 6
  before : Stands s (lone b B h A D) u
  stands : Stands s (lone b B h A D) v
  step : u.progress b c.data = v.workStep b
  working : Working s c ops rn rnN B
  faces : Faces s h
  took : TookHost s c h
  live : (s.host.queue.get c.qref).live = true
  disconnect : (h.queue.get c.qref).disconnect = none

section AtWork

variable {s t u v w x : State} {c : IoCmd} {ops : List PlanOp} {rn rnN b k q cid : Nat} {h : HostFace} {A A' : Tab ArrRun}
  {D D' : Tab Drive} {B B' : Berth} {st : Status}

/-- Neither slots nor drive operations turn on anything but the tables and the arrays' live sides. -/
theorem slotAt_congr (h : SameGather s.ary t.ary) (i st p : Nat) : t.slotAt i st p = s.slotAt i st p := by
  simp only [State.slotAt, h i]

theorem cmdOps_congr (hm : t.mrd = s.mrd) (ha : t.ary = s.ary) (n : Namespace) (turn : Nat) (c : IoCmd) :
    t.cmdOps n turn c = s.cmdOps n turn c := by
  have hread : ∀ k, t.readOps n turn k = s.readOps n turn k := fun k => by
    simp only [State.readOps, State.placeOf, hm, slotAt_congr (s := s) (t := t) fun i => by rw [ha]]
    rfl
  simp only [State.cmdOps, State.mergeOps, State.writeOps, State.stripesOf, State.placeOf, hm, hread,
    funext hread]

/-- A read as planned. -/
def PlanOp.Fresh (o : PlanOp) : Prop := ∃ bay blk, o = planOp bay blk false

theorem fresh_readOps (s : State) (n : Namespace) (turn k : Nat) : ∀ o ∈ s.readOps n turn k, o.Fresh := by
  intro o ho
  unfold State.readOps at ho
  dsimp only at ho
  split at ho
  · cases ho
  · split at ho
    · exact ⟨_, _, List.mem_singleton.1 ho⟩
    · obtain ⟨x, -, rfl⟩ := List.mem_map.1 ho
      exact ⟨_, _, rfl⟩

theorem fresh_cmdOps_of_reading (s : State) (n : Namespace) (turn : Nat) (hc : changesData c = false) :
    ∀ o ∈ s.cmdOps n turn c, o.Fresh := by
  have hreads : ∀ o ∈ (planBlks n c).flatMap (s.readOps n turn), o.Fresh := fun o ho => by
    obtain ⟨k, -, ho⟩ := List.mem_flatMap.1 ho
    exact fresh_readOps s n turn k o ho
  intro o ho
  unfold State.cmdOps at ho
  simp only [hc, Bool.false_eq_true, if_false] at ho
  split at ho
  · rcases List.mem_append.1 (List.mem_eraseDups.1 ho) with ho | ho
    · exact hreads o ho
    · obtain ⟨k, -, ho⟩ := List.mem_flatMap.1 ho
      obtain ⟨x, -, rfl⟩ := List.mem_map.1 ho
      exact ⟨_, _, rfl⟩
  · split at ho
    · exact hreads o ho
    · cases ho

theorem lone_put_ary {A' : Tab ArrRun} : ({ lone b B h A D with ary := A' } : Scene).put b B' = lone b B' h A' D := by
  simp [lone, Scene.put]

/-- An admitted command goes from its capsule to its work, by whatever plan is made for it on its berth (R47 to R49, R99
to R111). -/
theorem exists_atWork_of_plan (ht : s.ioTaken c = true)
    (hplan : ∀ b l h v B, Stands s (lone b B h s.ary s.drives) v → B.cmd = { c with data := l } → ∃ bank lane ser turn,
      Stands s (lone b (B.planned (s.mrd.ns.get c.nsid) bank lane ser rn rnN turn ops) h A s.drives) (v.plan b))
    (hops : ∀ o ∈ ops, o.heldBack = none) (hlocks : ∀ l, locksOf (s.mrd.ns.get c.nsid) false { c with data := l } = []) :
    ∃ b k h t u v B, AtWork s c ops rn rnN b k h A s.drives t u v B := by
  simp only [State.ioTaken, Bool.and_eq_true, Option.isNone_iff_eq_none] at ht
  obtain ⟨hadmit, hcheck⟩ := ht
  obtain ⟨l, b, e, qid, host, order, time, retries, h, t, hl, hcap, hstart⟩ := exists_started hadmit
  rw [hcap] at hcheck
  have hfaces := hstart.took.faces hstart.quiet
  have hopen : s.engRuns e = true := by
    have := hstart.queue.isOpen
    simp only [State.engOpen, Bool.and_eq_true] at this
    exact this.1
  obtain ⟨u, v, hgo, hu, hv, hstep⟩ := reaches_plan (d := c.data) hstart.stands hstart.queue.lt hopen hfaces
    hstart.queue.commit hcheck
  obtain ⟨bank, lane, ser, turn, hplanned⟩ := hplan b l h v _ hv rfl
  rw [← hstep] at hplanned
  have hgo' := goes_of_stands hu hplanned (by rw [lone_berth_same]; exact fun h => nomatch h) (fun heq => by
    rw [lone_berth_same, lone_berth_same] at heq
    have := congrArg Berth.checkpoint heq
    cases this)
  obtain ⟨k, hk, u', v', B, hgo'', hu', hv', hwork, hB⟩ :=
    exists_working (h := h) rfl hl hstart.queue.commit hopen hfaces.locks rfl hops (hlocks l) hplanned
  exact ⟨b, 2 + 1 + k, h, t, u', v', B,
    { row := hstart.row
      goes := (hgo.trans hgo').trans hgo''
      few := by omega
      before := hu'
      stands := hv'
      step := hwork
      working := hB
      faces := hfaces
      took := ⟨hstart.took.rest, hstart.took.queue, hstart.took.other⟩
      live := hstart.queue.live
      disconnect := by rw [show c.qref = ({ c with data := l } : IoCmd).qref from rfl, hstart.took.queue]; exact hstart.queue.disconnect }⟩

/-- A command that changes no data goes from its capsule to its work. -/
theorem exists_atWork_of_reading (ht : s.ioTaken c = true) (hc : changesData c = false) :
    ∃ b k h t u v B, AtWork s c
      (s.cmdOps (s.mrd.ns.get c.nsid) (s.ary.get (s.mrd.ns.get c.nsid).array).readTurn c) 0 0 b k h
      (turned (s.mrd.ns.get c.nsid) s.ary) s.drives t u v B := by
  refine exists_atWork_of_plan ht (fun b l h v B hv hB => ?_) (fun o ho => ?_) fun l => ?_
  · have hc' : changesData B.cmd = false := by rw [hB]; exact hc
    obtain ⟨bank, lane, hplanned⟩ := hv.plan_of_reading (b := b) (by rwa [lone_berth_same])
    have hops : v.cmdOps (s.mrd.ns.get c.nsid) (s.ary.get (s.mrd.ns.get c.nsid).array).readTurn { c with data := l } =
        s.cmdOps (s.mrd.ns.get c.nsid) (s.ary.get (s.mrd.ns.get c.nsid).array).readTurn c :=
      cmdOps_congr hv.mrd hv.ary _ _ _
    rw [lone_berth_same, lone_put_ary, hB] at hplanned
    exact ⟨bank, lane, 0, _, hops ▸ hplanned⟩
  · obtain ⟨bay, blk, rfl⟩ := fresh_cmdOps_of_reading s _ _ hc o ho
    rfl
  · unfold locksOf
    rw [if_neg (fun h => nomatch h), if_neg]
    rw [show changesData { c with data := l } = changesData c from rfl, hc]
    exact fun h => nomatch h

/-- A command at its work that finishes without waiting. -/
theorem AtWork.completes (hw : AtWork s c ops rn rnN b k h A D t u v B) (hp : v.workStep b = w.finishBerth b st)
    (hs : Stands s (lone b B' h A' D') w) (hB : B'.Own c.qref c.cid (s.host.queue.get c.qref).cntlid) :
    Kept w (s.ioRow c) ∧ (s.ioRow c).responded c.qref c.cid st := by
  have hb : u.berth b = B := by rw [hw.before.berth, lone_berth_same]
  obtain ⟨n, hkept, hout, -⟩ := runOn_of_finish (st := st) hw.goes (by have := hw.few; omega)
    (by rw [hb, hw.working.plain.run]; decide) (hw.step.trans hp) hs hB hw.faces hw.live
    hw.disconnect
  rw [hw.row]
  exact ⟨hkept, .inl ⟨n, hout⟩⟩

theorem finishBerth_eq_formDone (hm : (t.berth b).mate = none) (st : Status) : t.finishBerth b st = t.formDone b st := by
  unfold State.finishBerth
  simp only [hm]

/-- A completion is no moored change. -/
theorem pair_finishBerth (hs : Stands s (lone b B h A D) v) (hB : B.Own q cid k) (st : Status) :
    (v.finishBerth b st).pair = v.pair := by
  obtain ⟨A', n, -, hdone⟩ := hs.formDone (b := b) (m := b) (by rw [lone_berth_same, hB.run]; exact fun h => nomatch h)
    (lone_settled (by rw [hB.run]; exact fun h => nomatch h) (by rw [hB.run]; exact fun h => nomatch h))
    (by rw [lone_berth_same, hB.second]; rfl) st
  rw [finishBerth_eq_formDone (by rw [hs.berth, lone_berth_same, hB.mate]), hdone.pair, hs.pair]

theorem notePrompt_of_pair (h : t.pair = s.pair) (b : Nat) : s.notePrompt t b = t := by
  unfold State.notePrompt
  rw [h]
  simp

theorem sameGather_turned (n : Namespace) (A : Tab ArrRun) : SameGather A (turned n A) := by
  unfold turned
  split
  · exact sameGather_upd _ _ fun _ => rfl
  · exact fun _ => rfl

/-- A reading half whose effect leaves the device: it ends with the effect's status. -/
theorem AtWork.readDone_eq (hw : AtWork s c ops rn rnN b k h A D t u v B) {st : Status}
    (he : ∀ p live, (x.ioEffect p B.cmd live) = (w, st)) (hx : x.berth b = B) : x.readDone b = w.finishBerth b st := by
  unfold State.readDone
  dsimp only
  rw [hx, he]
  simp [hw.working.plain.first]

/-- A command that neither writes nor reads data and has no effect ends with success. -/
theorem completes_of_no_effect (ht : s.ioTaken c = true) (hc : changesData c = false) (hr : readsData c.opcode = false)
    (he : ∀ (x : State) (p : Bound) (l : List Sector) (live : Bool), x.ioEffect p { c with data := l } live = (x, St.ok)) :
    Kept s (s.ioRow c) ∧ (s.ioRow c).responded c.qref c.cid St.ok := by
  obtain ⟨b, k, h, t, u, v, B, hw⟩ := exists_atWork_of_reading ht hc
  obtain ⟨l, hcmd, -⟩ := hw.working.cmd
  have hb : v.berth b = B := by rw [hw.stands.berth, lone_berth_same]
  have hstep : v.workStep b = v.finishBerth b St.ok := by
    unfold State.workStep
    dsimp only
    rw [hb, hcmd, if_neg (by rw [show changesData { c with data := l } = changesData c from rfl, hc]; decide), if_neg (by rw [hr]; decide),
      hw.readDone_eq (fun p live => by rw [hcmd]; exact he v p l live) hb]
    exact notePrompt_of_pair (pair_finishBerth hw.stands hw.working.own _) b
  obtain ⟨hkept, hres⟩ := hw.completes hstep hw.stands hw.working.own
  exact ⟨(hw.stands.kept rfl (sameGather_turned _ _)).trans hkept, hres⟩

/-- FLUSH completes with success and leaves arrays, gather buffers and drives (R179). -/
theorem completes_flush (ht : s.ioTaken { c with opcode := 0 } = true) :
    Kept s (s.ioRow { c with opcode := 0 }) ∧ (s.ioRow { c with opcode := 0 }).responded c.qref c.cid St.ok :=
  completes_of_no_effect ht rfl rfl fun _ _ _ _ => rfl

/-- DATASET_MANAGEMENT without Deallocate does nothing (R41). -/
theorem completes_datasetManagement (ht : s.ioTaken { c with opcode := 9 } = true) (hd : c.deac = false) :
    Kept s (s.ioRow { c with opcode := 9 }) ∧ (s.ioRow { c with opcode := 9 }).responded c.qref c.cid St.ok :=
  completes_of_no_effect ht (by simp [changesData, hd]) rfl fun _ _ _ _ => rfl

end AtWork

/-! ## Reads of gathered blocks (R180) -/

section Gathered

variable {s t : State} {n : Namespace} {p : Bound} {c : IoCmd} {b : Nat} {g : GatherSlot}

theorem data_mediaOf_append (md : Meta) (d : Block) : (mediaOf (md ++ d)).data = d := by
  unfold mediaOf
  exact BitVec.extractLsb'_append_eq_right

/-- The data of the gather slot that holds a block. -/
def State.gatheredData (s : State) (n : Namespace) (b : Nat) : Block := ((s.gathered n b).map fun g => g.data).getD 0

theorem gathered_congr (hm : t.mrd = s.mrd) (hA : SameGather s.ary t.ary) (n : Namespace) (b : Nat) :
    t.gathered n b = s.gathered n b := by
  simp only [State.gathered, hm, slotAt_congr hA]

/-- Blocks that a plain namespace finds readable in the gather buffer. -/
structure AllGathered (s : State) (n : Namespace) (l : List (Nat × Nat × Nat)) : Prop where
  plain : n.plain = true
  ok : ∀ e ∈ l, s.gatheredOk n e.1 = true

theorem AllGathered.congr {l : List (Nat × Nat × Nat)} (h : AllGathered s n l) (hm : t.mrd = s.mrd) (hA : SameGather s.ary t.ary) :
    AllGathered t n l :=
  ⟨h.plain, fun e he => by rw [State.gatheredOk, gathered_congr hm hA]; exact h.ok e he⟩

theorem gatheredData_congr (hm : t.mrd = s.mrd) (hA : SameGather s.ary t.ary) (n : Namespace) (b : Nat) :
    t.gatheredData n b = s.gatheredData n b := by
  rw [State.gatheredData, gathered_congr hm hA]; rfl

theorem plain_iff : n.plain = true ↔ n.lbaf = 0 ∧ n.pi = 0 ∧ n.cipher = .none := by
  simp [Namespace.plain, and_assoc]

theorem small_of_plain (h : n.plain = true) : n.small = false := by
  simp [Namespace.small, (plain_iff.1 h).1]

theorem piFail_of_plain (h : n.plain = true) (lba : Nat) (x : Sector) : piFail n c lba x = none := by
  simp [piFail, (plain_iff.1 h).2.1]

theorem decode_of_plain (h : n.plain = true) (b : Nat) (k : KeyBank) (md : Meta) (d : Block) :
    n.decode b k (md ++ d) = (d, []) := by
  obtain ⟨hl, -, hc⟩ := plain_iff.1 h
  simp only [Namespace.decode, hc, data_mediaOf_append, Namespace.tagsOf, hl]
  rfl

theorem slotData_of_readable (hg : g.bad = false) (i st : Nat) : s.slotData i st g = some (g.md ++ g.data) := by
  simp [State.slotData, hg]

/-- A gathered block is given from its slot. -/
theorem readBlk_of_gathered (hn : p.ns.plain = true) (hb : s.gatheredOk p.ns b = true) (nsid : Nat) :
    ∃ t, Calm s t ∧ s.readBlk p nsid b = (t, .got (s.gatheredData p.ns b) []) := by
  obtain ⟨g, hg, hbad⟩ : ∃ g, s.gathered p.ns b = some g ∧ g.bad = false := by
    simpa [State.gatheredOk, Option.any_eq_true] using hb
  refine ⟨_, Calm.hopIn s p (attReservoir ((s.mrd.arr.get p.ns.array).place ((s.mrd.arr.get p.ns.array).mapped p.ns.ext b)).1), ?_⟩
  have hslot : s.slotAt p.ns.array ((s.mrd.arr.get p.ns.array).place ((s.mrd.arr.get p.ns.array).mapped p.ns.ext b)).1
      (((s.mrd.arr.get p.ns.array).place ((s.mrd.arr.get p.ns.array).mapped p.ns.ext b)).2.1 * (s.mrd.arr.get p.ns.array).u +
        ((s.mrd.arr.get p.ns.array).place ((s.mrd.arr.get p.ns.array).mapped p.ns.ext b)).2.2) = some g := hg
  have htag : ∀ u, p.ns.tagOk nsid b p.bank u = true := fun u => by
    simp [Namespace.tagOk, (plain_iff.1 hn).2.2]
  unfold State.readBlk
  simp only [hslot, slotData_of_readable hbad, htag, if_true, decode_of_plain hn, State.gatheredData, hg]
  rfl

theorem readBlks_of_gathered {l : List (Nat × Nat × Nat)} (h : AllGathered s p.ns l) (nsid : Nat) :
    ∃ t, Calm s t ∧ s.readBlks p nsid l = (t, .ok (l.map fun e => (e.1, e.2.1, e.2.2, s.gatheredData p.ns e.1, []))) := by
  induction l generalizing s with
  | nil => exact ⟨s, Calm.refl s, rfl⟩
  | cons e l ih =>
    obtain ⟨t, ht, hread⟩ := readBlk_of_gathered h.plain (h.ok e List.mem_cons_self) nsid
    have hA : SameGather s.ary t.ary := fun i => by rw [ht.ary]
    obtain ⟨u, hu, hrest⟩ := ih (s := t) ⟨h.plain, fun x hx => (h.congr ht.mrd hA).ok x (List.mem_cons_of_mem _ hx)⟩
    refine ⟨u, ht.trans hu, ?_⟩
    obtain ⟨b, lo, k⟩ := e
    simp only [State.readBlks, hread, hrest, List.map_cons, gatheredData_congr ht.mrd hA]

/-- The sectors of plain blocks: one each. -/
theorem sectorsOf_plain (h : n.plain = true) (l : List Nat) (f : Nat → Block) :
    sectorsOf n (l.map fun b => (b, 0, 1, f b, [])) = l.map fun b => (b, ⟨f b, n.guard (f b), 0, 0⟩) := by
  induction l with
  | nil => rfl
  | cons b l ih =>
    have hone : sectorsOf n [(b, 0, 1, f b, [])] = [(b, ⟨f b, n.guard (f b), 0, 0⟩)] := by
      simp [sectorsOf, small_of_plain h, Namespace.split, List.range_succ]
    have hsplit : ∀ x m, sectorsOf n (x :: m) = sectorsOf n [x] ++ sectorsOf n m := fun x m => by
      simp only [sectorsOf, List.flatMap_cons, List.flatMap_nil, List.append_nil]
    rw [List.map_cons, List.map_cons, hsplit, hone, ih]
    rfl

theorem cover_of_plain (h : n.plain = true) (slba nlb : Nat) :
    n.cover slba nlb = ((List.range nlb).map (slba + ·)).map fun b => (b, 0, 1) := by
  simp [Namespace.cover, small_of_plain h, Function.comp_def]

/-- The blocks of a READ leave one after the other (R27). -/
theorem readOut_of_gathered {l : List Nat} (h : AllGathered s p.ns (l.map fun b => (b, 0, 1))) :
    ∃ t, Calm s t ∧ s.readOut p c true (l.map fun b => (b, 0, 1)) = (t, St.ok) ∧
      ∀ b ∈ l, Out.readSectors c.qref c.cid [⟨s.gatheredData p.ns b, 0, 0, 0⟩] ∈ t.out := by
  induction l generalizing s with
  | nil => exact ⟨s, Calm.refl s, rfl, fun _ h => nomatch h⟩
  | cons b l ih =>
    obtain ⟨t, ht, hread⟩ := readBlk_of_gathered h.plain (h.ok _ List.mem_cons_self) c.nsid
    have hsent := Calm.sendData t c.qref c.cid [⟨s.gatheredData p.ns b, 0, 0, 0⟩] (1 * blkBytes c p.ns)
    have hA : SameGather s.ary (t.sendData c.qref c.cid [⟨s.gatheredData p.ns b, 0, 0, 0⟩] (1 * blkBytes c p.ns)).ary :=
      fun i => by rw [hsent.ary, ht.ary]
    have hm := hsent.mrd.trans ht.mrd
    obtain ⟨u, hu, hrest, hout⟩ := ih (s := t.sendData c.qref c.cid [⟨s.gatheredData p.ns b, 0, 0, 0⟩] (1 * blkBytes c p.ns))
      ⟨h.plain, fun x hx => (h.congr hm hA).ok x (List.mem_cons_of_mem _ hx)⟩
    have hsecs : blkSectors p c (b, 0, 1) (s.gatheredData p.ns b) [] = ([⟨s.gatheredData p.ns b, 0, 0, 0⟩], none) := by
      have := sectorsOf_plain h.plain [b] fun _ => s.gatheredData p.ns b
      simp only [List.map_cons, List.map_nil] at this
      simp [blkSectors, this, piFail_of_plain h.plain, (plain_iff.1 h.plain).1]
    refine ⟨u, (ht.trans hsent).trans hu, ?_, fun x hx => ?_⟩
    · simp only [List.map_cons, State.readOut, hread, hsecs]
      exact hrest
    · rcases List.mem_cons.1 hx with rfl | hx
      · have hmem : Out.readSectors c.qref c.cid [⟨s.gatheredData p.ns x, 0, 0, 0⟩] ∈
            (t.emit (.readSectors c.qref c.cid [⟨s.gatheredData p.ns x, 0, 0, 0⟩])).out :=
          List.mem_append_right _ (List.mem_singleton_self _)
        exact hu.out.subset ((Calm.sendBytes (t.emit (.readSectors c.qref c.cid [⟨s.gatheredData p.ns x, 0, 0, 0⟩])) c.qref
          (1 * blkBytes c p.ns)).out.subset hmem)
      · rw [← gatheredData_congr hm hA]
        exact hout x hx

end Gathered

section Reads

variable {s t u v : State} {n : Namespace} {c : IoCmd} {b k : Nat} {e B : Berth} {h : HostFace} {D : Tab Drive} {A : Tab ArrRun}
  {ops : List PlanOp} {rn rnN : Nat}

theorem slotAt_isSome_of_gatheredOk (hg : s.gatheredOk n k = true) :
    (s.slotAt n.array (s.placeOf n k).1 ((s.placeOf n k).2.1 * (s.mrd.arr.get n.array).u + (s.placeOf n k).2.2)).isSome = true := by
  have : (s.gathered n k).isSome = true := by
    cases hx : s.gathered n k with
    | none => rw [State.gatheredOk, hx] at hg; cases hg
    | some g => rfl
  exact this

theorem some_gatheredData (hg : s.gatheredOk n k = true) :
    some (s.gatheredData n k) = (s.gathered n k).map fun g => g.data := by
  cases hx : s.gathered n k with
  | none => rw [State.gatheredOk, hx] at hg; cases hg
  | some g => rw [State.gatheredData, hx]; rfl

/-- A gathered block is read from no drive. -/
theorem readOps_of_gathered (hg : s.gatheredOk n k = true) (turn : Nat) : s.readOps n turn k = [] := by
  unfold State.readOps
  dsimp only
  rw [if_pos (slotAt_isSome_of_gatheredOk hg)]

theorem reconStripes_of_gathered (hg : ∀ k ∈ planBlks e.ns e.cmd, s.gatheredOk e.ns k = true) : s.reconStripes e = [] := by
  unfold State.reconStripes
  dsimp only
  split
  · rfl
  · rw [List.filter_eq_nil_iff.2 fun p hp => ?_]
    · rfl
    · obtain ⟨k, hk, rfl⟩ := List.mem_map.1 hp
      have := slotAt_isSome_of_gatheredOk (hg k hk)
      rw [Bool.and_eq_true, Option.isNone_iff_eq_none]
      rintro ⟨hnone, -⟩
      rw [hnone] at this
      cases this

/-- Where every block that was read is good, nothing is reconstructed. -/
theorem reconReads_of_good (hm : ∀ o ∈ e.ops, (s.media o.bay o.blk).bad = false) : s.reconReads e = [] := by
  unfold State.reconReads
  dsimp only
  rw [List.flatMap_eq_nil_iff.2 fun k _ => ?_]
  · rfl
  · rw [if_neg]
    simp only [List.any_eq_true, Bool.and_eq_true, beq_iff_eq, not_exists, not_and]
    rintro x - ⟨o, ho, ⟨rfl, hblk⟩, -⟩
    rw [← hblk, hm o ho]
    decide

/-- A read whose operations are answered has its effect. -/
theorem readStep_eq_readDone (hb : t.berth b = B) (hr : t.reconStripes B = []) (hi : B.mustIssue = false)
    (hready : t.berthReady B = true) (hreads : t.reconReads B = []) : t.readStep b = t.readDone b := by
  unfold State.readStep State.withStripes State.afterReads
  simp only [hb, hr, List.foldl_nil, State.stripesFree, List.all_nil, if_true, hi, hready, hreads]
  simp

theorem planBlks_of_plain (hn : n.plain = true) (hop : c.opcode ≠ 9) :
    planBlks n c = (List.range c.nlb).map (c.slba + ·) := by
  simp [planBlks, coverOf, hop, cover_of_plain hn, Function.comp_def]

theorem gatheredOk_congr (hm : t.mrd = s.mrd) (hA : SameGather s.ary t.ary) (n : Namespace) (k : Nat) :
    t.gatheredOk n k = s.gatheredOk n k := by
  rw [State.gatheredOk, gathered_congr hm hA]; rfl

/-- The blocks of a command stand readable in the gather buffer. -/
structure FromGather (s : State) (c : IoCmd) : Prop where
  plain : (s.mrd.ns.get c.nsid).plain = true
  ok : ∀ i < c.nlb, s.gatheredOk (s.mrd.ns.get c.nsid) (c.slba + i) = true
  opcode : c.opcode ≠ 9

theorem FromGather.planned (hg : FromGather s c) : ∀ k ∈ planBlks (s.mrd.ns.get c.nsid) c, s.gatheredOk (s.mrd.ns.get c.nsid) k = true := by
  intro k hk
  rw [planBlks_of_plain hg.plain hg.opcode] at hk
  obtain ⟨i, hi, rfl⟩ := List.mem_map.1 hk
  exact hg.ok i (List.mem_range.1 hi)

/-- A READ or COMPARE of gathered blocks asks no drive. -/
theorem FromGather.cmdOps_eq_nil (hg : FromGather s c) (hc : changesData c = false) (hv : c.opcode ≠ 0x0C) (turn : Nat) :
    s.cmdOps (s.mrd.ns.get c.nsid) turn c = [] := by
  have hreads : (planBlks (s.mrd.ns.get c.nsid) c).flatMap (s.readOps (s.mrd.ns.get c.nsid) turn) = [] :=
    List.flatMap_eq_nil_iff.2 fun k hk => readOps_of_gathered (hg.planned k hk) turn
  unfold State.cmdOps
  simp only [hc, Bool.false_eq_true, if_false, hv, hreads, ite_self]

/-- All blocks of the command are gathered where it works. -/
theorem FromGather.allGathered (hg : FromGather s c) (hm : t.mrd = s.mrd) (hA : SameGather s.ary t.ary) :
    AllGathered t (s.mrd.ns.get c.nsid) (((List.range c.nlb).map (c.slba + ·)).map fun b => (b, 0, 1)) :=
  ⟨hg.plain, fun e he => by
    obtain ⟨k, hk, rfl⟩ := List.mem_map.1 he
    obtain ⟨i, hi, rfl⟩ := List.mem_map.1 hk
    rw [gatheredOk_congr hm hA]
    exact hg.ok i (List.mem_range.1 hi)⟩

theorem changesData_of_reads (hr : readsData c.opcode = true) : changesData c = false := by
  have : writesData c.opcode = false := by
    simp only [readsData, Bool.or_eq_true, beq_iff_eq] at hr
    simp only [writesData, Bool.or_eq_false_iff, beq_eq_false_iff_ne]
    omega
  simp [changesData, this]

/-- The effect of a reading command at its work with its operations answered. -/
theorem workStep_of_read (hr : readsData c.opcode = true) (hb : t.berth b = B) (hop : B.cmd.opcode = c.opcode)
    (hrs : t.reconStripes B = []) (hi : B.mustIssue = false) (hready : t.berthReady B = true) (hreads : t.reconReads B = []) :
    t.workStep b = t.readDone b := by
  unfold State.workStep
  dsimp only
  rw [hb, if_neg (by rw [changesData_of_reads (by rw [hop]; exact hr)]; decide), if_pos (by rw [hop]; exact hr)]
  exact readStep_eq_readDone hb hrs hi hready hreads

/-- The data of a READ goes out while its queue stands. -/
theorem AtWork.live_eq (hw : AtWork s c ops rn rnN b k h A D t u v B) :
    ((v.host.queue.get B.cmd.qref).live && (v.host.queue.get B.cmd.qref).cntlid == B.cntlid) = true := by
  rw [hw.stands.host, lone_host, hw.working.own.qref, hw.working.own.cntlid, hw.faces.live, hw.faces.cntlid, hw.live]
  simp

theorem AtWork.berth_eq (hw : AtWork s c ops rn rnN b k h A D t u v B) : v.berth b = B := by
  rw [hw.stands.berth, lone_berth_same]

/-- A lone command whose queue stands ends with its effect's status. -/
theorem readDone_eq_finishBerth {w : State} {st : Status} (hb : v.berth b = B) (hf : B.fusedFirst = false)
    (hl : ((v.host.queue.get B.cmd.qref).live && (v.host.queue.get B.cmd.qref).cntlid == B.cntlid) = true)
    (he : v.ioEffect (v.boundOf B) B.cmd true = (w, st)) : v.readDone b = w.finishBerth b st := by
  unfold State.readDone
  dsimp only
  rw [hb, hl, he]
  simp [hf]

theorem AtWork.readDone_of_effect {w : State} {st : Status} (hw : AtWork s c ops rn rnN b k h A D t u v B)
    (he : v.ioEffect (v.boundOf B) B.cmd true = (w, st)) : v.readDone b = w.finishBerth b st :=
  readDone_eq_finishBerth hw.berth_eq hw.working.plain.first hw.live_eq he

theorem AtWork.sameGather (hw : AtWork s c ops rn rnN b k h (turned n s.ary) D t u v B) : SameGather s.ary v.ary := by
  rw [hw.stands.ary]
  exact sameGather_turned _ _

/-- A READ or COMPARE of gathered blocks at its work goes straight to its effect. -/
theorem AtWork.workStep_of_gathered (hw : AtWork s c [] rn rnN b k h (turned n s.ary) D t u v B) (hg : FromGather s c)
    (hr : readsData c.opcode = true) : v.workStep b = v.readDone b := by
  obtain ⟨l, hcmd, -⟩ := hw.working.cmd
  refine workStep_of_read hr hw.berth_eq (by rw [hcmd]) (reconStripes_of_gathered fun k hk => ?_)
    (by simp [Berth.mustIssue, hw.working.ops]) (by simp [State.berthReady, Berth.opsReady, hw.working.ops, hw.working.placed])
    (reconReads_of_good fun o ho => by rw [hw.working.ops] at ho; cases ho)
  rw [hw.working.ns, hcmd] at hk
  rw [hw.working.ns, gatheredOk_congr hw.stands.mrd hw.sameGather]
  exact hg.planned k hk

/-- READ of gathered blocks (R27, R180). -/
theorem completes_read (ht : s.ioTaken c = true) (hop : c.opcode = 2) (hg : FromGather s c) :
    Kept s (s.ioRow c) ∧ (s.ioRow c).responded c.qref c.cid St.ok ∧
      ∀ i < c.nlb, Out.readSectors c.qref c.cid [⟨s.gatheredData (s.mrd.ns.get c.nsid) (c.slba + i), 0, 0, 0⟩] ∈ (s.ioRow c).out := by
  have hr : readsData c.opcode = true := by rw [hop]; rfl
  have hc := changesData_of_reads hr
  obtain ⟨b, k, h, t, u, v, B, hw⟩ := exists_atWork_of_reading ht hc
  rw [hg.cmdOps_eq_nil hc (by rw [hop]; decide)] at hw
  obtain ⟨l, hcmd, -⟩ := hw.working.cmd
  obtain ⟨w, hcalm, hread, hout⟩ := readOut_of_gathered (s := v) (p := v.boundOf B) (c := B.cmd)
    (l := (List.range c.nlb).map (c.slba + ·)) (by
      rw [show (v.boundOf B).ns = s.mrd.ns.get c.nsid from hw.working.ns]
      exact hg.allGathered hw.stands.mrd hw.sameGather)
  have heff : v.ioEffect (v.boundOf B) B.cmd true = (w, St.ok) := by
    have hdo : v.doRead (v.boundOf B) B.cmd true = (w, St.ok) := by
      unfold State.doRead
      rw [show (v.boundOf B).ns = s.mrd.ns.get c.nsid from hw.working.ns, cover_of_plain hg.plain, hcmd]
      rwa [hcmd] at hread
    unfold State.ioEffect
    rw [show B.cmd.opcode = 2 by rw [hcmd]; exact hop]
    exact hdo
  have hs := hw.stands.calm hcalm
  obtain ⟨hkept, hres⟩ := hw.completes ((hw.workStep_of_gathered hg hr).trans (hw.readDone_of_effect heff)) hs hw.working.own
  refine ⟨(hs.kept rfl (sameGather_turned _ _)).trans hkept, hres, fun i hi => hkept.out.subset ?_⟩
  have := hout (c.slba + i) (List.mem_map.2 ⟨i, List.mem_range.2 hi, rfl⟩)
  rwa [hcmd, show (v.boundOf B).ns = s.mrd.ns.get c.nsid from hw.working.ns, gatheredData_congr hw.stands.mrd hw.sameGather] at this

/-- Equal data, block for block. -/
theorem all_zip_data (l : List Nat) (g : Nat → Nat × Sector) (d : List Sector) :
    (((l.map g).zip d).all (fun x => x.1.2.data == x.2.data) && decide (d.length = l.length)) =
      decide (d.map (fun x => x.data) = l.map fun b => (g b).2.data) := by
  induction l generalizing d with
  | nil => cases d <;> simp
  | cons b l ih =>
    cases d with
    | nil => simp
    | cons x d =>
      have := ih d
      rw [Bool.eq_iff_iff] at this ⊢
      simp only [List.map_cons, List.zip_cons_cons, List.all_cons, List.length_cons, Bool.and_eq_true, beq_iff_eq,
        decide_eq_true_eq, List.cons.injEq, Nat.add_right_cancel_iff] at this ⊢
      rw [and_assoc, this, eq_comm]

theorem hostPiFail_of_plain (hn : n.plain = true) (c : IoCmd) : hostPiFail n c = none := by
  unfold hostPiFail
  split
  · rfl
  · exact List.findSome?_eq_none_iff.2 fun i _ => piFail_of_plain hn _ _

/-- The comparison of gathered blocks (R41, Table 2-4). -/
theorem doCompare_of_gathered {p : Bound} (hg : AllGathered s p.ns (((List.range c.nlb).map (c.slba + ·)).map fun b => (b, 0, 1))) :
    ∃ w, Calm s w ∧ s.doCompare p c = (w, if c.data.map (fun x => x.data) =
      (List.range c.nlb).map fun i => s.gatheredData p.ns (c.slba + i) then St.ok else St.compareFailure) := by
  obtain ⟨w, hw, hread⟩ := readBlks_of_gathered hg c.nsid
  refine ⟨w, hw, ?_⟩
  have hsecs := sectorsOf_plain hg.plain ((List.range c.nlb).map (c.slba + ·)) (s.gatheredData p.ns)
  have hpi : ∀ l : List (Nat × Sector), l.findSome? (fun x => piFail p.ns c x.1 x.2) = none := fun l =>
    List.findSome?_eq_none_iff.2 fun x _ => piFail_of_plain hg.plain _ _
  have hsame := all_zip_data ((List.range c.nlb).map (c.slba + ·))
    (fun b => (b, ⟨s.gatheredData p.ns b, p.ns.guard (s.gatheredData p.ns b), 0, 0⟩)) c.data
  unfold State.doCompare
  simp only [hostPiFail_of_plain hg.plain, cover_of_plain hg.plain]
  simp only [List.map_map, List.length_map, List.length_range, Function.comp_def] at hread hsecs hsame ⊢
  simp only [hread, hsecs, hpi, small_of_plain hg.plain, Bool.false_eq_true, if_false, hsame, decide_eq_true_eq]

/-- COMPARE of gathered blocks. -/
theorem completes_compare (ht : s.ioTaken c = true) (hop : c.opcode = 5) (hg : FromGather s c) :
    Kept s (s.ioRow c) ∧ (s.ioRow c).responded c.qref c.cid (if c.data.map (fun x => x.data) =
      (List.range c.nlb).map fun i => s.gatheredData (s.mrd.ns.get c.nsid) (c.slba + i) then St.ok else St.compareFailure) := by
  have hr : readsData c.opcode = true := by rw [hop]; rfl
  have hc := changesData_of_reads hr
  obtain ⟨b, k, h, t, u, v, B, hw⟩ := exists_atWork_of_reading ht hc
  rw [hg.cmdOps_eq_nil hc (by rw [hop]; decide)] at hw
  obtain ⟨l, hcmd, hdata⟩ := hw.working.cmd
  have hcmd' : B.cmd = c := by rw [hcmd, hdata (.inr hop)]
  have hns : (v.boundOf B).ns = s.mrd.ns.get c.nsid := hw.working.ns
  obtain ⟨w, hcalm, hdo⟩ := doCompare_of_gathered (s := v) (c := c) (p := v.boundOf B)
    (by rw [hns]; exact hg.allGathered hw.stands.mrd hw.sameGather)
  simp only [hns, gatheredData_congr hw.stands.mrd hw.sameGather] at hdo
  have heff : v.ioEffect (v.boundOf B) B.cmd true = v.doCompare (v.boundOf B) c := by
    unfold State.ioEffect
    rw [hcmd', hop]
    rfl
  have hs := hw.stands.calm hcalm
  obtain ⟨hkept, hres⟩ := hw.completes ((hw.workStep_of_gathered hg hr).trans (hw.readDone_of_effect (heff.trans hdo))) hs hw.working.own
  exact ⟨(hs.kept rfl (sameGather_turned _ _)).trans hkept, hres⟩

end Reads

/-! ## Opcodes outside Table 2-2 -/

section UnsupportedIo

variable {s t u : State} {c : IoCmd} {b : Nat} {B : Berth} {h : HostFace} {A : Tab ArrRun} {D : Tab Drive} {x : Nat × Status}

/-- PARSED: a check of Table 2-10 fails. -/
theorem progress_refused {sc : Scene} {d : List Sector} (hs : Stands s sc t) (hp : (sc.berth b).Plain)
    (he : s.engRuns (sc.berth b).owner = true) (hf : Faces s sc.host) (hcp : (sc.berth b).checkpoint = 1)
    (hc : s.ioCheck (sc.berth b).cmd = some x) :
    ∃ v, Stands s sc v ∧ t.progress b d = v.finishBerth b x.2 := by
  obtain ⟨v, hv, heq⟩ := exists_progress_eq_atCheckpoint (d := d) hs hp he
  have hcheck : v.checkStep b = some (v.finishBerth b x.2) := by
    rw [checkStep_of_first v b (by rw [hv.berth]; exact hp.first), hv.toNear.ioCheck (hv.host ▸ hf), hv.berth, hc]; rfl
  refine ⟨v, hv, ?_⟩
  rw [heq, State.atCheckpoint]
  simp only [hv.berth, hcp, hcheck, Option.getD_some]

/-- A command that is admitted and fails a check completes with the check's status (R461). -/
theorem completes_of_refused (ha : s.ioAdmits c = true) (hc : ∀ l, s.ioCheck { c with data := l } = some x) :
    Kept s (s.ioRow c) ∧ (s.ioRow c).responded c.qref c.cid x.2 ∧
      ((s.ioRow c).host.queue.get c.qref).sqhd =
        ((s.host.queue.get c.qref).sqhd + 1) % ((s.host.queue.get c.qref).sqsize + 1) := by
  obtain ⟨l, b, e, qid, host, order, time, retries, h, t, hl, hcap, hstart⟩ := exists_started ha
  have hopen : s.engRuns e = true := by
    have := hstart.queue.isOpen
    simp only [State.engOpen, Bool.and_eq_true] at this
    exact this.1
  have hfaces := hstart.took.faces hstart.quiet
  obtain ⟨hgo, hrun⟩ := reaches_run (d := c.data) hstart.stands hstart.queue.lt hopen
  obtain ⟨v, hv, hp⟩ := progress_refused (d := c.data) (b := b) hrun
    (by rw [lone_berth_same]; exact plain_freshBerth hstart.queue.commit) (by rw [lone_berth_same]; exact hopen) hfaces
    (by rw [lone_berth_same]) (by rw [lone_berth_same]; exact hc l)
  have hq : h.queue.get c.qref = (s.host.queue.get c.qref).took { c with data := l } := hstart.took.queue
  obtain ⟨n, hkept, hout, hsqhd⟩ := runOn_of_finish (st := x.2) hgo (by omega)
    (by rw [hrun.berth, lone_berth_same]; exact (by decide : BerthState.run ≠ .free ∧ BerthState.run ≠ .done)) hp hv
    (q := c.qref) (cid := c.cid) ⟨rfl, rfl, rfl, rfl, rfl, rfl, hstart.queue.commit, rfl, rfl, rfl⟩ hfaces hstart.queue.live
    (by rw [hq]; exact hstart.queue.disconnect)
  rw [hstart.row]
  refine ⟨(hv.kept rfl fun _ => rfl).trans hkept, .inl ⟨n, hout⟩, ?_⟩
  exact (hsqhd c.qref).trans (by rw [hq]; rfl)

theorem ioCheck_of_unsupported (h : ioSupported c.opcode = false) : s.ioCheck c = some (1, St.invalidOpcode) := by
  unfold State.ioCheck
  simp [h]

/-- An I/O opcode outside Table 2-2 (R29). -/
theorem completes_unsupported_io {q cid op : Nat}
    (ha : s.ioAdmits { (default : IoCmd) with qref := q, cid := cid, opcode := op } = true) (hop : ioSupported op = false) :
    execUnsupportedOpcode q cid op s = .next (s.ioRow { (default : IoCmd) with qref := q, cid := cid, opcode := op }) := by
  obtain ⟨l, b, e, qid, host, order, time, retries, h, t, hl, hcap, hstart⟩ := exists_started ha
  have hlive : (s.host.queue.get q).live = true := hstart.queue.live
  have hqid : (s.host.queue.get q).qid ≠ 0 := hstart.queue.qid
  unfold execUnsupportedOpcode
  simp [hlive, hqid, hop]

end UnsupportedIo

section UnsupportedAdmin

variable {s t : State} {c : AdminCmd} {k q : Nat}

theorem assoc_updAssoc_same (s : State) (k : Nat) (f : Assoc → Assoc) :
    (s.updAssoc k f).host.assoc.get k = f (s.host.assoc.get k) := Tab.get_upd_eq s.host.assoc k f

theorem adminRun_of_unsupported (h : adminSupported c.opcode = false) : s.adminRun k c = (s, some St.invalidOpcode) := by
  have hne : ∀ x, adminSupported x = true → c.opcode ≠ x := fun x hx heq => by rw [heq, hx] at h; cases h
  unfold State.adminRun
  split
  · exact absurd ‹_› (hne _ rfl)
  · exact absurd ‹_› (hne _ rfl)
  · exact absurd ‹_› (hne _ rfl)
  · exact absurd ‹_› (hne _ rfl)
  · exact absurd ‹_› (hne _ rfl)
  · exact absurd ‹_› (hne _ rfl)
  · rfl

/-- What serving an admin command leaves where it changes nothing itself. -/
structure Served (s : State) (q cid : Nat) (st : Status) (t : State) : Prop where
  mrd : t.mrd = s.mrd
  ary : t.ary = s.ary
  sqhd : (t.host.queue.get q).sqhd = (s.host.queue.get q).sqhd
  out : ∃ hd, Out.response q cid hd st ∈ t.out

theorem holdNew_of_pair (h : t.pair = s.pair) : s.holdNew t = t := by
  unfold State.holdNew
  rw [h]
  simp

theorem served_respond (s : State) (q cid : Nat) (st : Status) :
    Served s q cid st (s.respond q cid st) ∧ (s.respond q cid st).pair = s.pair ∧
      (s.respond q cid st).host.assoc = s.host.assoc := by
  have hc := Calm.sendResp (s.emit (.response q cid (s.host.queue.get q).sqhd st)) q none
  refine ⟨⟨hc.mrd, hc.ary, ?_, _, hc.out.subset (List.mem_append_right _ (List.mem_singleton_self _))⟩, hc.pair, ?_⟩
  · unfold State.respond
    rw [queue_updQueue_same, hc.host]
    rfl
  · have hassoc : ((s.emit (.response q cid (s.host.queue.get q).sqhd st)).sendResp q none).host.assoc = s.host.assoc :=
      congrArg HostFace.assoc hc.host
    exact hassoc

/-- A command of the admin queue in the free slot, and the slot free again. -/
def State.inSlot (s : State) (k : Nat) (c : AdminCmd) : State :=
  (s.updAssoc k fun a => { a with slot := some c, adminSq := [] }).slotBerth k (some c)
def State.outOfSlot (s : State) (k : Nat) : State :=
  (s.slotBerth k none).updAssoc k fun a => { a with slot := none, format := none }

theorem assoc_inSlot (s : State) (k : Nat) (c : AdminCmd) :
    (s.inSlot k c).host.assoc.get k = { s.host.assoc.get k with slot := some c, adminSq := [] } := assoc_updAssoc_same s k _

theorem assoc_outOfSlot (s : State) (k : Nat) :
    (s.outOfSlot k).host.assoc.get k = { s.host.assoc.get k with slot := none, format := none } := assoc_updAssoc_same _ k _

theorem mrd_inSlot (s : State) (k : Nat) (c : AdminCmd) : (s.inSlot k c).mrd = s.mrd := rfl
theorem ary_inSlot (s : State) (k : Nat) (c : AdminCmd) : (s.inSlot k c).ary = s.ary := rfl
theorem queue_inSlot (s : State) (k : Nat) (c : AdminCmd) : (s.inSlot k c).host.queue = s.host.queue := rfl
theorem mrd_outOfSlot (s : State) (k : Nat) : (s.outOfSlot k).mrd = s.mrd := rfl
theorem ary_outOfSlot (s : State) (k : Nat) : (s.outOfSlot k).ary = s.ary := rfl
theorem queue_outOfSlot (s : State) (k : Nat) : (s.outOfSlot k).host.queue = s.host.queue := rfl

/-- The command in a slot is executed and leaves it (R43). -/
theorem serveSlot_of_taken (hop : adminSupported c.opcode = false) (hl : s.lkServes = true)
    (ha : (s.host.assoc.get k).live = true) (hs : (s.host.assoc.get k).slot = some c) (n : Nat) :
    s.serveSlot k (n + 1) = ((s.outOfSlot k).respond c.qref c.cid St.invalidOpcode).serveSlot k n := by
  have hend : s.slotEnd s k c St.invalidOpcode = (s.outOfSlot k).respond c.qref c.cid St.invalidOpcode := by
    have hlive : ((s.outOfSlot k).host.assoc.get k).live = true := by rw [assoc_outOfSlot]; exact ha
    have hheld : s.holdNew ((s.outOfSlot k).respond c.qref c.cid St.invalidOpcode) = _ :=
      holdNew_of_pair (served_respond (s.outOfSlot k) _ _ _).2.1
    exact (if_pos hlive).trans hheld
  rw [State.serveSlot]
  simp only [hs, hl, adminRun_of_unsupported hop, hend]
  rfl

/-- The single command of an admin queue is taken into the free slot, executed and answered. -/
theorem served_serveAdmin (hop : adminSupported c.opcode = false) (hl : s.lkServes = true)
    (ha : (s.host.assoc.get k).live = true) (hs : (s.host.assoc.get k).slot = none) (hq : (s.host.assoc.get k).adminSq = [c]) :
    Served s c.qref c.cid St.invalidOpcode (s.serveAdmin k) := by
  have htake : s.serveSlot k 4 = (s.inSlot k c).serveSlot k 3 := by
    rw [State.serveSlot]
    simp only [hs, hq]
    rfl
  have hserve := serveSlot_of_taken (s := s.inSlot k c) (k := k) hop hl (by rw [assoc_inSlot]; exact ha) (by rw [assoc_inSlot]) 2
  obtain ⟨⟨hmrd, hary, hsqhd, hout⟩, -, hkeep⟩ := served_respond ((s.inSlot k c).outOfSlot k) c.qref c.cid St.invalidOpcode
  have hlast := assoc_outOfSlot (s.inSlot k c) k
  rw [assoc_inSlot, ← hkeep] at hlast
  have hend : (((s.inSlot k c).outOfSlot k).respond c.qref c.cid St.invalidOpcode).serveSlot k 2 =
      ((s.inSlot k c).outOfSlot k).respond c.qref c.cid St.invalidOpcode := by
    rw [State.serveSlot]
    simp only [hlast]
  have hall : s.serveAdmin k = ((s.inSlot k c).outOfSlot k).respond c.qref c.cid St.invalidOpcode := by
    unfold State.serveAdmin
    rw [hq, show 2 * ([c].length + 1) = 4 from rfl, htake, hserve, hend]
  rw [hall]
  rw [mrd_outOfSlot, mrd_inSlot] at hmrd
  rw [ary_outOfSlot, ary_inSlot] at hary
  rw [queue_outOfSlot, queue_inSlot] at hsqhd
  exact ⟨hmrd, hary, hsqhd, hout⟩

/-- An admin command at the end of its association's admin queue. -/
def State.adminQueued (s : State) (k : Nat) (c : AdminCmd) : State :=
  ((s.advanceHead c.qref).updQueue c.qref fun q => { q with cids := q.cids ++ [c.cid] }).updAssoc k fun a =>
    { a with adminSq := a.adminSq ++ [c] }

theorem assoc_adminQueued (s : State) (k : Nat) (c : AdminCmd) :
    (s.adminQueued k c).host.assoc.get k = { s.host.assoc.get k with adminSq := (s.host.assoc.get k).adminSq ++ [c] } :=
  assoc_updAssoc_same _ k _

theorem sqhd_adminQueued (s : State) (k : Nat) (c : AdminCmd) :
    ((s.adminQueued k c).host.queue.get c.qref).sqhd =
      ((s.host.queue.get c.qref).sqhd + 1) % ((s.host.queue.get c.qref).sqsize + 1) := by
  have h := queue_updQueue_same (s.advanceHead c.qref) c.qref fun q => { q with cids := q.cids ++ [c.cid] }
  exact (congrArg Queue.sqhd h).trans (congrArg Queue.sqhd (queue_updQueue_same s c.qref _))

/-- An admin opcode outside Table 2-2 (R29, R43). -/
theorem served_unsupported_admin (ht : s.adminTaken c k = true) (hop : adminSupported c.opcode = false) :
    Served (s.adminQueued k c) c.qref c.cid St.invalidOpcode (s.adminArrive c) := by
  simp only [State.adminTaken, Bool.and_eq_true, beq_iff_eq, decide_eq_true_eq, Bool.not_eq_true', List.isEmpty_iff,
    Option.isNone_iff_eq_none] at ht
  obtain ⟨⟨⟨⟨⟨⟨⟨⟨hk, hauth⟩, hroom⟩, hid⟩, hlive⟩, hslot⟩, hsq⟩, hformat⟩, hserves⟩ := ht
  have harrive : s.adminArrive c = (s.adminQueued k c).serveAdmin k := by
    unfold State.adminArrive State.adminIn
    simp only [hk, hauth, hid]
    rw [if_neg (Nat.not_le.2 (Nat.lt_succ_of_le hroom))]
    rfl
  rw [harrive]
  exact served_serveAdmin hop hserves (by rw [assoc_adminQueued]; exact hlive) (by rw [assoc_adminQueued]; exact hslot)
    (by rw [assoc_adminQueued, hsq]; rfl)

end UnsupportedAdmin

/-! ## Drive operations -/

/-- `t` is `s` after operations that may set registers of drives. -/
structure Mild (s t : State) : Prop where
  brg : t.brg = s.brg
  host : t.host = s.host
  ary : t.ary = s.ary
  drives : t.drives = s.drives
  mrd : t.mrd = s.mrd
  out : s.out <+: t.out

/-- `t`, which commands and their drives have reached from `s`, is as the scene says. -/
structure Loose (s : State) (c : Scene) (t : State) : Prop where
  stands : Stands t c t
  mrd : t.mrd = s.mrd
  runs : ∀ e, t.engRuns e = s.engRuns e
  out : s.out <+: t.out

section Loose

variable {s t u : State} {c c' : Scene} {b : Nat} {e : Berth}

theorem Calm.mild (h : Calm s t) : Mild s t := ⟨h.brg, h.host, h.ary, h.drives, h.mrd, h.out⟩
theorem Mild.refl (s : State) : Mild s s := (Calm.refl s).mild

theorem Mild.trans (h : Mild s t) (h' : Mild t u) : Mild s u :=
  ⟨h'.brg.trans h.brg, h'.host.trans h.host, h'.ary.trans h.ary, h'.drives.trans h.drives, h'.mrd.trans h.mrd,
    h.out.trans h'.out⟩

theorem Mild.setFld (s : State) (f : Fld) (v : Nat) : Mild s (s.setFld f v) :=
  ⟨rfl, rfl, rfl, rfl, rfl, List.prefix_refl _⟩

theorem Stands.rebase (h : Stands s c t) : Stands t c t :=
  ⟨(Calm.refl t).near, h.wf, h.berth, h.tow, fun _ => rfl, h.host, h.ary, h.drives⟩

theorem Stands.loose (h : Stands s c t) : Loose s c t := ⟨h.rebase, h.mrd, h.runs, h.out⟩

theorem Loose.of_stands (h : Loose s c t) (h' : Stands t c' u) : Loose s c' u :=
  ⟨h'.rebase, h'.mrd.trans h.mrd, fun e => (h'.runs e).trans (h.runs e), h.out.trans h'.out⟩

theorem Loose.mild (h : Loose s c t) (h' : Mild t u) : Loose s c u where
  stands :=
    { toNear := (Calm.refl u).near
      wf := by rw [h'.brg]; exact h.stands.wf
      berth := fun b => by rw [State.berth, h'.brg]; exact h.stands.berth b
      tow := fun e => by rw [State.eng, h'.brg]; exact h.stands.tow e
      runs := fun _ => rfl
      host := h'.host.trans h.stands.host
      ary := h'.ary.trans h.stands.ary
      drives := h'.drives.trans h.stands.drives }
  mrd := h'.mrd.trans h.mrd
  runs e := by rw [State.engRuns, State.eng, h'.brg]; exact h.runs e
  out := h.out.trans h'.out

theorem Loose.updBerth_to (h : Loose s c t) {f : Berth → Berth} (he : f (c.berth b) = e) :
    Loose s (c.put b e) (t.updBerth b f) := h.of_stands (h.stands.updBerth_to he)

end Loose

/-! ### Issue -/

section Issue

variable {s t : State} {b i : Nat}

/-- Which bays take operations is read from registers. -/
theorem bayTakes_congr (h : t.regs = s.regs) (x : Nat) : t.bayTakes x = s.bayTakes x := by
  have hfld : ∀ f, t.fld f = s.fld f := fun f => by rw [State.fld, State.fld, State.reg, State.reg, h]
  simp only [State.bayTakes, State.isStandby, State.role, hfld]

/-- A power state set leaves which bays take operations. -/
theorem bayTakes_setPs (s : State) (d v x : Nat) : (s.setFld (Fld.DRV_STATE_PS d) v).bayTakes x = s.bayTakes x := by
  have hps : (Fld.DRV_STATE_PS d).lo + (Fld.DRV_STATE_PS d).w ≤ 32 := (by decide : 13 + 5 ≤ 32)
  have hrole : (s.setFld (Fld.DRV_STATE_PS d) v).fld Fld.AQD_ROLE_ROLE = s.fld Fld.AQD_ROLE_ROLE :=
    fld_setFld_apart s _ _ v hps (by
      simp [Fld.apart, Fld.DRV_STATE_PS, Fld.AQD_ROLE_ROLE])
  have hstate : (s.setFld (Fld.DRV_STATE_PS d) v).fld (Fld.DRV_STATE_STATE x) = s.fld (Fld.DRV_STATE_STATE x) :=
    fld_setFld_apart s _ _ v hps (by simp [Fld.apart, Fld.DRV_STATE_PS, Fld.DRV_STATE_STATE])
  have hrung : (s.setFld (Fld.DRV_STATE_PS d) v).fld (Fld.DRV_STATE_RUNG x) = s.fld (Fld.DRV_STATE_RUNG x) :=
    fld_setFld_apart s _ _ v hps (by simp [Fld.apart, Fld.DRV_STATE_PS, Fld.DRV_STATE_RUNG])
  simp only [State.bayTakes, State.isStandby, State.role, hrole, hstate, hrung]

/-- An operation on an array wakes its members and leaves which bays take operations. -/
theorem mild_arrActive (s : State) (i : Nat) : Mild s (s.arrActive i) ∧ ∀ x, (s.arrActive i).bayTakes x = s.bayTakes x := by
  have hidle : Mild s { s with idle := s.idle.set i ⟨0, some (s.reg (Reg.DRV_IDLE_CFG i))⟩ } :=
    ⟨rfl, rfl, rfl, rfl, rfl, List.prefix_refl _⟩
  unfold State.arrActive
  dsimp only
  split
  · exact ⟨hidle, bayTakes_congr rfl⟩
  · refine foldl_keeps (fun u => Mild s u ∧ ∀ x, u.bayTakes x = s.bayTakes x) _ (fun u d hu => ?_) _ _ ⟨hidle, bayTakes_congr rfl⟩
    split
    · exact hu
    · exact ⟨(hu.1.trans (Mild.setFld _ _ _)).trans (Calm.emit _ _).mild, fun x =>
        ((bayTakes_congr (emit_regs _ _) x).trans (bayTakes_setPs u d 0 x)).trans (hu.2 x)⟩

/-- An operation that stands on its drive. -/
def PlanOp.issued (o : PlanOp) : PlanOp := { o with onDrive := true }

/-- An operation that has been answered. -/
def PlanOp.answered (o : PlanOp) : PlanOp := { o with finished := true, onDrive := false }

/-- The first `j` operations of a list changed. -/
def upTo (f : PlanOp → PlanOp) (j : Nat) (l : List PlanOp) : List PlanOp := (l.take j).map f ++ l.drop j

theorem upTo_zero (f : PlanOp → PlanOp) (l : List PlanOp) : upTo f 0 l = l := rfl

theorem upTo_length (f : PlanOp → PlanOp) (l : List PlanOp) : upTo f l.length l = l.map f := by simp [upTo]

theorem getElem?_upTo {f : PlanOp → PlanOp} {l : List PlanOp} {o : PlanOp} (h : l[i]? = some o) : (upTo f i l)[i]? = some o := by
  obtain ⟨hi, -⟩ := List.getElem?_eq_some_iff.1 h
  have hlen : ((l.take i).map f).length = i := by simp; omega
  rw [upTo, List.getElem?_append_right (by omega), hlen, Nat.sub_self, List.getElem?_drop]
  exact h

theorem upTo_set {f : PlanOp → PlanOp} {l : List PlanOp} {o : PlanOp} (h : l[i]? = some o) :
    (upTo f i l).set i (f o) = upTo f (i + 1) l := by
  obtain ⟨hi, ho⟩ := List.getElem?_eq_some_iff.1 h
  have hlen : ((l.take i).map f).length = i := by simp; omega
  have hdrop : l.drop i = o :: l.drop (i + 1) := by rw [← ho]; exact List.drop_eq_getElem_cons hi
  have htake : l.take (i + 1) = l.take i ++ [o] := by rw [← ho]; exact List.take_succ_eq_append_getElem hi
  unfold upTo
  rw [List.set_append_right _ _ (by omega), hlen, Nat.sub_self, hdrop, htake]
  simp

/-- A read issued to a bay that takes it. -/
theorem exists_issueOp_eq {o : PlanOp} (hi : (t.berth b).ops[i]? = some o) (hf : o.finished = false) (hd : o.onDrive = false)
    (hr : o.replanned = false) (hw : o.write = false) (ht : t.bayTakes o.bay = true) :
    ∃ u, Mild t u ∧ (∀ x, u.bayTakes x = t.bayTakes x) ∧
      t.issueOp b i = u.updBerth b fun x => { x with ops := x.ops.set i o.issued } := by
  have hact : Mild t ((t.bayArray o.bay).elim t t.arrActive) ∧ ∀ x, ((t.bayArray o.bay).elim t t.arrActive).bayTakes x = t.bayTakes x := by
    cases t.bayArray o.bay with
    | none => exact ⟨Mild.refl t, fun _ => rfl⟩
    | some a => exact mild_arrActive t a
  unfold State.issueOp
  dsimp only
  rw [hi]
  dsimp only
  rw [if_neg (by simp [hf, hd, hr, hw]), if_pos ht]
  exact ⟨_, (hact.1.trans (Calm.updPwr _ _).mild).trans (Calm.emit _ _).mild, fun x => (bayTakes_congr rfl x).trans (hact.2 x), rfl⟩

end Issue

section Issue

variable {s t : State} {b i : Nat} {B : Berth} {h : HostFace} {A : Tab ArrRun} {D : Tab Drive} {O : List PlanOp}

theorem PlanOp.Fresh.idle {o : PlanOp} (h : o.Fresh) :
    o.finished = false ∧ o.onDrive = false ∧ o.replanned = false ∧ o.write = false ∧ o.heldBack = none := by
  obtain ⟨bay, blk, rfl⟩ := h
  exact ⟨rfl, rfl, rfl, rfl, rfl⟩

/-- The first pass of an issue, so far. -/
theorem Loose.issuePass (hs : Loose s (lone b B h A D) t) (hO : B.ops = O) (hfresh : ∀ o ∈ O, o.Fresh)
    (ht : ∀ o ∈ O, t.bayTakes o.bay = true) : ∀ n ≤ O.length,
    Loose s (lone b { B with ops := upTo PlanOp.issued n O } h A D) ((List.range n).foldl (fun s i => s.issueOp b i) t) ∧
      ∀ x, ((List.range n).foldl (fun s i => s.issueOp b i) t).bayTakes x = t.bayTakes x := by
  intro n
  induction n with
  | zero => exact fun _ => ⟨by rw [upTo_zero, ← hO]; exact hs, fun _ => rfl⟩
  | succ n ih =>
    intro hn
    obtain ⟨hu, htakes⟩ := ih (by omega)
    obtain ⟨hfin, hdrive, hrep, hwrite, -⟩ := (hfresh _ (List.getElem_mem hn)).idle
    have hi : O[n]? = some O[n] := List.getElem?_eq_getElem hn
    obtain ⟨v, hv, hvt, heq⟩ := exists_issueOp_eq (t := (List.range n).foldl (fun s i => s.issueOp b i) t) (b := b) (i := n)
      (by rw [hu.stands.berth, lone_berth_same]; exact getElem?_upTo hi) hfin hdrive hrep hwrite
      (by rw [htakes]; exact ht _ (List.getElem_mem hn))
    rw [List.range_succ, List.foldl_append, List.foldl_cons, List.foldl_nil, heq]
    refine ⟨?_, fun x => (bayTakes_congr rfl x).trans ((hvt x).trans (htakes x))⟩
    have := (hu.mild hv).updBerth_to (b := b) (f := fun x => { x with ops := x.ops.set n O[n].issued }) rfl
    simp only [lone_berth_same, lone_put, upTo_set hi] at this
    exact this

theorem issueOp_of_onDrive (ho : ∀ o ∈ (t.berth b).ops, o.onDrive = true) (i : Nat) : t.issueOp b i = t := by
  unfold State.issueOp
  dsimp only
  split
  · rfl
  · rename_i o hi
    rw [if_pos (by simp [ho o (List.mem_of_getElem? hi)])]

/-- Reads issued to bays that take them. -/
theorem Loose.issueOps (hs : Loose s (lone b B h A D) t) (hO : B.ops = O) (hfresh : ∀ o ∈ O, o.Fresh)
    (ht : ∀ o ∈ O, t.bayTakes o.bay = true) :
    Loose s (lone b { B with ops := O.map PlanOp.issued, issued := true } h A D) (t.issueOps b) := by
  obtain ⟨hu, -⟩ := hs.issuePass hO hfresh ht O.length (Nat.le_refl _)
  rw [upTo_length] at hu
  have hlen : (t.berth b).ops.length = O.length := by rw [hs.stands.berth, lone_berth_same, hO]
  have hdrive : ∀ o ∈ (((List.range O.length).foldl (fun s i => s.issueOp b i) t).berth b).ops, o.onDrive = true := by
    rw [hu.stands.berth, lone_berth_same]
    rintro o ho
    obtain ⟨x, -, rfl⟩ := List.mem_map.1 ho
    rfl
  have heq : t.issueOps b = ((List.range O.length).foldl (fun s i => s.issueOp b i) t).updBerth b fun x => { x with issued := true } := by
    unfold State.issueOps
    dsimp only
    rw [hlen, foldl_of_fixed (l := List.range _) fun i _ => issueOp_of_onDrive hdrive i]
  rw [heq]
  have := hu.updBerth_to (b := b) (f := fun x => { x with issued := true }) rfl
  simpa only [lone_berth_same, lone_put] using this

/-- A berth that waits for the reads it has issued. -/
def Berth.reading (x : Berth) (O : List PlanOp) : Berth :=
  { x with checkpoint := 6, ops := O.map PlanOp.issued, issued := true, state := .wait, waits := .ops }

/-- ISSUED: the reads go out, and the berth waits for them. -/
theorem Loose.issueStep (hs : Loose s (lone b B h A D) t) (hO : B.ops = O) (hfresh : ∀ o ∈ O, o.Fresh)
    (ht : ∀ o ∈ O, t.bayTakes o.bay = true) (hne : O ≠ []) : Loose s (lone b (B.reading O) h A D) (t.issueStep b 6) := by
  have hcp := hs.updBerth_to (b := b) (f := fun x => { x with checkpoint := 6 }) rfl
  rw [lone_berth_same, lone_put] at hcp
  have hissued := hcp.issueOps (O := O) hO hfresh fun o ho => (bayTakes_congr rfl _).trans (ht o ho)
  have hnot : ((t.updBerth b fun x => { x with checkpoint := 6 }).issueOps b).berthReady
      (((t.updBerth b fun x => { x with checkpoint := 6 }).issueOps b).berth b) = false := by
    rw [hissued.stands.berth, lone_berth_same]
    obtain ⟨o, l, rfl⟩ := List.exists_cons_of_ne_nil hne
    obtain ⟨hfin, -, hrep, hwrite, -⟩ := (hfresh o List.mem_cons_self).idle
    simp [State.berthReady, Berth.opsReady, PlanOp.issued, hfin, hrep, hwrite]
  unfold State.issueStep State.waitOps State.waitFor
  rw [hnot, if_neg Bool.false_ne_true]
  have := hissued.updBerth_to (b := b) (f := fun x => { x with state := .wait, waits := .ops }) rfl
  rw [lone_berth_same, lone_put] at this
  exact this

end Issue

/-! ### Answers -/

section Answer

variable {s t : State} {b i : Nat} {B : Berth} {h : HostFace} {A : Tab ArrRun} {D : Tab Drive} {O : List PlanOp}

/-- A berth that goes on where its operations have been answered. -/
def Berth.woken (x : Berth) : Berth := if x.opsReady then { x with state := .run, waits := .nothing } else x

/-- A waiting berth goes on where it may. -/
theorem Loose.wake (hs : Loose s (lone b B h A D) t) (hw : B.state = .wait) (hops : B.waits = .ops) (hp : B.placed = false) :
    Loose s (lone b B.woken h A D) (t.wake b) := by
  have hready : t.berthReady B = B.opsReady := by simp [State.berthReady, hp]
  unfold State.wake Berth.woken
  dsimp only
  rw [hs.stands.berth, lone_berth_same, hready]
  by_cases hB : B.opsReady = true
  · rw [if_pos hB, if_pos ⟨hw, hops, hB⟩]
    have := hs.updBerth_to (b := b) (f := fun e => { e with state := .run, waits := .nothing }) rfl
    rw [lone_berth_same, lone_put] at this
    exact this
  · rw [if_neg hB, if_neg fun hc => hB hc.2.2]
    exact hs

theorem releaseBerth_of_not_done (h : (t.berth b).state ≠ .done) : t.releaseBerth b = t := by
  unfold State.releaseBerth
  dsimp only
  rw [if_neg fun hc => h hc.1]

theorem woken_state (hw : B.state = .wait) : B.woken.state ≠ .done := by
  unfold Berth.woken
  split
  · exact fun h => nomatch h
  · rw [hw]; exact fun h => nomatch h

theorem Loose.wake_release (hs : Loose s (lone b B h A D) t) (hw : B.state = .wait) (hops : B.waits = .ops)
    (hp : B.placed = false) : Loose s (lone b B.woken h A D) ((t.wake b).releaseBerth b) := by
  have hwake := hs.wake hw hops hp
  rw [releaseBerth_of_not_done (by
    rw [hwake.stands.berth, lone_berth_same]
    exact woken_state hw)]
  exact hwake

/-- A waiting berth's operation answered well: the drive's ladder may end with it. -/
theorem Loose.opAnswer {o : PlanOp} (hs : Loose s (lone b B h A D) t) (hw : B.state = .wait) (hops : B.waits = .ops)
    (hp : B.placed = false) :
    Loose s (lone b { B with ops := B.ops.set i o.answered }.woken h A D) (t.opAnswer b i o .ok) := by
  have htally := hs.mild (Calm.foldl (fun s (o : PlanOp) => (s.tally (if o.write then 0x101 else 0x100) o.bay 4096).tally 0x102 o.bay 1)
    (fun t o => (Calm.tally t _ o.bay 4096).trans (Calm.tally _ 0x102 o.bay 1)) [o] t).mild
  have hset := htally.updBerth_to (b := b) (f := fun e => { e with ops := e.ops.set i o.answered }) rfl
  rw [lone_berth_same, lone_put] at hset
  have hport : ∀ v : State, Mild v (v.updPort o.bay fun p => { p with timedOut := p.timedOut.filter fun t => t != (b, i) }) :=
    fun _ => ⟨rfl, rfl, rfl, rfl, rfl, List.prefix_refl _⟩
  have hladder : ∀ (v : State) (p : Prop) [Decidable p], Mild v (if p then v.rung1Done o.bay else v) := fun v p _ => by
    split
    · exact (Mild.setFld _ _ _).trans (Mild.setFld _ _ _)
    · exact Mild.refl v
  unfold State.opAnswer State.opFinished
  dsimp only
  exact ((hset.mild (hport _)).mild (hladder _ _)).wake_release hw hops hp

/-- All reads of a waiting berth answered well. -/
theorem foldl_zipIdx_keeps {σ β : Type} {P : Nat → σ → Prop} {f : σ → β × Nat → σ} {l : List β} {k : Nat}
    (hf : ∀ j x t, l[j]? = some x → P (k + j) t → P (k + j + 1) (f t (x, k + j))) {t : σ} (h : P k t) :
    P (k + l.length) ((l.zipIdx k).foldl f t) := by
  induction l generalizing k t with
  | nil => exact h
  | cons x l ih =>
    rw [List.zipIdx_cons, List.foldl_cons, List.length_cons, Nat.add_comm l.length, ← Nat.add_assoc]
    refine ih (fun j y u hj hu => ?_) (hf 0 x t rfl h)
    have := hf (j + 1) y u hj (by rwa [← Nat.add_assoc, Nat.add_right_comm])
    rwa [← Nat.add_assoc, Nat.add_right_comm k j 1] at this

/-- Its operations but the first `j` stand on their drives. -/
def Berth.partly (x : Berth) (j : Nat) (O : List PlanOp) : Berth :=
  { x with ops := upTo PlanOp.answered j (O.map PlanOp.issued) }

theorem opsReady_partly (hfresh : ∀ o ∈ O, o.Fresh) {j : Nat} (hj : j < O.length) (x : Berth) : (x.partly j O).opsReady = false := by
  have hmem : (O[j]).issued ∈ (x.partly j O).ops := by
    refine List.mem_append_right _ ?_
    rw [List.drop_eq_getElem_cons (by simpa using hj), List.getElem_map]
    exact List.mem_cons_self
  obtain ⟨hfin, -, hrep, hwrite, -⟩ := (hfresh _ (List.getElem_mem hj)).idle
  unfold Berth.opsReady
  rw [List.all_eq_false]
  exact ⟨_, hmem, by simp [PlanOp.issued, hfin, hrep, hwrite]⟩

theorem woken_of_not_ready (h : B.opsReady = false) : B.woken = B := by
  unfold Berth.woken
  rw [h]
  rfl

theorem Loose.answerOps (hs : Loose s (lone b (B.reading O) h A D) t) (hp : B.placed = false) (hfresh : ∀ o ∈ O, o.Fresh)
    (hne : O ≠ []) : Loose s (lone b ((B.reading O).partly O.length O).woken h A D) (t.answerOps b) := by
  have hpos : 0 < O.length := List.length_pos_of_ne_nil hne
  have hstart : Loose s (lone b ((B.reading O).partly 0 O).woken h A D) t := by
    rw [woken_of_not_ready (opsReady_partly hfresh hpos _)]
    exact hs
  have hops : (t.berth b).ops = O.map PlanOp.issued := by rw [hs.stands.berth, lone_berth_same]; rfl
  unfold State.answerOps
  rw [hops]
  have := foldl_zipIdx_keeps (P := fun j u => Loose s (lone b ((B.reading O).partly j O).woken h A D) u) (k := 0)
    (l := O.map PlanOp.issued) (f := fun s p =>
      if p.1.onDrive ∧ !p.1.finished ∧ ((s.berth b).ops[p.2]?.any fun o => !o.finished) then s.opAnswer b p.2 p.1 .ok else s)
    (fun j o u hj hu => ?_) hstart
  · rwa [List.length_map, Nat.zero_add] at this
  · rw [Nat.zero_add] at hu ⊢
    obtain ⟨hlt, ho⟩ := List.getElem?_eq_some_iff.1 hj
    rw [List.length_map] at hlt
    rw [List.getElem_map] at ho
    obtain ⟨hfin, -, -, -, -⟩ := (hfresh _ (List.getElem_mem hlt)).idle
    rw [woken_of_not_ready (opsReady_partly hfresh hlt _)] at hu
    have hget : (u.berth b).ops[j]? = some o := by
      rw [hu.stands.berth, lone_berth_same]
      exact getElem?_upTo hj
    have hans := hu.opAnswer (b := b) (i := j) (o := o) rfl rfl hp
    dsimp only
    rw [if_pos (by rw [hget, ← ho]; simp [PlanOp.issued, hfin])]
    have hset : ((B.reading O).partly j O).ops.set j o.answered = upTo PlanOp.answered (j + 1) (O.map PlanOp.issued) := upTo_set hj
    rw [hset] at hans
    exact hans

end Answer

/-! ## VERIFY -/

section Verify

variable {s t u v : State} {n : Namespace} {c : IoCmd} {b k : Nat} {B : Berth} {h : HostFace} {D : Tab Drive} {A : Tab ArrRun}
  {O : List PlanOp} {rn rnN : Nat} {d : List Sector}

/-- Where no record is a command's, no pair has anything for it. -/
theorem answerPairs_of_none (i : Nat) {mine : LedgerRec → Bool} (hm : ∀ r, mine r = false) : t.answerPairs i mine = t := by
  unfold State.answerPairs
  refine foldl_of_fixed fun p _ => ?_
  dsimp only
  rw [if_neg]
  simp [hm]

theorem answerLedger_of_none (i lo : Nat) : t.answerLedger i lo 0 [] = t := by
  simp only [State.answerLedger, List.foldl_nil]
  refine answerPairs_of_none i fun r => ?_
  simp only [Nat.add_zero, Bool.and_eq_false_imp, decide_eq_false_iff_not]
  omega

/-- The berth of a read whose drives have answered. -/
def Berth.readBack (x : Berth) (O : List PlanOp) : Berth :=
  { x with
    checkpoint := 6, ops := (O.map PlanOp.issued).map PlanOp.answered, issued := true, state := .run, waits := .nothing }

theorem readBack_eq (B : Berth) (O : List PlanOp) : ((B.reading O).partly O.length O).woken = B.readBack O := by
  have hops : upTo PlanOp.answered O.length (O.map PlanOp.issued) = (O.map PlanOp.issued).map PlanOp.answered := by
    have := upTo_length PlanOp.answered (O.map PlanOp.issued)
    rwa [List.length_map] at this
  have hready : ((B.reading O).partly O.length O).opsReady = true := by
    unfold Berth.opsReady Berth.partly
    rw [hops, List.all_eq_true]
    intro o ho
    obtain ⟨x, -, rfl⟩ := List.mem_map.1 ho
    rfl
  unfold Berth.woken
  rw [if_pos hready, Berth.partly, hops]
  rfl

/-- The drives answer a waiting read. -/
theorem Loose.progress_of_reads (hs : Loose s (lone b (B.reading O) h A D) t) (hp : B.placed = false) (hn : B.rnN = 0)
    (hfresh : ∀ o ∈ O, o.Fresh) (hne : O ≠ []) : Loose s (lone b (B.readBack O) h A D) (t.progress b d) := by
  have hans := hs.answerOps hp hfresh hne
  rw [readBack_eq] at hans
  have hwake : (t.answerOps b).wake b = t.answerOps b := by
    unfold State.wake
    dsimp only
    rw [hans.stands.berth, lone_berth_same, if_neg fun hc => nomatch hc.1]
  have hb : t.berth b = B.reading O := by rw [hs.stands.berth, lone_berth_same]
  have hprog : t.progress b d = (t.answerOps b).wake b := by
    unfold State.progress
    dsimp only
    rw [hb]
    simp only [Berth.reading, hp, hn, Bool.false_and, Bool.false_eq_true, if_false, answerLedger_of_none]
  rw [hprog, hwake]
  exact hans

theorem parityOk_congr (hd : t.drives = s.drives) (a : Arr) (st off : Nat) : t.parityOk a st off = s.parityOk a st off := by
  have hunit : ∀ x o, t.unitAt a st x o = s.unitAt a st x o := fun x o => by
    unfold State.unitAt State.media
    rw [hd]
  have hdata : t.stripeData a st off = s.stripeData a st off := by
    unfold State.stripeData
    simp only [hunit]
  unfold State.parityOk
  simp only [hunit, hdata]

/-- The redundancy of a command's blocks agrees with their data. -/
def State.blksAgree (s : State) (c : IoCmd) : Prop :=
  ∀ i < c.nlb, s.parityOk (s.mrd.arr.get (s.mrd.ns.get c.nsid).array)
    ((s.mrd.arr.get (s.mrd.ns.get c.nsid).array).place
      ((s.mrd.arr.get (s.mrd.ns.get c.nsid).array).mapped (s.mrd.ns.get c.nsid).ext (c.slba + i))).1
    ((s.mrd.arr.get (s.mrd.ns.get c.nsid).array).place
      ((s.mrd.arr.get (s.mrd.ns.get c.nsid).array).mapped (s.mrd.ns.get c.nsid).ext (c.slba + i))).2.2 = true

/-- Gathered blocks whose redundancy agrees verify well. -/
theorem doVerify_of_gathered {p : Bound} (hn : p.ns = s.mrd.ns.get c.nsid)
    (hg : AllGathered s p.ns (((List.range c.nlb).map (c.slba + ·)).map fun b => (b, 0, 1))) (ha : s.blksAgree c) :
    ∃ w, Calm s w ∧ s.doVerify p c = (w, St.ok) := by
  obtain ⟨w, hw, hread⟩ := readBlks_of_gathered hg c.nsid
  refine ⟨w, hw, ?_⟩
  have hpi : ∀ l : List (Nat × Sector), l.findSome? (fun x => piFail p.ns c x.1 x.2) = none := fun l =>
    List.findSome?_eq_none_iff.2 fun x _ => piFail_of_plain hg.plain _ _
  unfold State.doVerify
  simp only [cover_of_plain hg.plain, hread, hpi]
  rw [if_neg]
  simp only [List.any_eq_true, not_exists, not_and, List.mem_map]
  rintro e ⟨e', ⟨k, ⟨i, hi, rfl⟩, rfl⟩, rfl⟩
  have := ha i (List.mem_range.1 hi)
  rw [← hn, ← parityOk_congr hw.drives, ← hw.mrd] at this
  simp [this]

/-- A VERIFY of gathered blocks reads the same units in every turn. -/
theorem FromGather.cmdOps_turn (hg : FromGather s c) (hc : changesData c = false) (hop : c.opcode = 0x0C) (turn : Nat) :
    s.cmdOps (s.mrd.ns.get c.nsid) turn c = s.cmdOps (s.mrd.ns.get c.nsid) 0 c := by
  have hreads : ∀ turn, (planBlks (s.mrd.ns.get c.nsid) c).flatMap (s.readOps (s.mrd.ns.get c.nsid) turn) = [] := fun turn =>
    List.flatMap_eq_nil_iff.2 fun k hk => readOps_of_gathered (hg.planned k hk) turn
  unfold State.cmdOps
  simp only [hc, Bool.false_eq_true, if_false, hop, if_true, hreads]

theorem Near.bayTakes (h : Near s t) (x : Nat) : t.bayTakes x = s.bayTakes x := by
  have hdrive : Steady (Reg.DRV_STATE x) := by unfold Steady Reg.DRV_STATE; omega
  have hrole : t.fld Fld.AQD_ROLE_ROLE = s.fld Fld.AQD_ROLE_ROLE := h.fld (by unfold Steady; decide)
  have hstate : t.fld (Fld.DRV_STATE_STATE x) = s.fld (Fld.DRV_STATE_STATE x) := h.fld hdrive
  have hrung : t.fld (Fld.DRV_STATE_RUNG x) = s.fld (Fld.DRV_STATE_RUNG x) := h.fld hdrive
  simp only [State.bayTakes, State.isStandby, State.role, hrole, hstate, hrung]

/-- The steps of VERIFY whose reads its drives take: it issues them, and they answer (R111, ISSUED). -/
theorem AtWork.reads (hw : AtWork s c O 0 0 b k h (turned n s.ary) D t u v B) (hg : FromGather s c)
    (hr : readsData c.opcode = true) (hfresh : ∀ o ∈ O, o.Fresh) (hne : O ≠ []) (htakes : ∀ o ∈ O, s.bayTakes o.bay = true) :
    ∃ x, Goes b c.data 2 u x ∧ Loose s (lone b (B.readBack O) h (turned n s.ary) D) x := by
  obtain ⟨l, hcmd, -⟩ := hw.working.cmd
  have hop : B.cmd.opcode = c.opcode := by rw [hcmd]
  have hrecon : v.reconStripes B = [] := reconStripes_of_gathered fun k hk => by
    rw [hw.working.ns, hcmd] at hk
    rw [hw.working.ns, gatheredOk_congr hw.stands.mrd hw.sameGather]
    exact hg.planned k hk
  have hmust : B.mustIssue = true := by
    obtain ⟨o, l, rfl⟩ := List.exists_cons_of_ne_nil hne
    obtain ⟨hfin, hdrive, hrep, hwrite, -⟩ := (hfresh o List.mem_cons_self).idle
    simp [Berth.mustIssue, hw.working.ops, hfin, hdrive, hrep, hwrite]
  have hstep : v.workStep b = v.issueStep b 6 := by
    unfold State.workStep State.readStep State.withStripes
    simp only [hw.berth_eq, hrecon, changesData_of_reads (hop ▸ hr : readsData B.cmd.opcode = true), hop, hr, List.foldl_nil,
      State.stripesFree, List.all_nil, hmust, hw.working.plain.first]
    simp
  have htakes' : ∀ o ∈ O, v.bayTakes o.bay = true := fun o ho => by rw [hw.stands.toNear.bayTakes, htakes o ho]
  have hissued := hw.stands.loose.issueStep hw.working.ops hfresh htakes' hne
  have hgo1 : Goes b c.data 1 u (v.issueStep b 6) := goes_of_progress (by rw [hw.before.berth, lone_berth_same, hw.working.plain.run]; decide)
    (hw.step.trans hstep) (by
      rw [hissued.stands.berth, hw.before.berth, lone_berth_same, lone_berth_same]
      exact fun heq => by
        have := congrArg Berth.state heq
        rw [hw.working.plain.run] at this
        cases this)
  have hback := hissued.progress_of_reads (d := c.data) hw.working.placed hw.working.rnN hfresh hne
  have hgo2 : Goes b c.data 1 (v.issueStep b 6) _ := goes_of_progress
    (by rw [hissued.stands.berth, lone_berth_same]; exact fun h => nomatch h) rfl (by
      rw [hissued.stands.berth, hback.stands.berth, lone_berth_same, lone_berth_same]
      exact fun heq => by
        have := congrArg Berth.state heq
        cases this)
  exact ⟨_, hgo1.trans hgo2, hback⟩

theorem finished_of_answered : ∀ o ∈ (O.map PlanOp.issued).map PlanOp.answered, o.finished = true := by
  intro o ho
  obtain ⟨x, -, rfl⟩ := List.mem_map.1 ho
  rfl

/-- A device with the command's host face has it as its own. -/
theorem AtWork.faces_of_host (hw : AtWork s c O rn rnN b k h A D t u v B) {x : State} (hx : x.host = h) : Faces x h :=
  ⟨by rw [hx], fun q => by rw [hx], fun q => by rw [hx], hw.faces.locks, hw.faces.dying, by rw [hx]⟩

/-- The effect of VERIFY once its drives have answered. -/
theorem AtWork.completes_of_readBack (hw : AtWork s c O 0 0 b k h (turned n s.ary) s.drives t u v B) (hg : FromGather s c)
    (hr : readsData c.opcode = true) (hfresh : ∀ o ∈ O, o.Fresh) (hgood : ∀ o ∈ O, (s.media o.bay o.blk).bad = false)
    {x : State} (hgo : Goes b c.data 2 u x) (hx : Loose s (lone b (B.readBack O) h (turned n s.ary) s.drives) x) {st : Status}
    (heff : ∀ v : State, v.mrd = s.mrd → v.ary = turned n s.ary → v.drives = s.drives → ∀ p : Bound,
      p.ns = s.mrd.ns.get c.nsid → ∃ w, Calm v w ∧ v.ioEffect p B.cmd true = (w, st)) :
    Kept s (s.ioRow c) ∧ (s.ioRow c).responded c.qref c.cid st := by
  obtain ⟨l, hcmd, -⟩ := hw.working.cmd
  have hp := hw.working.plain
  have ho := hw.working.own
  have hhost : x.host = h := hx.stands.host
  have hcntlid : (x.host.queue.get c.qref).cntlid = (s.host.queue.get c.qref).cntlid := by rw [hhost]; exact hw.faces.cntlid _
  have hheld : ∀ o ∈ (B.readBack O).ops, o.heldBack = none := by
    intro o ho
    obtain ⟨y, hy, rfl⟩ := List.mem_map.1 ho
    obtain ⟨z, hz, rfl⟩ := List.mem_map.1 hy
    exact (hfresh z hz).idle.2.2.2.2
  obtain ⟨v', hv', hwork⟩ := exists_progress_eq_workStep (d := c.data) (b := b) hx.stands
    (by rw [lone_berth_same]; exact ⟨rfl, hp.orphan, hp.failed, hp.first, hp.second, hp.restarted, hp.mate, hp.commit, hp.heldData, hheld⟩)
    (by rw [lone_berth_same, hx.runs]; exact hw.working.runs) (by rw [lone_berth_same]; exact .inr rfl)
  have hb : v'.berth b = B.readBack O := by rw [hv'.berth, lone_berth_same]
  have hm : v'.mrd = s.mrd := hv'.mrd.trans hx.mrd
  have hA : SameGather s.ary v'.ary := by rw [hv'.ary]; exact sameGather_turned _ _
  obtain ⟨w, hcalm, heff⟩ := heff v' hm hv'.ary hv'.drives (v'.boundOf (B.readBack O)) hw.working.ns
  have hfinish : v'.workStep b = w.finishBerth b st := by
    refine (workStep_of_read hr hb (by rw [← show B.cmd.opcode = c.opcode by rw [hcmd]]; rfl)
      (reconStripes_of_gathered fun k hk => ?_) ?_ ?_ (reconReads_of_good ?_)).trans
      (readDone_eq_finishBerth hb hp.first ?_ heff)
    · have hk' : k ∈ planBlks B.ns B.cmd := hk
      rw [hw.working.ns, hcmd] at hk'
      rw [show (B.readBack O).ns = s.mrd.ns.get c.nsid from hw.working.ns, gatheredOk_congr hm hA]
      exact hg.planned k hk'
    · unfold Berth.mustIssue
      rw [List.any_eq_false]
      intro o ho
      simp [finished_of_answered o ho]
    · have hready : (B.readBack O).opsReady = true := by
        unfold Berth.opsReady
        rw [List.all_eq_true]
        intro o ho
        simp [finished_of_answered o ho]
      have hplaced : (B.readBack O).placed = false := hw.working.placed
      simp [State.berthReady, hready, hplaced]
    · intro o ho
      obtain ⟨y, hy, rfl⟩ := List.mem_map.1 ho
      obtain ⟨z, hz, rfl⟩ := List.mem_map.1 hy
      have := hgood z hz
      rwa [State.media, ← show v'.drives = s.drives from hv'.drives] at this
    · rw [show (B.readBack O).cmd = B.cmd from rfl, show (B.readBack O).cntlid = B.cntlid from rfl, hv'.host, lone_host, ho.qref,
        ho.cntlid, hw.faces.live, hw.faces.cntlid, hw.live]
      simp
  have hs := hv'.calm hcalm
  obtain ⟨m, hkept, hout, -⟩ := runOn_of_finish (st := st) (hw.goes.trans hgo) (by have := hw.few; omega)
    (by rw [hx.stands.berth, lone_berth_same]; exact (by decide : BerthState.run ≠ .free ∧ BerthState.run ≠ .done))
    (hwork.trans hfinish) hs (q := c.qref) (cid := c.cid)
    ⟨rfl, ho.orphan, ho.second, ho.mate, ho.posted, ho.prompt, ho.commit, ho.qref, ho.cid, by rw [hcntlid]; exact ho.cntlid⟩
    (hw.faces_of_host hhost) (by rw [hhost, hw.faces.live]; exact hw.live) hw.disconnect
  rw [hw.row]
  have hks : Kept s x := ⟨by rw [hx.mrd], by rw [hx.mrd], by rw [hx.mrd], hx.stands.drives,
    fun i => by rw [hx.stands.ary]; exact sameGather_turned _ _ i, hx.out⟩
  exact ⟨(hks.trans (hs.kept hx.stands.drives.symm fun i => by rw [hx.stands.ary])).trans hkept, .inl ⟨m, hout⟩⟩

/-- VERIFY of gathered blocks whose drives take and answer its reads (R41, R227). -/
theorem completes_verify (ht : s.ioTaken c = true) (hop : c.opcode = 0x0C) (hg : FromGather s c) (ha : s.blksAgree c)
    (hops : (s.cmdOps (s.mrd.ns.get c.nsid) 0 c).all (fun o => s.bayTakes o.bay && !(s.media o.bay o.blk).bad) = true) :
    Kept s (s.ioRow c) ∧ (s.ioRow c).responded c.qref c.cid St.ok := by
  have hr : readsData c.opcode = true := by rw [hop]; rfl
  have hc := changesData_of_reads hr
  obtain ⟨b, k, h, t, u, v, B, hw⟩ := exists_atWork_of_reading ht hc
  rw [hg.cmdOps_turn hc hop] at hw
  have hfresh := fresh_cmdOps_of_reading s (s.mrd.ns.get c.nsid) 0 hc
  obtain ⟨l, hcmd, -⟩ := hw.working.cmd
  have hns : B.ns = s.mrd.ns.get c.nsid := hw.working.ns
  have hread : ∀ o ∈ s.cmdOps (s.mrd.ns.get c.nsid) 0 c, s.bayTakes o.bay = true ∧ (s.media o.bay o.blk).bad = false := by
    simpa [List.all_eq_true] using hops
  have heffect : ∀ x : State, x.mrd = s.mrd → x.ary = turned (s.mrd.ns.get c.nsid) s.ary → x.drives = s.drives →
      ∀ p : Bound, p.ns = s.mrd.ns.get c.nsid → ∃ w, Calm x w ∧ x.ioEffect p B.cmd true = (w, St.ok) := by
    intro x hm hA hD p hp
    obtain ⟨w, hcalm, hdo⟩ := doVerify_of_gathered (s := x) (p := p) (c := B.cmd) (by rw [hp, hm, hcmd])
      (by rw [hp, hcmd]; exact hg.allGathered hm (by rw [hA]; exact sameGather_turned _ _))
      (fun i hi => by
        rw [hcmd] at hi ⊢
        rw [parityOk_congr hD, hm]
        exact ha i hi)
    refine ⟨w, hcalm, ?_⟩
    unfold State.ioEffect
    rw [show B.cmd.opcode = 0x0C by rw [hcmd]; exact hop]
    exact hdo
  by_cases hne : s.cmdOps (s.mrd.ns.get c.nsid) 0 c = []
  · rw [hne] at hw
    obtain ⟨w, hcalm, heff⟩ := heffect v hw.stands.mrd hw.stands.ary hw.stands.drives (v.boundOf B) hns
    have hs := hw.stands.calm hcalm
    obtain ⟨hkept, hres⟩ := hw.completes ((hw.workStep_of_gathered hg hr).trans (hw.readDone_of_effect heff)) hs hw.working.own
    exact ⟨(hs.kept rfl (sameGather_turned _ _)).trans hkept, hres⟩
  · obtain ⟨x, hgo, hx⟩ := hw.reads hg hr hfresh hne fun o ho => (hread o ho).1
    exact hw.completes_of_readBack hg hr hfresh (fun o ho => (hread o ho).2) hgo hx heffect

end Verify

/-! ## The obligation -/

/-- Settles O18: each command's row goes from its capsule to its completion, step by step, on a device where nothing else
is under way. -/
theorem readAndCheckCommandsComplete : Obligations.ReadAndCheckCommandsComplete := by
  unfold Obligations.ReadAndCheckCommandsComplete
  refine ⟨fun c s ht hg => ?_, fun c s ht => ?_, fun c s ht hg => ?_, fun c s ht hg hpar hops => ?_,
    fun q cid op s ha => ?_, fun q k cid op s ha hq => ?_⟩
  · obtain ⟨hkept, hres, hout⟩ := completes_read ht rfl ⟨hg.1, hg.2, (by decide : 2 ≠ 9)⟩
    refine ⟨_, rfl, fun i hi => ⟨_, hout i hi, ?_⟩, hres, hkept.arr, hkept.ns, hkept.drives, hkept.gather⟩
    exact some_gatheredData (hg.2 i hi)
  · obtain ⟨hkept, hres⟩ := completes_flush ht
    exact ⟨_, rfl, hres, hkept.arr, hkept.ns, hkept.drives, hkept.gather⟩
  · obtain ⟨hkept, hres⟩ := completes_compare ht rfl ⟨hg.1, hg.2, (by decide : 5 ≠ 9)⟩
    exact ⟨_, rfl, hres, hkept.arr, hkept.ns, hkept.drives, hkept.gather⟩
  · obtain ⟨hkept, hres⟩ := completes_verify ht rfl ⟨hg.1, hg.2, (by decide : 0x0C ≠ 9)⟩ hpar hops
    exact ⟨_, rfl, hres, hkept.arr, hkept.ns, hkept.drives, hkept.gather⟩
  · obtain ⟨ha, hop⟩ := ha
    obtain ⟨hkept, hres, hsqhd⟩ := completes_of_refused ha fun l => ioCheck_of_unsupported hop
    exact ⟨_, completes_unsupported_io ha hop, hres, hsqhd, hkept.arr, hkept.ns, hkept.drives⟩
  · obtain ⟨ht, hop⟩ := ha
    obtain ⟨hqid, hlive⟩ := hq
    have hserved := served_unsupported_admin ht hop
    refine ⟨_, ?_, .inl hserved.out, hserved.sqhd.trans (sqhd_adminQueued _ _ _), hserved.mrd, hserved.ary⟩
    show execUnsupportedOpcode q cid op s = _
    unfold execUnsupportedOpcode
    simp [hqid, hlive, hop]

end Sys2Proof.Machine

/-! A write of one block whose gather buffer is full, and the device on which the plan itself fills it. -/

namespace Sys2Proof.Machine

/-! ## A write that finds no room in the gather buffer (R182) -/

section NoRoom

variable {s t u v : State} {n : Namespace} {c : IoCmd} {b k : Nat} {B : Berth} {h : HostFace} {D : Tab Drive} {A : Tab ArrRun}
  {l : List Sector}

/-- A command that writes the whole of one block, on a plain ledgered namespace whose stripes hold more than one. -/
structure OneBlock (s : State) (c : IoCmd) (k : Nat) : Prop where
  changes : changesData c = true
  plain : (s.mrd.ns.get c.nsid).plain = true
  present : (s.mrd.ns.get c.nsid).present = true
  ledgered : (s.mrd.ns.get c.nsid).ledgered = true
  cover : coverOf (s.mrd.ns.get c.nsid) c = [(k, true)]
  part : 1 < (s.mrd.arr.get (s.mrd.ns.get c.nsid).array).k * (s.mrd.arr.get (s.mrd.ns.get c.nsid).array).u
  commit : c.commit = none

theorem OneBlock.withData (ho : OneBlock s c k) (l : List Sector) : OneBlock s { c with data := l } k :=
  ⟨ho.changes, ho.plain, ho.present, ho.ledgered, ho.cover, ho.part, ho.commit⟩

theorem OneBlock.congr (ho : OneBlock s c k) (hm : t.mrd = s.mrd) : OneBlock t c k := by
  obtain ⟨hchanges, hplain, hpresent, hledgered, hcover, hpart, hcommit⟩ := ho
  exact ⟨hchanges, by rwa [hm], by rwa [hm], by rwa [hm], by rwa [hm], by rwa [hm], hcommit⟩

theorem OneBlock.planBlks (ho : OneBlock s c k) : planBlks (s.mrd.ns.get c.nsid) c = [k] := by
  rw [Machine.planBlks, ho.cover]
  rfl

/-- One block is no whole stripe. -/
theorem whole_single {a : Arr} (ha : 1 < a.k * a.u) (r : Nat) : a.whole [r] = false := by
  unfold Arr.whole
  rw [List.all_eq_false]
  by_cases hr : r = 0
  · exact ⟨1, List.mem_range.2 ha, by simp [hr]⟩
  · exact ⟨0, List.mem_range.2 (by omega), by simp; omega⟩

theorem stripesOf_single (s : State) (n : Namespace) (k : Nat) : s.stripesOf n [k] =
    [((s.mrd.arr.get n.array).mapped n.ext k / ((s.mrd.arr.get n.array).k * (s.mrd.arr.get n.array).u),
      [(s.mrd.arr.get n.array).mapped n.ext k % ((s.mrd.arr.get n.array).k * (s.mrd.arr.get n.array).u)])] := by
  simp [State.stripesOf, List.eraseDups_cons]

/-- What goes through the ledger needs no drive operations of its own (R25). -/
theorem OneBlock.cmdOps_eq_nil (ho : OneBlock s c k) (turn : Nat) : s.cmdOps (s.mrd.ns.get c.nsid) turn c = [] := by
  have hwhole := whole_single ho.part
  have hmerge : s.mergeOps (s.mrd.ns.get c.nsid) turn c = [] := by
    simp [State.mergeOps, ho.cover, ho.planBlks, stripesOf_single, Arr.direct, ho.ledgered]
  have hwrite : s.writeOps (s.mrd.ns.get c.nsid) c.commit.isSome (Machine.planBlks (s.mrd.ns.get c.nsid) c) = [] := by
    simp [State.writeOps, ho.planBlks, stripesOf_single, hwhole, ho.commit, ho.ledgered]
  unfold State.cmdOps
  simp only [ho.changes, if_true, hmerge, hwrite, List.append_nil]

/-- The array's entry once a plan has drawn one record number and had its turn. -/
def drawn (i : Nat) (A : Tab ArrRun) : Tab ArrRun :=
  (A.upd i fun e => { e with rnNext := e.rnNext + 1 }).upd i fun e => { e with readTurn := e.readTurn + 1 }

theorem sameGather_drawn (i : Nat) (A : Tab ArrRun) : SameGather A (drawn i A) := fun j =>
  (sameGather_upd (A := A.upd i fun e => { e with rnNext := e.rnNext + 1 }) i (fun e => { e with readTurn := e.readTurn + 1 }) (fun _ => rfl) j).trans
    (sameGather_upd i (fun e => { e with rnNext := e.rnNext + 1 }) (fun _ => rfl) j)

/-- The record-number counter is below its limit (R178). -/
def BelowLimit (A : Tab ArrRun) (i : Nat) : Prop := (A.get i).rnNext + 1 < (A.get i).rnLimit

theorem bind_of_oneBlock (ho : OneBlock s c k) (hlim : BelowLimit s.ary (s.mrd.ns.get c.nsid).array) :
    (s.bind c).1 = s.tick.updAry (s.mrd.ns.get c.nsid).array (fun e => { e with rnNext := e.rnNext + 1 }) ∧
      (s.bind c).2.1.ser = 0 ∧ (s.bind c).2.1.rn = (s.ary.get (s.mrd.ns.get c.nsid).array).rnNext ∧ (s.bind c).2.2 = 1 := by
  obtain ⟨-, -, hcip⟩ := plain_iff.1 ho.plain
  have hno : ¬ (s.tick.ary.get (s.mrd.ns.get c.nsid).array).rnLimit ≤ (s.tick.ary.get (s.mrd.ns.get c.nsid).array).rnNext + 1 :=
    Nat.not_le.2 hlim
  have htake : s.tick.takeRn (s.mrd.ns.get c.nsid).array 1 =
      (s.tick.updAry (s.mrd.ns.get c.nsid).array (fun e => { e with rnNext := e.rnNext + 1 }),
        (s.ary.get (s.mrd.ns.get c.nsid).array).rnNext) := by
    unfold State.takeRn
    dsimp only
    rw [if_neg hno]
    rfl
  unfold State.bind
  simp only [ho.changes, ho.planBlks, hcip, ho.present, if_true, List.length_cons, List.length_nil]
  simp [htake]

/-- The plan of a write of one block (R111, PLANNED). -/
theorem Stands.plan_of_oneBlock (hs : Stands s (lone b B h A D) t) (hB : B.cmd = { c with data := l })
    (ho : OneBlock s c k) (hlim : BelowLimit A (s.mrd.ns.get c.nsid).array) :
    ∃ bank lane turn, Stands s (lone b (B.planned (s.mrd.ns.get c.nsid) bank lane 0 (A.get (s.mrd.ns.get c.nsid).array).rnNext 1
      turn []) h (drawn (s.mrd.ns.get c.nsid).array A) D) (t.plan b) := by
  have hb : t.berth b = B := by rw [hs.berth, lone_berth_same]
  have ho' := (ho.withData l).congr (t := t) hs.mrd
  obtain ⟨hstate, hser, hrn, hn⟩ := bind_of_oneBlock ho' (by rw [hs.mrd, hs.ary]; exact hlim)
  have hops := ho'.cmdOps_eq_nil (t.bind { c with data := l }).2.1.turn
  rw [hs.mrd] at hstate hops
  rw [hs.mrd, hs.ary] at hrn
  have hgo := (((hs.calm (Calm.tick t)).updAry (s.mrd.ns.get c.nsid).array fun e => { e with rnNext := e.rnNext + 1 }).updAry
    (s.mrd.ns.get c.nsid).array fun e => { e with readTurn := e.readTurn + 1 }).updBerth_to (b := b)
      (e := B.planned (s.mrd.ns.get c.nsid) (t.mrd.keys.get (s.mrd.ns.get c.nsid).keySlot).active
        (t.bind { c with data := l }).2.1.lane 0 (A.get (s.mrd.ns.get c.nsid).array).rnNext 1
        (t.bind { c with data := l }).2.1.turn [])
      (f := fun x => x.planned (s.mrd.ns.get c.nsid) (t.mrd.keys.get (s.mrd.ns.get c.nsid).keySlot).active
        (t.bind { c with data := l }).2.1.lane 0 (A.get (s.mrd.ns.get c.nsid).array).rnNext 1
        (t.bind { c with data := l }).2.1.turn []) (by simp)
  rw [lone_put_ary] at hgo
  unfold State.plan
  dsimp only
  rw [hb, hB, hs.mrd, hstate, hser, hrn, hn, hops, if_pos ho.present]
  exact ⟨(t.mrd.keys.get (s.mrd.ns.get c.nsid).keySlot).active, (t.bind { c with data := l }).2.1.lane,
    (t.bind { c with data := l }).2.1.turn, hgo⟩

end NoRoom

section Work

variable {s t u v : State} {c : IoCmd} {b k : Nat} {B : Berth} {h : HostFace} {D : Tab Drive} {A : Tab ArrRun}
  {rn rnN : Nat} {x : Unit4k} {p : Bound}

/-- A whole block is no read-modify-write of the host's: its plan keeps no block's interlock (R57). -/
theorem OneBlock.locksOf_eq_nil (ho : OneBlock s c k) : locksOf (s.mrd.ns.get c.nsid) false c = [] := by
  unfold locksOf
  rw [ho.cover]
  simp

/-- A write of one whole block goes from its capsule to its work, with a record number drawn for it. -/
theorem exists_atWork_of_oneBlock (ht : s.ioTaken c = true) (ho : OneBlock s c k)
    (hlim : BelowLimit s.ary (s.mrd.ns.get c.nsid).array) :
    ∃ b j h t u v B, AtWork s c [] (s.ary.get (s.mrd.ns.get c.nsid).array).rnNext 1 b j h
      (drawn (s.mrd.ns.get c.nsid).array s.ary) s.drives t u v B := by
  refine exists_atWork_of_plan ht (fun b l h v B hv hB => ?_) (fun _ ho => nomatch ho) fun l => ?_
  · obtain ⟨bank, lane, turn, hplanned⟩ := hv.plan_of_oneBlock hB ho hlim
    exact ⟨bank, lane, 0, turn, hplanned⟩
  · exact (ho.withData l).locksOf_eq_nil

/-- A write of one whole block holds no stripe's interlock. -/
theorem OneBlock.stripesHeld_eq_nil (ho : OneBlock s B.cmd k) (hn : B.ns = s.mrd.ns.get B.cmd.nsid) : s.stripesHeld B = [] := by
  unfold State.stripesHeld
  dsimp only
  rw [hn, ho.planBlks, stripesOf_single]
  simp [whole_single ho.part, Arr.direct, ho.ledgered]

/-- A berth that works on a command without drive operations, its blocks not given to their write path yet. -/
structure Unplaced (s : State) (c : IoCmd) (x : Berth) : Prop where
  plain : x.Plain
  cmd : ∃ l, x.cmd = { c with data := l }
  ns : x.ns = s.mrd.ns.get c.nsid
  ops : x.ops = []
  placed : x.placed = false
  checkpoint : x.checkpoint = 3 ∨ x.checkpoint = 4
  runs : s.engRuns x.owner = true

theorem Working.unplaced (hw : Working s c [] rn rnN B) : Unplaced s c B := by
  obtain ⟨l, hl, -⟩ := hw.cmd
  exact ⟨hw.plain, ⟨l, hl⟩, hw.ns, hw.ops, hw.placed, hw.checkpoint, hw.runs⟩

theorem Unplaced.withMerged (hB : Unplaced s c B) (l : List (Nat × Unit4k)) : Unplaced s c { B with merged := some l } := by
  obtain ⟨⟨hrun, horphan, hfailed, hfirst, hsecond, hrestarted, hmate, hcommit, hheld, hplain⟩, hcmd, hns, hops, hplaced, hcp, hr⟩ := hB
  exact ⟨⟨hrun, horphan, hfailed, hfirst, hsecond, hrestarted, hmate, hcommit, hheld, hplain⟩, hcmd, hns, hops, hplaced, hcp, hr⟩

theorem Unplaced.oneBlock (hB : Unplaced s c B) (ho : OneBlock s c k) (hm : t.mrd = s.mrd) : OneBlock t B.cmd k := by
  obtain ⟨l, hl⟩ := hB.cmd
  rw [hl]
  exact (ho.withData l).congr hm

theorem Unplaced.ns_eq (hB : Unplaced s c B) (hm : t.mrd = s.mrd) : B.ns = t.mrd.ns.get B.cmd.nsid := by
  obtain ⟨l, hl⟩ := hB.cmd
  rw [hm, hl]
  exact hB.ns

/-- The work of a write of one whole block: its new content is made, then given to its write path. -/
theorem Unplaced.workStep_eq (hB : Unplaced s c B) (hs : Stands s (lone b B h A D) t) (ho : OneBlock s c k) :
    t.workStep b = match B.merged with
      | some l => t.placeStep b l
      | none => t.mergeStep b := by
  have hb : t.berth b = B := by rw [hs.berth, lone_berth_same]
  have hone := hB.oneBlock ho hs.mrd
  have hpi : hostPiFail B.ns B.cmd = none := by rw [hB.ns_eq hs.mrd]; exact hostPiFail_of_plain hone.plain _
  have hissue : B.mustIssue = false := by simp [Berth.mustIssue, hB.ops]
  have hready : t.berthReady B = true := by simp [State.berthReady, Berth.opsReady, hB.ops, hB.placed]
  have hreads : t.reconReads B = [] := reconReads_of_good (by rw [hB.ops]; exact fun o ho => nomatch ho)
  unfold State.workStep State.writeStep State.withStripes State.afterReads
  simp only [hb, hone.changes, hpi, hB.placed, hone.stripesHeld_eq_nil (hB.ns_eq hs.mrd), List.foldl_nil, State.stripesFree,
    List.all_nil, if_true, hissue, hready, hreads]
  cases B.merged <;> simp

/-- The new content of one whole block needs nothing read (R57). -/
theorem buildBlks_of_oneBlock (hc : coverOf p.ns c = [(k, true)]) : ∃ x, s.buildBlks c p = (s, .ok [(k, x)]) := by
  unfold State.buildBlks
  dsimp only
  rw [hc]
  exact ⟨_, rfl⟩

theorem Stands.mergeStep_of_oneBlock (hs : Stands s (lone b B h A D) t) (hc : coverOf B.ns B.cmd = [(k, true)]) :
    ∃ x, Stands s (lone b { B with merged := some [(k, x)] } h A D) (t.mergeStep b) := by
  have hb : t.berth b = B := by rw [hs.berth, lone_berth_same]
  obtain ⟨x, hx⟩ := buildBlks_of_oneBlock (s := t) (c := B.cmd) (p := t.boundOf B) hc
  refine ⟨x, ?_⟩
  have heq : t.mergeStep b = t.updBerth b fun y => { y with merged := some [(k, x)], checkpoint := if false then 7 else y.checkpoint } := by
    unfold State.mergeStep
    dsimp only
    rw [hb, hx, hc]
    rfl
  rw [heq, ← lone_put]
  exact hs.updBerth_to (by simp)

/-- No slot is free in the gather buffer. -/
def State.full (s : State) : Prop := s.slotsMax < s.slotsUsed + 1

/-- Without room in the gather buffer a block goes nowhere (R182). -/
theorem putBlks_of_full (hl : p.ns.ledgered = true) (hp : 1 < (s.mrd.arr.get p.ns.array).k * (s.mrd.arr.get p.ns.array).u)
    (hf : s.full) (commit : Bool) (nsid host : Nat) : s.putBlks p commit nsid host [(k, x)] = (s, .wait) := by
  have hwait : ∀ st r, s.putStripe p commit nsid host st r [((s.mrd.arr.get p.ns.array).mapped p.ns.ext k %
      ((s.mrd.arr.get p.ns.array).k * (s.mrd.arr.get p.ns.array).u), x)] = (s, .wait) := fun st r => by
    have hroom : s.slotsMax < s.slotsUsed + 1 := hf
    simp [State.putStripe, whole_single hp, hl, hroom]
  unfold State.putBlks
  simp [List.eraseDups_cons, hwait]

theorem placeStep_of_full (hb : t.berth b = B) (hl : B.ns.ledgered = true)
    (hp : 1 < (t.mrd.arr.get B.ns.array).k * (t.mrd.arr.get B.ns.array).u) (hf : t.full) :
    t.placeStep b [(k, x)] = t.waitFor b .room := by
  unfold State.placeStep
  dsimp only
  rw [hb, putBlks_of_full hl hp hf]

theorem Stands.full_congr (hs : Stands s (lone b B h A D) t) (hf : { s with ary := A }.full) : t.full := by
  have hused : t.slotsUsed = { s with ary := A }.slotsUsed := by rw [State.slotsUsed, hs.ary]; rfl
  have hmax : t.slotsMax = { s with ary := A }.slotsMax := by
    unfold State.slotsMax
    rw [hs.fld (show Fld.LDG_GATHER_CFG_SIZE_GIB.addr % 0x200 ≤ 4 by decide)]
    rfl
  unfold State.full at hf ⊢
  rwa [hused, hmax]

/-- A berth that waits for room is moved by nothing of its own. -/
theorem progress_of_room {d : List Sector} (hw : (t.berth b).state = .wait ∧ (t.berth b).waits = .room) : t.progress b d = t := by
  obtain ⟨hstate, hwaits⟩ := hw
  unfold State.progress
  simp only [hstate, hwaits]

/-- A berth at its work takes it up again. -/
theorem Unplaced.exists_progress_eq {d : List Sector} (hB : Unplaced s c B) (hs : Stands s (lone b B h A D) t) (ho : OneBlock s c k)
    (hh : h.locks = []) (hop : ¬ (c.opcode = 1 ∨ c.opcode = 5)) :
    ∃ v, Stands s (lone b B h A D) v ∧ t.progress b d = v.workStep b := by
  have hlocks : B.locks = [] := by
    rw [Berth.locks, hB.plain.first, hB.ns_eq (t := s) rfl]
    exact (hB.oneBlock ho rfl).locksOf_eq_nil
  have hop' : ¬ (B.cmd.opcode = 1 ∨ B.cmd.opcode = 5) := by
    obtain ⟨l, hl⟩ := hB.cmd
    rw [hl]
    exact hop
  rcases hB.checkpoint with hcp | hcp
  · obtain ⟨v, hv, hstep⟩ := progress_planned (d := d) (b := b) hs (by rw [lone_berth_same]; exact hB.plain)
      (by rw [lone_berth_same]; exact hB.runs) lone_berth_ne hh (by rwa [lone_berth_same]) (by rwa [lone_berth_same])
    rw [lone_berth_same, if_neg hop'] at hstep
    exact ⟨v, hv, hstep⟩
  · exact exists_progress_eq_workStep (b := b) hs (by rw [lone_berth_same]; exact hB.plain) (by rw [lone_berth_same]; exact hB.runs)
      (by rw [lone_berth_same]; exact .inl hcp)

/-- The step that makes the new content of one whole block. -/
theorem AtWork.exists_merged {j : Nat} (hw : AtWork s c [] rn rnN b j h A D t u v B) (ho : OneBlock s c k) :
    ∃ x, Goes b c.data 1 u (u.progress b c.data) ∧
      Stands s (lone b { B with merged := some [(k, x)] } h A D) (u.progress b c.data) := by
  have hB := hw.working.unplaced
  have hmerge : u.progress b c.data = v.mergeStep b := by
    rw [hw.step, hB.workStep_eq hw.stands ho, hw.working.merged]
  obtain ⟨x, hmerged⟩ := hw.stands.mergeStep_of_oneBlock (k := k) (by
    rw [hB.ns_eq hw.stands.mrd]
    exact (hB.oneBlock ho hw.stands.mrd).cover)
  rw [← hmerge] at hmerged
  refine ⟨x, goes_of_stands hw.before hmerged (by rw [lone_berth_same, hB.plain.run]; exact fun h => nomatch h) fun heq => ?_, hmerged⟩
  rw [lone_berth_same, lone_berth_same] at heq
  have := congrArg Berth.merged heq
  rw [hw.working.merged] at this
  cases this

/-- The step that finds no room in the gather buffer (R182). -/
theorem Unplaced.progress_of_full {d : List Sector} (hB : Unplaced s c B) (hs : Stands s (lone b B h A D) t) (ho : OneBlock s c k)
    (hh : h.locks = []) (hop : ¬ (c.opcode = 1 ∨ c.opcode = 5)) (hm : B.merged = some [(k, x)]) (hf : { s with ary := A }.full) :
    Goes b d 1 t (t.progress b d) ∧ Stands s (lone b { B with state := .wait, waits := .room } h A D) (t.progress b d) := by
  obtain ⟨v, hv, hstep⟩ := hB.exists_progress_eq (d := d) hs ho hh hop
  have hone := hB.oneBlock ho hv.mrd
  have hwait : t.progress b d = v.waitFor b .room := by
    rw [hstep, hB.workStep_eq hv ho, hm]
    exact placeStep_of_full (by rw [hv.berth, lone_berth_same]) (by rw [hB.ns_eq hv.mrd]; exact hone.ledgered)
      (by rw [hB.ns_eq hv.mrd]; exact hone.part) (hv.full_congr hf)
  have hlast : Stands s (lone b { B with state := .wait, waits := .room } h A D) (t.progress b d) := by
    rw [hwait, ← lone_put (B := B)]
    exact hv.updBerth_to (by simp)
  refine ⟨goes_of_stands hs hlast (by rw [lone_berth_same, hB.plain.run]; exact fun h => nomatch h) fun heq => ?_, hlast⟩
  rw [lone_berth_same, lone_berth_same] at heq
  have := congrArg Berth.state heq
  rw [hB.plain.run] at this
  cases this

/-- A write of zeroes to one block that finds no room in the gather buffer waits there for good: its row changes no table
and no gather buffer. -/
theorem sameGather_ioRow_of_full (ht : s.ioTaken c = true) (ho : OneBlock s c k) (hop : ¬ (c.opcode = 1 ∨ c.opcode = 5))
    (hlim : BelowLimit s.ary (s.mrd.ns.get c.nsid).array)
    (hf : { s with ary := drawn (s.mrd.ns.get c.nsid).array s.ary }.full) :
    (s.ioRow c).mrd = s.mrd ∧ SameGather s.ary (s.ioRow c).ary := by
  obtain ⟨b, j, h, t, u, v, B, hw⟩ := exists_atWork_of_oneBlock ht ho hlim
  obtain ⟨x, hgo, hmerged⟩ := hw.exists_merged ho
  obtain ⟨hgo', hlast⟩ := (hw.working.unplaced.withMerged [(k, x)]).progress_of_full (d := c.data) hmerged ho hw.faces.locks hop rfl hf
  have hrow : s.ioRow c = (u.progress b c.data).progress b c.data := by
    obtain ⟨m, hm⟩ : ∃ m, 64 = j + 1 + 1 + m := ⟨62 - j, by have := hw.few; omega⟩
    rw [hw.row, hm, ((hw.goes.trans hgo).trans hgo') m]
    exact runOn_of_stuck (progress_of_room (by rw [hlast.berth, lone_berth_same]; exact ⟨rfl, rfl⟩)) m
  rw [hrow, hlast.ary]
  exact ⟨hlast.mrd, sameGather_drawn _ _⟩

end Work

/-! ### A device that holds an array's slots twice after the plan

`State.ledgerRoom` counts the gather slots in use over the listed arrays. On a table of arrays that is not in canonical
form, the change that PLANNED makes to an array's entry lists the array twice, its slots are counted twice, and the write
waits for room (R182). -/

/-- A stripe with `n` gather slots. -/
def stripeOfSlots (n : Nat) : GatherStripe := { (default : GatherStripe) with slots := List.replicate n default }

/-- An array that holds all gather slots of 1 GiB but two. -/
def crowdedRun : ArrRun :=
  { (default : ArrRun) with gather := (List.range 511).map (fun i => (i, stripeOfSlots 512)) ++ [(511, stripeOfSlots 510)] }

/-- An array whose next record number is 9, with one block in the gather buffer. -/
def oneSlotRun : ArrRun :=
  { (default : ArrRun) with
    rnNext := 9, rnLimit := 2 ^ 40
    gather := [(0, { (default : GatherStripe) with slots := [{ (default : GatherSlot) with blk := 5, rn := 8 }] })] }

/-- Three members with parity, their ledger on the first two. -/
def threeMembers : Arr :=
  { mode := .p, n := 3, k := 2, d := false, unit := 2, meta64 := false, pool := none, gen := 5, stripes := 1024, state := .optimal,
    roles := [⟨some 0, .online, .none, 0, 0⟩, ⟨some 3, .online, .none, 0, 0⟩, ⟨some 6, .online, .none, 0, 0⟩], subst := none,
    cursor := 0, scrubPos := 7, pairs := [⟨0, 1, .two, false, true, true⟩] }

/-- A device with a ledgered namespace on array 3 and a queue to it, a gather buffer of 1 GiB, and a table of arrays whose
keys do not rise. -/
def unsortedState : State :=
  let s := State.reset.setFld Fld.LDG_GATHER_CFG_SIZE_GIB 1
  { s with
    mrd := { s.mrd with
      arr := [(3, threeMembers)]
      ns := [(1, { (default : Namespace) with
        present := true, subsys := 2, array := 3, size := 8192, lbafs := [0], ledgered := true, hosts := [7], ext := [0] })] }
    ary := [(5, crowdedRun), (3, oneSlotRun)]
    host := { s.host with
      assoc := [(1, { (default : Assoc) with live := true, host := 7, subsys := 2, adminQ := 4 })]
      queue := [(5, { (default : Queue) with live := true, cntlid := 1, qid := 1, sqsize := 31, authOk := true, home := some 0 })] } }

/-- WRITE_ZEROES of block 0. -/
def zeroBlock : IoCmd := { (default : IoCmd) with qref := 5, cid := 2, opcode := 8, nsid := 1, nlb := 1 }

theorem ioTaken_unsortedState : unsortedState.ioTaken zeroBlock = true := by decide +kernel

theorem ledgerRoom_unsortedState : unsortedState.ledgerRoom (unsortedState.mrd.ns.get 1) 0 = true := by decide +kernel

theorem oneBlock_unsortedState : OneBlock unsortedState zeroBlock 0 where
  changes := rfl
  plain := by decide +kernel
  present := by decide +kernel
  ledgered := by decide +kernel
  cover := by decide +kernel
  part := by decide +kernel
  commit := rfl

theorem belowLimit_unsortedState : BelowLimit unsortedState.ary (unsortedState.mrd.ns.get 1).array := by
  unfold BelowLimit
  decide +kernel

/-- The plan lists array 3 a second time, and with it its slot. -/
theorem full_unsortedState :
    { unsortedState with ary := drawn (unsortedState.mrd.ns.get 1).array unsortedState.ary }.full := by
  unfold State.full
  decide +kernel

/-- The write waits for room, and no slot holds its block. -/
theorem gathered_after_zeroBlock : (unsortedState.ioRow zeroBlock).gathered (unsortedState.mrd.ns.get 1) 0 = none := by
  obtain ⟨hm, hA⟩ := sameGather_ioRow_of_full ioTaken_unsortedState oneBlock_unsortedState (by decide) belowLimit_unsortedState
    full_unsortedState
  rw [gathered_congr hm hA]
  decide +kernel

/-- Refutes O19: nothing in its hypotheses keeps the table of arrays in canonical form. On `unsortedState`, a WRITE_ZEROES of
one block with room for it waits for room for good, and its block never stands in the gather buffer. -/
theorem not_writeCommandsReachTheLedger : ¬ Obligations.WriteCommandsReachTheLedger := by
  unfold Obligations.WriteCommandsReachTheLedger
  rintro ⟨-, hzeroes, -⟩
  obtain ⟨t, ht, -, hdata⟩ := hzeroes zeroBlock unsortedState ioTaken_unsortedState
    ⟨oneBlock_unsortedState.plain, rfl, ledgerRoom_unsortedState⟩
  have hrow : unsortedState.ioRow zeroBlock = t := Host.Outcome.next.inj ht
  have hnone : t.gathered (unsortedState.mrd.ns.get zeroBlock.nsid) zeroBlock.slba = none := hrow ▸ gathered_after_zeroBlock
  rw [hnone] at hdata
  cases hdata

end Sys2Proof.Machine

/-! An empty queue: the step of device time (R43, R362, R419). -/

namespace Sys2Proof.Machine

/-- `t` is `s` but for the registers, the tally and the wharf: what a step of device time may touch once its clock has
moved. -/
structure OnlyMeters (s t : State) : Prop where
  now : t.now = s.now
  pending : t.pending = s.pending
  mrd : t.mrd = s.mrd
  ary : t.ary = s.ary
  drives : t.drives = s.drives
  host : t.host = s.host
  out : t.out = s.out
  res : t.res = s.res

namespace OnlyMeters

variable {s t u : State}

theorem refl (s : State) : OnlyMeters s s := ⟨rfl, rfl, rfl, rfl, rfl, rfl, rfl, rfl⟩

theorem trans (h : OnlyMeters s t) (h' : OnlyMeters t u) : OnlyMeters s u :=
  ⟨h'.now.trans h.now, h'.pending.trans h.pending, h'.mrd.trans h.mrd, h'.ary.trans h.ary, h'.drives.trans h.drives,
    h'.host.trans h.host, h'.out.trans h.out, h'.res.trans h.res⟩

theorem ite (p : Prop) [Decidable p] (h : OnlyMeters s t) (h' : OnlyMeters s u) : OnlyMeters s (if p then t else u) := by
  split
  · exact h
  · exact h'

theorem foldl {β : Type} (f : State → β → State) (hf : ∀ t x, OnlyMeters t (f t x)) (l : List β) (s : State) :
    OnlyMeters s (l.foldl f s) :=
  foldl_keeps (OnlyMeters s) f (fun t x h => h.trans (hf t x)) l s (refl s)

theorem tally (s : State) (c i n : Nat) : OnlyMeters s (s.tally c i n) :=
  ⟨by simp, by simp, by simp, by simp, by simp, by simp, by simp, by simp⟩

theorem updTal (s : State) (f : Tally → Tally) : OnlyMeters s (s.updTal f) := ⟨rfl, rfl, rfl, rfl, rfl, rfl, rfl, rfl⟩

theorem updWhf (s : State) (f : Wharf → Wharf) : OnlyMeters s (s.updWhf f) := ⟨rfl, rfl, rfl, rfl, rfl, rfl, rfl, rfl⟩

theorem setFld (s : State) (f : Fld) (v : Nat) : OnlyMeters s (s.setFld f v) := ⟨rfl, rfl, rfl, rfl, rfl, rfl, rfl, rfl⟩

theorem tallyCycles (s : State) (n : Nat) : OnlyMeters s (s.tallyCycles n) :=
  foldl _ (fun t _ => ite _ (updTal t _) (refl t)) _ _

theorem writeback (s : State) (x : WLine) (m : Bool) : OnlyMeters s (s.writeback x m) := (tally _ _ _ _).trans (updWhf _ _)

theorem drainLighter (s : State) : OnlyMeters s s.drainLighter := by
  unfold State.drainLighter
  split
  · exact refl s
  · exact ite _ (updWhf _ _) (ite _ (refl s) ((updWhf _ _).trans (writeback _ _ _)))

theorem walkSet (s : State) : OnlyMeters s s.walkSet := by
  unfold State.walkSet
  dsimp only
  split
  · exact ite _ (refl s) ((updWhf _ _).trans (writeback _ _ _))
  · exact ite _ (refl s) ((updWhf _ _).trans (setFld _ _ _))

theorem walkTick (s : State) : OnlyMeters s s.walkTick :=
  ite _ (foldl _ (fun t _ => (ite _ (walkSet t) (refl t)).trans (drainLighter _)) _ _) (refl s)

/-- A step of device time moves the clock by 40 ns (R419); the rest of what it does is metering and the cleaning walk. -/
theorem passTime (s : State) : OnlyMeters { s with now := s.now + 40 } s.passTime :=
  ((tally _ _ _ _).trans (tallyCycles _ _)).trans ((ite _ (tally _ _ _ _) (refl _)).trans (ite _ (walkTick _) (refl _)))

end OnlyMeters

/-- Where no slot holds an admin command, none goes on (R43). -/
theorem slotsGo_of_no_slot {s : State} (h : ∀ e ∈ s.host.assoc, e.2.slot = none) : s.slotsGo = s := by
  have hkeys : (s.host.assoc.keysWhere fun _ a => a.live && a.slot.isSome) = [] := by
    rw [Tab.keysWhere, List.map_eq_nil_iff, List.filter_eq_nil_iff]
    intro e he
    simp [h e he]
  rw [State.slotsGo, hkeys, List.foldl_nil]

theorem step_of_nothing_pending {s : State} (h : s.pending = []) : step s = .next s.idleStep := by
  unfold step; rw [h]

theorem idleStep_of_started {s t : State} (h : s.startWaiting = some t) : s.idleStep = t := by
  unfold State.idleStep; rw [h]

theorem idleStep_of_none {s : State} (h : s.startWaiting = none) : s.idleStep = s.passTime.slotsGo := by
  unfold State.idleStep; rw [h]

/-- Settles O2: a waiting manifest starts, and where none does the step is one of device time and of the admin slots. -/
theorem anEmptyQueueLetsTimePass : Obligations.AnEmptyQueueLetsTimePass := by
  unfold Obligations.AnEmptyQueueLetsTimePass
  refine ⟨fun s hp hw => ?_, fun s hp hw hslot => ?_, fun s hp hw => ?_⟩
  · obtain ⟨t, ht⟩ := Option.isSome_iff_exists.mp hw
    exact ⟨t, ht, by rw [step_of_nothing_pending hp, idleStep_of_started ht]⟩
  · have hm := OnlyMeters.passTime s
    refine ⟨s.passTime, ?_, hm.now, hm.pending.trans hp, hm.mrd, hm.ary, hm.drives, hm.host, hm.out, fun _ => hm.res⟩
    rw [step_of_nothing_pending hp, idleStep_of_none hw, slotsGo_of_no_slot (by rw [hm.host]; exact hslot)]
  · rw [step_of_nothing_pending hp, idleStep_of_none hw]

end Sys2Proof.Machine

/-! A feed swap drill that runs while the idle policy enters P1 (R308, R342). -/

namespace Sys2Proof.Machine

/-- What has left the device once a command is done. -/
def sentBy (r : Result) : List Out :=
  match r with
  | .next t => t.out
  | _ => []

theorem sentBy_eq {r : Result} {t : State} (h : r = .next t) : sentBy r = t.out := by rw [h]; rfl

/-- A device that serves in P0 after nine quiet intervals, with a feed swap drill under way that a FEED_DRILL manifest on
the mailbox waits for. -/
def drillingState : State :=
  { (withFld (withFld w0 Fld.TWP_IDLE_CFG_P1_EN 1) Fld.WIR_SHELF_DRILL_RUN 1).updMft fun m =>
      { m with running := [⟨hM, 0x0722, [(.feed, 0)], false⟩] } with
    pwr := { (default : Pwr) with lowIntervals := 9 } }

theorem drillingState_serves : drillingState.rst.phase = .serving ∧ drillingState.isStandby = false ∧
    drillingState.pwr.stage = .none ∧ drillingState.cur = 0 ∧ drillingState.pwr.waiting = [] := by
  and_intros <;> decide +kernel

theorem drillingState_quiet : drillingState.flag Fld.TWP_IDLE_CFG_P1_EN = true ∧
    0 < drillingState.fld Fld.TWP_IDLE_CFG_P1_RATE * 100 ∧ 9 ≤ drillingState.pwr.lowIntervals ∧
    drillingState.refuser 1 = none := by
  and_intros <;> decide +kernel

/-- The entry to P1 aborts the drill, and the receipt of the FEED_DRILL that waited for it leaves (R308). -/
theorem sentBy_idlePolicyEval_drillingState :
    sentBy (exec (.idlePolicyEval 0) drillingState) = [Out.receipt (receiptOf hM 0x0722 .success (params [beBytes 1 4]))] := by
  decide +kernel

/-- Refutes O42: its clause on the idle policy says that nothing leaves the device as the tenth quiet interval enters P1.
On `drillingState` the entry ends the running drill, and the receipt of its manifest leaves. -/
theorem not_powerStateRequestsEntriesAndExits : ¬ Obligations.PowerStateRequestsEntriesAndExits := by
  unfold Obligations.PowerStateRequestsEntriesAndExits
  rintro ⟨-, -, -, -, -, -, -, -, -, -, -, hidle, -⟩
  obtain ⟨t, ht, -, -, hout, -⟩ := hidle 0 drillingState drillingState_serves drillingState_quiet
  have hsent := sentBy_eq ht
  rw [sentBy_idlePolicyEval_drillingState, hout] at hsent
  cases hsent

end Sys2Proof.Machine

/-! Write data with a bad digest for a berth that the table of berths lists twice (R92). -/

namespace Sys2Proof.Machine

/-- Berth 0 once as a command of TCP connection 0 that waits for its data, and a second time, held for a block: the table is
not in its canonical form, and the second entry is one that no read of berth 0 shows. -/
def twiceListedState : State :=
  { w0 with brg := { w0.brg with berth :=
    [(0, { (default : Berth) with state := .wait, waits := .data, cmd := { (default : IoCmd) with qref := 2 ^ 31 } }),
      (0, { (default : Berth) with state := .held, waits := .blocks })] } }

theorem twiceListedState_waits : (twiceListedState.berth (0 : Fin 262144)).state = .wait ∧
    (twiceListedState.berth (0 : Fin 262144)).waits = .data ∧ (twiceListedState.berth (0 : Fin 262144)).orphan = false ∧
    isTcp (twiceListedState.berth (0 : Fin 262144)).cmd.qref = true ∧
    (twiceListedState.berth (0 : Fin 262144)).mate = none := by
  and_intros <;> decide +kernel

/-- The command ends, and the look for held berths whose blocks are free then finds the second entry and puts berth 0 back
in RUN. -/
theorem finishBerth_twiceListedState :
    ((twiceListedState.finishBerth 0 St.transientTransport).berth 0).state = .run := by
  decide +kernel

theorem exec_h2cData_twiceListedState :
    exec (.h2cData 0 [] false) twiceListedState = .next (twiceListedState.finishBerth 0 St.transientTransport) := by
  obtain ⟨hstate, hwaits, horphan, htcp, -⟩ := twiceListedState_waits
  change execH2cData 0 [] false twiceListedState = _
  simp only [execH2cData, htcp, horphan, hstate, hwaits, Bool.not_true, Bool.false_eq_true, if_false, and_self, if_true]
  rfl

/-- Refutes O27: nothing in its hypotheses keeps the table of berths in canonical form. On `twiceListedState` the berth
whose data came with a bad digest is in RUN afterwards, and not DONE. -/
theorem not_connectionsOpenAndEnd : ¬ Obligations.ConnectionsOpenAndEnd := by
  unfold Obligations.ConnectionsOpenAndEnd
  rintro ⟨-, -, -, -, -, -, -, -, -, -, -, hdigest, -⟩
  obtain ⟨t, ht, hdone, -⟩ := hdigest 0 [] twiceListedState twiceListedState_waits
  have hrow : twiceListedState.finishBerth 0 St.transientTransport = t :=
    Host.Outcome.next.inj (exec_h2cData_twiceListedState.symm.trans ht)
  have hrun := finishBerth_twiceListedState
  rw [hrow] at hrun
  exact absurd (hrun.symm.trans hdone) (by decide)

end Sys2Proof.Machine

/-! What messages to hosts and frames of the ports leave as it was (R44, R48, R257). -/

namespace Sys2Proof.Machine

/-- `t` is `s` after messages to hosts, frames of the ports, or a change of the ports' links: what has left the device has
grown, what transports, tallies, associations and queues note of it has changed, and of the registers only those from
offset `o` of a quad's part on. -/
structure Told (o : Nat) (s t : State) : Prop where
  frame : t = { s with regs := t.regs, tug := t.tug, tal := t.tal, out := t.out, free := t.free, host := t.host }
  host : t.host = { s.host with assoc := t.host.assoc, queue := t.host.queue }
  reg : ∀ a, a % 0x20000 < o → t.reg a = s.reg a
  out : s.out <+: t.out

namespace Told

variable {o : Nat} {s t u : State}

theorem mrd (h : Told o s t) : t.mrd = s.mrd := (congrArg State.mrd h.frame :)
theorem mft (h : Told o s t) : t.mft = s.mft := (congrArg State.mft h.frame :)
theorem net (h : Told o s t) : t.net = s.net := (congrArg State.net h.frame :)
theorem drives (h : Told o s t) : t.drives = s.drives := (congrArg State.drives h.frame :)
theorem brg (h : Told o s t) : t.brg = s.brg := (congrArg State.brg h.frame :)
theorem pair (h : Told o s t) : t.pair = s.pair := (congrArg State.pair h.frame :)
theorem log (h : Told o s t) : t.host.log = s.host.log := (congrArg HostFace.log h.host :)

theorem refl (s : State) : Told o s s := ⟨rfl, rfl, fun _ _ => rfl, List.prefix_refl _⟩

theorem trans (h : Told o s t) (h' : Told o t u) : Told o s u := by
  refine ⟨?_, ?_, fun a ha => (h'.reg a ha).trans (h.reg a ha), h.out.trans h'.out⟩
  · exact h'.frame.trans (congrArg (fun v : State =>
      { v with regs := u.regs, tug := u.tug, tal := u.tal, out := u.out, free := u.free, host := u.host }) h.frame)
  · exact h'.host.trans (congrArg (fun v : HostFace => { v with assoc := u.host.assoc, queue := u.host.queue }) h.host)

theorem ite (p : Prop) [Decidable p] (h : Told o s t) (h' : Told o s u) : Told o s (if p then t else u) := by
  split
  · exact h
  · exact h'

theorem foldl {β : Type} (f : State → β → State) (hf : ∀ t x, Told o t (f t x)) (l : List β) (s : State) :
    Told o s (l.foldl f s) :=
  foldl_keeps (Told o s) f (fun t x h => h.trans (hf t x)) l s (refl s)

theorem emit (s : State) (x : Out) : Told o s (s.emit x) := ⟨rfl, rfl, fun _ _ => rfl, List.prefix_append _ _⟩

theorem tick (s : State) : Told o s s.tick := ⟨rfl, rfl, fun _ _ => rfl, List.prefix_refl _⟩

theorem updTug (s : State) (f : Tugs → Tugs) : Told o s (s.updTug f) := ⟨rfl, rfl, fun _ _ => rfl, List.prefix_refl _⟩

theorem updTal (s : State) (f : Tally → Tally) : Told o s (s.updTal f) := ⟨rfl, rfl, fun _ _ => rfl, List.prefix_refl _⟩

theorem updQueue (s : State) (q : Nat) (f : Queue → Queue) : Told o s (s.updQueue q f) :=
  ⟨rfl, rfl, fun _ _ => rfl, List.prefix_refl _⟩

theorem updAssoc (s : State) (c : Nat) (f : Assoc → Assoc) : Told o s (s.updAssoc c f) :=
  ⟨rfl, rfl, fun _ _ => rfl, List.prefix_refl _⟩

theorem tally (s : State) (c i n : Nat) : Told o s (s.tally c i n) :=
  foldl _ (fun t _ => updTal t _) _ s

theorem setFld (s : State) {f : Fld} (hf : o ≤ f.addr % 0x20000) (v : Nat) : Told o s (s.setFld f v) :=
  ⟨rfl, rfl, fun _ ha => setFld_reg_ne _ _ _ fun h => absurd ha (by rw [← h]; exact Nat.not_lt.mpr hf), List.prefix_refl _⟩

/-- The counters of the ports lie from offset 1000h of their quad's part on (Table 11-5). -/
theorem netCount (s : State) (p k : Nat) {n : Nat} (hn : n < 64) : Told 0x1000 s (s.netCount p n k) := by
  have hlo : 0x1000 ≤ (if p = 128 then Fld.NET_MCNT_LO_COUNT n else
      Fld.NET_CNT_LO_COUNT (quadOf p) (laneOf p) n).addr % 0x20000 := by
    split
    · simp only [Fld.NET_MCNT_LO_COUNT, Reg.NET_MCNT_LO]; omega
    · simp only [Fld.NET_CNT_LO_COUNT, Reg.NET_CNT_LO, laneOf]; omega
  have hhi : 0x1000 ≤ (if p = 128 then Fld.NET_MCNT_HI_COUNT n else
      Fld.NET_CNT_HI_COUNT (quadOf p) (laneOf p) n).addr % 0x20000 := by
    split
    · simp only [Fld.NET_MCNT_HI_COUNT, Reg.NET_MCNT_HI]; omega
    · simp only [Fld.NET_CNT_HI_COUNT, Reg.NET_CNT_HI, laneOf]; omega
  exact ((setFld s hlo _).trans (setFld _ hhi _)).trans (ite _ (tally _ _ _ _) (refl _))

theorem sentFrame (s : State) (p len : Nat) : Told 0x1000 s (s.sentFrame p len) :=
  (netCount s p 1 (by decide)).trans (netCount _ p len (by decide))

theorem sendNet (s : State) (p : Nat) (v : Option Nat) (x : NetOut) : Told 0x1000 s (s.sendNet p v x) :=
  (emit _ _).trans (sentFrame _ _ _)

theorem emitPkt (s : State) (i : Nat) (p : TxPkt) (r : Bool) : Told 0x1000 s (s.emitPkt i p r) :=
  (ite (r = true) (netCount s _ _ (by decide)) (refl s)).trans (emit _ _)

theorem pump (s : State) (i : Nat) : Told 0x1000 s (s.pump i) :=
  (updTug _ _).trans (ite _ (refl _) ((foldl _ (fun t p => emitPkt t i p false) _ _).trans (tally _ _ _ _)))

theorem sendOn (s : State) (i n : Nat) (f : Bool) (v : Option Nat) (r : Option ReadTag) : Told 0x1000 s (s.sendOn i n f v r) :=
  ite _ ((updTug _ _).trans (pump _ _)) (refl _)

theorem emitSeg (s : State) (c : Nat) (g : TxSeg) : Told 0x1000 s (s.emitSeg c g) :=
  (((emit _ _).trans (tally _ _ _ _)).trans (ite (g.again = true) (netCount _ _ _ (by decide)) (refl _))).trans
    (ite _ (updTug _ _) (refl _))

theorem stream (s : State) (c n : Nat) : Told 0x1000 s (s.stream c n) :=
  (updTug _ _).trans ((updTug _ _).trans (foldl _ (fun t g => emitSeg t c g) _ _))

theorem sendPdu (s : State) (c n : Nat) : Told 0x1000 s (s.sendPdu c n) :=
  ite _ ((emit _ _).trans (stream _ _ _)) (refl _)

theorem sendResp (s : State) (q : Nat) (v : Option Nat) : Told 0x1000 s (s.sendResp q v) :=
  ite _ (sendPdu _ _ _) (sendOn _ _ _ _ _ _)

theorem sendBytes (s : State) (q n : Nat) : Told 0x1000 s (s.sendBytes q n) :=
  ite _ (sendPdu _ _ _) (sendOn _ _ _ _ _ _)

theorem respond (s : State) (q cid : Nat) (st : Status) : Told 0x1000 s (s.respond q cid st) :=
  ((emit _ _).trans (sendResp _ _ _)).trans (updQueue _ _ _)

theorem postAen (s : State) (c type info page : Nat) : Told 0x1000 s (s.postAen c type info page) := by
  unfold State.postAen
  dsimp only
  split
  · exact ite _ ((updAssoc _ _ _).trans (respond _ _ _ _)) (refl _)
  · exact refl _

theorem discoveryNote (t s : State) : Told 0x1000 t (t.discoveryNote s) := foldl _ (fun u k => postAen u k _ _ _) _ _

theorem latencyNote (t s : State) : Told 0x1000 t (t.latencyNote s) :=
  (tick t).trans (foldl _ (fun u k => postAen u k _ _ _) _ _)

theorem nsChanged (s : State) (nsid : Nat) (hosts : List Nat) : Told 0x1000 s (s.nsChanged nsid hosts) :=
  foldl _ (fun u k => (updAssoc u k _).trans (ite _ (postAen _ k _ _ _) (refl _))) _ _

/-- Operations that a larger part of the registers stays clear of. -/
theorem mono {o' : Nat} (h : Told o s t) (ho : o' ≤ o) : Told o' s t :=
  ⟨h.frame, h.host, fun a ha => h.reg a (Nat.lt_of_lt_of_le ha ho), h.out⟩

end Told

end Sys2Proof.Machine

/-! The size of the moored image after moored changes (R382), and the completion of manifests that make them. -/

namespace Sys2Proof.Machine

section Tables

variable {α : Type}

theorem Tab.length_insert_le (t : Tab α) (k : Nat) (v : α) : (Tab.insert t k v).length ≤ t.length + 1 := by
  induction t with
  | nil => exact Nat.le_refl _
  | cons e t ih =>
    simp only [Tab.insert]
    split
    · simp
    · split <;> simp [ih]

theorem Tab.sum_map_insert_le (w : Nat × α → Nat) (t : Tab α) (k : Nat) (v : α) :
    ((Tab.insert t k v).map w).sum ≤ (t.map w).sum + w (k, v) := by
  induction t with
  | nil => simp [Tab.insert]
  | cons e t ih =>
    obtain ⟨j, x⟩ := e
    simp only [Tab.insert]
    split
    · simp only [List.map_cons, List.sum_cons]; omega
    · split
      · simp only [List.map_cons, List.sum_cons]; omega
      · simp only [List.map_cons, List.sum_cons]; omega

theorem Tab.length_erase_le (t : Tab α) (k : Nat) : (Tab.erase t k).length ≤ t.length := List.length_filter_le _ _

theorem Tab.sum_map_erase_le (w : Nat × α → Nat) (t : Tab α) (k : Nat) :
    ((Tab.erase t k).map w).sum ≤ (t.map w).sum :=
  (List.filter_sublist.map w).sum_le_sum (fun _ _ => Nat.zero_le _)

variable [Inhabited α] [DecidableEq α]

theorem Tab.set_default (t : Tab α) (k : Nat) : t.set k default = Tab.erase t k := if_pos rfl

theorem Tab.length_set_le (t : Tab α) (k : Nat) (v : α) : (t.set k v).length ≤ t.length + 1 := by
  unfold Tab.set Tab.setD
  split
  · exact Nat.le_succ_of_le (Tab.length_erase_le t k)
  · exact Tab.length_insert_le t k v

theorem Tab.sum_map_set_le (w : Nat × α → Nat) (t : Tab α) (k : Nat) (v : α) :
    ((t.set k v).map w).sum ≤ (t.map w).sum + w (k, v) := by
  unfold Tab.set Tab.setD
  split
  · exact Nat.le_trans (Tab.sum_map_erase_le w t k) (Nat.le_add_right _ _)
  · exact Tab.sum_map_insert_le w t k v

end Tables

/-- Records and runs of extents that a moored change can add to the image (R382). -/
def MoorRec.room : MoorRec → Nat
  | .ns _ n => 1 + extRuns n.ext
  | _ => 1

/-- The registers' moored fields are outside the tables. -/
theorem moorAs_mrd (s : State) (r : MoorRec) (p : Bool) : (s.moorAs r p).mrd = r.toTables s.mrd := by simp [State.moorAs]

@[simp] theorem moor_mrd (s : State) (r : MoorRec) : (s.moor r).mrd = r.toTables s.mrd := moorAs_mrd s r _

/-- The image's size is the tables' alone. -/
theorem moorBytes_congr {s t : State} (h : t.mrd = s.mrd) : t.moorBytes = s.moorBytes := by simp [State.moorBytes, h]

theorem moorBytes_moorAs_le (s : State) (r : MoorRec) (p : Bool) : (s.moorAs r p).moorBytes ≤ s.moorBytes + 40 * r.room := by
  simp only [State.moorBytes, moorAs_mrd]
  cases r with
  | ns i n =>
    have hl := Tab.length_set_le s.mrd.ns i n
    have hw := Tab.sum_map_set_le (fun e : Nat × Namespace => extRuns e.2.ext) s.mrd.ns i n
    simp only [MoorRec.toTables, MoorRec.room] at hl hw ⊢
    omega
  | host i e => have hl := Tab.length_set_le s.mrd.hosts i e; simp only [MoorRec.toTables, MoorRec.room]; omega
  | subsys i e => have hl := Tab.length_set_le s.mrd.subsys i e; simp only [MoorRec.toTables, MoorRec.room]; omega
  | arr i e => have hl := Tab.length_set_le s.mrd.arr i e; simp only [MoorRec.toTables, MoorRec.room]; omega
  | marks i l => have hl := Tab.length_set_le s.mrd.marks i l; simp only [MoorRec.toTables, MoorRec.room]; omega
  | pool i l => have hl := Tab.length_set_le s.mrd.pools i l; simp only [MoorRec.toTables, MoorRec.room]; omega
  | key i e => have hl := Tab.length_set_le s.mrd.keys i e; simp only [MoorRec.toTables, MoorRec.room]; omega
  | mkey i k => have hl := Tab.length_set_le s.mrd.mkeys i k; simp only [MoorRec.toTables, MoorRec.room]; omega
  | addr i e => have hl := Tab.length_set_le s.mrd.addr i e; simp only [MoorRec.toTables, MoorRec.room]; omega
  | acl i e => have hl := Tab.length_set_le s.mrd.acl i e; simp only [MoorRec.toTables, MoorRec.room]; omega
  | disc i v => have hl := Tab.length_set_le s.mrd.disc i v; simp only [MoorRec.toTables, MoorRec.room]; omega
  | src i e => have hl := Tab.length_set_le s.mrd.src i e; simp only [MoorRec.toTables, MoorRec.room]; omega
  | reg a v => simp only [MoorRec.toTables, MoorRec.room]; omega
  | wrapped a i b => simp only [MoorRec.toTables, MoorRec.room]; omega
  | pairKey k => simp only [MoorRec.toTables, MoorRec.room]; omega
  | partner n => simp only [MoorRec.toTables, MoorRec.room]; omega

theorem moorBytes_moor_le (s : State) (r : MoorRec) : (s.moor r).moorBytes ≤ s.moorBytes + 40 * r.room :=
  moorBytes_moorAs_le s r _

theorem moorBytes_of_imageRoom {s : State} {n : Nat} (h : s.imageRoom n = true) : s.moorBytes + 40 * n ≤ 20 * 2 ^ 20 :=
  of_decide_eq_true h

/-- An effect that adds no more to the image than there is room for is made (R382). -/
theorem outgrows_of_imageRoom {s u t : State} {n : Nat} (h : s.imageRoom n = true) (ht : t.moorBytes ≤ s.moorBytes + 40 * n) :
    u.outgrows t = false :=
  outgrows_small (Nat.le_trans ht (moorBytes_of_imageRoom h))

/-- A state that differs in its manifest sessions alone. -/
def State.inSession (s : State) (l : Tab Session) : State := s.updMft fun m => { m with sessions := l }

section Completion

variable {s : State} {h : Hdr} {op : Nat} {objs : List (ObjKind × Nat)}

/-- The completion of a manifest that has changed the state to `f s` before its hosts are told: the receipt says SUCCESS, and
what holds of the state whatever is answered holds at the end. -/
theorem manifest_changed (i : ManCmd) {body : State → MRes} (ps : List (List Byte)) (P : State → Prop)
    (f : State → State) (o : Nat) (ht : s.takes h op objs = true)
    (hb : ∀ l, ∃ t, body (s.inSession l) = .ok t ps ∧ Told o (f (s.inSession l)) t)
    (hd : ∀ l, (f (s.inSession l)).mft.mboxDrop = s.mft.mboxDrop)
    (hroom : ∀ l t, t.mrd = (f (s.inSession l)).mrd → s.outgrows t = false)
    (hP : ∀ l t, Told o (f (s.inSession l)) t → ∀ q st ps, P (t.answerSince q h op st ps)) :
    (s.manifest i h op objs body).answered h op .success ps ∧ P (s.manifest i h op objs body) :=
  manifest_ok i ps P ht fun l => by
    obtain ⟨t, hbody, htold⟩ := hb l
    exact ⟨t, hbody, by rw [htold.mft, hd l], hroom l t htold.mrd, hP l t htold⟩

/-- The completion of a manifest whose effect is one moored change, of which hosts may be told. -/
theorem manifest_moored (i : ManCmd) {body : State → MRes} (ps : List (List Byte)) (P : State → Prop) (r : MoorRec)
    (o : Nat) (ht : s.takes h op objs = true) (hroom : s.imageRoom r.room = true)
    (hb : ∀ l, ∃ t, body (s.inSession l) = .ok t ps ∧ Told o ((s.inSession l).moor r) t)
    (hP : ∀ l t, Told o ((s.inSession l).moor r) t → ∀ q st ps, P (t.answerSince q h op st ps)) :
    (s.manifest i h op objs body).answered h op .success ps ∧ P (s.manifest i h op objs body) :=
  manifest_changed i ps P (fun u => u.moor r) o ht hb (fun l => by simp [State.inSession])
    (fun l t hmrd => outgrows_of_imageRoom hroom (by
      rw [moorBytes_congr hmrd]; exact moorBytes_moor_le (s.inSession l) r)) hP

end Completion

end Sys2Proof.Machine

/-! Manifests on ports and addresses (11_network_ports.md, R251 to R263). -/

namespace Sys2Proof.Machine

/-! ## Links and counters of a quad -/

theorem Told.foldl_mem {o : Nat} {β : Type} (f : State → β → State) (l : List β) (hf : ∀ x ∈ l, ∀ t, Told o t (f t x))
    (s : State) : Told o s (l.foldl f s) := by
  induction l generalizing s with
  | nil => exact .refl s
  | cons x l ih => exact (hf x List.mem_cons_self s).trans (ih (fun y hy => hf y (List.mem_cons_of_mem _ hy)) _)

theorem Told.clearCounts (s : State) (q : Nat) : Told 0x1000 s (s.clearCounts q) := by
  refine .foldl_mem _ _ (fun l hl t => .foldl_mem _ _ (fun n hn u => ?_) t) s
  have hl4 : l < 4 := List.mem_range.mp hl
  have hn64 : n < 64 := List.mem_range.mp hn
  have hlo : 0x1000 ≤ (Fld.NET_CNT_LO_COUNT q l n).addr % 0x20000 := by
    simp only [Fld.NET_CNT_LO_COUNT, Reg.NET_CNT_LO]; omega
  have hhi : 0x1000 ≤ (Fld.NET_CNT_HI_COUNT q l n).addr % 0x20000 := by
    simp only [Fld.NET_CNT_HI_COUNT, Reg.NET_CNT_HI]; omega
  exact (Told.setFld u hlo 0).trans (.setFld _ hhi 0)

/-- A port's status register lies in its quad's part past the quad's own configuration. -/
theorem portStat_addr (p : Nat) : 4 ≤ Reg.NET_PORT_STAT (quadOf p) (laneOf p) % 0x20000 := by
  simp only [Reg.NET_PORT_STAT, laneOf]; omega

theorem Told.downPaths (o : Nat) (s : State) (p : Nat) : Told o s (s.downPaths p) := .updTug s _

theorem Told.linkDown (s : State) (p : Nat) : Told 4 s (s.linkDown p) := by
  let F (f : Nat → Nat → Fld) : Fld := f (quadOf p) (laneOf p)
  have h : ∀ (u : State) (f : Fld), f.addr = Reg.NET_PORT_STAT (quadOf p) (laneOf p) → Told 4 u (u.setFld f 0) :=
    fun u f hf => .setFld u (hf ▸ portStat_addr p) 0
  have hdown : Told 4 s (if s.flag (Fld.NET_PORT_STAT_LINK (quadOf p) (laneOf p)) then (s.netCount p 21 1).emit (.net p .down)
      else s) := .ite _ (((Told.netCount s p 1 (by decide)).mono (by decide)).trans (.emit _ _)) (.refl s)
  exact hdown.trans <| (h _ (F Fld.NET_PORT_STAT_LINK) rfl).trans <| (h _ (F Fld.NET_PORT_STAT_PFC_RX) rfl).trans <|
    (h _ (F Fld.NET_PORT_STAT_PAUSED_RX) rfl).trans <| (h _ (F Fld.NET_PORT_STAT_XOFF_TX) rfl).trans <|
    (h _ (F Fld.NET_PORT_STAT_LPI_TX) rfl).trans <| (h _ (F Fld.NET_PORT_STAT_LPI_RX) rfl).trans (.downPaths _ _ p)

theorem Told.retrain (s : State) (q : Nat) : Told 4 s (s.retrain q) := by
  have htrain : 4 ≤ (Fld.NET_QUAD_STAT_TRAINING q).addr % 0x20000 := by
    simp only [Fld.NET_QUAD_STAT_TRAINING, Reg.NET_QUAD_STAT]; omega
  exact (Told.foldl _ (fun t l => Told.linkDown t (4 * q + l)) _ s).trans ((Told.setFld _ htrain 1).trans (.emit _ _))

/-- The threshold set is read from registers of the low part of a quad's and its ports' registers (R258). -/
theorem thrSum_congr {s t : State} (q : Nat) (h : ∀ a, a % 0x100 < 0x40 → t.reg a = s.reg a) : t.thrSum q = s.thrSum q := by
  have hf : ∀ f : Fld, f.addr % 0x100 < 0x40 → t.fld f = s.fld f := fun f hf => by rw [State.fld, h _ hf]; rfl
  have hcfg : ∀ l lo w, t.fld ⟨Reg.NET_PORT_CFG q l, lo, w⟩ = s.fld ⟨Reg.NET_PORT_CFG q l, lo, w⟩ :=
    fun l lo w => hf _ (by simp only [Reg.NET_PORT_CFG]; omega)
  have hthr : ∀ l c, c < 8 → ∀ lo w, t.fld ⟨Reg.NET_PFC_THR q l c, lo, w⟩ = s.fld ⟨Reg.NET_PFC_THR q l c, lo, w⟩ :=
    fun l c hc lo w => hf _ (by simp only [Reg.NET_PFC_THR]; omega)
  have hmode : ∀ p, t.portHere p = s.portHere p := fun p => by
    rw [State.portHere, hf _ (by simp only [Fld.NET_QUAD_CFG_MODE, Reg.NET_QUAD_CFG]; omega)]; rfl
  have hone : ∀ l c, c < 8 → t.fld (Fld.NET_PFC_THR_XOFF q l c) + t.fld (Fld.NET_PFC_THR_HEAD q l c) =
      s.fld (Fld.NET_PFC_THR_XOFF q l c) + s.fld (Fld.NET_PFC_THR_HEAD q l c) :=
    fun l c hc => congrArg₂ _ (hthr l c hc _ _) (hthr l c hc _ _)
  have hsum : ∀ l (p : Nat → Bool),
      (((List.range 8).filter p).map fun c => t.fld (Fld.NET_PFC_THR_XOFF q l c) + t.fld (Fld.NET_PFC_THR_HEAD q l c)) =
      ((List.range 8).filter p).map fun c => s.fld (Fld.NET_PFC_THR_XOFF q l c) + s.fld (Fld.NET_PFC_THR_HEAD q l c) :=
    fun l p => List.map_congr_left fun c hc => hone l c (List.mem_range.mp (List.mem_filter.mp hc).1)
  have hen : ∀ l, t.flag (Fld.NET_PORT_CFG_EN q l) = s.flag (Fld.NET_PORT_CFG_EN q l) := fun l => congrArg (· == 1) (hcfg l _ _)
  have hpause : ∀ l, t.flag (Fld.NET_PORT_CFG_PAUSE_EN q l) = s.flag (Fld.NET_PORT_CFG_PAUSE_EN q l) :=
    fun l => congrArg (· == 1) (hcfg l _ _)
  have hpfc : ∀ l, t.fld (Fld.NET_PORT_CFG_PFC_EN q l) = s.fld (Fld.NET_PORT_CFG_PFC_EN q l) := fun l => hcfg l _ _
  simp only [State.thrSum, hen, hmode, hpfc, hpause, hsum, hone _ 0 (by decide)]

/-! ## QUAD_SET -/

/-- A register write reads and writes no session. -/
theorem inSession_cfgWrite_reg (s : State) (l : Tab Session) {a : Nat} {r : RegDef} (hr : findReg a = some r) (v : Word32)
    (x : Nat) : ((s.inSession l).cfgWrite a v).reg x = (s.cfgWrite a v).reg x := by
  rw [cfgWrite_reg hr, cfgWrite_reg hr]; rfl

/-- The register map's entry for NET_QUAD_CFG. -/
def quadCfgDef : RegDef :=
  ⟨0x0, [], 1, .whole, [⟨0, 2, .rw, .m, 2, .remap 3 2⟩, ⟨2, 1, .rw, .m, 1, .plain⟩, ⟨16, 16, .rw, .m, 100, .plain⟩]⟩

theorem findReg_quadCfg {q : Nat} (hq : q < 32) : findReg (Reg.NET_QUAD_CFG q) = some quadCfgDef := by
  have hall : ∀ q : Fin 32, findReg (Reg.NET_QUAD_CFG q) = some quadCfgDef := by decide +kernel
  exact hall ⟨q, hq⟩

/-- A mode of Table 11-1 written to NET_QUAD_CFG is what the register then holds. -/
theorem cfgWrite_quadMode (s : State) {q m : Nat} (hq : q < 32) (hm : m ≤ 2) :
    (s.cfgWrite (Reg.NET_QUAD_CFG q) (BitVec.ofNat 32 (setBits (s.reg (Reg.NET_QUAD_CFG q)).toNat 0 2 m))).fld
      (Fld.NET_QUAD_CFG_MODE q) = m := by
  have hof := RegDef.of_written (r := quadCfgDef) (f := ⟨0, 2, .rw, .m, 2, .remap 3 2⟩) (by decide) (by simp [quadCfgDef])
    (s.reg (Reg.NET_QUAD_CFG q)) (FieldDef.put ⟨0, 2, .rw, .m, 2, .remap 3 2⟩ (s.reg (Reg.NET_QUAD_CFG q)) m)
  rw [FieldDef.of_put_same (by decide), Nat.mod_eq_of_lt (show m < 2 ^ 2 by omega)] at hof
  rw [State.fld, Fld.NET_QUAD_CFG_MODE, cfgWrite_reg (findReg_quadCfg hq), if_pos rfl]
  refine hof.trans ?_
  simp only [FieldDef.taken, FieldDef.store]
  rw [if_neg (by omega), Nat.mod_eq_of_lt (by omega)]

/-- QUAD_SET of a mode whose ports' threshold set fits (R253, R258). -/
theorem quadSetBody_mode {s : State} {q m : Nat} (hq : q < 32) (hm : m ≤ 2)
    (hthr : (s.cfgWrite (Reg.NET_QUAD_CFG q)
      (BitVec.ofNat 32 (setBits (s.reg (Reg.NET_QUAD_CFG q)).toNat 0 2 m))).thrSum q ≤ 1024) :
    ∃ t, quadSetBody q (some m) none none none s = .ok t [] ∧ Told 4 (s.cfgWrite (Reg.NET_QUAD_CFG q)
      (BitVec.ofNat 32 (setBits (s.reg (Reg.NET_QUAD_CFG q)).toNat 0 2 m))) t := by
  unfold quadSetBody
  simp only [Nat.not_le.mpr hq, Nat.not_lt.mpr hm, Nat.not_lt.mpr hthr, Option.any_some, Option.any_none, Option.elim_some,
    Option.elim_none, if_false, decide_false, Bool.or_false, Bool.false_eq_true, or_false, State.quadWrite]
  refine ⟨_, rfl, ?_⟩
  have hcount : ∀ (t : State) (b : Bool), Told 4 t (if b = true then t.clearCounts q else t) :=
    fun t b => .ite _ ((Told.clearCounts t q).mono (by decide)) (.refl t)
  exact .ite _ ((hcount _ _).trans (.retrain _ q)) (hcount _ _)

theorem exec_quadSet {h : Hdr} {q m : Nat} {s : State}
    (ht : s.takes h 0x0201 ((List.range 4).map fun l => (.port, 4 * q + l)) = true ∧ q < 32 ∧ m ≤ 2)
    (hthr : (s.cfgWrite (Reg.NET_QUAD_CFG q)
      (BitVec.ofNat 32 (setBits (s.reg (Reg.NET_QUAD_CFG q)).toNat 0 2 m))).thrSum q ≤ 1024) :
    ∃ t, exec (.quadSet h q (some m) none none none) s = .next t ∧
      t.answered h 0x0201 .success [] ∧ t.fld (Fld.NET_QUAD_CFG_MODE q) = m ∧ t.net = s.net := by
  obtain ⟨ht, hq, hm⟩ := ht
  let v := BitVec.ofNat 32 (setBits (s.reg (Reg.NET_QUAD_CFG q)).toNat 0 2 m)
  refine ⟨_, rfl, manifest_changed _ _ (fun t => t.fld (Fld.NET_QUAD_CFG_MODE q) = m ∧ t.net = s.net)
    (fun u => u.cfgWrite (Reg.NET_QUAD_CFG q) v) 4 ht (fun l => quadSetBody_mode (s := s.inSession l) hq hm
      ((thrSum_congr q fun a _ => inSession_cfgWrite_reg s l (findReg_quadCfg hq) v a).le.trans hthr)) (fun l => ?_)
    (fun l t hmrd => ?_) fun l t htold k st ps => ⟨?_, ?_⟩⟩
  · rw [cfgWrite_mft]; rfl
  · exact outgrows_same (by rw [hmrd, cfgWrite_mrd]; rfl)
  · have haddr : (Fld.NET_QUAD_CFG_MODE q).addr ∉ answerRegs := by
      simp [answerRegs, Fld.NET_QUAD_CFG_MODE, Reg.NET_QUAD_CFG, Fld.TWP_MOOR_SEQ_LO_SEQ, Fld.TWP_MOOR_SEQ_HI_SEQ,
        Fld.TWP_MOOR_STAT_PENDING, Fld.AQD_LINK_STAT_WINDOWS, Reg.TWP_MOOR_SEQ_LO, Reg.TWP_MOOR_SEQ_HI, Reg.TWP_MOOR_STAT,
        Reg.MFT_MBOX_STAT, Reg.AQD_LINK_STAT]
      omega
    rw [answerSince_fld _ _ _ _ _ _ haddr, State.fld, htold.reg _ (by simp only [Fld.NET_QUAD_CFG_MODE, Reg.NET_QUAD_CFG]; omega)]
    exact cfgWrite_quadMode (s.inSession l) hq hm
  · rw [answerSince_net, htold.net, cfgWrite_net]; rfl

/-! ## PORT_SET -/

/-- The register map's entry for NET_WAKE_PAT. -/
def wakePatDef : RegDef := ⟨0x140, [(4, 256), (4, 4)], 1, .whole, [⟨0, 32, .rw, .m, 0, .plain⟩]⟩

theorem findReg_wakePat {p w : Nat} (hp : p < 128) (hw : w < 4) :
    findReg (Reg.NET_WAKE_PAT (quadOf p) (laneOf p) w) = some wakePatDef := by
  have hall : ∀ p : Fin 128, ∀ w : Fin 4, findReg (Reg.NET_WAKE_PAT (quadOf p) (laneOf p) w) = some wakePatDef := by
    decide +kernel
  exact hall ⟨p, hp⟩ ⟨w, hw⟩

/-- A wake pattern is stored as it is written. -/
theorem written_wakePat (x v : Word32) : wakePatDef.written x v = v := by
  have hof := RegDef.of_written (r := wakePatDef) (f := ⟨0, 32, .rw, .m, 0, .plain⟩) (by decide) (by simp [wakePatDef]) x v
  have hv : ∀ y : Word32, FieldDef.of ⟨0, 32, .rw, .m, 0, .plain⟩ y = y.toNat := fun y => by
    have hlt := y.isLt
    simp only [FieldDef.of, bitsOf, Nat.pow_zero, Nat.div_one]
    omega
  refine BitVec.eq_of_toNat_eq ((hv _).symm.trans (hof.trans ?_))
  simp only [FieldDef.taken, FieldDef.store]
  rw [hv, Nat.mod_eq_of_lt v.isLt]

/-- Ports whose enable bits stay keep their links. -/
theorem portEnables_of_same {s t : State} {q : Nat}
    (h : ∀ l, t.flag (Fld.NET_PORT_CFG_EN q l) = s.flag (Fld.NET_PORT_CFG_EN q l)) : s.portEnables t q = t := by
  have hstay : ∀ u l, (match s.flag (Fld.NET_PORT_CFG_EN q l), t.flag (Fld.NET_PORT_CFG_EN q l) with
      | true, false => State.linkDown u (4 * q + l)
      | false, true => u.emit (.net (4 * q + l) .train)
      | _, _ => u) = u := fun u l => by
    rw [h l]; cases s.flag (Fld.NET_PORT_CFG_EN q l) <;> rfl
  exact foldl_keeps (fun u => u = t) _ (fun u l hu => (hstay u l).trans hu) _ _ rfl

/-- PORT_SET of one wake pattern (R258, R265). -/
theorem portSetBody_wake {s : State} {p w : Nat} {v : Word32} (hp : p < 128) (hhere : s.portHere p = true) (hw : w < 4)
    (hthr : s.thrSum (quadOf p) ≤ 1024) :
    portSetBody p none none none [] [(w, v)] s = .ok (s.cfgWrite (Reg.NET_WAKE_PAT (quadOf p) (laneOf p) w) v) [] := by
  have hreg : ∀ a, a % 0x100 < 0x40 → (s.cfgWrite (Reg.NET_WAKE_PAT (quadOf p) (laneOf p) w) v).reg a = s.reg a :=
    fun a ha => by
      rw [cfgWrite_reg (findReg_wakePat hp hw), if_neg]
      simp only [Reg.NET_WAKE_PAT, laneOf]
      omega
  have hen : ∀ l, (s.cfgWrite (Reg.NET_WAKE_PAT (quadOf p) (laneOf p) w) v).flag (Fld.NET_PORT_CFG_EN (quadOf p) l) =
      s.flag (Fld.NET_PORT_CFG_EN (quadOf p) l) := fun l => by
    rw [State.flag, State.fld, hreg _ (by simp only [Fld.NET_PORT_CFG_EN, Reg.NET_PORT_CFG]; omega)]; rfl
  have hsum := (thrSum_congr (quadOf p) hreg).le.trans hthr
  simp only [portSetBody, Nat.not_le.mpr hp, hhere, Nat.not_le.mpr hw, State.thrWrites, Option.elim_none, List.map_nil,
    List.map_cons, List.nil_append, List.foldl_cons, List.foldl_nil, List.any_nil, List.any_cons, decide_false,
    Bool.or_false, Bool.not_true, Bool.false_eq_true, if_false, hsum, if_true, portEnables_of_same hen]

theorem wakePat_not_mem_answerRegs (q l : Nat) {w : Nat} (hw : w < 4) : Reg.NET_WAKE_PAT q l w ∉ answerRegs := by
  simp [answerRegs, Reg.NET_WAKE_PAT, Fld.TWP_MOOR_SEQ_LO_SEQ, Fld.TWP_MOOR_SEQ_HI_SEQ, Fld.TWP_MOOR_STAT_PENDING,
    Fld.AQD_LINK_STAT_WINDOWS, Reg.TWP_MOOR_SEQ_LO, Reg.TWP_MOOR_SEQ_HI, Reg.TWP_MOOR_STAT, Reg.MFT_MBOX_STAT,
    Reg.AQD_LINK_STAT]
  omega

theorem exec_portSet {h : Hdr} {p w : Nat} {v : Word32} {s : State}
    (ht : s.takes h 0x0202 [(.port, p)] = true ∧ p < 128 ∧ s.portHere p = true ∧ w < 4 ∧ s.thrSum (quadOf p) ≤ 1024) :
    ∃ t, exec (.portSet h p none none none [] [(w, v)]) s = .next t ∧
      t.answered h 0x0202 .success [] ∧ t.reg (Reg.NET_WAKE_PAT (quadOf p) (laneOf p) w) = v ∧ t.net = s.net := by
  obtain ⟨ht, hp, hhere, hw, hthr⟩ := ht
  refine ⟨_, rfl, manifest_changed _ _ (fun t => t.reg (Reg.NET_WAKE_PAT (quadOf p) (laneOf p) w) = v ∧ t.net = s.net)
    (fun u => u.cfgWrite (Reg.NET_WAKE_PAT (quadOf p) (laneOf p) w) v) 0x1000 ht (fun l => ?_) (fun l => ?_)
    (fun l t hmrd => ?_) fun l t htold k st ps => ⟨?_, ?_⟩⟩
  · refine ⟨_, ?_, Told.latencyNote _ (s.inSession l)⟩
    rw [portSetBody_wake (s := s.inSession l) hp hhere hw hthr]
    rfl
  · rw [cfgWrite_mft]; rfl
  · exact outgrows_same (by rw [hmrd, cfgWrite_mrd]; rfl)
  · have haddr : Reg.NET_WAKE_PAT (quadOf p) (laneOf p) w % 0x20000 < 0x1000 := by
      simp only [Reg.NET_WAKE_PAT, laneOf]; omega
    rw [answerSince_reg _ _ _ _ _ _ (wakePat_not_mem_answerRegs _ _ hw), htold.reg _ haddr,
      cfgWrite_reg (findReg_wakePat hp hw), if_pos rfl, written_wakePat]
  · rw [answerSince_net, htold.net, cfgWrite_net]; rfl

/-! ## Queries -/

/-- The completion of a manifest that answers and changes nothing. -/
theorem manifest_answers {s : State} {h : Hdr} {op : Nat} {objs : List (ObjKind × Nat)} (i : ManCmd) {body : State → MRes}
    (ps : List (List Byte)) (ht : s.takes h op objs = true) (hb : ∀ l, body (s.inSession l) = .ok (s.inSession l) ps) :
    (s.manifest i h op objs body).answered h op .success ps ∧
      (s.manifest i h op objs body).net = s.net ∧ (s.manifest i h op objs body).mrd = s.mrd :=
  manifest_changed i ps (fun t => t.net = s.net ∧ t.mrd = s.mrd) id 0 ht (fun l => ⟨_, hb l, .refl _⟩) (fun _ => rfl)
    (fun _ _ hmrd => outgrows_same hmrd)
    fun _ _ htold _ _ _ => ⟨(answerSince_net _ _ _ _ _ _).trans htold.net, (answerSince_mrd _ _ _ _ _ _).trans htold.mrd⟩

theorem exec_portQuery {h : Hdr} {p : Nat} {s : State} (ht : s.takes h 0x0205 [] = true ∧ p < 128 ∧ s.portHere p = true) :
    ∃ t, exec (.portQuery h [p]) s = .next t ∧
      (∃ l, t.answered h 0x0205 .success [beBytes 1 p ++ beBytes 4 (s.reg (Reg.NET_PORT_STAT (quadOf p) (laneOf
        p))).toNat ++ l]) ∧
      t.net = s.net ∧ t.mrd = s.mrd := by
  obtain ⟨ht, hp, hhere⟩ := ht
  have hbody : ∀ l, portQueryBody [p] (s.inSession l) = .ok (s.inSession l) [beBytes 1 p ++
      beBytes 4 (s.reg (Reg.NET_PORT_STAT (quadOf p) (laneOf p))).toNat ++ (List.range 43).flatMap fun n =>
        beBytes 8 (s.fld (Fld.NET_CNT_HI_COUNT (quadOf p) (laneOf p) n) * 2 ^ 32 +
          s.fld (Fld.NET_CNT_LO_COUNT (quadOf p) (laneOf p) n))] := fun l => by
    have hhere' : (s.inSession l).portHere p = true := hhere
    simp only [portQueryBody, List.any_cons, List.any_nil, Nat.not_le.mpr hp, hhere', decide_false, Bool.or_false,
      Bool.not_true, Bool.false_eq_true, if_false, List.map_cons, List.map_nil]
    rfl
  obtain ⟨hans, hnet, hmrd⟩ := manifest_answers (.portQuery [p]) _ ht hbody
  exact ⟨_, rfl, ⟨_, hans⟩, hnet, hmrd⟩

theorem exec_aclQuery {h : Hdr} {p : Nat} {s : State} (ht : s.takes h 0x0502 [] = true ∧ p < 128 ∧ s.portHere p = true) :
    ∃ t, exec (.aclQuery h p) s = .next t ∧
      t.answered h 0x0502 .success ((List.range 16).map fun i => aclBytes (s.mrd.acl.get (16 * p + i))) ∧ t.mrd
        = s.mrd := by
  obtain ⟨ht, hp, hhere⟩ := ht
  have hbody : ∀ l, aclQueryBody p (s.inSession l) = .ok (s.inSession l)
      ((List.range 16).map fun i => aclBytes (s.mrd.acl.get (16 * p + i))) := fun l => by
    have hhere' : (s.inSession l).portHere p = true := hhere
    simp only [aclQueryBody, Nat.not_le.mpr hp, hhere', Bool.not_true, Bool.false_eq_true, if_false]
    rfl
  obtain ⟨hans, -, hmrd⟩ := manifest_answers (.aclQuery p) _ ht hbody
  exact ⟨_, rfl, hans, hmrd⟩

/-! ## Entries of the moored tables -/

theorem exec_aclSet {h : Hdr} {p i : Nat} {r : AclRule} {s : State}
    (ht : s.takes h 0x0501 [(.port, p)] = true ∧ p < 128 ∧ i < 16 ∧ s.portHere p = true ∧ r.action ≤ 2 ∧ r.kind ≤ 3)
    (hr : (r.kind = 2 → r.len ≤ 32) ∧ (r.kind = 3 → r.len ≤ 128) ∧ s.imageRoom 1 = true) :
    ∃ t, exec (.aclSet h p i r) s = .next t ∧
      t.answered h 0x0501 .success [] ∧ t.mrd.acl.get (16 * p + i) = r ∧ t.mrd.addr = s.mrd.addr := by
  obtain ⟨ht, hp, hi, hhere, haction, hkind⟩ := ht
  obtain ⟨hv4, hv6, hroom⟩ := hr
  have hbody : ∀ l, aclSetBody p i r (s.inSession l) = .ok ((s.inSession l).moor (.acl (16 * p + i) r)) [] := fun l => by
    have hhere' : (s.inSession l).portHere p = true := hhere
    have hrange : ¬ (128 ≤ p ∨ 16 ≤ i) := by omega
    have hrule : ¬ (2 < r.action ∨ 3 < r.kind ∨ (r.kind = 2 ∧ 32 < r.len) ∨ (r.kind = 3 ∧ 128 < r.len)) := by omega
    simp only [aclSetBody, hrange, hrule, hhere', Bool.not_true, Bool.false_eq_true, if_false]
  refine ⟨_, rfl, manifest_moored _ _ (fun t => t.mrd.acl.get (16 * p + i) = r ∧ t.mrd.addr = s.mrd.addr)
    (.acl (16 * p + i) r) 0 ht hroom (fun l => ⟨_, hbody l, .refl _⟩) fun l t htold q st ps => ?_⟩
  rw [answerSince_mrd, htold.mrd, moor_mrd]
  exact ⟨Tab.get_set_eq _ _ _, rfl⟩

theorem exec_mgmtSrcSet {h : Hdr} {e : Nat} {p : Prefix} {s : State}
    (ht : s.takes h 0x0510 [] = true ∧ e < 16 ∧ p.len ≤ (if p.v6 then 128 else 32) ∧ s.imageRoom 1 = true) :
    ∃ t, exec (.mgmtSrcSet h e (some p)) s = .next t ∧
      t.answered h 0x0510 .success [] ∧ t.mrd.src.get e = some p ∧ t.mrd.addr = s.mrd.addr := by
  obtain ⟨ht, he, hlen, hroom⟩ := ht
  have hbody : ∀ l, mgmtSrcSetBody e (some p) (s.inSession l) = .ok ((s.inSession l).moor (.src e (some p))) [] := fun l => by
    simp only [mgmtSrcSetBody, Nat.not_le.mpr he, Option.any_some, Nat.not_lt.mpr hlen, decide_false, Bool.false_eq_true,
      if_false, Option.isNone_some, false_and]
  refine ⟨_, rfl, manifest_moored _ _ (fun t => t.mrd.src.get e = some p ∧ t.mrd.addr = s.mrd.addr)
    (.src e (some p)) 0 ht hroom (fun l => ⟨_, hbody l, .refl _⟩) fun l t htold q st ps => ?_⟩
  rw [answerSince_mrd, htold.mrd, moor_mrd]
  exact ⟨Tab.get_set_eq s.mrd.src e (some p), rfl⟩

/-! ## Discovery policies -/

/-- The policies of the ports as DISCOVERY_SET leaves them: one moored change for each port. -/
def State.moorDiscs (s : State) (policy : Nat) (ports : List Nat) : State :=
  ports.foldl (fun s p => s.moor (.disc p policy)) s

theorem moorDiscs_mft (s : State) (policy : Nat) (ports : List Nat) : (s.moorDiscs policy ports).mft = s.mft :=
  foldl_eq State.mft _ (fun t _ => moor_mft t _) ports s

theorem moorDiscs_addr (s : State) (policy : Nat) (ports : List Nat) : (s.moorDiscs policy ports).mrd.addr = s.mrd.addr :=
  foldl_eq (fun u : State => u.mrd.addr) _ (fun t _ => by rw [moor_mrd]; rfl) ports s

theorem moorBytes_moorDiscs_le (s : State) (policy : Nat) (ports : List Nat) :
    (s.moorDiscs policy ports).moorBytes ≤ s.moorBytes + 40 * ports.length := by
  induction ports generalizing s with
  | nil => exact Nat.le_refl _
  | cons p ports ih =>
    have hone := moorBytes_moor_le s (.disc p policy)
    have hrest := ih (s.moor (.disc p policy))
    simp only [MoorRec.room] at hone
    simp only [State.moorDiscs, List.foldl_cons, List.length_cons] at hrest ⊢
    omega

theorem moorDiscs_get (s : State) (policy : Nat) (ports : List Nat) (p : Nat) :
    (s.moorDiscs policy ports).mrd.disc.get p = if p ∈ ports then policy else s.mrd.disc.get p := by
  induction ports generalizing s with
  | nil => simp [State.moorDiscs]
  | cons x ports ih =>
    have hfirst : (s.moor (.disc x policy)).mrd.disc.get p = if x = p then policy else s.mrd.disc.get p := by
      rw [moor_mrd]; exact Tab.get_set _ _ _ _
    rw [State.moorDiscs, List.foldl_cons, ← State.moorDiscs, ih, hfirst]
    by_cases hx : x = p
    · simp [hx]
    · simp [hx, Ne.symm hx]

theorem exec_discoverySet {h : Hdr} {ports : List Nat} {policy : Nat} {s : State}
    (ht : s.takes h 0x0206 (ports.map fun p => (.port, p)) = true ∧ ports ≠ [] ∧ (∀ p ∈ ports, p < 128 ∧ s.portHere p =
      true) ∧ policy ≤ 2 ∧ s.imageRoom ports.length = true) :
    ∃ t, exec (.discoverySet h ports policy) s = .next t ∧
      t.answered h 0x0206 .success [] ∧ (∀ p ∈ ports, t.mrd.disc.get p = policy) ∧ t.mrd.addr = s.mrd.addr := by
  obtain ⟨ht, hne, hports, hpolicy, hroom⟩ := ht
  have hbody : ∀ l, discoverySetBody ports policy (s.inSession l) = .ok ((s.inSession l).moorDiscs policy ports) [] :=
    fun l => by
      have hrange : (ports.any fun p => decide (128 ≤ p)) = false :=
        List.any_eq_false.mpr fun p hp => by simp [(hports p hp).1]
      have hhere : (ports.any fun p => !(s.inSession l).portHere p) = false :=
        List.any_eq_false.mpr fun p hp => by
          have hp' : (s.inSession l).portHere p = true := (hports p hp).2
          simp [hp']
      simp only [discoverySetBody, hrange, hhere, hne, Nat.not_lt.mpr hpolicy, Bool.false_eq_true, if_false]
      rfl
  refine ⟨_, rfl, manifest_changed _ _ (fun t => (∀ p ∈ ports, t.mrd.disc.get p = policy) ∧ t.mrd.addr = s.mrd.addr)
    (fun u => u.moorDiscs policy ports) 0 ht (fun l => ⟨_, hbody l, .refl _⟩) (fun l => ?_) (fun l t hmrd => ?_)
    fun l t htold q st ps => ?_⟩
  · rw [moorDiscs_mft]; rfl
  · exact outgrows_of_imageRoom hroom (by
      rw [moorBytes_congr hmrd]; exact moorBytes_moorDiscs_le (s.inSession l) policy ports)
  · rw [answerSince_mrd, htold.mrd]
    exact ⟨fun p hp => by rw [moorDiscs_get, if_pos hp], moorDiscs_addr _ _ _⟩

/-! ## Addresses -/

/-- An address entry is moored, then announced and told (R39, R257). -/
theorem Told.putAddr (s : State) (e : Nat) (a : AddrParams) : Told 0x1000 (s.moor (.addr e (some a))) (s.putAddr e a) :=
  (Told.foldl _ (fun t p => Told.sendNet t p a.vlan _) _ _).trans (.discoveryNote _ s)

/-- The duplicate detection of an address entry given up. -/
def State.dropDad (s : State) (e : Nat) : State := s.updNet fun n => { n with dad := n.dad.filter fun d => d.1 != e }

theorem exec_addrSet {h : Hdr} {e : Nat} {a : AddrParams} {s : State}
    (ht : s.takes h 0x0203 (a.ports.map fun p => (.port, p)) = true ∧ e < 1024 ∧ a.v6 = false ∧ a.len ≤ 32)
    (ha : (∀ p ∈ a.ports, p ≤ 128 ∧ s.portEntries p e < (if p = 128 then 1 else 16)) ∧ a.ports ≠ [] ∧ s.absent a.ports =
      false ∧ (∀ v ∈ a.vlan, v ≤ 4094) ∧ s.imageRoom 1 = true) :
    ∃ t, exec (.addrSet h e a) s = .next t ∧
      t.answered h 0x0203 .success [] ∧ t.mrd.addr.get e = some a ∧ t.mrd.acl = s.mrd.acl := by
  obtain ⟨ht, he, hv4, hlen⟩ := ht
  obtain ⟨hports, hne, habsent, hvlan, hroom⟩ := ha
  have hbody : ∀ l, addrSetBody e a (s.inSession l) = .ok (((s.inSession l).dropDad e).putAddr e a) [] := fun l => by
    have hrange : ¬ (1024 ≤ e ∨ (a.ports.any fun p => decide (128 < p)) = true) := by
      simp only [List.any_eq_true, decide_eq_true_eq, not_or, not_exists, not_and, Nat.not_lt, Nat.not_le]
      exact ⟨he, fun p hp => (hports p hp).1⟩
    have hparam : ¬ (32 < a.len ∨ a.vlan.any (fun v => decide (4094 < v)) = true) := by
      simp only [Option.any_eq_true, decide_eq_true_eq, not_or, not_exists, not_and, Nat.not_lt]
      exact ⟨hlen, hvlan⟩
    have hentries : (a.ports.any fun p => decide ((if p = 128 then 1 else 16) ≤ (s.inSession l).portEntries p e)) = false :=
      List.any_eq_false.mpr fun p hp => by
        have hfew : (s.inSession l).portEntries p e < (if p = 128 then 1 else 16) := (hports p hp).2
        simp only [decide_eq_true_eq, Nat.not_le, hfew]
    have habsent' : (s.inSession l).absent a.ports = false := habsent
    simp only [addrSetBody, if_neg hrange, hparam, habsent', hne, hentries, hv4, Bool.false_eq_true, if_false, false_and]
    rfl
  refine ⟨_, rfl, manifest_changed _ _ (fun t => t.mrd.addr.get e = some a ∧ t.mrd.acl = s.mrd.acl)
    (fun u => (u.dropDad e).moor (.addr e (some a))) 0x1000 ht (fun l => ⟨_, hbody l, .putAddr _ e a⟩) (fun l => by simp; rfl)
    (fun l t hmrd => outgrows_of_imageRoom hroom ?_) fun l t htold q st ps => ?_⟩
  · rw [moorBytes_congr hmrd]
    exact moorBytes_moor_le ((s.inSession l).dropDad e) (.addr e (some a))
  · rw [answerSince_mrd, htold.mrd, moor_mrd]
    exact ⟨Tab.get_set_eq s.mrd.addr e (some a), rfl⟩

theorem exec_addrDelete {h : Hdr} {e : Nat} {s : State}
    (ht : s.takes h 0x0204 [] = true ∧ e < 1024 ∧ (s.mrd.addr.get e).isSome = true) :
    ∃ t, exec (.addrDelete h e) s = .next t ∧
      t.answered h 0x0204 .success [] ∧ t.mrd.addr.get e = none ∧ t.mrd.acl = s.mrd.acl := by
  obtain ⟨ht, he, hsome⟩ := ht
  have hbody : ∀ l, addrDeleteBody e (s.inSession l) =
      .ok (((s.inSession l).moor (.addr e none)).discoveryNote (s.inSession l)) [] := fun l => by
    have hnone : ((s.inSession l).mrd.addr.get e).isNone = false := by
      rw [← Option.not_isSome]
      exact congrArg not hsome
    simp only [addrDeleteBody, if_neg (Nat.not_le.mpr he), hnone, Bool.false_eq_true, if_false]
  refine ⟨_, rfl, manifest_changed _ _ (fun t => t.mrd.addr.get e = none ∧ t.mrd.acl = s.mrd.acl)
    (fun u => u.moor (.addr e none)) 0x1000 ht (fun l => ⟨_, hbody l, .discoveryNote _ _⟩) (fun l => by simp; rfl)
    (fun l t hmrd => ?_) fun l t htold q st ps => ?_⟩
  · have herase : (s.mrd.addr.set e none).length ≤ s.mrd.addr.length :=
      (congrArg List.length (Tab.set_default s.mrd.addr e)).le.trans (Tab.length_erase_le _ _)
    have hle : t.moorBytes ≤ s.moorBytes := by
      simp only [State.moorBytes, hmrd, moor_mrd, MoorRec.toTables, State.inSession]
      change _ + 40 * (_ + (s.mrd.addr.set e none).length + _ + _ + _ + _) ≤ _
      simp only [State.updMft]
      omega
    simp [State.outgrows, Nat.not_lt.mpr hle]
  · rw [answerSince_mrd, htold.mrd, moor_mrd]
    exact ⟨Tab.get_set_eq s.mrd.addr e none, rfl⟩

theorem exec_dadComplete {e : Fin 1024} {dup : Bool} {a : AddrParams} {s : State}
    (hd : (s.net.dad.find? fun d => d.1 == e.val) = some (e.val, a)) :
    ∃ t, exec (.dadComplete e dup) s = .next t ∧
      t.mrd.addr.get e = (if dup then s.mrd.addr.get e else some a) ∧
      (t.net.dad.any fun d => d.1 == e.val) = false ∧ t.mrd.acl = s.mrd.acl ∧ t.net.neigh = s.net.neigh := by
  let u := if dup then s.dropDad e else (s.dropDad e).putAddr e a
  have hu : u.mrd.addr.get e = (if dup then s.mrd.addr.get e else some a) ∧ u.net = (s.dropDad e).net ∧
      u.mrd.acl = s.mrd.acl := by
    cases dup
    · have htold := Told.putAddr (s.dropDad e) e a
      have hmrd : u.mrd = (MoorRec.addr e (some a)).toTables s.mrd := htold.mrd.trans (moor_mrd _ _)
      refine ⟨?_, htold.net.trans (by simp), by rw [hmrd]; rfl⟩
      rw [hmrd]
      exact Tab.get_set_eq s.mrd.addr e (some a)
    · exact ⟨rfl, rfl, rfl⟩
  obtain ⟨haddr, hnet, hacl⟩ := hu
  have hended : ∀ (wait : Option Running) (st : MStat),
      (wait.elim u fun r => u.finish r st []).mrd = u.mrd ∧ (wait.elim u fun r => u.finish r st []).net = u.net :=
    fun wait st => by cases wait <;> simp
  have hexec : ∃ wait st, exec (.dadComplete e dup) s = .next (Option.elim wait u fun r => u.finish r st []) :=
    ⟨_, _, by simp only [exec, execDadComplete, hd]; rfl⟩
  obtain ⟨wait, st, hexec⟩ := hexec
  obtain ⟨hm, hn⟩ := hended wait st
  refine ⟨_, hexec, by rw [hm, haddr], ?_, by rw [hm, hacl], by rw [hn, hnet]; rfl⟩
  rw [hn, hnet]
  change ((s.net.dad.filter fun d => d.1 != e.val).any fun d => d.1 == e.val) = false
  simp [List.any_filter]

/-- Settles O33: each manifest's effect is one change of the registers or tables, of which hosts and ports are told. -/
theorem portAndAddressManifestsTakeEffect : Obligations.PortAndAddressManifestsTakeEffect :=
  ⟨fun _ _ _ _ => exec_quadSet, fun _ _ _ _ _ => exec_portSet, fun _ _ _ => exec_portQuery, fun _ _ _ _ => exec_discoverySet,
    fun _ _ _ _ _ => exec_aclSet, fun _ _ _ => exec_aclQuery, fun _ _ _ _ => exec_mgmtSrcSet, fun _ _ _ _ => exec_addrSet,
    fun _ _ _ => exec_addrDelete, fun _ _ _ _ => exec_dadComplete⟩

end Sys2Proof.Machine

/-! The size of a table whose listed entries are written over again and again: an entry may be put beside an older one of its
key, but only once for each key (R382). -/

namespace Sys2Proof.Machine

section Tables

variable {α : Type}

/-- `Tab.insert` finds the entry of `k` and replaces it: the keys before it are smaller. -/
def Tab.placed : Tab α → Nat → Bool
  | [], _ => false
  | (j, _) :: t, k => decide (j = k) || (decide (j < k) && Tab.placed t k)

theorem Tab.placed_insert_self (t : Tab α) (k : Nat) (v : α) : Tab.placed (Tab.insert t k v) k = true := by
  induction t with
  | nil => simp [Tab.insert, Tab.placed]
  | cons e t ih =>
    obtain ⟨j, x⟩ := e
    simp only [Tab.insert]
    split
    · simp [Tab.placed]
    · split
      · simp [Tab.placed]
      · simp only [Tab.placed, ih, Bool.and_true, Bool.or_eq_true, decide_eq_true_eq]; omega

theorem Tab.placed_insert {t : Tab α} {i : Nat} (h : Tab.placed t i = true) (k : Nat) (v : α) :
    Tab.placed (Tab.insert t k v) i = true := by
  induction t with
  | nil => simp [Tab.placed] at h
  | cons e t ih =>
    obtain ⟨j, x⟩ := e
    simp only [Tab.placed, Bool.or_eq_true, decide_eq_true_eq, Bool.and_eq_true] at h
    simp only [Tab.insert]
    split
    · simp only [Tab.placed, Bool.or_eq_true, decide_eq_true_eq, Bool.and_eq_true]
      rcases h with h | ⟨h, h'⟩
      · exact .inr ⟨by omega, .inl h⟩
      · exact .inr ⟨by omega, .inr ⟨h, h'⟩⟩
    · split
      · subst_vars
        simpa only [Tab.placed, Bool.or_eq_true, decide_eq_true_eq, Bool.and_eq_true] using h
      · simp only [Tab.placed, Bool.or_eq_true, decide_eq_true_eq, Bool.and_eq_true]
        exact h.imp id fun ⟨hlt, hp⟩ => ⟨hlt, ih hp⟩

theorem Tab.mem_keys_insert {t : Tab α} {k i : Nat} {v : α} (h : i ∈ (Tab.insert t k v).map Prod.fst) :
    i = k ∨ i ∈ t.map Prod.fst := by
  obtain ⟨e, he, rfl⟩ := List.mem_map.mp h
  exact (Tab.mem_insert he).imp (congrArg Prod.fst ·) fun h => List.mem_map_of_mem h

theorem Tab.mem_keys_erase {t : Tab α} {k i : Nat} : i ∈ (Tab.erase t k).map Prod.fst ↔ i ∈ t.map Prod.fst ∧ i ≠ k := by
  simp only [Tab.erase, List.mem_map, List.mem_filter, Bool.not_eq_true', beq_eq_false_iff_ne]
  exact ⟨fun ⟨e, ⟨he, hk⟩, hi⟩ => ⟨⟨e, he, hi⟩, hi ▸ hk⟩, fun ⟨⟨e, he, hi⟩, hk⟩ => ⟨e, ⟨he, hi.symm ▸ hk⟩, hi⟩⟩

theorem Tab.placed_erase {t : Tab α} {i k : Nat} (h : Tab.placed t i = true) (hk : i ≠ k) :
    Tab.placed (Tab.erase t k) i = true := by
  induction t with
  | nil => simp [Tab.placed] at h
  | cons e t ih =>
    obtain ⟨j, x⟩ := e
    simp only [Tab.placed, Bool.or_eq_true, decide_eq_true_eq, Bool.and_eq_true] at h
    simp only [Tab.erase] at ih ⊢
    by_cases hj : j = k
    · subst hj
      rw [List.filter_cons_of_neg (by simp)]
      exact ih (h.resolve_left (Ne.symm hk)).2
    · rw [List.filter_cons_of_pos (by simpa using hj)]
      simp only [Tab.placed, Bool.or_eq_true, decide_eq_true_eq, Bool.and_eq_true]
      exact h.imp id fun ⟨hlt, hp⟩ => ⟨hlt, ih hp⟩

/-- Writing over an entry that is found exchanges its weight. -/
theorem Tab.sum_insert_placed (w : Nat × α → Nat) (d : Nat → α) {t : Tab α} {k : Nat} (h : Tab.placed t k = true) (v : α) :
    ((Tab.insert t k v).map w).sum + w (k, Tab.getD d t k) = (t.map w).sum + w (k, v) := by
  induction t with
  | nil => simp [Tab.placed] at h
  | cons e t ih =>
    obtain ⟨j, x⟩ := e
    simp only [Tab.placed, Bool.or_eq_true, decide_eq_true_eq, Bool.and_eq_true] at h
    by_cases hj : j = k
    · subst hj
      simp only [Tab.insert, Nat.lt_irrefl, if_false, if_true, Tab.getD, List.map_cons, List.sum_cons]
      omega
    · obtain ⟨hlt, hp⟩ := h.resolve_left hj
      have hsum := ih hp
      simp only [Tab.insert, Tab.getD, if_neg (show ¬ k < j by omega), if_neg (Ne.symm hj), if_neg hj, List.map_cons,
        List.sum_cons]
      omega

/-- Entries of different keys weigh no more than the table. -/
theorem Tab.sum_get_le (w : Nat × α → Nat) (d : Nat → α) {t : Tab α} {l : List Nat} (hn : l.Nodup)
    (hl : ∀ k ∈ l, k ∈ t.map Prod.fst) : (l.map fun k => w (k, Tab.getD d t k)).sum ≤ (t.map w).sum := by
  induction t generalizing l with
  | nil =>
    have hnil : l = [] := List.eq_nil_iff_forall_not_mem.mpr fun k hk => nomatch hl k hk
    simp [hnil]
  | cons e t ih =>
    obtain ⟨j, x⟩ := e
    have hrest : ∀ m : List Nat, m.Nodup → (∀ k ∈ m, k ∈ l ∧ k ≠ j) →
        (m.map fun k => w (k, Tab.getD d ((j, x) :: t) k)).sum ≤ (t.map w).sum := fun m hm hml => by
      have hsame : (m.map fun k => w (k, Tab.getD d ((j, x) :: t) k)) = m.map fun k => w (k, Tab.getD d t k) :=
        List.map_congr_left fun k hk => by simp only [Tab.getD, if_neg (Ne.symm (hml k hk).2)]
      rw [hsame]
      exact ih hm fun k hk => (List.mem_cons.mp (hl k (hml k hk).1)).resolve_left (hml k hk).2
    simp only [List.map_cons, List.sum_cons]
    by_cases hj : j ∈ l
    · have herase := hrest (l.erase j) (hn.erase j) fun k hk =>
        ⟨List.mem_of_mem_erase hk, fun h => (hn.mem_erase_iff.mp hk).1 h⟩
      have hperm := ((List.perm_cons_erase hj).map fun k => w (k, Tab.getD d ((j, x) :: t) k)).sum_eq
      rw [hperm]
      simp only [List.map_cons, List.sum_cons, Tab.getD, if_true] at herase ⊢
      omega
    · have hall := hrest l hn fun k hk => ⟨hk, fun h => hj (h ▸ hk)⟩
      omega

variable [Inhabited α]

/-- `u` is `t` after writes over listed keys: each key of `l`, and no other, has had an entry put beside an older one. -/
structure Tab.RegrownBy (w : Nat × α → Nat) (l : List Nat) (t u : Tab α) : Prop where
  nodup : l.Nodup
  old : ∀ k ∈ l, k ∈ t.map Prod.fst
  found : ∀ k ∈ l, Tab.placed u k = true ∨ k ∉ u.map Prod.fst
  keys : ∀ k ∈ u.map Prod.fst, k ∈ t.map Prod.fst
  sum : (u.map w).sum ≤ (t.map w).sum + (l.map fun k => w (k, t.get k)).sum

/-- The same, of some keys. -/
def Tab.Regrown (w : Nat × α → Nat) (t u : Tab α) : Prop := ∃ l, Tab.RegrownBy w l t u

variable {w : Nat × α → Nat} {t u : Tab α}

theorem Tab.Regrown.refl (t : Tab α) : Tab.Regrown w t t :=
  ⟨[], List.nodup_nil, by simp, by simp, fun _ h => h, by simp⟩

theorem Tab.Regrown.sum_le (h : Tab.Regrown w t u) : (u.map w).sum ≤ (t.map w).sum + (t.map w).sum := by
  obtain ⟨l, h⟩ := h
  have hold := Tab.sum_get_le w (fun _ => default) h.nodup h.old
  have hsum := h.sum
  simp only [Tab.get] at hsum
  omega

theorem Tab.Regrown.erase (h : Tab.Regrown w t u) (k : Nat) : Tab.Regrown w t (Tab.erase u k) := by
  obtain ⟨l, h⟩ := h
  refine ⟨l, h.nodup, h.old, fun i hi => ?_, fun i hi => h.keys i (Tab.mem_keys_erase.mp hi).1,
    Nat.le_trans (Tab.sum_map_erase_le w u k) h.sum⟩
  by_cases hk : i = k
  · exact .inr fun hm => (Tab.mem_keys_erase.mp hm).2 hk
  · exact (h.found i hi).imp (fun hp => Tab.placed_erase hp hk) fun hn hm => hn (Tab.mem_keys_erase.mp hm).1

theorem Tab.Regrown.insert (h : Tab.Regrown w t u) {k : Nat} (hk : k ∈ u.map Prod.fst) {v : α}
    (hu : w (k, v) ≤ w (k, u.get k)) (ht : w (k, v) ≤ w (k, t.get k)) : Tab.Regrown w t (Tab.insert u k v) := by
  obtain ⟨l, h⟩ := h
  have hkeys : ∀ i ∈ (Tab.insert u k v).map Prod.fst, i ∈ t.map Prod.fst := fun i hi =>
    h.keys i ((Tab.mem_keys_insert hi).elim (fun e => e ▸ hk) id)
  have hfound : ∀ i ∈ l, Tab.placed (Tab.insert u k v) i = true ∨ i ∉ (Tab.insert u k v).map Prod.fst := fun i hi => by
    rcases h.found i hi with hp | hn
    · exact .inl (Tab.placed_insert hp k v)
    · exact .inr fun hm => hn ((Tab.mem_keys_insert hm).elim (fun e => e ▸ hk) id)
  have hsum := h.sum
  by_cases hkl : k ∈ l
  · have hp := (h.found k hkl).resolve_right fun hn => hn hk
    have hexch := Tab.sum_insert_placed w (fun _ => default) hp v
    simp only [Tab.get] at hu
    exact ⟨l, h.nodup, h.old, hfound, hkeys, by omega⟩
  · have hgrow := Tab.sum_map_insert_le w u k v
    refine ⟨k :: l, List.nodup_cons.mpr ⟨hkl, h.nodup⟩, fun i hi => ?_, fun i hi => ?_, hkeys, ?_⟩
    · exact (List.mem_cons.mp hi).elim (fun e => e ▸ h.keys k hk) (h.old i)
    · exact (List.mem_cons.mp hi).elim (fun e => .inl (e ▸ Tab.placed_insert_self u k v)) (hfound i)
    · simp only [List.map_cons, List.sum_cons]; omega

/-- A write that gives up an entry, or writes over one that is there with one that weighs no more. -/
theorem Tab.Regrown.set [DecidableEq α] (h : Tab.Regrown w t u) {k : Nat} {v : α} (hv : v = default ∨ u.get k ≠ default)
    (hu : w (k, v) ≤ w (k, u.get k)) (ht : w (k, v) ≤ w (k, t.get k)) : Tab.Regrown w t (u.set k v) := by
  by_cases hd : v = default
  · subst hd; rw [Tab.set_default]; exact h.erase k
  · have hlisted : k ∈ u.map Prod.fst := List.mem_map_of_mem (Tab.mem_of_get_ne (hv.resolve_left hd))
    rw [Tab.set, Tab.setD, if_neg hd]
    exact h.insert hlisted hu ht

end Tables

end Sys2Proof.Machine

/-! What gives way when a host's queues and associations end (R91): what the tables, the manifests and the queues that had
ended keep of it. -/

namespace Sys2Proof.Machine

/-- `t` is `s` after ends of queues: of the moored tables only key slots have been given up, no receipt is newly unwanted,
and a queue that had ended is not back. -/
structure Ebbs (s t : State) : Prop where
  mrd : t.mrd = { s.mrd with keys := t.mrd.keys }
  keys : ∀ K, Tab.Regrown (fun _ => 1) K s.mrd.keys → Tab.Regrown (fun _ => 1) K t.mrd.keys
  drop : t.mft.mboxDrop ⊆ s.mft.mboxDrop
  dead : ∀ q, (s.host.queue.get q).live = false → (t.host.queue.get q).live = false

namespace Ebbs

variable {s t u : State}

theorem refl (s : State) : Ebbs s s := ⟨rfl, fun _ h => h, List.Subset.refl _, fun _ h => h⟩

theorem trans (h : Ebbs s t) (h' : Ebbs t u) : Ebbs s u :=
  ⟨h'.mrd.trans (congrArg (fun m : Moored => { m with keys := u.mrd.keys }) h.mrd), fun K hK => h'.keys K (h.keys K hK),
    List.Subset.trans h'.drop h.drop, fun q hq => h'.dead q (h.dead q hq)⟩

theorem of_same (hmrd : t.mrd = s.mrd) (hmft : t.mft = s.mft) (hq : t.host.queue = s.host.queue) : Ebbs s t :=
  ⟨by rw [hmrd], fun K h => by rwa [hmrd], by rw [hmft]; exact List.Subset.refl _, fun q h => by rwa [hq]⟩

theorem ite (p : Prop) [Decidable p] (h : Ebbs s t) (h' : Ebbs s u) : Ebbs s (if p then t else u) := by
  split
  · exact h
  · exact h'

theorem foldl {β : Type} (f : State → β → State) (hf : ∀ t x, Ebbs t (f t x)) (l : List β) (s : State) : Ebbs s (l.foldl f s) :=
  foldl_keeps (Ebbs s) f (fun t x h => h.trans (hf t x)) l s (refl s)


theorem emit (s : State) (o : Out) : Ebbs s (s.emit o) := of_same rfl rfl rfl
theorem updBrg (s : State) (f : Barge → Barge) : Ebbs s (s.updBrg f) := of_same rfl rfl rfl
theorem updBerth (s : State) (b : Nat) (f : Berth → Berth) : Ebbs s (s.updBerth b f) := of_same rfl rfl rfl
theorem updTug (s : State) (f : Tugs → Tugs) : Ebbs s (s.updTug f) := of_same rfl rfl rfl
theorem updCnl (s : State) (f : Canal → Canal) : Ebbs s (s.updCnl f) := of_same rfl rfl rfl
theorem updAry (s : State) (i : Nat) (f : ArrRun → ArrRun) : Ebbs s (s.updAry i f) := of_same rfl rfl rfl
theorem updAssoc (s : State) (c : Nat) (f : Assoc → Assoc) : Ebbs s (s.updAssoc c f) := of_same rfl rfl rfl
theorem tally (s : State) (c i n : Nat) : Ebbs s (s.tally c i n) := of_same (by simp) (by simp) (by simp)

theorem updHost (s : State) {f : HostFace → HostFace} (hf : (f s.host).queue = s.host.queue) : Ebbs s (s.updHost f) :=
  of_same rfl rfl hf

theorem updQueue (s : State) (q : Nat) {f : Queue → Queue} (hf : ∀ x, (f x).live = x.live) : Ebbs s (s.updQueue q f) := by
  refine ⟨rfl, fun _ h => h, List.Subset.refl _, fun x hx => ?_⟩
  rw [State.updQueue, updHost_host, Tab.get_upd]
  split
  · rw [hf]; exact hx
  · exact hx

/-! ## Interlocks and berths -/

theorem askBlks (s : State) (b : Nat) (l : List Nat) : Ebbs s (s.askBlks b l) := of_same rfl rfl rfl

theorem unlockStripe (s : State) (i st : Nat) (h : Holder) : Ebbs s (s.unlockStripe i st h) := by
  unfold State.unlockStripe
  dsimp only
  split
  · exact (updAry s i _).trans (updBrg _ _)
  · exact updAry s i _

theorem wakeHeld (s : State) : Ebbs s s.wakeHeld :=
  foldl _ (fun t b => ite _ ((askBlks t b _).trans (updBerth _ b _)) (refl t)) _ s

theorem wakeMates (s : State) : Ebbs s s.wakeMates := foldl _ (fun t b => ite _ (updBerth t b _) (refl t)) _ s

theorem releaseLocks (s : State) (b : Nat) : Ebbs s (s.releaseLocks b) := by
  unfold State.releaseLocks
  dsimp only
  exact (updHost s rfl).trans (foldl _ (fun t l => unlockStripe t _ _ _) _ _)

theorem untow (s : State) (b : Nat) : Ebbs s (s.untow b) :=
  ((updBrg s _).trans (updBerth _ b _)).trans (ite _ (refl _) (foldl _ (fun t x => updBerth t x _) _ _))

theorem settleAssoc (s : State) (c : Nat) : Ebbs s (s.settleAssoc c) := ite _ (refl s) (updHost s rfl)

theorem settleDying (s : State) : Ebbs s s.settleDying := by
  unfold State.settleDying
  refine foldl _ (fun t d => ?_) _ s
  dsimp only
  refine Ebbs.trans (foldl _ (fun u st => ?_) _ t) (updHost _ rfl)
  exact ((updAry u _ _).trans (unlockStripe _ _ _ _)).trans (updAry _ _ _)

theorem formDone (s : State) (b : Nat) (st : Status) : Ebbs s (s.formDone b st) :=
  (((ite _ (untow s b) (refl s)).trans (updBerth _ b _)).trans (releaseLocks _ _)).trans ((wakeHeld _).trans (wakeMates _))

/-! ## Key slots -/

/-- A receipt that nobody wants any longer is struck off the list of them. -/
theorem sendReceipt_mboxDrop (s : State) (h : Hdr) (r : Receipt) : (s.sendReceipt h r).mft.mboxDrop ⊆ s.mft.mboxDrop := by
  unfold State.sendReceipt
  dsimp only
  split
  · split
    · simpa using List.erase_subset
    · split <;> simp
  · refine foldl_keeps (fun u : State => u.mft.mboxDrop ⊆ s.mft.mboxDrop) _ ?_ _ _ (by simp)
    intro t x ht
    simpa using ht
  · simp

theorem answerSince_mboxDrop (s : State) (q : Nat) (h : Hdr) (op : Nat) (st : MStat) (ps : List (Nat × List Byte)) :
    (s.answerSince q h op st ps).mft.mboxDrop ⊆ s.mft.mboxDrop := by
  have hrec : (s.record h (receiptOf h op st ps)).mft.mboxDrop = s.mft.mboxDrop := by
    unfold State.record; split <;> rfl
  have hsend : ∀ u : State, u.mft.mboxDrop = s.mft.mboxDrop →
      (u.sendReceipt h (receiptOf h op st ps)).mft.mboxDrop ⊆ s.mft.mboxDrop :=
    fun u hu => hu ▸ sendReceipt_mboxDrop u h _
  unfold State.answerSince
  dsimp only
  split <;> split
  · simp [hrec]
  · exact hsend _ (by simpa using hrec)
  · simp [hrec]
  · exact hsend _ hrec

theorem finish (s : State) (r : Running) (st : MStat) (ps : List (List Byte)) : Ebbs s (s.finish r st ps) :=
  ⟨by simp, fun K h => by simpa using h, answerSince_mboxDrop _ _ _ _ _ _, fun q h => by simpa using h⟩

/-- A key slot is given up, or a bank of a slot that is there. -/
theorem moorKey (s : State) (k : Nat) {e : KeySlot} (he : e = default ∨ s.mrd.keys.get k ≠ default) :
    Ebbs s (s.moor (.key k e)) :=
  ⟨by rw [moor_mrd]; rfl, fun K h => by rw [moor_mrd]; exact h.set he (Nat.le_refl _) (Nat.le_refl _),
    by rw [moor_mft]; exact List.Subset.refl _, fun q h => by simpa using h⟩

theorem forgetKey (s : State) (k : Nat) (b : Bool) : Ebbs s (s.forgetKey k b) := of_same rfl rfl rfl
theorem updSlot (s : State) (k : Nat) (f : SlotRun → SlotRun) : Ebbs s (s.updSlot k f) := of_same rfl rfl rfl

theorem settleSlot (s : State) (k : Nat) : Ebbs s (s.settleSlot k) := by
  unfold State.settleSlot
  dsimp only
  split
  · split
    · exact refl s
    · have hgone := (((moorKey s k (.inl rfl)).trans (forgetKey _ k true)).trans (forgetKey _ k false)).trans
        (updSlot _ k fun r => { r with retired := false, zeroising := false })
      split
      · exact hgone.trans (finish _ _ _ _)
      · exact hgone
  · split
    · split
      · exact refl s
      · refine ((moorKey s k ?_).trans (forgetKey _ _ _)).trans (updSlot _ _ _)
        by_cases h : s.mrd.keys.get k = default
        · exact .inl (by rw [h]; decide)
        · exact .inr h
    · exact refl s

theorem settleSlots (s : State) : Ebbs s s.settleSlots := foldl _ settleSlot _ s

theorem releaseBerth (s : State) (b : Nat) : Ebbs s (s.releaseBerth b) :=
  ite _ ((((releaseLocks s b).trans (updBrg _ _)).trans (wakeHeld _)).trans
    (((settleSlots _).trans (settleDying _)).trans (settleAssoc _ _))) (refl s)

/-! ## Ends of queues and associations -/

theorem discardDone (s : State) (b : Nat) : Ebbs s (s.discardDone b) := (updBerth s b _).trans (releaseBerth _ b)

theorem dropFetch (s : State) (b : Nat) : Ebbs s (s.dropFetch b) :=
  ite _ (((updBerth s b _).trans (formDone _ b _)).trans (discardDone _ b)) (refl s)

theorem dropQueued (s : State) (b : Nat) : Ebbs s (s.dropQueued b) :=
  (((untow s b).trans (updBrg _ _)).trans ((wakeHeld _).trans (wakeMates _))).trans (settleAssoc _ _)

theorem closeCtx (s : State) (i : Nat) : Ebbs s (s.closeCtx i) :=
  Ebbs.trans (of_same (by simp) (by simp) (by simp)) (updCnl _ _)

theorem settleSpill (s : State) : Ebbs s s.settleSpill := by
  have hmarks : ∀ u : State, Ebbs s u → Ebbs s (match u.cnl.spillSize with
      | some n => if u.cnl.spilled = 0 then (u.cfgFld Fld.CNL_SPILL_CFG_SIZE_GIB n).updCnl fun c => { c with spillSize := none } else u
      | none => u) := fun u hu => by
    split
    · exact ite _ (hu.trans (.trans (of_same (by simp) (by simp) (by simp)) (updCnl _ _))) hu
    · exact hu
  exact hmarks _ ((foldl _ (fun t _ => updCnl t _) _ s).trans (updCnl _ _))

theorem dropCopies (s : State) (i : Nat) (gone : List CellDst) : Ebbs s (s.dropCopies i gone) :=
  (updCnl s _).trans (settleSpill _)

theorem cancelFlow (s : State) (b : Nat) : Ebbs s (s.cancelFlow b) :=
  (foldl _ closeCtx _ s).trans
    (foldl _ (fun t _ => ite _ (refl t) ((foldl _ (fun u _ => tally u _ _ _) _ t).trans (dropCopies _ _ _))) _ _)

theorem flushQueue (s : State) (q : Nat) : Ebbs s (s.flushQueue q) := by
  have hmate : ∀ t b, Ebbs t ((t.berth b).mate.elim t t.dropFetch) := fun t b => by
    cases (t.berth b).mate with
    | none => exact refl t
    | some m => exact dropFetch t m
  unfold State.flushQueue
  dsimp only
  refine (((updQueue s q ?_).trans (foldl _ dropQueued _ _)).trans (foldl _ (fun t b => ?_) _ _)).trans
    (foldl _ discardDone _ _)
  · exact fun _ => rfl
  · exact ((hmate t b).trans (dropFetch _ b)).trans (cancelFlow _ b)

theorem dropQueue (s : State) (q : Nat) : Ebbs s (s.dropQueue q) := by
  refine (flushQueue s q).trans ⟨rfl, fun _ h => h, List.Subset.refl _, fun x hx => ?_⟩
  rw [State.dropQueue, updHost_host, Tab.get_set]
  split
  · rfl
  · exact hx

theorem endTransport (s : State) (q : Nat) : Ebbs s (s.endTransport q) :=
  ite _ (of_same rfl rfl rfl) (ite _ (of_same rfl rfl rfl) (refl s))

theorem tearDown (s : State) (c : Nat) : Ebbs s (s.tearDown c) :=
  ((foldl _ (fun t q => (dropQueue t q).trans (endTransport _ q)) _ s).trans (ite _ (updBrg _ _) (refl _))).trans
    ((updAssoc _ c _).trans (settleAssoc _ c))

end Ebbs

end Sys2Proof.Machine

/-! What the completion of a command on a queue leaves as it was, and what it sends (R48). -/

namespace Sys2Proof.Machine

section Respond

variable (s : State) (q cid : Nat) (st : Status)

theorem calm_respond_message : Calm s ((s.emit (.response q cid (s.host.queue.get q).sqhd st)).sendResp q none) :=
  (Calm.emit s _).trans (Calm.sendResp _ q none)

@[simp] theorem respond_mrd : (s.respond q cid st).mrd = s.mrd := (calm_respond_message s q cid st).mrd
@[simp] theorem respond_brg : (s.respond q cid st).brg = s.brg := (calm_respond_message s q cid st).brg
@[simp] theorem respond_pair : (s.respond q cid st).pair = s.pair := (calm_respond_message s q cid st).pair
@[simp] theorem respond_ary : (s.respond q cid st).ary = s.ary := (calm_respond_message s q cid st).ary

theorem respond_host : (s.respond q cid st).host =
    { s.host with queue := s.host.queue.upd q fun e => { e with cids := e.cids.erase cid } } := by
  rw [State.respond, State.updQueue, updHost_host, (calm_respond_message s q cid st).host]

@[simp] theorem respond_assoc : (s.respond q cid st).host.assoc = s.host.assoc := by rw [respond_host]

/-- The queue's record after the completion: the identifier is free again. -/
@[simp] theorem respond_queue : (s.respond q cid st).host.queue.get q =
    { s.host.queue.get q with cids := (s.host.queue.get q).cids.erase cid } := by
  rw [State.respond, queue_updQueue_same, (calm_respond_message s q cid st).host]

theorem respond_queue_ne {x : Nat} (h : q ≠ x) : (s.respond q cid st).host.queue.get x = s.host.queue.get x := by
  rw [State.respond, queue_updQueue_ne _ _ (Ne.symm h), (calm_respond_message s q cid st).host]

theorem out_prefix_respond : s.out <+: (s.respond q cid st).out := (calm_respond_message s q cid st).out

theorem mem_out_respond {o : Out} (h : o ∈ s.out) : o ∈ (s.respond q cid st).out := (out_prefix_respond s q cid st).subset h

/-- The completion leaves with the response of `State.respond`. -/
theorem responded_respond : (s.respond q cid st).responded q cid st :=
  .inl ⟨_, (Calm.sendResp (s.emit _) q none).out.subset (List.mem_append_right _ (List.mem_singleton_self _))⟩

end Respond

/-- Outputs that are there stay there. -/
theorem State.responded.mono {s t : State} {q cid : Nat} {st : Status} (h : s.responded q cid st)
    (hout : s.out ⊆ t.out) (hpair : t.pair = s.pair) : t.responded q cid st :=
  h.imp (fun ⟨hd, hm⟩ => ⟨hd, hout hm⟩) fun ⟨n, hd, hm⟩ => ⟨n, hd, hpair ▸ hm⟩

section Queues

variable (s : State) (q c : Nat)

@[simp] theorem updQueue_assoc (f : Queue → Queue) : (s.updQueue q f).host.assoc = s.host.assoc := rfl
@[simp] theorem updAssoc_queue (f : Assoc → Assoc) : (s.updAssoc c f).host.queue = s.host.queue := rfl

@[simp] theorem updQueue_mrd (f : Queue → Queue) : (s.updQueue q f).mrd = s.mrd := rfl
@[simp] theorem updAssoc_mrd (f : Assoc → Assoc) : (s.updAssoc c f).mrd = s.mrd := rfl

/-- An admin capsule that finds room and a free identifier (R44, R47, R49). -/
theorem adminIn_of_room {cid : Nat} {s : State} (k : State → State) (hid : cid ∉ (s.host.queue.get q).cids)
    (hroom : (s.host.queue.get q).cids.length ≤ (s.host.queue.get q).sqsize) : s.adminIn q cid k = k (s.advanceHead q) := by
  have hnew : (s.host.queue.get q).cids.contains cid = false := by simpa using hid
  simp only [State.adminIn, if_neg (show ¬ (s.host.queue.get q).sqsize + 1 ≤ (s.host.queue.get q).cids.length by omega), hnew,
    Bool.false_eq_true, if_false]

@[simp] theorem advanceHead_assoc : (s.advanceHead q).host.assoc = s.host.assoc := rfl
@[simp] theorem advanceHead_mrd : (s.advanceHead q).mrd = s.mrd := rfl
@[simp] theorem advanceHead_brg : (s.advanceHead q).brg = s.brg := rfl
@[simp] theorem advanceHead_out : (s.advanceHead q).out = s.out := rfl

end Queues

end Sys2Proof.Machine

/-! Connect, properties, Disconnect, authentication and Keep Alive (02_host_face.md, R36 to R44, R458). -/

namespace Sys2Proof.Machine

/-! ## Connect -/

theorem firstFrom_isSome_of_any {n : Nat} {p : Nat → Bool} (a : Nat) (h : (List.range n).any p = true) :
    (firstFrom n a p).isSome = true := by
  obtain ⟨i, hi, hp⟩ := List.any_eq_true.mp h
  have hi' : i < n := List.mem_range.mp hi
  have hmod : (a + (i + (n - a % n))) % n = i := by
    have hlt := Nat.mod_lt a (Nat.zero_lt_of_lt hi')
    have hsum : a + (i + (n - a % n)) = i + n * (a / n + 1) := by
      have := Nat.div_add_mod a n
      rw [Nat.mul_add, Nat.mul_one]; omega
    rw [hsum, Nat.add_mul_mod_self_left, Nat.mod_eq_of_lt hi']
  rw [firstFrom, List.find?_isSome]
  refine ⟨i, List.mem_map.mpr ⟨(i + (n - a % n)) % n, List.mem_range.mpr (Nat.mod_lt _ (Nat.zero_lt_of_lt hi')), ?_⟩, hp⟩
  rw [Nat.add_mod_mod]; exact hmod

/-- Homing a queue chooses its engine alone (R97). -/
theorem homeQueue_spec (s : State) (q : Nat) : (∃ home, (s.homeQueue q).host.queue.get q = { s.host.queue.get q with home := home }) ∧
    (s.homeQueue q).host.assoc = s.host.assoc ∧ (s.homeQueue q).mrd = s.mrd := by
  unfold State.homeQueue
  split
  · exact ⟨⟨_, queue_updQueue_same s q _⟩, rfl, rfl⟩
  · exact ⟨⟨_, queue_updQueue_same s q _⟩, rfl, rfl⟩

/-- A queue keeps the record that it is created with, and an engine's home. -/
theorem addQueue_spec (s : State) (q c qid sqsize : Nat) (required : Bool) :
    (∃ home, (s.addQueue q c qid sqsize required).host.queue.get q = { (default : Queue) with
      live := true, cntlid := c, qid := qid, sqsize := sqsize, home := home
      authBy := if required then some (s.now + 2000000000) else none, authOk := !required }) ∧
    (s.addQueue q c qid sqsize required).host.assoc = s.host.assoc ∧ (s.addQueue q c qid sqsize required).mrd = s.mrd := by
  let e : Queue := { (default : Queue) with
    live := true, cntlid := c, qid := qid, sqsize := sqsize
    authBy := if required then some (s.now + 2000000000) else none, authOk := !required }
  let u := s.updHost fun h => { h with queue := h.queue.set q e }
  let v := if isTcp q then u else u.updQp q fun x => { x with cntlid := c, qid := qid, host := (u.host.assoc.get c).host }
  have hhost : v.host = u.host := by unfold v; split <;> rfl
  have hmrd : v.mrd = s.mrd := by unfold v; split <;> rfl
  have hq : v.host.queue.get q = e := by rw [hhost]; exact Tab.get_set_eq s.host.queue q e
  obtain ⟨⟨home, hhome⟩, hassoc, hkeep⟩ := homeQueue_spec v q
  exact ⟨⟨home, by rw [hq] at hhome; exact hhome⟩, by rw [State.addQueue, hassoc, hhost]; rfl, hkeep.trans hmrd⟩

/-- The association that an admin Connect of a listed host makes (R36, R37). -/
def State.newAssoc (s : State) (q hn un hostId kato : Nat) : Assoc :=
  { (default : Assoc) with
    live := true, host := hn, subsys := un, adminQ := q, katoMs := katoOf kato, kaSince := s.now
    wish := (s.mrd.hosts.get hn).p.defPs, tempOver := 0xFFFF, aec := aecStart, hostId := hostId }

theorem exec_connect_admin {q cid nqn sub hostId sqsize kato cattr hn un : Nat} {s : State}
    (hq : q < 65536 ∧ (s.qp q).state = .rts ∧ (s.host.queue.get q).live = false ∧ s.isStandby = false ∧ s.pair.tko = none)
    (hnames : s.hostOf nqn = some hn ∧ s.subsysOf sub = some un ∧ sub ≠ discoveryNqn ∧ s.listed (s.srcOf q).2 = true)
    (hops : un ∈ (s.mrd.hosts.get hn).p.reach ∧ 1 ≤ sqsize ∧ sqsize ≤ 31 ∧ cattr.testBit 2 = false)
    (hroom : (s.assocs fun _ => true).length < 8192 ∧ (s.assocs fun a => a.host == hn).length <
      (s.mrd.hosts.get hn).p.maxAssoc)
    (hfree : (s.homeEngine 0).isSome = true ∧
      ((List.range 8192).any fun i => decide (s.host.assoc.get (i + 1) = default)) = true) :
    ∃ t, exec (.connect q cid nqn sub hostId 0xFFFF 0 sqsize kato cattr) s = .next t ∧
      (t.host.queue.get q).live = true ∧ (t.host.queue.get q).qid = 0 ∧ (t.host.queue.get q).sqsize = sqsize ∧
      (t.host.assoc.get (t.host.queue.get q).cntlid).live = true ∧
      (t.host.assoc.get (t.host.queue.get q).cntlid).host = hn ∧
      (t.host.assoc.get (t.host.queue.get q).cntlid).subsys = un ∧
      (t.host.assoc.get (t.host.queue.get q).cntlid).katoMs = katoOf kato ∧ t.mrd = s.mrd := by
  obtain ⟨hlt, hrts, hdead, hstandby, htko⟩ := hq
  obtain ⟨hhost, hsub, hdisc, hlisted⟩ := hnames
  obtain ⟨hreach, hsq1, hsq31, hcattr⟩ := hops
  obtain ⟨hall, hmine⟩ := hroom
  obtain ⟨hhome, hcntlid⟩ := hfree
  have hrc : isTcp q = false := decide_eq_false (by omega)
  have hconnectable : s.connectable q = true := by
    simp [State.connectable, hdead, hstandby, htko, hrc, hlt, hrts]
  have hon : s.connectOn q = some (s, q) := if_pos (.inr hlt)
  have hmay : (s.mrd.hosts.get hn).p.reach.contains un = true := List.contains_iff_mem.mpr hreach
  have hnew : (sub == discoveryNqn) = false := beq_eq_false_iff_ne.mpr hdisc
  obtain ⟨i, hi⟩ := Option.isSome_iff_exists.mp (firstFrom_isSome_of_any s.freeVal hcntlid)
  have hhomed : (s.homeEngine 0).isNone = false := by simpa [Option.isSome_iff_ne_none] using hhome
  have hnext : exec (.connect q cid nqn sub hostId 0xFFFF 0 sqsize kato cattr) s =
      .next (s.connectAdmin q cid (some hn) (some un) hostId 0xFFFF sqsize kato cattr) := by
    simp only [exec, execConnect, hconnectable, hnew, hhost, hsub, hlisted, hon, hmay, Option.any_some, Option.isSome_some,
      Bool.not_true, Bool.false_eq_true, Bool.and_self, if_false, if_true]
  refine ⟨_, hnext, ?_⟩
  have hok : ¬ ((0xFFFF : Nat) ≠ 0xFFFF ∨ cattr.testBit 2 = true ∨ sqsize = 0 ∨ 31 < sqsize) := by
    rw [hcattr]; simp; omega
  have hfits : ¬ (8192 ≤ (s.assocs fun _ => true).length ∨ ((some hn).isSome = true ∧
      (s.mrd.hosts.get hn).p.maxAssoc ≤ (s.assocs fun a => a.host == hn).length) ∨ (s.homeEngine 0).isNone = true) := by
    rw [hhomed]; simp; omega
  let a := s.newAssoc q hn un hostId kato
  have hmade : ∃ required st, s.connectAdmin q cid (some hn) (some un) hostId 0xFFFF sqsize kato cattr =
      ((s.tick.updHost fun x => { x with assoc := x.assoc.set (i + 1) a }).addQueue q (i + 1) 0 sqsize required).respond
        q cid st := by
    simp only [State.connectAdmin, if_neg hok, Option.getD_some, if_neg hfits, hi]
    exact ⟨_, _, rfl⟩
  obtain ⟨required, st, hmade⟩ := hmade
  obtain ⟨⟨home, hqueue⟩, hkeep, hmrd⟩ :=
    addQueue_spec (s.tick.updHost fun x => { x with assoc := x.assoc.set (i + 1) a }) q (i + 1) 0 sqsize required
  have hget : (s.connectAdmin q cid (some hn) (some un) hostId 0xFFFF sqsize kato cattr).host.assoc.get (i + 1) = a := by
    rw [hmade, respond_assoc, hkeep]; exact Tab.get_set_eq s.host.assoc (i + 1) a
  have hq : ∃ e : Queue, (s.connectAdmin q cid (some hn) (some un) hostId 0xFFFF sqsize kato cattr).host.queue.get q = e ∧
      e.live = true ∧ e.qid = 0 ∧ e.sqsize = sqsize ∧ e.cntlid = i + 1 :=
    ⟨_, by rw [hmade, respond_queue, hqueue], rfl, rfl, rfl, rfl⟩
  obtain ⟨e, hq, hlive, hqid, hsize, hc⟩ := hq
  rw [hq, hc, hget]
  exact ⟨hlive, hqid, hsize, rfl, rfl, rfl, rfl, by rw [hmade, respond_mrd, hmrd]; rfl⟩

/-! ## Properties -/

theorem exec_propertyGet_cc {q cid k : Nat} {s : State}
    (h : s.adminOf q = some k ∧ cid ∉ (s.host.queue.get q).cids ∧
      (s.host.queue.get q).cids.length ≤ (s.host.queue.get q).sqsize) :
    ∃ t, exec (.propertyGet q cid 0x14) s = .next t ∧
      Out.adminInfo q cid 0x7F04 [(s.host.assoc.get k).cc] ∈ t.out ∧ t.responded q cid St.ok ∧
      t.host.assoc = s.host.assoc ∧ t.mrd = s.mrd := by
  obtain ⟨hadmin, hid, hroom⟩ := h
  refine ⟨((s.advanceHead q).tick.emit (.adminInfo q cid 0x7F04 [(s.host.assoc.get k).cc])).respond q cid St.ok, ?_,
    mem_out_respond _ _ _ _ (List.mem_append_right _ (List.mem_singleton_self _)), responded_respond _ _ _ _, by simp, by simp⟩
  simp only [exec, execPropertyGet, hadmin, adminIn_of_room q _ hid hroom]
  rfl

theorem exec_propertySet_cc {q cid k v : Nat} {s : State}
    (h : s.adminOf q = some k ∧ cid ∉ (s.host.queue.get q).cids ∧
      (s.host.queue.get q).cids.length ≤ (s.host.queue.get q).sqsize)
    (hv : v.testBit 0 = true ∨ (s.host.assoc.get k).ready = false) :
    ∃ t, exec (.propertySet q cid 0x14 v) s = .next t ∧
      (t.host.assoc.get k).cc = v % 2 ^ 32 ∧ (t.host.assoc.get k).ready = v.testBit 0 ∧
      t.responded q cid St.ok ∧ t.mrd = s.mrd := by
  obtain ⟨hadmin, hid, hroom⟩ := h
  have hset : (s.advanceHead q).setCc q k v = (s.advanceHead q).updAssoc k fun a =>
      { a with cc := v % 2 ^ 32, ready := v.testBit 0, shutdown := decide (bitsOf v 14 2 ≠ 0) } := by
    have hkeep : ¬ ((((s.advanceHead q).host.assoc.get k).ready = true) ∧ (!v.testBit 0) = true) := by
      rw [advanceHead_assoc]
      rintro ⟨hready, hoff⟩
      rcases hv with hv | hv
      · rw [hv] at hoff; cases hoff
      · rw [hv] at hready; cases hready
    simp only [State.setCc, if_neg hkeep]
  refine ⟨((s.advanceHead q).setCc q k v).respond q cid St.ok, ?_, ?_, ?_, responded_respond _ _ _ _, by simp [hset]⟩
  · simp only [exec, execPropertySet, hadmin, adminIn_of_room q _ hid hroom, ne_eq, not_true_eq_false, if_false]
  all_goals rw [respond_assoc, hset, assoc_updAssoc_same]

/-! ## Disconnect -/

theorem berths_eq_nil_of_imp {s : State} {p p' : Berth → Bool} (h : s.berths p = []) (hp : ∀ b, p' b = true → p b = true) :
    s.berths p' = [] := by
  simp only [State.berths, Tab.keysWhere, List.map_eq_nil_iff, List.filter_eq_nil_iff] at h ⊢
  exact fun e he hb => h e he (hp _ hb)

theorem berths_congr {s t : State} (h : t.brg = s.brg) (p : Berth → Bool) : t.berths p = s.berths p := by
  rw [State.berths, h]; rfl

/-- The flush of a queue that no berth belongs to (R91). -/
theorem flushQueue_of_idle {s : State} {q : Nat} (h : (s.berths fun b => b.cmd.qref == q && b.state != .free) = []) :
    s.flushQueue q = s.updQueue q fun e => { e with sq := [], commits := [], cids := [], aborted := [] } := by
  have hnone : ∀ p : Berth → Bool, (s.updQueue q fun e => { e with sq := [], commits := [], cids := [], aborted := [] }).berths
      (fun b => b.cmd.qref == q && b.state != .free && p b) = [] := fun p =>
    berths_eq_nil_of_imp (p := fun b => b.cmd.qref == q && b.state != .free) h fun b hb => by
      simp only [Bool.and_eq_true] at hb ⊢; exact hb.1
  unfold State.flushQueue
  simp only [Bool.and_assoc] at hnone ⊢
  simp only [hnone, List.foldl_nil]

theorem endTransport_host (s : State) (q : Nat) : (s.endTransport q).host = s.host := by
  unfold State.endTransport
  split
  · rfl
  · split <;> rfl

theorem endTransport_spec (s : State) (q : Nat) : (s.endTransport q).mrd = s.mrd ∧ (s.endTransport q).pair = s.pair ∧
    s.out ⊆ (s.endTransport q).out := by
  unfold State.endTransport
  split
  · exact ⟨rfl, rfl, List.subset_append_left _ _⟩
  · split
    · exact ⟨rfl, rfl, List.subset_append_left _ _⟩
    · exact ⟨rfl, rfl, List.Subset.refl _⟩

theorem exec_disconnect_io {q cid : Nat} {s : State}
    (h : (s.host.queue.get q).live = true ∧ (s.host.queue.get q).qid ≠ 0)
    (hb : (s.berths fun b => b.cmd.qref == q && b.state != .free) = []) :
    ∃ t, exec (.disconnect q cid) s = .next t ∧
      (t.host.queue.get q) = default ∧ t.responded q cid St.ok ∧ t.host.assoc = s.host.assoc ∧ t.mrd = s.mrd := by
  obtain ⟨hlive, hqid⟩ := h
  let u := s.updQueue q fun q => { q with sq := [], aborted := [], disconnect := some cid }
  have hidle : ∀ c, (u.berths fun b => b.cmd.qref == q && b.cntlid == c && b.state != .free && !b.posted) = [] := fun c =>
    berths_eq_nil_of_imp (s := u) (p := fun b => b.cmd.qref == q && b.state != .free) hb fun b hb => by
      simp only [Bool.and_eq_true] at hb ⊢; exact ⟨hb.1.1.1, hb.1.2⟩
  let v := u.respond q cid St.ok
  have hflush : v.flushQueue q = v.updQueue q fun e => { e with sq := [], commits := [], cids := [], aborted := [] } :=
    flushQueue_of_idle ((berths_congr (respond_brg u q cid St.ok) _).trans hb)
  have hwaits : (u.host.queue.get q).disconnect = some cid := by rw [queue_updQueue_same]
  have hsettle : u.settleQueue q = (v.dropQueue q).endTransport q := by
    simp only [State.settleQueue, hwaits, hidle, List.isEmpty_nil, if_true]; rfl
  obtain ⟨hmrd, hpair, hout⟩ := endTransport_spec (v.dropQueue q) q
  refine ⟨(v.dropQueue q).endTransport q, ?_, ?_, ?_, ?_, ?_⟩
  · simp only [exec, execDisconnect, hlive, hqid, Bool.not_true, Bool.false_eq_true, if_false]
    exact congrArg _ hsettle
  · rw [endTransport_host]
    exact Tab.get_set_eq (v.flushQueue q).host.queue q default
  · refine (responded_respond u q cid St.ok).mono ?_ ?_
    · refine List.Subset.trans ?_ hout
      rw [State.dropQueue, hflush]; exact List.Subset.refl _
    · rw [hpair, State.dropQueue, hflush]; rfl
  · rw [endTransport_host, State.dropQueue, hflush]
    exact respond_assoc u q cid St.ok
  · rw [hmrd, State.dropQueue, hflush]
    exact respond_mrd u q cid St.ok

/-- An association torn down has no live record, no parked event and no wish (R91). -/
theorem tearDown_assoc (s : State) (c : Nat) : ((s.tearDown c).host.assoc.get c).live = false ∧
    ((s.tearDown c).host.assoc.get c).aers = [] ∧ ((s.tearDown c).host.assoc.get c).wish = 0 := by
  unfold State.tearDown
  dsimp only
  generalize (if (State.berth _ (c - 1)).admin then _ else _ : State) = u
  unfold State.settleAssoc
  split
  · rw [assoc_updAssoc_same]; exact ⟨rfl, rfl, rfl⟩
  · have hgone : ((u.updAssoc c fun a => { a with live := false, aers := [], slot := none, adminSq := [], wish := 0 }).updHost
        fun h => { h with assoc := h.assoc.set c default }).host.assoc.get c = default := Tab.get_set_eq (State.updAssoc u c _).host.assoc c default
    rw [hgone]; exact ⟨rfl, rfl, rfl⟩

theorem exec_disconnect_admin {q cid : Nat} {s : State}
    (h : (s.host.queue.get q).live = true ∧ (s.host.queue.get q).qid = 0) :
    ∃ t, exec (.disconnect q cid) s = .next t ∧ (t.host.assoc.get (s.host.queue.get q).cntlid).live = false := by
  obtain ⟨hlive, hqid⟩ := h
  refine ⟨(s.respond q cid St.ok).tearDown (s.host.queue.get q).cntlid, ?_, (tearDown_assoc _ _).1⟩
  simp only [exec, execDisconnect, hlive, hqid, Bool.not_true, Bool.false_eq_true, if_false, if_true]

/-! ## Authentication -/

theorem exec_authSend_in_turn {q cid : Nat} {m : AuthMsg} {s t : State} (hlive : (s.host.queue.get q).live = true)
    (hpolicy : (s.mrd.hosts.get (s.queueHost q)).p.policy ≠ .none) (hm : s.authSend q m = (t, true)) :
    exec (.authenticationSend q cid m) s = .next (t.respond q cid St.ok) := by
  simp only [exec, execAuthenticationSend, hlive, hpolicy, Bool.not_true, Bool.false_eq_true, if_false, hm]

theorem exec_authSend_out_of_turn {q cid : Nat} {m : AuthMsg} {s t : State} (hlive : (s.host.queue.get q).live = true)
    (hpolicy : (s.mrd.hosts.get (s.queueHost q)).p.policy ≠ .none) (hm : s.authSend q m = (t, false)) :
    exec (.authenticationSend q cid m) s = .next (t.authFail q) := by
  simp only [exec, execAuthenticationSend, hlive, hpolicy, Bool.not_true, Bool.false_eq_true, if_false, hm]

/-- A message in turn changes the queue's transaction alone and is answered. -/
theorem exec_authSend_of_turn {q cid : Nat} {m : AuthMsg} {s u : State} {f : Queue → Queue}
    (hlive : (s.host.queue.get q).live = true)
    (hpolicy : (s.mrd.hosts.get (s.queueHost q)).p.policy ≠ .none) (hu : u.host = s.host ∧ u.mrd = s.mrd)
    (hm : s.authSend q m = (u.updQueue q f, true)) :
    ∃ t, exec (.authenticationSend q cid m) s = .next t ∧
      t.host.queue.get q = { f (s.host.queue.get q) with cids := (f (s.host.queue.get q)).cids.erase cid } ∧
      t.responded q cid St.ok ∧ t.host.assoc = s.host.assoc ∧ t.mrd = s.mrd := by
  obtain ⟨hhost, hmrd⟩ := hu
  refine ⟨(u.updQueue q f).respond q cid St.ok, exec_authSend_in_turn hlive hpolicy hm, ?_, responded_respond _ _ _ _, ?_, ?_⟩
  · rw [respond_queue, queue_updQueue_same, hhost]
  · rw [respond_assoc, updQueue_assoc, hhost]
  · rw [respond_mrd, updQueue_mrd, hmrd]

/-- Authentication that fails ends the queue, and its association with it (R40, R91). -/
theorem authFail_ends {q : Nat} {s : State} (hlive : (s.host.queue.get q).live = true) (hlt : q < 65536)
    (hrts : (s.qp q).state = .rts) : ((s.authFail q).host.queue.get q).live = false ∧
      ((s.authFail q).host.assoc.get (s.host.queue.get q).cntlid).live = false := by
  have hrc : isTcp q = false := decide_eq_false (by omega)
  have hfail : s.authFail q = ((s.updQp q fun x =>
      { x with state := .error, flushed := false, msgs := [], sent := [], sendQ := [] }).dropQueue q).tearDown
        (s.host.queue.get q).cntlid := by
    simp only [State.authFail, State.qpError, hrc, hrts, hlive, Bool.false_eq_true, if_false, if_true, true_or]
  rw [hfail]
  refine ⟨(Ebbs.tearDown _ _).dead q ?_, (tearDown_assoc _ _).1⟩
  exact congrArg Queue.live (Tab.get_set_eq (State.flushQueue _ q).host.queue q default)

theorem exec_authSend_negotiate {q cid g : Nat} {hashes groups : List Nat} {s : State}
    (h : (s.host.queue.get q).live = true ∧ (s.mrd.hosts.get (s.queueHost q)).p.policy ≠ .none ∧
      (s.host.queue.get q).auth.step = .idle)
    (hoffer : (s.mrd.hosts.get (s.queueHost q)).hash ∈ hashes ∧
      (groups.find? fun x => [0, 1, 2, 3, 4, 5].contains x) = some g) :
    ∃ t, exec (.authenticationSend q cid (.negotiate hashes groups)) s = .next t ∧
      (t.host.queue.get q).auth = ⟨.challenged, (s.mrd.hosts.get (s.queueHost q)).hash, g, s.freeVal, none⟩ ∧
      t.responded q cid St.ok ∧ t.host.assoc = s.host.assoc ∧ t.mrd = s.mrd := by
  obtain ⟨hlive, hpolicy, hidle⟩ := h
  obtain ⟨hhash, hgroup⟩ := hoffer
  have hhash' : hashes.contains (s.mrd.hosts.get (s.queueHost q)).hash = true := List.contains_iff_mem.mpr hhash
  have hgroup' : groups.find? dhGroups.contains = some g := hgroup
  have hturn : s.authSend q (.negotiate hashes groups) = (s.tick.updQueue q fun x =>
      { x with auth := ⟨.challenged, (s.mrd.hosts.get (s.queueHost q)).hash, g, s.freeVal, none⟩ }, true) := by
    simp only [State.authSend, hidle, hhash', hgroup']
  obtain ⟨t, hexec, hqueue, hrest⟩ := exec_authSend_of_turn (u := s.tick) (cid := cid) hlive hpolicy ⟨rfl, rfl⟩ hturn
  exact ⟨t, hexec, by rw [hqueue], hrest⟩

theorem exec_authSend_reply {q cid : Nat} {ch : Option Nat} {s : State}
    (h : (s.host.queue.get q).live = true ∧ (s.mrd.hosts.get (s.queueHost q)).p.policy ≠ .none ∧
      (s.host.queue.get q).auth.step = .challenged)
    (hnone : (s.host.queue.get q).auth.hostChallenge = none) :
    ∃ t, exec (.authenticationSend q cid (.reply (Config.chapResponse (s.mrd.hosts.get (s.queueHost q)).hostSecret
      (s.host.queue.get q).auth.hash (s.host.queue.get q).auth.group (s.host.queue.get q).auth.challenge) ch)) s = .next t ∧
      (t.host.queue.get q).auth = { (s.host.queue.get q).auth with step := .success, hostChallenge := ch } ∧
      t.responded q cid St.ok ∧ t.host.assoc = s.host.assoc ∧ t.mrd = s.mrd := by
  obtain ⟨hlive, hpolicy, hstep⟩ := h
  cases ch with
  | none =>
    have hturn : s.authSend q (.reply (Config.chapResponse (s.mrd.hosts.get (s.queueHost q)).hostSecret
        (s.host.queue.get q).auth.hash (s.host.queue.get q).auth.group (s.host.queue.get q).auth.challenge) none) =
        (s.updQueue q fun x => { x with auth := { x.auth with step := .success } }, true) := by
      simp only [State.authSend, hstep, ne_eq, not_true_eq_false, if_false]
    obtain ⟨t, hexec, hqueue, hrest⟩ := exec_authSend_of_turn (cid := cid) hlive hpolicy ⟨rfl, rfl⟩ hturn
    exact ⟨t, hexec, by rw [hqueue, ← hnone], hrest⟩
  | some c =>
    have hturn : s.authSend q (.reply (Config.chapResponse (s.mrd.hosts.get (s.queueHost q)).hostSecret
        (s.host.queue.get q).auth.hash (s.host.queue.get q).auth.group (s.host.queue.get q).auth.challenge) (some c)) =
        (s.updQueue q fun x => { x with auth := { x.auth with step := .success, hostChallenge := some c } }, true) := by
      simp only [State.authSend, hstep, ne_eq, not_true_eq_false, if_false]
    obtain ⟨t, hexec, hqueue, hrest⟩ := exec_authSend_of_turn (cid := cid) hlive hpolicy ⟨rfl, rfl⟩ hturn
    exact ⟨t, hexec, by rw [hqueue], hrest⟩

theorem exec_authSend_success2 {q cid : Nat} {s : State}
    (h : (s.host.queue.get q).live = true ∧ (s.mrd.hosts.get (s.queueHost q)).p.policy ≠ .none ∧
      (s.host.queue.get q).auth.step = .waitHost) :
    ∃ t, exec (.authenticationSend q cid .success2) s = .next t ∧
      (t.host.queue.get q).authOk = true ∧ (t.host.queue.get q).authBy = none ∧ t.responded q cid St.ok ∧
      t.host.assoc = s.host.assoc ∧ t.mrd = s.mrd := by
  obtain ⟨hlive, hpolicy, hstep⟩ := h
  have hturn : s.authSend q .success2 = (s.updQueue q fun e => { e with authOk := true, authBy := none, auth := default }, true) := by
    simp only [State.authSend, hstep]; rfl
  obtain ⟨t, hexec, hqueue, hrest⟩ := exec_authSend_of_turn (cid := cid) hlive hpolicy ⟨rfl, rfl⟩ hturn
  exact ⟨t, hexec, by rw [hqueue], by rw [hqueue], hrest⟩

theorem exec_authSend_wrong {q cid w : Nat} {ch : Option Nat} {s : State}
    (h : (s.host.queue.get q).live = true ∧ (s.mrd.hosts.get (s.queueHost q)).p.policy ≠ .none ∧
      (s.host.queue.get q).auth.step = .challenged)
    (hw : w ≠ Config.chapResponse (s.mrd.hosts.get (s.queueHost q)).hostSecret (s.host.queue.get q).auth.hash
      (s.host.queue.get q).auth.group (s.host.queue.get q).auth.challenge)
    (hqp : q < 65536 ∧ (s.qp q).state = .rts) :
    ∃ t, exec (.authenticationSend q cid (.reply w ch)) s = .next t ∧
      (t.host.queue.get q).live = false ∧ (t.host.assoc.get (s.host.queue.get q).cntlid).live = false := by
  obtain ⟨hlive, hpolicy, hstep⟩ := h
  obtain ⟨hlt, hrts⟩ := hqp
  have hturn : s.authSend q (.reply w ch) = (s, false) := by
    simp only [State.authSend, hstep, ne_eq, hw, not_false_eq_true, if_true]
  exact ⟨s.authFail q, exec_authSend_out_of_turn hlive hpolicy hturn, authFail_ends hlive hlt hrts⟩

/-- A message that is there is read. -/
theorem exec_authReceive {q cid : Nat} {l : List Nat} {s t : State} (hlive : (s.host.queue.get q).live = true)
    (hm : s.authReceive q = (t, some l)) : exec (.authenticationReceive q cid) s =
      .next ((t.emit (.adminInfo q cid 0x7F06 l)).respond q cid St.ok) := by
  simp only [exec, execAuthenticationReceive, hlive, Bool.not_true, Bool.false_eq_true, if_false, hm]

theorem exec_authReceive_challenge {q cid : Nat} {s : State}
    (h : (s.host.queue.get q).live = true ∧ (s.host.queue.get q).auth.step = .challenged) :
    ∃ t, exec (.authenticationReceive q cid) s = .next t ∧
      Out.adminInfo q cid 0x7F06 [1, (s.host.queue.get q).auth.hash, (s.host.queue.get q).auth.group,
        (s.host.queue.get q).auth.challenge] ∈ t.out ∧
      t.responded q cid St.ok ∧ t.host.assoc = s.host.assoc ∧ t.mrd = s.mrd := by
  obtain ⟨hlive, hstep⟩ := h
  refine ⟨_, exec_authReceive hlive (t := s) (by simp only [State.authReceive, hstep]; rfl), ?_, responded_respond _ _ _ _, ?_, ?_⟩
  · exact mem_out_respond _ _ _ _ (List.mem_append_right _ (List.mem_singleton_self _))
  · rw [respond_assoc]; rfl
  · rw [respond_mrd]; rfl

theorem exec_authReceive_success {q cid : Nat} {s : State}
    (h : (s.host.queue.get q).live = true ∧ (s.host.queue.get q).auth.step = .success ∧
      (s.host.queue.get q).auth.hostChallenge = none) :
    ∃ t, exec (.authenticationReceive q cid) s = .next t ∧
      (t.host.queue.get q).authOk = true ∧ (t.host.queue.get q).authBy = none ∧ t.responded q cid St.ok := by
  obtain ⟨hlive, hstep, hnone⟩ := h
  have hdone : ((s.authDone q).host.queue.get q) = { s.host.queue.get q with authOk := true, authBy := none, auth := default } :=
    queue_updQueue_same s q _
  refine ⟨_, exec_authReceive hlive (t := s.authDone q) (by simp only [State.authReceive, hstep, hnone]; rfl), ?_, ?_,
    responded_respond _ _ _ _⟩ <;> rw [respond_queue, emit_host, hdone]

theorem exec_authReceive_challenged {q cid c : Nat} {s : State}
    (h : (s.host.queue.get q).live = true ∧ (s.host.queue.get q).auth.step = .success ∧
      (s.host.queue.get q).auth.hostChallenge = some c) :
    ∃ t, exec (.authenticationReceive q cid) s = .next t ∧
      (t.host.queue.get q).auth.step = .waitHost ∧ (t.host.queue.get q).authOk = (s.host.queue.get q).authOk ∧
        t.responded q cid St.ok ∧
      Out.adminInfo q cid 0x7F06 [3, Config.chapResponse (s.mrd.hosts.get (s.queueHost q)).ctrlSecret
        (s.host.queue.get q).auth.hash (s.host.queue.get q).auth.group c] ∈ t.out := by
  obtain ⟨hlive, hstep, hsome⟩ := h
  refine ⟨_, exec_authReceive hlive (t := s.updQueue q fun x => { x with auth := { x.auth with step := .waitHost } })
    (by simp only [State.authReceive, hstep, hsome]), ?_, ?_, responded_respond _ _ _ _,
    mem_out_respond _ _ _ _ (List.mem_append_right _ (List.mem_singleton_self _))⟩ <;>
    rw [respond_queue, emit_host, queue_updQueue_same]

theorem exec_authTimeout {q : Nat} {s : State}
    (h : (s.host.queue.get q).live = true ∧ (s.host.queue.get q).authBy.isSome = true ∧ (s.host.queue.get q).authOk = false)
    (hqp : q < 65536 ∧ (s.qp q).state = .rts) :
    ∃ t, exec (.authenticationTimeout q) s = .next t ∧ (t.host.queue.get q).live = false := by
  obtain ⟨hlive, hby, hok⟩ := h
  refine ⟨s.authFail q, ?_, (authFail_ends hlive hqp.1 hqp.2).1⟩
  simp only [exec, execAuthenticationTimeout, hlive, hby, hok, Bool.not_false, and_self, if_true]

/-! ## Keep Alive -/

theorem exec_keepAlive {q cid k : Nat} {s : State}
    (h : s.adminOf q = some k ∧ cid ∉ (s.host.queue.get q).cids ∧
      (s.host.queue.get q).cids.length ≤ (s.host.queue.get q).sqsize) :
    ∃ t, exec (.keepAlive q cid) s = .next t ∧
      (t.host.assoc.get k).kaSince = s.now ∧ t.responded q cid St.ok ∧ t.mrd = s.mrd ∧ t.brg = s.brg := by
  obtain ⟨hadmin, hid, hroom⟩ := h
  refine ⟨_, ?_, ?_, responded_respond ((s.advanceHead q).updAssoc k fun a => { a with kaSince := s.now }) q cid St.ok, ?_, ?_⟩
  · simp only [exec, execKeepAlive, hadmin, State.keepAlive, adminIn_of_room q _ hid hroom]; rfl
  · rw [respond_assoc, assoc_updAssoc_same]
  · rw [respond_mrd]; rfl
  · rw [respond_brg]; rfl

theorem exec_keepAliveTimeout {k : Nat} {s : State}
    (h : (s.host.assoc.get k).live = true ∧ (s.host.assoc.get k).katoMs ≠ 0) :
    ∃ t, exec (.keepAliveTimeout k) s = .next t ∧
      (t.host.assoc.get k).live = false ∧ (t.host.assoc.get k).aers = [] ∧ (t.host.assoc.get k).wish = 0 :=
  ⟨s.tearDown k, by simp only [exec, execKeepAliveTimeout, if_pos h], tearDown_assoc s k⟩

/-- Settles O23: each clause is one row's equation on its success path; the ends of associations are `tearDown_assoc`. -/
theorem connectAndQueueEndsChangeAssociations : Obligations.ConnectAndQueueEndsChangeAssociations :=
  ⟨fun _ _ _ _ _ _ _ _ _ _ _ => exec_connect_admin, fun _ _ _ _ => exec_propertyGet_cc, fun _ _ _ _ _ => exec_propertySet_cc,
    fun _ _ _ => exec_disconnect_io, fun _ _ _ => exec_disconnect_admin, fun _ _ _ _ _ _ => exec_authSend_negotiate,
    fun _ _ _ _ => exec_authSend_reply, fun _ _ _ => exec_authSend_success2, fun _ _ _ _ _ => exec_authSend_wrong,
    fun _ _ _ => exec_authReceive_challenge, fun _ _ _ => exec_authReceive_success, fun _ _ _ _ => exec_authReceive_challenged,
    fun _ _ => exec_authTimeout, fun _ _ _ _ => exec_keepAlive, fun _ _ => exec_keepAliveTimeout⟩

end Sys2Proof.Machine

/-! Admin commands (02_host_face.md, R41 to R46, R54 to R62). -/

namespace Sys2Proof.Machine

/-! ## A command in the free slot -/

/-- The state in which an admin command that is served at once is executed: behind the queue, and in the slot (R43). -/
def State.atSlot (s : State) (k : Nat) (c : AdminCmd) : State := (s.adminQueued k c).inSlot k c

section Slot

variable {s t : State} {k : Nat} {c : AdminCmd}

/-- Queueing and the slot concern the host face and the slot's berth alone. -/
theorem atSlot_frame (s : State) (k : Nat) (c : AdminCmd) : (s.atSlot k c).mrd = s.mrd ∧ (s.atSlot k c).pair = s.pair ∧
    (s.atSlot k c).fw = s.fw ∧ (s.atSlot k c).rst = s.rst ∧ (s.atSlot k c).regs = s.regs ∧
    (s.atSlot k c).brg.eng = s.brg.eng ∧ (s.atSlot k c).host.queue = (s.adminQueued k c).host.queue := by
  simp [State.atSlot, State.inSlot, State.slotBerth, State.adminQueued, State.advanceHead, State.updQueue, State.updAssoc]

@[simp] theorem atSlot_mrd : (s.atSlot k c).mrd = s.mrd := (atSlot_frame s k c).1
@[simp] theorem atSlot_pair : (s.atSlot k c).pair = s.pair := (atSlot_frame s k c).2.1
@[simp] theorem atSlot_fw : (s.atSlot k c).fw = s.fw := (atSlot_frame s k c).2.2.1
@[simp] theorem atSlot_eng : (s.atSlot k c).brg.eng = s.brg.eng := (atSlot_frame s k c).2.2.2.2.2.1

theorem lkServes_atSlot : (s.atSlot k c).lkServes = s.lkServes := by
  obtain ⟨-, hpair, -, hrst, hregs, -⟩ := atSlot_frame s k c
  have hreg : ∀ a, (s.atSlot k c).reg a = s.reg a := fun a => by rw [State.reg, hregs]; rfl
  have hfld : (s.atSlot k c).fld Fld.TWP_PWR_STATE_CUR = s.fld Fld.TWP_PWR_STATE_CUR := by rw [State.fld, hreg]; rfl
  rw [State.lkServes, hpair, hrst, hfld]; rfl

theorem sees_atSlot (a : Assoc) (nsid : Nat) : (s.atSlot k c).sees a nsid = s.sees a nsid := by
  rw [State.sees, atSlot_mrd]; rfl

theorem outOfSlot_frame (s : State) (k : Nat) : (s.outOfSlot k).mrd = s.mrd ∧ (s.outOfSlot k).pair = s.pair ∧
    (s.outOfSlot k).out = s.out ∧ (s.outOfSlot k).brg.eng = s.brg.eng ∧ (s.outOfSlot k).host.queue = s.host.queue := by
  simp [State.outOfSlot, State.slotBerth, State.updAssoc]

theorem berth_slotBerth (s : State) (k : Nat) (c : Option AdminCmd) {b : Nat} (hb : b ≠ k - 1) :
    (s.slotBerth k c).berth b = s.berth b := Tab.get_set_ne s.brg.berth _ (Ne.symm hb)

theorem berth_atSlot {b : Nat} (hb : b ≠ k - 1) : (s.atSlot k c).berth b = s.berth b := berth_slotBerth _ k _ hb

theorem berth_outOfSlot {b : Nat} (hb : b ≠ k - 1) : (s.outOfSlot k).berth b = s.berth b := berth_slotBerth s k none hb

theorem assoc_atSlot : (s.atSlot k c).host.assoc.get k = { s.host.assoc.get k with slot := some c, adminSq := [] } := by
  rw [State.atSlot, assoc_inSlot, assoc_adminQueued]

theorem queue_atSlot {q : Nat} (hq : q ≠ c.qref) : (s.atSlot k c).host.queue.get q = s.host.queue.get q := by
  obtain ⟨-, -, -, -, -, -, hqueue⟩ := atSlot_frame s k c
  rw [hqueue, State.adminQueued, updAssoc_queue, queue_updQueue_ne _ _ hq, State.advanceHead, queue_updQueue_ne _ _ hq]

/-- An admin command that is taken at once is executed in the slot (R43, R49). -/
theorem adminArrive_of_taken (ht : s.adminTaken c k = true) : s.adminArrive c = (s.atSlot k c).serveSlot k 3 ∧
    (s.host.assoc.get k).live = true ∧ (s.atSlot k c).lkServes = true ∧ (s.host.assoc.get k).slot = none ∧
    (s.host.assoc.get k).adminSq = [] ∧ (s.host.assoc.get k).format = none ∧ s.adminOf c.qref = some k := by
  simp only [State.adminTaken, Bool.and_eq_true, beq_iff_eq, decide_eq_true_eq, Bool.not_eq_true', List.isEmpty_iff,
    Option.isNone_iff_eq_none] at ht
  obtain ⟨⟨⟨⟨⟨⟨⟨⟨hk, hauth⟩, hroom⟩, hid⟩, hlive⟩, hslot⟩, hsq⟩, hformat⟩, hserves⟩ := ht
  have harrive : s.adminArrive c = (s.adminQueued k c).serveAdmin k := by
    unfold State.adminArrive State.adminIn
    simp only [hk, hauth, hid]
    rw [if_neg (Nat.not_le.2 (Nat.lt_succ_of_le hroom))]
    rfl
  have hq : ((s.adminQueued k c).host.assoc.get k).adminSq = [c] := by rw [assoc_adminQueued, hsq]; rfl
  have hfree : ((s.adminQueued k c).host.assoc.get k).slot = none := by rw [assoc_adminQueued]; exact hslot
  have htake : (s.adminQueued k c).serveAdmin k = (s.atSlot k c).serveSlot k 3 := by
    unfold State.serveAdmin
    rw [hq, show 2 * ([c].length + 1) = 4 from rfl, State.serveSlot]
    simp only [hfree, hq]
    rfl
  exact ⟨harrive.trans htake, hlive, lkServes_atSlot.trans hserves, hslot, hsq, hformat, hk⟩

/-- The slot stands free with nothing behind it. -/
theorem serveSlot_of_idle (hslot : (s.host.assoc.get k).slot = none) (hsq : (s.host.assoc.get k).adminSq = []) (n : Nat) :
    s.serveSlot k n = s := by
  cases n with
  | zero => rfl
  | succ n => rw [State.serveSlot]; simp only [hslot, hsq]

/-- A command that ends in its slot leaves it, with nothing behind it. -/
theorem serveSlot_of_ends {st : Status} (hl : s.lkServes = true) (hs : (s.host.assoc.get k).slot = some c)
    (hrun : s.adminRun k c = (t, some st)) (hlive : (t.host.assoc.get k).live = true)
    (hsq : (t.host.assoc.get k).adminSq = []) (hpair : t.pair = s.pair) (n : Nat) :
    s.serveSlot k (n + 1) = (t.outOfSlot k).respond c.qref c.cid st := by
  have hend : s.slotEnd t k c st = (t.outOfSlot k).respond c.qref c.cid st := by
    have hlive' : ((t.outOfSlot k).host.assoc.get k).live = true := by rw [assoc_outOfSlot]; exact hlive
    exact (if_pos hlive').trans (holdNew_of_pair ((respond_pair (t.outOfSlot k) _ _ _).trans
      ((outOfSlot_frame t k).2.1.trans hpair)))
  rw [State.serveSlot]
  simp only [hs, hl, hrun, hend, Bool.not_true, Bool.false_eq_true, if_false]
  exact serveSlot_of_idle (by rw [respond_assoc, assoc_outOfSlot]) (by rw [respond_assoc, assoc_outOfSlot]; exact hsq) n

/-- An admin command that is taken at once and ends: what it leaves is its effect, the slot free again, and its completion. -/
theorem adminArrive_of_ends {st : Status} (ht : s.adminTaken c k = true)
    (hrun : (s.atSlot k c).adminRun k c = (t, some st)) (hlive : (t.host.assoc.get k).live = (s.host.assoc.get k).live)
    (hsq : (t.host.assoc.get k).adminSq = []) (hpair : t.pair = s.pair) :
    s.adminArrive c = (t.outOfSlot k).respond c.qref c.cid st := by
  obtain ⟨harrive, ha, hl, -⟩ := adminArrive_of_taken ht
  rw [harrive]
  exact serveSlot_of_ends hl (by rw [assoc_atSlot]) hrun (hlive.trans ha) hsq (hpair.trans atSlot_pair.symm) 2

/-- The same, told of what its end leaves. -/
theorem adminArrive_leaves {st : Status} (ht : s.adminTaken c k = true)
    (hrun : (s.atSlot k c).adminRun k c = (t, some st)) (hlive : (t.host.assoc.get k).live = (s.host.assoc.get k).live)
    (hsq : (t.host.assoc.get k).adminSq = []) (hpair : t.pair = s.pair) :
    ∃ u, s.adminArrive c = u ∧ u.responded c.qref c.cid st ∧ u.mrd = t.mrd ∧ u.brg.eng = t.brg.eng ∧
      (∀ b, b ≠ k - 1 → u.berth b = t.berth b) ∧ t.out ⊆ u.out ∧
      u.host.assoc.get k = { t.host.assoc.get k with slot := none, format := none } ∧
      ∀ q, (u.host.queue.get q).aborted = (t.host.queue.get q).aborted := by
  obtain ⟨hmrd, -, hout, heng, hqueue⟩ := outOfSlot_frame t k
  refine ⟨_, adminArrive_of_ends ht hrun hlive hsq hpair, responded_respond _ _ _ _, ?_, ?_, fun b hb => ?_, ?_, ?_,
    fun q => ?_⟩
  · rw [respond_mrd, hmrd]
  · rw [respond_brg, heng]
  · rw [State.berth, respond_brg]; exact berth_outOfSlot hb
  · rw [← hout]; exact (out_prefix_respond _ _ _ _).subset
  · rw [respond_assoc, assoc_outOfSlot]
  · by_cases hq : c.qref = q
    · subst hq; rw [respond_queue, hqueue]
    · rw [respond_queue_ne _ _ _ _ hq, hqueue]

end Slot

/-! ## Identify, Get Log Page and the features -/

theorem exec_identify {c : AdminCmd} {k : Nat} {s : State}
    (h : s.adminTaken c k = true ∧ bitsOf c.cdw10 0 8 = 0 ∧ s.sees (s.host.assoc.get k) c.nsid = true) :
    ∃ t, exec (.nvmeIdentify c) s = .next t ∧
      t.responded c.qref c.cid St.ok ∧ t.mrd = s.mrd ∧ t.brg.eng = s.brg.eng ∧
      (∀ b, b ≠ k - 1 → t.berth b = s.berth b) ∧
      (∃ l, Out.adminInfo c.qref c.cid 0x600 ([(s.mrd.ns.get c.nsid).size, (s.mrd.ns.get c.nsid).size,
        (s.mrd.ns.get c.nsid).size] ++ l) ∈ t.out) := by
  obtain ⟨ht, hcns, hsees⟩ := h
  let c' : AdminCmd := { c with opcode := 0x06 }
  obtain ⟨l, hdata⟩ : ∃ l, (s.atSlot k c').identifyData ((s.atSlot k c').host.assoc.get k) c' k =
      some ([(s.mrd.ns.get c.nsid).size, (s.mrd.ns.get c.nsid).size, (s.mrd.ns.get c.nsid).size] ++ l) := by
    have hsees' : (s.atSlot k c').sees ((s.atSlot k c').host.assoc.get k) c.nsid = true := by
      rw [sees_atSlot, assoc_atSlot]; exact hsees
    simp only [State.identifyData, c', hcns, hsees', if_true, atSlot_mrd, List.cons_append, List.nil_append]
    exact ⟨_, rfl⟩
  let o : Out := .adminInfo c.qref c.cid 0x600 ([(s.mrd.ns.get c.nsid).size, (s.mrd.ns.get c.nsid).size,
    (s.mrd.ns.get c.nsid).size] ++ l)
  obtain ⟨t, hrun, hcalm, ho⟩ : ∃ t, (s.atSlot k c').adminRun k c' = (t, some St.ok) ∧ Calm (s.atSlot k c') t ∧ o ∈ t.out := by
    have hop : c'.opcode = 0x06 := rfl
    refine ⟨((s.atSlot k c').tick.emit o).sendBytes c.qref 4096, ?_, ?_, ?_⟩
    · simp only [State.adminRun, hop, hdata]
      simp only [c', hcns]
      rfl
    · exact ((Calm.tick _).trans (Calm.emit _ o)).trans (Calm.sendBytes _ _ _)
    · exact (Calm.sendBytes _ _ _).out.subset (List.mem_append_right _ (List.mem_singleton_self _))
  have hassoc : t.host.assoc.get k = { s.host.assoc.get k with slot := some c', adminSq := [] } := by
    rw [hcalm.host]; exact assoc_atSlot
  obtain ⟨u, hu, hresp, hmrd, heng, hberth, hout, -⟩ := adminArrive_leaves (c := c') ht hrun (by rw [hassoc]) (by rw [hassoc])
    (hcalm.pair.trans atSlot_pair)
  refine ⟨u, congrArg _ hu, hresp, (hmrd.trans hcalm.mrd).trans atSlot_mrd, ?_, fun b hb => ?_, l, hout ho⟩
  · rw [heng, hcalm.brg]; exact atSlot_eng
  · rw [hberth b hb, State.berth, hcalm.brg]; exact berth_atSlot hb

theorem exec_firmwareLog {c : AdminCmd} {k : Nat} {s : State}
    (h : s.adminTaken c k = true ∧ bitsOf c.cdw10 0 8 = 3 ∧ (s.host.assoc.get k).discovery = false) :
    ∃ t, exec (.getLogPage c) s = .next t ∧
      t.responded c.qref c.cid St.ok ∧ t.mrd = s.mrd ∧
      Out.adminInfo c.qref c.cid 0x203 [s.fw.running, s.fw.version] ∈ t.out := by
  obtain ⟨ht, hlid, hdisc⟩ := h
  let c' : AdminCmd := { c with opcode := 0x02 }
  let o : Out := .adminInfo c.qref c.cid 0x203 [s.fw.running, s.fw.version]
  let n := (bitsOf c.cdw10 16 16 + 65536 * bitsOf c.cdw11 0 16 + 1) * 4
  let v := ((s.atSlot k c').tick.emit o).sendBytes c.qref n
  have hcalm : Calm (s.atSlot k c') v := ((Calm.tick _).trans (Calm.emit _ o)).trans (Calm.sendBytes _ _ _)
  have ho : o ∈ v.out := (Calm.sendBytes _ _ _).out.subset (List.mem_append_right _ (List.mem_singleton_self _))
  have hdisc' : ((s.atSlot k c').host.assoc.get k).discovery = false := by rw [assoc_atSlot]; exact hdisc
  obtain ⟨t, hrun, hmrd, hpair, hout, hlive, hsq⟩ : ∃ t, (s.atSlot k c').adminRun k c' = (t, some St.ok) ∧ t.mrd = v.mrd ∧
      t.pair = v.pair ∧ t.out = v.out ∧ (t.host.assoc.get k).live = (v.host.assoc.get k).live ∧
      (t.host.assoc.get k).adminSq = (v.host.assoc.get k).adminSq := by
    refine ⟨if c.cdw10.testBit 15 then v else v.updAssoc k fun a =>
      { a with unread := a.unread.erase 3, changed := a.changed }, ?_, ?_⟩
    · simp only [State.adminRun, State.doLogPage, c', hlid, hdisc', State.logInfo, atSlot_fw]
      rfl
    · split
      · exact ⟨rfl, rfl, rfl, rfl, rfl⟩
      · simp [State.updAssoc]
  have hassoc : v.host.assoc.get k = { s.host.assoc.get k with slot := some c', adminSq := [] } := by
    rw [hcalm.host]; exact assoc_atSlot
  obtain ⟨u, hu, hresp, humrd, -, -, huout, -⟩ := adminArrive_leaves (c := c') ht hrun (by rw [hlive, hassoc])
    (by rw [hsq, hassoc]) ((hpair.trans hcalm.pair).trans atSlot_pair)
  exact ⟨u, congrArg _ hu, hresp, ((humrd.trans hmrd).trans hcalm.mrd).trans atSlot_mrd, huout (hout ▸ ho)⟩

theorem exec_setAec {c : AdminCmd} {k : Nat} {s : State} (h : s.adminTaken c k = true ∧ bitsOf c.cdw10 0 8 = 0x0B) :
    ∃ t, exec (.setFeatures c) s = .next t ∧
      t.responded c.qref c.cid St.ok ∧ (t.host.assoc.get k).aec = c.cdw11 ∧ t.mrd = s.mrd := by
  obtain ⟨ht, hfid⟩ := h
  let c' : AdminCmd := { c with opcode := 0x09 }
  let t := (s.atSlot k c').updAssoc k fun a => { a with aec := c.cdw11 }
  have hrun : (s.atSlot k c').adminRun k c' = (t, some St.ok) := by
    simp only [State.adminRun, State.doSetFeature, c', hfid]
    rfl
  have hassoc : t.host.assoc.get k = { s.host.assoc.get k with slot := some c', adminSq := [], aec := c.cdw11 } := by
    rw [assoc_updAssoc_same, assoc_atSlot]
  have hpair : t.pair = s.pair := (show t.pair = (s.atSlot k c').pair by simp [t, State.updAssoc]).trans atSlot_pair
  obtain ⟨u, hu, hresp, hmrd, -, -, -, huassoc, -⟩ := adminArrive_leaves (c := c') ht hrun (by rw [hassoc]) (by rw [hassoc])
    hpair
  exact ⟨u, congrArg _ hu, hresp, by rw [huassoc, hassoc], (hmrd.trans (updAssoc_mrd _ _ _)).trans atSlot_mrd⟩

theorem exec_getAec {c : AdminCmd} {k : Nat} {s : State}
    (h : s.adminTaken c k = true ∧ bitsOf c.cdw10 0 8 = 0x0B ∧ bitsOf c.cdw10 8 3 = 0) :
    ∃ t, exec (.getFeatures c) s = .next t ∧
      t.responded c.qref c.cid ⟨0, 0, false, (s.host.assoc.get k).aec⟩ ∧
      t.host.assoc.get k = s.host.assoc.get k ∧ t.mrd = s.mrd := by
  obtain ⟨ht, hfid, hsel⟩ := h
  let c' : AdminCmd := { c with opcode := 0x0A }
  have hassoc : (s.atSlot k c').host.assoc.get k = { s.host.assoc.get k with slot := some c', adminSq := [] } := assoc_atSlot
  have hrun : (s.atSlot k c').adminRun k c' = (s.atSlot k c', some ⟨0, 0, false, (s.host.assoc.get k).aec⟩) := by
    have hop : c'.opcode = 0x0A := rfl
    simp only [State.adminRun, hop, State.doGetFeature, hassoc]
    simp only [c', hfid, hsel, if_true]
  obtain ⟨u, hu, hresp, hmrd, -, -, -, huassoc, -⟩ := adminArrive_leaves (c := c') ht hrun (by rw [hassoc]) (by rw [hassoc])
    atSlot_pair
  obtain ⟨-, -, -, hslot, hsq, hformat, -⟩ := adminArrive_of_taken ht
  refine ⟨u, congrArg _ hu, hresp, ?_, hmrd.trans atSlot_mrd⟩
  rw [huassoc, hassoc, ← hslot, ← hsq, ← hformat]

/-! ## Abort -/

section Lookup

variable {α : Type}

theorem Tab.filter_insert (t : Tab α) (k : Nat) (v : α) {f : Nat × α → Bool} (hf : ∀ x, f (k, x) = false) :
    (Tab.insert t k v).filter f = t.filter f := by
  induction t with
  | nil => simp [Tab.insert, hf]
  | cons e t ih =>
    obtain ⟨j, x⟩ := e
    simp only [Tab.insert]
    split
    · simp [hf]
    · split
      · subst_vars; simp [hf]
      · simp only [List.filter_cons, ih]

/-- Entries of other keys stand where they stood. -/
theorem Tab.filter_set [Inhabited α] [DecidableEq α] (t : Tab α) (k : Nat) (v : α) {f : Nat × α → Bool} (hf : ∀ x, f (k, x) = false) :
    (t.set k v).filter f = t.filter f := by
  unfold Tab.set Tab.setD
  split
  · rw [Tab.erase, List.filter_filter]
    refine List.filter_congr fun e _ => ?_
    by_cases hk : e.1 = k
    · have hfe : f e = false := by rw [← hf e.2, ← hk]
      simp [hfe]
    · simp [hk]
  · exact Tab.filter_insert t k v hf

theorem Tab.find?_keysWhere (t : Tab α) (f : Nat → α → Bool) (p : Nat → Bool) :
    (t.keysWhere f).find? p = ((t.filter fun e => f e.1 e.2 && p e.1).map Prod.fst).head? := by
  rw [Tab.keysWhere, List.find?_map, ← List.head?_filter, List.filter_filter, List.head?_map]
  simp only [Function.comp_def, Bool.and_comm]

/-- A search that passes over a key does not see what has changed there. -/
theorem Tab.find?_keysWhere_set [Inhabited α] [DecidableEq α] (t : Tab α) (k : Nat) (v : α) (f : Nat → α → Bool) {p : Nat → Bool} (hp : p k = false) :
    ((t.set k v).keysWhere f).find? p = (t.keysWhere f).find? p := by
  rw [Tab.find?_keysWhere, Tab.find?_keysWhere, Tab.filter_set]
  intro x
  rw [hp, Bool.and_false]

end Lookup

theorem exec_abort_waiting {c : AdminCmd} {k q : Nat} {s : State}
    (h : s.adminTaken c k = true ∧ bitsOf c.cdw10 0 16 ≠ 0 ∧ q ≠ c.qref)
    (hq : ((s.queuesOf k).find? fun x => (s.host.queue.get x).qid == bitsOf c.cdw10 0 16) = some q)
    (hcid : ((s.host.queue.get q).sq.any fun x => x.cid == bitsOf c.cdw10 16 16) = true) :
    ∃ t, exec (.abort c) s = .next t ∧
      t.responded c.qref c.cid St.ok ∧
      (t.host.queue.get q).aborted = (s.host.queue.get q).aborted ++ [bitsOf c.cdw10 16 16] ∧
      t.brg.eng = s.brg.eng ∧ t.mrd = s.mrd ∧ (∀ b, b ≠ k - 1 → t.berth b = s.berth b) := by
  obtain ⟨ht, hsqid, hne⟩ := h
  obtain ⟨-, -, -, -, -, -, hadmin⟩ := adminArrive_of_taken ht
  let c' : AdminCmd := { c with opcode := 0x08 }
  have hadminQid : (s.host.queue.get c.qref).qid = 0 := by
    simp only [State.adminOf] at hadmin
    split at hadmin
    · rename_i hlive
      simp only [Bool.and_eq_true, beq_iff_eq] at hlive
      exact hlive.2
    · cases hadmin
  have hsame : ∀ x, ((s.atSlot k c').host.queue.get x).qid = (s.host.queue.get x).qid := fun x => by
    by_cases hx : x = c.qref
    · obtain ⟨-, -, -, -, -, -, hqueue⟩ := atSlot_frame s k c'
      subst hx
      rw [hqueue, State.adminQueued, updAssoc_queue, queue_updQueue_same, State.advanceHead, queue_updQueue_same]
    · exact congrArg Queue.qid (queue_atSlot hx)
  have hfind : (((s.atSlot k c').queuesOf k).find? fun x => ((s.atSlot k c').host.queue.get x).qid == bitsOf c.cdw10 0 16) =
      some q := by
    have hpass : ((s.host.queue.get c.qref).qid == bitsOf c.cdw10 0 16) = false :=
      by
      rw [hadminQid]; exact beq_eq_false_iff_ne.mpr (Ne.symm hsqid)
    obtain ⟨-, -, -, -, -, -, hqueue⟩ := atSlot_frame s k c'
    simp only [hsame]
    rw [State.queuesOf, hqueue]
    exact (Tab.find?_keysWhere_set _ c.qref _ _ hpass).trans ((Tab.find?_keysWhere_set _ c.qref _ _ hpass).trans hq)
  have hget : (s.atSlot k c').host.queue.get q = s.host.queue.get q := queue_atSlot hne
  let t := (s.atSlot k c').updQueue q fun e => { e with aborted := e.aborted ++ [bitsOf c.cdw10 16 16] }
  have hrun : (s.atSlot k c').adminRun k c' = (t, some St.ok) := by
    simp only [State.adminRun, State.doAbort, c', hsqid, if_false, hfind, hget, hcid, if_true]
    rfl
  have hassoc : t.host.assoc.get k = { s.host.assoc.get k with slot := some c', adminSq := [] } := by
    rw [updQueue_assoc, assoc_atSlot]
  have hframe : t.pair = (s.atSlot k c').pair ∧ t.brg = (s.atSlot k c').brg ∧ t.mrd = (s.atSlot k c').mrd := by
    simp [t, State.updQueue]
  obtain ⟨hpair, hbrg, hmrd⟩ := hframe
  obtain ⟨u, hu, hresp, humrd, heng, hberth, -, -, haborted⟩ := adminArrive_leaves (c := c') ht hrun (by rw [hassoc])
    (by rw [hassoc]) (hpair.trans atSlot_pair)
  refine ⟨u, congrArg _ hu, hresp, ?_, ?_, (humrd.trans hmrd).trans atSlot_mrd, fun b hb => ?_⟩
  · rw [haborted, queue_updQueue_same, hget]
  · rw [heng, hbrg]; exact atSlot_eng
  · rw [hberth b hb, State.berth, hbrg]; exact berth_atSlot hb

/-! ## Events -/

theorem exec_aer {q cid k : Nat} {s : State}
    (h : s.adminOf q = some k ∧ cid ∉ (s.host.queue.get q).cids ∧
      (s.host.queue.get q).cids.length ≤ (s.host.queue.get q).sqsize)
    (hfew : (s.host.assoc.get k).aers.length < 16) :
    ∃ t, exec (.asynchronousEventRequest q cid) s = .next t ∧
      (t.host.assoc.get k).aers = (s.host.assoc.get k).aers ++ [cid] ∧ t.out = s.out ∧ t.mrd = s.mrd := by
  obtain ⟨hadmin, hid, hroom⟩ := h
  refine ⟨((s.advanceHead q).updQueue q fun e => { e with cids := e.cids ++ [cid] }).updAssoc k fun a =>
    { a with aers := a.aers ++ [cid] }, ?_, ?_, ?_, ?_⟩
  · simp only [exec, execAsynchronousEventRequest, hadmin, State.aer, adminIn_of_room q _ hid hroom, advanceHead_assoc,
      Nat.not_le.mpr hfew, if_false]
  · rw [assoc_updAssoc_same, updQueue_assoc, advanceHead_assoc]
  · simp [State.updAssoc, State.updQueue]
  · simp

theorem assoc_updAssoc_ne (s : State) {j k : Nat} (f : Assoc → Assoc) (h : j ≠ k) :
    (s.updAssoc j f).host.assoc.get k = s.host.assoc.get k := Tab.get_upd_ne s.host.assoc f h

/-- The threshold marks of a temperature report that crosses none (R44, R61). -/
def State.tempNoted (s : State) (l : List Nat) : State :=
  l.foldl (fun s k => s.updAssoc k fun a => { a with tempHigh := false, tempLow := false }) s

theorem tempNoted_frame (s : State) (l : List Nat) : (s.tempNoted l).out = s.out ∧ (s.tempNoted l).mrd = s.mrd :=
  foldl_keeps (fun t : State => t.out = s.out ∧ t.mrd = s.mrd) _
    (fun t k h => ⟨by simpa [State.updAssoc] using h.1, by simpa using h.2⟩) l s ⟨rfl, rfl⟩

/-- A note of a temperature report leaves an association's thresholds, and the marks it has cleared. -/
theorem tempNoted_assoc (s : State) (l : List Nat) (k : Nat) :
    ((s.tempNoted l).host.assoc.get k).tempOver = (s.host.assoc.get k).tempOver ∧
    ((s.tempNoted l).host.assoc.get k).tempUnder = (s.host.assoc.get k).tempUnder ∧
    (k ∈ l ∨ (s.host.assoc.get k).tempHigh = false ∧ (s.host.assoc.get k).tempLow = false →
      ((s.tempNoted l).host.assoc.get k).tempHigh = false ∧ ((s.tempNoted l).host.assoc.get k).tempLow = false) := by
  induction l generalizing s with
  | nil => exact ⟨rfl, rfl, fun h => h.resolve_left List.not_mem_nil⟩
  | cons x l ih =>
    obtain ⟨hover, hunder, hclear⟩ := ih (s.updAssoc x fun a => { a with tempHigh := false, tempLow := false })
    rw [State.tempNoted, List.foldl_cons, ← State.tempNoted]
    by_cases hx : x = k
    · subst hx
      rw [assoc_updAssoc_same] at hover hunder hclear
      exact ⟨hover, hunder, fun _ => hclear (.inr ⟨rfl, rfl⟩)⟩
    · have hne : (s.updAssoc x fun a => { a with tempHigh := false, tempLow := false }).host.assoc.get k = s.host.assoc.get k :=
        assoc_updAssoc_ne s _ hx
      rw [hne] at hover hunder hclear
      exact ⟨hover, hunder, fun h => hclear (h.imp_left fun hk => (List.mem_cons.mp hk).resolve_left (Ne.symm hx))⟩

/-- What a temperature report does to one association (R44, R61). -/
def State.tempNote (kelvin : Nat) (s : State) (k : Nat) : State :=
  let a := s.host.assoc.get k
  let high := decide (a.tempOver ≤ kelvin)
  let low := decide (kelvin ≤ a.tempUnder)
  let s := s.updAssoc k fun a => { a with tempHigh := high, tempLow := low }
  if ((high && !a.tempHigh) || (low && !a.tempLow)) && a.aec.testBit 1 then s.postAen k 1 1 2 else s

theorem tempNote_of_between {kelvin k : Nat} {s : State} (h : (s.host.assoc.get k).tempUnder < kelvin ∧
    kelvin < (s.host.assoc.get k).tempOver) :
    s.tempNote kelvin k = s.updAssoc k fun a => { a with tempHigh := false, tempLow := false } := by
  simp only [State.tempNote, Nat.not_le.mpr h.1, Nat.not_le.mpr h.2, decide_false, Bool.false_and, Bool.or_self,
    Bool.false_eq_true, if_false]

theorem foldl_tempNote {kelvin : Nat} {l : List Nat} {s : State} (h : ∀ k ∈ l, (s.host.assoc.get k).tempUnder < kelvin ∧
    kelvin < (s.host.assoc.get k).tempOver) : l.foldl (State.tempNote kelvin) s = s.tempNoted l := by
  induction l generalizing s with
  | nil => rfl
  | cons x l ih =>
    rw [List.foldl_cons, tempNote_of_between (h x List.mem_cons_self), State.tempNoted, List.foldl_cons, ← State.tempNoted]
    refine ih fun k hk => ?_
    obtain ⟨hover, hunder, -⟩ := tempNoted_assoc s [x] k
    exact ⟨hunder ▸ (h k (List.mem_cons_of_mem _ hk)).1, hover ▸ (h k (List.mem_cons_of_mem _ hk)).2⟩

theorem exec_temperature_between {kelvin : Nat} {s : State}
    (h : ∀ k ∈ s.assocs fun a => !a.discovery, (s.host.assoc.get k).tempUnder < kelvin ∧
      kelvin < (s.host.assoc.get k).tempOver) :
    ∃ t, exec (.temperatureThresholdCrossing kelvin) s = .next t ∧
      t.out = (if s.rst.railsUp = 3 then s.out ++ [Out.avs (max 130 (min 170 (Config.avsCurve (some kelvin))))] else s.out) ∧
      t.mrd = s.mrd ∧ (∀ k ∈ s.assocs fun a => !a.discovery, (t.host.assoc.get k).tempHigh = false ∧
        (t.host.assoc.get k).tempLow = false) := by
  let u := (s.updPwr fun p => { p with tj := some kelvin }).avsFollow
  obtain ⟨hhost, hmrd, hout⟩ : u.host = s.host ∧ u.mrd = s.mrd ∧ u.out = (if s.rst.railsUp = 3 then
      s.out ++ [Out.avs (max 130 (min 170 (Config.avsCurve (some kelvin))))] else s.out) := by
    by_cases hrails : s.rst.railsUp = 3
    · simp [u, State.avsFollow, State.avsTo, hrails, State.emit]
    · simp [u, State.avsFollow, hrails]
  have hlist : (u.assocs fun a => !a.discovery) = s.assocs fun a => !a.discovery := by rw [State.assocs, hhost]; rfl
  have hfold : (u.assocs fun a => !a.discovery).foldl (State.tempNote kelvin) u = u.tempNoted (s.assocs fun a => !a.discovery) := by
    rw [hlist]; exact foldl_tempNote fun k hk => by rw [hhost]; exact h k hk
  obtain ⟨hkeep, htab⟩ := tempNoted_frame u (s.assocs fun a => !a.discovery)
  refine ⟨u.tempNoted (s.assocs fun a => !a.discovery), congrArg _ hfold, hkeep.trans hout, htab.trans hmrd, fun k hk => ?_⟩
  exact (tempNoted_assoc u _ k).2.2 (.inl hk)

end Sys2Proof.Machine

/-! What writing zeroes over a namespace leaves: the namespaces, and the admin queues and formats of the associations (R25,
R163, R182). -/

namespace Sys2Proof.Machine

/-- `t` is `s` after blocks written, gathered or lost: namespaces as moored and the admin queues stand. -/
structure Leaves (s t : State) : Prop where
  ns : t.mrd.ns = s.mrd.ns
  sq : ∀ k, (t.host.assoc.get k).adminSq = (s.host.assoc.get k).adminSq
  format : ∀ k, (t.host.assoc.get k).format = (s.host.assoc.get k).format

namespace Leaves

variable {s t u : State}

theorem refl (s : State) : Leaves s s := ⟨rfl, fun _ => rfl, fun _ => rfl⟩

theorem trans (h : Leaves s t) (h' : Leaves t u) : Leaves s u :=
  ⟨h'.ns.trans h.ns, fun k => (h'.sq k).trans (h.sq k), fun k => (h'.format k).trans (h.format k)⟩

theorem of_same (hns : t.mrd.ns = s.mrd.ns) (ha : t.host.assoc = s.host.assoc) : Leaves s t :=
  ⟨hns, fun k => by rw [ha], fun k => by rw [ha]⟩

theorem of_calm (h : Calm s t) : Leaves s t := of_same (congrArg Moored.ns h.mrd) (congrArg HostFace.assoc h.host)

theorem ite (p : Prop) [Decidable p] (h : Leaves s t) (h' : Leaves s u) : Leaves s (if p then t else u) := by
  split
  · exact h
  · exact h'

theorem foldl {β : Type} (f : State → β → State) (hf : ∀ t x, Leaves t (f t x)) (l : List β) (s : State) :
    Leaves s (l.foldl f s) :=
  foldl_keeps (Leaves s) f (fun t x h => h.trans (hf t x)) l s (refl s)

theorem foldlFst {β γ : Type} (f : State × γ → β → State × γ) (hf : ∀ r x, Leaves r.1 (f r x).1) (l : List β)
    (r : State × γ) : Leaves r.1 (l.foldl f r).1 :=
  foldl_keeps (fun x : State × γ => Leaves r.1 x.1) f (fun x y h => h.trans (hf x y)) l r (refl r.1)

theorem tick (s : State) : Leaves s s.tick := of_same rfl rfl
theorem updAry (s : State) (i : Nat) (f : ArrRun → ArrRun) : Leaves s (s.updAry i f) := of_same rfl rfl
theorem updBrg (s : State) (f : Barge → Barge) : Leaves s (s.updBrg f) := of_same rfl rfl
theorem updCip (s : State) (f : Cipher → Cipher) : Leaves s (s.updCip f) := of_same rfl rfl
theorem updHost (s : State) {f : HostFace → HostFace} (hf : (f s.host).assoc = s.host.assoc) : Leaves s (s.updHost f) :=
  of_same rfl hf
theorem setMedia (s : State) (b blk : Nat) (x : Unit4k) : Leaves s (s.setMedia b blk x) := of_same rfl rfl
theorem updMedium (s : State) (b : Nat) (f : Medium → Medium) : Leaves s (s.updMedium b f) := of_same rfl rfl
theorem tally (s : State) (c i n : Nat) : Leaves s (s.tally c i n) := of_calm (Calm.tally s c i n)
theorem count (s : State) (f : Fld) (n : Nat) : Leaves s (s.count f n) := of_same (by simp) (by simp)

/-- A moored record other than a namespace's. -/
theorem moor (s : State) (r : MoorRec) (hr : ∀ m : Moored, (r.toTables m).ns = m.ns) : Leaves s (s.moor r) :=
  of_same (by rw [moor_mrd, hr]) (by simp)

/-! ## Events and the deferred-error logs -/

theorem postAen (s : State) (c type info page : Nat) : Leaves s (s.postAen c type info page) := by
  unfold State.postAen
  dsimp only
  split
  · split
    · refine Leaves.trans (t := s.updAssoc c _) ⟨rfl, fun k => ?_, fun k => ?_⟩
        (of_same (congrArg Moored.ns (respond_mrd _ _ _ _)) (respond_assoc _ _ _ _)) <;>
        rw [State.updAssoc, updHost_host, Tab.get_upd] <;> split <;> rfl
    · exact refl s
  · exact refl s

theorem deferFor (s : State) (h nsid : Nat) : Leaves s (s.deferFor h nsid) :=
  ((updHost s rfl).trans (tick _)).trans (foldl _ (fun t c => postAen t c _ _ _) _ _)

theorem defer (s : State) (e : Deferred) : Leaves s (s.defer e) :=
  (foldl _ (fun t h => deferFor t h _) _ s).trans (ite _ (refl _) (updHost _ rfl))

theorem putArea (s : State) (i : Nat) : Leaves s (s.putArea i) := by
  unfold State.putArea
  dsimp only
  refine ite _ (refl s) ((updAry s i _).trans (ite _ (moor _ _ fun _ => rfl) (foldl _ (fun t b => ?_) _ _)))
  exact updMedium t b fun m => { m with defer := ⟨(s.ary.get i).area.seq + 1, s.deferLog i⟩ }

theorem deferBlocks (s : State) (i w : Nat) (l : List LostBlk) (cause : Nat) : Leaves s (s.deferBlocks i w l cause) := by
  unfold State.deferBlocks
  dsimp only
  refine ((updHost s ?_).trans (foldl _ (fun t k => ?_) _ _)).trans (putArea _ i)
  · rfl
  · exact foldl _ (fun u r => defer u _) _ t

theorem undefer (s : State) (i b : Nat) : Leaves s (s.undefer i b) := ite _ ((updHost s rfl).trans (putArea _ i)) (refl s)

/-! ## Arrays -/

theorem moorArr (s : State) (i : Nat) : Leaves s (s.moorArr i) := by
  have hmoor := (moor s (.arr i (s.mrd.arr.get i)) fun _ => rfl).trans (updAry _ i fun r =>
    { r with mooredCursor := (s.mrd.arr.get i).cursor, mooredScrub := (s.mrd.arr.get i).scrubPos, mooredPairs := (s.mrd.arr.get i).pairs })
  exact ite _ (hmoor.trans (of_same rfl rfl)) hmoor

theorem putArr (s : State) (i : Nat) (a : Arr) : Leaves s (s.putArr i a) := of_same rfl rfl
theorem offlineBerths (s : State) (i : Nat) : Leaves s (s.offlineBerths i) := by
  unfold State.offlineBerths
  exact updBrg s _

theorem offline (s : State) (i : Nat) : Leaves s (s.offline i) := by
  unfold State.offline
  dsimp only
  split
  · exact refl s
  · exact (((((putArr s i _).trans (offlineBerths _ i)).trans (updAry _ i _)).trans (deferBlocks _ i _ _ _)).trans
      (updAry _ i _)).trans (moorArr _ i)

theorem writeUnit (s : State) (a : Arr) (st x off : Nat) (v : Unit4k) : Leaves s (s.writeUnit a st x off v) := by
  unfold State.writeUnit
  split
  · exact refl s
  · exact setMedia s _ _ v

theorem writeOff {i st off : Nat} {l : List (Nat × Unit4k)} (h : s.writeOff i st off l = some t) : Leaves s t := by
  unfold State.writeOff at h
  dsimp only at h
  split at h
  · cases h
    exact foldl _ (fun u p => foldl _ (fun v c => writeUnit v _ _ _ _ _) _ u) _ s
  · obtain ⟨ds, -, rfl⟩ := Option.map_eq_some_iff.mp h
    exact (foldl _ (fun u p => writeUnit u _ _ _ _ _) _ s).trans (foldl _ (fun u o => writeUnit u _ _ _ _ _) _ _)

theorem writeStripe (s : State) (i st : Nat) (l : List (Nat × Unit4k)) : Leaves s (s.writeStripe i st l).1 := by
  unfold State.writeStripe
  refine foldl_keeps (fun r : State × Bool => Leaves s r.1) _ (fun r off h => ?_) _ _ (refl s)
  split
  · exact h
  · split
    · exact h.trans (writeOff ‹_›)
    · exact h.trans (offline _ i)

theorem addRecs (s : State) (i p : Nat) (l : List LedgerRec) : Leaves s (s.addRecs i p l) := updAry s i _

theorem putWhole (s : State) (i st rn : Nat) (l : List (Nat × Unit4k)) : Leaves s (s.putWhole i st rn l).1 := by
  have hw := writeStripe s i st l
  unfold State.putWhole
  dsimp only
  split
  · rename_i h; rw [h] at hw; exact hw
  · rename_i h; rw [h] at hw
    exact hw.trans (ite _ ((updAry _ i _).trans (addRecs _ _ _ _)) (updAry _ i _))

/-! ## The gather buffer -/

theorem gatherBlks (s : State) (i st rn host nsid : Nat) (l : List (Nat × Unit4k)) : Leaves s (s.gatherBlks i st rn host nsid l) :=
  foldl _ (fun t _ => updAry t i _) _ s

theorem destageDue (s : State) (i st : Nat) (c : DestageCause) : Leaves s (s.destageDue i st c) :=
  ite _ (refl s) ((updAry s i _).trans (updAry _ i _))

theorem destageCauses (s : State) (i st : Nat) : Leaves s (s.destageCauses i st) := by
  have hwhole : ∀ (c : Prop) [Decidable c], Leaves s (if c then s.destageDue i st .whole else s) :=
    fun c _ => ite c (destageDue s i st _) (refl s)
  unfold State.destageCauses
  dsimp only
  refine ite _ ?_ (hwhole _)
  split
  · exact (hwhole _).trans (destageDue _ _ _ _)
  · exact hwhole _

theorem putLedger (s : State) (i st host nsid rn : Nat) (l : List (Nat × Unit4k)) : Leaves s (s.putLedger i st host nsid rn l) :=
  ((gatherBlks s i st rn host nsid l).trans (addRecs _ _ _ _)).trans (destageCauses _ i st)

theorem destageStart (s : State) (i st : Nat) : Leaves s (s.destageStart i st) := by
  unfold State.destageStart
  dsimp only
  refine ite _ (updAry s i _) ?_
  split
  · exact (updAry s i _).trans (addRecs _ _ _ _)
  · exact (updAry s i _).trans (offline _ i)

theorem putBypass (s : State) (i st host nsid rn : Nat) (l : List (Nat × Unit4k)) : Leaves s (s.putBypass i st host nsid rn l) :=
  ((((gatherBlks s i st rn host nsid l).trans (destageDue _ i st _)).trans (count _ _ _)).trans (tally _ _ _ _)).trans
    ((updAry _ i _).trans (ite _ (destageStart _ i st) (refl _)))

theorem putStripe (s : State) (p : Bound) (commit : Bool) (nsid host st rn : Nat) (l : List (Nat × Unit4k)) :
    Leaves s (s.putStripe p commit nsid host st rn l).1 := by
  have hhops : ∀ f : Nat × Unit4k → List Nat, Leaves s (l.foldl (fun t q => t.hopOut p (f q)) s) :=
    fun f => foldl _ (fun t q => of_calm (Calm.hopOut t p (f q))) l s
  have hslots := hhops fun _ => [attReservoir st]
  have hmembers := hhops fun q => ((List.range (s.mrd.arr.get p.ns.array).mode.copies).filterMap fun c =>
    (s.mrd.arr.get p.ns.array).drive st ((s.mrd.arr.get p.ns.array).dataRole st (q.1 / (s.mrd.arr.get p.ns.array).u) c)).map attBay
  unfold State.putStripe
  dsimp only
  split
  · refine Leaves.trans hmembers ?_
    generalize List.foldl _ s l = u
    exact putWhole u _ _ _ _
  · split
    · split
      · exact refl s
      · split
        · dsimp only
          exact hslots.trans (putLedger _ _ _ _ _ _ _)
        · dsimp only
          exact hslots.trans (putBypass _ _ _ _ _ _ _)
    · refine Leaves.trans hmembers ?_
      generalize List.foldl _ s l = u
      have hw := writeStripe u p.ns.array st l
      split <;> rename_i h <;> rw [h] at hw <;> exact hw

theorem putBlks (s : State) (p : Bound) (commit : Bool) (nsid host : Nat) (l : List (Nat × Unit4k)) :
    Leaves s (s.putBlks p commit nsid host l).1 := by
  have hstep : ∀ (r : State × Put) (q : Prop) [Decidable q] (st rn : Nat) (m : List (Nat × Unit4k)),
      Leaves r.1 (if q then r else r.1.putStripe p commit nsid host st rn m).1 := fun r q _ st rn m => by
    split
    · exact refl r.1
    · exact putStripe _ _ _ _ _ _ _ _
  unfold State.putBlks
  dsimp only
  split
  · exact (foldlFst _ (fun r st => hstep r _ _ _ _) _ (s, Put.done)).trans (foldl _ (fun t q => undefer t _ _) _ _)
  · exact refl s
  · exact foldlFst _ (fun r st => hstep r _ _ _ _) _ (s, Put.done)

/-! ## Binding -/

theorem writeHeaders (s : State) (i : Nat) : Leaves s (s.writeHeaders i) := by
  refine foldl _ (fun t x => ?_) _ s
  unfold State.writeHeader
  dsimp only
  split
  · exact ite _ (updMedium t _ _) (refl t)
  · exact refl t

theorem takeRn (s : State) (i n : Nat) : Leaves s (s.takeRn i n).1 :=
  Leaves.trans (ite _ ((updAry s i _).trans (writeHeaders _ i)) (refl s)) (updAry _ i _)

theorem takeSerials (s : State) (k n : Nat) : Leaves s (s.takeSerials k n).1 := by
  unfold State.takeSerials
  dsimp only
  exact updCip s _

theorem bind (s : State) (c : IoCmd) : Leaves s (s.bind c).1 := by
  have hser : ∀ (p : Prop) [Decidable p] (k m : Nat), Leaves s (if p then s.tick.takeSerials k m else (s.tick, 0)).1 :=
    fun p _ k m => by
      split
      · exact (tick s).trans (takeSerials _ k m)
      · exact tick s
  have hrn : ∀ (z : State × Nat) (p : Prop) [Decidable p] (i m : Nat), Leaves s z.1 →
      Leaves s (if p then z.1.takeRn i m else (z.1, 0)).1 := fun z p _ i m hz => by
    split
    · exact hz.trans (takeRn _ i m)
    · exact hz
  exact hrn _ _ _ _ (hser _ _ _)

end Leaves

end Sys2Proof.Machine

/-! Format NVM, and the statement on admin commands (02_host_face.md, R41, R46, R56). -/

namespace Sys2Proof.Machine

/-! ## The zeroes of a formatted namespace -/

/-- Whole blocks need nothing read (R57). -/
theorem buildBlks_of_whole {s : State} {c : IoCmd} {p : Bound} (h : ∀ e ∈ coverOf p.ns c, e.2 = true) :
    ∃ l, s.buildBlks c p = (s, .ok l) := by
  have hnone : (coverOf p.ns c).filter (fun e => !e.2) = [] :=
    List.filter_eq_nil_iff.mpr fun e he => by simp [h e he]
  unfold State.buildBlks
  dsimp only
  rw [hnone]
  exact ⟨_, rfl⟩

/-- On a format of whole blocks every block that a command names is whole. -/
theorem coverOf_whole {n : Namespace} (h : n.lbaf = 0) {c : IoCmd} (hop : c.opcode ≠ 9) : ∀ e ∈ coverOf n c, e.2 = true := by
  have hsmall : n.small = false := by simp [Namespace.small, h]
  have hper : n.perBlk = 1 := by simp [Namespace.perBlk, h]
  simp [coverOf, hop, Namespace.cover, hsmall, hper]

theorem leaves_zeroNs {s : State} {nsid : Nat} (h : (s.mrd.ns.get nsid).lbaf = 0) (q host : Nat) :
    Leaves s (s.zeroNs q nsid host).1 := by
  unfold State.zeroNs
  dsimp only
  generalize hz : ({ (default : IoCmd) with
    qref := q, opcode := 8, nsid := nsid, nlb := (s.mrd.ns.get nsid).size, deac := true } : IoCmd) = z
  have hop : z.opcode ≠ 9 := by subst hz; exact (by decide : (8 : Nat) ≠ 9)
  have hns : (s.bind z).2.1.ns = s.mrd.ns.get nsid := by subst hz; rfl
  split
  · exact Leaves.refl s
  · obtain ⟨l, hl⟩ := buildBlks_of_whole (s := (s.bind z).1) (p := (s.bind z).2.1) (coverOf_whole (hns ▸ h) hop)
    rw [hl]
    dsimp only
    have hput := (Leaves.bind s z).trans (Leaves.putBlks _ (s.bind z).2.1 false nsid host l)
    split
    · rename_i hr; rw [hr] at hput; exact hput
    · rename_i hr; rw [hr] at hput; exact hput
    · exact Leaves.refl s

/-- A Format NVM that goes on leaves its namespace, and is still under way in its association (R46). -/
theorem formatGo_spec {s : State} {k q : Nat} {f : Formatting} (hf : f.placed = none)
    (hk : (s.host.assoc.get k).format.isSome = true) (h : (s.mrd.ns.get f.nsid).lbaf = 0) :
    (s.formatGo k q f).1.mrd.ns = s.mrd.ns ∧
      ((s.formatGo k q f).1.host.assoc.get k).adminSq = (s.host.assoc.get k).adminSq ∧
      ((s.formatGo k q f).1.host.assoc.get k).format.isSome = true := by
  have hz := leaves_zeroNs h q (s.host.assoc.get k).host
  unfold State.formatGo
  simp only [hf]
  split
  · rename_i hr; rw [hr] at hz; exact ⟨hz.ns, hz.sq k, by rw [hz.format]; exact hk⟩
  · rename_i hr; rw [hr] at hz; exact ⟨hz.ns, hz.sq k, by rw [hz.format]; exact hk⟩
  · rename_i hr; rw [hr] at hz
    dsimp only
    exact ⟨hz.ns, by rw [assoc_updAssoc_same]; exact hz.sq k, by rw [assoc_updAssoc_same]; rfl⟩

/-! ## The slot -/

theorem holdNew_frame (s t : State) : (s.holdNew t).mrd = t.mrd ∧ (s.holdNew t).host = t.host := by
  unfold State.holdNew
  dsimp only
  split <;> exact ⟨rfl, rfl⟩

theorem slotEnd_spec (s t : State) (k : Nat) (c : AdminCmd) (st : Status) : (s.slotEnd t k c st).mrd = t.mrd ∧
    (s.slotEnd t k c st).host.assoc.get k = { t.host.assoc.get k with slot := none, format := none } := by
  have hout := outOfSlot_frame t k
  have hend : s.slotEnd t k c st = if ((t.outOfSlot k).host.assoc.get k).live then
      s.holdNew ((t.outOfSlot k).respond c.qref c.cid st) else t.outOfSlot k := rfl
  rw [hend]
  split
  · obtain ⟨hmrd, hhost⟩ := holdNew_frame s ((t.outOfSlot k).respond c.qref c.cid st)
    rw [hmrd, hhost, respond_mrd, respond_assoc]
    exact ⟨hout.1, assoc_outOfSlot t k⟩
  · exact ⟨hout.1, assoc_outOfSlot t k⟩

/-- A command that is served in the slot, with nothing behind it, ends or goes on there (R43). -/
theorem serveSlot_of_run {s : State} {k : Nat} {c : AdminCmd} {r : State × Option Status} (hl : s.lkServes = true)
    (hs : (s.host.assoc.get k).slot = some c) (hrun : s.adminRun k c = r) (hsq : (r.1.host.assoc.get k).adminSq = [])
    (hf : (r.1.host.assoc.get k).format.isSome = true) (n : Nat) :
    (s.serveSlot k (n + 1)).mrd = r.1.mrd ∧ (((s.serveSlot k (n + 1)).host.assoc.get k).slot = none ∨
      ((s.serveSlot k (n + 1)).host.assoc.get k).format.isSome = true) := by
  obtain ⟨t, o⟩ := r
  rw [State.serveSlot]
  simp only [hs, hl, hrun, Bool.not_true, Bool.false_eq_true, if_false]
  cases o with
  | none => exact ⟨rfl, .inr hf⟩
  | some st =>
    obtain ⟨hmrd, hassoc⟩ := slotEnd_spec s t k c st
    dsimp only
    rw [serveSlot_of_idle (by rw [hassoc]) (by rw [hassoc]; exact hsq)]
    exact ⟨hmrd, .inl (by rw [hassoc])⟩

/-! ## Format NVM -/

/-- The namespace as a Format NVM to 4,096-byte data without protection information leaves it (R56). -/
def Namespace.formatted (n : Namespace) : Namespace :=
  { n with lbaf := 0, pi := 0, size := if n.small then n.size / 8 else n.size }

/-- Format NVM's checks let pass a format that the namespace offers (R41, R56, R461). -/
theorem formatCheck_atSlot {c : AdminCmd} {k : Nat} {s : State} (op : Nat)
    (hsees : s.sees (s.host.assoc.get k) c.nsid = true) (hses : bitsOf c.cdw10 9 3 ≤ 1) (hpi : bitsOf c.cdw10 5 3 = 0)
    (hf : bitsOf c.cdw10 0 4 = 0 ∧ 0 ∈ (s.mrd.ns.get c.nsid).lbafs ∧ (s.mrd.ns.get c.nsid).writeProtect = false)
    (ha : (s.mrd.arr.get (s.mrd.ns.get c.nsid).array).state ≠ .offline ∧
      (s.mrd.arr.get (s.mrd.ns.get c.nsid).array).state ≠ .salvaged)
    (hn : (s.mrd.ns.get c.nsid).cipher = .none ∧
      (s.mrd.ns.get c.nsid).resv.conflict (s.host.assoc.get k).host 0x80 = false) :
    (s.atSlot k { c with opcode := op }).formatCheck ((s.atSlot k { c with opcode := op }).host.assoc.get k)
      { c with opcode := op } = none := by
  obtain ⟨hlbaf, hoffered, hprotect⟩ := hf
  obtain ⟨hoffline, hsalvaged⟩ := ha
  obtain ⟨hcipher, hconflict⟩ := hn
  have hsees' : (s.atSlot k { c with opcode := op }).sees
      { s.host.assoc.get k with slot := some { c with opcode := op }, adminSq := [] } c.nsid = true := by
    rw [sees_atSlot]; exact hsees
  have hoffered' : (s.mrd.ns.get c.nsid).lbafs.contains 0 = true := List.contains_iff_mem.mpr hoffered
  rw [assoc_atSlot]
  simp only [State.formatCheck, atSlot_mrd, hsees', hlbaf, hpi, Nat.not_lt.mpr hses, hoffered', hoffline, hcipher,
    hconflict, hprotect, hsalvaged]
  simp

/-- The state in which a Format NVM zeroes its namespace. -/
def State.formatting (s : State) (k : Nat) (nsid : Nat) : State :=
  (s.moor (.ns nsid (s.mrd.ns.get nsid).formatted)).updAssoc k fun a =>
    { a with format := some ⟨nsid, s.mrd.ns.get nsid, none⟩ }

theorem adminRun_format {c : AdminCmd} {k : Nat} {s : State} (hop : c.opcode = 0x80)
    (hnone : (s.host.assoc.get k).format = none) (hcheck : s.formatCheck (s.host.assoc.get k) c = none)
    (hlbaf : bitsOf c.cdw10 0 4 = 0) (hpi : bitsOf c.cdw10 5 3 = 0) :
    s.adminRun k c = (s.formatting k c.nsid).formatGo k c.qref ⟨c.nsid, s.mrd.ns.get c.nsid, none⟩ := by
  simp only [State.adminRun, hop, hnone, State.doFormat, hcheck, hlbaf, hpi]
  rfl

theorem formatting_spec (s : State) (k nsid : Nat) : (s.formatting k nsid).mrd.ns.get nsid = (s.mrd.ns.get nsid).formatted ∧
    ((s.formatting k nsid).host.assoc.get k).adminSq = (s.host.assoc.get k).adminSq ∧
    ((s.formatting k nsid).host.assoc.get k).format.isSome = true := by
  refine ⟨?_, ?_, ?_⟩
  · rw [State.formatting, updAssoc_mrd, moor_mrd]
    exact Tab.get_set_eq _ nsid _
  · rw [State.formatting, assoc_updAssoc_same, moor_host]
  · rw [State.formatting, assoc_updAssoc_same]; rfl

theorem exec_format {c : AdminCmd} {k : Nat} {s : State}
    (h : s.adminTaken c k = true ∧ s.sees (s.host.assoc.get k) c.nsid = true ∧ bitsOf c.cdw10 9 3 ≤ 1 ∧
      bitsOf c.cdw10 5 3 = 0)
    (hf : bitsOf c.cdw10 0 4 = 0 ∧ 0 ∈ (s.mrd.ns.get c.nsid).lbafs ∧ (s.mrd.ns.get c.nsid).writeProtect = false)
    (ha : (s.mrd.arr.get (s.mrd.ns.get c.nsid).array).state ≠ .offline ∧
      (s.mrd.arr.get (s.mrd.ns.get c.nsid).array).state ≠ .salvaged)
    (hn : (s.mrd.ns.get c.nsid).cipher = .none ∧
      (s.mrd.ns.get c.nsid).resv.conflict (s.host.assoc.get k).host 0x80 = false) :
    ∃ t, exec (.formatNvm c) s = .next t ∧
      (t.mrd.ns.get c.nsid).lbaf = 0 ∧ (t.mrd.ns.get c.nsid).pi = 0 ∧
      (t.mrd.ns.get c.nsid).ext = (s.mrd.ns.get c.nsid).ext ∧
      ((t.host.assoc.get k).slot = none ∨ (t.host.assoc.get k).format.isSome = true) ∧
      (t.mrd.ns.get c.nsid).size = (if (s.mrd.ns.get c.nsid).small then (s.mrd.ns.get c.nsid).size / 8 else
        (s.mrd.ns.get c.nsid).size) := by
  obtain ⟨ht, hsees, hses, hpi⟩ := h
  obtain ⟨harrive, -, hl, -, -, hformat, -⟩ := adminArrive_of_taken (c := { c with opcode := 0x80 }) ht
  have hrun := adminRun_format (c := { c with opcode := 0x80 }) rfl (by rw [assoc_atSlot]; exact hformat)
    (formatCheck_atSlot 0x80 hsees hses hpi hf ha hn) hf.1 hpi
  dsimp only at hrun
  obtain ⟨hns, hsq, hsome⟩ := formatting_spec (s.atSlot k { c with opcode := 0x80 }) k c.nsid
  obtain ⟨hkeep, hsq', hsome'⟩ := formatGo_spec (q := c.qref)
    (f := ⟨c.nsid, (s.atSlot k { c with opcode := 0x80 }).mrd.ns.get c.nsid, none⟩) rfl hsome (by rw [hns]; rfl)
  rw [assoc_atSlot] at hsq
  obtain ⟨hmrd, hend⟩ := serveSlot_of_run hl (by rw [assoc_atSlot]) hrun (hsq'.trans hsq) hsome' 2
  have hfinal : (s.adminArrive { c with opcode := 0x80 }).mrd.ns.get c.nsid = (s.mrd.ns.get c.nsid).formatted := by
    rw [harrive, hmrd, hkeep, hns, atSlot_mrd]
  refine ⟨s.adminArrive { c with opcode := 0x80 }, rfl, ?_⟩
  rw [hfinal]
  exact ⟨rfl, rfl, rfl, harrive ▸ hend, rfl⟩

/-- Settles O24: a command that is taken at once is executed in the slot and leaves it (`adminArrive_leaves`). -/
theorem adminCommandsCompleteOrWait : Obligations.AdminCommandsCompleteOrWait :=
  ⟨fun _ _ _ => exec_identify, fun _ _ _ => exec_firmwareLog, fun _ _ _ => exec_setAec, fun _ _ _ => exec_getAec,
    fun _ _ _ _ => exec_abort_waiting, fun _ _ _ => exec_format, fun _ _ _ _ => exec_aer, fun _ _ => exec_temperature_between⟩

end Sys2Proof.Machine

/-! Manifests on subsystems, namespaces, hosts and secrets (02_host_face.md, R35 to R40, R53, R91, R152, R459, R462). -/

namespace Sys2Proof.Machine

/-! ## Entries given up -/

theorem outgrows_of_le {s t : State} (h : t.moorBytes ≤ s.moorBytes) : s.outgrows t = false := by
  simp [State.outgrows, Nat.not_lt.mpr h]

theorem moorBytes_moor_subsys_default (s : State) (i : Nat) : (s.moor (.subsys i default)).moorBytes ≤ s.moorBytes := by
  have herase := Tab.length_erase_le s.mrd.subsys i
  simp only [State.moorBytes, moor_mrd, MoorRec.toTables, Tab.set_default]
  omega

theorem moorBytes_moor_ns_default (s : State) (i : Nat) : (s.moor (.ns i default)).moorBytes ≤ s.moorBytes := by
  have herase := Tab.length_erase_le s.mrd.ns i
  have hsum := Tab.sum_map_erase_le (fun e : Nat × Namespace => extRuns e.2.ext) s.mrd.ns i
  simp only [State.moorBytes, moor_mrd, MoorRec.toTables, Tab.set_default]
  omega

theorem moorBytes_moor_host_default (s : State) (i : Nat) : (s.moor (.host i default)).moorBytes ≤ s.moorBytes := by
  have herase := Tab.length_erase_le s.mrd.hosts i
  simp only [State.moorBytes, moor_mrd, MoorRec.toTables, Tab.set_default]
  omega

/-! ## The checks of R459 -/

theorem onNs_of_present {s : State} {nsid : Nat} (h0 : nsid ≠ 0) (hmax : nsid ≤ 16384)
    (h : (s.mrd.ns.get nsid).present = true) (k : Namespace → MRes) : s.onNs nsid k = k (s.mrd.ns.get nsid) := by
  have hrange : ¬ (nsid = 0 ∨ 16384 < nsid) := by omega
  simp only [State.onNs, if_neg hrange, h, if_true]

theorem onHost_of_present {s : State} {i : Nat} (hi : i < 4096) (h : (s.mrd.hosts.get i).present = true)
    (k : HostEntry → MRes) : s.onHost i k = k (s.mrd.hosts.get i) := by
  simp only [State.onHost, Nat.not_le.mpr hi, h, if_false, if_true]

/-! ## Subsystems -/

theorem exec_subsysSet {h : Hdr} {i nqn : Nat} {s : State}
    (ht : s.takes h 0x0401 [(.device, 0)] = true ∧ i < 1024 ∧ nqn ≠ 0)
    (hn : (s.mrd.subsys.find? fun e => e.1 != i && e.2.present && e.2.nqn == nqn).isNone = true ∧ s.imageRoom 1 = true) :
    ∃ t, exec (.subsysSet h i nqn) s = .next t ∧
      t.mrd.subsys.get i = ⟨true, nqn⟩ ∧ t.answered h 0x0401 .success [] ∧ t.mrd.ns = s.mrd.ns := by
  obtain ⟨ht, hi, hnqn⟩ := ht
  obtain ⟨hnew, hroom⟩ := hn
  have hbody : ∀ l, subsysSetBody i nqn (s.inSession l) =
      .ok (((s.inSession l).moor (.subsys i ⟨true, nqn⟩)).discoveryNote (s.inSession l)) [] := fun l => by
    have hnew' : ((s.inSession l).mrd.subsys.find? fun e => e.1 != i && e.2.present && e.2.nqn == nqn) = none :=
      Option.isNone_iff_eq_none.mp hnew
    simp only [subsysSetBody, Nat.not_le.mpr hi, hnqn, if_false, hnew']
  obtain ⟨hans, hget, hns⟩ := manifest_moored (.subsysSet i nqn) [] (fun t => t.mrd.subsys.get i = ⟨true, nqn⟩ ∧ t.mrd.ns = s.mrd.ns)
    (.subsys i ⟨true, nqn⟩) 0x1000 ht hroom (fun l => ⟨_, hbody l, .discoveryNote _ _⟩) fun l t htold q st ps => by
      rw [answerSince_mrd, htold.mrd, moor_mrd]
      exact ⟨Tab.get_set_eq s.mrd.subsys i ⟨true, nqn⟩, rfl⟩
  exact ⟨_, rfl, hget, hans, hns⟩

theorem exec_subsysDelete {h : Hdr} {i : Nat} {s : State}
    (ht : s.takes h 0x0402 [(.device, 0)] = true ∧ i < 1024 ∧ (s.mrd.subsys.get i).present = true)
    (hn : (s.mrd.ns.any fun e => e.2.present && e.2.subsys == i) = false) :
    ∃ t, exec (.subsysDelete h i) s = .next t ∧
      t.mrd.subsys.get i = default ∧ t.answered h 0x0402 .success [] ∧ t.mrd.ns = s.mrd.ns := by
  obtain ⟨ht, hi, hpresent⟩ := ht
  have hbody : ∀ l, subsysDeleteBody i (s.inSession l) =
      .ok (((s.inSession l).moor (.subsys i default)).discoveryNote (s.inSession l)) [] := fun l => by
    have hpresent' : ((s.inSession l).mrd.subsys.get i).present = true := hpresent
    have hempty : ((s.inSession l).mrd.ns.any fun e => e.2.present && e.2.subsys == i) = false := hn
    simp only [subsysDeleteBody, Nat.not_le.mpr hi, if_false, hpresent', hempty, Bool.not_true, Bool.false_eq_true]
  obtain ⟨hans, hget, hns⟩ := manifest_changed (.subsysDelete i) []
    (fun t => t.mrd.subsys.get i = default ∧ t.mrd.ns = s.mrd.ns) (fun u => u.moor (.subsys i default)) 0x1000 ht
    (fun l => ⟨_, hbody l, .discoveryNote _ _⟩) (fun l => by simp [State.inSession])
    (fun l t hmrd => outgrows_of_le (by
      rw [moorBytes_congr hmrd]; exact moorBytes_moor_subsys_default (s.inSession l) i))
    fun l t htold q st ps => by
      rw [answerSince_mrd, htold.mrd, moor_mrd]
      exact ⟨Tab.get_set_eq s.mrd.subsys i default, rfl⟩
  exact ⟨_, rfl, hget, hans, hns⟩

/-! ## Namespaces -/

theorem extRuns_le (l : List Nat) : extRuns l ≤ l.length := by
  induction l with
  | nil => exact Nat.le_refl _
  | cons x l ih =>
    cases l with
    | nil => exact Nat.le_refl _
    | cons y l =>
      simp only [extRuns, List.length_cons] at ih ⊢
      split <;> omega

/-- The extents that NS_CREATE takes: as many as are asked for, from a free starting point on (R152, log entry 1). -/
def State.takenExtents (s : State) (a need : Nat) : List Nat :=
  let l := s.freeExtents a
  let at_ := s.freeVal % l.length
  (l.drop at_ ++ l.take at_).take need

theorem length_takenExtents {s : State} {a need : Nat} (h : need ≤ (s.freeExtents a).length) :
    (s.takenExtents a need).length = need := by
  simp only [State.takenExtents, List.length_take, List.length_append, List.length_drop]
  omega

/-- The namespace that NS_CREATE of plain 4,096-byte data makes. -/
def State.createdNs (s : State) (sub a size slot : Nat) (led : Bool) : Namespace :=
  { (default : Namespace) with
    present := true, subsys := sub, array := a, size := size, lbafs := [0], keySlot := slot, ledgered := led
    ext := s.takenExtents a (ceilDiv size (s.mrd.arr.get a).e) }

theorem exec_nsCreate {h : Hdr} {nsid sub a size slot : Nat} {led : Bool} {s : State}
    (ht : s.takes h 0x0403 [(.nspace, nsid), (.array, a)] = true ∧ nsid ≠ 0 ∧ nsid ≤ 16384 ∧
      (s.mrd.ns.get nsid).present = false)
    (hs : sub < 1024 ∧ (s.mrd.subsys.get sub).present = true ∧ a < 16 ∧ s.arrThere a = true)
    (ha : (s.mrd.arr.get a).state ≠ .creating ∧ (s.mrd.arr.get a).state ≠ .offline ∧ (s.mrd.arr.get a).state ≠ .salvaged)
    (hsize : size ≠ 0 ∧ ceilDiv size (s.mrd.arr.get a).e ≤ (s.freeExtents a).length)
    (hroom : s.imageRoom (1 + ceilDiv size (s.mrd.arr.get a).e) = true) :
    ∃ t, exec (.nsCreate h nsid sub a size [0] [] 0 slot led) s = .next t ∧
      (t.mrd.ns.get nsid).present = true ∧ (t.mrd.ns.get nsid).subsys = sub ∧ (t.mrd.ns.get nsid).array = a ∧
        (t.mrd.ns.get nsid).size = size ∧
      (t.mrd.ns.get nsid).ledgered = led ∧ (t.mrd.ns.get nsid).lbafs = [0] ∧ (t.mrd.ns.get nsid).ext.length =
        ceilDiv size (s.mrd.arr.get a).e ∧
      t.answered h 0x0403 .success [(t.mrd.ns.get nsid).ext.flatMap (beBytes 4)] := by
  obtain ⟨ht, hnsid, hmax, hnew⟩ := ht
  obtain ⟨hsub, hsubsys, ha16, hthere⟩ := hs
  obtain ⟨hcreating, hoffline, hsalvaged⟩ := ha
  obtain ⟨hsize, hfits⟩ := hsize
  let n := s.createdNs sub a size slot led
  have hlen : n.ext.length = ceilDiv size (s.mrd.arr.get a).e := length_takenExtents hfits
  have hbody : ∀ l, nsCreateBody nsid sub a size [0] [] 0 slot led (s.inSession l) =
      .ok ((s.inSession l).tick.moor (.ns nsid n)) [n.ext.flatMap (beBytes 4)] := fun l => by
    have hnsid' : ¬ (nsid = 0 ∨ 16384 < nsid) := by omega
    have hnew' : ((s.inSession l).mrd.ns.get nsid).present = false := hnew
    have hsubsys' : ((s.inSession l).mrd.subsys.get sub).present = true := hsubsys
    have hthere' : (s.inSession l).arrThere a = true := hthere
    have hstate : ¬ (((s.inSession l).mrd.arr.get a).state = .creating ∨ ((s.inSession l).mrd.arr.get a).state = .offline ∨
        ((s.inSession l).mrd.arr.get a).state = .salvaged) := by
      rintro (h | h | h)
      · exact hcreating h
      · exact hoffline h
      · exact hsalvaged h
    have hoffered : ((s.inSession l).lbafsOf a).filter (fun f => [0].contains f) = [0] := by
      unfold State.lbafsOf; split <;> rfl
    have hfits' : ¬ ((s.inSession l).freeExtents a).length < ceilDiv size ((s.inSession l).mrd.arr.get a).e :=
      Nat.not_lt.mpr hfits
    simp only [nsCreateBody, if_neg hnsid', hnew', hsubsys', Nat.not_le.mpr hsub, State.onArray, Nat.not_le.mpr ha16, hthere',
      if_neg hstate, hoffered, if_neg hfits', hsize]
    simp
    exact ⟨rfl, rfl⟩
  have hroom' : s.imageRoom (MoorRec.ns nsid n).room = true := by
    have hle := extRuns_le n.ext
    rw [hlen] at hle
    have hn : (MoorRec.ns nsid n).room = 1 + extRuns n.ext := rfl
    simp only [State.imageRoom, decide_eq_true_eq, hn] at hroom ⊢
    omega
  obtain ⟨hans, hget⟩ := manifest_changed (.nsCreate nsid sub a size [0] [] 0 slot led) [n.ext.flatMap (beBytes 4)]
    (fun t => t.mrd.ns.get nsid = n) (fun u => u.tick.moor (.ns nsid n)) 0 ht (fun l => ⟨_, hbody l, .refl _⟩)
    (fun l => by simp [State.inSession])
    (fun l t hmrd => outgrows_of_imageRoom hroom' (by
      rw [moorBytes_congr hmrd]; exact moorBytes_moor_le (s.inSession l).tick (.ns nsid n)))
    fun l t htold q st ps => by
      rw [answerSince_mrd, htold.mrd, moor_mrd]
      exact Tab.get_set_eq s.mrd.ns nsid n
  refine ⟨_, rfl, ?_⟩
  rw [hget]
  exact ⟨rfl, rfl, rfl, rfl, rfl, rfl, hlen, hans⟩

theorem exec_nsAttach {h : Hdr} {nsid k : Nat} {on : Bool} {s : State}
    (ht : s.takes h 0x0405 [(.nspace, nsid), (.host, k)] = true ∧ nsid ≠ 0 ∧ nsid ≤ 16384 ∧
      (s.mrd.ns.get nsid).present = true)
    (hk : (s.mrd.hosts.get k).present = true ∧ s.imageRoom (1 + extRuns (s.mrd.ns.get nsid).ext) = true) :
    ∃ t, exec (.nsAttach h nsid [k] on) s = .next t ∧
      (t.mrd.ns.get nsid).hosts.contains k = on ∧ t.answered h 0x0405 .success [] ∧ t.mrd.hosts = s.mrd.hosts := by
  obtain ⟨ht, hnsid, hmax, hpresent⟩ := ht
  obtain ⟨hhost, hroom⟩ := hk
  let n := s.mrd.ns.get nsid
  let fresh := [k].filter fun k => n.hosts.contains k != on
  let m : Namespace := { n with hosts := if on then n.hosts ++ fresh else n.hosts.filter fun k => !fresh.contains k }
  have hhosts : m.hosts.contains k = on := by
    cases on <;> by_cases hin : k ∈ n.hosts <;> simp [m, fresh, hin]
  have hbody : ∀ l, nsAttachBody nsid [k] on (s.inSession l) =
      .ok (((s.inSession l).moor (.ns nsid m)).nsChanged nsid fresh) [] := fun l => by
    have hfound : ([k].find? fun k => !((s.inSession l).mrd.hosts.get k).present) = none := by
      have hhost' : ((s.inSession l).mrd.hosts.get k).present = true := hhost
      simp [hhost']
    rw [nsAttachBody, onNs_of_present (s := s.inSession l) hnsid hmax hpresent]
    simp only [hfound, reduceCtorEq, if_false]
    rfl
  obtain ⟨hans, hget, hkeep⟩ := manifest_moored (.nsAttach nsid [k] on) []
    (fun t => t.mrd.ns.get nsid = m ∧ t.mrd.hosts = s.mrd.hosts) (.ns nsid m) 0x1000 ht hroom
    (fun l => ⟨_, hbody l, .nsChanged _ _ _⟩) fun l t htold q st ps => by
      rw [answerSince_mrd, htold.mrd, moor_mrd]
      exact ⟨Tab.get_set_eq s.mrd.ns nsid m, rfl⟩
  exact ⟨_, rfl, hget ▸ hhosts, hans, hkeep⟩

/-- The attributes that NS_QUERY answers (Table 16-5, log entry 47). -/
def Namespace.attributes (n : Namespace) : List Byte :=
  let c := match n.cipher with
    | .none => 0
    | .xts => 1
    | .sealed => 2
  beBytes 2 n.subsys ++ beBytes 1 n.array ++ beBytes 8 n.size ++ bitmapBytes 1 n.lbafs ++ beBytes 1 n.lbaf ++
    bitmapBytes 1 n.piTypes ++ beBytes 1 n.pi ++ beBytes 1 c ++ beBytes 2 n.keySlot ++ beBytes 1 n.ledgered.toNat ++
    beBytes 1 n.writeProtect.toNat

theorem exec_nsQuery {h : Hdr} {nsid : Nat} {s : State}
    (ht : s.takes h 0x0408 [(.nspace, nsid)] = true ∧ nsid ≠ 0 ∧ nsid ≤ 16384 ∧ (s.mrd.ns.get nsid).present = true) :
    ∃ t, exec (.nsQuery h nsid) s = .next t ∧
      (∃ attributes, t.answered h 0x0408 .success [attributes, (s.mrd.ns.get nsid).ext.flatMap (beBytes 4),
        bitmapBytes 512 (s.mrd.ns.get nsid).hosts]) ∧ t.mrd = s.mrd := by
  obtain ⟨ht, hnsid, hmax, hpresent⟩ := ht
  have hbody : ∀ l, nsQueryBody nsid (s.inSession l) = .ok (s.inSession l) [(s.mrd.ns.get nsid).attributes,
      (s.mrd.ns.get nsid).ext.flatMap (beBytes 4), bitmapBytes 512 (s.mrd.ns.get nsid).hosts] := fun l => by
    rw [nsQueryBody, onNs_of_present (s := s.inSession l) hnsid hmax hpresent]
    rfl
  obtain ⟨hans, -, hmrd⟩ := manifest_answers (.nsQuery nsid) _ ht hbody
  exact ⟨_, rfl, ⟨_, hans⟩, hmrd⟩

/-! ## Hosts and their secrets -/

theorem exec_hostSet {h : Hdr} {i : Nat} {e : HostParams} {s : State}
    (ht : s.takes h 0x0406 [(.host, i)] = true ∧ i < 4096 ∧ e.nqn ≠ 0 ∧ s.absent e.sprayPorts = false)
    (hrange : (e.reach.all fun r => decide (r < 1024)) = true ∧ (e.sprayPorts.all fun p => decide (p < 128)) = true ∧
      (e.meter.all fun m => decide (m + (if e.meterPerClass then 7 else 0) ≤ 8191)) = true)
    (hparam : e.addrs.length ≤ 8 ∧ e.addrs.all prefixOk = true ∧ e.defPs ≤ 3 ∧ 0 < e.maxAssoc ∧ e.maxAssoc ≤ 8192 ∧
      e.stairs ≤ 64)
    (hn : (s.mrd.hosts.find? fun x => x.1 != i && x.2.present && x.2.p.nqn == e.nqn).isNone = true ∧ s.imageRoom 1 = true) :
    ∃ t, exec (.hostSet h i e) s = .next t ∧
      t.mrd.hosts.get i = { s.mrd.hosts.get i with present := true, p := e } ∧ t.answered h 0x0406 .success [] ∧
        t.mrd.ns = s.mrd.ns := by
  obtain ⟨ht, hi, hnqn, habsent⟩ := ht
  obtain ⟨hreach, hports, hmeter⟩ := hrange
  obtain ⟨haddrs, hprefix, hps, hassoc, hmax, hstairs⟩ := hparam
  obtain ⟨hnew, hroom⟩ := hn
  let x : HostEntry := { s.mrd.hosts.get i with present := true, p := e }
  have hbody : ∀ l, hostSetBody i e (s.inSession l) =
      .ok (((s.inSession l).moor (.host i x)).discoveryNote (s.inSession l)) [] := fun l => by
    have hin : ¬ (e.reach.any (fun r => decide (1024 ≤ r)) = true ∨ e.sprayPorts.any (fun p => decide (128 ≤ p)) = true ∨
        e.meter.any (fun m => decide (8191 < m + (if e.meterPerClass then 7 else 0))) = true) := by
      simp only [List.all_eq_true, Option.all_eq_true, decide_eq_true_eq] at hreach hports hmeter
      simp only [List.any_eq_true, Option.any_eq_true, decide_eq_true_eq]
      rintro (⟨r, hr, hlt⟩ | ⟨p, hp, hlt⟩ | ⟨m, hm, hlt⟩)
      · exact absurd (hreach r hr) (Nat.not_lt.mpr hlt)
      · exact absurd (hports p hp) (Nat.not_lt.mpr hlt)
      · exact absurd (hmeter m hm) (Nat.not_le.mpr hlt)
    have hok : ¬ (e.nqn = 0 ∨ 8 < e.addrs.length ∨ (!e.addrs.all prefixOk) = true ∨ 3 < e.defPs ∨ e.maxAssoc = 0 ∨
        8192 < e.maxAssoc ∨ 64 < e.stairs) := by
      rw [hprefix]; simp; omega
    have habsent' : (s.inSession l).absent e.sprayPorts = false := habsent
    have hnew' : ((s.inSession l).mrd.hosts.find? fun x => x.1 != i && x.2.present && x.2.p.nqn == e.nqn) = none :=
      Option.isNone_iff_eq_none.mp hnew
    simp only [hostSetBody, Nat.not_le.mpr hi, if_false, if_neg hin, habsent', Bool.false_eq_true, if_neg hok, hnew']
    rfl
  obtain ⟨hans, hget, hns⟩ := manifest_moored (.hostSet i e) [] (fun t => t.mrd.hosts.get i = x ∧ t.mrd.ns = s.mrd.ns)
    (.host i x) 0x1000 ht hroom (fun l => ⟨_, hbody l, .discoveryNote _ _⟩) fun l t htold q st ps => by
      rw [answerSince_mrd, htold.mrd, moor_mrd]
      exact ⟨Tab.get_set_eq s.mrd.hosts i x, rfl⟩
  exact ⟨_, rfl, hget, hans, hns⟩

/-- A host's entry with other secrets is moored (R40). -/
theorem manifest_hostMoored {h : Hdr} {op i : Nat} {s : State} (c : ManCmd) {body : State → MRes} (x : HostEntry)
    (ht : s.takes h op [(.host, i)] = true) (hroom : s.imageRoom 1 = true)
    (hbody : ∀ l, body (s.inSession l) = .ok ((s.inSession l).moor (.host i x)) []) :
    (s.manifest c h op [(.host, i)] body).mrd.hosts.get i = x ∧
      (s.manifest c h op [(.host, i)] body).answered h op .success [] :=
  (manifest_moored c [] (fun t => t.mrd.hosts.get i = x) (.host i x) 0 ht hroom (fun l => ⟨_, hbody l, .refl _⟩)
    fun l t htold q st ps => by
      rw [answerSince_mrd, htold.mrd, moor_mrd]
      exact Tab.get_set_eq s.mrd.hosts i x).symm

theorem exec_authSecretSet {h : Hdr} {i hs cs hash : Nat} {s : State}
    (ht : s.takes h 0x0610 [(.host, i)] = true ∧ i < 4096 ∧ (s.mrd.hosts.get i).present = true ∧ hash ≠ 0 ∧ hash ≤ 3 ∧
      s.imageRoom 1 = true) :
    ∃ t, exec (.authSecretSet h i hs cs hash) s = .next t ∧
      t.mrd.hosts.get i = { s.mrd.hosts.get i with hostSecret := hs, ctrlSecret := cs, hash := hash } ∧
        t.answered h 0x0610 .success [] := by
  obtain ⟨ht, hi, hpresent, hhash, hhash3, hroom⟩ := ht
  refine ⟨_, rfl, manifest_hostMoored _ { s.mrd.hosts.get i with hostSecret := hs, ctrlSecret := cs, hash := hash } ht hroom
    fun l => ?_⟩
  have hhash' : ¬ (hash = 0 ∨ 3 < hash) := by omega
  rw [authSecretSetBody, onHost_of_present (s := s.inSession l) hi hpresent]
  exact if_neg hhash'

theorem exec_authSecretClear {h : Hdr} {i : Nat} {s : State}
    (ht : s.takes h 0x0611 [(.host, i)] = true ∧ i < 4096 ∧ (s.mrd.hosts.get i).present = true ∧ s.imageRoom 1 = true) :
    ∃ t, exec (.authSecretClear h i) s = .next t ∧
      t.mrd.hosts.get i = { s.mrd.hosts.get i with hostSecret := 0, ctrlSecret := 0, hash := 0 } ∧
        t.answered h 0x0611 .success [] := by
  obtain ⟨ht, hi, hpresent, hroom⟩ := ht
  refine ⟨_, rfl, manifest_hostMoored _ { s.mrd.hosts.get i with hostSecret := 0, ctrlSecret := 0, hash := 0 } ht hroom
    fun l => ?_⟩
  exact onHost_of_present (s := s.inSession l) hi hpresent _

end Sys2Proof.Machine

/-! Namespaces and hosts deleted: what their ends leave of the tables and how large the moored image grows (R53, R91, R382,
R462). -/

namespace Sys2Proof.Machine

/-! ## Deferred-error logs kept -/

/-- `t` is `s` after at most `n` arrays' marks were moored and areas written (R53, R176). -/
structure Marked (n : Nat) (s t : State) : Prop where
  mrd : t.mrd = { s.mrd with marks := t.mrd.marks }
  marks : t.mrd.marks.length ≤ s.mrd.marks.length + n
  mft : t.mft = s.mft
  host : t.host = s.host
  medium : ∀ b, (t.drives.get b).medium.blocks = (s.drives.get b).medium.blocks ∧
    (t.drives.get b).medium.ring = (s.drives.get b).medium.ring

namespace Marked

variable {m n : Nat} {s t u : State}

theorem refl (s : State) : Marked 0 s s := ⟨rfl, Nat.le_refl _, rfl, rfl, fun _ => ⟨rfl, rfl⟩⟩

theorem trans (h : Marked m s t) (h' : Marked n t u) : Marked (m + n) s u :=
  ⟨h'.mrd.trans (congrArg (fun x : Moored => { x with marks := u.mrd.marks }) h.mrd),
    by have := h.marks; have := h'.marks; omega, h'.mft.trans h.mft, h'.host.trans h.host,
    fun b => ⟨(h'.medium b).1.trans (h.medium b).1, (h'.medium b).2.trans (h.medium b).2⟩⟩

theorem mono (h : Marked m s t) (hn : m ≤ n) : Marked n s t :=
  ⟨h.mrd, Nat.le_trans h.marks (Nat.add_le_add_left hn _), h.mft, h.host, h.medium⟩

theorem updAry (s : State) (i : Nat) (f : ArrRun → ArrRun) : Marked 0 s (s.updAry i f) :=
  ⟨rfl, Nat.le_refl _, rfl, rfl, fun _ => ⟨rfl, rfl⟩⟩

/-- A deferred-error area written on a medium leaves its blocks and its ring. -/
theorem updMedium (s : State) (b : Nat) (a : DeferArea) : Marked 0 s (s.updMedium b fun m => { m with defer := a }) := by
  refine ⟨rfl, Nat.le_refl _, rfl, rfl, fun x => ?_⟩
  rw [State.updMedium]
  dsimp only
  rw [Tab.get_upd]
  split <;> exact ⟨rfl, rfl⟩

theorem foldlZero {β : Type} (f : State → β → State) (hf : ∀ t x, Marked 0 t (f t x)) (l : List β) (s : State) :
    Marked 0 s (l.foldl f s) :=
  foldl_keeps (Marked 0 s) f (fun t x h => h.trans (hf t x)) l s (refl s)

theorem moorMarks (s : State) (i : Nat) (l : DeferLog) : Marked 1 s (s.moor (.marks i l)) :=
  ⟨by rw [moor_mrd]; rfl, by rw [moor_mrd]; exact Tab.length_set_le _ _ _, by simp, by simp, fun b => by simp⟩

theorem putArea (s : State) (i : Nat) : Marked 1 s (s.putArea i) := by
  unfold State.putArea
  dsimp only
  split
  · exact (refl s).mono (Nat.zero_le 1)
  · split
    · exact ((updAry s i _).trans (moorMarks _ i _)).mono (Nat.le_refl 1)
    · exact ((updAry s i _).trans (foldlZero _ (fun t b => updMedium t b _) _ _)).mono (Nat.zero_le 1)

theorem putAreas (l : List Nat) (s : State) : Marked l.length s (l.foldl State.putArea s) := by
  induction l generalizing s with
  | nil => exact refl s
  | cons i l ih => exact ((putArea s i).trans (ih _)).mono (by simp [Nat.add_comm])

theorem keepDefer (s : State) : Marked s.mrd.arr.length s s.keepDefer :=
  (putAreas _ s).mono (Nat.le_of_eq (List.length_map _))

end Marked

/-! ## A namespace at its end -/

/-- What is left of a deleted namespace concerns arrays, berths and the host face alone (R462). -/
theorem settleDying_frame (s : State) : s.settleDying.mrd = s.mrd ∧ s.settleDying.mft = s.mft ∧ s.settleDying.drives = s.drives := by
  have hunlock : ∀ (t : State) (i st : Nat) (h : Holder), (t.unlockStripe i st h).mrd = t.mrd ∧
      (t.unlockStripe i st h).mft = t.mft ∧ (t.unlockStripe i st h).drives = t.drives := fun t i st h => by
    unfold State.unlockStripe
    dsimp only
    split <;> exact ⟨rfl, rfl, rfl⟩
  unfold State.settleDying
  refine foldl_keeps (fun t : State => t.mrd = s.mrd ∧ t.mft = s.mft ∧ t.drives = s.drives) _ (fun t d h => ?_) _ _ ⟨rfl, rfl, rfl⟩
  dsimp only
  refine foldl_keeps (fun t : State => t.mrd = s.mrd ∧ t.mft = s.mft ∧ t.drives = s.drives) _ (fun u st h => ?_) _ _ h
  obtain ⟨hmrd, hmft, hdrives⟩ := hunlock (u.updGather d.ns.array st fun _ => default) d.ns.array st .destage
  exact ⟨hmrd.trans h.1, hmft.trans h.2.1, hdrives.trans h.2.2⟩

/-! ## Manifests whose effects end others -/

/-- The completion of a manifest whose effect may answer others: it strikes receipts off the list of the unwanted alone. -/
theorem manifest_done {s : State} {h : Hdr} {op : Nat} {objs : List (ObjKind × Nat)} (i : ManCmd) {body : State → MRes}
    (ps : List (List Byte)) (P : State → Prop) (ht : s.takes h op objs = true)
    (hb : ∀ l, ∃ t, body (s.inSession l) = .ok t ps ∧ t.mft.mboxDrop ⊆ s.mft.mboxDrop ∧ s.outgrows t = false ∧
      ∀ q st ps, P (t.answerSince q h op st ps)) :
    (s.manifest i h op objs body).answered h op .success ps ∧ P (s.manifest i h op objs body) := by
  obtain ⟨l, hl⟩ := manifest_takes i body ht
  obtain ⟨t, hbody, hdrop, hgrow, hP⟩ := hb l
  have hgrow' : (s.inSession l).outgrows t = false := hgrow
  have hrun : s.manifest i h op objs body = t.answerSince (s.inSession l).store.seq h op .success (params ps) := by
    rw [hl]
    change State.runBody (s.inSession l) h op objs body = _
    simp only [State.runBody, hbody, hgrow', Bool.false_eq_true, if_false]
  rw [hrun]
  refine ⟨answered_answerSince t _ h op _ ps ?_, hP _ _ _⟩
  have hwanted := takes_notDropped ht
  simp only [List.contains_eq_mem, decide_eq_false_iff_not] at hwanted ⊢
  exact fun hm => hwanted (hdrop hm)

theorem Marked.moorBytes_le {n : Nat} {s t : State} (h : Marked n s t) : t.moorBytes ≤ s.moorBytes + 40 * n := by
  have hmarks := h.marks
  rw [State.moorBytes, h.mrd]
  simp only [State.moorBytes]
  omega

theorem exec_nsDelete {h : Hdr} {nsid : Nat} {s : State}
    (ht : s.takes h 0x0404 [(.nspace, nsid)] = true ∧ nsid ≠ 0 ∧ nsid ≤ 16384 ∧ (s.mrd.ns.get nsid).present = true)
    (hroom : s.imageRoom s.mrd.arr.length = true) :
    ∃ t, exec (.nsDelete h nsid) s = .next t ∧
      t.mrd.ns.get nsid = default ∧ t.answered h 0x0404 .success [] ∧
      (∀ b, (t.drives.get b).medium.blocks = (s.drives.get b).medium.blocks ∧ (t.drives.get b).medium.ring =
        (s.drives.get b).medium.ring) := by
  obtain ⟨ht, hnsid, hmax, hpresent⟩ := ht
  obtain ⟨hans, hget, hmedium⟩ := manifest_done (.nsDelete nsid) [] (body := nsDeleteBody nsid) (fun t => t.mrd.ns.get nsid = default ∧
    ∀ b, (t.drives.get b).medium.blocks = (s.drives.get b).medium.blocks ∧ (t.drives.get b).medium.ring =
      (s.drives.get b).medium.ring) ht fun l => by
    let n := s.mrd.ns.get nsid
    let u := (s.inSession l).updHost fun f => { f with
      dying := f.dying ++ [⟨nsid, n⟩]
      log := f.log.mapAll fun _ e => { e with marks := e.marks.erase nsid }
      lostBlks := f.lostBlks.filter fun e => e.2.2 != nsid }
    have hkept := Marked.keepDefer u
    have htold := Told.nsChanged (u.keepDefer.moor (.ns nsid default)) nsid n.hosts
    obtain ⟨hmrd, hmft, hdrives⟩ := settleDying_frame ((u.keepDefer.moor (.ns nsid default)).nsChanged nsid n.hosts)
    refine ⟨((u.keepDefer.moor (.ns nsid default)).nsChanged nsid n.hosts).settleDying, ?_, ?_, ?_, fun q st ps => ⟨?_, fun b => ?_⟩⟩
    · rw [nsDeleteBody, onNs_of_present (s := s.inSession l) hnsid hmax hpresent]
      rfl
    · rw [hmft, htold.mft, moor_mft, hkept.mft]
      exact List.Subset.refl _
    · refine outgrows_of_imageRoom hroom ?_
      rw [moorBytes_congr (hmrd.trans htold.mrd)]
      exact Nat.le_trans (moorBytes_moor_ns_default u.keepDefer nsid) hkept.moorBytes_le
    · rw [answerSince_mrd, hmrd, htold.mrd, moor_mrd]
      exact Tab.get_set_eq u.keepDefer.mrd.ns nsid default
    · rw [answerSince_drives, hdrives, htold.drives, moor_drives]
      exact hkept.medium b
  exact ⟨_, rfl, hget, hans, hmedium⟩

/-! ## A host at its end -/

/-- The host given up in the namespaces of `l` (R53). -/
def State.dropHost (s : State) (i : Nat) (l : List Nat) : State :=
  l.foldl (fun s k =>
    let n := s.mrd.ns.get k
    s.moor (.ns k { n with hosts := n.hosts.erase i })) s

/-- The room that a namespace takes in the image: its record and its runs of extents (R382). -/
def nsWeight (e : Nat × Namespace) : Nat := 1 + extRuns e.2.ext

/-- Namespaces that lose a host keep their extents, so that the image grows by an entry beside an older one at most. -/
structure HostDropped (s t : State) : Prop where
  mrd : t.mrd = { s.mrd with ns := t.mrd.ns }
  grown : Tab.Regrown nsWeight s.mrd.ns t.mrd.ns
  ext : ∀ k, (t.mrd.ns.get k).ext = (s.mrd.ns.get k).ext
  mft : t.mft = s.mft
  host : t.host = s.host

theorem hostDropped (s : State) (i : Nat) (l : List Nat) : HostDropped s (s.dropHost i l) := by
  refine foldl_keeps (HostDropped s) _ (fun t k h => ?_) l s ⟨rfl, .refl _, fun _ => rfl, rfl, rfl⟩
  let m : Namespace := { t.mrd.ns.get k with hosts := (t.mrd.ns.get k).hosts.erase i }
  change HostDropped s (t.moor (.ns k m))
  have hmrd : (t.moor (.ns k m)).mrd = { t.mrd with ns := t.mrd.ns.set k m } := moor_mrd _ _
  have hv : m = default ∨ t.mrd.ns.get k ≠ default := by
    by_cases hd : t.mrd.ns.get k = default
    · exact .inl (by simp only [m, hd]; rfl)
    · exact .inr hd
  have hw : nsWeight (k, m) = nsWeight (k, s.mrd.ns.get k) := by simp only [nsWeight, m, h.ext]
  refine ⟨?_, ?_, fun x => ?_, (moor_mft t _).trans h.mft, (moor_host t _).trans h.host⟩
  · rw [hmrd]
    exact congrArg (fun y : Moored => { y with ns := t.mrd.ns.set k m }) h.mrd
  · rw [hmrd]
    exact h.grown.set hv (Nat.le_refl _) (Nat.le_of_eq hw)
  · rw [hmrd]
    change ((t.mrd.ns.set k m).get x).ext = _
    rw [Tab.get_set]
    split
    · rename_i hx; subst hx; exact h.ext k
    · exact h.ext x

theorem sum_nsWeight (t : Tab Namespace) : (t.map nsWeight).sum = t.length + (t.map fun e => extRuns e.2.ext).sum := by
  induction t with
  | nil => rfl
  | cons e t ih =>
    simp only [List.map_cons, List.sum_cons, List.length_cons, nsWeight] at ih ⊢
    omega

theorem sum_one {α : Type} (t : Tab α) : (t.map fun _ => 1).sum = t.length := by simp

/-- A host's end: associations torn down, deferred-error logs kept, namespaces without it (R53, R91). -/
theorem moorBytes_hostGone {n : Nat} {s u v t : State} (hu : Ebbs s u) (hv : Marked n u v) (ht : HostDropped v t) :
    t.moorBytes ≤ s.moorBytes + 40 * (n + s.mrd.keys.length + s.mrd.ns.length + (s.mrd.ns.map fun e => extRuns e.2.ext).sum) := by
  have hkeys := (hu.keys s.mrd.keys (.refl _)).sum_le
  have hns := ht.grown.sum_le
  have hmarks := hv.marks
  rw [sum_one, sum_one] at hkeys
  rw [sum_nsWeight, sum_nsWeight] at hns
  have hvmrd : v.mrd = { s.mrd with keys := u.mrd.keys, marks := v.mrd.marks } :=
    hv.mrd.trans (congrArg (fun m : Moored => { m with marks := v.mrd.marks }) hu.mrd)
  have htmrd : t.mrd = { s.mrd with keys := u.mrd.keys, marks := v.mrd.marks, ns := t.mrd.ns } :=
    ht.mrd.trans (congrArg (fun m : Moored => { m with ns := t.mrd.ns }) hvmrd)
  have humarks : u.mrd.marks = s.mrd.marks := by rw [hu.mrd]
  have hvns : v.mrd.ns = s.mrd.ns := by rw [hvmrd]
  rw [humarks] at hmarks
  rw [hvns] at hns
  rw [State.moorBytes, htmrd]
  simp only [State.moorBytes]
  omega

theorem exec_hostDelete {h : Hdr} {i : Nat} {s : State}
    (ht : s.takes h 0x0407 [(.host, i)] = true ∧ i < 4096 ∧ (s.mrd.hosts.get i).present = true)
    (hroom : s.imageRoom (s.mrd.arr.length + s.mrd.keys.length + s.mrd.ns.length + (s.mrd.ns.map fun e => extRuns
      e.2.ext).sum) = true) :
    ∃ t, exec (.hostDelete h i) s = .next t ∧
      t.mrd.hosts.get i = default ∧ t.host.log.get i = default ∧ t.answered h 0x0407 .success [] := by
  obtain ⟨ht, hi, hpresent⟩ := ht
  obtain ⟨hans, hget, hlog⟩ := manifest_done (.hostDelete i) [] (body := hostDeleteBody i)
    (fun t => t.mrd.hosts.get i = default ∧ t.host.log.get i = default) ht fun l => by
    let u := ((s.inSession l).host.assoc.keysWhere fun _ a => a.live && a.host == i).foldl State.tearDown (s.inSession l)
    let v := u.updHost fun f => { f with
      log := f.log.set i default
      deferred := (f.deferred.map fun d => { d with hosts := d.hosts.erase i, claimed := d.claimed.erase i }).filter
        fun d => !d.hosts.isEmpty }
    let w := v.keepDefer
    let x := w.dropHost i (w.mrd.ns.keysWhere fun _ n => n.present && n.hosts.contains i)
    have hebbs : Ebbs (s.inSession l) v := (Ebbs.foldl _ Ebbs.tearDown _ (s.inSession l)).trans (Ebbs.updHost _ rfl)
    have hkept : Marked s.mrd.arr.length v w := by
      have harr : v.mrd.arr.length = s.mrd.arr.length := by rw [hebbs.mrd]; rfl
      exact harr ▸ Marked.keepDefer v
    have hdropped : HostDropped w x := hostDropped w i _
    have htold := Told.discoveryNote (x.moor (.host i default)) x
    refine ⟨(x.moor (.host i default)).discoveryNote x, ?_, ?_, ?_, fun q st ps => ⟨?_, ?_⟩⟩
    · rw [hostDeleteBody, onHost_of_present (s := s.inSession l) hi hpresent]
      rfl
    · rw [htold.mft, moor_mft, hdropped.mft, hkept.mft]
      exact hebbs.drop
    · refine outgrows_of_imageRoom hroom ?_
      rw [moorBytes_congr htold.mrd]
      exact Nat.le_trans (moorBytes_moor_host_default x i) (moorBytes_hostGone (s := s.inSession l) hebbs hkept hdropped)
    · rw [answerSince_mrd, htold.mrd, moor_mrd]
      exact Tab.get_set_eq x.mrd.hosts i default
    · rw [answerSince_host, htold.log, moor_host, hdropped.host, hkept.host]
      exact Tab.get_set_eq u.host.log i default
  exact ⟨_, rfl, hget, hlog, hans⟩

/-- Settles O44: each manifest moors its entries; of a host's end the image's growth is `moorBytes_hostGone`. -/
theorem subsystemNamespaceAndHostManifestsTakeEffect : Obligations.SubsystemNamespaceAndHostManifestsTakeEffect :=
  ⟨fun _ _ _ _ => exec_subsysSet, fun _ _ _ => exec_subsysDelete, fun _ _ _ _ _ _ _ _ => exec_nsCreate,
    fun _ _ _ => exec_nsDelete, fun _ _ _ _ _ => exec_nsAttach, fun _ _ _ => exec_nsQuery, fun _ _ _ _ => exec_hostSet,
    fun _ _ _ => exec_hostDelete, fun _ _ _ _ _ _ => exec_authSecretSet, fun _ _ _ => exec_authSecretClear⟩

end Sys2Proof.Machine

/-! The end of a command whose effect is a moored change: its completion is accepted by the tug, and leaves at once or
once the partner has acknowledged the prompt entry (R48, R111, R318). -/

namespace Sys2Proof.Machine

section Held

variable (s : State)

/-- What waits for the partner's acknowledgement is no matter of a moored change. -/
@[simp] theorem held_shadow (r : MoorRec) (p : Bool) : (s.shadow r p).pair.held = s.pair.held := by
  unfold State.shadow
  dsimp only
  split
  · rfl
  · split <;> split <;> simp [State.updPeer]

@[simp] theorem held_moor (r : MoorRec) : (s.moor r).pair.held = s.pair.held := by
  simp [State.moor, State.moorAs]

@[simp] theorem held_forgetKey (k : Nat) (b : Bool) : (s.forgetKey k b).pair.held = s.pair.held := rfl
@[simp] theorem held_updSlot (k : Nat) (f : SlotRun → SlotRun) : (s.updSlot k f).pair.held = s.pair.held := rfl

@[simp] theorem held_openWindow (k : Nat) : (s.openWindow k).pair.held = s.pair.held := by
  unfold State.openWindow
  dsimp only
  split
  · rfl
  · rw [State.sendPeer, count_pair]
    rfl

/-- Nor of an answer: a receipt that must wait waits on a list of its own. -/
theorem held_answerSince (q : Nat) (h : Hdr) (op : Nat) (st : MStat) (ps : List (Nat × List Byte)) :
    (s.answerSince q h op st ps).pair.held = s.pair.held := by
  unfold State.answerSince
  dsimp only
  split <;> split <;> simp [State.updPeer]

@[simp] theorem held_finish (r : Running) (st : MStat) (ps : List (List Byte)) :
    (s.finish r st ps).pair.held = s.pair.held :=
  held_answerSince (s.updMft _) _ _ _ _ _

theorem held_settleSlot (k : Nat) : (s.settleSlot k).pair.held = s.pair.held := by
  unfold State.settleSlot
  dsimp only
  split
  · split
    · rfl
    · split <;> simp
  · split
    · split <;> simp
    · rfl

theorem held_settleSlots : s.settleSlots.pair.held = s.pair.held :=
  foldl_keeps (fun t => t.pair.held = s.pair.held) _ (fun t k h => (held_settleSlot t k).trans h) _ s rfl

theorem held_settleAssoc (c : Nat) : (s.settleAssoc c).pair.held = s.pair.held := by
  unfold State.settleAssoc
  split <;> rfl

theorem pair_unlockStripe (i st : Nat) (o : Holder) : (s.unlockStripe i st o).pair = s.pair := by
  unfold State.unlockStripe
  dsimp only
  split <;> rfl

theorem pair_releaseLocks (b : Nat) : (s.releaseLocks b).pair = s.pair := by
  unfold State.releaseLocks
  dsimp only
  rw [foldl_eq State.pair _ fun t l => pair_unlockStripe t _ _ _]
  rfl

theorem pair_wakeHeld : s.wakeHeld.pair = s.pair := by
  unfold State.wakeHeld
  refine foldl_eq State.pair _ (fun t b => ?_) _ s
  split <;> rfl

theorem pair_settleDying : s.settleDying.pair = s.pair := by
  unfold State.settleDying
  refine foldl_eq State.pair _ (fun t d => ?_) _ s
  dsimp only
  refine foldl_eq State.pair _ (fun u st => ?_) _ t
  exact pair_unlockStripe (u.updGather _ st fun _ => default) _ st _

/-- Nor of a berth's release. -/
theorem held_releaseBerth (b : Nat) : (s.releaseBerth b).pair.held = s.pair.held := by
  unfold State.releaseBerth
  dsimp only
  split
  · rw [held_settleAssoc, pair_settleDying, held_settleSlots, pair_wakeHeld]
    exact congrArg Pairing.held (pair_releaseLocks s b)
  · rfl

end Held

/-- Outputs that left or were held did so. -/
theorem State.responded.mono_held {s t : State} {q cid : Nat} {st : Status} (h : s.responded q cid st)
    (hout : s.out ⊆ t.out) (hheld : t.pair.held = s.pair.held) : t.responded q cid st :=
  h.imp (fun ⟨hd, hm⟩ => ⟨hd, hout hm⟩) fun ⟨n, hd, hm⟩ => ⟨n, hd, hheld ▸ hm⟩

section Scenes

variable {s t u : State} {sc : Scene} {b : Nat} {B : Berth} {h : HostFace} {A : Tab ArrRun} {D : Tab Drive}

theorem lone_put_host {B' : Berth} {h' : HostFace} {A' : Tab ArrRun} :
    ({ lone b B h A D with host := h', ary := A' } : Scene).put b B' = lone b B' h' A' D := by
  simp [lone, Scene.put]

/-- A command alone on its berth is alone there whatever else of the device changes. -/
theorem Stands.lone_of_brg (hs : Stands s (lone b B h A D) t) (hb : u.brg = t.brg) :
    Stands u (lone b B u.host u.ary u.drives) u where
  toNear := (Calm.refl u).near
  wf := hb ▸ hs.wf
  berth x := by rw [State.berth, hb]; exact hs.berth x
  tow e := by rw [State.eng, hb]; exact hs.tow e
  runs _ := rfl
  host := rfl
  ary := rfl
  drives := rfl

end Scenes

section Accept

variable {s t u v w : State} {b k q cid : Nat} {B C : Berth} {h : HostFace} {A : Tab ArrRun} {D : Tab Drive} {st : Status}

theorem still_emitAfter (s : State) (n : Nat) (o : Out) : Still s (s.emitAfter n o) := by
  unfold State.emitAfter
  split
  · exact ⟨⟨rfl, rfl, rfl, rfl, fun _ => rfl, List.prefix_refl _⟩, rfl, rfl⟩
  · exact (Calm.emit s o).still

/-- An output that may have to wait for the partner is sent or held. -/
theorem responded_emitAfter (s : State) (n q cid hd : Nat) (st : Status) :
    (s.emitAfter n (.response q cid hd st)).responded q cid st := by
  unfold State.emitAfter
  split
  · exact .inr ⟨n, hd, List.mem_append_right _ (List.mem_singleton_self _)⟩
  · exact .inl ⟨hd, List.mem_append_right _ (List.mem_singleton_self _)⟩

/-- A berth with its completion formed. -/
structure Berth.Formed (x : Berth) (q cid k : Nat) (st : Status) : Prop where
  state : x.state = .done
  orphan : x.orphan = false
  posted : x.posted = false
  commit : x.cmd.commit = none
  status : x.status = st
  qref : x.cmd.qref = q
  cid : x.cmd.cid = cid
  cntlid : x.cntlid = k

/-- The identifier of a command that has ended is free; the queue stands as it was. -/
theorem updQueue_cids (h : HostFace) (q x cid : Nat) :
    ((h.updQueue q fun y => { y with cids := y.cids.erase cid }).queue.get x).live = (h.queue.get x).live ∧
    ((h.updQueue q fun y => { y with cids := y.cids.erase cid }).queue.get x).cntlid = (h.queue.get x).cntlid ∧
    ((h.updQueue q fun y => { y with cids := y.cids.erase cid }).queue.get x).disconnect = (h.queue.get x).disconnect ∧
    ((h.updQueue q fun y => { y with cids := y.cids.erase cid }).queue.get x).sqhd = (h.queue.get x).sqhd := by
  by_cases hx : x = q
  · subst hx; simp
  · simp only [updQueue_get_ne _ _ hx, and_self]

/-- The posting of a completion on a live queue of its association, in its steps. -/
theorem postBerth_of_formed (hb : t.berth b = C) (hC : C.Formed q cid k st) (hl : (t.host.queue.get q).live = true)
    (hk : (t.host.queue.get q).cntlid = k) :
    t.postBerth b = ((((((((((((t.updBerth b fun x => { x with posted := true }).emitAfter C.prompt
      (.response q cid C.sqhd st)).sendResp q C.cmd.inval).updQueue q fun x => { x with cids := x.cids.erase cid }).hop
      (attEngine C.owner) (attGroup (refGroup q)) 1).tally 0x061 C.owner 1).tally
      0x061 (256 + C.owner / 16) 1).tally 0x061 0x1FF 1).tallyIo C.cmd C.ns st).releaseBerth b)).settleQueue q) := by
  unfold State.postBerth
  simp only [hb, hC.qref, hC.cid, hC.status, hC.commit, hC.cntlid, hl, hk, and_self, if_true]

/-- The tug accepts the completion of the only command (R48, R111, R318). -/
theorem accepted (hs : Stands s (lone b C h A D) t) (hC : C.Formed q cid k st) (hdy : h.dying = [])
    (hl : (h.queue.get q).live = true) (hk : (h.queue.get q).cntlid = k) (hd : (h.queue.get q).disconnect = none)
    (d : List Sector) :
    Kept t (t.progress b d) ∧ (t.progress b d).responded q cid st ∧ ∃ y, Posted b y (t.progress b d) := by
  have hb : t.berth b = C := by rw [hs.berth, lone_berth_same]
  have hposted := hs.updBerth_to (b := b) (f := fun x => { x with posted := true }) (e := { C with posted := true })
    (by rw [lone_berth_same])
  rw [lone_put] at hposted
  have hstill := still_emitAfter (t.updBerth b fun x => { x with posted := true }) C.prompt (.response q cid C.sqhd st)
  have hres := responded_emitAfter (t.updBerth b fun x => { x with posted := true }) C.prompt q cid C.sqhd st
  have hy := hposted.lone_of_brg hstill.brg
  generalize hyeq : (t.updBerth b fun x => { x with posted := true }).emitAfter C.prompt (.response q cid C.sqhd st) = y
    at hstill hres hy
  have hhost : y.host = h := hstill.host.trans hs.host
  have hz := ((((((hy.calm (Calm.sendResp y q C.cmd.inval)).updQueue q fun x => { x with cids := x.cids.erase cid }).calm
    (Calm.hop _ (attEngine C.owner) (attGroup (refGroup q)) 1)).calm (Calm.tally _ 0x061 C.owner 1)).calm
    (Calm.tally _ 0x061 (256 + C.owner / 16) 1)).calm (Calm.tally _ 0x061 0x1FF 1)).calm (Calm.tallyIo _ C.cmd C.ns st)
  have hset := lone_settled (b := b) (B := { C with posted := true }) (h := y.host) (A := y.ary) (D := y.drives)
    (by rw [hC.state]; decide) (by rw [hC.state]; decide)
  have hrel := hz.releaseBerth (b := b) ⟨hset.held, hset.waits⟩
    (fun x => by
      show ((lone b { C with posted := true } y.host y.ary y.drives).berth x).orphan = false
      by_cases hx : x = b
      · subst hx; rw [lone_berth_same]; exact hC.orphan
      · rw [lone_berth_ne x hx]; rfl)
    (by rw [← hhost] at hdy; exact hdy) rfl (fun _ => rfl) (fun x _ => (hy.berth x).symm)
    (by
      show ((lone b { C with posted := true } y.host y.ary y.drives).berth b).state = .done ∧
        ((lone b { C with posted := true } y.host y.ary y.drives).berth b).posted = true
      rw [lone_berth_same]
      exact ⟨hC.state, rfl⟩)
    (by rw [hhost]; exact fun x => updQueue_cids h q x cid)
  have hheld := (held_releaseBerth _ b).trans (congrArg Pairing.held hz.pair)
  have hprog : t.progress b d = (t.postBerth b).adopt := by
    rw [State.progress, hb, hC.state]
    simp [hC.posted]
  have hpost := postBerth_of_formed hb hC (by rw [hs.host]; exact hl) (by rw [hs.host]; exact hk)
  rw [hyeq] at hpost
  rw [hprog, hpost, settleQueue_of_none ((hrel.disconnect q).trans (by rw [hhost]; exact hd)),
    adopt_of_none hrel.wf hrel.orphan]
  have hmark : Kept t (t.updBerth b fun x => { x with posted := true }) :=
    ⟨rfl, rfl, rfl, rfl, fun _ => rfl, List.prefix_refl _⟩
  exact ⟨hmark.trans (hstill.toKept.trans hrel.toKept), hres.mono_held hrel.out.subset hheld, y, hrel⟩

/-- A command's only completion: formed, and accepted. -/
theorem AtWork.ends {c : IoCmd} {ops : List PlanOp} {rn rnN : Nat} {h' : HostFace} {A' : Tab ArrRun} {D' : Tab Drive}
    (hw : AtWork s c ops rn rnN b k h A D t u v B) (hx : v.workStep b = w) (hs : Stands w (lone b C h' A' D') w)
    (hC : C.Formed c.qref c.cid (s.host.queue.get c.qref).cntlid st) (hdy : h'.dying = [])
    (hl : (h'.queue.get c.qref).live = true) (hk : (h'.queue.get c.qref).cntlid = (s.host.queue.get c.qref).cntlid)
    (hd : (h'.queue.get c.qref).disconnect = none) :
    Kept w (s.ioRow c) ∧ (s.ioRow c).responded c.qref c.cid st := by
  obtain ⟨hkept, hres, y, hpost⟩ := accepted hs hC hdy hl hk hd c.data
  have hub : (u.berth b).state = .run := by rw [hw.before.berth, lone_berth_same, hw.working.plain.run]
  have hwb : w.berth b = C := by rw [hs.berth, lone_berth_same]
  have hgo1 : Goes b c.data 1 u w := goes_of_progress (by rw [hub]; decide) (hw.step.trans hx) fun heq => by
    rw [← heq, hwb, hC.state] at hub
    cases hub
  have hgo2 : Goes b c.data 1 w (w.progress b c.data) := goes_of_progress (by rw [hwb, hC.state]; decide) rfl fun heq => by
    rw [hwb] at heq
    rcases hpost.here with hb | ⟨-, hb⟩
    · have := hC.state
      rw [← heq, hb] at this
      cases this
    · rw [heq, hC.posted] at hb
      cases hb
  have hrun := ((hw.goes.trans hgo1).trans hgo2) (62 - k)
  rw [runOn_of_posted hpost, show k + 1 + 1 + (62 - k) = 64 by have := hw.few; omega] at hrun
  rw [hw.row, hrun]
  exact ⟨hkept, hres⟩

/-- The prompt entry of a moored change is noted on the berth, where there is one. -/
theorem notePrompt_cases (s t : State) (b : Nat) :
    s.notePrompt t b = t ∨ ∃ n, s.notePrompt t b = t.updBerth b fun x => { x with prompt := n } := by
  unfold State.notePrompt
  dsimp only
  split
  · exact .inr ⟨_, rfl⟩
  · exact .inl rfl

/-- The end of the only command's effect, with the prompt entry noted: its completion stands formed on its berth. -/
theorem formed_of_finish (hs : Stands w (lone b B w.host w.ary w.drives) w) (hB : B.Own q cid k) (v : State) (st : Status) :
    ∃ C h A, Stands (v.notePrompt (w.finishBerth b st) b) (lone b C h A w.drives) (v.notePrompt (w.finishBerth b st) b) ∧
      C.Formed q cid k st ∧ h.queue = w.host.queue ∧ h.dying = w.host.dying ∧
      Kept w (v.notePrompt (w.finishBerth b st) b) := by
  obtain ⟨A, hd, hA, hdone⟩ := hs.formDone (b := b) (m := b) (by rw [lone_berth_same, hB.run]; exact fun h => nomatch h)
    (lone_settled (by rw [hB.run]; exact fun h => nomatch h) (by rw [hB.run]; exact fun h => nomatch h))
    (by rw [lone_berth_same, hB.second]; rfl) st
  rw [← finishBerth_eq_formDone (by rw [hs.berth, lone_berth_same, hB.mate]), lone_berth_same, lone_put_host] at hdone
  have hC : ∀ n, ({ B.completed st hd with prompt := n } : Berth).Formed q cid k st := fun n =>
    ⟨rfl, hB.orphan, hB.posted, hB.commit, rfl, hB.qref, hB.cid, hB.cntlid⟩
  rcases notePrompt_cases v (w.finishBerth b st) b with hn | ⟨n, hn⟩
  · rw [hn]
    exact ⟨_, _, _, hdone.rebase, hC B.prompt, rfl, rfl, hdone.kept rfl hA⟩
  · have hnoted := hdone.updBerth_to (b := b) (f := fun x => { x with prompt := n })
      (e := { B.completed st hd with prompt := n }) (by rw [lone_berth_same])
    rw [lone_put] at hnoted
    rw [hn]
    exact ⟨_, _, _, hnoted.rebase, hC n, rfl, rfl, hnoted.kept rfl hA⟩

end Accept

end Sys2Proof.Machine

/-! The four reservation commands (R41, R461, Table 2-2). -/

namespace Sys2Proof.Machine

/-- `t` is `s` after a change of tables and notices of it to hosts: berths and tow lines are as they were, and of the queues
the identifiers of requests for events alone came free. -/
structure Noticed (s t : State) : Prop where
  brg : t.brg = s.brg
  dying : t.host.dying = s.host.dying
  queue : ∀ q, ∃ l, t.host.queue.get q = { s.host.queue.get q with cids := l }

namespace Noticed

variable {s t u : State}

theorem of_same (hb : t.brg = s.brg) (hh : t.host = s.host) : Noticed s t := ⟨hb, by rw [hh], fun q => ⟨_, by rw [hh]⟩⟩

theorem refl (s : State) : Noticed s s := of_same rfl rfl

theorem trans (h : Noticed s t) (h' : Noticed t u) : Noticed s u := by
  refine ⟨h'.brg.trans h.brg, h'.dying.trans h.dying, fun q => ?_⟩
  obtain ⟨l, hl⟩ := h.queue q
  obtain ⟨m, hm⟩ := h'.queue q
  exact ⟨m, by rw [hm, hl]⟩

theorem ite (p : Prop) [Decidable p] (h : Noticed s t) (h' : Noticed s u) : Noticed s (if p then t else u) := by
  split
  · exact h
  · exact h'

theorem updAssoc (s : State) (c : Nat) (f : Assoc → Assoc) : Noticed s (s.updAssoc c f) := ⟨rfl, rfl, fun _ => ⟨_, rfl⟩⟩

theorem respond (s : State) (q cid : Nat) (st : Status) : Noticed s (s.respond q cid st) := by
  refine ⟨respond_brg s q cid st, by rw [respond_host], fun x => ?_⟩
  by_cases hx : q = x
  · subst hx; exact ⟨_, respond_queue s q cid st⟩
  · exact ⟨_, respond_queue_ne s q cid st hx⟩

theorem postAen (s : State) (c type info page : Nat) : Noticed s (s.postAen c type info page) := by
  unfold State.postAen
  dsimp only
  split
  · exact ite _ ((updAssoc s _ _).trans (respond _ _ _ _)) (refl s)
  · exact refl s

theorem resvNotice (s : State) (l : List Nat) (bit : Nat) : Noticed s (s.resvNotice l bit) :=
  foldl_keeps (Noticed s) _ (fun t k h => h.trans (postAen t k _ _ _)) _ s (refl s)

theorem setResv (s : State) (nsid : Nat) (r : ResvState) : Noticed s (s.setResv nsid r) :=
  of_same (moorAs_brg _ _ _) (moorAs_host _ _ _)

theorem dropResv (s : State) (nsid h : Nat) (r : ResvState) : Noticed s (s.dropResv nsid h r) :=
  ite _ ((setResv s nsid _).trans (resvNotice _ _ _)) (setResv s nsid _)

end Noticed

/-- What a command finds at its effect: the tables, the drives and its host. -/
structure AtEffect (s : State) (c : IoCmd) (v : State) : Prop where
  mrd : v.mrd = s.mrd
  drives : v.drives = s.drives
  queueHost : v.queueHost c.qref = s.queueHost c.qref

/-- A command that neither writes nor reads data completes with its effect, a change of tables with its notices or none. -/
theorem completes_of_effect {s : State} {c : IoCmd} (f : State → State) (st : Status) (ht : s.ioTaken c = true)
    (hc : changesData c = false) (hr : readsData c.opcode = false)
    (he : ∀ v p l live, AtEffect s c v → v.ioEffect p { c with data := l } live = (f v, st)) (hf : ∀ v, Noticed v (f v)) :
    ∃ v, AtEffect s c v ∧ Kept (f v) (s.ioRow c) ∧ (s.ioRow c).responded c.qref c.cid st := by
  obtain ⟨b, k, h, t, u, v, B, hw⟩ := exists_atWork_of_reading ht hc
  obtain ⟨l, hcmd, -⟩ := hw.working.cmd
  have hb : v.berth b = B := by rw [hw.stands.berth, lone_berth_same]
  have hhost : v.host = h := hw.stands.host
  have hat : AtEffect s c v := ⟨hw.stands.mrd, hw.stands.drives, TookHost.queueHost (by rw [hhost]; exact hw.took) _⟩
  have hstep : v.workStep b = v.notePrompt ((f v).finishBerth b st) b := by
    unfold State.workStep
    dsimp only
    rw [hb, hcmd, if_neg (by rw [show changesData { c with data := l } = changesData c from rfl, hc]; decide),
      if_neg (by rw [hr]; decide), hw.readDone_eq (fun p live => by rw [hcmd]; exact he v p l live hat) hb]
  obtain ⟨m, hqueue⟩ := (hf v).queue c.qref
  obtain ⟨C, h', A, hs, hC, hhq, hdy, hkept⟩ :=
    formed_of_finish (hw.stands.lone_of_brg (hf v).brg) hw.working.own v st
  obtain ⟨hrow, hres⟩ := hw.ends hstep hs hC (by rw [hdy, (hf v).dying, hhost]; exact hw.faces.dying)
    (by rw [hhq, hqueue, hhost]; exact (hw.faces.live c.qref).trans hw.live)
    (by rw [hhq, hqueue, hhost]; exact hw.faces.cntlid c.qref)
    (by rw [hhq, hqueue, hhost]; exact hw.disconnect)
  exact ⟨v, hat, hkept.trans hrow, hres⟩

section Effects

variable (s : State) (nsid : Nat) (r : ResvState)

@[simp] theorem setResv_ns : ((s.setResv nsid r).mrd.ns.get nsid).resv = r := by
  rw [State.setResv, moorAs_mrd]
  exact congrArg Namespace.resv (Tab.get_set_eq _ _ _)

/-- A reservation that is dropped leaves its registrants (NVMe). -/
theorem dropResv_ns (h : Nat) : ((s.dropResv nsid h r).mrd.ns.get nsid).resv = { r with holder := none, rtype := 0 } := by
  unfold State.dropResv
  dsimp only
  split
  · have htold : ((s.setResv nsid { r with holder := none, rtype := 0, gen := r.gen }).resvNotice
        ((r.regs.map Prod.fst).filter fun x => x != h) 2).mrd =
        (s.setResv nsid { r with holder := none, rtype := 0, gen := r.gen }).mrd :=
      (Told.foldl _ (fun t k => Told.postAen t k _ _ _) _ _).mrd
    rw [htold, setResv_ns]
  · rw [setResv_ns]

end Effects

/-- Registration of a host that is no registrant yet. -/
theorem exec_reservationRegister {c : IoCmd} {s : State} (ht : s.ioTaken { c with opcode := 0x0D } = true ∧ c.resv.action = 0)
    (hn : (s.mrd.ns.get c.nsid).resv.registered (s.queueHost c.qref) = false) :
    ∃ t, exec (.reservationRegister c) s = .next t ∧
      t.responded c.qref c.cid St.ok ∧
      (s.queueHost c.qref, c.resv.nrkey) ∈ (t.mrd.ns.get c.nsid).resv.regs ∧
      (t.mrd.ns.get c.nsid).resv.gen = (s.mrd.ns.get c.nsid).resv.gen + 1 := by
  obtain ⟨htaken, haction⟩ := ht
  generalize hr : (s.mrd.ns.get c.nsid).resv = r at hn
  have hfind : (r.regs.find? fun e => e.1 == s.queueHost c.qref) = none := by
    rw [List.find?_eq_none]
    exact List.any_eq_false.1 hn
  obtain ⟨v, hat, hkept, hres⟩ := completes_of_effect (fun v => v.setResv c.nsid { r with
      regs := (r.regs.filter fun e => e.1 != s.queueHost c.qref) ++ [(s.queueHost c.qref, c.resv.nrkey)]
      gen := r.gen + 1, ptpl := ptplOf r c.resv.cptpl }) St.ok htaken rfl rfl
    (fun v p l live h => by
      show v.doResvRegister _ = _
      have hq : v.queueHost c.qref = s.queueHost c.qref := h.queueHost
      simp only [State.doResvRegister, h.mrd, hq, hr, haction, hfind, Option.map_none, Option.any_none, Bool.false_eq_true,
        if_false])
    fun v => Noticed.setResv v _ _
  refine ⟨_, rfl, hres, ?_, ?_⟩
  · rw [hkept.ns, setResv_ns]
    exact List.mem_append_right _ (List.mem_singleton_self _)
  · rw [hkept.ns, setResv_ns]

/-- The report changes nothing moored. -/
theorem exec_reservationReport {c : IoCmd} {s : State} (ht : s.ioTaken { c with opcode := 0x0E } = true) :
    ∃ t, exec (.reservationReport c) s = .next t ∧
      t.responded c.qref c.cid St.ok ∧
      (∃ l, Out.adminInfo c.qref c.cid 0x0E ([(s.mrd.ns.get c.nsid).resv.gen % 2 ^ 32, (s.mrd.ns.get
        c.nsid).resv.rtype, (s.mrd.ns.get c.nsid).resv.regs.length] ++ l) ∈ t.out) ∧
      t.mrd.arr = s.mrd.arr ∧ t.mrd.ns = s.mrd.ns ∧ t.drives = s.drives := by
  have hcalm : ∀ v : State, Calm v (v.doResvReport c).1 := fun v => (Calm.emit v _).trans (Calm.sendBytes _ _ _)
  obtain ⟨v, hat, hkept, hres⟩ := completes_of_effect (fun v => (v.doResvReport c).1) St.ok ht rfl rfl
    (fun v p l live h => rfl) fun v => Noticed.of_same (hcalm v).brg (hcalm v).host
  refine ⟨_, rfl, hres, ⟨(s.mrd.ns.get c.nsid).resv.ptpl.toNat :: (s.mrd.ns.get c.nsid).resv.regs.flatMap fun e =>
    [e.1, ((s.mrd.ns.get c.nsid).resv.holds e.1).toNat, e.2], hkept.out.subset ?_⟩, ?_, ?_, ?_⟩
  · rw [← hat.mrd]
    exact (Calm.sendBytes _ _ _).out.subset (List.mem_append_right _ (List.mem_singleton_self _))
  · rw [hkept.arr, (hcalm v).mrd, hat.mrd]
  · rw [hkept.ns, (hcalm v).mrd, hat.mrd]
  · rw [hkept.drives, (hcalm v).drives, hat.drives]

/-- A reservation taken by a registrant where there is none. -/
theorem exec_reservationAcquire {c : IoCmd} {s : State}
    (ht : s.ioTaken { c with opcode := 0x11 } = true ∧ c.resv.action = 0 ∧ 1 ≤ c.resv.rtype ∧ c.resv.rtype ≤ 6)
    (hr : ((s.mrd.ns.get c.nsid).resv.regs.find? fun e => e.1 == s.queueHost c.qref) = some (s.queueHost c.qref,
      c.resv.crkey) ∧ (s.mrd.ns.get c.nsid).resv.rtype = 0) :
    ∃ t, exec (.reservationAcquire c) s = .next t ∧
      t.responded c.qref c.cid St.ok ∧
      (t.mrd.ns.get c.nsid).resv.holder = some (s.queueHost c.qref) ∧ (t.mrd.ns.get c.nsid).resv.rtype =
        c.resv.rtype ∧
      (t.mrd.ns.get c.nsid).resv.regs = (s.mrd.ns.get c.nsid).resv.regs := by
  obtain ⟨htaken, haction, hlo, hhi⟩ := ht
  obtain ⟨hfind, hfree⟩ := hr
  obtain ⟨v, -, hkept, hres⟩ := completes_of_effect (fun v => v.setResv c.nsid
      { (s.mrd.ns.get c.nsid).resv with holder := some (s.queueHost c.qref), rtype := c.resv.rtype }) St.ok htaken rfl rfl
    (fun v p l live h => by
      show v.doResvAcquire _ = _
      have hq : v.queueHost c.qref = s.queueHost c.qref := h.queueHost
      have htype : ¬ (c.resv.rtype = 0 ∨ 6 < c.resv.rtype) := by omega
      simp [State.doResvAcquire, h.mrd, hq, hfind, hfree, haction, htype])
    fun v => Noticed.setResv v _ _
  exact ⟨_, rfl, hres, by rw [hkept.ns, setResv_ns], by rw [hkept.ns, setResv_ns], by rw [hkept.ns, setResv_ns]⟩

/-- A reservation released by its holder. -/
theorem exec_reservationRelease {c : IoCmd} {s : State}
    (ht : s.ioTaken { c with opcode := 0x15 } = true ∧ c.resv.action = 0 ∧ c.resv.rtype = (s.mrd.ns.get
      c.nsid).resv.rtype ∧ c.resv.rtype ≠ 0)
    (hr : ((s.mrd.ns.get c.nsid).resv.regs.find? fun e => e.1 == s.queueHost c.qref) = some (s.queueHost c.qref,
      c.resv.crkey) ∧ (s.mrd.ns.get c.nsid).resv.holds (s.queueHost c.qref) = true) :
    ∃ t, exec (.reservationRelease c) s = .next t ∧
      t.responded c.qref c.cid St.ok ∧
      (t.mrd.ns.get c.nsid).resv.holder = none ∧ (t.mrd.ns.get c.nsid).resv.rtype = 0 ∧
      (t.mrd.ns.get c.nsid).resv.regs = (s.mrd.ns.get c.nsid).resv.regs := by
  obtain ⟨htaken, haction, htype, hne⟩ := ht
  obtain ⟨hfind, hholds⟩ := hr
  obtain ⟨v, -, hkept, hres⟩ := completes_of_effect
    (fun v => v.dropResv c.nsid (s.queueHost c.qref) (s.mrd.ns.get c.nsid).resv) St.ok htaken rfl rfl
    (fun v p l live h => by
      show v.doResvRelease _ = _
      have hq : v.queueHost c.qref = s.queueHost c.qref := h.queueHost
      have hne' : (s.mrd.ns.get c.nsid).resv.rtype ≠ 0 := htype ▸ hne
      simp [State.doResvRelease, h.mrd, hq, hfind, hholds, haction, htype, hne'])
    fun v => Noticed.dropResv v _ _ _
  exact ⟨_, rfl, hres, by rw [hkept.ns, dropResv_ns], by rw [hkept.ns, dropResv_ns], by rw [hkept.ns, dropResv_ns]⟩

/-- Settles O20: a reservation command runs alone from its capsule to its effect, whose moored change leaves the berth as
it was, and the completion leaves or is held for the partner. -/
theorem reservationCommandsChangeTheReservation : Obligations.ReservationCommandsChangeTheReservation :=
  ⟨fun _ _ => exec_reservationRegister, fun _ _ => exec_reservationReport, fun _ _ => exec_reservationAcquire,
    fun _ _ => exec_reservationRelease⟩

end Sys2Proof.Machine

/-! Queue pairs, dock windows and staircases as they read after a change, and what a queue pair's sending leaves as it was
(R72 to R75). -/

namespace Sys2Proof.Machine

section TugTables

variable (s : State)

theorem qp_updQp (i j : Nat) (f : Qp → Qp) : (s.updQp i f).qp j = if i = j then f (s.qp j) else s.qp j := Tab.get_upd _ _ _ _
@[simp] theorem qp_updQp_same (i : Nat) (f : Qp → Qp) : (s.updQp i f).qp i = f (s.qp i) := Tab.get_upd_eq _ _ _
theorem qp_updQp_ne {i j : Nat} (h : j ≠ i) (f : Qp → Qp) : (s.updQp i f).qp j = s.qp j := Tab.get_upd_ne _ _ h.symm
theorem win_updWin (w v : Nat) (f : DockWin → DockWin) : (s.updWin w f).win v = if w = v then f (s.win v) else s.win v :=
  Tab.get_upd _ _ _ _
@[simp] theorem win_updWin_same (w : Nat) (f : DockWin → DockWin) : (s.updWin w f).win w = f (s.win w) := Tab.get_upd_eq _ _ _

@[simp] theorem updQp_win (i : Nat) (f : Qp → Qp) : (s.updQp i f).tug.win = s.tug.win := (rfl)
@[simp] theorem updQp_stairs (i : Nat) (f : Qp → Qp) : (s.updQp i f).tug.stairs = s.tug.stairs := (rfl)
@[simp] theorem updWin_qp (w : Nat) (f : DockWin → DockWin) : (s.updWin w f).tug.qp = s.tug.qp := (rfl)
@[simp] theorem updWin_stairs (w : Nat) (f : DockWin → DockWin) : (s.updWin w f).tug.stairs = s.tug.stairs := (rfl)

theorem qp_of_tug {s t : State} (h : t.tug.qp = s.tug.qp) (i : Nat) : t.qp i = s.qp i := by rw [State.qp, h]; rfl
theorem win_of_tug {s t : State} (h : t.tug.win = s.tug.win) (w : Nat) : t.win w = s.win w := by rw [State.win, h]; rfl

/-- Only the queue pair's own value matters to a change of it. -/
theorem updQp_congr {i : Nat} {f g : Qp → Qp} (h : f (s.qp i) = g (s.qp i)) : s.updQp i f = s.updQp i g := by
  have h' : f (s.tug.qp.get i) = g (s.tug.qp.get i) := h
  simp only [State.updQp, State.updTug, Tab.upd, h']

/-- A change of one staircase keeps its queue pair and key, so that it is found there again. -/
theorem stair_updStair {q key : Nat} {x : Stair} {f : Stair → Stair} (h : s.stair q key = some x)
    (hf : ∀ y, (f y).qp = y.qp ∧ (f y).key = y.key) : (s.updStair q key f).stair q key = some (f x) := by
  unfold State.stair State.updStair at *
  rw [updTug_tug, Tab.get_upd_eq, List.find?_map]
  have hsame : ((fun t : Stair => t.qp == q && t.key == key) ∘ fun y => if y.qp = q ∧ y.key = key then f y else y) =
      fun t : Stair => t.qp == q && t.key == key := by
    funext y
    obtain ⟨hqp, hkey⟩ := hf y
    simp only [Function.comp_apply]
    split
    · rw [hqp, hkey]
    · rfl
  have hx := List.find?_some h
  simp only [Bool.and_eq_true, beq_iff_eq] at hx
  rw [hsame, h, Option.map_some, if_pos hx]

end TugTables

/-! ## What sending leaves alone -/

/-- `r` is `q` after messages were handed to it, packets left or were acknowledged, or an acknowledgement was sent: how it
is set up and what it receives are as they were. -/
def Qp.Sent (q r : Qp) : Prop :=
  r = { q with smsn := r.smsn, spsn := r.spsn, sent := r.sent, sendQ := r.sendQ, paths := r.paths, sinceAck := r.sinceAck }

namespace Qp.Sent

variable {q r x : Qp}

theorem refl (q : Qp) : q.Sent q := rfl

theorem trans (h : q.Sent r) (h' : r.Sent x) : q.Sent x := by
  unfold Qp.Sent at *
  rw [h', h]

theorem state (h : q.Sent r) : r.state = q.state := (congrArg Qp.state h :)
theorem host (h : q.Sent r) : r.host = q.host := (congrArg Qp.host h :)
theorem epsn (h : q.Sent r) : r.epsn = q.epsn := (congrArg Qp.epsn h :)
theorem rmsn (h : q.Sent r) : r.rmsn = q.rmsn := (congrArg Qp.rmsn h :)
theorem msgs (h : q.Sent r) : r.msgs = q.msgs := (congrArg Qp.msgs h :)
theorem acked (h : q.Sent r) : r.acked = q.acked := (congrArg Qp.acked h :)
theorem retries (h : q.Sent r) : r.retries = q.retries := (congrArg Qp.retries h :)
theorem rnr (h : q.Sent r) : r.rnr = q.rnr := (congrArg Qp.rnr h :)

/-- Whatever leaves, the queue pair has only sent. -/
theorem issue : ∀ (n : Nat) (q : Qp), q.Sent (Qp.issue n q).1
  | 0, q => refl q
  | n + 1, q => by
    unfold Qp.issue
    split
    · exact refl q
    · split
      · split
        · exact refl q
        · exact trans (r := { q with sendQ := _, spsn := _, sent := _ }) rfl (issue n _)
      · dsimp only
        split
        · exact trans (r := { q with sendQ := _, spsn := _, sent := _ }) rfl (issue n _)
        · rfl

end Qp.Sent

/-- `t` is `s` after queue pair `i` sent, counted and was heard from: outputs have joined those that had left, and of the
tables only the queue pair's sending side, counters and what waits at tugs have changed. -/
structure Sends (i : Nat) (s t : State) : Prop where
  frame : t = { s with regs := t.regs, tug := t.tug, tal := t.tal, out := t.out }
  win : t.tug.win = s.tug.win
  stairs : t.tug.stairs = s.tug.stairs
  qp : (s.qp i).Sent (t.qp i)
  other : ∀ j, j ≠ i → t.qp j = s.qp j
  out : s.out <+: t.out

namespace Sends

variable {i : Nat} {s t u : State}

theorem res (h : Sends i s t) : t.res = s.res := (congrArg State.res h.frame :)
theorem brg (h : Sends i s t) : t.brg = s.brg := (congrArg State.brg h.frame :)
theorem mrd (h : Sends i s t) : t.mrd = s.mrd := (congrArg State.mrd h.frame :)
theorem host (h : Sends i s t) : t.host = s.host := (congrArg State.host h.frame :)

theorem refl (i : Nat) (s : State) : Sends i s s := ⟨rfl, rfl, rfl, rfl, fun _ _ => rfl, List.prefix_refl _⟩

theorem trans (h : Sends i s t) (h' : Sends i t u) : Sends i s u :=
  ⟨h'.frame.trans (congrArg (fun v : State => { v with regs := u.regs, tug := u.tug, tal := u.tal, out := u.out }) h.frame),
    h'.win.trans h.win, h'.stairs.trans h.stairs, h.qp.trans h'.qp, fun j hj => (h'.other j hj).trans (h.other j hj),
    h.out.trans h'.out⟩

theorem ite (p : Prop) [Decidable p] (h : Sends i s t) (h' : Sends i s u) : Sends i s (if p then t else u) := by
  split
  · exact h
  · exact h'

theorem foldl {β : Type} (f : State → β → State) (hf : ∀ t x, Sends i t (f t x)) (l : List β) (s : State) :
    Sends i s (l.foldl f s) :=
  foldl_keeps (Sends i s) f (fun t x h => h.trans (hf t x)) l s (refl i s)

theorem emit (s : State) (o : Out) : Sends i s (s.emit o) :=
  ⟨rfl, rfl, rfl, rfl, fun _ _ => rfl, List.prefix_append _ _⟩

theorem updTal (s : State) (f : Tally → Tally) : Sends i s (s.updTal f) :=
  ⟨rfl, rfl, rfl, rfl, fun _ _ => rfl, List.prefix_refl _⟩

theorem tally (s : State) (c k n : Nat) : Sends i s (s.tally c k n) := foldl _ (fun t _ => updTal t _) _ s

theorem setFld (s : State) (f : Fld) (v : Nat) : Sends i s (s.setFld f v) :=
  ⟨rfl, rfl, rfl, rfl, fun _ _ => rfl, List.prefix_refl _⟩

theorem netCount (s : State) (p k n : Nat) : Sends i s (s.netCount p k n) :=
  ((setFld s _ _).trans (setFld _ _ _)).trans (ite _ (tally _ _ _ _) (refl i _))

theorem fromTug (s : State) (q : Nat) : Sends i s (s.fromTug q) := by
  unfold State.fromTug
  split
  · exact ⟨rfl, rfl, rfl, rfl, fun _ _ => rfl, List.prefix_refl _⟩
  · exact refl i s

theorem updQp {f : Qp → Qp} (hf : (s.qp i).Sent (f (s.qp i))) : Sends i s (s.updQp i f) :=
  ⟨rfl, rfl, rfl, by rw [qp_updQp_same]; exact hf, fun _ hj => qp_updQp_ne s hj f, List.prefix_refl _⟩

theorem emitPkt (s : State) (p : TxPkt) (r : Bool) : Sends i s (s.emitPkt i p r) :=
  (ite (r = true) (netCount s _ _ _) (refl i s)).trans (emit _ _)

theorem pump (s : State) : Sends i s (s.pump i) :=
  (updQp (Qp.Sent.issue _ _)).trans (ite _ (refl i _) ((foldl _ (fun t p => emitPkt t p false) _ _).trans (tally _ _ _ _)))

theorem sendOn (s : State) (n : Nat) (f : Bool) (v : Option Nat) (r : Option ReadTag) : Sends i s (s.sendOn i n f v r) :=
  ite _ ((updQp (by exact rfl)).trans (pump _)) (refl i s)

theorem sendImm (s : State) (imm : Nat) (l : List Byte) : Sends i s (s.sendImm i imm l) := (emit _ _).trans (sendOn _ _ _ _ _)

theorem sendRcAs (s : State) (path msn : Nat) (sack : Bool) (p : RcOut) : Sends i s (s.sendRcAs i path msn sack p) :=
  (emit _ _).trans (tally _ _ _ _)

theorem sendAck (s : State) : Sends i s (s.sendAck i) := (sendRcAs s _ _ _ _).trans (updQp (by exact rfl))

theorem resend (s : State) (p : TxPkt) : Sends i s (s.resend i p) :=
  (((updQp (by exact rfl)).trans (updQp (by exact rfl))).trans (emitPkt _ _ _)).trans ((tally _ _ _ _).trans (tally _ _ _ _))

end Sends

/-- What leaves as a reply stands last among the outputs. -/
theorem mem_sendRcAs (s : State) (i path msn : Nat) (sack : Bool) (p : RcOut) :
    Out.rc i ((s.qp i).cxh false sack false path msn 0) p ∈ (s.sendRcAs i path msn sack p).out := by
  simp [State.sendRcAs]

theorem pathPort_of_mrd {s t : State} (h : t.mrd = s.mrd) (q : Qp) (k : Nat) : t.pathPort q k = s.pathPort q k := by
  rw [State.pathPort, h]
  rfl

theorem mem_emitPkt (s : State) (i : Nat) (x : TxPkt) (retx : Bool) :
    Out.packet i x.psn (s.pathPort (s.qp i) x.path) ((s.qp i).sport x.path) ((s.qp i).cxh x.final false retx x.path x.msn x.idx)
      x.inval ∈ (s.emitPkt i x retx).out := by
  unfold State.emitPkt
  dsimp only
  rw [pathPort_of_mrd (Sends.ite (i := i) (retx = true) (Sends.netCount s _ 15 1) (Sends.refl i s)).mrd]
  exact List.mem_append_right _ (List.mem_singleton_self _)

theorem resend_eq (s : State) (i : Nat) (x : TxPkt) : ∃ u p, s.resend i x =
    ((State.emitPkt u i { x with path := p } true).tally 0x041 (qpGroup i) 1).tally 0x042 (qpGroup i) 1 := by
  unfold State.resend
  exact ⟨_, _, rfl⟩

/-- A packet sent again leaves under its own PSN. -/
theorem mem_resend (s : State) (i : Nat) (x : TxPkt) :
    ∃ port sport c v, Out.packet i x.psn port sport c v ∈ (s.resend i x).out := by
  obtain ⟨u, p, h⟩ := resend_eq s i x
  rw [h, tally_out, tally_out]
  exact ⟨_, _, _, _, mem_emitPkt u i { x with path := p } true⟩

/-- Every packet of a list that is sent again leaves. -/
theorem mem_foldl_resend {i : Nat} {x : TxPkt} {l : List TxPkt} (s : State) (h : x ∈ l) :
    ∃ port sport c v, Out.packet i x.psn port sport c v ∈ (l.foldl (fun s t => s.resend i t) s).out := by
  induction l generalizing s with
  | nil => exact absurd h List.not_mem_nil
  | cons y l ih =>
    rw [List.foldl_cons]
    rcases List.mem_cons.mp h with rfl | h
    · obtain ⟨port, sport, c, v, hm⟩ := mem_resend s i x
      exact ⟨port, sport, c, v, (Sends.foldl (i := i) _ (fun t y => Sends.resend t y) l _).out.subset hm⟩
    · exact ih _ h

/-- With no message waiting nothing leaves. -/
theorem pump_of_empty {s : State} {i : Nat} (h : (s.qp i).sendQ = []) : s.pump i = s.updQp i fun _ => s.qp i := by
  simp [State.pump, h, Qp.issue]

end Sys2Proof.Machine

/-! The ends of queues leave the transport tables as they are, except that a queue pair drains (R67, R90, R91). -/

namespace Sys2Proof.Machine

section FlushTug

variable (s : State)

theorem unlockStripe_tug (i st : Nat) (h : Holder) : (s.unlockStripe i st h).tug = s.tug := by
  unfold State.unlockStripe
  dsimp only
  split <;> rfl

theorem wakeHeld_tug : s.wakeHeld.tug = s.tug :=
  foldl_eq State.tug _ (fun t b => by rw [apply_ite State.tug]; exact ite_self _) _ _

theorem wakeMates_tug : s.wakeMates.tug = s.tug :=
  foldl_eq State.tug _ (fun t b => by rw [apply_ite State.tug]; exact ite_self _) _ _

theorem releaseLocks_tug (b : Nat) : (s.releaseLocks b).tug = s.tug := 
  foldl_eq State.tug _ (fun t _ => unlockStripe_tug t _ _ _) _ _

theorem untow_tug (b : Nat) : (s.untow b).tug = s.tug := by
  unfold State.untow
  dsimp only
  split
  · rfl
  · exact foldl_eq State.tug _ (fun t x => updBerth_tug t x _) _ _

theorem settleAssoc_tug (c : Nat) : (s.settleAssoc c).tug = s.tug := by
  unfold State.settleAssoc
  split <;> rfl

theorem settleDying_tug : s.settleDying.tug = s.tug := by
  refine foldl_eq State.tug _ (fun t d => ?_) _ _
  dsimp only
  rw [updHost_tug]
  refine foldl_eq State.tug _ (fun u st => ?_) _ _
  rw [State.addRecs, State.updPair, updAry_tug, unlockStripe_tug, State.updGather, updAry_tug]

theorem settleSlot_tug (k : Nat) : (s.settleSlot k).tug = s.tug := by
  unfold State.settleSlot State.forgetKey State.updSlot
  dsimp only
  repeat' split
  all_goals simp

theorem settleSlots_tug : s.settleSlots.tug = s.tug := foldl_eq State.tug _ (fun t k => settleSlot_tug t k) _ _

theorem releaseBerth_tug (b : Nat) : (s.releaseBerth b).tug = s.tug := by
  unfold State.releaseBerth
  dsimp only
  split
  · rw [settleAssoc_tug, settleDying_tug, settleSlots_tug, wakeHeld_tug, updBrg_tug, releaseLocks_tug]
  · rfl

theorem formDone_tug (b : Nat) (st : Status) : (s.formDone b st).tug = s.tug := by
  unfold State.formDone
  dsimp only
  rw [wakeMates_tug, wakeHeld_tug, releaseLocks_tug, updBerth_tug]
  split
  · exact untow_tug s b
  · rfl

theorem discardDone_tug (b : Nat) : (s.discardDone b).tug = s.tug := by rw [State.discardDone, releaseBerth_tug, updBerth_tug]

theorem dropFetch_tug (b : Nat) : (s.dropFetch b).tug = s.tug := by
  unfold State.dropFetch
  split
  · rw [discardDone_tug, formDone_tug, updBerth_tug]
  · rfl

theorem dropQueued_tug (b : Nat) : (s.dropQueued b).tug = s.tug := by
  unfold State.dropQueued
  rw [settleAssoc_tug, wakeMates_tug, wakeHeld_tug, updBrg_tug, untow_tug]

@[simp] theorem updCnl_tug (g : Canal → Canal) : (s.updCnl g).tug = s.tug := (rfl)

theorem closeCtx_tug (i : Nat) : (s.closeCtx i).tug = s.tug := by simp [State.closeCtx]

theorem settleSpill_tug : s.settleSpill.tug = s.tug := by
  have hfold : ∀ (f : State → Nat → Canal → Canal) (l : List Nat) (u : State),
      (l.foldl (fun t p => t.updCnl (f t p)) u).tug = u.tug := fun f l u =>
    foldl_eq State.tug _ (fun t p => updCnl_tug t (f t p)) l u
  unfold State.settleSpill
  dsimp only
  split
  · split
    · rw [updCnl_tug, cfgFld_tug, updCnl_tug, hfold]
    · rw [updCnl_tug, hfold]
  · rw [updCnl_tug, hfold]

theorem dropCopies_tug (i : Nat) (gone : List CellDst) : (s.dropCopies i gone).tug = s.tug := by
  rw [State.dropCopies, settleSpill_tug, updCnl_tug]

theorem cancelFlow_tug (b : Nat) : (s.cancelFlow b).tug = s.tug := by
  refine (foldl_eq State.tug _ (fun t e => ?_) _ _).trans (foldl_eq State.tug _ (fun t i => closeCtx_tug t i) _ _)
  dsimp only
  split
  · rfl
  · rw [dropCopies_tug]
    exact foldl_eq State.tug _ (fun u d => tally_tug u _ _ _) _ _

theorem flushQueue_tug (q : Nat) : (s.flushQueue q).tug = s.tug := by
  unfold State.flushQueue
  dsimp only
  rw [foldl_eq State.tug _ (fun t b => discardDone_tug t b), foldl_eq State.tug _ (fun t b => ?_),
    foldl_eq State.tug _ (fun t b => dropQueued_tug t b)]
  · rfl
  · rw [cancelFlow_tug, dropFetch_tug]
    cases (t.berth b).mate with
    | none => rfl
    | some m => exact dropFetch_tug t m

theorem dropQueue_tug (q : Nat) : (s.dropQueue q).tug = s.tug := flushQueue_tug s q

end FlushTug

/-- The end of a transport takes no queue pair into RTS. -/
theorem endTransport_not_rts {s : State} {i : Nat} (q : Nat) (h : (s.qp i).state ≠ .rts) :
    ((s.endTransport q).qp i).state ≠ .rts := by
  unfold State.endTransport
  split
  · exact h
  · split
    · rw [State.drainQp, qp_updQp]
      split
      · exact fun hd => QpState.noConfusion hd
      · exact h
    · exact h

/-- Nor does the end of an association. -/
theorem tearDown_not_rts {s : State} {i : Nat} (c : Nat) (h : (s.qp i).state ≠ .rts) :
    ((s.tearDown c).qp i).state ≠ .rts := by
  unfold State.tearDown
  dsimp only
  rw [qp_of_tug (congrArg Tugs.qp (settleAssoc_tug _ c))]
  refine iteInduction (motive := fun u : State => ((u.updAssoc c _).qp i).state ≠ .rts) ?_ ?_
  all_goals
    intro _
    refine foldl_keeps (fun u : State => (u.qp i).state ≠ .rts) _ (fun t q ht => endTransport_not_rts q ?_) _ _ h
    rw [qp_of_tug (congrArg Tugs.qp (dropQueue_tug t q))]
    exact ht

/-- A fatal error takes the queue pair out of RTS and its queue down (R90, R91). -/
theorem qpError_ends {s : State} {q : Nat} (nak : Option Nak) (fes : Nat) (hlt : q < 65536) (hrts : (s.qp q).state = .rts) :
    ((s.qpError q nak fes).qp q).state ≠ .rts ∧ ((s.qpError q nak fes).host.queue.get q).live = false := by
  have hrc : isTcp q = false := decide_eq_false (by omega)
  have hdrop : ∀ u : State, (((u.updQp q fun x =>
      { x with state := .error, flushed := false, msgs := [], sent := [], sendQ := [] }).dropQueue q).qp q).state ≠ .rts ∧
      (((u.updQp q fun x =>
      { x with state := .error, flushed := false, msgs := [], sent := [], sendQ := [] }).dropQueue q).host.queue.get q).live =
        false := fun u => by
    constructor
    · rw [qp_of_tug (congrArg Tugs.qp (dropQueue_tug _ q)), qp_updQp_same]
      exact fun hd => QpState.noConfusion hd
    · exact congrArg Queue.live (Tab.get_set_eq (State.flushQueue _ q).host.queue q default)
  simp only [State.qpError, hrc, hrts, true_or, Bool.false_eq_true, if_false, if_true]
  split
  · exact ⟨tearDown_not_rts _ (hdrop _).1, (Ebbs.tearDown _ _).dead q (hdrop _).2⟩
  · exact hdrop _

end Sys2Proof.Machine

/-! Acknowledgements, NAKs, timers, congestion notices, staircase steps and dock windows (R74 to R90). -/

namespace Sys2Proof.Machine

/-! ## What the receiver answers (R74) -/

theorem exec_reorderTimerExpiry {qp : Fin 65536} {s : State}
    (h : (s.qp qp).state = .rts ∧ (s.qp qp).spray = true ∧ (s.qp qp).above ≠ []) :
    ∃ t, exec (.reorderTimerExpiry qp) s = .next t ∧
      Out.rc qp ((s.qp qp).cxh false true false 0 (s.qp qp).rmsn 0) (.selectiveNak (s.qp qp).epsn (inBitmap
        (s.qp qp).epsn (s.qp qp).above)) ∈ t.out ∧ t.tug = s.tug ∧ t.res = s.res := by
  refine ⟨_, if_pos h, ?_, ?_, ?_⟩
  · rw [tally_out]; exact mem_sendRcAs s _ _ _ _ _
  · simp [State.sendRcAs]
  · simp [State.sendRcAs]

/-- What an acknowledgement says (R74). -/
theorem mem_sendAck (s : State) (i : Nat) :
    ∃ c sack, Out.rc i c (.ack (((s.qp i).epsn + 2 ^ 24 - 1) % 2 ^ 24) (s.qp i).rmsn sack) ∈ (s.sendAck i).out :=
  ⟨_, _, mem_sendRcAs s _ _ _ _ _⟩

theorem sendAck_sinceAck (s : State) (i : Nat) : ((s.sendAck i).qp i).sinceAck = 0 := by
  rw [State.sendAck, qp_updQp_same]

theorem exec_ackDelayExpiry {qp : Fin 65536} {s : State} (h : (s.qp qp).state = .rts ∧ (s.qp qp).sinceAck ≠ 0) :
    ∃ t, exec (.ackDelayExpiry qp) s = .next t ∧
      (t.qp qp).sinceAck = 0 ∧ (t.qp qp).epsn = (s.qp qp).epsn ∧ t.res = s.res ∧ t.tug.win = s.tug.win ∧
      (∃ c sack, Out.rc qp c (.ack (((s.qp qp).epsn + 2 ^ 24 - 1) % 2 ^ 24) (s.qp qp).rmsn sack) ∈ t.out) := by
  have hsends : Sends qp s (s.sendAck qp) := .sendAck s
  exact ⟨s.sendAck qp, if_pos h, sendAck_sinceAck s qp, hsends.qp.epsn, hsends.res, hsends.win, mem_sendAck s qp⟩

/-! ## What the sender makes of an acknowledgement (R75) -/

theorem exec_ackReceive_acked {qp : Fin 65536} {psn : Nat} {sack : List Nat} {s : State} (h : (s.qp qp).state = .rts) :
    ∃ t, exec (.ackReceive qp psn sack) s = .next t ∧
      (t.qp qp).acked = if seqBefore (s.qp qp).acked psn = true ∧ seqBefore psn (s.qp qp).spsn = true then psn %
        2 ^ 24 else (s.qp qp).acked := by
  refine ⟨_, if_pos h, ?_⟩
  rw [(Sends.pump _).qp.acked, qp_updQp_same]

theorem exec_ackReceive_frees {qp : Fin 65536} {psn : Nat} {sack : List Nat} {s : State}
    (h : (s.qp qp).state = .rts ∧ (s.qp qp).sendQ = []) :
    ∃ t, exec (.ackReceive qp psn sack) s = .next t ∧
      ((t.qp qp).sent.map (fun x => x.psn) = ((s.qp qp).sent.filter fun x => seqBefore psn x.psn ||
        x.read.isSome).map fun x => x.psn) ∧
      t.out = s.out := by
  obtain ⟨hrts, hempty⟩ := h
  refine ⟨_, if_pos hrts, ?_, ?_⟩
  all_goals rw [pump_of_empty (by rw [qp_updQp_same]; exact hempty)]
  · simp only [qp_updQp_same, Qp.ackSent, List.map_map, Bool.not_not]
    rfl
  · rfl

theorem exec_selectiveNakReceive {qp : Fin 65536} {base : Nat} {got : List Nat} {x : TxPkt} {s : State}
    (h : (s.qp qp).state = .rts ∧ (s.qp qp).spray = true ∧ x ∈ (s.qp qp).sent)
    (hmiss : seqBefore x.psn base = false ∧ seqDist x.psn base < 256 ∧ x.psn ∉ got) :
    ∃ t, exec (.selectiveNakReceive qp base got) s = .next t ∧
      (∃ port sport c v, Out.packet qp x.psn port sport c v ∈ t.out) ∧
      t.res = s.res ∧ t.mrd = s.mrd := by
  obtain ⟨hrts, hspray, hsent⟩ := h
  obtain ⟨hafter, hnear, hlost⟩ := hmiss
  set u := s.updQp qp fun q => Qp.ackSent q (fun t => seqBefore t.psn base) got with hu
  set miss := (u.qp qp).sent.filter fun t =>
    if (u.qp qp).spray then decide (seqDist t.psn base < 256) && !got.contains t.psn else !seqBefore t.psn base with hmiss
  have hsends : Sends qp u ((miss.foldl (fun s t => s.resend qp t) u).pump qp) :=
    (Sends.foldl _ (fun t y => Sends.resend t y) miss u).trans (Sends.pump _)
  have hkept : { x with sacked := x.sacked || got.contains x.psn } ∈ miss := by
    rw [hmiss, hu, qp_updQp_same]
    refine List.mem_filter.mpr ⟨List.mem_map.mpr ⟨x, List.mem_filter.mpr ⟨hsent, by simp [hafter]⟩, rfl⟩, ?_⟩
    simp [Qp.ackSent, hspray, hnear, hlost]
  obtain ⟨port, sport, c, v, hm⟩ := mem_foldl_resend u hkept
  exact ⟨_, if_pos hrts, ⟨port, sport, c, v, (Sends.pump _).out.subset hm⟩, hsends.res, hsends.mrd⟩

/-! ## NAKs, timeouts and probes (R75, R78, R90) -/

theorem exec_nakReceive {qp : Fin 65536} {c : Fin 3} {s : State} (h : (s.qp qp).state = .rts) :
    ∃ t, exec (.nakReceive qp c) s = .next t ∧ (t.qp qp).state ≠ .rts ∧ (t.host.queue.get qp).live = false :=
  ⟨_, if_pos h, qpError_ends none 0 qp.isLt h⟩

theorem exec_localAckTimeout {qp : Fin 65536} {s : State}
    (h : (s.qp qp).state = .rts ∧ (s.qp qp).sent ≠ [] ∧ (s.qp qp).retries < (s.qp qp).cfg.retryCnt) :
    ∃ t, exec (.localAckTimeout qp) s = .next t ∧
      (t.qp qp).retries = (s.qp qp).retries + 1 ∧ (t.qp qp).state = .rts ∧ t.res = s.res ∧ t.mrd = s.mrd := by
  obtain ⟨hrts, hsent, hleft⟩ := h
  have hsends := Sends.foldl (i := qp) _ (fun t y => Sends.resend t y) ((s.qp qp).sent.filter fun t => !t.sacked)
    (s.updQp qp fun q => { q with retries := q.retries + 1 })
  refine ⟨_, (if_pos ⟨hrts, hsent⟩).trans (if_neg (Nat.not_le.mpr hleft)), ?_, ?_, hsends.res, hsends.mrd⟩
  · rw [hsends.qp.retries, qp_updQp_same]
  · rw [hsends.qp.state, qp_updQp_same]; exact hrts

theorem exec_rnrRetryExpiry {qp : Fin 65536} {x : TxPkt} {s : State}
    (h : (s.qp qp).state = .rts ∧ (s.qp qp).sent.head? = some x ∧ (s.qp qp).rnr < (s.qp qp).cfg.rnrRetry) :
    ∃ t, exec (.rnrRetryExpiry qp) s = .next t ∧
      (t.qp qp).rnr = (s.qp qp).rnr + 1 ∧ (t.qp qp).state = .rts ∧
      (∃ port sport c v, Out.packet qp x.psn port sport c v ∈ t.out) := by
  obtain ⟨hrts, hhead, hleft⟩ := h
  have hsends : Sends qp _ _ := Sends.resend (s.updQp qp fun q => { q with rnr := q.rnr + 1 }) x
  refine ⟨(s.updQp qp fun q => { q with rnr := q.rnr + 1 }).resend qp x, ?_, ?_, ?_, mem_resend _ _ _⟩
  · simp only [exec, execRnrRetryExpiry, hhead, hrts, ne_eq, not_true_eq_false, if_false, if_neg (Nat.not_le.mpr hleft)]
  · rw [hsends.qp.rnr, qp_updQp_same]
  · rw [hsends.qp.state, qp_updQp_same]; exact hrts

theorem exec_pathProbeExpiry {qp : Fin 65536} {path : Fin 8} {x : TxPkt} {s : State}
    (h : (s.qp qp).state = .rts ∧ (s.qp qp).spray = true ∧ path.val < (s.qp qp).npaths ∧ ((s.qp qp).paths.get
      path).down = true)
    (hx : ((s.qp qp).sent.filter fun x => !x.sacked).head? = some x) :
    ∃ t, exec (.pathProbeExpiry qp path) s = .next t ∧
      Out.packet qp x.psn (s.pathPort (s.qp qp) path) ((s.qp qp).sport path) ((s.qp qp).cxh x.final false true
        path x.msn x.idx) x.inval ∈ t.out ∧ t.res = s.res ∧ t.mrd = s.mrd := by
  set u := s.updQp qp fun q => { q with sent := q.sent.map fun y => if y.psn = x.psn then { y with path := path.val } else y }
    with hu
  have hsends : Sends qp s (u.emitPkt qp { x with path := path } true) :=
    (Sends.updQp (by exact rfl)).trans (Sends.emitPkt u _ _)
  refine ⟨((u.emitPkt qp { x with path := path } true).tally 0x041 (qpGroup qp) 1).tally 0x042 (qpGroup qp) 1, ?_, ?_, ?_, ?_⟩
  · simp only [exec, execPathProbeExpiry, hx, if_pos h, hu]
  · have hm := mem_emitPkt u qp { x with path := path } true
    rw [tally_out, tally_out]
    rw [hu, qp_updQp_same] at hm
    exact hm
  · rw [tally_res, tally_res, hsends.res]
  · rw [tally_mrd, tally_mrd, hsends.mrd]

/-! ## Rate control (R80) -/

theorem exec_cnpReceive {qp : Fin 65536} {s : State}
    (h : (s.qp qp).state = .rts ∧ (s.qp qp).lastCut = none ∧ s.flag Fld.TUG_RC_CFG2_RC_EN = true ∧ s.fld
      Fld.TUG_RC_CFG0_CUT ≠ 0) :
    ∃ t, exec (.cnpReceive qp none) s = .next t ∧
      (t.qp qp).rate = max (s.fld Fld.TUG_RC_CFG2_MIN_RATE * 1000) ((s.qp qp).rate - (s.qp qp).rate * s.fld
        Fld.TUG_RC_CFG0_CUT / 256) ∧
      (t.qp qp).mem = (s.qp qp).rate ∧ (t.qp qp).stage = 0 ∧ (t.qp qp).lastCut = some s.now ∧ t.out = s.out := by
  obtain ⟨hrts, hnone, hen, hcut⟩ := h
  set t := (s.tally 0x044 (qpGroup qp) 1).updQp qp fun q => { q with
    mem := q.rate, stage := 0, lastCut := some s.now, paths := (s.qp qp).paths
    rate := max (s.fld Fld.TUG_RC_CFG2_MIN_RATE * 1000) (q.rate - q.rate * s.fld Fld.TUG_RC_CFG0_CUT / 256) } with ht
  have hqp : (s.tally 0x044 (qpGroup qp) 1).qp qp = s.qp qp := qp_of_tug (congrArg Tugs.qp (tally_tug _ _ _ _)) _
  refine ⟨t, ?_, ?_, ?_, ?_, ?_, tally_out s _ _ _⟩
  · simp only [exec, execCnpReceive, hrts, hnone, tally_flag, tally_fld, tally_now, hen, hcut, ne_eq,
      not_true_eq_false, Option.all_none, Bool.not_true, Bool.false_eq_true, or_self, if_false, ht]
  all_goals simp only [ht, qp_updQp_same, hqp]

/-- A queue pair that may recover does, whether the table lists it or not. -/
theorem exec_rateIntervalExpiry {s : State} (h : s.flag Fld.TUG_RC_CFG2_RC_EN = true) :
    ∃ t, exec (.rateIntervalExpiry) s = .next t ∧
      (∀ i, (s.qp i).state = .rts → (s.qp i).rate < (s.qp i).line → (s.qp i).lastCut = none → (t.qp i).rate = if
        (s.qp i).stage < s.fld Fld.TUG_RC_CFG0_FAST_STEPS then ((s.qp i).rate + (s.qp i).mem) / 2 else min (s.qp
        i).line ((s.qp i).rate + s.fld Fld.TUG_RC_CFG1_STEP * 1000)) ∧
      t.out = s.out ∧ t.tug.conn = s.tug.conn ∧ t.mrd = s.mrd := by
  refine ⟨_, if_neg (by simp [h]), fun i hrts hrate hcut => ?_, rfl, rfl, rfl⟩
  rw [State.qp, updTug_tug]
  dsimp only
  have hcut' : (s.tug.qp.get i).lastCut = none := hcut
  rw [Tab.get_mapAll]
  · rw [if_pos ⟨hrts, hrate, by rw [hcut']; rfl⟩]
    rfl
  · exact if_neg fun hd => QpState.noConfusion hd.1

/-! ## Staircase steps (R83) -/

theorem exec_staircaseStepComplete_last {qp : Fin 65536} {key k r : Nat} {x : Stair} {s : State}
    (h : s.stair qp key = some x ∧ x.issued = [k] ∧ x.firm = false ∧ x.rearm = true ∧ x.held = false)
    (hlast : x.running = some r ∧ x.steps[r]? = none ∧ (x.steps[k]?.any fun y => y.op != 4 && !y.signal) = true) :
    ∃ t, exec (.staircaseStepComplete qp key k true []) s = .next t ∧
      t.stair qp key = some { x with issued := [], running := none } ∧
      t.out = s.out ∧ t.res = s.res := by
  obtain ⟨hx, hissued, hfirm, hrearm, hheld⟩ := h
  obtain ⟨hrun, hend, hstep⟩ := hlast
  obtain ⟨p, hp, hquiet⟩ := Option.any_eq_true _ _ |>.mp hstep
  simp only [Bool.and_eq_true, bne_iff_ne, ne_eq, Bool.not_eq_true'] at hquiet
  obtain ⟨hop, hsig⟩ := hquiet
  have hdone : (s.updStair qp key fun y => { y with issued := y.issued.erase k }).stair qp key = some { x with issued := [] } := by
    rw [stair_updStair s hx fun _ => (by exact ⟨rfl, rfl⟩), hissued, List.erase_cons_head]
  refine ⟨(s.updStair qp key fun y => { y with issued := y.issued.erase k }).updStair qp key fun y => { y with running := none },
    ?_, ?_, rfl, rfl⟩
  · simp [exec, execStaircaseStepComplete, hx, hp, hissued, hfirm, hop, State.stepSignal, hsig, stairFuel, State.stairGo, hdone,
      hrun, hend, hrearm, hheld]
  · exact stair_updStair _ hdone fun _ => (by exact ⟨rfl, rfl⟩)

theorem exec_staircaseStepComplete_fails {qp : Fin 65536} {key k : Nat} {x : Stair} {s : State}
    (h : s.stair qp key = some x ∧ k ∈ x.issued ∧ x.firm = false ∧ (x.steps[k]?.any fun y => y.op != 4) = true) :
    ∃ t, exec (.staircaseStepComplete qp key k false []) s = .next t ∧
      t.stair qp key = some { x with faulted := some k, running := none, issued := [], held := false } ∧
      t.out = s.out ∧ t.res = s.res := by
  obtain ⟨hx, hissued, hfirm, hstep⟩ := h
  obtain ⟨p, hp, hop⟩ := Option.any_eq_true _ _ |>.mp hstep
  refine ⟨s.updStair qp key fun y => { y with faulted := some k, running := none, issued := [], held := false }, ?_, ?_, rfl, rfl⟩
  · simp only [bne_iff_ne, ne_eq] at hop
    simp [exec, execStaircaseStepComplete, hx, hp, hissued, hfirm, hop]
  · exact stair_updStair s hx fun _ => (by exact ⟨rfl, rfl⟩)

/-! ## Dock windows (R84, R89) -/

theorem winDead_win (s : State) (w : Nat) : (s.winDead w).win w = { s.win w with state := .dead, accepted := [] } := by
  unfold State.winDead
  dsimp only
  rw [win_of_tug (congrArg Tugs.win (finishOn_tug _ _ _ _ _)),
    win_of_tug (foldl_eq (fun u : State => u.tug.win) _ (fun t a => updQp_win t _ _) _ _), win_updWin_same]

theorem winDead_memory (s : State) (w : Nat) : (s.winDead w).res = s.res ∧ (s.winDead w).brg = s.brg := by
  unfold State.winDead
  dsimp only
  rw [finishOn_res, finishOn_brg]
  constructor
  · exact foldl_eq State.res _ (fun t a => updTug_res t _) _ _
  · exact foldl_eq State.brg _ (fun t a => updTug_brg t _) _ _

theorem exec_drainLimitExpiry {w : Fin 4096} {s : State} (h : (s.win w).state = .revoking) :
    ∃ t, exec (.drainLimitExpiry w) s = .next t ∧
      (t.win w).state = .dead ∧ (t.win w).accepted = [] ∧ t.res = s.res ∧ t.brg.dock = s.brg.dock := by
  obtain ⟨hres, hbrg⟩ := winDead_memory s w
  refine ⟨_, if_pos h, ?_, ?_, hres, by rw [hbrg]⟩
  · rw [winDead_win]
  · rw [winDead_win]

/-- With no window in the way a place is found at the beginning of the memory. -/
theorem freePlace_zero {held : List (Nat × Nat)} {fits : Nat → Bool} {size : Nat} (hfits : fits 0 = true)
    (hheld : ∀ h ∈ held, size ≤ h.1 ∨ h.1 + h.2 ≤ 0) : (freePlace held fits size).isSome = true := by
  have hsome : ∀ (l : List Nat) (m : Option Nat), m.isSome = true → (l.foldl (fun m b => match m with
      | none => some b
      | some x => some (min x b)) m).isSome = true := by
    intro l
    induction l with
    | nil => exact fun _ h => h
    | cons b l ih =>
      intro m hm
      refine ih _ ?_
      cases m with
      | none => rfl
      | some x => rfl
  unfold freePlace
  rw [List.filter_cons_of_pos]
  · exact hsome _ (some 0) rfl
  · rw [hfits, Bool.true_and, List.all_eq_true]
    intro h hh
    have := hheld h hh
    rw [decide_eq_true_eq]
    omega

/-- DOCK_CREATE's body where an entry is dead and no window of its memory is alive. -/
theorem dockCreateBody_places {host kind size perms tag : Nat} {s : State}
    (hhost : host < 4096 ∧ (s.mrd.hosts.get host).present = true ∧ kind ≤ 2 ∧ perms ≤ 7 ∧ tag < 256)
    (hsize : size ≠ 0 ∧ size % 4096 = 0 ∧ size ≤ (if kind = 0 then 2 ^ 30 else if kind = 1 then 2 ^ 22 else 2 ^ 16))
    (hfree : s.winRanges (kind == 0) = [] ∧ ((List.range 4096).any fun w => (s.win w).state == .dead) = true) :
    ∃ w < 4096, ∃ x : DockWin, x.state = .valid ∧ x.host = host ∧ x.size = size ∧ x.wr = perms.testBit 1 ∧
      ∀ l : Tab Session, dockCreateBody host kind size perms none tag (s.inSession l) =
        .ok ((s.inSession l).tick.updWin w fun _ => x) [beBytes 4 (x.gen * 4096 + w)] := by
  obtain ⟨hlt, hpresent, hkind, hperms, htag⟩ := hhost
  obtain ⟨hnz, hwhole, hmost⟩ := hsize
  obtain ⟨hnone, hdead⟩ := hfree
  obtain ⟨w, hw⟩ := Option.isSome_iff_exists.mp (firstFrom_isSome_of_any s.freeVal hdead)
  have hbound : w < 4096 := by
    have hmem := List.mem_of_find?_eq_some hw
    obtain ⟨i, -, hi⟩ := List.mem_map.mp hmem
    rw [← hi]
    exact Nat.mod_lt _ (by decide)
  have hplace : (freePlace (if kind = 0 then [] else (List.range 8).map fun d => (d * 2 ^ 22, 0)) (fun b => if kind = 0 then
      decide (b + size ≤ 2 ^ 38) else decide (b / 2 ^ 22 = (b + size - 1) / 2 ^ 22 ∧ b / 2 ^ 22 < 8)) size).isSome = true := by
    by_cases h0 : kind = 0
    · simp only [h0, if_true] at hmost ⊢
      refine freePlace_zero (decide_eq_true ?_) (fun h hh => absurd hh List.not_mem_nil)
      omega
    · have hsmall : size ≤ 2 ^ 22 := by
        rw [if_neg h0] at hmost
        split at hmost <;> omega
      simp only [h0, if_false]
      refine freePlace_zero (decide_eq_true ?_) fun h hh => ?_
      · constructor
        · rw [Nat.div_eq_of_lt (show 0 + size - 1 < 2 ^ 22 by omega), Nat.zero_div]
        · decide
      · obtain ⟨d, -, rfl⟩ := List.mem_map.mp hh
        dsimp only
        rcases Nat.eq_zero_or_pos d with rfl | hd
        · exact .inr (by decide)
        · exact .inl (hsmall.trans (Nat.le_mul_of_pos_left _ hd))
  obtain ⟨b, hb⟩ := Option.isSome_iff_exists.mp hplace
  refine ⟨w, hbound, ⟨.valid, if kind = 0 then .data else if kind = 1 then .bank else .stairs, host, size, perms.testBit 0,
    perms.testBit 1, perms.testBit 2, none, tag, ((s.win w).gen + 1) % 2 ^ 20, b, 0, 0, 0, []⟩, rfl, rfl, rfl, rfl, fun l => ?_⟩
  have hkind' : ¬ (2 < kind ∨ 7 < perms ∨ 256 ≤ tag) := by omega
  have hsize' : ¬ (size = 0 ∨ size % 4096 ≠ 0 ∨ (if kind = 0 then 2 ^ 30 else if kind = 1 then 2 ^ 22 else 2 ^ 16) < size) := by
    rintro (h | h | h)
    · exact hnz h
    · exact h hwhole
    · exact absurd h (Nat.not_lt.mpr hmost)
  have hbody : dockCreateBody host kind size perms none tag (s.inSession l) =
      dockCreateBody.dockPlace host kind size perms none tag (s.inSession l) := by
    unfold dockCreateBody
    rw [if_neg (Nat.not_le.mpr hlt), if_neg (by rw [show (s.inSession l).mrd = s.mrd from rfl, hpresent]; decide)]
    exact if_neg hkind'
  rw [hbody]
  unfold dockCreateBody.dockPlace
  rw [if_neg hsize']
  have hranges : (s.inSession l).winRanges (kind == 0) = [] := hnone
  have hfirst : firstFrom 4096 (s.inSession l).freeVal (fun w => ((s.inSession l).win w).state == .dead) = some w := hw
  simp only [hranges, hfirst, List.nil_append, hb]
  rfl

theorem exec_dockCreate {h : Hdr} {host kind size perms tag : Nat} {s : State} (ht : s.takes h 0x0410 [(.host, host)] = true)
    (hhost : host < 4096 ∧ (s.mrd.hosts.get host).present = true ∧ kind ≤ 2 ∧ perms ≤ 7 ∧ tag < 256)
    (hsize : size ≠ 0 ∧ size % 4096 = 0 ∧ size ≤ (if kind = 0 then 2 ^ 30 else if kind = 1 then 2 ^ 22 else 2 ^ 16))
    (hfree : s.winRanges (kind == 0) = [] ∧ ((List.range 4096).any fun w => (s.win w).state == .dead) = true) :
    ∃ t, exec (.dockCreate h host kind size perms none tag) s = .next t ∧
      (∃ w < 4096, (t.win w).state = .valid ∧ (t.win w).host = host ∧ (t.win w).size = size ∧ (t.win w).wr =
        perms.testBit 1 ∧ t.answered h 0x0410 .success [beBytes 4 ((t.win w).gen * 4096 + w)]) ∧
      t.mrd = s.mrd ∧ t.res = s.res := by
  obtain ⟨w, hw, x, hvalid, hx, hxsize, hxwr, hbody⟩ := dockCreateBody_places hhost hsize hfree
  obtain ⟨hans, hwin, hmrd, hres⟩ := manifest_ok (.dockCreate host kind size perms none tag) [beBytes 4 (x.gen * 4096 + w)]
    (fun t => t.win w = x ∧ t.mrd = s.mrd ∧ t.res = s.res) ht
    fun l => ⟨_, hbody l, rfl, outgrows_same rfl, fun q st ps =>
      ⟨by rw [win_of_tug (congrArg Tugs.win (answerSince_tug _ _ _ _ _ _)), win_updWin_same], by simp; rfl, by simp; rfl⟩⟩
  refine ⟨_, rfl, ⟨w, hw, ?_, ?_, ?_, ?_, ?_⟩, hmrd, hres⟩
  all_goals rw [hwin]
  · exact hvalid
  · exact hx
  · exact hxsize
  · exact hxwr
  · exact hans

theorem exec_dockRevoke {h : Hdr} {rkey : Nat} {s : State} (ht : s.takes h 0x0411 [(.dock, rkey % 4096)] = true)
    (hwin : (s.win (rkey % 4096)).state = .valid ∧ (s.win (rkey % 4096)).gen = rkey / 4096 ∧ (s.win (rkey %
      4096)).accepted = []) :
    ∃ t, exec (.dockRevoke h rkey) s = .next t ∧
      t.answered h 0x0411 .success [] ∧ (t.win (rkey % 4096)).state = .dead ∧ t.res = s.res := by
  obtain ⟨hvalid, hgen, hacc⟩ := hwin
  obtain ⟨hans, hdead, hres⟩ := manifest_ok (.dockRevoke rkey) (body := dockRevokeBody rkey) []
    (fun t => (t.win (rkey % 4096)).state = .dead ∧ t.res = s.res) ht fun l => by
      refine ⟨_, (if_neg ?_).trans (if_pos ?_), rfl, outgrows_same rfl, fun q st ps => ⟨?_, by simp; rfl⟩⟩
      · rintro (hv | hg)
        · exact hv hvalid
        · exact hg hgen
      · exact hacc
      · rw [win_of_tug (congrArg Tugs.win (answerSince_tug _ _ _ _ _ _)), win_updWin_same]
  exact ⟨_, rfl, hans, hdead, hres⟩

/-- Settles O26: each row's own lemma. -/
theorem acknowledgementsAndTimersActOnTheSender : Obligations.AcknowledgementsAndTimersActOnTheSender :=
  ⟨fun _ _ => exec_reorderTimerExpiry, fun _ _ => exec_ackDelayExpiry, fun _ _ _ _ => exec_ackReceive_acked,
    fun _ _ _ _ => exec_ackReceive_frees, fun _ _ _ _ _ => exec_selectiveNakReceive, fun _ _ _ => exec_nakReceive,
    fun _ _ => exec_localAckTimeout, fun _ _ _ => exec_rnrRetryExpiry, fun _ _ _ _ => exec_pathProbeExpiry,
    fun _ _ => exec_cnpReceive, fun _ h => exec_rateIntervalExpiry h.2, fun _ _ _ _ _ _ => exec_staircaseStepComplete_last,
    fun _ _ _ _ _ => exec_staircaseStepComplete_fails, fun _ _ => exec_drainLimitExpiry,
    fun _ _ _ _ _ _ _ => exec_dockCreate, fun _ _ _ => exec_dockRevoke⟩

end Sys2Proof.Machine

/-! Bytes laid into a memory one behind the other, and numbers as bytes, lowest first. -/

namespace Sys2Proof.Machine

/-- A read after bytes were laid into a memory from `a` on, those of `l` from place `j` on. -/
theorem Tab.get_foldl_zipIdx (l : List Byte) (a k : Nat) : ∀ (t : Tab Byte) (j : Nat),
    ((l.zipIdx j).foldl (fun t p => t.set (a + p.2) p.1) t).get k =
      if a + j ≤ k ∧ k < a + j + l.length then l.getD (k - (a + j)) 0 else t.get k := by
  induction l with
  | nil => intro t j; simp
  | cons b l ih =>
    intro t j
    rw [List.zipIdx_cons, List.foldl_cons, ih, Tab.get_set, List.length_cons]
    by_cases hk : a + j = k
    · rw [if_neg (by omega), if_pos hk, if_pos (by omega), show k - (a + j) = 0 by omega]; rfl
    · rw [if_neg hk]
      by_cases hlt : a + j ≤ k
      · rw [show k - (a + j) = k - (a + (j + 1)) + 1 by omega, List.getD_cons_succ]
        exact if_congr (by omega) rfl rfl
      · rw [if_neg (by omega), if_neg (by omega)]

/-- The bytes laid there, read back whole. -/
theorem map_get_foldl_zipIdx (t : Tab Byte) (a : Nat) (l : List Byte) :
    ((List.range l.length).map fun i => (l.zipIdx.foldl (fun t p => t.set (a + p.2) p.1) t).get (a + i)) = l := by
  refine List.ext_getElem (by simp) fun i hi hi' => ?_
  rw [List.getElem_map, List.getElem_range, Tab.get_foldl_zipIdx, if_pos (by omega), show a + i - (a + 0) = i by omega,
    List.getD_eq_getElem _ _ hi']

theorem leBytes_length (n v : Nat) : (leBytes n v).length = n := by simp [leBytes]

theorem leVal_leBytes (n : Nat) : ∀ v, leVal (leBytes n v) = v % 256 ^ n := by
  induction n with
  | zero => intro v; simp [leBytes, leVal, Nat.mod_one]
  | succ n ih =>
    intro v
    have hcons : leBytes (n + 1) v = BitVec.ofNat 8 v :: leBytes n (v / 256) := by
      simp only [leBytes, List.range_succ_eq_map, List.map_cons, List.map_map, Nat.mul_zero, Nat.shiftRight_zero]
      refine congrArg _ (List.map_congr_left fun i _ => ?_)
      simp only [Function.comp_apply, Nat.succ_eq_add_one, Nat.mul_add, Nat.mul_one, Nat.add_comm (8 * i), Nat.shiftRight_add]
      rw [Nat.shiftRight_eq_div_pow v 8]
    rw [hcons, leVal, List.foldr_cons, ← leVal, ih, BitVec.toNat_ofNat, Nat.pow_succ' (m := 256), Nat.mod_mul]

theorem leVal_lt (l : List Byte) : leVal l < 256 ^ l.length := by
  induction l with
  | nil => decide
  | cons b l ih =>
    have hb := b.isLt
    rw [leVal, List.foldr_cons, ← leVal, List.length_cons, Nat.pow_succ]
    omega

end Sys2Proof.Machine

/-! A packet that is a whole message and comes next on its queue pair, from its arrival to its delivery (R63, R73, R76). -/

namespace Sys2Proof.Machine

/-! ## Where it is placed -/

section Windows

variable (s : State) (w off : Nat) (l : List Byte)

theorem winWrite_nil : s.winWrite w off [] = s := by unfold State.winWrite; dsimp only; split <;> rfl
@[simp] theorem winWrite_tug : (s.winWrite w off l).tug = s.tug := by unfold State.winWrite; dsimp only; split <;> rfl
@[simp] theorem winWrite_mrd : (s.winWrite w off l).mrd = s.mrd := by unfold State.winWrite; dsimp only; split <;> rfl
@[simp] theorem winWrite_host : (s.winWrite w off l).host = s.host := by unfold State.winWrite; dsimp only; split <;> rfl

/-- What is laid into a window's memory rests on the window's type and place alone. -/
theorem winWrite_congr {s t : State} (hres : t.res = s.res) (hbrg : t.brg = s.brg) (hkind : (t.win w).kind = (s.win w).kind)
    (hbase : (t.win w).base = (s.win w).base) :
    (t.winWrite w off l).res = (s.winWrite w off l).res ∧ (t.winWrite w off l).brg = (s.winWrite w off l).brg := by
  unfold State.winWrite
  dsimp only
  rw [hkind, hbase, hres]
  split
  · exact ⟨rfl, hbrg⟩
  · exact ⟨hres, by rw [updBrg_brg, updBrg_brg, hbrg]⟩

/-- Nor does what is read there rest on more. -/
theorem winRead_congr {s t : State} (n : Nat) (hres : t.res = s.res) (hbrg : t.brg = s.brg)
    (hkind : (t.win w).kind = (s.win w).kind) (hbase : (t.win w).base = (s.win w).base) :
    t.winRead w off n = s.winRead w off n := by
  unfold State.winRead
  dsimp only
  rw [hkind, hbase, hres, hbrg]

end Windows

/-- What a WRITE brings stands in its window. -/
def State.landed (s : State) (p : Packet) : State :=
  if p.op = .write then s.winWrite (p.rkey % 4096) p.va p.payload else s

theorem landed_of_nil {s : State} {p : Packet} (h : p.payload = []) : s.landed p = s := by
  unfold State.landed
  rw [h, winWrite_nil, ite_self]

theorem landed_of_not_write {s : State} {p : Packet} (h : p.op ≠ .write) : s.landed p = s := if_neg h

/-- A message as its only packet opens it, and with what that packet brings. -/
def State.firstMsg (s : State) (i : Nat) (p : Packet) (n : Nat) : RxMsg :=
  Packet.opens p n p.va p.op (s.forWindow i p) (s.win (p.rkey % 4096)).commits
def State.wholeMsg (s : State) (i : Nat) (p : Packet) (n : Nat) : RxMsg := (s.firstMsg i p n).add p 0 (s.qp i).mtu

theorem wholeMsg_whole {p : Packet} (h : p.last = true) (s : State) (i n : Nat) : (s.wholeMsg i p n).whole = true := by
  have hgot : (s.firstMsg i p n).got = [] := rfl
  simp [RxMsg.whole, State.wholeMsg, RxMsg.add, h, hgot]

theorem wholeMsg_imm (s : State) (i : Nat) (p : Packet) (n : Nat) : (s.wholeMsg i p n).imm = p.imm := by
  unfold State.wholeMsg RxMsg.add
  cases h : p.imm <;> simp [State.firstMsg, Packet.opens]
  rfl

/-- The payload of a packet that is a whole message lies within it and its window (R68, R85). -/
def State.payloadFits (s : State) (p : Packet) : Prop :=
  p.payload = [] ∨ (p.op = .write ∧ p.payload.length ≤ p.len ∧ p.va + p.len ≤ (s.win (p.rkey % 4096)).size) ∨
    p.op ≠ .send ∧ p.op ≠ .write

/-- The message opened, and accepted for its window. -/
def State.opened (s : State) (i : Nat) (p : Packet) (n : Nat) : State :=
  let t := s.updQp i fun q => { q with msgs := q.msgs ++ [s.firstMsg i p n] }
  if s.forWindow i p then
    t.updWin (p.rkey % 4096) fun x => { x with
      accepted := x.accepted ++ [(i, n)], commits := x.commits + (if p.op = .write then 1 else 0) }
  else t

/-- The packet in its message. -/
def State.placed (s : State) (i : Nat) (p : Packet) (n : Nat) : State :=
  ((s.opened i p n).landed p).updMsg i n fun m => m.add p 0 (s.qp i).mtu

section Opened

variable {s : State} {i : Nat} {p : Packet} {n : Nat}

theorem opened_frame : (s.opened i p n).res = s.res ∧ (s.opened i p n).brg = s.brg ∧ (s.opened i p n).mrd = s.mrd ∧
    (s.opened i p n).host = s.host ∧ (s.opened i p n).tug.stairs = s.tug.stairs := by
  unfold State.opened
  dsimp only
  split <;> exact ⟨rfl, rfl, rfl, rfl, rfl⟩

theorem opened_qp (j : Nat) : (s.opened i p n).qp j = if i = j then { s.qp j with msgs := (s.qp j).msgs ++ [s.firstMsg i p n] }
    else s.qp j := by
  rw [← qp_updQp s i j fun q => { q with msgs := q.msgs ++ [s.firstMsg i p n] }]
  unfold State.opened
  dsimp only
  split <;> rfl

theorem opened_win (w : Nat) : (s.opened i p n).win w =
    { s.win w with accepted := ((s.opened i p n).win w).accepted, commits := ((s.opened i p n).win w).commits } := by
  unfold State.opened
  dsimp only
  split
  · rw [win_updWin]
    split <;> rfl
  · rfl

theorem opened_win_of_not_dock (h : s.forWindow i p = false) : (s.opened i p n).tug.win = s.tug.win := by
  unfold State.opened
  dsimp only
  rw [if_neg (by rw [h]; decide)]
  rfl

theorem openMsg_next (hmsgs : (s.qp i).msgs = []) (hin : s.intake i p p.va = .accept) :
    s.openMsg i p n 0 = .ok (s.opened i p n) := by
  unfold State.openMsg
  simp only [hmsgs, List.any_nil, Nat.zero_mul, Nat.sub_zero, hin, Bool.false_eq_true, if_false]
  rfl

theorem writeAt_next (q : Qp) : q.writeAt (s.firstMsg i p n) p 0 = p.va := by
  unfold Qp.writeAt
  rw [Nat.zero_mul, Nat.add_zero]
  exact ite_self _

/-- A payload that fits passes the checks on the packets of its message. -/
theorem packetOk_next (hfit : s.payloadFits p) : (s.opened i p n).packetOk i (s.firstMsg i p n) p 0 = .accept := by
  have hop : (s.firstMsg i p n).op = p.op := rfl
  have hva : (s.firstMsg i p n).va = p.va := rfl
  have hkey : (s.firstMsg i p n).rkey = p.rkey := rfl
  have hlen : p.op = .write → (s.firstMsg i p n).len = p.len := fun h => if_neg (by rw [h]; decide)
  have hsize : ((s.opened i p n).win (p.rkey % 4096)).size = (s.win (p.rkey % 4096)).size := by rw [opened_win]
  have hat : ((s.opened i p n).qp i).writeAt (s.firstMsg i p n) p 0 = p.va := writeAt_next _
  unfold State.packetOk
  simp only [hat, hkey, hsize, hva, Nat.zero_mul, Nat.zero_add, true_or, if_true, hop]
  rcases hfit with hnil | ⟨hw, hle, hsz⟩ | ⟨hsend, hwrite⟩
  · rw [hnil, List.length_nil]
    split <;> rfl
  · rw [hw, hlen hw]
    dsimp only
    split
    · rfl
    · rw [if_pos ⟨Nat.le_refl _, by omega, hle, by omega⟩]
  · split
    · exact absurd ‹_› hsend
    · exact absurd ‹_› hwrite
    · rfl

theorem place_next (hmsgs : (s.qp i).msgs = []) (hstale : (s.qp i).stale = [])
    (hdrain : p.op = .send ∨ (s.win (p.rkey % 4096)).state ≠ .revoking) (hin : s.intake i p p.va = .accept)
    (hfit : s.payloadFits p) : s.place i p n 0 = .ok (s.placed i p n) := by
  have hsame : (if p.op = .send then s else s.drainDue (p.rkey % 4096)) = s := by
    rcases hdrain with h | h
    · exact if_pos h
    · rw [State.drainDue, if_neg (mt And.left h), ite_self]
  have hfind : (((s.opened i p n).qp i).msgs.find? fun m => m.msn == n) =
      some (s.firstMsg i p n) := by
    rw [opened_qp, if_pos rfl, hmsgs, List.nil_append]
    exact List.find?_cons_of_pos (beq_self_eq_true n)
  unfold State.place
  simp only [hsame, hstale, List.contains_nil, Bool.false_eq_true, if_false, openMsg_next hmsgs hin, hfind]
  simp only [packetOk_next hfit, writeAt_next]
  rfl

end Opened

end Sys2Proof.Machine

namespace Sys2Proof.Machine

/-! ## How it is received -/

theorem Qp.advanceE_spec : ∀ (n : Nat) (q : Qp), ∃ e l, Qp.advanceE n q = { q with epsn := e, above := l }
  | 0, q => ⟨q.epsn, q.above, rfl⟩
  | n + 1, q => by
    unfold Qp.advanceE
    split
    · obtain ⟨e, l, h⟩ := Qp.advanceE_spec n { q with above := q.above.erase q.epsn, epsn := (q.epsn + 1) % 2 ^ 24 }
      exact ⟨e, l, h⟩
    · exact ⟨q.epsn, q.above, rfl⟩

theorem Qp.advanceE_next {q : Qp} (h : q.above = [q.epsn]) :
    Qp.advanceE 1 q = { q with above := [], epsn := (q.epsn + 1) % 2 ^ 24 } := by
  simp [Qp.advanceE, h]

theorem Qp.takeBufs_alone {q : Qp} {m : RxMsg} (h : q.msgs = [m]) :
    ∃ b x, Qp.takeBufs 1 m.msn q = { q with msgs := [{ m with buf := x }], bufs := b } := by
  by_cases hb : m.op = .send ∧ m.buf.isNone
  · exact ⟨q.bufs + 1, some q.bufs, by simp [Qp.takeBufs, h, hb]⟩
  · refine ⟨q.bufs, m.buf, ?_⟩
    have hq : ({ q with msgs := [{ m with buf := m.buf }], bufs := q.bufs } : Qp) = q := by rw [← h]
    rw [hq]
    simp only [Qp.takeBufs, h, List.find?_cons_of_pos, beq_self_eq_true, if_neg hb]

theorem Qp.settleMsn_alone {q : Qp} {m : RxMsg} (h : q.msgs = [m]) (hn : m.msn = (q.rmsn + 1) % 2 ^ 24)
    (hw : m.whole = true) (hd : m.delivered = true) :
    Qp.settleMsn q.msgs.length q = { q with rmsn := (q.rmsn + 1) % 2 ^ 24, msgs := [] } := by
  simp [h, Qp.settleMsn, hn, hw, hd]

/-- The message after the last whole one waits for none. -/
theorem Qp.lowerWhole_next (q : Qp) : q.lowerWhole ((q.rmsn + 1) % 2 ^ 24) = true := by
  have hnone : seqDist ((q.rmsn + 1) % 2 ^ 24) q.rmsn - 1 = 0 := by unfold seqDist; omega
  unfold Qp.lowerWhole
  rw [hnone]
  rfl

/-- The queue pair as the receipt of a packet of `k` PSNs leaves it: E moves, SENDs take their buffers (R73, R74, R76). -/
def Qp.received (q : Qp) (k psn : Nat) : Qp :=
  let r := Qp.advanceE (q.above.length + k) { q with above := q.above ++ (List.range k).map fun j => (psn + j) % 2 ^ 24 }
  { Qp.takeBufs r.msgs.length ((r.rmsn + 1) % 2 ^ 24) r with sinceAck := q.sinceAck + 1 }

/-- With one message E moves past the PSNs of its packet. -/
theorem Qp.received_alone {q : Qp} {m : RxMsg} {k psn : Nat} (hm : q.msgs = [m]) (hn : m.msn = (q.rmsn + 1) % 2 ^ 24)
    (habove : q.above = []) (hpsn : psn = q.epsn) (hlt : q.epsn < 2 ^ 24) :
    ∃ e l a b y, (k = 1 → e = (psn + 1) % 2 ^ 24) ∧
      q.received k psn = { q with epsn := e, above := l, sinceAck := a, bufs := b, msgs := [{ m with buf := y }] } := by
  subst hpsn
  obtain ⟨e, l, hadv⟩ := Qp.advanceE_spec (q.above.length + k)
    { q with above := q.above ++ (List.range k).map fun j => (q.epsn + j) % 2 ^ 24 }
  obtain ⟨b, y, hbuf⟩ := Qp.takeBufs_alone (q := { q with epsn := e, above := l }) hm
  refine ⟨e, l, q.sinceAck + 1, b, y, fun hk => ?_, ?_⟩
  · subst hk
    have hone : Qp.advanceE 1 { q with above := [q.epsn] } = { q with above := [], epsn := (q.epsn + 1) % 2 ^ 24 } :=
      Qp.advanceE_next rfl
    have hlist : (List.range 1).map (fun j => (q.epsn + j) % 2 ^ 24) = [q.epsn] := by
      rw [List.range_one, List.map_singleton, Nat.add_zero, Nat.mod_eq_of_lt hlt]
    rw [habove, List.nil_append, hlist, List.length_nil, Nat.zero_add, hone] at hadv
    exact (congrArg Qp.epsn hadv).symm
  · unfold Qp.received
    rw [hadv]
    dsimp only
    rw [show q.msgs.length = 1 by rw [hm]; rfl, ← hn, hbuf]

/-- A message marked delivered. -/
def State.mark (u : State) (i : Nat) (x : RxMsg) : State := u.updMsg i x.msn fun y => { y with delivered := true }

theorem mark_qp {u : State} {i : Nat} {x : RxMsg} (h : (u.qp i).msgs = [x]) :
    (u.mark i x).qp i = { u.qp i with msgs := [{ x with delivered := true }] } := by
  simp [State.mark, State.updMsg, h]

/-- A queue pair's only message is delivered when it is whole and next, and the MSN moves past it. -/
theorem deliverAll_alone {u : State} {i : Nat} {x : RxMsg} (hm : (u.qp i).msgs = [x])
    (hn : x.msn = ((u.qp i).rmsn + 1) % 2 ^ 24) (hw : x.whole = true) (hd : x.delivered = false)
    (hv : Qp.Sent { u.qp i with msgs := [{ x with delivered := true }] } ((u.deliver i x).qp i)) :
    u.deliverAll 2 i = (u.deliver i x).updQp i fun q => { q with rmsn := (q.rmsn + 1) % 2 ^ 24, msgs := [] } := by
  have hnext : u.deliverable i x = true := by
    simp only [State.deliverable, hw, hd, hn, Qp.lowerWhole_next, Bool.not_false, Bool.or_true, Bool.and_self]
  have hmsgs : ((u.deliver i x).qp i).msgs = [{ x with delivered := true }] := hv.msgs
  have hdone : (u.deliver i x).deliverable i { x with delivered := true } = false := by
    simp [State.deliverable]
  rw [State.deliverAll]
  simp only [hm, sortBy, List.foldr_cons, List.foldr_nil, insertBy, List.find?_cons_of_pos hnext]
  rw [State.deliverAll]
  simp only [hmsgs, sortBy, List.foldr_cons, List.foldr_nil, insertBy, List.find?_cons_of_neg (Bool.not_eq_true _ |>.mpr hdone),
    List.find?_nil]
  refine updQp_congr _ (Qp.settleMsn_alone hmsgs ?_ hw rfl)
  rw [hv.rmsn, ← hn]

/-- The state that a packet's placing leaves, as its message is about to be delivered: the packet's bytes stand in their
window, the message `x` stands alone on its queue pair, and E has moved. -/
structure Arrived (s : State) (i : Nat) (p : Packet) (x : RxMsg) (u : State) : Prop where
  res : u.res = (s.landed p).res
  brg : u.brg = (s.landed p).brg
  mrd : u.mrd = s.mrd
  host : u.host = s.host
  stairs : u.tug.stairs = s.tug.stairs
  win : ∀ w, u.win w = { s.win w with accepted := (u.win w).accepted, commits := (u.win w).commits }
  sameWin : s.forWindow i p = false → u.tug.win = s.tug.win
  other : ∀ j, j ≠ i → u.qp j = s.qp j
  qp : u.qp i = { s.qp i with
    epsn := (u.qp i).epsn, above := (u.qp i).above, sinceAck := (u.qp i).sinceAck, bufs := (u.qp i).bufs, msgs := [x] }
  epsn : p.op ≠ .read → (u.qp i).epsn = (p.psn + 1) % 2 ^ 24
  msg : x = { s.wholeMsg i p (((s.qp i).rmsn + 1) % 2 ^ 24) with buf := x.buf }

section Placed

variable {s : State} {i : Nat} {p : Packet} {n : Nat}

/-- The placed message stands alone. -/
theorem placed_qp (hmsgs : (s.qp i).msgs = []) (j : Nat) :
    (s.placed i p n).qp j = if i = j then { s.qp j with msgs := [s.wholeMsg i p n] } else s.qp j := by
  have hland : ∀ u : State, (u.landed p).qp j = u.qp j := fun u => by
    unfold State.landed
    split
    · exact qp_of_tug (congrArg Tugs.qp (winWrite_tug u _ _ _)) j
    · rfl
  have hn : (s.firstMsg i p n).msn = n := rfl
  rw [State.placed, State.updMsg, qp_updQp, hland, opened_qp]
  by_cases hij : i = j
  · subst hij
    simp [hmsgs, State.wholeMsg, hn]
  · simp [hij]

theorem landed_tug (s : State) (p : Packet) : (s.landed p).tug = s.tug := by
  unfold State.landed
  split
  · exact winWrite_tug s _ _ _
  · rfl

/-- The state after placing, with the queue pair as the packet's receipt leaves it. -/
theorem arrived_placed {e b a : Nat} {l : List Nat} {y : Option Nat} {r : Qp}
    (hn : n = ((s.qp i).rmsn + 1) % 2 ^ 24) (hmsgs : (s.qp i).msgs = []) (he : p.op ≠ .read → e = (p.psn + 1) % 2 ^ 24)
    (hr : r = { s.qp i with epsn := e, above := l, sinceAck := a, bufs := b, msgs := [{ s.wholeMsg i p n with buf := y }] }) :
    Arrived s i p { s.wholeMsg i p n with buf := y } ((s.placed i p n).updQp i fun _ => r) := by
  obtain ⟨hres, hbrg, hmrd, hhost, hstairs⟩ := opened_frame (s := s) (i := i) (p := p) (n := n)
  have hwin : ((s.opened i p n).win (p.rkey % 4096)).kind = (s.win (p.rkey % 4096)).kind ∧
      ((s.opened i p n).win (p.rkey % 4096)).base = (s.win (p.rkey % 4096)).base := by
    constructor <;> rw [opened_win]
  have hmem : ((s.opened i p n).landed p).res = (s.landed p).res ∧ ((s.opened i p n).landed p).brg = (s.landed p).brg := by
    unfold State.landed
    split
    · exact winWrite_congr _ _ _ hres hbrg hwin.1 hwin.2
    · exact ⟨hres, hbrg⟩
  have htug : ((s.opened i p n).landed p).tug = (s.opened i p n).tug := landed_tug _ p
  have hwins : ∀ (f : Qp → Qp) (w : Nat), ((s.placed i p n).updQp i f).win w = (s.opened i p n).win w := fun f w =>
    win_of_tug (congrArg Tugs.win htug) w
  refine ⟨hmem.1, hmem.2, ?_, ?_, ?_, fun w => ?_, fun h => ?_, fun j hj => ?_, ?_, fun h => ?_, ?_⟩
  · refine Eq.trans ?_ hmrd
    show ((s.opened i p n).landed p).mrd = _
    unfold State.landed
    split
    · exact winWrite_mrd _ _ _ _
    · rfl
  · refine Eq.trans ?_ hhost
    show ((s.opened i p n).landed p).host = _
    unfold State.landed
    split
    · exact winWrite_host _ _ _ _
    · rfl
  · exact (congrArg Tugs.stairs htug).trans hstairs
  · rw [hwins]
    exact opened_win w
  · exact (congrArg Tugs.win htug).trans (opened_win_of_not_dock h)
  · rw [qp_updQp_ne _ hj, placed_qp hmsgs, if_neg hj.symm]
  · rw [qp_updQp_same, hr]
  · rw [qp_updQp_same, hr]; exact he h
  · rw [hn]

end Placed

theorem sends_ack (v : State) (i : Nat) (c : Prop) [Decidable c] :
    Sends i v (if (v.qp i).state ≠ .rts then v else if c then v.sendAck i else v) :=
  .ite _ (.refl i v) (.ite _ (.sendAck v) (.refl i v))

/-- A packet that can be placed is received: its queue pair moves on, messages are delivered, and it is acknowledged where
that is due. -/
theorem receive_sends {s t : State} {i : Nat} {p : Packet} {n k : Nat} (hplace : s.place i p n k = .ok t) :
    Sends i ((t.updQp i fun _ => (t.qp i).received (s.psnsOf i p) p.psn).deliverAll ((t.qp i).msgs.length + 1) i)
      (s.receive i p n k) := by
  unfold State.receive
  rw [hplace]
  exact sends_ack _ i _

/-- A packet that is a whole message is received: placed, and its message delivered. -/
theorem receive_next {s : State} {i : Nat} {p : Packet} {n : Nat} (hmsgs : (s.qp i).msgs = []) (habove : (s.qp i).above = [])
    (hpsn : p.psn = (s.qp i).epsn) (hlt : (s.qp i).epsn < 2 ^ 24) (hlast : p.last = true)
    (hn : n = ((s.qp i).rmsn + 1) % 2 ^ 24) (hplace : s.place i p n 0 = .ok (s.placed i p n)) :
    ∃ u x, Arrived s i p x u ∧
      (Qp.Sent { u.qp i with msgs := [{ x with delivered := true }] } ((u.deliver i x).qp i) →
        Sends i ((u.deliver i x).updQp i fun q => { q with rmsn := (q.rmsn + 1) % 2 ^ 24, msgs := [] }) (s.receive i p n 0)) := by
  have hq : (s.placed i p n).qp i = { s.qp i with msgs := [s.wholeMsg i p n] } := by rw [placed_qp hmsgs, if_pos rfl]
  have hone : ((s.placed i p n).qp i).msgs = [s.wholeMsg i p n] := by rw [hq]
  obtain ⟨e, l, a, b, y, he, hgot⟩ := Qp.received_alone (k := s.psnsOf i p) (psn := p.psn) hone
    (by rw [hq]; exact hn) (by rw [hq]; exact habove) (by rw [hq]; exact hpsn) (by rw [hq]; exact hlt)
  have harr := arrived_placed hn hmsgs (fun hop => he (if_neg hop)) (hgot.trans (by rw [hq]))
  refine ⟨_, _, harr, fun hv => ?_⟩
  have hsends := receive_sends hplace
  rw [hone, List.length_singleton, deliverAll_alone (congrArg Qp.msgs harr.qp) ?_ (wholeMsg_whole hlast s i n) rfl hv] at hsends
  · exact hsends
  · rw [congrArg Qp.rmsn harr.qp]
    exact hn

end Sys2Proof.Machine

namespace Sys2Proof.Machine

/-! ## What its delivery does -/

section Deliver

variable (u : State) (i : Nat) (x : RxMsg)

@[simp] theorem mark_win : (u.mark i x).tug.win = u.tug.win := (rfl)
@[simp] theorem mark_stairs : (u.mark i x).tug.stairs = u.tug.stairs := (rfl)
@[simp] theorem mark_res : (u.mark i x).res = u.res := (rfl)
@[simp] theorem mark_brg : (u.mark i x).brg = u.brg := (rfl)
@[simp] theorem mark_mrd : (u.mark i x).mrd = u.mrd := (rfl)
@[simp] theorem mark_host : (u.mark i x).host = u.host := (rfl)

/-- A message accepted for a window is done with there (R89). -/
def State.doneWith (t : State) (i : Nat) (x : RxMsg) : State :=
  if x.dock then t.unaccept (x.rkey % 4096) i x.msn else t

variable {u i x}

theorem deliver_send (hop : x.op = .send) (hnone : x.capsule = none ∧ x.imm = none ∧ x.word = none) :
    u.deliver i x = (u.mark i x).doneWith i x := by
  obtain ⟨hcap, himm, hword⟩ := hnone
  simp only [State.deliver, hop, hcap, himm, hword, State.takeCapsule]
  rfl

theorem deliver_write (hop : x.op = .write) (himm : x.imm = none) : u.deliver i x = (u.mark i x).doneWith i x := by
  simp only [State.deliver, hop, himm]
  rfl

theorem deliver_writeImm {v : Nat} (hop : x.op = .write) (himm : x.imm = some v) :
    u.deliver i x = ((u.mark i x).immediate i x v).doneWith i x := by
  simp only [State.deliver, hop, himm]
  rfl

/-- A queue pair without spray sends on path 0. -/
theorem Qp.deal_of_plain {q : Qp} (h : q.spray = false) (n : Nat) : q.deal n = 0 := by
  rw [Qp.deal, if_neg (by rw [h]; decide)]

theorem deliver_read (hop : x.op = .read) (hplain : ((u.mark i x).qp i).spray = false) : ∃ c k n, u.deliver i x =
    (((u.mark i x).sendRcAs i 0 x.msn false (.readResponse ((u.mark i x).winRead (x.rkey % 4096) x.va x.len))).tally
      c k n).doneWith i x := by
  rw [← Qp.deal_of_plain hplain ((u.mark i x).qp i).epsn]
  refine ⟨0x041, qpGroup i, max 1 (ceilDiv x.len ((u.mark i x).qp i).mtu) - 1, ?_⟩
  simp only [State.deliver, hop]
  rfl

theorem deliver_atomic {t : State} {old : Nat} (hop : x.op = .fetchAdd ∨ x.op = .compareSwap)
    (hplain : ((u.mark i x).qp i).spray = false)
    (ht : (u.mark i x).winAtomic (x.rkey % 4096) x.va x.op x.operand x.compare = (t, old)) :
    u.deliver i x = (t.sendRcAs i 0 x.msn false (.atomicResponse old)).doneWith i x := by
  rw [← Qp.deal_of_plain hplain ((u.mark i x).qp i).epsn]
  have ht' : (u.updMsg i x.msn fun y => { y with delivered := true }).winAtomic (x.rkey % 4096) x.va x.op x.operand x.compare =
      (t, old) := ht
  rcases hop with hop | hop
  all_goals
    rw [hop] at ht'
    simp only [State.deliver, hop, ht']
    rfl

end Deliver

theorem unaccept_of_not_revoking {t : State} {w : Nat} (q msn : Nat) (h : (t.win w).state ≠ .revoking) :
    t.unaccept w q msn = t.updWin w fun y => { y with accepted := y.accepted.erase (q, msn) } := by
  rw [State.unaccept, if_neg]
  rw [win_updWin_same]
  exact fun hr => h hr.1

/-! ## From the packet to the end of its delivery -/

/-- `r` is the state after a packet's message has been delivered by way of `t`: the PSN and the MSN have moved on, and what
the delivery did stands. -/
structure Delivered (s : State) (i : Nat) (p : Packet) (t r : State) : Prop where
  res : r.res = t.res
  brg : r.brg = t.brg
  mrd : r.mrd = t.mrd
  host : r.host = t.host
  stairs : r.tug.stairs = t.tug.stairs
  win : ∀ w, r.win w = { t.win w with accepted := (r.win w).accepted }
  sameWin : s.forWindow i p = false → r.tug.win = t.tug.win
  out : t.out ⊆ r.out
  epsn : p.op ≠ .read → (r.qp i).epsn = (p.psn + 1) % 2 ^ 24
  rmsn : (r.qp i).rmsn = ((s.qp i).rmsn + 1) % 2 ^ 24

section Run

variable {s u t r : State} {i : Nat} {p : Packet} {x : RxMsg}

namespace Arrived

theorem op (h : Arrived s i p x u) : x.op = p.op := by rw [h.msg]; rfl
theorem rkey (h : Arrived s i p x u) : x.rkey = p.rkey := by rw [h.msg]; rfl
theorem va (h : Arrived s i p x u) : x.va = p.va := by rw [h.msg]; rfl
theorem msn (h : Arrived s i p x u) : x.msn = ((s.qp i).rmsn + 1) % 2 ^ 24 := by rw [h.msg]; rfl
theorem dock (h : Arrived s i p x u) : x.dock = s.forWindow i p := by rw [h.msg]; rfl
theorem acc (h : Arrived s i p x u) : x.acc = (s.win (p.rkey % 4096)).commits := by rw [h.msg]; rfl
theorem imm (h : Arrived s i p x u) : x.imm = p.imm := by rw [h.msg]; exact wholeMsg_imm s i p _
theorem msgs (h : Arrived s i p x u) : (u.qp i).msgs = [x] := by rw [h.qp]

/-- The queue pair as its message is marked. -/
theorem mark_qp (h : Arrived s i p x u) :
    (u.mark i x).qp i = { u.qp i with msgs := [{ x with delivered := true }] } := Machine.mark_qp h.msgs

theorem mark_plain (h : Arrived s i p x u) : ((u.mark i x).qp i).spray = (s.qp i).spray := by
  rw [h.mark_qp, h.qp]

theorem mark_cxh (h : Arrived s i p x u) (final sack retx : Bool) (path msn idx : Nat) :
    ((u.mark i x).qp i).cxh final sack retx path msn idx = (s.qp i).cxh final sack retx path msn idx := by
  rw [h.mark_qp, h.qp]
  rfl

/-- The end of a delivery whose window is not being revoked. -/
theorem delivered (h : Arrived s i p x u) (hdeliver : u.deliver i x = t.doneWith i x)
    (hsent : ((u.mark i x).qp i).Sent (t.qp i)) (hwin : s.forWindow i p = true → (t.win (p.rkey % 4096)).state ≠ .revoking)
    (hrun : Qp.Sent { u.qp i with msgs := [{ x with delivered := true }] } ((u.deliver i x).qp i) →
      Sends i ((u.deliver i x).updQp i fun q => { q with rmsn := (q.rmsn + 1) % 2 ^ 24, msgs := [] }) r) :
    Delivered s i p t r := by
  rw [hdeliver, ← h.mark_qp] at hrun
  have hcases : (s.forWindow i p = false ∧ t.doneWith i x = t) ∨ s.forWindow i p = true ∧ ∃ l, t.doneWith i x =
      t.updWin (p.rkey % 4096) fun y => { y with accepted := y.accepted.erase l } := by
    unfold State.doneWith
    rw [h.dock, h.rkey]
    cases hd : s.forWindow i p
    · exact .inl ⟨rfl, rfl⟩
    · exact .inr ⟨rfl, _, unaccept_of_not_revoking _ _ (hwin hd)⟩
  have hqp : (t.doneWith i x).qp i = t.qp i := by
    obtain ⟨-, hsame⟩ | ⟨-, l, hdone⟩ := hcases
    · rw [hsame]
    · rw [hdone]; rfl
  have hends : Sends i _ r := hrun (by rw [hqp]; exact hsent)
  have hepsn : (r.qp i).epsn = (u.qp i).epsn := by
    rw [hends.qp.epsn, qp_updQp_same, hqp]
    exact hsent.epsn.trans (by rw [h.mark_qp])
  have hrmsn : (r.qp i).rmsn = ((s.qp i).rmsn + 1) % 2 ^ 24 := by
    rw [hends.qp.rmsn, qp_updQp_same, hqp]
    dsimp only
    rw [hsent.rmsn, h.mark_qp, h.qp]
  obtain ⟨-, hsame⟩ | ⟨hfor, l, hdone⟩ := hcases
  · rw [hsame] at hends
    exact ⟨hends.res, hends.brg, hends.mrd, hends.host, hends.stairs, fun w => by rw [win_of_tug hends.win]; rfl,
      fun _ => hends.win, hends.out.subset, fun hop => hepsn.trans (h.epsn hop), hrmsn⟩
  · rw [hdone] at hends
    refine ⟨hends.res, hends.brg, hends.mrd, hends.host, hends.stairs, fun w => ?_, fun hnot => ?_, hends.out.subset,
      fun hop => hepsn.trans (h.epsn hop), hrmsn⟩
    · rw [win_of_tug hends.win, win_of_tug (updQp_win _ i _), win_updWin]
      split <;> rfl
    · rw [hfor] at hnot
      cases hnot

end Arrived

end Run

end Sys2Proof.Machine

namespace Sys2Proof.Machine

/-! ## From the wire to the delivery -/

/-- What `State.nextOn` says of a packet and its queue pair, one by one. -/
structure NextOn (s : State) (p : Packet) (i : Nat) : Prop where
  entry : qpnEntry p.qpn = some i
  rts : (s.qp i).state = .rts
  plain : (s.qp i).spray = false
  msgs : (s.qp i).msgs = []
  above : (s.qp i).above = []
  stale : (s.qp i).stale = []
  msn : (s.qp i).relaxed = true → p.msn = ((s.qp i).rmsn + 1) % 2 ^ 24
  psn : p.psn = (s.qp i).epsn
  lt : (s.qp i).epsn < 2 ^ 24
  first : p.first = true
  last : p.last = true
  unmarked : p.ce = false
  len : p.len ≤ messageMax

theorem nextOn_unpack {s : State} {p : Packet} {i : Nat} (h : s.nextOn p i = true) : NextOn s p i := by
  simp only [State.nextOn, Bool.and_eq_true, beq_iff_eq, Bool.not_eq_true', List.isEmpty_iff, decide_eq_true_eq,
    Bool.or_eq_true] at h
  obtain ⟨⟨⟨⟨⟨⟨⟨⟨⟨⟨⟨⟨hentry, hrts⟩, hplain⟩, hmsgs⟩, habove⟩, hstale⟩, hmsn⟩, hpsn⟩, hlt⟩, hfirst⟩, hlast⟩, hce⟩, hlen⟩ := h
  refine ⟨hentry, hrts, hplain, hmsgs, habove, hstale, fun hr => ?_, hpsn, hlt, hfirst, hlast, hce, hlen⟩
  rcases hmsn with hmsn | hmsn
  · rw [hmsn] at hr
    cases hr
  · exact hmsn

/-- The state as a packet of queue pair `i` is taken from its tug and counted. -/
def State.unloaded (s : State) (i : Nat) : State := (s.fromTug i).tally 0x040 (qpGroup i) 1

/-- Hearing a packet changes what waits at the tugs, and counters. -/
theorem unloaded_eq (s : State) (i : Nat) : ∃ b a, s.unloaded i = { s with tug := { s.tug with inbox := b }, tal := a } := by
  have htally : ∀ t : State, ∃ a, t.tally 0x040 (qpGroup i) 1 = { t with tal := a } := fun t => by
    unfold State.tally
    refine foldl_keeps (fun u => ∃ a, u = { t with tal := a }) _ ?_ _ t ⟨t.tal, rfl⟩
    rintro _ w ⟨c, rfl⟩
    exact ⟨_, rfl⟩
  obtain ⟨a, ha⟩ := htally (s.fromTug i)
  have htug : ∃ b, s.fromTug i = { s with tug := { s.tug with inbox := b } } := by
    unfold State.fromTug
    split
    · exact ⟨_, rfl⟩
    · exact ⟨s.tug.inbox, rfl⟩
  obtain ⟨b, hb⟩ := htug
  exact ⟨b, a, by rw [State.unloaded, ha, hb]⟩

theorem notify_of_unmarked (s : State) (i path : Nat) : s.notify i false path = s := by
  simp [State.notify]

section Next

variable {s : State} {p : Packet} {i : Nat}

theorem NextOn.inOrder_eq (h : NextOn s p i) : s.inOrder i p = s.receive i p (((s.qp i).rmsn + 1) % 2 ^ 24) 0 := by
  have hmsn : (if (s.qp i).relaxed = true then p.msn else ((s.qp i).rmsn + 1) % 2 ^ 24) = ((s.qp i).rmsn + 1) % 2 ^ 24 := by
    split
    · exact h.msn ‹_›
    · rfl
  unfold State.inOrder
  simp only [h.psn, if_true, h.msgs, List.find?_nil, h.first, hmsn]

/-- Such a packet is taken from its tug, counted and received in order. -/
theorem packet_eq_receive (hnext : s.nextOn p i = true) (hop : p.op ≠ .other) :
    s.packet p = (s.unloaded i).receive i p (((s.qp i).rmsn + 1) % 2 ^ 24) 0 := by
  have h := nextOn_unpack hnext
  have hqpn : p.qpn ≠ 1 := fun hone => by
    have hentry := h.entry
    rw [hone] at hentry
    cases hentry
  have hbad : (p.op == .other || decide (messageMax < p.len)) = false := by
    rw [beq_eq_false_iff_ne.mpr hop, decide_eq_false (Nat.not_lt.mpr h.len)]
    rfl
  obtain ⟨b, a, heq⟩ := unloaded_eq s i
  have hun : NextOn (s.unloaded i) p i := nextOn_unpack (by rw [heq]; exact hnext)
  have hqp : (s.unloaded i).qp i = s.qp i := by rw [heq]; rfl
  have hstate : ((s.fromTug i).qp i).state = .rts := (Sends.fromTug (i := i) s i).qp.state.trans h.rts
  have hspray : ((s.fromTug i).qp i).spray = false := by rw [(Sends.fromTug (i := i) s i).qp]; exact h.plain
  rw [← hqp, ← hun.inOrder_eq]
  unfold State.packet
  simp only [if_neg hqpn, h.entry, hstate, hbad, hspray, h.unmarked, notify_of_unmarked, Bool.false_eq_true, if_false]
  rfl

/-- What arrives in the state that has heard the packet arrives in the one that was to hear it. -/
theorem Arrived.of_unloaded {x : RxMsg} {u : State} (h : Arrived (s.unloaded i) i p x u) : Arrived s i p x u := by
  obtain ⟨b, a, heq⟩ := unloaded_eq s i
  rw [heq] at h
  have hland : ∀ t : State, t = { s with tug := { s.tug with inbox := b }, tal := a } →
      (t.landed p).res = (s.landed p).res ∧ (t.landed p).brg = (s.landed p).brg := by
    intro t ht
    unfold State.landed
    split
    · exact winWrite_congr _ _ _ (by rw [ht]) (by rw [ht]) (by rw [ht]; rfl) (by rw [ht]; rfl)
    · exact ⟨by rw [ht], by rw [ht]⟩
  exact ⟨h.res.trans (hland _ rfl).1, h.brg.trans (hland _ rfl).2, h.mrd, h.host, h.stairs, h.win, h.sameWin, h.other,
    h.qp, h.epsn, h.msg⟩

/-- A packet that is a whole message and comes next: it arrives, and what its delivery leaves stands in the end. -/
theorem packet_delivers (hnext : s.nextOn p i = true) (hop : p.op ≠ .other)
    (hdrain : p.op = .send ∨ (s.win (p.rkey % 4096)).state ≠ .revoking) (hin : s.intake i p p.va = .accept)
    (hfit : s.payloadFits p) : ∃ u x, Arrived s i p x u ∧ ∀ t, u.deliver i x = t.doneWith i x →
      ((u.mark i x).qp i).Sent (t.qp i) → (s.forWindow i p = true → (t.win (p.rkey % 4096)).state ≠ .revoking) →
      Delivered s i p t (s.packet p) := by
  have h := nextOn_unpack hnext
  obtain ⟨b, a, heq⟩ := unloaded_eq s i
  have hqp : (s.unloaded i).qp i = s.qp i := by rw [heq]; rfl
  have hplace : (s.unloaded i).place i p (((s.qp i).rmsn + 1) % 2 ^ 24) 0 = .ok _ :=
    place_next (by rw [hqp]; exact h.msgs) (by rw [hqp]; exact h.stale) (by rw [heq]; exact hdrain)
      (by rw [heq]; exact hin) (by rw [heq]; exact hfit)
  obtain ⟨u, x, harr, hrun⟩ := receive_next (by rw [hqp]; exact h.msgs) (by rw [hqp]; exact h.above)
    (by rw [hqp]; exact h.psn) (by rw [hqp]; exact h.lt) h.last (by rw [hqp]) hplace
  rw [← packet_eq_receive hnext hop] at hrun
  exact ⟨u, x, harr.of_unloaded, fun t ht hsent hwin => harr.of_unloaded.delivered ht hsent hwin hrun⟩

end Next

end Sys2Proof.Machine

/-! What a packet that comes next does, by its operation (R69, R70, R81, R85 to R87). -/

namespace Sys2Proof.Machine

/-! ## It is taken -/

section Intake

variable {s : State} {i : Nat} {p : Packet} {n : Nat}

/-- A permitted operation lies within a VALID window. -/
theorem winOk_unpack {rkey va : Nat} {op : PktOp} (h : s.winOk i rkey va n op = true) :
    (s.win (rkey % 4096)).state = .valid ∧ va + n ≤ (s.win (rkey % 4096)).size := by
  simp only [State.winOk, Bool.and_eq_true, beq_iff_eq, decide_eq_true_eq] at h
  obtain ⟨⟨⟨⟨⟨hstate, -⟩, -⟩, hsize⟩, -⟩, -⟩ := h
  exact ⟨hstate, hsize⟩

/-- An atomic is permitted on a bank alone (R70). -/
theorem winOk_atomic {rkey va : Nat} {op : PktOp} (hop : op = .fetchAdd ∨ op = .compareSwap)
    (h : s.winOk i rkey va n op = true) : (s.win (rkey % 4096)).kind = .bank := by
  rcases hop with rfl | rfl
  all_goals
    simp only [State.winOk, Bool.and_eq_true, beq_iff_eq] at h
    obtain ⟨⟨-, -, hkind⟩, -⟩ := h
    exact hkind

theorem not_revoking_of_valid {x : DockWin} (h : x.state = .valid) : x.state ≠ .revoking := by rw [h]; decide

theorem intake_write (hop : p.op = .write) (hlen : p.len ≠ 0) (hok : s.winOk i p.rkey p.va p.len .write = true) :
    s.intake i p p.va = .accept := by
  simp [State.intake, hop, hlen, hok]

/-- With nothing unfinished a queue pair has room for a READ or an atomic (R70). -/
theorem requests_room {q : Qp} (hmsgs : q.msgs = []) (hroom : 0 < q.cfg.respRes) :
    decide (q.cfg.respRes ≤ q.requests) = false := by
  rw [Qp.requests, hmsgs]
  exact decide_eq_false (Nat.not_le.mpr hroom)

theorem intake_read (hop : p.op = .read) (hok : s.winOk i p.rkey p.va p.len .read = true) (hmsgs : (s.qp i).msgs = [])
    (hroom : 0 < (s.qp i).cfg.respRes) : s.intake i p p.va = .accept := by
  simp [State.intake, hop, hok, requests_room hmsgs hroom]

theorem intake_atomic (hop : p.op = .fetchAdd ∨ p.op = .compareSwap) (hok : s.winOk i p.rkey p.va 8 p.op = true)
    (halign : p.va % 8 = 0) (hmsgs : (s.qp i).msgs = []) (hroom : 0 < (s.qp i).cfg.respRes) :
    s.intake i p p.va = .accept := by
  rcases hop with hop | hop
  all_goals
    rw [hop] at hok
    simp [State.intake, hop, hok, halign, requests_room hmsgs hroom]

/-- A WRITE of no bytes meets no check on its key unless it is a dock commit (R69). -/
theorem intake_zero (hop : p.op = .write) (hlen : p.len = 0) (hplain : s.commitLike i p.rkey .write p.imm = false) :
    s.intake i p p.va = .accept := by
  simp [State.intake, hop, hlen, hplain]

theorem intake_commit (hop : p.op = .write) (hlen : p.len = 0) (hvalid : (s.win (p.rkey % 4096)).state = .valid)
    (hwr : (s.win (p.rkey % 4096)).wr = true) (hva : p.va < (s.win (p.rkey % 4096)).size) : s.intake i p p.va = .accept := by
  simp [State.intake, hop, hlen, hvalid, hwr, hva]

theorem commitLike_of_unbound {rkey : Nat} {op : PktOp} {imm : Option Nat} (h : (s.win (rkey % 4096)).bind = none) :
    s.commitLike i rkey op imm = false := by
  cases imm <;> simp [State.commitLike, h]

theorem forWindow_zero (hop : p.op = .write) (hlen : p.len = 0) :
    s.forWindow i p = s.commitLike i p.rkey .write p.imm := by
  simp [State.forWindow, hop, hlen]

end Intake

section Effects

variable {s u : State} {i : Nat} {p : Packet} {x : RxMsg}

/-- A message of one packet without payload brings no capsule and no first word. -/
theorem Arrived.bare (h : Arrived s i p x u) (himm : p.imm = none) (hcap : p.capsule = none) (hpay : p.payload = []) :
    x.capsule = none ∧ x.imm = none ∧ x.word = none := by
  refine ⟨?_, h.imm.trans himm, ?_⟩ <;> rw [h.msg] <;>
    simp [State.wholeMsg, RxMsg.add, State.firstMsg, Packet.opens, hcap, hpay] <;> rfl

/-- The window that a message names, as its delivery finds it. -/
theorem Arrived.mark_win (h : Arrived s i p x u) (w : Nat) : (u.mark i x).win w =
    { s.win w with accepted := (u.win w).accepted, commits := (u.win w).commits } := h.win w

theorem Arrived.state_of (h : Arrived s i p x u) (w : Nat) : ((u.mark i x).win w).state = (s.win w).state := by rw [h.mark_win]
theorem Arrived.kind_of (h : Arrived s i p x u) (w : Nat) : ((u.mark i x).win w).kind = (s.win w).kind := by rw [h.mark_win]
theorem Arrived.base_of (h : Arrived s i p x u) (w : Nat) : ((u.mark i x).win w).base = (s.win w).base := by rw [h.mark_win]

/-- What does not write leaves the memories for its delivery as they were. -/
theorem Arrived.winRead_of (h : Arrived s i p x u) (hland : s.landed p = s) (w off n : Nat) :
    (u.mark i x).winRead w off n = s.winRead w off n :=
  winRead_congr w off n (h.res.trans (by rw [hland])) (h.brg.trans (by rw [hland])) (h.kind_of w) (h.base_of w)

theorem Delivered.memory {t r : State} (h : Delivered s i p t r) (w off n : Nat) : r.winRead w off n = t.winRead w off n :=
  winRead_congr w off n h.res h.brg (by rw [h.win]) (by rw [h.win])

end Effects

/-! ## SENDs, WRITEs and READs -/

/-- A SEND of one packet with nothing to act on moves the PSN and the MSN, and nothing else (R73). -/
theorem packetReceive_send {p : Packet} {i : Nat} {s : State} (hnext : s.nextOn p i = true) (hop : p.op = .send)
    (himm : p.imm = none) (hcap : p.capsule = none) (hpay : p.payload = []) : ∃ t, exec (.packetReceive p) s = .next t ∧
      (t.qp i).epsn = (p.psn + 1) % 2 ^ 24 ∧ (t.qp i).rmsn = ((s.qp i).rmsn + 1) % 2 ^ 24 ∧
      t.res = s.res ∧ t.mrd = s.mrd ∧ t.tug.win = s.tug.win := by
  have hfor : s.forWindow i p = false := by rw [State.forWindow, hop]
  have hin : s.intake i p p.va = .accept := by rw [State.intake, hop]
  obtain ⟨u, x, harr, hdel⟩ := packet_delivers hnext (by rw [hop]; decide) (.inl hop) hin (.inl hpay)
  have hd := hdel _ (deliver_send (harr.op.trans hop) (harr.bare himm hcap hpay)) (.refl _) (fun h => absurd h (by simp [hfor]))
  refine ⟨_, rfl, hd.epsn (by rw [hop]; decide), hd.rmsn, ?_, hd.mrd.trans harr.mrd,
    (hd.sameWin hfor).trans (harr.sameWin hfor)⟩
  rw [hd.res, mark_res, harr.res, landed_of_nil hpay]

/-- A WRITE without immediate leaves what it brought, and has no other effect (R69, R85). -/
theorem packet_write {p : Packet} {i : Nat} {s : State} (hnext : s.nextOn p i = true) (hop : p.op = .write)
    (himm : p.imm = none) (hwin : (s.win (p.rkey % 4096)).state ≠ .revoking) (hin : s.intake i p p.va = .accept)
    (hfit : s.payloadFits p) : ∃ t, Delivered s i p t (s.packet p) ∧ t.res = (s.landed p).res ∧ t.brg = (s.landed p).brg ∧
      (s.forWindow i p = false → t.tug.win = s.tug.win) := by
  obtain ⟨u, x, harr, hdel⟩ := packet_delivers hnext (by rw [hop]; decide) (.inr hwin) hin hfit
  exact ⟨u.mark i x, hdel _ (deliver_write (harr.op.trans hop) (harr.imm.trans himm)) (.refl _)
    (fun _ => by rw [harr.state_of]; exact hwin), harr.res, harr.brg, harr.sameWin⟩

/-- Bytes laid into a DATA window stand in the reservoir. -/
theorem winWrite_get {s : State} {w : Nat} (h : (s.win w).kind = .data) (off : Nat) (l : List Byte) (k : Nat) :
    (s.winWrite w off l).res.get k = if (s.win w).base + off ≤ k ∧ k < (s.win w).base + off + l.length then
      l.getD (k - ((s.win w).base + off)) 0 else s.res.get k := by
  unfold State.winWrite
  simp only [h, if_true]
  exact Tab.get_foldl_zipIdx l _ k _ 0

theorem dockWrite_lays {p : Packet} {i : Nat} {s : State} (hnext : s.nextOn p i = true) (hop : p.op = .write) (hlen : p.len ≠ 0)
    (himm : p.imm = none) (hpay : p.payload.length ≤ p.len) (hok : s.winOk i p.rkey p.va p.len .write = true)
    (hkind : (s.win (p.rkey % 4096)).kind = .data) : ∃ t, exec (.dockWrite p) s = .next t ∧
      (t.qp i).epsn = (p.psn + 1) % 2 ^ 24 ∧ (t.qp i).rmsn = ((s.qp i).rmsn + 1) % 2 ^ 24 ∧
      (∀ k < p.payload.length, t.res.get ((s.win (p.rkey % 4096)).base + p.va + k) = p.payload.getD k 0) ∧
      (∀ a, (a < (s.win (p.rkey % 4096)).base + p.va ∨ (s.win (p.rkey % 4096)).base + p.va + p.payload.length ≤
        a) → t.res.get a = s.res.get a) := by
  obtain ⟨hvalid, hsize⟩ := winOk_unpack hok
  obtain ⟨t, hd, hres, -, -⟩ := packet_write hnext hop himm (not_revoking_of_valid hvalid) (intake_write hop hlen hok)
    (.inr (.inl ⟨hop, hpay, hsize⟩))
  have hget : (s.packet p).res = (s.winWrite (p.rkey % 4096) p.va p.payload).res := by
    rw [hd.res, hres, State.landed, if_pos hop]
  refine ⟨_, if_pos ⟨hop, hlen⟩, hd.epsn (by rw [hop]; decide), hd.rmsn, fun k hk => ?_, fun a ha => ?_⟩
  · rw [hget, winWrite_get hkind, if_pos (by omega), Nat.add_sub_cancel_left]
  · rw [hget, winWrite_get hkind, if_neg (by omega)]

theorem zeroLengthWrite_keeps {p : Packet} {i : Nat} {s : State} (hnext : s.nextOn p i = true) (hop : p.op = .write)
    (hlen : p.len = 0) (himm : p.imm = none) (hpay : p.payload = []) (hwin : (s.win (p.rkey % 4096)).state ≠ .revoking) :
    ∃ t, exec (.zeroLengthWrite p) s = .next t ∧
      (t.qp i).epsn = (p.psn + 1) % 2 ^ 24 ∧ (t.qp i).rmsn = ((s.qp i).rmsn + 1) % 2 ^ 24 ∧
      t.res = s.res ∧ t.brg = s.brg ∧ t.tug.win = s.tug.win := by
  have hplain : s.commitLike i p.rkey .write p.imm = false := by rw [himm]; rfl
  have hfor := (forWindow_zero (s := s) (i := i) hop hlen).trans hplain
  obtain ⟨t, hd, hres, hbrg, hwins⟩ := packet_write hnext hop himm hwin (intake_zero hop hlen hplain) (.inl hpay)
  rw [landed_of_nil hpay] at hres hbrg
  exact ⟨_, if_pos ⟨hop, hlen⟩, hd.epsn (by rw [hop]; decide), hd.rmsn, hd.res.trans hres, hd.brg.trans hbrg,
    (hd.sameWin hfor).trans (hwins hfor)⟩

theorem dockRead_answers {p : Packet} {i : Nat} {s : State} (hnext : s.nextOn p i = true) (hop : p.op = .read)
    (hok : s.winOk i p.rkey p.va p.len .read = true) (hroom : 0 < (s.qp i).cfg.respRes) :
    ∃ t, exec (.dockRead p) s = .next t ∧
      Out.rc i ((s.qp i).cxh false false false 0 (((s.qp i).rmsn + 1) % 2 ^ 24) 0) (.readResponse (s.winRead
        (p.rkey % 4096) p.va p.len)) ∈ t.out ∧ t.res = s.res ∧ t.mrd = s.mrd := by
  have h := nextOn_unpack hnext
  have hvalid := not_revoking_of_valid (winOk_unpack hok).1
  have hland : s.landed p = s := landed_of_not_write (by rw [hop]; decide)
  obtain ⟨u, x, harr, hdel⟩ := packet_delivers hnext (by rw [hop]; decide) (.inr hvalid) (intake_read hop hok h.msgs hroom)
    (.inr (.inr (by rw [hop]; decide)))
  have hlen : x.len = p.len := by
    rw [harr.msg]
    exact if_neg (by rw [hop]; decide)
  obtain ⟨c, k, n, hdeliver⟩ := deliver_read (harr.op.trans hop) (harr.mark_plain.trans h.plain)
  have hsends : Sends i (u.mark i x) _ := (Sends.sendRcAs (u.mark i x) 0 x.msn false
    (.readResponse ((u.mark i x).winRead (x.rkey % 4096) x.va x.len))).trans (.tally _ c k n)
  have hd := hdel _ hdeliver hsends.qp (fun _ => by rw [win_of_tug hsends.win, harr.state_of]; exact hvalid)
  refine ⟨_, if_pos hop, hd.out ?_, ?_, hd.mrd.trans (hsends.mrd.trans harr.mrd)⟩
  · rw [tally_out, ← harr.mark_cxh, ← harr.msn, ← harr.rkey, ← harr.va, ← hlen, ← harr.winRead_of hland]
    exact mem_sendRcAs _ _ _ _ _ _
  · rw [hd.res, hsends.res, mark_res, harr.res, hland]

/-! ## Atomics -/

/-- Eight bytes of a memory as a number. -/
def bankWord (t : Tab Byte) (a : Nat) : Nat := leVal ((List.range 8).map fun j => t.get (a + j))

theorem bankWord_lt (t : Tab Byte) (a : Nat) : bankWord t a < 2 ^ 64 := by
  have h := leVal_lt ((List.range 8).map fun j => t.get (a + j))
  rwa [List.length_map, List.length_range] at h

/-- An atomic on eight aligned bytes answers the old value and leaves the new one (R116). -/
theorem bankAtomic_aligned {t : Tab Byte} {a : Nat} (h : a % 8 = 0) (op : BankOp) (operand compare : Nat) :
    ∃ d, bankAtomic t a 8 op operand compare = some (d, bankWord t a) ∧
      bankWord d a = op.apply 64 (bankWord t a) operand compare % 2 ^ 64 := by
  have hlaid := map_get_foldl_zipIdx t a (leBytes 8 (op.apply 64 (bankWord t a) operand compare))
  rw [leBytes_length] at hlaid
  refine ⟨_, ?_, (congrArg leVal hlaid).trans (leVal_leBytes 8 _)⟩
  unfold bankAtomic
  rw [if_neg (by simp [h])]
  rfl

theorem leVal_winRead {s : State} {w : Nat} (hkind : (s.win w).kind = .bank) (va : Nat) :
    leVal (s.winRead w va 8) = bankWord s.brg.dock ((s.win w).base + va) := by
  simp only [State.winRead, hkind]
  rfl

/-- An atomic on aligned bytes of a bank window: it answers the old value and leaves the new one there (R70). -/
theorem winAtomic_aligned {s : State} {w va : Nat} (hkind : (s.win w).kind = .bank) (halign : ((s.win w).base + va) % 8 = 0)
    (op : PktOp) (operand compare : Nat) : ∃ d, s.winAtomic w va op operand compare =
      (s.updBrg fun g => { g with dock := d }, leVal (s.winRead w va 8)) ∧
      leVal ((s.updBrg fun g => { g with dock := d }).winRead w va 8) =
        BankOp.apply (if op = .fetchAdd then .add else .cswap) 64 (leVal (s.winRead w va 8)) operand compare % 2 ^ 64 := by
  obtain ⟨d, hatomic, hnew⟩ := bankAtomic_aligned (t := s.brg.dock) halign (if op = .fetchAdd then .add else .cswap)
    operand compare
  refine ⟨d, ?_, ?_⟩
  · rw [State.winAtomic, hatomic, leVal_winRead hkind]
  · rw [leVal_winRead (s := s.updBrg fun g => { g with dock := d }) hkind, leVal_winRead hkind]
    exact hnew

theorem dockAtomic_answers {p : Packet} {i : Nat} {s : State} (hnext : s.nextOn p i = true)
    (hop : p.op = .fetchAdd ∨ p.op = .compareSwap) (hok : s.winOk i p.rkey p.va 8 p.op = true) (hva : p.va % 8 = 0)
    (hbase : (s.win (p.rkey % 4096)).base % 8 = 0) (hroom : 0 < (s.qp i).cfg.respRes) :
    ∃ t, exec (.dockAtomic p) s = .next t ∧
      Out.rc i ((s.qp i).cxh false false false 0 (((s.qp i).rmsn + 1) % 2 ^ 24) 0) (.atomicResponse (leVal
        (s.winRead (p.rkey % 4096) p.va 8))) ∈ t.out ∧
      leVal (t.winRead (p.rkey % 4096) p.va 8) = (if p.op = .fetchAdd then (leVal (s.winRead (p.rkey % 4096)
        p.va 8) + p.operand) % 2 ^ 64 else if leVal (s.winRead (p.rkey % 4096) p.va 8) = p.compare then
        p.operand % 2 ^ 64 else leVal (s.winRead (p.rkey % 4096) p.va 8)) ∧
      t.res = s.res := by
  have h := nextOn_unpack hnext
  have hvalid := not_revoking_of_valid (winOk_unpack hok).1
  have hnot : p.op ≠ .send ∧ p.op ≠ .write ∧ p.op ≠ .other := by rcases hop with hop | hop <;> rw [hop] <;> decide
  have hland : s.landed p = s := landed_of_not_write hnot.2.1
  obtain ⟨u, x, harr, hdel⟩ := packet_delivers hnext hnot.2.2 (.inr hvalid) (intake_atomic hop hok hva h.msgs hroom)
    (.inr (.inr ⟨hnot.1, hnot.2.1⟩))
  have hargs : x.operand = p.operand ∧ x.compare = p.compare := by
    rw [harr.msg]
    exact ⟨rfl, rfl⟩
  obtain ⟨d, hatomic, hnew⟩ := winAtomic_aligned (s := u.mark i x) (w := p.rkey % 4096) (va := p.va)
    (by rw [harr.kind_of]; exact winOk_atomic hop hok) (by rw [harr.base_of]; omega) p.op p.operand p.compare
  rw [harr.winRead_of hland] at hatomic hnew
  rw [← harr.rkey, ← harr.va, ← harr.op, ← hargs.1, ← hargs.2] at hatomic
  have hdeliver := deliver_atomic (by rw [harr.op]; exact hop) (harr.mark_plain.trans h.plain) hatomic
  have hsends := Sends.sendRcAs (i := i) ((u.mark i x).updBrg fun g => { g with dock := d }) 0 x.msn false
    (.atomicResponse (leVal (s.winRead (x.rkey % 4096) x.va 8)))
  have hd := hdel _ hdeliver hsends.qp (fun _ => by rw [win_of_tug hsends.win]; exact (harr.state_of _).symm ▸ hvalid)
  refine ⟨_, if_pos hop, hd.out ?_, ?_, ?_⟩
  · rw [← harr.mark_cxh, ← harr.msn, ← harr.rkey, ← harr.va]
    exact mem_sendRcAs _ _ _ _ _ _
  · have hwin := win_of_tug hsends.win (p.rkey % 4096)
    rw [hd.memory, winRead_congr _ _ 8 hsends.res hsends.brg (by rw [hwin]) (by rw [hwin]), hnew]
    have hold : leVal (s.winRead (p.rkey % 4096) p.va 8) < 2 ^ 64 := by
      rw [leVal_winRead (winOk_atomic hop hok)]
      exact bankWord_lt _ _
    by_cases hadd : p.op = .fetchAdd
    · simp only [hadd, if_true, BankOp.apply, Nat.mod_mod]
    · simp only [hadd, if_false, BankOp.apply]
      split
      · rw [Nat.mod_mod]
      · rw [Nat.mod_eq_of_lt hold]
  · rw [hd.res, hsends.res, updBrg_res, mark_res, harr.res, hland]

end Sys2Proof.Machine

namespace Sys2Proof.Machine

/-! ## Records installed -/

section Install

variable {s t : State} {q w off : Nat}

/-- Installing changes staircases alone. -/
theorem install_frame (s : State) (q w off : Nat) :
    ∃ l, (s.install q w off).1 = s.updTug fun x => { x with stairs := l } := by
  have hself : ∃ l, s = s.updTug fun x => { x with stairs := l } := ⟨s.tug.stairs, rfl⟩
  unfold State.install
  dsimp only
  split
  · exact hself
  · split
    · exact ⟨_, rfl⟩
    · split
      · exact hself
      · split
        · exact hself
        · split
          · exact hself
          · split
            · exact hself
            · exact ⟨_, rfl⟩

/-- What is installed, and the answer, rest on the window's bytes and size, the staircases, the hosts of the queue pairs and
the hosts' allotments. -/
theorem install_congr (hstairs : t.tug.stairs = s.tug.stairs) (hhost : ∀ j, (t.qp j).host = (s.qp j).host)
    (hmrd : t.mrd = s.mrd) (hsize : (t.win w).size = (s.win w).size) (hread : ∀ a n, t.winRead w a n = s.winRead w a n) :
    (t.install q w off).1.tug.stairs = (s.install q w off).1.tug.stairs ∧ (t.install q w off).2 = (s.install q w off).2 := by
  have hfree : ∀ key, (t.dropStair q key).tug.stairs = (s.dropStair q key).tug.stairs := fun key => by
    simp only [State.dropStair, updTug_tug, hstairs]
  have hcount : ∀ key h, (t.dropStair q key).hostStairs h = (s.dropStair q key).hostStairs h := fun key h => by
    have hkeep : ∀ (v : State) (x : Stair), ((v.dropStair q key).qp x.qp).host = (v.qp x.qp).host := fun _ _ => rfl
    simp only [State.hostStairs, hfree, hkeep, hhost]
  have hadd : ∀ key y, ((t.dropStair q key).addStair y).tug.stairs =
      ((s.dropStair q key).addStair y).tug.stairs := fun key y => by
    simp only [State.addStair, updTug_tug, hfree]
  have hstair : ∀ key, t.stair q key = s.stair q key := fun key => by simp only [State.stair, hstairs]
  unfold State.install
  simp only [hread, hsize, hhost, hmrd, hfree, hcount, hstair]
  split
  · exact ⟨hstairs, rfl⟩
  · split
    · exact ⟨hfree _, rfl⟩
    · split
      · exact ⟨hstairs, rfl⟩
      · split
        · exact ⟨hstairs, rfl⟩
        · split
          · exact ⟨hstairs, rfl⟩
          · split
            · exact ⟨hstairs, rfl⟩
            · exact ⟨hadd _ _, rfl⟩

end Install

theorem mem_sendImm (s : State) (i v : Nat) (l : List Byte) : Out.rcMsg i (.sendImm v l) ∈ (s.sendImm i v l).out :=
  (Sends.sendOn (i := i) (s.emit (.rcMsg i (.sendImm v l))) l.length false none none).out.subset
    (List.mem_append_right _ (List.mem_singleton_self _))

section Acts

variable {s u : State} {i v : Nat} {p : Packet} {x : RxMsg}

/-- The COMMIT_TAG of a live window of the queue pair's host is found in the immediate of a WRITE that names it (R86). -/
structure Tagged (s : State) (i : Nat) (p : Packet) (v : Nat) : Prop where
  valid : (s.win (p.rkey % 4096)).state = .valid
  gen : (s.win (p.rkey % 4096)).gen = p.rkey / 4096
  host : (s.win (p.rkey % 4096)).host = (s.qp i).host
  tag : (s.win (p.rkey % 4096)).tag = bitsOf v 24 8

theorem Arrived.stair_of (h : Arrived s i p x u) : (u.mark i x).stair i v = s.stair i v := by
  rw [State.stair, mark_stairs, h.stairs]
  rfl

theorem Arrived.host_of (h : Arrived s i p x u) (j : Nat) : ((u.mark i x).qp j).host = (s.qp j).host := by
  by_cases hj : j = i
  · rw [hj, h.mark_qp, h.qp]
  · rw [State.mark, State.updMsg, qp_updQp_ne _ hj, h.other j hj]

theorem Arrived.arm_of (h : Arrived s i p x u) (hkey : s.stair i v = none) : (u.mark i x).arm i v = u.mark i x := by
  rw [State.arm, h.stair_of, hkey]

/-- The delivery of its immediate finds the window's tag. -/
theorem Arrived.finds_tag (h : Arrived s i p x u) (hop : p.op = .write) (htag : Tagged s i p v) :
    (decide (x.op = .write) && ((u.mark i x).win (x.rkey % 4096)).state != .dead &&
      ((u.mark i x).win (x.rkey % 4096)).gen == x.rkey / 4096 &&
      ((u.mark i x).win (x.rkey % 4096)).host == ((u.mark i x).qp i).host &&
      ((u.mark i x).win (x.rkey % 4096)).tag == bitsOf v 24 8) = true := by
  rw [h.host_of, h.rkey, h.mark_win, h.op, hop]
  simp [htag.valid, htag.gen, htag.host, htag.tag]

/-- An immediate that is no staircase's key and carries the tag of a STAIRS window installs (R86). -/
theorem Arrived.immediate_installs (h : Arrived s i p x u) (hop : p.op = .write) (hkey : s.stair i v = none)
    (htag : Tagged s i p v) (hkind : (s.win (p.rkey % 4096)).kind = .stairs) : (u.mark i x).immediate i x v =
      ((u.mark i x).install i (p.rkey % 4096) (bitsOf v 12 12 * 64)).1.sendImm i v
        (leBytes 4 ((u.mark i x).install i (p.rkey % 4096) (bitsOf v 12 12 * 64)).2) := by
  have hkind' : ((u.mark i x).win (x.rkey % 4096)).kind = .stairs := by rw [h.rkey, h.kind_of, hkind]
  rw [← h.rkey]
  unfold State.immediate
  simp only [h.arm_of hkey, h.finds_tag hop htag, hkind', and_self, if_true]

/-- One that carries the tag of a bound DATA window commits (R87). -/
theorem Arrived.immediate_commits (h : Arrived s i p x u) (hop : p.op = .write) (hkey : s.stair i v = none)
    (htag : Tagged s i p v) (hkind : (s.win (p.rkey % 4096)).kind = .data)
    (hbind : (s.win (p.rkey % 4096)).bind.isSome = true) : (u.mark i x).immediate i x v =
      (u.mark i x).commit i (p.rkey % 4096) x.va v x.acc x.frame := by
  have hkind' : ((u.mark i x).win (x.rkey % 4096)).kind = .data := by rw [h.rkey, h.kind_of, hkind]
  have hbind' : ((u.mark i x).win (x.rkey % 4096)).bind.isSome = true := by rw [h.rkey, h.mark_win, hbind]
  rw [← h.rkey]
  unfold State.immediate
  simp only [h.arm_of hkey, h.finds_tag hop htag, hkind', hbind', and_self, if_true, true_and, reduceCtorEq, if_false]

end Acts

/-- The record of a window is installed as the state before the packet would have installed it, and the answer leaves. -/
theorem Arrived.installs {s u : State} {i v : Nat} {p : Packet} {x : RxMsg} (h : Arrived s i p x u) (hop : p.op = .write)
    (hland : s.landed p = s) (hkey : s.stair i v = none) (htag : Tagged s i p v)
    (hkind : (s.win (p.rkey % 4096)).kind = .stairs) : ∃ l, (u.mark i x).immediate i x v =
      ((u.mark i x).updTug fun y => { y with stairs := l }).sendImm i v
        (leBytes 4 (s.install i (p.rkey % 4096) (bitsOf v 12 12 * 64)).2) ∧
      l = (s.install i (p.rkey % 4096) (bitsOf v 12 12 * 64)).1.tug.stairs := by
  obtain ⟨hstairs, hanswer⟩ := install_congr (t := u.mark i x) (q := i) (off := bitsOf v 12 12 * 64) h.stairs h.host_of h.mrd
    (by rw [h.mark_win]) (h.winRead_of hland (p.rkey % 4096))
  obtain ⟨l, hframe⟩ := install_frame (u.mark i x) i (p.rkey % 4096) (bitsOf v 12 12 * 64)
  refine ⟨l, ?_, ?_⟩
  · rw [h.immediate_installs hop hkey htag hkind, hanswer, hframe]
  · rw [← hstairs, hframe, updTug_tug]

theorem staircaseInstall_answers {p : Packet} {i v : Nat} {s : State} (hnext : s.nextOn p i = true) (hop : p.op = .write)
    (hlen : p.len = 0) (himm : p.imm = some v) (hpay : p.payload = []) (hkey : s.stair i v = none) (htag : Tagged s i p v)
    (hkind : (s.win (p.rkey % 4096)).kind = .stairs) (hbind : (s.win (p.rkey % 4096)).bind = none)
    (hzero : (s.install i (p.rkey % 4096) (bitsOf v 12 12 * 64)).2 = 0) :
    ∃ t, exec (.staircaseInstall p) s = .next t ∧
      t.tug.stairs = (s.install i (p.rkey % 4096) (bitsOf v 12 12 * 64)).1.tug.stairs ∧
      Out.rcMsg i (.sendImm v (leBytes 4 0)) ∈ t.out ∧ t.res = s.res := by
  have hvalid := not_revoking_of_valid htag.valid
  have hland : s.landed p = s := landed_of_nil hpay
  obtain ⟨u, x, harr, hdel⟩ := packet_delivers hnext (by rw [hop]; decide) (.inr hvalid)
    (intake_zero hop hlen (commitLike_of_unbound hbind)) (.inl hpay)
  have hdeliver := deliver_writeImm (u := u) (i := i) (harr.op.trans hop) (harr.imm.trans himm)
  obtain ⟨l, hacts, hl⟩ := harr.installs hop hland hkey htag hkind
  rw [hacts, hzero] at hdeliver
  have hsends := Sends.sendImm (i := i) ((u.mark i x).updTug fun y => { y with stairs := l }) v (leBytes 4 0)
  have hd := hdel _ hdeliver hsends.qp (fun _ => by rw [win_of_tug hsends.win]; exact (harr.state_of _).symm ▸ hvalid)
  refine ⟨_, if_pos ⟨hop, by rw [himm]; rfl, hkind⟩, ?_, hd.out (mem_sendImm _ _ _ _), ?_⟩
  · rw [hd.stairs, hsends.stairs, updTug_tug, hl]
  · rw [hd.res, hsends.res, updTug_res, mark_res, harr.res, hland]

/-! ## Blocks committed -/

/-- The firmware's staircase behind a commit changes staircases alone. -/
theorem firmStair_frame (s : State) (q key laddr len : Nat) :
    ∃ l, s.firmStair q key laddr len = s.updTug fun x => { x with stairs := l } := by
  unfold State.firmStair
  split
  · exact ⟨s.tug.stairs, rfl⟩
  · exact ⟨_, rfl⟩

/-- A commit of blocks within its window stands last among the queue's commits (R87). -/
theorem commit_admits {s : State} {q w va imm acc nsid slba : Nat} (frame : FrameInfo)
    (hbind : (s.win w).bind = some (nsid, slba)) (hn : bitsOf imm 0 12 ≠ 0)
    (hfits : (va / 2 ^ 24 * 4096 + bitsOf imm 12 12 + bitsOf imm 0 12) * 4096 ≤ (s.win w).size)
    (hsmall : (s.mrd.ns.get nsid).small = false) : ∃ l c, s.commit q w va imm acc frame =
      (s.updTug fun x => { x with stairs := l }).updQueue q (fun e => { e with commits := e.commits ++ [c] }) ∧
      (c.nsid, c.slba, c.nlb, c.commit) = (nsid, slba + (va / 2 ^ 24 * 4096 + bitsOf imm 12 12), bitsOf imm 0 12,
        some ⟨w, imm, acc⟩) := by
  unfold State.commit
  simp only [hbind, if_neg hn, if_neg (Nat.not_lt.mpr hfits), hsmall, Bool.false_eq_true, if_false]
  obtain ⟨l, hl⟩ := firmStair_frame s q imm (w * 2 ^ 52 + (va / 2 ^ 24 * 4096 + bitsOf imm 12 12) * 4096)
    (bitsOf imm 0 12 * 4096)
  rw [hl]
  exact ⟨l, _, rfl, by simp only [Nat.mul_one]⟩

theorem dockCommit_admits {p : Packet} {i v nsid slba : Nat} {s : State} (hnext : s.nextOn p i = true) (hop : p.op = .write)
    (hlen : p.len = 0) (himm : p.imm = some v) (hpay : p.payload = []) (hkey : s.stair i v = none) (htag : Tagged s i p v)
    (hkind : (s.win (p.rkey % 4096)).kind = .data) (hbind : (s.win (p.rkey % 4096)).bind = some (nsid, slba))
    (hwr : (s.win (p.rkey % 4096)).wr = true) (hva : p.va < (s.win (p.rkey % 4096)).size) (hn : bitsOf v 0 12 ≠ 0)
    (hfits : (p.va / 2 ^ 24 * 4096 + bitsOf v 12 12 + bitsOf v 0 12) * 4096 ≤ (s.win (p.rkey % 4096)).size)
    (hsmall : (s.mrd.ns.get nsid).small = false) : ∃ t, exec (.dockCommit p) s = .next t ∧
      (t.host.queue.get i).commits.length = (s.host.queue.get i).commits.length + 1 ∧ t.res = s.res ∧
      ((t.host.queue.get i).commits.getLast?.map fun c => (c.nsid, c.slba, c.nlb, c.commit)) = some (nsid, slba
        + (p.va / 2 ^ 24 * 4096 + bitsOf v 12 12), bitsOf v 0 12, some ⟨p.rkey % 4096, v, (s.win (p.rkey %
        4096)).commits⟩) := by
  have hvalid := not_revoking_of_valid htag.valid
  have hland : s.landed p = s := landed_of_nil hpay
  have hsome : (s.win (p.rkey % 4096)).bind.isSome = true := by rw [hbind]; rfl
  obtain ⟨u, x, harr, hdel⟩ := packet_delivers hnext (by rw [hop]; decide) (.inr hvalid)
    (intake_commit hop hlen htag.valid hwr hva) (.inl hpay)
  have hdeliver := deliver_writeImm (u := u) (i := i) (harr.op.trans hop) (harr.imm.trans himm)
  obtain ⟨l, c, hcommit, hc⟩ := commit_admits (s := u.mark i x) (q := i) (acc := x.acc) x.frame
    (by rw [harr.mark_win]; exact hbind) hn (by rw [harr.mark_win]; exact hfits) (by rw [mark_mrd, harr.mrd]; exact hsmall)
  rw [harr.immediate_commits hop hkey htag hkind hsome, harr.va, hcommit] at hdeliver
  have hd := hdel _ hdeliver (.refl _) (fun _ => by exact (harr.state_of _).symm ▸ hvalid)
  have hqueue : ((s.packet p).host.queue.get i).commits = (s.host.queue.get i).commits ++ [c] := by
    rw [hd.host, queue_updQueue_same, updTug_host, mark_host, harr.host]
  refine ⟨_, if_pos ⟨hop, by rw [himm]; rfl, hsome⟩, ?_, ?_, ?_⟩
  · rw [hqueue, List.length_append, List.length_singleton]
  · exact hd.res.trans (harr.res.trans (by rw [hland]))
  · rw [hqueue, List.getLast?_append_cons, List.getLast?_singleton, Option.map_some, hc, harr.acc]

/-- Settles O25: a packet that is a whole message and comes next is received in order (`packet_eq_receive`), placed alone on
its queue pair and delivered, after which what its operation did stands (`packet_delivers`). -/
theorem packetsOfReliableConnectionsArePlaced : Obligations.PacketsOfReliableConnectionsArePlaced := by
  refine ⟨?_, ?_, ?_, ?_, ?_, ?_, ?_⟩
  · intro p i s ⟨hnext, hop, himm, hcap, hpay⟩
    exact packetReceive_send hnext hop himm hcap hpay
  · intro p i s ⟨hnext, hop, hlen, himm, hpay⟩ ⟨hok, hkind⟩
    exact dockWrite_lays hnext hop hlen himm hpay hok hkind
  · intro p i s ⟨hnext, hop, hok, hroom⟩
    exact dockRead_answers hnext hop hok hroom
  · intro p i s ⟨hnext, hop, hok, hva, hbase, hroom⟩
    exact dockAtomic_answers hnext hop hok hva hbase hroom
  · intro p i s ⟨hnext, hop, hlen, himm, hpay, hwin⟩
    exact zeroLengthWrite_keeps hnext hop hlen himm hpay hwin
  · intro p i v s ⟨hnext, hop, hlen, himm, hpay, hkey⟩ ⟨hkind, hvalid, hgen, hhost⟩ ⟨htag, hbind, hzero⟩
    exact staircaseInstall_answers hnext hop hlen himm hpay hkey ⟨hvalid, hgen, hhost, htag⟩ hkind hbind hzero
  · intro p i v nsid slba s ⟨hnext, hop, hlen, himm, hpay, hkey⟩ ⟨hkind, hvalid, hgen, hhost⟩ ⟨htag, hbind, hwr, hva⟩
      ⟨hn, hfits, hsmall⟩
    exact dockCommit_admits hnext hop hlen himm hpay hkey ⟨hvalid, hgen, hhost, htag⟩ hkind hbind hwr hva hn hfits hsmall

end Sys2Proof.Machine
